-- ==== Sys2Proof/Word.lean ====
section
/-! DEFINITION. The word and byte types of the Melulo: registers are 64 bits wide (R390), every
memory is byte-addressed, and multi-byte fields are little-endian (00_scope.md, Numbers and units). -/

namespace Sys2Proof

/-- One device register (R390: every register is 64 bits wide). -/
abbrev Word := BitVec 64

/-- One byte of a memory, a frame or a descriptor. -/
abbrev Byte := BitVec 8

/-- A run of bytes in ascending address order. -/
abbrev Bytes := List Byte

/-- A sparse table: (key, entry) pairs with strictly rising keys and no entry equal to the value an
unlisted key reads as. -/
abbrev SMap (α : Type) := List (Nat × α)

end Sys2Proof
end

