-- ==== Sys2Proof/Syntax.lean ====
section
/-! DEFINITION. The commands the module takes from outside: one constructor per row of spec/opcode_table.json. An
operand names the unit, request or register the event is about, or carries the data that the world outside the block
supplies. The table gives no row any bits; indexes are bounded by the counts the chapters state. -/

namespace Sys2Proof

/-- What a memory read found: no error, a corrected one (R186), or an uncorrectable one (R187). -/
inductive MemRead where
  | clean | corrected | uncorrectable
  deriving DecidableEq, Repr

/-- The flits of a Seam replay (R10): those that failed their CRC, and those that the replay resends. -/
structure SeamFlits where
  failed : Nat
  resent : Nat
  deriving DecidableEq, Repr

/-- How the read of a state slot's home copy ended (R131). -/
inductive HomeRead where
  | read | tierTimeout | tierError
  deriving DecidableEq, Repr

/-- The agents that reach the register space (R391). -/
inductive Agent where
  | crown (core : Fin 8)
  | pcie | odsDebug | debugPort | cuff
  deriving DecidableEq, Repr

/-- The standard atomic operations of the A extension (R138, R151). -/
inductive AmoOp where
  | swap | add | xor | and | or | min | max | minu | maxu
  deriving DecidableEq, Repr

/-- Sample data that a port delivers: the bytes received, the port's own verdict on them (0, or a cause of R256), for a
picture its size, chroma sampling (0 one component, 1 4:2:0, 2 4:2:2, 3 4:4:4, 4 4:4:0), whether its samples have more than 8
bits, whether it is an IRAP picture (R243, R259) and its place in the stream's output order (R239), the tier status of cause
TIER, and the nanoseconds since the event that is stamped (R235: ETH and AUDIO). -/
structure SensorData where
  bytes : Bytes
  cause : Nat
  width : Nat
  height : Nat
  chroma : Nat
  deep : Bool
  irap : Bool
  order : Nat
  status : Nat
  age : Nat
  deriving DecidableEq, Repr

/-- The data of a text sample. -/
def SensorData.text (bs : Bytes) : SensorData :=
  { bytes := bs, cause := 0, width := 0, height := 0, chroma := 0, deep := false, irap := true, order := 0, status := 0, age := 0 }

/-- The text sample that the tokenizer finishes: its stream, and the tier status that reading it from the input pool met, 0 none
(R256). -/
structure TextRead where
  stream : Fin 48
  status : Nat
  deriving DecidableEq, Repr

/-- What a decoder produces from a coded picture of a stream: its samples, planar at the coded sampling as OUT_MODE 0 lays them
out (R241), the colour matrix that H.265's VUI signals (0 absent, 1 BT.601, 2 BT.709, 3 BT.2020 non-constant luminance) and
whether it signals full range; or a cause of R256 with, for cause TIER, the tier status. -/
structure DecodedPicture where
  cause : Nat
  status : Nat
  picture : Bytes
  colour : Nat
  full : Bool
  deriving DecidableEq, Repr

/-- The fields of a received gPTP announce that the best master clock algorithm compares (R273). -/
structure Announce where
  priority1 : Nat
  clockClass : Nat
  accuracy : Nat
  variance : Nat
  priority2 : Nat
  identity : Nat
  steps : Nat
  deriving DecidableEq, Repr

/-- An error record as its sender presents it to Cuff (R472, R519). -/
structure RecordIn where
  sev : Fin 4
  cls : Nat
  status : Nat
  block : Nat
  ctx : Option (Fin 256)
  unit : Nat
  detail : Nat
  deriving DecidableEq, Repr


/-- The commands of spec/opcode_table.json, one constructor per row; the docstring is the row's own summary and rule. -/
inductive Instr where
  /-- R10: A flit that fails its Seam CRC is replayed; the link's CRC, replay and delay counters are updated. -/
  | seamReplay (link : Fin 11) (flits : SeamFlits) (delayNs : Nat)
  /-- R11: A Seam link that cannot recover by replay takes the whole package to the safe state. -/
  | seamLinkFailure (link : Fin 11)
  /-- R50: A Gauntlet matrix or post-only tile (OPCODE 0x10) reaches dispatch, is checked, and starts running for its exact cost. -/
  | matrixTile (r : Nat) (part : Nat)
  /-- R56: A running tile finishes its cost in cycles; its accumulator is held, carried or passed to the post pipeline and written. -/
  | tileComplete (g : Fin 16)
  /-- R57: A tile still running 64 cycles after EST_CYCLES is stopped, counted and reported, and its request ends with CONTEXT_FAULT. -/
  | tileOverrun (g : Fin 16)
  /-- R96: A sliding-window convolution tile (OPCODE 0x30) is checked at dispatch and starts running. -/
  | convolutionTile (r : Nat) (part : Nat)
  /-- R106: A windowed or global pooling tile (OPCODE 0x34) is checked at dispatch and starts running. -/
  | poolingTile (r : Nat) (part : Nat)
  /-- R117: A recurrent scan tile (OPCODE 0x40) is checked at dispatch and runs its recurrence steps. -/
  | scanTile (r : Nat) (part : Nat)
  /-- R129: A swap-out finishes writing the committed bank and header home, and a waiting restore may start. -/
  | slotSwapOutDone (slot : Nat)
  /-- R129: A state-slot restore finishes; it verifies CHECK and STATUS, stages the slot, signals SYNC and lets the chunk dispatch. -/
  | slotRestoreDone (slot : Nat) (res : HomeRead)
  /-- R66: An attention call (OPCODE 0x20) is checked against its limits and sequence records and starts its work items. -/
  | attentionCall (r : Nat)
  /-- R71: One attention work item completes, and the next item may be dispatched or pre-emption may take place. -/
  | attWorkItemDone (p : Fin 4)
  /-- R77: An attention call ends; new keys are written and, on OK, the sequence records' NEXT_LAYER, PEND_LEN, TENT and TAG advance. -/
  | attentionCallEnd (p : Fin 4)
  /-- R79: A call that waited behind an earlier call on the same sequence is checked against the record as that call left it. -/
  | seqCallReleased (r : Nat)
  /-- R82: KV command INIT copies a template record, activates the sequence and allocates ring pages. -/
  | kvInit (r : Nat)
  /-- R82: KV command COMMIT moves COMMIT to VALUE and clears TAG when VALUE equals TENT. -/
  | kvCommit (r : Nat)
  /-- R85: KV command ROLLBACK discards tentative and pending appends and frees pages beyond TENT. -/
  | kvRollback (r : Nat)
  /-- R82: KV command TRUNCATE rolls back and then sets COMMIT and TENT to VALUE. -/
  | kvTruncate (r : Nat)
  /-- R82: KV command FREE returns every page of the sequence to the pool and frees its record. -/
  | kvFree (r : Nat)
  /-- R87: A ROUTE call (OPCODE 0x22) selects experts, computes gates, writes the dispatch table and gathers token rows. -/
  | route (r : Nat)
  /-- R89: A COMBINE call (OPCODE 0x23) weights and sums expert outputs back into token order. -/
  | combine (r : Nat)
  /-- R109: A crop-and-resize call (OPCODE 0x35) is checked and starts sampling its boxes on the sampler front. -/
  | cropAndResize (r : Nat)
  /-- R115: The sampler front finishes one box and either yields, moves to the next box or ends the call. -/
  | cropBoxDone
  /-- R146: A Finger launch (OPCODE 0x50) is checked against its limits at dispatch. -/
  | fingerLaunch (r : Nat)
  /-- R147: Once its Mittens are free and code and arguments are loaded, every Finger of the launch starts at ENTRY. -/
  | launchStart (r : Nat)
  /-- R138: A Finger executes one base RV32IMAFC, Zfh or vector instruction. -/
  | fingerInstruction (f : Fin 4096) (res : MemRead)
  /-- R140: An unordered vector reduction computes exactly as the ordered one, in ascending element order. -/
  | vfredusum (f : Fin 4096) (vd vs2 vs1 : Fin 32) (vm : Bool)
  /-- R151: LR loads a word and places a reservation on its aligned 32-bit word. -/
  | loadReserved (f : Fin 4096) (rd rs1 : Fin 32)
  /-- R151: SC stores only if the reservation still holds, and reports success. -/
  | storeConditional (f : Fin 4096) (rd rs1 rs2 : Fin 32)
  /-- R151: A standard AMO drains earlier stores and is performed indivisibly at the memory bank. -/
  | atomicMemoryOp (f : Fin 4096) (op : AmoOp) (rd rs1 rs2 : Fin 32)
  /-- R151: FENCE orders a Finger's earlier and later accesses as its predecessor and successor sets state. -/
  | fence (f : Fin 4096) (pred succ : Fin 16)
  /-- R142: FENCE.I has no effect, because instruction memory cannot be written. -/
  | fenceI (f : Fin 4096)
  /-- R153: XF.MERGE.W merges two sorted lists of 32-bit keys. -/
  | xfMergeW (f : Fin 4096) (rd rs1 rs2 : Fin 32)
  /-- R153: XF.UNION.W forms the union of two sorted lists of 32-bit keys. -/
  | xfUnionW (f : Fin 4096) (rd rs1 rs2 : Fin 32)
  /-- R153: XF.ISECT.W forms the intersection of two sorted lists of 32-bit keys. -/
  | xfIsectW (f : Fin 4096) (rd rs1 rs2 : Fin 32)
  /-- R153: XF.DIFF.W forms list A minus list B over 32-bit keys. -/
  | xfDiffW (f : Fin 4096) (rd rs1 rs2 : Fin 32)
  /-- R153: XF.MERGE.KV merges two sorted lists of key-value elements. -/
  | xfMergeKv (f : Fin 4096) (rd rs1 rs2 : Fin 32)
  /-- R153: XF.UNION.KV forms the union of two sorted key-value lists. -/
  | xfUnionKv (f : Fin 4096) (rd rs1 rs2 : Fin 32)
  /-- R153: XF.ISECT.KV forms the intersection of two sorted key-value lists. -/
  | xfIsectKv (f : Fin 4096) (rd rs1 rs2 : Fin 32)
  /-- R153: XF.DIFF.KV forms list A minus list B over key-value elements. -/
  | xfDiffKv (f : Fin 4096) (rd rs1 rs2 : Fin 32)
  /-- R154: XF.HPROBE looks a key up in a hash table and returns its value word's address or 0. -/
  | xfHprobe (f : Fin 4096) (rd rs1 rs2 : Fin 32)
  /-- R154: XF.HINSERT inserts a key and value into a hash table, or returns the existing slot. -/
  | xfHinsert (f : Fin 4096) (rd rs1 rs2 rs3 : Fin 32)
  /-- R155: XF.SEND places a message in a neighbour's inbox, stalling while it is full. -/
  | xfSend (f : Fin 4096) (rs1 rs2 : Fin 32)
  /-- R155: XF.TSEND sends a message if the inbox has room and reports whether it did. -/
  | xfTsend (f : Fin 4096) (rd rs1 rs2 : Fin 32)
  /-- R155: XF.RECV takes the oldest message from one inbox, stalling while it is empty. -/
  | xfRecv (f : Fin 4096) (rd rs1 : Fin 32)
  /-- R155: XF.MSGSTAT returns the occupancy of the Finger's four inboxes. -/
  | xfMsgstat (f : Fin 4096) (rd : Fin 32)
  /-- R152: XF.WAITMSG stalls until any inbox of the Finger is non-empty. -/
  | xfWaitmsg (f : Fin 4096)
  /-- R158: XF.BAR drains the Finger's stores and arrives at the Mitten barrier. -/
  | xfBar (f : Fin 4096)
  /-- R158: XF.GBAR drains the Finger's stores and arrives at the launch-wide barrier. -/
  | xfGbar (f : Fin 4096)
  /-- R157: XF.QPUSH pushes a value onto a Mitten work queue, stalling while it is full. -/
  | xfQpush (f : Fin 4096) (rs1 rs2 : Fin 32)
  /-- R157: XF.QPOP pops the oldest entry of a Mitten work queue, stalling while it is empty. -/
  | xfQpop (f : Fin 4096) (rd rs1 : Fin 32)
  /-- R150: XF.EXIT ends the Finger once its outstanding transfers and stores have drained. -/
  | xfExit (f : Fin 4096)
  /-- R159: XF.XFER starts a block transfer to or from the unified range and returns a ticket. -/
  | xfXfer (f : Fin 4096) (rd rs1 : Fin 32)
  /-- R159: XF.XWAIT waits until the named transfer ticket is idle. -/
  | xfXwait (f : Fin 4096) (rs1 : Fin 32)
  /-- R159: XF.XTEST reports whether the named transfer ticket is idle. -/
  | xfXtest (f : Fin 4096) (rd rs1 : Fin 32)
  /-- R152: XF.AMOADD.F atomically adds an FP32 value to a memory word. -/
  | xfAmoaddF (f : Fin 4096) (rd rs1 rs2 : Fin 32)
  /-- R152: XF.AMOMIN.F atomically takes the FP32 minimum of a memory word and a register. -/
  | xfAmominF (f : Fin 4096) (rd rs1 rs2 : Fin 32)
  /-- R152: XF.AMOMAX.F atomically takes the FP32 maximum of a memory word and a register. -/
  | xfAmomaxF (f : Fin 4096) (rd rs1 rs2 : Fin 32)
  /-- R152: XF.AMOADD.H2 atomically adds two FP16 halves into a memory word. -/
  | xfAmoaddH2 (f : Fin 4096) (rd rs1 rs2 : Fin 32)
  /-- R152: XF.AMOINCS atomically increments a memory word if it is below a bound. -/
  | xfAmoincs (f : Fin 4096) (rd rs1 rs2 : Fin 32)
  /-- R152: XF.AMOCAS atomically compares a memory word and swaps in a new value on equality. -/
  | xfAmocas (f : Fin 4096) (rd rs1 rs2 rs3 : Fin 32)
  /-- R155: A Finger stalled on a full or empty inbox or work queue resumes when room or data appears. -/
  | stallResume (f : Fin 4096)
  /-- R158: A Mitten or launch-wide barrier releases once every non-exited Finger has arrived. -/
  | barrierRelease (r : Nat) (m : Option (Fin 64))
  /-- R157: A drained Mitten queue makes every waiting XF.QPOP return 0xFFFF_FFFF. -/
  | queueDrained (m : Fin 64) (q : Fin 16)
  /-- R160: A Finger transfer completes and its ticket becomes idle, or a tier failure ends the launch. -/
  | transferDone (f : Fin 4096) (ticket : Fin 8) (res : MemRead)
  /-- R150: A Finger in XF.EXIT finishes draining and exits. -/
  | exitDrainDone (f : Fin 4096)
  /-- R161: All non-exited Fingers stalled for FNG_STALL_LIMIT cycles end the launch with fault cause STALL. -/
  | stallLimit (r : Nat)
  /-- R161: A launch that runs BUDGET_CYCLES without every Finger exiting ends with fault cause BUDGET. -/
  | launchBudget (r : Nat)
  /-- R172: UMR command MAP allocates home frames for unmapped pages and sets every ZERO bit. -/
  | umrMap (r : Nat)
  /-- R172: UMR command UNMAP blocks new accesses to the pages and waits for their transfers in progress. -/
  | umrUnmap (r : Nat)
  /-- R172: After the transfers in progress end, UNMAP frees both frames, discards dirty copies and trims flash blocks. -/
  | unmapFramesFreed (r : Nat)
  /-- R172: UMR command REHOME writes back dirty blocks and starts copying the home to the new tier. -/
  | umrRehome (r : Nat)
  /-- R172: A REHOME copy finishes and the old home frame is freed. -/
  | rehomeCopyDone (r : Nat) (page : Nat)
  /-- R172: UMR command PREFETCH fetches non-resident blocks of the range into upper frames. -/
  | umrPrefetch (r : Nat)
  /-- R172: UMR command EVICT writes back dirty blocks, drops blocks and frees empty upper frames. -/
  | umrEvict (r : Nat)
  /-- R172: UMR command FLUSH writes back dirty blocks, which stay resident and clean. -/
  | umrFlush (r : Nat)
  /-- R174: UMR command QUERY writes one page record per page of the range. -/
  | umrQuery (r : Nat)
  /-- R178: A tile-block fetch lands, the block becomes resident, and accesses waiting on it proceed. -/
  | blockFetchDone (page : Nat) (block : Fin 32) (res : MemRead)
  /-- R179: A started fetch whose source tier has not delivered within its limit fails with TIER_TIMEOUT and frees its channel. -/
  | fetchTimeout (page : Nat) (block : Fin 32)
  /-- R183: An access that has waited beyond its tier's timeout ends with TIER_TIMEOUT. -/
  | accessTimeout (r : Nat) (part : Nat) (page : Nat) (block : Fin 32)
  /-- R170: A dirty block's write-back completes, and the frame it held may be reused. -/
  | writebackDone (page : Nat) (block : Fin 32) (ok : Bool)
  /-- R185: The patrol scrub reads HBM3 and LPDDR5X and writes corrected data back. -/
  | patrolScrub (page : Nat) (block : Fin 32) (upper : Bool) (res : MemRead)
  /-- R190: The translation layer relocates an erase block whose data reached its age or read-disturb limit. -/
  | flashRelocate (eraseFails : Bool)
  /-- R175: The persistent mapping table has loaded after reset, and UMR_STATE reads running. -/
  | mappingTableLoaded
  /-- R195: A write of a new tail to a ring's doorbell word is accepted or discarded. -/
  | doorbell (ring : Fin 16384) (tail : BitVec 32)
  /-- R199: The scheduler reads and checks the next descriptor of a ring and accepts it, advancing the head. -/
  | requestAccept
  /-- R209: A request whose waits are all satisfied is placed and dispatched to its engine. -/
  | requestDispatch (r : Nat)
  /-- R201: A stage command (OPCODE 0x08) moves bytes between the unified range and a Gauntlet buffer. -/
  | stage (r : Nat) (part : Nat) (res : MemRead)
  /-- R201: A stage or copy transfer completes, letting later commands of its part proceed. -/
  | stageDone (r : Nat) (part : Nat) (idx : Nat)
  /-- R200: A COPY command moves bytes between two unified-range addresses. -/
  | copy (r : Nat) (part : Nat) (res : MemRead)
  /-- R230: A cancel command (0x0C) cancels every covered request of its context that carries the tag. -/
  | schedCancel (r : Nat)
  /-- R199: A no-operation command (0x0D) completes without running any engine. -/
  | schedNoop (r : Nat)
  /-- R208: A register write to SYN_VALUE sets a sync object by the SET rule. -/
  | synValueWrite (n : Fin 8192) (value : BitVec 64)
  /-- R220: At START minus 8 µs, best-effort dispatch stops on the slot's units and running best-effort work is pre-empted. -/
  | slotLead (n : Fin 256)
  /-- R219: A cadence slot opens, signals its sync object and dispatches waiting requests of its context. -/
  | slotStart (n : Fin 256)
  /-- R219: A cadence slot ends at START plus LEN, and best-effort work and Gusset jobs are considered again. -/
  | slotEnd (n : Fin 256)
  /-- R226: A cadence major frame starts, applying time-base steps and pending table switches. -/
  | frameBoundary
  /-- R225: Setting SWITCH in CAD_CTRL requests a table switch at the next frame boundary. -/
  | cadSwitch
  /-- R221: A pre-empted Gauntlet finishes parking its held bank in the swap store and is released. -/
  | bankParkDone (g : Fin 16)
  /-- R222: A parked part's Gauntlet leaves every claiming slot and lead, and the bank restore starts. -/
  | partResume (g : Fin 16)
  /-- R222: A parked bank has been restored and the part's next command is dispatched. -/
  | bankRestoreDone (g : Fin 16)
  /-- R228: The last record of a torn-down context is written and the context becomes FAULTED. -/
  | teardownDone (c : Fin 256)
  /-- R229: RESET written to QUE_CTX_CTRL discards a FAULTED context's queued descriptors and returns it to IDLE. -/
  | contextReset (c : Fin 256)
  /-- R232: A read of QUE_CTX_EVENT returns and removes the oldest event-queue entry. -/
  | ctxEventRead (c : Fin 256)
  /-- R235: A CSI-2 frame-start packet arrives and the sample's source stamp is taken. -/
  | csiFrameStart (str : Fin 48)
  /-- R242: A CSI-2 frame end completes a sample, which is accepted into the pipeline's input pool. -/
  | csiFrameEnd (str : Fin 48) (sample : SensorData)
  /-- R235: An I²S/TDM block of BLOCK_FRAMES frames completes and becomes a stamped sample. -/
  | audioBlock (str : Fin 48) (sample : SensorData)
  /-- R235: A data-ready edge is stamped and starts an SPI read transaction. -/
  | spiDataReady (str : Fin 48)
  /-- R237: An SPI read transaction completes and its data is accepted as a sample. -/
  | spiTransactionDone (str : Fin 48) (sample : SensorData)
  /-- R233: An Ethernet sensor frame or reassembled coded picture reaches the Visor as a sample. -/
  | ethSensorSample (str : Fin 48) (sample : SensorData)
  /-- R241: A decoder finishes a picture and writes it, and its reduced picture, to the work region. -/
  | pictureDecoded (str : Fin 48) (pic : DecodedPicture)
  /-- R249, R256: The tokenizer finishes converting a text sample to token ids, or meets a tier status on the input pool. -/
  | textTokenized (str : TextRead)
  /-- R253: BATCH_TIMEOUT_US after its first placement, the open batch closes. -/
  | batchTimeout (p : Fin 16)
  /-- R253: A closed batch whose samples are complete is written to an output slot and OUT_SYNC is signalled. -/
  | batchEmit (p : Fin 16)
  /-- R257: A stopping pipeline has emitted its batches before the cut, writes the stop record and becomes STOPPED. -/
  | pipelineStopped (p : Fin 16)
  /-- R259: PIPE_CTL RESTART discards the skipped samples and starts replaying into a new batch. -/
  | pipeRestart (r : Nat)
  /-- R259: The last replayed sample is placed, the pipeline is RUNNING and the RESTART ends with OK. -/
  | restartReplayDone (p : Fin 16)
  /-- R257: PIPE_CTL STOP stops a running pipeline with cause 0x00 after its open batch. -/
  | pipeStop (r : Nat)
  /-- R253: PIPE_CTL FLUSH closes the pipeline's open batch. -/
  | pipeFlush (r : Nat)
  /-- R244: An ROI_SET command installs a stream's ROI list for pictures stamped after it. -/
  | roiSet (r : Nat)
  /-- R260: A TEXT command submits a text sample to a HOST stream and writes its tag. -/
  | text (r : Nat)
  /-- R248: DICT_LOAD copies and checks a dictionary image into a tokenizer bank not in use. -/
  | dictLoad (r : Nat)
  /-- R253: A write to VIS_PIPE_RELEASE returns output slots to the pipeline. -/
  | visPipeRelease (p : Fin 16) (count : BitVec 8)
  /-- R234: Setting ENABLE in VIS_STR_CFG binds a stream context, or is refused with BIND, CAPACITY or SHAPE. -/
  | streamEnable (str : Fin 48) (value : BitVec 64)
  /-- R251: Setting ENABLE in VIS_PIPE_CFG starts a pipeline after its shape and item checks. -/
  | pipelineEnable (p : Fin 16) (value : BitVec 64)
  /-- R270: An enabled GPIO edge is stamped on its time base and entered in the edge FIFO. -/
  | edgeStamp (gpio : Fin 32) (rising : Bool)
  /-- R270: A read of TB_EDGE_A removes the oldest edge entry and latches its seconds. -/
  | tbEdgeRead
  /-- R288: A read of TB_NOW_A returns the base's value and latches its seconds in TB_NOW_B. -/
  | tbNowRead (b : Fin 4)
  /-- R271: A time-triggered output channel drives its next edge at START plus k times PERIOD. -/
  | outputEdge (ch : Fin 40)
  /-- R272: An armed compare unit reaches its target, sets FIRED and may signal a sync object or raise capture. -/
  | compareFire (k : Fin 16)
  /-- R272: Changing a compare unit's EN from 0 to 1 arms it and clears FIRED. -/
  | compareArm (k : Fin 16) (value : BitVec 64)
  /-- R272: A write to TB_CMP_TARGET stores the target and re-arms an enabled unit. -/
  | compareTargetWrite (k : Fin 16) (value : BitVec 64)
  /-- R267: STEP in TB_CMD applies the signed offset to a time base, or is refused. -/
  | tbStep (b : Fin 4) (allowJump : Bool)
  /-- R267: SET in TB_CMD applies an absolute value to a time base, or is refused. -/
  | tbSet (b : Fin 4) (allowJump : Bool)
  /-- R267: ALLOW_JUMP in TB_CMD permits the next accepted step to exceed the jump limit. -/
  | tbAllowJump (b : Fin 4)
  /-- R274: A gPTP sync is received and the servo corrects the slave base's rate and phase. -/
  | gptpSyncRx (inst : Fin 2) (offsetNs : Int) (rate : Nat) (step : Bool)
  /-- R273: A gPTP announce is received and the best master clock algorithm runs. -/
  | gptpAnnounceRx (inst : Fin 2) (port : Fin 6) (msg : Announce)
  /-- R273: A peer-to-peer delay measurement exchange is made on a port. -/
  | gptpPdelay (port : Fin 6) (t1 t2 t3 t4 : Nat)
  /-- R273: A master instance sends a two-step sync at its sync interval. -/
  | gptpSyncTx (inst : Fin 2)
  /-- R277: An ALIGN command estimates each selected channel at one instant and writes the aligned output. -/
  | align (r : Nat)
  /-- R276: A PUSH command delivers stamped samples to an align channel. -/
  | push (r : Nat)
  /-- R282: A TRACK_UPDATE predicts tracks, gates and associates detections, updates, births and deletes tracks. -/
  | trackUpdate (r : Nat)
  /-- R286: A TRACK_READ writes the header and the record of every occupied track slot. -/
  | trackRead (r : Nat)
  /-- R286: RESET with OP 1 clears the track table. -/
  | trackTableClear (r : Nat)
  /-- R280: RESET with OP 2 re-baselines a channel's drift monitor. -/
  | rebase (r : Nat)
  /-- R275: Enabling an align channel binds it, or is refused with BIND when bases differ. -/
  | atuChannelEnable (ch : Fin 64) (value : BitVec 64)
  /-- R296: A write to a Knuckle input latch makes the input present and may make a loop ready. -/
  | knkLatchWrite (e : Fin 4) (latch : Fin 1024) (value : BitVec 32)
  /-- R295: A loop's sample window opens; a loop with no measurements becomes ready. -/
  | sampleBoundary (e : Fin 4) (l : Fin 64)
  /-- R298: The engine starts the highest-priority ready loop's compute. -/
  | loopComputeStart (e : Fin 4)
  /-- R290: A loop compute ends with its outputs limited, its state updated and its outputs emitted. -/
  | loopComputeDone (e : Fin 4) (l : Fin 64)
  /-- R297: A sample window ends without the loop becoming ready, and its MISS_POLICY applies. -/
  | sampleMiss (e : Fin 4) (l : Fin 64)
  /-- R304: COMMIT in KNK_LOOP_CTRL copies the loop's shadow registers into a pending set. -/
  | knkCommit (e : Fin 4) (l : Fin 64)
  /-- R306: A Knuckle LOAD (0xA0) writes coefficient words from the unified range. -/
  | knkLoad (r : Nat)
  /-- R306: A Knuckle READ (0xA1) copies coefficient words out to the unified range. -/
  | knkRead (r : Nat)
  /-- R305: A register write to a coefficient word is applied, or refused when the word is in use. -/
  | coeffWordWrite (e : Fin 4) (n : Fin 65536) (value : BitVec 64)
  /-- R300: Setting ENABLE in KNK_LOOP_CFG starts a loop, or is refused for load, pair or range. -/
  | loopEnable (e : Fin 4) (l : Fin 64) (value : BitVec 64)
  /-- R310: A write of 1 to TRIGGER triggers the engine's one-shot trace. -/
  | traceTrigger (e : Fin 4)
  /-- R310: A trace write that meets a tier failure stops the trace with TRC_ERR. -/
  | traceWriteFail (e : Fin 4)
  /-- R320: A linear-solve job (0x70) is checked, predicted and then assembles, factors, solves and refines. -/
  | gussetLinear (r : Nat)
  /-- R321: A QP job (0x71) is checked, predicted and then assembles, factors the KKT matrix and iterates ADMM. -/
  | gussetQp (r : Nat)
  /-- R315: Assembler micro-op COPY copies or accumulates a block into the store. -/
  | microopCopy (u : Fin 2)
  /-- R315: Assembler micro-op SCALE scales a block by alpha, optionally accumulating. -/
  | microopScale (u : Fin 2)
  /-- R315: Assembler micro-op ADD forms s plus alpha times s2. -/
  | microopAdd (u : Fin 2)
  /-- R315: Assembler micro-op TRANSPOSE transposes a block, optionally accumulating. -/
  | microopTranspose (u : Fin 2)
  /-- R328: The effective deadline arrives during a job, which ends with DEADLINE or DEADLINE_FACTOR. -/
  | gussetDeadline (u : Fin 2) (steps : Option Nat)
  /-- R329: A phase running 256 cycles beyond its cost is stopped and the job ends with CONTEXT_FAULT. -/
  | gussetOverrun (u : Fin 2)
  /-- R325: A job reaches its outcome, writes its result record and ends with its status. -/
  | gussetJobEnd (u : Fin 2)
  /-- R345: A PLAN command (0x80) is checked at dispatch and waits for a place in the growth engine. -/
  | plan (r : Nat)
  /-- R333: A waiting PLAN takes a free place in the growth engine and checks its start and goal. -/
  | planHeld
  /-- R333: A 50 µs quantum ends and the next held request takes the growth engine. -/
  | quantumEnd
  /-- R343: A collision check of an edge finishes on its epoch and growth, search or shortcutting continues. -/
  | edgeCheckDone (r : Nat)
  /-- R353: BUDGET_US runs out and the PLAN ends with TIMEOUT and its best partial path. -/
  | planBudgetExpired (r : Nat)
  /-- R336: A MODEL_LOAD (0x81) reads, checks and derives a robot model into a slot. -/
  | modelLoad (r : Nat)
  /-- R339: A MAP_UPDATE (0x82) builds a new map epoch by copy-on-write from the leaf records. -/
  | mapUpdate (r : Nat)
  /-- R339: A map update's last record is applied and the new epoch is committed as the newest. -/
  | epochCommit
  /-- R358: A frame received on a switch port is filtered, policed and forwarded by 802.1Q and TSN rules. -/
  | frameRx (port : Fin 10) (frame : Bytes)
  /-- R365: A process-data input frame is checked for node and sequence and accepted or discarded. -/
  | pdInputFrame (port : Fin 10) (frame : Bytes)
  /-- R367: OUT_HOLD_NS after the first write, the output frame is sent with held values and STALE set. -/
  | outHoldExpiry (n : Fin 1024)
  /-- R363: A node that sent no valid input frame for TIMEOUT_US becomes LOST. -/
  | nodeTimeout (n : Fin 1024)
  /-- R360: Setting NODE_ENABLE on a roster entry enables it, or is refused with ROSTER. -/
  | nodeEnable (n : Fin 1024) (enable : Bool)
  /-- R359: A gate control cycle starts, making a pending administrative list operational. -/
  | gclCycleStart (port : Fin 6)
  /-- R359: A gate control list interval ends and the next gate states take effect. -/
  | gclEntryExpiry (port : Fin 6)
  /-- R368: The Melulo sends a BEACON that starts a PLCA cycle on a segment. -/
  | plcaBeacon (seg : Fin 4)
  /-- R369: In its own transmit opportunity the Melulo sends up to 1 + MAX_BC ready frames. -/
  | plcaOpportunity (seg : Fin 4)
  /-- R370: A physical collision is counted and the frame retried. -/
  | plcaCollision (seg : Fin 4)
  /-- R370: A transmission outside its sender's opportunity is counted and MISCONFIG set. -/
  | outOfSlot (seg : Fin 4)
  /-- R370: A BEACON from another node is counted and reported to Cuff. -/
  | beaconConflict (seg : Fin 4)
  /-- R370: A symbol error outside a frame is counted, and excess noise sets NOISY. -/
  | segmentNoise (seg : Fin 4)
  /-- R370: A segment frame with an FCS or alignment error is discarded and counted. -/
  | fcsError (seg : Fin 4)
  /-- R370: A receive carrier longer than JABBER_US is discarded and JABBER set. -/
  | rxJabber (seg : Fin 4)
  /-- R370: The PHY jabber timer cuts the Melulo's transmission and disables its transmitter for 1 ms. -/
  | txJabberCut (seg : Fin 4)
  /-- R370: One millisecond after a jabber cut, the segment transmitter is enabled again. -/
  | txReenable (seg : Fin 4)
  /-- R371: Every TSYNC_MS the Melulo broadcasts a TYPE 3 time frame on each segment. -/
  | tsyncFrame (seg : Fin 4)
  /-- R384: An ODS READ returns a fixed-size entry's whole value. -/
  | odsRead (port : Fin 7) (src : Nat) (dgram : Bytes)
  /-- R385: An ODS WRITE is checked in order and applied to a fixed-size entry. -/
  | odsWrite (port : Fin 7) (src : Nat) (dgram : Bytes)
  /-- R384: An ODS READ_BLOCK serves one piece of a variable-size entry from its capture. -/
  | odsReadBlock (port : Fin 7) (src : Nat) (dgram : Bytes)
  /-- R373: An ODS WRITE_BLOCK takes one piece, applying the entry when the LAST piece arrives. -/
  | odsWriteBlock (port : Fin 7) (src : Nat) (dgram : Bytes)
  /-- R384: A READ_BLOCK capture is released 1 s after its last piece was served. -/
  | odsCaptureRelease (host : Fin 8)
  /-- R374: A kept ODS response is dropped 5 s after it was first sent. -/
  | odsResponseExpiry (host : Fin 8)
  /-- R372: The Crown answers an ARP request for its address. -/
  | arpRequest (port : Fin 6) (frame : Bytes)
  /-- R372: The Crown answers an ICMP echo request. -/
  | icmpEcho (port : Fin 6) (frame : Bytes)
  /-- R518: A PCIe access through BAR2 or an inbound window is served as a unified-range access. -/
  | pcieInboundAccess (window : Fin 9) (offset : Nat) (write : Bool) (data : Bytes)
  /-- R388: STORE_CMD 1 captures every persistent entry and starts writing the stored set to flash. -/
  | store
  /-- R388: STORE_CMD 2 starts erasing the stored set. -/
  | storeErase
  /-- R388: A store or erase finishes and STORE_STATE reads idle or failed. -/
  | storeDone (ok : Bool)
  /-- R414: A read of DBG_DATA performs one 8-byte register read at DBG_ADDR. -/
  | dbgDataRead (host : Fin 8)
  /-- R414: A write of DBG_DATA performs one 8-byte register write at DBG_ADDR. -/
  | dbgDataWrite (host : Fin 8) (value : BitVec 64)
  /-- R393: A write to a register with no row of its own is applied by its class, RWL shadow or RWQ rule. -/
  | registerWrite (agent : Agent) (addr : Nat) (size : Nat) (value : BitVec 64)
  /-- R399: A bit-alias write acts on one bit of a system-area register. -/
  | bitAliasWrite (agent : Agent) (addr : Nat) (value : BitVec 64)
  /-- R401: A block's signature sweep completes and is compared with its reference. -/
  | signatureSweepEnd (k : Fin 117)
  /-- R406: SNAP in CFG_CTRL copies a block's counters to its holding area. -/
  | snap (k : Fin 117)
  /-- R402: COMMIT in CFG_CTRL sets COMMIT_PENDING so the next clean sweep becomes the reference. -/
  | commit (k : Fin 117)
  /-- R406: SNAP_ALL in CFG_GLOBAL_CTRL snapshots every block in the same cycle. -/
  | snapAll
  /-- R402: COMMIT_ALL commits every block's signature reference at once. -/
  | commitAll
  /-- R402: A write of CFG_SIG_REF sets the reference directly and cancels a pending commit. -/
  | cfgSigRefWrite (k : Fin 117) (value : BitVec 32)
  /-- R417: Regulators report power good, and a power-on reset and boot begin. -/
  | powerGood (recov : Bool)
  /-- R503: PORST_N held low for 10 µs begins a power-on reset. -/
  | porst
  /-- R503: WARM_RST_N held low for 1 µs begins a warm reset. -/
  | warmRst
  /-- R417: Writing 0x5752 to RESET_CMD schedules a warm reset 10 ms after the response. -/
  | resetCmd (value : BitVec 16)
  /-- R417: Ten milliseconds after a RESET_CMD response, the warm reset begins. -/
  | resetCmdDelay (recov : Bool)
  /-- R421: A boot stage finishes loading, its digest is checked and it is started. -/
  | stageLoaded (stage : Fin 5) (readOk : Bool)
  /-- R422: Once ODS answers, the ROM raises the fused security version to an ADVANCE image's SEC_VERSION. -/
  | secVersionAdvance
  /-- R425: In recovery the device broadcasts HELLO every second. -/
  | hello
  /-- R425: A host's OFFER starts a recovery exchange and the device sends GETs. -/
  | offer (port : Fin 6) (src : Nat) (msg : Bytes)
  /-- R425: A recovery DATA message answers an outstanding GET. -/
  | data (port : Fin 6) (src : Nat) (msg : Bytes)
  /-- R425: An unanswered GET is resent after 100 ms, and 50 sends abandon the exchange. -/
  | getResend
  /-- R426: Ten milliseconds after DONE with result 0, a warm reset is performed. -/
  | recoveryReset (recov : Bool)
  /-- R427: A block write to FW_STAGE stores a new image in staging frames. -/
  | fwStage (host : Fin 8) (offset : Nat) (data : Bytes) (last : Bool)
  /-- R427: Writing 1 to FW_APPLY starts verifying the staged image. -/
  | fwApply
  /-- R427: Verification of the staged image ends, failing or starting the flash write. -/
  | fwVerifyDone
  /-- R427: The new image is written with the header last and FW_STATE reads written. -/
  | fwWriteDone
  /-- R423: A write to OWNER_FUSE fuses an owner key hash once. -/
  | ownerFuse (hash : Bytes)
  /-- R431: A 48-byte NONCE write starts building an attestation report. -/
  | nonce (host : Fin 8) (nonce : Bytes)
  /-- R432: The attestation report is captured and signed, and ATTEST_STATE reads ready. -/
  | reportReady (host : Fin 8)
  /-- R434: A write to a calibration entry replaces the entry and is written to flash. -/
  | calWrite (index : Nat) (sub : Nat) (data : Bytes)
  /-- R435: Each powered second adds to the temperature and input-voltage bins of the lifetime log. -/
  | lifetimeSecond (mv : Nat)
  /-- R436: Every 600 powered seconds, the lifetime log is written to one of its two copies. -/
  | logWrite (ok : Bool)
  /-- R453: Every 10 µs Brim compares the governing power with CAP_W and lowers or raises Palm points. -/
  | capPeriod (measured : Nat) (acts : List Nat)
  /-- R444: After its dwell of 256 cycles a domain's divider takes its next step. -/
  | dividerStep (domain : Fin 26)
  /-- R450: A Palm's VDD_PALM reaches its new voltage during an operating-point transition. -/
  | railSlewDone (p : Fin 4)
  /-- R457: A droop detector sees the rail fall and the Palm's clocks stretch to half frequency. -/
  | droopDetect (p : Fin 4)
  /-- R457: Every detector is again within limits and the stretch ends. -/
  | droopClear (p : Fin 4)
  /-- R457: A droop lasting over 2 µs lowers the Palm one point and sets DROOP_LONG. -/
  | droopLong (p : Fin 4)
  /-- R458: Every 50 µs Brim reads the 64 junction sensors and starts or ends throttling. -/
  | thermalSample (temps : List Int)
  /-- R458: Every 100 µs a throttled Palm is lowered one more point. -/
  | throttleStep (p : Fin 4)
  /-- R459: One millisecond after a thermal shutdown, every rail but standby is turned off. -/
  | railsOff
  /-- R442: XA leaves its range or a PLL loses lock, and the fault is handled by its kind. -/
  | clockFault (pll : Fin 7)
  /-- R442: A NET, AUD or CAM PLL locks again after a loss of lock. -/
  | pllRelock (pll : Fin 7)
  /-- R446: A write to BRM_GATE turns a clock gate on, or turns it off unless refused. -/
  | gateWrite (n : Fin 256) (value : BitVec 64)
  /-- R447: With AUTO set, an idle unit's clock stops within 32 cycles. -/
  | idleClockStop (n : Fin 256)
  /-- R474: An error record arrives at Cuff and is queued, merged or lost. -/
  | errorRecord (rec : RecordIn)
  /-- R474: Cuff handles the oldest unhandled record of the highest severity by applying its class action. -/
  | recordHandle
  /-- R465: A lockstep comparator mismatch puts the package into the safe state by hardware. -/
  | lockstepMismatch
  /-- R465: The Cuff supply leaving its range puts the package into the safe state by hardware. -/
  | cuffSupplyFault
  /-- R465: A Cuff watchdog not serviced for FTTI_MS ÷ 4 puts the package into the safe state. -/
  | watchdogExpiry
  /-- R469: A SAFE_IN channel reading stop trips SAFE_IN_PAIRS. -/
  | safeInTrip (ch : Bool)
  /-- R469: SAFE_IN channels disagreeing beyond SAFE_IN_DISC_MS set DISCREPANT. -/
  | safeInDiscrepant
  /-- R468: A SAFE_STOP read-back differing from its command for 100 µs sends a fatal record. -/
  | stopReadback (ch : Fin 4)
  /-- R466: STOP written to CUF_STOP_CTRL puts the named pairs into their stop state. -/
  | stop (value : BitVec 64)
  /-- R467: RELEASE with its key releases the named pairs, or is refused. -/
  | release (value : BitVec 64)
  /-- R491: Writing 0x524C to the STOP_RELEASE entry releases both pairs under the release rule. -/
  | stopRelease (value : BitVec 16)
  /-- R490: LOCK with its key locks Cuff's configuration until warm reset. -/
  | lock (key : BitVec 16)
  /-- R488: CAPTURE_NOW by register or dictionary raises the common capture trigger. -/
  | captureNow
  /-- R488: CAP_ARM arms the common capture trigger. -/
  | capArm
  /-- R480: A GO write to CUF_RETEST runs a full self-test of a quarantined unit. -/
  | cufRetest (unit : Fin 256)
  /-- R474: A write to CUF_ERQ_POP removes the oldest record of a severity queue. -/
  | erqPop (sev : Fin 4)
  /-- R491: Reading ERR_POP returns and removes the oldest record of a severity. -/
  | errPop (sev : Fin 4)
  /-- R478: A check channel finishes comparing frame v, signalling SYNC_OUT on a match and SYNC_DONE always. -/
  | checkCompareDone (n : Fin 64)
  /-- R478: One side has not reached v SKEW_US after the other, and a disagreement is decided. -/
  | checkSkew (n : Fin 64)
  /-- R478: Neither side reaches v FRAME_US after the previous decision, and v is decided absent. -/
  | checkAbsent (n : Fin 64)
  /-- R481: An age monitor's age passes LIMIT_US and its pairs stop. -/
  | ageExpiry (m : Fin 64)
  /-- R483: Cuff starts a self-test slice on a unit when the slack rules allow. -/
  | selftestSlice (unit : Fin 256)
  /-- R482: A self-test slice ends; a wrong answer sends a SELFTEST record. -/
  | selftestSliceDone (unit : Fin 256) (pass : Bool)
  /-- R484: At 90 % of TEST_INTERVAL_MS with slices left, a COVERAGE record is sent. -/
  | coverageWarning (unit : Fin 256)
  /-- R484: A test interval passes with slices left and the unit is quarantined. -/
  | coverageExpiry (unit : Fin 256)
  /-- R486: The start-up test of every unit ends and CUF_STATE reads READY. -/
  | startupTestDone (failed : List (Fin 256))
  /-- R487: Every CHECKER_PERIOD_MS Cuff injects a known mismatch into the next checker. -/
  | checkerTest
  /-- R487: Ten microseconds after injection, a checker that did not detect sends a fatal CHECKER record. -/
  | checkerResult (detected : Bool)
  /-- R496: The input stays below 18.0 V for 50 µs and the module powers down. -/
  | vinUndervoltage (mv : Nat)
  /-- R496: The input stays above 63.0 V for 50 µs and the module powers down. -/
  | vinOvervoltage (mv : Nat)
  /-- R496: An input dip shorter than 50 µs is ridden through and counted in VIN_DIPS. -/
  | vinDip (mv : Nat)
  /-- R498: The input rises through 19.0 V and the power-up sequence runs. -/
  | vinRise (mv : Nat)
  /-- R499: 3V3_AUX load above 400 mA folds the supply back and sets AUX_FAULT. -/
  | auxOverload (ma : Nat)
  /-- R499: 3V3_AUX load falls below 300 mA and the supply recovers. -/
  | auxRecover (ma : Nat)
  /-- R501: A SAFE_STOP channel in current limit for 1 ms opens. -/
  | safeStopCurrentLimit (ch : Fin 4)
  /-- R507: An I²C one-byte write sets the management read offset. -/
  | i2cOffsetWrite (offset : BitVec 8)
  /-- R507: An I²C read returns 8 little-endian bytes from the management offset. -/
  | i2cRead
  /-- R503: PORST_N or WARM_RST_N goes high again, ending the reset; RECOV_N is sampled and boot starts. -/
  | resetRelease (recov : Bool)
  /-- R204: A waiting request's DEADLINE passes before dispatch and it ends with DEADLINE_PREDICTED without running. -/
  | requestDeadline (r : Nat)
  /-- R469: A SAFE_IN channel rises back to the run level, which can clear DISCREPANT and satisfy a release condition. -/
  | safeInRun (ch : Bool)
  /-- R506: SAFE_VEXT falls below 10 V and the A channels drop to the stop level, starting the read-back mismatch. -/
  | safeVextLoss (mv : Nat)
  /-- R496: After an overvoltage turn-off the input falls below 61.0 V and the module starts with a power-on reset. -/
  | vinOvRecover (mv : Nat)
  /-- R378: An Ethernet port's link comes up or goes down, updating NET_STATE and pre-emption verification. -/
  | portLinkChange (port : Fin 6) (up : Bool) (preempt : Bool)
  /-- R375: The PCIe link trains up or goes down, updating PCIE_STATE. -/
  | pcieLinkChange (up : Bool) (width : Fin 8) (rate : Fin 8)
  /-- R182: The flash translation layer starts or finishes garbage collection, setting or clearing GC_ACTIVE and delaying flash fetches. -/
  | flashGarbageCollection (start : Bool)
  /-- R161: The debug host resumes or ends a launch halted at a breakpoint with DEBUG set. -/
  | debugResume (f : Fin 4096) (resume : Bool)
  /-- R424: LPDDR5X or HBM3 training completes during boot or recovery, letting ports be enabled, the stored set be applied and blocks start. -/
  | memoryTrained (lpddr : Bool)
  /-- R477: A context teardown whose records are not all written within 20 µs sends a fatal HANDLER record with DETAIL 1. -/
  | teardownTimeout (c : Fin 256)
  /-- R441: The AUD or CAM PLL locks within 200 µs of being enabled by Crown firmware. -/
  | pllLock (pll : Fin 7)
  deriving DecidableEq, Repr

end Sys2Proof
end

