-- ==== Sys2Proof/Decode.lean ====
section
/-! DEFINITION. Commands from words. The opcode table gives no row any bits: its rows are commands that reach the
module over its buses, ports, pins and engines, not words. -/

namespace Sys2Proof

/-- The command that a word spells by the table's bits: none, since no row has bits (log entry 4). -/
def decodeTableWord (_nbits _w : Nat) : Option Instr := none

end Sys2Proof
end

