-- ==== Sys2Proof/Config.lean ====
section
/-! DEFINITION. What the spec leaves open: free values without a body, so that no proof can lean on one, and the
constants a part carries from its factory. -/

namespace Sys2Proof.Config

/-- A free byte: what the spec calls unspecified reads as this, applied to a fresh number (State.fresh) each time. -/
opaque freeByte : Nat → BitVec 8

/-- A free 64-bit value, applied to a fresh number each time. -/
opaque freeWord : Nat → BitVec 64

/-- Tile blocks that a flash erase block of the part holds (R189, R190). -/
opaque eraseTiles : Nat

/-- A free 64-bit value in what a Finger computes: a function of the history it stands for (program, registers) and of a place
in it, so that equal Fingers get equal values (R163). -/
opaque fngFree : List Nat → Nat → BitVec 64

/-- R67 leaves the algorithm of the exponential open: which of the FP32 codes within 2 ulp of e^x it answers, as a choice number
for each operand. -/
opaque expF32 : BitVec 32 → BitVec 32

/-- R67: the choice number of the natural logarithm, as open as the exponential. -/
opaque lnF32 : BitVec 32 → BitVec 32

/-- Whether a signature verifies under a public key (ECDSA P-384, a standard outside the spec): signed bytes,
signature, key. -/
opaque sigValid : List (BitVec 8) → List (BitVec 8) → List (BitVec 8) → Bool

/-- The SHA-384 of the vendor's root key that the factory fuses (R421). -/
opaque vendorHash : List (BitVec 8)

/-- The attestation public key that the device derives (R430) from its secret and the five digests of an image. -/
opaque attPublic : List (BitVec 8) → List (BitVec 8)

/-- A signature of 96 bytes by the attestation key of an image's digests over a byte string (R432). -/
opaque attSign : List (BitVec 8) → List (BitVec 8) → List (BitVec 8)

/-- The attestation-key certificate (R430), from the five digests and the serial number. -/
opaque akCert : List (BitVec 8) → Nat → List (BitVec 8)

/-- Whether the part is a UBM-880-X (R410). -/
opaque gradeX : Bool

/-- Part constants that the factory or the fuses set (SERIAL, certificates, attestation keys): byte `i` of entry
`n`. -/
opaque partByte : Nat → Nat → BitVec 8

/-- Lengths of the part constants. -/
opaque partLen : Nat → Nat

/-- The gate control list (R359) and stream tables (R358) are DOMAIN entries whose layout the spec does not give: base time of
a list as N of its time base. -/
opaque gclBase : List (BitVec 8) → Nat

/-- Time base, cycle time in ns and number of intervals of a gate control list. -/
opaque gclTb : List (BitVec 8) → BitVec 2

/-- Cycle time in ns. -/
opaque gclCycle : List (BitVec 8) → Nat

/-- Number of intervals. -/
opaque gclLen : List (BitVec 8) → Nat

/-- Length of interval `i` in ns, of which 32 bits count (R358). -/
opaque gclTime : List (BitVec 8) → Nat → Nat

/-- Gate states of interval `i`, one bit per traffic class. -/
opaque gclGates : List (BitVec 8) → Nat → BitVec 8

/-- Stream handle that the STREAM_ID table gives a frame, 4,096 or more for none. -/
opaque streamHandle : List (BitVec 8) → List (BitVec 8) → Nat

/-- Whether filters, gates, meters and recovery (their four tables) let a frame of a handle pass; the last argument is a
fresh number, since gates and meters depend on time and history. -/
opaque streamPass : List (List (BitVec 8)) → Nat → List (BitVec 8) → Nat → Bool

/-- Cycles that a Gusset job takes (R326, R327), from its descriptor without addresses, its result so far and the steps it
completed; the model caps it at the job's full cost. -/
opaque gussetCycles : List (BitVec 8) → List (BitVec 8) → Nat → Nat

/-- R344 leaves the accuracy of the sine and cosine in the forward kinematics open (FP32 codes). -/
opaque sinF32 : BitVec 32 → BitVec 32

/-- Cosine, as open as the sine. -/
opaque cosF32 : BitVec 32 → BitVec 32

/-- R343 bounds the instants of an edge check but does not place them: instant `k` of `n` + 1 of an edge of a model, as its
offset from the edge's start in 2⁻¹⁶ ns and the joint values there (FP32 codes). -/
opaque edgeInstant : List (BitVec 8) → List Nat → List Nat → Nat → Nat → Nat × List Nat

/-- R343: whether a volume with axis ends and grown radius (FP32 codes) meets a leaf cube: ends, radius, leaf coordinates,
leaf edge in mm, origin. The spec does not state the arithmetic of the test. -/
opaque leafHit : List Nat → Nat → List Nat → Nat → List Nat → Bool

/-- R343: whether two grown volumes meet: ends and radius of each. -/
opaque volumeHit : List Nat → Nat → List Nat → Nat → Bool

/-- The unified-range address that inbound window `w` of the PCIE_INBOUND table gives a bus offset (R375; a DOMAIN entry whose
layout the spec does not give). -/
opaque pcieWindow : List (BitVec 8) → Nat → Nat → Option Nat

end Sys2Proof.Config
end

