-- ==== Sys2Proof/Machine/Bits.lean ====
section
/-! DEFINITION. Bit fields, sign extension, byte order and the CRC-32C of R514: the helpers every block
shares. -/

namespace Sys2Proof.Machine

/-- Bits [lo + w − 1 : lo] of a number. -/
def bits (x lo w : Nat) : Nat := (x >>> lo) % 2 ^ w

/-- One bit of a number. -/
def bitAt (x k : Nat) : Bool := x.testBit k

/-- The number with bits [lo + w − 1 : lo] replaced by the low bits of `v`. -/
def putBits (x lo w v : Nat) : Nat :=
  x - (bits x lo w <<< lo) + ((v % 2 ^ w) <<< lo)

/-- Two's complement value of the low `w` bits. -/
def signed (w v : Nat) : Int :=
  let u := v % 2 ^ w
  if 2 * u < 2 ^ w then (u : Int) else (u : Int) - (2 ^ w : Nat)

/-- The low `w` bits of an integer, as a two's complement code. -/
def codeOf (w : Nat) (i : Int) : Nat := (i % ((2 ^ w : Nat) : Int)).toNat

/-- The nearest value in [lo, hi]. -/
def clampNat (lo hi x : Nat) : Nat := if x < lo then lo else if hi < x then hi else x

/-- The nearest value in [lo, hi]. -/
def clampInt (lo hi x : Int) : Int := if x < lo then lo else if hi < x then hi else x

/-- Division rounding up. -/
def ceilDiv (a b : Nat) : Nat := if b = 0 then 0 else (a + b - 1) / b

/-- `x` rounded up to a multiple of `m`. -/
def alignUp (x m : Nat) : Nat := ceilDiv x m * m

/-- 1 for true. -/
def b2n (b : Bool) : Nat := if b then 1 else 0

/-- The number whose little-endian bytes these are. -/
def leNat : Bytes → Nat
  | [] => 0
  | b :: bs => b.toNat + 256 * leNat bs

/-- The low `n` bytes of `v`, least significant first. -/
def natLE : Nat → Nat → Bytes
  | 0, _ => []
  | n + 1, v => BitVec.ofNat 8 v :: natLE n (v / 256)

/-- Field of `n` bytes at offset `o` of a record. -/
def fieldLE (bs : Bytes) (o n : Nat) : Nat := leNat ((bs.drop o).take n)

/-- `bs` with the `n` bytes at offset `o` replaced by the little-endian code of `v`. -/
def setFieldLE (bs : Bytes) (o n v : Nat) : Bytes :=
  bs.take o ++ natLE n v ++ bs.drop (o + n)

/-- `bs` cut or filled with zeros to exactly `n` bytes. -/
def padTo (n : Nat) (bs : Bytes) : Bytes := (bs ++ List.replicate (n - bs.length) 0).take n

/-- The bytes of an ASCII text. -/
def asciiBytes (t : String) : Bytes := t.toList.map (fun c => BitVec.ofNat 8 c.toNat)

/-- One bit of the reflected CRC register (R514). -/
def crcBit (r : Nat) : Nat :=
  if r % 2 = 1 then (r / 2) ^^^ 0x82F63B78 else r / 2

/-- `n` bits of the reflected CRC register. -/
def crcBits : Nat → Nat → Nat
  | 0, r => r
  | n + 1, r => crcBits n (crcBit r)

/-- The CRC register after one more byte, fed least significant bit first (R514). -/
def crcByte (r : Nat) (b : Byte) : Nat := crcBits 8 (r ^^^ b.toNat)

/-- R514: CRC-32C (Castagnoli) of bytes in ascending address order. -/
def crc32c (bs : Bytes) : Nat := (bs.foldl crcByte 0xFFFFFFFF) ^^^ 0xFFFFFFFF

/-- `f 0, f 1, …, f (n − 1)`. -/
def tab {α : Type} (n : Nat) (f : Nat → α) : List α := (List.range n).map f

/-- Lowest index below `n` at which `p` holds. -/
def firstIdx (n : Nat) (p : Nat → Bool) : Option Nat := (List.range n).find? p

/-- Number of indices below `n` at which `p` holds. -/
def countIdx (n : Nat) (p : Nat → Bool) : Nat := ((List.range n).filter p).length

/-- Fold a state over 0, 1, …, n − 1. -/
def iter {σ : Type} (n : Nat) (f : σ → Nat → σ) (s : σ) : σ := (List.range n).foldl f s

/-- Fold a state over a list. -/
def each {σ α : Type} (xs : List α) (f : σ → α → σ) (s : σ) : σ := xs.foldl f s

/-- Element `k`, or `d` beyond the end. -/
def nth {α : Type} (d : α) (xs : List α) (k : Nat) : α := xs.getD k d

/-- Integer square root by binary descent on `fuel` bits: the largest r built from those bits with r² ≤ n. -/
def isqrtBits (n : Nat) : Nat → Nat → Nat
  | 0, r => r
  | k + 1, r =>
    let c := r + 2 ^ k
    isqrtBits n k (if c * c ≤ n then c else r)

/-- Floor of the square root. -/
def isqrt (n : Nat) : Nat := isqrtBits n (n.log2 / 2 + 1) 0

/-- Integer cube root by binary descent. -/
def icbrtBits (n : Nat) : Nat → Nat → Nat
  | 0, r => r
  | k + 1, r =>
    let c := r + 2 ^ k
    icbrtBits n k (if c * c * c ≤ n then c else r)

/-- Floor of the cube root. -/
def icbrt (n : Nat) : Nat := icbrtBits n (n.log2 / 3 + 1) 0

end Sys2Proof.Machine
end

