-- ==== Sys2Proof/Machine/DictTable.lean ====
section
/-! DEFINITION. The object dictionary's entries: one row per row of the chapters' dictionary tables, with index, number
of indices, first subindex, number of subindices and their step, type code of R380, access code of R382, default value,
persistence and range. Transcribed row by row from the tables of spec/. -/

namespace Sys2Proof.Machine

/-- One row of a dictionary table. `range` is MIN and MAX as 64-bit codes when the owning chapter bounds the entry. -/
structure DictDef where
  index : Nat
  indices : Nat
  sub : Nat
  subs : Nat
  subStep : Nat
  type : Nat
  access : Nat
  default : Nat
  persist : Bool
  range : Option (Nat × Nat)
  deriving DecidableEq, Repr

/-- Dictionary rows. -/
def dictRows1 : List DictDef := [
  ⟨0x5200, 11, 1, 1, 1, 5, 1, 0, false, none⟩ /- SEAM_CRC_ERR -/,
  ⟨0x5200, 11, 2, 1, 1, 5, 1, 0, false, none⟩ /- SEAM_REPLAYS -/,
  ⟨0x5200, 11, 3, 1, 1, 5, 1, 0, false, none⟩ /- SEAM_REPLAYED_FLITS -/,
  ⟨0x5200, 11, 4, 1, 1, 4, 1, 0, false, none⟩ /- SEAM_REPLAY_MAX_NS -/,
  ⟨0x1c00, 1, 1, 2, 16, 1, 4, 0, true, none⟩ /- GPTP_ENABLE -/,
  ⟨0x1c00, 1, 2, 2, 16, 2, 4, 0, true, some (0, 127)⟩ /- GPTP_DOMAIN -/,
  ⟨0x1c00, 1, 3, 2, 16, 2, 4, 1, true, some (1, 3)⟩ /- GPTP_TB -/,
  ⟨0x1c00, 1, 4, 2, 16, 2, 3, 248, true, none⟩ /- GPTP_PRIORITY1 -/,
  ⟨0x1c00, 1, 5, 2, 16, 2, 3, 248, true, none⟩ /- GPTP_PRIORITY2 -/,
  ⟨0x1c00, 1, 6, 2, 16, 3, 4, 0, true, some (0, 4095)⟩ /- GPTP_PORT_ROLES -/,
  ⟨0x1c00, 1, 7, 2, 16, 6, 4, 253, true, some (18446744073709551609, 0)⟩ /- GPTP_SYNC_LOG_INTERVAL -/,
  ⟨0x1c00, 1, 8, 2, 16, 9, 1, 0, false, none⟩ /- GPTP_OFFSET_NS -/,
  ⟨0x1a00, 6, 1, 1, 1, 1, 4, 0, true, none⟩ /- PORT_ENABLE -/,
  ⟨0x1a00, 6, 2, 1, 1, 2, 4, 0, true, some (0, 2)⟩ /- PORT_MODE -/,
  ⟨0x1a00, 6, 3, 1, 1, 3, 4, 1, true, none⟩ /- PORT_PVID -/,
  ⟨0x1a00, 6, 4, 1, 1, 2, 3, 192, true, none⟩ /- EXPRESS_TC -/,
  ⟨0x1a00, 6, 5, 1, 1, 1, 3, 1, true, none⟩ /- ODS_EN -/,
  ⟨0x1a00, 6, 6, 1, 1, 1, 3, 0, true, none⟩ /- STRICT_ROSTER -/,
  ⟨0x1a10, 6, 1, 1, 1, 15, 3, 0, true, none⟩ /- GATE_LIST -/,
  ⟨0x1a20, 1, 1, 5, 1, 15, 3, 0, true, none⟩ /- STREAM_ID, FILTERS, GATES, METERS, FRER -/,
  ⟨0x1a40, 1, 1, 1, 1, 4, 4, 3232261122, true, none⟩ /- IP_ADDR -/,
  ⟨0x1a40, 1, 2, 1, 1, 4, 4, 4294967040, true, none⟩ /- IP_MASK -/,
  ⟨0x1a41, 1, 1, 8, 1, 5, 3, 0, true, none⟩ /- ODS_HOST -/,
  ⟨0x1e00, 4, 1, 1, 1, 1, 4, 0, true, none⟩ /- SEG_ENABLE -/,
  ⟨0x1e00, 4, 2, 1, 1, 1, 4, 1, true, none⟩ /- PLCA_EN -/,
  ⟨0x1e00, 4, 3, 1, 1, 2, 4, 8, true, none⟩ /- NODE_COUNT -/,
  ⟨0x1e00, 4, 4, 1, 1, 2, 4, 32, true, none⟩ /- TO_TIMER -/,
  ⟨0x1e00, 4, 5, 1, 1, 2, 4, 0, true, none⟩ /- MAX_BC -/,
  ⟨0x1e00, 4, 6, 1, 1, 2, 4, 128, true, none⟩ /- BURST_TMR -/,
  ⟨0x1e00, 4, 7, 1, 1, 3, 3, 2000, true, none⟩ /- JABBER_US -/]

/-- Dictionary rows. -/
def dictRows2 : List DictDef := [
  ⟨0x1e00, 4, 8, 1, 1, 3, 3, 100, true, none⟩ /- NOISE_LIMIT -/,
  ⟨0x1e00, 4, 9, 1, 1, 3, 3, 10, true, none⟩ /- TSYNC_MS -/,
  ⟨0x1e00, 4, 10, 1, 1, 2, 3, 1, true, some (0, 3)⟩ /- TSYNC_TB -/,
  ⟨0x1e00, 4, 11, 1, 1, 3, 4, 128, true, none⟩ /- SEG_MAX_FRAME -/,
  ⟨0x2000, 1, 1, 1, 1, 2, 4, 0, true, some (0, 2)⟩ /- PCIE_MODE -/,
  ⟨0x2000, 1, 2, 1, 1, 5, 3, 17592186044416, true, none⟩ /- PCIE_WIN_BASE -/,
  ⟨0x2001, 1, 1, 1, 1, 15, 4, 0, true, none⟩ /- PCIE_INBOUND -/,
  ⟨0x8000, 1024, 1, 1, 1, 1, 3, 0, true, none⟩ /- NODE_ENABLE -/,
  ⟨0x8000, 1024, 2, 1, 1, 5, 4, 0, true, none⟩ /- NODE_MAC -/,
  ⟨0x8000, 1024, 3, 1, 1, 2, 4, 0, true, none⟩ /- ATTACH -/,
  ⟨0x8000, 1024, 4, 1, 1, 2, 4, 0, true, none⟩ /- PLCA_ID -/,
  ⟨0x8000, 1024, 5, 1, 1, 3, 4, 57345, true, none⟩ /- VID_PCP -/,
  ⟨0x8000, 1024, 6, 1, 1, 3, 4, 64, true, none⟩ /- MAX_FRAME -/,
  ⟨0x8000, 1024, 7, 1, 1, 2, 4, 0, true, none⟩ /- NODE_MAX_BC -/,
  ⟨0x8000, 1024, 8, 1, 1, 4, 4, 1000, true, none⟩ /- TIMEOUT_US -/,
  ⟨0x8000, 1024, 9, 1, 1, 3, 4, 0, true, none⟩ /- OUT_LEN -/,
  ⟨0x8000, 1024, 10, 1, 1, 4, 4, 20000, true, none⟩ /- OUT_HOLD_NS -/,
  ⟨0x8000, 1024, 11, 1, 1, 2, 1, 0, false, none⟩ /- NODE_STATE -/,
  ⟨0x8400, 1024, 1, 16, 1, 5, 4, 0, true, none⟩ /- RX_MAP -/,
  ⟨0x8800, 1024, 1, 1, 1, 5, 4, 0, true, none⟩ /- TX_MAP -/,
  ⟨0x200, 1, 0, 1, 1, 2, 0, 24, false, none⟩ /- CAP_ENTRIES -/,
  ⟨0x200, 1, 1, 24, 1, 14, 0, 0, false, none⟩ /- CAP_ENTRY -/,
  ⟨0x300, 1, 1, 1, 1, 4, 2, 0, false, none⟩ /- DESCRIBE_TARGET -/,
  ⟨0x300, 1, 2, 1, 1, 14, 1, 0, false, none⟩ /- DESCRIPTION -/,
  ⟨0x1000, 1, 1, 1, 1, 2, 2, 0, false, none⟩ /- STORE_CMD -/,
  ⟨0x1000, 1, 2, 1, 1, 2, 1, 0, false, none⟩ /- STORE_STATE -/,
  ⟨0x1000, 1, 3, 1, 1, 1, 2, 0, false, none⟩ /- COMMIT_ALL -/,
  ⟨0x1000, 1, 4, 1, 1, 4, 1, 0, false, none⟩ /- DEV_SIG -/,
  ⟨0x1000, 1, 5, 1, 1, 1, 3, 0, false, none⟩ /- DEBUG_ENABLE -/,
  ⟨0x5000, 1, 1, 1, 1, 5, 1, 0, false, none⟩ /- IGNORED_WRITES -/]

/-- Dictionary rows. -/
def dictRows3 : List DictDef := [
  ⟨0x5000, 1, 2, 1, 1, 4, 1, 0, false, none⟩ /- LAST_IGNORED -/,
  ⟨0x5000, 1, 3, 1, 1, 5, 1, 0, false, none⟩ /- ABORTS -/,
  ⟨0xf000, 1, 1, 1, 1, 5, 2, 0, false, none⟩ /- DBG_ADDR -/,
  ⟨0xf000, 1, 2, 1, 1, 5, 2, 0, false, none⟩ /- DBG_DATA -/,
  ⟨0x100, 1, 1, 1, 1, 13, 0, 0, false, none⟩ /- VENDOR -/,
  ⟨0x100, 1, 2, 1, 1, 13, 0, 0, false, none⟩ /- PRODUCT -/,
  ⟨0x100, 1, 3, 1, 1, 13, 0, 0, false, none⟩ /- ORDER_CODE -/,
  ⟨0x100, 1, 4, 1, 1, 13, 0, 0, false, none⟩ /- SERIAL -/,
  ⟨0x110, 1, 1, 1, 1, 14, 0, 0, false, none⟩ /- IDK_CERT -/,
  ⟨0x110, 1, 2, 1, 1, 14, 0, 0, false, none⟩ /- PRODUCT_CA_CERT -/,
  ⟨0x110, 1, 3, 1, 1, 14, 0, 0, false, none⟩ /- ROOT_CA_CERT -/,
  ⟨0x110, 1, 4, 1, 1, 14, 1, 0, false, none⟩ /- AK_CERT -/,
  ⟨0x3200, 1, 1, 1, 1, 2, 1, 0, false, none⟩ /- BOOT_CAUSE -/,
  ⟨0x3200, 1, 2, 1, 1, 2, 1, 0, false, none⟩ /- BOOT_FAIL -/,
  ⟨0x3200, 1, 3, 1, 1, 4, 1, 0, false, none⟩ /- BOOT_COUNT -/,
  ⟨0x3200, 1, 4, 1, 1, 2, 1, 0, false, none⟩ /- IMG_SEC_VERSION -/,
  ⟨0x3200, 1, 5, 1, 1, 2, 1, 0, false, none⟩ /- FUSED_SEC_VERSION -/,
  ⟨0x3200, 1, 6, 1, 1, 3, 2, 0, false, none⟩ /- RESET_CMD -/,
  ⟨0x3201, 1, 1, 1, 1, 15, 2, 0, false, none⟩ /- FW_STAGE -/,
  ⟨0x3201, 1, 2, 1, 1, 2, 2, 0, false, none⟩ /- FW_APPLY -/,
  ⟨0x3201, 1, 3, 1, 1, 2, 1, 0, false, none⟩ /- FW_STATE -/,
  ⟨0x3201, 1, 4, 1, 1, 2, 1, 0, false, none⟩ /- FW_RESULT -/,
  ⟨0x3202, 1, 1, 1, 1, 14, 1, 0, false, none⟩ /- OWNER_HASH -/,
  ⟨0x3202, 1, 2, 1, 1, 14, 2, 0, false, none⟩ /- OWNER_FUSE -/,
  ⟨0x3210, 1, 1, 1, 1, 14, 2, 0, false, none⟩ /- NONCE -/,
  ⟨0x3210, 1, 2, 1, 1, 14, 1, 0, false, none⟩ /- REPORT -/,
  ⟨0x3210, 1, 3, 1, 1, 2, 1, 0, false, none⟩ /- ATTEST_STATE -/,
  ⟨0x4000, 1, 1, 1, 1, 1, 1, 1, false, none⟩ /- CAL_FACTORY -/,
  ⟨0x4000, 1, 2, 1, 1, 4, 1, 0, false, none⟩ /- CAL_WRITES -/,
  ⟨0x4000, 1, 3, 1, 1, 14, 1, 0, false, none⟩ /- CAL_DIGEST -/]

/-- Dictionary rows. -/
def dictRows4 : List DictDef := [
  ⟨0x5100, 1, 1, 1, 1, 5, 1, 0, false, none⟩ /- POWERED_S -/,
  ⟨0x5100, 1, 2, 4, 1, 4, 1, 0, false, none⟩ /- POWER_ONS, WARM_RESETS, RECOVERIES, FW_UPDATES -/,
  ⟨0x5110, 1, 1, 16, 1, 4, 1, 0, false, none⟩ /- TJ_HIST -/,
  ⟨0x5111, 1, 1, 16, 1, 4, 1, 0, false, none⟩ /- VIN_HIST -/,
  ⟨0x5120, 1, 1, 4, 1, 5, 1, 0, false, none⟩ /- DROOP, per Palm -/,
  ⟨0x5121, 1, 1, 3, 1, 5, 1, 0, false, none⟩ /- CORR_ERRORS, HBM3, LPDDR5X, flash -/,
  ⟨0x5122, 1, 1, 1, 1, 3, 1, 0, false, none⟩ /- FLASH_WEAR -/,
  ⟨0x5130, 1, 1, 3, 1, 4, 1, 0, false, none⟩ /- SAFE_STOPS: pair 0, pair 1, SAFE_IN trips -/,
  ⟨0x5140, 1, 1, 32, 1, 4, 1, 0, false, none⟩ /- FAULTS, by error-record class -/,
  ⟨0x5150, 1, 1, 1, 1, 2, 1, 0, false, none⟩ /- LOG_STATE -/,
  ⟨0x5150, 1, 2, 1, 1, 5, 1, 0, false, none⟩ /- LOG_LAST_WRITE_S -/,
  ⟨0x2e00, 1, 1, 1, 1, 3, 3, 1500, true, none⟩ /- CAP_W -/,
  ⟨0x2e00, 1, 2, 1, 1, 2, 3, 0, true, none⟩ /- CAP_MODE -/,
  ⟨0x2e00, 1, 3, 1, 1, 2, 3, 5, true, none⟩ /- OPPT_DEFAULT -/,
  ⟨0x2e00, 1, 4, 1, 1, 2, 3, 7, true, none⟩ /- OPPT_MAX -/,
  ⟨0x2e00, 1, 5, 1, 1, 2, 3, 5, true, none⟩ /- RT_FLOOR -/,
  ⟨0x2e00, 1, 6, 1, 1, 2, 3, 50, true, none⟩ /- DROOP_MV -/,
  ⟨0x2e00, 1, 7, 1, 1, 2, 4, 0, true, none⟩ /- AUD_FAMILY -/,
  ⟨0x2e00, 1, 8, 1, 1, 10, 1, 0, false, none⟩ /- POWER_MEAN -/,
  ⟨0x2e00, 1, 9, 1, 1, 5, 1, 0, false, none⟩ /- ENERGY_UJ -/,
  ⟨0x3000, 1, 1, 1, 1, 2, 4, 20, true, none⟩ /- FTTI_MS -/,
  ⟨0x3000, 1, 2, 1, 1, 3, 4, 1000, true, none⟩ /- TEST_INTERVAL_MS -/,
  ⟨0x3000, 1, 3, 1, 1, 2, 4, 10, true, none⟩ /- CHECKER_PERIOD_MS -/,
  ⟨0x3000, 1, 4, 1, 1, 1, 2, 0, false, none⟩ /- CAPTURE_NOW -/,
  ⟨0x3000, 1, 5, 1, 1, 3, 2, 0, false, none⟩ /- STOP_RELEASE -/,
  ⟨0x3000, 1, 6, 1, 1, 2, 1, 0, false, none⟩ /- CUFF_STATE -/,
  ⟨0x3001, 1, 1, 4, 1, 14, 1, 0, false, none⟩ /- ERR_POP, severity 0 to 3 -/,
  ⟨0x2e10, 1, 1, 1, 1, 4, 1, 0, false, none⟩ /- VIN_MV -/,
  ⟨0x2e10, 1, 2, 1, 1, 4, 1, 0, false, none⟩ /- VIN_MIN_MV -/,
  ⟨0x2e10, 1, 3, 1, 1, 4, 1, 0, false, none⟩ /- VIN_DIPS -/]

/-- Dictionary rows. -/
def dictRows5 : List DictDef := [
  ⟨0x2e10, 1, 4, 1, 1, 4, 1, 0, false, none⟩ /- SAFE_VEXT_MV -/,
  ⟨0x2e10, 1, 5, 1, 1, 1, 1, 0, false, none⟩ /- AUX_FAULT -/,
  ⟨0x2e10, 1, 6, 1, 1, 3, 1, 0, false, none⟩ /- AUX_MA -/]

/-- Every entry of the dictionary. -/
def dictTable : List DictDef := dictRows1 ++ dictRows2 ++ dictRows3 ++ dictRows4 ++ dictRows5

/-- Size in bytes of a type (R380); for the variable-size types, their largest size. -/
def typeSize (t : Nat) : Nat :=
  nth 0 [0, 1, 1, 2, 4, 8, 1, 2, 4, 8, 4, 8, 12, 4096, 4096, 16777216] t

/-- Types 0x0D and above have a variable size. -/
def typeVariable (t : Nat) : Bool := decide (13 ≤ t)

/-- Whether a row implements index:sub. -/
def DictDef.has (d : DictDef) (i sub : Nat) : Bool :=
  decide (d.index ≤ i) && decide (i < d.index + d.indices) && decide (d.sub ≤ sub) &&
  decide ((sub - d.sub) / d.subStep < d.subs) && decide ((sub - d.sub) % d.subStep = 0)

/-- The row that implements index:sub. -/
def dictDef (i sub : Nat) : Option DictDef := dictTable.find? (fun d => d.has i sub)

/-- R379: the highest subindex implemented at an index, none when the index is not implemented. -/
def dictTop (i : Nat) : Option Nat :=
  let ds := dictTable.filter (fun d => decide (d.index ≤ i) && decide (i < d.index + d.indices))
  if ds.isEmpty then none
  else some (ds.foldl (fun m d => Nat.max m (d.sub + (d.subs - 1) * d.subStep)) 0)

/-- What a numeric entry reads as before anything has changed it: its default, and 1 + i for GPTP_TB of instance
i (R274's table). -/
def dictReset (key : Nat) : Nat :=
  match dictDef (key / 256) (key % 256) with
  | none => 0
  | some d => if d.index = 0x1C00 ∧ d.sub = 3 then 1 + (key % 256 - 3) / 16 else d.default

end Sys2Proof.Machine
end

