-- ==== Sys2Proof/Machine/Fp.lean ====
section
/-! DEFINITION. The number formats of the device (R18, R19) and exact arithmetic over them: values are decoded to a
sign, a mantissa and a power of two; every operation is computed exactly and rounded once, as R24 to R28 state. -/

namespace Sys2Proof.Machine

/-- A value: NaN, an infinity, or ± m × 2^e. -/
inductive FV where
  | nan
  | inf (neg : Bool)
  | fin (neg : Bool) (m : Nat) (e : Int)
  deriving DecidableEq, Repr

/-- A floating-point encoding (R19). `ieee` formats hold infinities and NaNs at the top exponent; `nanTop` formats
(E4M3) hold a NaN in the top code only; the others hold neither. `maxCode` is the largest finite magnitude code, `nanOut`
the NaN the device writes, `infOut` the code of infinity. -/
structure FpFmt where
  eb : Nat
  mb : Nat
  bias : Nat
  ieee : Bool
  nanTop : Bool
  maxCode : Nat
  nanOut : Nat
  infOut : Nat
  deriving DecidableEq, Repr

/-- FP32 (R19). -/
def fp32 : FpFmt := ⟨8, 23, 127, true, false, 0x7F7FFFFF, 0x7FC00000, 0x7F800000⟩
/-- BF16 (R19). -/
def bf16 : FpFmt := ⟨8, 7, 127, true, false, 0x7F7F, 0x7FC0, 0x7F80⟩
/-- FP16 (R19). -/
def fp16 : FpFmt := ⟨5, 10, 15, true, false, 0x7BFF, 0x7E00, 0x7C00⟩
/-- FP8 E4M3 (R19). -/
def e4m3 : FpFmt := ⟨4, 3, 7, false, true, 0x7E, 0x7F, 0x7F⟩
/-- FP8 E5M2 (R19). -/
def e5m2 : FpFmt := ⟨5, 2, 15, true, false, 0x7B, 0x7E, 0x7C⟩
/-- E3M2 (R19). -/
def e3m2 : FpFmt := ⟨3, 2, 3, false, false, 0x1F, 0x1F, 0x1F⟩
/-- E2M3 (R19). -/
def e2m3 : FpFmt := ⟨2, 3, 1, false, false, 0x1F, 0x1F, 0x1F⟩
/-- E2M1 (R19). -/
def e2m1 : FpFmt := ⟨2, 1, 1, false, false, 0x7, 0x7, 0x7⟩

/-- The value of a code (R19). -/
def FpFmt.dec (f : FpFmt) (w : Nat) : FV :=
  let neg := w.testBit (f.eb + f.mb)
  let ex := bits w f.mb f.eb
  let man := bits w 0 f.mb
  let top := 2 ^ f.eb - 1
  if f.ieee && ex == top then (if man = 0 then .inf neg else .nan)
  else if f.nanTop && ex == top && man == 2 ^ f.mb - 1 then .nan
  else if ex = 0 then .fin neg man (1 - (f.bias : Int) - f.mb)
  else .fin neg (man + 2 ^ f.mb) ((ex : Int) - f.bias - f.mb)

/-- Rounding modes of R24: 0 nearest-even, 1 toward zero, 2 stochastic with the drawn 16 bits `r`. -/
structure Rnd where
  mode : Nat
  r : Nat
  deriving DecidableEq, Repr

/-- Round to nearest-even. -/
def rne : Rnd := ⟨0, 0⟩

/-- m × 2^e rounded to a whole multiple of 2^q. -/
def roundTo (rd : Rnd) (m : Nat) (e q : Int) : Nat :=
  if q ≤ e then m <<< (e - q).toNat
  else
    let sh := (q - e).toNat
    let k := m >>> sh
    let rem := m % 2 ^ sh
    if rd.mode = 1 then k
    else if rd.mode = 2 then
      let f := if 16 ≤ sh then rem >>> (sh - 16) else rem <<< (16 - sh)
      if 65536 ≤ f + rd.r then k + 1 else k
    else if 2 ^ sh < 2 * rem ∨ (2 * rem = 2 ^ sh ∧ k % 2 = 1) then k + 1 else k

/-- Magnitude code of a non-zero m × 2^e in a format, with an unbounded top (an overflow exceeds `maxCode`). -/
def FpFmt.magCode (f : FpFmt) (rd : Rnd) (m : Nat) (e : Int) : Nat :=
  let qmin : Int := 1 - (f.bias : Int) - f.mb
  let top : Int := (m.log2 : Int) + e
  let q := if top - f.mb < qmin then qmin else top - f.mb
  roundTo rd m e q + (q - qmin).toNat * 2 ^ f.mb

/-- Conversion events, as bits of GNT_CONV_FLAGS (R60). -/
def flagNan : Nat := 1
/-- INF_OUT. -/
def flagInf : Nat := 2
/-- SATURATED. -/
def flagSat : Nat := 4
/-- MX_NAN_BLOCK. -/
def flagMxNan : Nat := 8
/-- INT_NAN. -/
def flagIntNan : Nat := 16
/-- FLUSHED. -/
def flagFlush : Nat := 32
/-- INVALID_OP. -/
def flagInvalid : Nat := 64

/-- R26, R27, R29: a value converted to a floating-point format, with the conversion events. Formats without
infinities and NaNs saturate. Where round toward zero turns an overflow into the largest finite value with SAT clear,
SATURATED is set (DESIGN CHOICE, log entry 81: R24 and R60 do not say). -/
def FpFmt.enc (f : FpFmt) (rd : Rnd) (sat ftz : Bool) (v : FV) : Nat × Nat :=
  let sgn (n : Bool) : Nat := if n then 2 ^ (f.eb + f.mb) else 0
  match v with
  | .nan => (f.nanOut, flagNan)
  | .inf n =>
    if f.ieee then (sgn n + f.infOut, flagInf)
    else if f.nanTop && !sat then (f.nanOut, flagNan)
    else (sgn n + f.maxCode, flagSat)
  | .fin n m e =>
    if m = 0 then (sgn n, 0)
    else
      let c := f.magCode rd m e
      if f.maxCode < c then
        if sat || rd.mode == 1 || !(f.ieee || f.nanTop) then (sgn n + f.maxCode, flagSat)
        else if f.ieee then (sgn n + f.infOut, flagInf)
        else (f.nanOut, flagNan)
      else if ftz && decide (0 < c) && decide (c < 2 ^ f.mb) then (sgn n, flagFlush)
      else (sgn n + c, 0)

/-- R26, R27, R31: a value converted to a two's complement integer of `w` bits. -/
def encInt (w : Nat) (rd : Rnd) (v : FV) : Nat × Nat :=
  let hi : Nat := 2 ^ (w - 1) - 1
  match v with
  | .nan => (0, flagIntNan)
  | .inf n => (if n then 2 ^ (w - 1) else hi, flagSat)
  | .fin n m e =>
    let k := roundTo rd m e 0
    if n then (if 2 ^ (w - 1) < k then (2 ^ (w - 1), flagSat) else (codeOf w (-(k : Int)), 0))
    else (if hi < k then (hi, flagSat) else (k, 0))

/-! ## Exact arithmetic -/

/-- ± |i| × 2^e, with +0 for zero (R28). -/
def FV.ofInt (i : Int) (e : Int) : FV := .fin (decide (i < 0)) i.natAbs e

/-- Signed mantissa of a finite value. -/
def smant (n : Bool) (m : Nat) : Int := if n then -(m : Int) else (m : Int)

/-- The exact sum. -/
def FV.add (a b : FV) : FV :=
  match a, b with
  | .nan, _ => .nan
  | _, .nan => .nan
  | .inf n, .inf k => if n == k then .inf n else .nan
  | .inf n, .fin _ _ _ => .inf n
  | .fin _ _ _, .inf n => .inf n
  | .fin n m e, .fin n' m' e' =>
    let lo := if e ≤ e' then e else e'
    let i := smant n m * 2 ^ (e - lo).toNat + smant n' m' * 2 ^ (e' - lo).toNat
    if i = 0 then .fin (n && n' && m == 0 && m' == 0) 0 lo else FV.ofInt i lo

/-- The exact product. -/
def FV.mul (a b : FV) : FV :=
  match a, b with
  | .nan, _ => .nan
  | _, .nan => .nan
  | .inf n, .inf k => .inf (n != k)
  | .inf n, .fin k m _ => if m = 0 then .nan else .inf (n != k)
  | .fin k m _, .inf n => if m = 0 then .nan else .inf (n != k)
  | .fin n m e, .fin n' m' e' => .fin (n != n') (m * m') (e + e')

/-- The negated value. -/
def FV.neg : FV → FV
  | .nan => .nan
  | .inf n => .inf (!n)
  | .fin n m e => .fin (!n) m e

/-- The magnitude. -/
def FV.abs : FV → FV
  | .nan => .nan
  | .inf _ => .inf false
  | .fin _ m e => .fin false m e

/-- Whether a value is NaN. -/
def FV.isNan : FV → Bool
  | .nan => true
  | _ => false

/-- Whether a value is finite. -/
def FV.isFin : FV → Bool
  | .fin _ _ _ => true
  | _ => false

/-- Whether a value is zero. -/
def FV.isZero : FV → Bool
  | .fin _ m _ => m == 0
  | _ => false

/-- Whether a value carries a negative sign. -/
def FV.isNeg : FV → Bool
  | .nan => false
  | .inf n => n
  | .fin n _ _ => n

/-- a < b over numbers; false when either is NaN. -/
def FV.lt (a b : FV) : Bool :=
  match a, b with
  | .nan, _ => false
  | _, .nan => false
  | .inf n, .inf k => n && !k
  | .inf n, .fin _ _ _ => n
  | .fin _ _ _, .inf k => !k
  | .fin n m e, .fin n' m' e' =>
    let lo := if e ≤ e' then e else e'
    decide (smant n m * 2 ^ (e - lo).toNat < smant n' m' * 2 ^ (e' - lo).toNat)

/-- a ≤ b over numbers; false when either is NaN. -/
def FV.le (a b : FV) : Bool := !a.isNan && !b.isNan && !FV.lt b a

/-- The quotient to 70 bits and a sticky bit, which rounds as the exact quotient does. -/
def FV.div (a b : FV) : FV :=
  match a, b with
  | .nan, _ => .nan
  | _, .nan => .nan
  | .inf _, .inf _ => .nan
  | .inf n, .fin k _ _ => .inf (n != k)
  | .fin n _ e, .inf k => .fin (n != k) 0 e
  | .fin n m e, .fin n' m' e' =>
    if m' = 0 then (if m = 0 then .nan else .inf (n != n'))
    else
      let s := 70 + m'.log2
      let q := (m <<< s) / m'
      let r := (m <<< s) % m'
      .fin (n != n') (2 * q + (if r = 0 then 0 else 1)) (e - e' - s - 1)

/-- The square root to 70 bits and a sticky bit. -/
def FV.sqrt : FV → FV
  | .nan => .nan
  | .inf n => if n then .nan else .inf false
  | .fin n m e =>
    if m = 0 then .fin n 0 0
    else if n then .nan
    else
      let s := 140 + (if (e - 140) % 2 = 0 then 0 else 1)
      let x := m <<< s
      let r := isqrt x
      .fin false (2 * r + (if r * r = x then 0 else 1)) ((e - s) / 2 - 1)

/-- The reciprocal square root to 70 bits and a sticky bit. -/
def FV.rsqrt : FV → FV
  | .nan => .nan
  | .inf n => if n then .nan else .fin false 0 0
  | .fin n m e =>
    if m = 0 then .inf n
    else if n then .nan
    else
      let m2 := if e % 2 = 0 then m else 2 * m
      let e2 : Int := if e % 2 = 0 then e else e - 1
      let t := 70 + m2.log2
      let y := 2 ^ (2 * t) / m2
      let r := isqrt y
      let sticky := if r * r = y ∧ 2 ^ (2 * t) % m2 = 0 then 0 else 1
      .fin false (2 * r + sticky) (-(t : Int) - e2 / 2 - 1)

/-! ## FP32 operations rounded to nearest-even (R43) -/

/-- The value of an FP32 code. -/
def f32 (w : Nat) : FV := fp32.dec (w % 2 ^ 32)

/-- An exact value rounded once to FP32, nearest-even, with IEEE overflow. -/
def toF32 (v : FV) : Nat := (fp32.enc rne false false v).1

/-- FP32 addition. -/
def f32Add (a b : Nat) : Nat := toF32 ((f32 a).add (f32 b))
/-- FP32 subtraction. -/
def f32Sub (a b : Nat) : Nat := toF32 ((f32 a).add (f32 b).neg)
/-- FP32 multiplication. -/
def f32Mul (a b : Nat) : Nat := toF32 ((f32 a).mul (f32 b))
/-- FP32 fused multiply-add. -/
def f32Fma (a b c : Nat) : Nat := toF32 (((f32 a).mul (f32 b)).add (f32 c))
/-- FP32 division. -/
def f32Div (a b : Nat) : Nat := toF32 ((f32 a).div (f32 b))
/-- FP32 square root. -/
def f32Sqrt (a : Nat) : Nat := toF32 (f32 a).sqrt
/-- FP32 reciprocal square root. -/
def f32Rsqrt (a : Nat) : Nat := toF32 (f32 a).rsqrt
/-- FP32 less-than. -/
def f32Lt (a b : Nat) : Bool := FV.lt (f32 a) (f32 b)
/-- FP32 less-or-equal. -/
def f32Le (a b : Nat) : Bool := FV.le (f32 a) (f32 b)
/-- FP32 magnitude. -/
def f32Abs (a : Nat) : Nat := a % 2 ^ 31
/-- FP32 sign change. -/
def f32Neg (a : Nat) : Nat := (a % 2 ^ 32) ^^^ 2 ^ 31
/-- Whether an FP32 code is finite. -/
def f32Fin (a : Nat) : Bool := (f32 a).isFin
/-- Whether an FP32 code is NaN. -/
def f32Nan (a : Nat) : Bool := (f32 a).isNan
/-- An integer as FP32, nearest-even. -/
def f32OfInt (i : Int) : Nat := toF32 (FV.ofInt i 0)
/-- 1.0 in FP32. -/
def f32One : Nat := 0x3F800000
/-- The larger of two FP32 codes that are not NaN. -/
def f32Max (a b : Nat) : Nat := if f32Lt a b then b else a
/-- The smaller of two FP32 codes that are not NaN. -/
def f32Min (a b : Nat) : Nat := if f32Lt b a then b else a

/-! ## Exponential and logarithm (R67) -/

/-- Fraction bits of the fixed-point values below. -/
def fixBits : Nat := 192

/-- ln 2 with `fixBits` fraction bits. -/
def fixLn2 : Nat := 0xb17217f7d1cf79abc9e3b39803f2f6af40f343267298b62d

/-- The value of a non-negative FP32 code; the code of infinity stands for 2¹²⁸. -/
def codeValue (c : Nat) : FV :=
  let e : Nat := c / 2 ^ 23
  if e = 0 then .fin false c (-149) else .fin false (c % 2 ^ 23 + 2 ^ 23) ((e : Int) - 150)

/-- The non-negative FP32 codes within 2 ulp of the value v × 2^e, and the nearest one, the ulp being that of the nearest. -/
def codesNear (v : Nat) (e : Int) : List Nat :=
  let t := FV.fin false v e
  let c := toF32 t
  let ulp : Int := Int.ofNat (Nat.max 1 (c / 2 ^ 23)) - 150
  (tab 5 (fun i => c + i - 2)).filter (fun k => k == c ||
    (decide (k ≤ 0x7F800000) && FV.le ((codeValue k).add t.neg).abs (.fin false 2 ulp)))

/-- A choice among the codes within 2 ulp of the value v × 2^e. -/
def chooseNear (v : Nat) (e : Int) (pick : Nat) : Nat :=
  let cs := codesNear v e
  nth 0 cs (pick % Nat.max 1 cs.length)

/-- A finite value in fixed point, rounded down. -/
def toFix (n : Bool) (m : Nat) (e : Int) : Int :=
  let k : Int := e + (fixBits : Int)
  let a : Int := if k < 0 then ((m / 2 ^ (-k).toNat : Nat) : Int) else ((m * 2 ^ k.toNat : Nat) : Int)
  if n then -a else a

/-- e^r in fixed point for r from 0 to ln 2, by its series. -/
def fixExp (r : Nat) : Nat :=
  (iter 48 (fun (acc : Nat × Nat) i =>
    let term := acc.2 * r / 2 ^ fixBits / (i + 1)
    (acc.1 + term, term)) (2 ^ fixBits, 2 ^ fixBits)).1

/-- ln y in fixed point for y = m / 2^b from 1 to 2, by the series of the inverse hyperbolic tangent of (y − 1) / (y + 1). -/
def fixLn (m b : Nat) : Nat :=
  let z := (m - 2 ^ b) * 2 ^ fixBits / (m + 2 ^ b)
  let zz := z * z / 2 ^ fixBits
  2 * (iter 64 (fun (acc : Nat × Nat) i => (acc.1 + acc.2 / (2 * i + 1), acc.2 * zz / 2 ^ fixBits)) (0, z)).1

/-- R67: e^x, exact where the spec fixes it; elsewhere a code within 2 ulp of it, which a free value chooses (log entry 8). -/
def f32Exp (a : Nat) : Nat :=
  match f32 a with
  | .nan => 0x7FC00000
  | .inf true => 0
  | .inf false => 0x7F800000
  | .fin _ 0 _ => f32One
  | .fin n m e =>
    if 128 * 2 ^ (-e).toNat ≤ m * 2 ^ e.toNat then (if n then 0 else 0x7F800000)
    else
      let x := toFix n m e
      let k := x / (fixLn2 : Int)
      chooseNear (fixExp (x - k * fixLn2).toNat) (k - fixBits) (Config.expF32 (BitVec.ofNat 32 a)).toNat

/-- R67: ln x, a code within 2 ulp of it, which a free value chooses (log entry 8). -/
def f32Ln (a : Nat) : Nat :=
  match f32 a with
  | .nan => 0x7FC00000
  | .inf true => 0x7FC00000
  | .inf false => 0x7F800000
  | .fin n m e => if m = 0 then 0xFF800000 else if n then 0x7FC00000
      else
        let b := Nat.log2 m
        let v : Int := (e + b) * fixLn2 + fixLn m b
        chooseNear v.natAbs (-(fixBits : Int)) (Config.lnF32 (BitVec.ofNat 32 a)).toNat + (if v < 0 then 2 ^ 31 else 0)

/-- Nearest whole number, ties to even, of a finite value; 0 otherwise. -/
def FV.toIntRne : FV → Int
  | .fin n m e => smant n (roundTo rne m e 0)
  | _ => 0

/-- Largest whole number not above a finite value; 0 otherwise. -/
def FV.floor : FV → Int
  | .fin n m e =>
    let k := roundTo ⟨1, 0⟩ m e 0
    let whole := decide (0 ≤ e) || m % 2 ^ (-e).toNat == 0
    if n && !whole then -(k : Int) - 1 else smant n k
  | _ => 0

/-- Quotient of exact integers i ÷ n (n > 0), times 2^e, rounded to FP32. -/
def f32Ratio (i : Int) (e : Int) (n : Nat) : Nat := toF32 ((FV.ofInt i e).div (.fin false n 0))

/-! ## Formats by code (R18) -/

/-- Element format of a floating operand or output code. -/
def fmtFloat (code : Nat) : Option FpFmt :=
  if code = 0 then some fp32 else if code = 1 then some bf16 else if code = 2 then some fp16
  else if code = 3 ∨ code = 5 then some e4m3 else if code = 4 ∨ code = 6 then some e5m2
  else if code = 7 then some e3m2 else if code = 8 then some e2m3 else if code = 9 then some e2m1 else none

/-- Element bits of a format code (R18). -/
def fmtBits (code : Nat) : Nat := nth 0 [32, 16, 16, 8, 8, 8, 8, 6, 6, 4, 8, 8, 4, 4] code

/-- Formats with an E8M0 scale per 32 elements (R18). -/
def fmtBlocked (code : Nat) : Bool :=
  (decide (5 ≤ code) && decide (code ≤ 9)) || code == 0x0B || code == 0x0D

/-- MX output formats (R30). -/
def fmtMx (code : Nat) : Bool := decide (5 ≤ code) && decide (code ≤ 9)

/-- Allowed as A or B (R18). -/
def fmtOperand (code : Nat) : Bool := decide (1 ≤ code) && decide (code ≤ 0x0D)

/-- Allowed as output (R18). -/
def fmtOutput (code : Nat) : Bool := decide (code ≤ 0x0C) && !(code == 0x0B)

/-- R23: the classes of a pairing that is allowed. -/
def fmtPair (a b : Nat) : Bool :=
  (decide (3 ≤ a) && decide (a ≤ 9) && decide (3 ≤ b) && decide (b ≤ 9)) ||
  (decide (0x0A ≤ a) && decide (a ≤ 0x0D) && decide (0x0A ≤ b) && decide (b ≤ 0x0D)) ||
  (a == b && (a == 1 || a == 2))

/-- Bytes of `k` packed elements and their scale bytes (R20, R21). -/
def fmtRowBytes (code k : Nat) : Nat :=
  ceilDiv (k * fmtBits code) 8 + (if fmtBlocked code then k / 32 else 0)

/-- Element `i` of a packed row (R20). -/
def packedElem (code : Nat) (row : Bytes) (i : Nat) : Nat :=
  let w := fmtBits code
  let bit := i * w
  bits (leNat ((row.drop (bit / 8)).take 5)) (bit % 8) w

/-- Value of a raw element, without its scale. -/
def elemValue (code raw : Nat) : FV :=
  match fmtFloat code with
  | some f => f.dec raw
  | none => FV.ofInt (signed (fmtBits code) raw) 0

/-- R22: value of an element under a scale byte. -/
def scaled (v : FV) (scale : Nat) : FV :=
  if scale = 255 then .nan
  else match v with
    | .fin n m e => .fin n m (e + (scale : Int) - 127)
    | x => x

/-- R21, R22: the `k` values of a packed row of `k` elements. Scale byte q of the row is that of its elements 32q to 32q + 31,
counted from the tile's own first index, also where K0 is no multiple of 32 (DESIGN CHOICE, log entry 81: R21 then names
blocks that the row's K_T ÷ 32 bytes cannot hold). -/
def rowValues (code k : Nat) (row : Bytes) : List FV :=
  let sc := ceilDiv (k * fmtBits code) 8
  tab k (fun i =>
    let v := elemValue code (packedElem code row i)
    if fmtBlocked code then scaled v (nth 0 row (sc + i / 32)).toNat else v)

/-- Pack raw elements (R20); the bits a last partial byte leaves over take those of `pad`. -/
def packElems (w : Nat) (xs : List Nat) (pad : Nat) : Bytes :=
  let total := xs.length * w
  let v := (xs.foldr (fun x acc => (x % 2 ^ w) + acc * 2 ^ w) 0)
  let n := ceilDiv total 8
  natLE n (v + (pad % 2 ^ (8 * n - total)) * 2 ^ total)

/-- R25: the 16-bit value drawn for an element at a global row and column. -/
def stochDraw (seed row col : Nat) : Nat :=
  let s0 := (seed % 2 ^ 32) ^^^ ((row * 0x9E3779B9) % 2 ^ 32) ^^^ ((col * 0x85EBCA6B) % 2 ^ 32)
  let s1 := if s0 = 0 then 1 else s0
  let s8 := iter 8 (fun s _ => if s % 2 = 1 then (s / 2) ^^^ 0x80200003 else s / 2) s1
  bits s8 16 16

/-- The rounding of an element: mode, seed and global coordinates (R24, R25). -/
def rndAt (mode seed row col : Nat) : Rnd := ⟨mode, if mode = 2 then stochDraw seed row col else 0⟩

/-- Largest normal exponent of an MX element format (R30). -/
def mxEmax (code : Nat) : Int :=
  if code = 5 then 8 else if code = 6 then 15 else if code = 7 then 4 else 2

/-- Exponent of the leading bit of a finite non-zero value. -/
def FV.ilog : FV → Int
  | .fin _ m e => (m.log2 : Int) + e
  | _ => 0

/-- R30: one block of 32 values as raw elements, the scale byte and the conversion events; a block with scale 0xFF sets
MX_NAN_BLOCK alone, not NAN_OUT (DESIGN CHOICE, log entry 81: R60 does not say whether its scale is a NaN written). -/
def mxBlock (code : Nat) (ftz : Bool) (xs : List (FV × Rnd)) : List Nat × Nat × Nat :=
  if xs.any (fun x => !x.1.isFin) then (xs.map (fun _ => 0), 255, flagMxNan)
  else if xs.all (fun x => x.1.isZero) then (xs.map (fun _ => 0), 127, 0)
  else
    let big := xs.foldl (fun b x => if FV.lt b x.1.abs then x.1.abs else b) (FV.fin false 0 0)
    let sc := clampInt (-127) 127 (big.ilog - mxEmax code)
    let f := (fmtFloat code).getD e2m1
    let cs := xs.map (fun x => match x.1 with
      | .fin n m e => f.enc x.2 true ftz (.fin n m (e - sc))
      | _ => (0, 0))
    (cs.map (·.1), (sc + 127).toNat, cs.foldl (fun a c => a ||| c.2) 0)

end Sys2Proof.Machine
end

