-- ==== Sys2Proof/Machine/Table.lean ====
section
/-! DEFINITION. Sparse tables (registers, memories, records held by number) in one canonical form: strictly
rising keys and no entry equal to what an unlisted key reads as, so that equal contents are equal data. -/

namespace Sys2Proof.Machine

variable {α : Type}

/-- What the table holds at key `k`, where `d` says what an unlisted key reads as. -/
def SMap.get (d : Nat → α) : SMap α → Nat → α
  | [], k => d k
  | (j, v) :: m, k => if j = k then v else SMap.get d m k

/-- The table without key `k`. -/
def SMap.del (m : SMap α) (k : Nat) : SMap α := m.filter (fun e => !decide (e.1 = k))

/-- Put an entry before the first larger key. -/
def SMap.ins : SMap α → Nat → α → SMap α
  | [], k, v => [(k, v)]
  | (j, u) :: m, k, v => if k < j then (k, v) :: (j, u) :: m else (j, u) :: SMap.ins m k v

/-- The table with key `k` holding `v`; the value an unlisted key reads as is not listed. -/
def SMap.set [DecidableEq α] (d : Nat → α) (m : SMap α) (k : Nat) (v : α) : SMap α :=
  if v = d k then SMap.del m k else SMap.ins (SMap.del m k) k v

/-- The keys rise strictly. -/
def SMap.sorted : SMap α → Bool
  | [] => true
  | [_] => true
  | a :: b :: m => decide (a.1 < b.1) && SMap.sorted (b :: m)

/-- The canonical form. -/
def SMap.wf [DecidableEq α] (d : Nat → α) (m : SMap α) : Bool :=
  SMap.sorted m && m.all (fun e => !decide (e.2 = d e.1))

/-- A table of optional entries: an unlisted key holds none. -/
abbrev OMap (α : Type) := SMap (Option α)

/-- The entry at `k`, if any. -/
def OMap.find (m : OMap α) (k : Nat) : Option α := SMap.get (fun _ => none) m k

/-- The table with an entry at `k`. -/
def OMap.put [DecidableEq α] (m : OMap α) (k : Nat) (v : α) : OMap α :=
  SMap.set (fun _ => none) m k (some v)

/-- The table without an entry at `k`. -/
def OMap.drop [DecidableEq α] (m : OMap α) (k : Nat) : OMap α := SMap.set (fun _ => none) m k none

/-- The entries held, in key order. -/
def OMap.entries (m : OMap α) : List (Nat × α) :=
  m.filterMap (fun e => e.2.map (fun v => (e.1, v)))

/-- A byte-addressed memory; a byte that nothing has written reads as zero (DESIGN CHOICE, log entry 2). -/
abbrev Memory := SMap Byte

/-- Read one byte of a memory. -/
def Memory.byte (m : Memory) (a : Nat) : Byte := SMap.get (fun _ => (0 : Byte)) m a

/-- Write one byte of a memory. -/
def Memory.setByte (m : Memory) (a : Nat) (v : Byte) : Memory := SMap.set (fun _ => (0 : Byte)) m a v

/-- The canonical form of a memory: addresses strictly rising, no zero byte listed. -/
def Memory.wf (m : Memory) : Bool := SMap.wf (fun _ => (0 : Byte)) m

/-- `n` bytes from address `a` upwards. -/
def Memory.read (m : Memory) (a n : Nat) : Bytes := tab n (fun i => Memory.byte m (a + i))

/-- Store bytes from address `a` upwards. -/
def Memory.write : Memory → Nat → Bytes → Memory
  | m, _, [] => m
  | m, a, b :: bs => Memory.write (Memory.setByte m a b) (a + 1) bs

end Sys2Proof.Machine
end

