-- ==== Sys2Proof/Machine/RegTable.lean ====
section
/-! DEFINITION. The register map: one row per register of the chapters' register tables (R60, R93, R116, R137, R164,
R192, R232, R261, R288, R289, R311, R331, R357, R378, R413, R439, R462, R490), with its address, its live class (R393),
its signature membership (R400) and its fields' access types and reset values (R4). Transcribed row by row from the
tables of spec/. -/

namespace Sys2Proof.Machine

/-- Field access types of R4. -/
inductive Access where
  | ro | rw | w1c | w1s | wo | rc
  deriving DecidableEq, Repr

/-- The boundaries at which live writes apply, as the register maps name them. -/
inductive Boundary where
  | immediate | tileDispatch | launchStart | launchDispatch | nextWait | acceptance | frameBoundary
  | nextText | nextSample | nextPicture | nextCoded | nextBatch | nextTick | nextStep | nextEdge
  | nextUpdate | loopCommit | nextReset | nextPeriod
  deriving DecidableEq, Repr

/-- The live class of a register (R393). -/
inductive RegClass where
  | ro | wo | rc | rwq
  | rwl (b : Boundary)
  deriving DecidableEq, Repr

/-- One field of a register's field map. -/
structure RegField where
  lo : Nat
  width : Nat
  access : Access
  reset : Nat
  deriving DecidableEq, Repr

/-- One row of a register map; `dims` lists (stride, count) of each index, outermost first. -/
structure RegDef where
  name : String
  base : Nat
  dims : List (Nat × Nat)
  cls : RegClass
  signed : Bool
  counter : Bool
  fields : List RegField
  deriving DecidableEq, Repr

/-- Register rows of chapter 02 of spec/. -/
def gauntletRegs : List RegDef := [
  ⟨"GNT_ID", 0x4000000, [(0x10000, 16)], .ro, false, false, [⟨0, 2, .ro, 0⟩, ⟨2, 2, .ro, 0⟩]⟩,
  ⟨"GNT_STATE", 0x4000008, [(0x10000, 16)], .ro, false, false, [⟨0, 2, .ro, 0⟩, ⟨8, 8, .ro, 0⟩, ⟨16, 1, .ro, 0⟩]⟩,
  ⟨"GNT_TILE_LIMIT", 0x4000010, [(0x10000, 16)], .rwl .tileDispatch, true, false, [⟨0, 16, .rw, 0x834⟩]⟩,
  ⟨"GNT_TILE_EST", 0x4000018, [(0x10000, 16)], .ro, false, false, [⟨0, 32, .ro, 0⟩, ⟨32, 32, .ro, 0⟩]⟩,
  ⟨"GNT_TILE_CYC", 0x4000020, [(0x10000, 16)], .ro, false, false, [⟨0, 32, .ro, 0⟩]⟩,
  ⟨"GNT_REJECT", 0x4000028, [(0x10000, 16)], .rwl .immediate, false, false, [⟨0, 1, .w1c, 0⟩, ⟨1, 1, .w1c, 0⟩, ⟨2, 1, .w1c, 0⟩, ⟨3, 1, .w1c, 0⟩, ⟨4, 1, .w1c, 0⟩, ⟨5, 1, .w1c, 0⟩, ⟨6, 1, .w1c, 0⟩, ⟨7, 1, .w1c, 0⟩, ⟨8, 1, .w1c, 0⟩, ⟨9, 1, .w1c, 0⟩, ⟨10, 1, .w1c, 0⟩, ⟨11, 1, .w1c, 0⟩]⟩,
  ⟨"GNT_REJECT_DESC", 0x4000030, [(0x10000, 16)], .ro, false, false, [⟨0, 64, .ro, 0⟩]⟩,
  ⟨"GNT_CONV_FLAGS", 0x4000038, [(0x10000, 16)], .rwl .immediate, false, false, [⟨0, 1, .w1c, 0⟩, ⟨1, 1, .w1c, 0⟩, ⟨2, 1, .w1c, 0⟩, ⟨3, 1, .w1c, 0⟩, ⟨4, 1, .w1c, 0⟩, ⟨5, 1, .w1c, 0⟩, ⟨6, 1, .w1c, 0⟩]⟩,
  ⟨"GNT_CNT_TILES", 0x4000040, [(0x10000, 16)], .ro, false, true, [⟨0, 64, .ro, 0⟩]⟩,
  ⟨"GNT_CNT_REJECT", 0x4000048, [(0x10000, 16)], .ro, false, true, [⟨0, 64, .ro, 0⟩]⟩,
  ⟨"GNT_CNT_OVERRUN", 0x4000050, [(0x10000, 16)], .ro, false, true, [⟨0, 64, .ro, 0⟩]⟩,
  ⟨"GNT_CNT_BUSY", 0x4000058, [(0x10000, 16)], .ro, false, true, [⟨0, 64, .ro, 0⟩]⟩]

/-- Register rows of chapter 03 of spec/. -/
def attentionRegs : List RegDef := [
  ⟨"ATT_STATE", 0x4100000, [(0x10000, 4)], .ro, false, false, [⟨0, 2, .ro, 0⟩, ⟨8, 8, .ro, 0⟩]⟩,
  ⟨"ATT_REJECT", 0x4100008, [(0x10000, 4)], .rwl .immediate, false, false, [⟨0, 1, .w1c, 0⟩, ⟨1, 1, .w1c, 0⟩, ⟨2, 1, .w1c, 0⟩, ⟨3, 1, .w1c, 0⟩, ⟨4, 1, .w1c, 0⟩, ⟨5, 1, .w1c, 0⟩, ⟨6, 1, .w1c, 0⟩, ⟨7, 1, .w1c, 0⟩, ⟨8, 1, .w1c, 0⟩, ⟨9, 1, .w1c, 0⟩]⟩,
  ⟨"ATT_REJECT_DESC", 0x4100010, [(0x10000, 4)], .ro, false, false, [⟨0, 64, .ro, 0⟩]⟩,
  ⟨"ATT_FLAGS", 0x4100018, [(0x10000, 4)], .rwl .immediate, false, false, [⟨0, 1, .w1c, 0⟩, ⟨1, 1, .w1c, 0⟩, ⟨2, 1, .w1c, 0⟩, ⟨3, 1, .w1c, 0⟩]⟩,
  ⟨"ATT_CNT_CALLS", 0x4100020, [(0x10000, 4)], .ro, false, true, [⟨0, 64, .ro, 0⟩]⟩,
  ⟨"ATT_CNT_ITEMS", 0x4100028, [(0x10000, 4)], .ro, false, true, [⟨0, 64, .ro, 0⟩]⟩,
  ⟨"ATT_CNT_LA_HIT", 0x4100030, [(0x10000, 4)], .ro, false, true, [⟨0, 64, .ro, 0⟩]⟩,
  ⟨"ATT_CNT_LA_LATE", 0x4100038, [(0x10000, 4)], .ro, false, true, [⟨0, 64, .ro, 0⟩]⟩,
  ⟨"ATT_CNT_LA_MISS", 0x4100040, [(0x10000, 4)], .ro, false, true, [⟨0, 64, .ro, 0⟩]⟩,
  ⟨"ATT_CNT_LA_NATIVE", 0x4100048, [(0x10000, 4)], .ro, false, true, [⟨0, 64, .ro, 0⟩]⟩,
  ⟨"ATT_CNT_LA_WASTE", 0x4100050, [(0x10000, 4)], .ro, false, true, [⟨0, 64, .ro, 0⟩]⟩,
  ⟨"ATT_CNT_LA_FETCH_ERR", 0x4100058, [(0x10000, 4)], .ro, false, true, [⟨0, 64, .ro, 0⟩]⟩,
  ⟨"KVR_SEQ_BASE", 0x4140000, [(0x10000, 4)], .rwq, true, false, [⟨0, 64, .rw, 0⟩]⟩,
  ⟨"KVR_POOL_BASE", 0x4140008, [(0x10000, 4)], .rwq, true, false, [⟨0, 64, .rw, 0⟩]⟩,
  ⟨"KVR_POOL_PAGES", 0x4140010, [(0x10000, 4)], .rwq, true, false, [⟨0, 24, .rw, 0⟩]⟩,
  ⟨"KVR_PAGE_BYTES", 0x4140018, [(0x10000, 4)], .rwq, true, false, [⟨0, 22, .rw, 0⟩]⟩,
  ⟨"KVR_FREE_PAGES", 0x4140020, [(0x10000, 4)], .ro, false, false, [⟨0, 24, .ro, 0⟩]⟩,
  ⟨"KVR_REJECT", 0x4140028, [(0x10000, 4)], .rwl .immediate, false, false, [⟨0, 1, .w1c, 0⟩, ⟨1, 1, .w1c, 0⟩, ⟨2, 1, .w1c, 0⟩, ⟨3, 1, .w1c, 0⟩, ⟨4, 1, .w1c, 0⟩, ⟨5, 1, .w1c, 0⟩, ⟨6, 1, .w1c, 0⟩, ⟨7, 1, .w1c, 0⟩, ⟨8, 1, .w1c, 0⟩, ⟨9, 1, .w1c, 0⟩, ⟨10, 1, .w1c, 0⟩]⟩,
  ⟨"KVR_CNT_TOK_COMMIT", 0x4140030, [(0x10000, 4)], .ro, false, true, [⟨0, 64, .ro, 0⟩]⟩,
  ⟨"KVR_CNT_TOK_TENT", 0x4140038, [(0x10000, 4)], .ro, false, true, [⟨0, 64, .ro, 0⟩]⟩,
  ⟨"KVR_CNT_TOK_ROLLBACK", 0x4140040, [(0x10000, 4)], .ro, false, true, [⟨0, 64, .ro, 0⟩]⟩,
  ⟨"KVR_CNT_BROKEN", 0x4140048, [(0x10000, 4)], .ro, false, true, [⟨0, 64, .ro, 0⟩]⟩]

/-- Register rows of chapter 04 of spec/. -/
def samplerRegs : List RegDef := [
  ⟨"VIS_CR_STATE", 0x6200000, [], .ro, false, false, [⟨0, 2, .ro, 0⟩, ⟨8, 8, .ro, 0⟩, ⟨16, 16, .ro, 0⟩]⟩,
  ⟨"VIS_CR_REJECT", 0x6200008, [], .rwl .immediate, false, false, [⟨0, 1, .w1c, 0⟩, ⟨1, 1, .w1c, 0⟩, ⟨2, 1, .w1c, 0⟩, ⟨3, 1, .w1c, 0⟩, ⟨4, 1, .w1c, 0⟩, ⟨5, 1, .w1c, 0⟩]⟩,
  ⟨"VIS_CR_REJECT_DESC", 0x6200010, [], .ro, false, false, [⟨0, 64, .ro, 0⟩]⟩,
  ⟨"VIS_CR_FLAGS", 0x6200018, [], .rwl .immediate, false, false, [⟨0, 1, .w1c, 0⟩, ⟨1, 1, .w1c, 0⟩, ⟨2, 1, .w1c, 0⟩, ⟨3, 1, .w1c, 0⟩]⟩,
  ⟨"VIS_CR_CNT_CALLS", 0x6200020, [], .ro, false, true, [⟨0, 64, .ro, 0⟩]⟩,
  ⟨"VIS_CR_CNT_BOXES", 0x6200028, [], .ro, false, true, [⟨0, 64, .ro, 0⟩]⟩,
  ⟨"VIS_CR_CNT_FILLED", 0x6200030, [], .ro, false, true, [⟨0, 64, .ro, 0⟩]⟩,
  ⟨"VIS_CR_CNT_BAD_BOX", 0x6200038, [], .ro, false, true, [⟨0, 64, .ro, 0⟩]⟩]

/-- Register rows of chapter 05 of spec/. -/
def scanRegs : List RegDef := [
  ⟨"GNT_SCAN_FLAGS", 0x4000060, [(0x10000, 16)], .rwl .immediate, false, false, [⟨0, 1, .w1c, 0⟩, ⟨1, 1, .w1c, 0⟩, ⟨2, 1, .w1c, 0⟩, ⟨3, 1, .w1c, 0⟩]⟩,
  ⟨"GNT_CNT_SCAN_STEPS", 0x4000068, [(0x10000, 16)], .ro, false, true, [⟨0, 64, .ro, 0⟩]⟩,
  ⟨"GNT_CNT_STAG", 0x4000070, [(0x10000, 16)], .ro, false, true, [⟨0, 64, .ro, 0⟩]⟩,
  ⟨"GNT_CNT_STATE_WAIT", 0x4000078, [(0x10000, 16)], .ro, false, true, [⟨0, 64, .ro, 0⟩]⟩,
  ⟨"GNT_CNT_STATE_LOST", 0x4000080, [(0x10000, 16)], .ro, false, true, [⟨0, 64, .ro, 0⟩]⟩]

/-- Register rows of chapter 06 of spec/. -/
def fingerRegs : List RegDef := [
  ⟨"FNG_STATE", 0x5000000, [(0x10000, 4)], .ro, false, false, [⟨0, 16, .ro, 0⟩]⟩,
  ⟨"FNG_REJECT", 0x5000008, [(0x10000, 4)], .rwl .immediate, false, false, [⟨0, 1, .w1c, 0⟩, ⟨1, 1, .w1c, 0⟩, ⟨2, 1, .w1c, 0⟩, ⟨3, 1, .w1c, 0⟩, ⟨4, 1, .w1c, 0⟩, ⟨5, 1, .w1c, 0⟩, ⟨6, 1, .w1c, 0⟩]⟩,
  ⟨"FNG_REJECT_DESC", 0x5000010, [(0x10000, 4)], .ro, false, false, [⟨0, 64, .ro, 0⟩]⟩,
  ⟨"FNG_FAULT", 0x5000018, [(0x10000, 4)], .rwl .immediate, false, false, [⟨0, 8, .ro, 0⟩, ⟨8, 8, .ro, 0⟩, ⟨16, 4, .ro, 0⟩, ⟨20, 6, .ro, 0⟩, ⟨63, 1, .w1c, 0⟩]⟩,
  ⟨"FNG_FAULT_PC", 0x5000020, [(0x10000, 4)], .ro, false, false, [⟨0, 32, .ro, 0⟩]⟩,
  ⟨"FNG_FAULT_TVAL", 0x5000028, [(0x10000, 4)], .ro, false, false, [⟨0, 32, .ro, 0⟩]⟩,
  ⟨"FNG_STALL_LIMIT", 0x5000030, [(0x10000, 4)], .rwl .launchStart, true, false, [⟨0, 21, .rw, 0x1000⟩]⟩,
  ⟨"FNG_CNT_LAUNCH", 0x5000038, [(0x10000, 4)], .ro, false, true, [⟨0, 64, .ro, 0⟩]⟩,
  ⟨"FNG_CNT_FAULT", 0x5000040, [(0x10000, 4)], .ro, false, true, [⟨0, 64, .ro, 0⟩]⟩,
  ⟨"FNG_CNT_ECC_CORR", 0x5000048, [(0x10000, 4)], .ro, false, true, [⟨0, 64, .ro, 0⟩]⟩,
  ⟨"FNG_CNT_BUSY", 0x5000050, [(0x10000, 4)], .ro, false, true, [⟨0, 64, .ro, 0⟩]⟩,
  ⟨"FNG_CNT_AMO_FP", 0x5000058, [(0x10000, 4)], .ro, false, true, [⟨0, 64, .ro, 0⟩]⟩,
  ⟨"FNG_SCR_OWN", 0x5000100, [(0x10000, 4), (0x8, 48)], .rwl .launchDispatch, true, false, [⟨0, 8, .rw, 0⟩, ⟨8, 1, .rw, 0⟩]⟩,
  ⟨"MTN_STATE", 0x5080000, [(0x1000, 64)], .ro, false, false, [⟨0, 2, .ro, 0⟩, ⟨8, 8, .ro, 0⟩, ⟨16, 6, .ro, 0⟩]⟩,
  ⟨"MTN_PART", 0x5080008, [(0x1000, 64)], .rwq, true, false, [⟨0, 3, .rw, 0⟩, ⟨8, 1, .rw, 0⟩]⟩,
  ⟨"MTN_CNT_BAR", 0x5080010, [(0x1000, 64)], .ro, false, true, [⟨0, 64, .ro, 0⟩]⟩,
  ⟨"MTN_CNT_MSG", 0x5080018, [(0x1000, 64)], .ro, false, true, [⟨0, 64, .ro, 0⟩]⟩,
  ⟨"MTN_CNT_MSG_DROP", 0x5080020, [(0x1000, 64)], .ro, false, true, [⟨0, 64, .ro, 0⟩]⟩,
  ⟨"MTN_CNT_BANK_CONFLICT", 0x5080028, [(0x1000, 64)], .ro, false, true, [⟨0, 64, .ro, 0⟩]⟩]

/-- Register rows of chapter 07 of spec/. -/
def unifiedRegs : List RegDef := [
  ⟨"UMR_STATE", 0x7000000, [], .ro, false, false, [⟨0, 2, .ro, 1⟩, ⟨2, 1, .ro, 0⟩, ⟨16, 16, .ro, 0⟩]⟩,
  ⟨"UMR_REJECT", 0x7000008, [], .rwl .immediate, false, false, [⟨0, 1, .w1c, 0⟩, ⟨1, 1, .w1c, 0⟩, ⟨2, 1, .w1c, 0⟩, ⟨3, 1, .w1c, 0⟩, ⟨4, 1, .w1c, 0⟩, ⟨5, 1, .w1c, 0⟩, ⟨6, 1, .w1c, 0⟩, ⟨7, 1, .w1c, 0⟩, ⟨8, 1, .w1c, 0⟩]⟩,
  ⟨"UMR_REJECT_DESC", 0x7000010, [], .ro, false, false, [⟨0, 64, .ro, 0⟩]⟩,
  ⟨"UMR_FAULT", 0x7000018, [], .rwl .immediate, false, false, [⟨0, 8, .ro, 0⟩, ⟨8, 8, .ro, 0⟩, ⟨63, 1, .w1c, 0⟩]⟩,
  ⟨"UMR_FAULT_ADDR", 0x7000020, [], .ro, false, false, [⟨0, 64, .ro, 0⟩]⟩,
  ⟨"UMR_TIMEOUT_LPDDR", 0x7000028, [], .rwl .nextWait, true, false, [⟨0, 16, .rw, 0x32⟩]⟩,
  ⟨"UMR_TIMEOUT_FLASH", 0x7000030, [], .rwl .nextWait, true, false, [⟨0, 16, .rw, 0x7d0⟩]⟩,
  ⟨"UMR_FREE_HBM", 0x7000038, [], .ro, false, false, [⟨0, 14, .ro, 0x3000⟩, ⟨16, 14, .ro, 0x3000⟩]⟩,
  ⟨"UMR_FREE_LPDDR", 0x7000040, [], .ro, false, false, [⟨0, 17, .ro, 0x1ff70⟩]⟩,
  ⟨"UMR_FREE_FLASH", 0x7000048, [], .ro, false, false, [⟨0, 21, .ro, 0x1c0000⟩]⟩,
  ⟨"UMR_FLASH_STATE", 0x7000050, [], .ro, false, false, [⟨0, 1, .ro, 0⟩, ⟨1, 1, .ro, 0⟩, ⟨4, 12, .ro, 0x4e2⟩, ⟨16, 16, .ro, 0⟩]⟩,
  ⟨"UMR_RETIRED", 0x7000058, [], .ro, false, false, [⟨0, 12, .ro, 0⟩, ⟨16, 12, .ro, 0⟩, ⟨32, 32, .ro, 0⟩]⟩,
  ⟨"UMR_CNT_FETCH_LPDDR", 0x7000060, [], .ro, false, true, [⟨0, 64, .ro, 0⟩]⟩,
  ⟨"UMR_CNT_FETCH_FLASH", 0x7000068, [], .ro, false, true, [⟨0, 64, .ro, 0⟩]⟩,
  ⟨"UMR_CNT_WRITEBACK", 0x7000070, [], .ro, false, true, [⟨0, 64, .ro, 0⟩]⟩,
  ⟨"UMR_CNT_EVICT", 0x7000078, [], .ro, false, true, [⟨0, 64, .ro, 0⟩]⟩,
  ⟨"UMR_CNT_BYPASS", 0x7000080, [], .ro, false, true, [⟨0, 64, .ro, 0⟩]⟩,
  ⟨"UMR_CNT_WAIT_MIGRATE", 0x7000088, [], .ro, false, true, [⟨0, 64, .ro, 0⟩]⟩,
  ⟨"UMR_CNT_TIMEOUT", 0x7000090, [], .ro, false, true, [⟨0, 64, .ro, 0⟩]⟩,
  ⟨"UMR_CNT_XLATE_MISS", 0x7000098, [], .ro, false, true, [⟨0, 64, .ro, 0⟩]⟩,
  ⟨"UMR_CNT_CORR_HBM", 0x70000a0, [], .ro, false, true, [⟨0, 64, .ro, 0⟩]⟩,
  ⟨"UMR_CNT_CORR_LPDDR", 0x70000a8, [], .ro, false, true, [⟨0, 64, .ro, 0⟩]⟩,
  ⟨"UMR_CNT_CORR_FLASH", 0x70000b0, [], .ro, false, true, [⟨0, 64, .ro, 0⟩]⟩,
  ⟨"UMR_CNT_UNC", 0x70000b8, [], .ro, false, true, [⟨0, 64, .ro, 0⟩]⟩,
  ⟨"UMR_CNT_UNC_RECOVERED", 0x70000c0, [], .ro, false, true, [⟨0, 64, .ro, 0⟩]⟩,
  ⟨"UMR_CNT_GC_DELAY", 0x70000c8, [], .ro, false, true, [⟨0, 64, .ro, 0⟩]⟩,
  ⟨"UMR_CNT_DISTURB_REFRESH", 0x70000d0, [], .ro, false, true, [⟨0, 64, .ro, 0⟩]⟩]

/-- Register rows of chapter 08 of spec/. -/
def queueRegs1 : List RegDef := [
  ⟨"QUE_STATE", 0x8000000, [], .ro, false, false, [⟨0, 13, .ro, 0⟩, ⟨16, 1, .ro, 0⟩, ⟨17, 1, .ro, 0⟩, ⟨18, 1, .ro, 0⟩]⟩,
  ⟨"QUE_REJECT", 0x8000008, [], .rwl .immediate, false, false, [⟨0, 1, .w1c, 0⟩, ⟨1, 1, .w1c, 0⟩, ⟨2, 1, .w1c, 0⟩, ⟨3, 1, .w1c, 0⟩, ⟨4, 1, .w1c, 0⟩, ⟨5, 1, .w1c, 0⟩, ⟨6, 1, .w1c, 0⟩, ⟨7, 1, .w1c, 0⟩, ⟨8, 1, .w1c, 0⟩, ⟨9, 1, .w1c, 0⟩]⟩,
  ⟨"QUE_REJECT_DESC", 0x8000010, [], .ro, false, false, [⟨0, 64, .ro, 0⟩]⟩,
  ⟨"QUE_MODE", 0x8000018, [], .rwq, true, false, [⟨0, 1, .rw, 0⟩]⟩,
  ⟨"QUE_RT_RESERVE", 0x8000020, [], .rwl .acceptance, true, false, [⟨0, 13, .rw, 0x200⟩]⟩,
  ⟨"QUE_BUF_SPLIT", 0x8000028, [], .rwq, true, false, [⟨0, 6, .rw, 0x30⟩]⟩,
  ⟨"QUE_SWAP_GRAN", 0x8000030, [], .rwq, true, false, [⟨0, 6, .rw, 0x2b⟩]⟩,
  ⟨"QUE_CNT_ACCEPT", 0x8000040, [], .ro, false, true, [⟨0, 64, .ro, 0⟩]⟩,
  ⟨"QUE_CNT_COMPLETE", 0x8000048, [], .ro, false, true, [⟨0, 64, .ro, 0⟩]⟩,
  ⟨"QUE_CNT_REFUSED", 0x8000050, [], .ro, false, true, [⟨0, 64, .ro, 0⟩]⟩,
  ⟨"QUE_CNT_BACKPRESSURE", 0x8000058, [], .ro, false, true, [⟨0, 64, .ro, 0⟩]⟩,
  ⟨"QUE_CNT_PREEMPT", 0x8000060, [], .ro, false, true, [⟨0, 64, .ro, 0⟩]⟩,
  ⟨"QUE_CNT_SWAP", 0x8000068, [], .ro, false, true, [⟨0, 64, .ro, 0⟩]⟩,
  ⟨"QUE_CNT_CANCELLED", 0x8000070, [], .ro, false, true, [⟨0, 64, .ro, 0⟩]⟩,
  ⟨"QUE_CNT_TEARDOWN", 0x8000078, [], .ro, false, true, [⟨0, 64, .ro, 0⟩]⟩,
  ⟨"QUE_CNT_DB_BAD", 0x8000080, [], .ro, false, true, [⟨0, 64, .ro, 0⟩]⟩,
  ⟨"QUE_CNT_DISCARD", 0x8000088, [], .ro, false, true, [⟨0, 64, .ro, 0⟩]⟩,
  ⟨"QUE_PART_CFG", 0x8001000, [(0x100, 8)], .rwq, true, false, [⟨0, 4, .rw, 0xf⟩, ⟨8, 1, .rw, 0⟩]⟩,
  ⟨"QUE_PART_STALL_NS", 0x8001008, [(0x100, 8)], .ro, false, true, [⟨0, 64, .ro, 0⟩]⟩,
  ⟨"QUE_PART_RUN_NS", 0x8001010, [(0x100, 8)], .ro, false, true, [⟨0, 64, .ro, 0⟩]⟩,
  ⟨"QUE_PART_SOLO_NS", 0x8001018, [(0x100, 8)], .ro, false, true, [⟨0, 64, .ro, 0⟩]⟩,
  ⟨"QUE_BKT", 0x8001020, [(0x100, 8), (0x8, 26)], .rwl .immediate, true, false, [⟨0, 11, .rw, 0x80⟩, ⟨16, 10, .rw, 0x40⟩, ⟨32, 1, .rw, 0⟩]⟩,
  ⟨"QUE_CTX_CFG", 0x8002000, [(0x20, 256)], .rwq, true, false, [⟨0, 3, .rw, 0⟩, ⟨3, 1, .rw, 0⟩, ⟨16, 13, .rw, 0x1000⟩]⟩,
  ⟨"QUE_CTX_STATE", 0x8002008, [(0x20, 256)], .ro, false, false, [⟨0, 2, .ro, 0⟩, ⟨16, 13, .ro, 0⟩, ⟨32, 16, .ro, 0⟩, ⟨48, 16, .ro, 0⟩]⟩,
  ⟨"QUE_CTX_CTRL", 0x8002010, [(0x20, 256)], .wo, false, false, [⟨0, 1, .wo, 0⟩]⟩,
  ⟨"QUE_CTX_EVENT", 0x8002018, [(0x20, 256)], .ro, false, false, [⟨0, 64, .ro, 0⟩]⟩,
  ⟨"QUE_RING_BASE", 0x8010000, [(0x20, 16384)], .rwq, true, false, [⟨0, 64, .rw, 0⟩]⟩,
  ⟨"QUE_RING_CPL", 0x8010008, [(0x20, 16384)], .rwq, true, false, [⟨0, 64, .rw, 0⟩]⟩,
  ⟨"QUE_RING_CFG", 0x8010010, [(0x20, 16384)], .rwq, true, false, [⟨0, 5, .rw, 6⟩, ⟨8, 1, .rw, 0⟩, ⟨16, 4, .rw, 0⟩]⟩,
  ⟨"QUE_RING_PTR", 0x8010018, [(0x20, 16384)], .ro, false, false, [⟨0, 32, .ro, 0⟩, ⟨32, 32, .ro, 0⟩]⟩]

/-- Register rows of chapter 08 of spec/. -/
def queueRegs2 : List RegDef := [
  ⟨"SYN_VALUE", 0xa000000, [(0x8, 8192)], .rwl .immediate, false, false, [⟨0, 64, .rw, 0⟩]⟩,
  ⟨"SYN_CFG", 0xa010000, [(0x8, 8192)], .rwl .immediate, true, false, [⟨0, 8, .rw, 0⟩, ⟨8, 1, .rw, 0⟩, ⟨9, 1, .rw, 0⟩, ⟨10, 1, .w1c, 0⟩]⟩,
  ⟨"SYN_FLAGS", 0xa020000, [], .rwl .immediate, false, false, [⟨0, 1, .w1c, 0⟩]⟩,
  ⟨"SYN_CNT_BACKWARD", 0xa020008, [], .ro, false, true, [⟨0, 64, .ro, 0⟩]⟩,
  ⟨"SYN_CNT_SIGNAL", 0xa020010, [], .ro, false, true, [⟨0, 64, .ro, 0⟩]⟩,
  ⟨"CAD_CTRL", 0xa800000, [], .rwl .frameBoundary, true, false, [⟨0, 1, .rw, 0⟩, ⟨1, 1, .ro, 0⟩, ⟨2, 1, .w1s, 0⟩, ⟨4, 2, .rw, 0⟩]⟩,
  ⟨"CAD_FRAME0", 0xa800008, [], .rwq, true, false, [⟨0, 14, .rw, 1000⟩]⟩,
  ⟨"CAD_FRAME1", 0xa800010, [], .rwq, true, false, [⟨0, 14, .rw, 1000⟩]⟩,
  ⟨"CAD_EPOCH", 0xa800018, [], .rwq, true, false, [⟨0, 64, .rw, 0⟩]⟩,
  ⟨"CAD_FRAME_CNT", 0xa800020, [], .ro, false, false, [⟨0, 64, .ro, 0⟩]⟩,
  ⟨"CAD_ERR", 0xa800028, [], .rwl .immediate, false, false, [⟨0, 1, .w1c, 0⟩, ⟨1, 1, .w1c, 0⟩, ⟨2, 1, .w1c, 0⟩, ⟨3, 1, .w1c, 0⟩, ⟨4, 1, .w1c, 0⟩, ⟨5, 1, .w1c, 0⟩]⟩,
  ⟨"CAD_CNT_OVERRUN", 0xa800030, [], .ro, false, true, [⟨0, 64, .ro, 0⟩]⟩,
  ⟨"CAD_CNT_SKIP", 0xa800038, [], .ro, false, true, [⟨0, 64, .ro, 0⟩]⟩,
  ⟨"CAD_CNT_SWITCH", 0xa800040, [], .ro, false, true, [⟨0, 64, .ro, 0⟩]⟩,
  ⟨"CAD_SLOT_LO", 0xa801000, [(0x1000, 2), (0x10, 256)], .rwq, true, false, [⟨0, 16, .rw, 0⟩, ⟨16, 16, .rw, 0⟩, ⟨32, 8, .rw, 0⟩, ⟨40, 1, .rw, 0⟩, ⟨41, 1, .rw, 0⟩, ⟨48, 13, .rw, 0⟩]⟩,
  ⟨"CAD_SLOT_HI", 0xa801008, [(0x1000, 2), (0x10, 256)], .rwq, true, false, [⟨0, 16, .rw, 0⟩, ⟨16, 2, .rw, 0⟩, ⟨18, 8, .rw, 0⟩]⟩,
  ⟨"QUE_DOORBELL", 0x9000000, [(0x1000, 256), (0x8, 64)], .wo, false, false, [⟨0, 32, .wo, 0⟩]⟩]

/-- Register rows of chapter 09 of spec/. -/
def visorRegs1 : List RegDef := [
  ⟨"VIS_STATE", 0x6000000, [], .ro, false, false, [⟨0, 48, .ro, 0⟩]⟩,
  ⟨"VIS_REJECT", 0x6000008, [], .rwl .immediate, false, false, [⟨0, 1, .w1c, 0⟩, ⟨1, 1, .w1c, 0⟩, ⟨2, 1, .w1c, 0⟩, ⟨3, 1, .w1c, 0⟩, ⟨4, 1, .w1c, 0⟩, ⟨5, 1, .w1c, 0⟩, ⟨6, 1, .w1c, 0⟩, ⟨7, 1, .w1c, 0⟩]⟩,
  ⟨"VIS_REJECT_DESC", 0x6000010, [], .ro, false, false, [⟨0, 64, .ro, 0⟩]⟩,
  ⟨"VIS_FLAGS", 0x6000018, [], .rwl .immediate, false, false, [⟨0, 1, .w1c, 0⟩, ⟨1, 1, .w1c, 0⟩]⟩,
  ⟨"VIS_TOK_CTRL", 0x6000020, [], .rwl .nextText, true, false, [⟨0, 1, .rw, 0⟩, ⟨1, 2, .ro, 0⟩]⟩,
  ⟨"VIS_CNT_SAMPLES", 0x6000040, [], .ro, false, true, [⟨0, 64, .ro, 0⟩]⟩,
  ⟨"VIS_CNT_DROP", 0x6000048, [], .ro, false, true, [⟨0, 64, .ro, 0⟩]⟩,
  ⟨"VIS_CNT_STOP", 0x6000050, [], .ro, false, true, [⟨0, 64, .ro, 0⟩]⟩,
  ⟨"VIS_CNT_BOUNDS", 0x6000058, [], .ro, false, true, [⟨0, 64, .ro, 0⟩]⟩,
  ⟨"VIS_CNT_REPLAY", 0x6000060, [], .ro, false, true, [⟨0, 64, .ro, 0⟩]⟩,
  ⟨"VIS_CNT_NONIRAP", 0x6000068, [], .ro, false, true, [⟨0, 64, .ro, 0⟩]⟩,
  ⟨"VIS_CNT_STALE_ROI", 0x6000070, [], .ro, false, true, [⟨0, 64, .ro, 0⟩]⟩,
  ⟨"VIS_CNT_TOK_FALLBACK", 0x6000078, [], .ro, false, true, [⟨0, 64, .ro, 0⟩]⟩,
  ⟨"VIS_STR_CFG", 0x6001000, [(0x40, 48)], .rwq, true, false, [⟨0, 1, .rw, 0⟩, ⟨1, 3, .rw, 0⟩, ⟨4, 3, .rw, 0⟩, ⟨7, 1, .rw, 0⟩, ⟨8, 16, .rw, 0⟩, ⟨24, 4, .rw, 0⟩, ⟨28, 2, .rw, 0⟩, ⟨30, 1, .rw, 0⟩, ⟨32, 2, .rw, 0⟩, ⟨34, 1, .rw, 0⟩, ⟨35, 2, .rw, 0⟩, ⟨37, 3, .rw, 0⟩, ⟨40, 10, .rw, 0⟩]⟩,
  ⟨"VIS_STR_PORT", 0x6001008, [(0x40, 48)], .rwq, true, false, [⟨0, 8, .rw, 0⟩, ⟨8, 8, .rw, 0⟩, ⟨16, 12, .rw, 0⟩, ⟨32, 16, .rw, 0⟩]⟩,
  ⟨"VIS_STR_LAT", 0x6001010, [(0x40, 48)], .rwl .nextSample, true, false, [⟨0, 32, .rw, 0⟩]⟩,
  ⟨"VIS_STR_ROI", 0x6001018, [(0x40, 48)], .rwl .nextPicture, true, false, [⟨0, 1, .rw, 0⟩, ⟨8, 8, .rw, 8⟩, ⟨16, 8, .rw, 0x20⟩, ⟨24, 7, .rw, 0x40⟩, ⟨31, 7, .rw, 0x40⟩, ⟨38, 10, .rw, 0x64⟩]⟩,
  ⟨"VIS_STR_SCALE", 0x6001020, [(0x40, 48)], .rwq, true, false, [⟨0, 32, .rw, 0⟩, ⟨32, 32, .rw, 0⟩]⟩,
  ⟨"VIS_STR_SEQ", 0x6001028, [(0x40, 48)], .ro, false, false, [⟨0, 26, .ro, 0⟩]⟩,
  ⟨"VIS_PIPE_CFG", 0x6003000, [(0x100, 16)], .rwq, true, false, [⟨0, 1, .rw, 0⟩, ⟨1, 1, .rw, 0⟩, ⟨2, 2, .rw, 0⟩]⟩,
  ⟨"VIS_PIPE_SHAPE", 0x6003008, [(0x100, 16)], .rwq, true, false, [⟨0, 17, .rw, 0x1000⟩, ⟨17, 9, .rw, 8⟩, ⟨26, 13, .rw, 4⟩, ⟨40, 6, .rw, 0x10⟩, ⟨48, 8, .rw, 4⟩]⟩,
  ⟨"VIS_PIPE_TEXT", 0x6003010, [(0x100, 16)], .rwq, true, false, [⟨0, 32, .rw, 0⟩, ⟨32, 32, .rw, 0⟩]⟩,
  ⟨"VIS_PIPE_LIMIT", 0x6003018, [(0x100, 16)], .rwl .nextCoded, true, false, [⟨0, 16, .rw, 0xf00⟩, ⟨16, 16, .rw, 0x870⟩, ⟨32, 16, .rw, 0x200⟩]⟩,
  ⟨"VIS_PIPE_TIMEOUT", 0x6003020, [(0x100, 16)], .rwl .nextBatch, true, false, [⟨0, 20, .rw, 0⟩]⟩,
  ⟨"VIS_PIPE_IN", 0x6003028, [(0x100, 16)], .rwq, true, false, [⟨0, 48, .rw, 0⟩, ⟨48, 16, .rw, 0⟩]⟩,
  ⟨"VIS_PIPE_WORK", 0x6003030, [(0x100, 16)], .rwq, true, false, [⟨0, 64, .rw, 0⟩]⟩,
  ⟨"VIS_PIPE_OUT", 0x6003038, [(0x100, 16)], .rwq, true, false, [⟨0, 48, .rw, 0⟩]⟩,
  ⟨"VIS_PIPE_SYNC", 0x6003040, [(0x100, 16)], .rwq, true, false, [⟨0, 13, .rw, 0⟩, ⟨32, 13, .rw, 0⟩]⟩,
  ⟨"VIS_PIPE_STATE", 0x6003048, [(0x100, 16)], .ro, false, false, [⟨0, 2, .ro, 0⟩, ⟨8, 8, .ro, 0⟩, ⟨16, 32, .ro, 0⟩]⟩,
  ⟨"VIS_PIPE_RELEASE", 0x6003050, [(0x100, 16)], .wo, false, false, [⟨0, 8, .wo, 0⟩]⟩]

/-- Register rows of chapter 09 of spec/. -/
def visorRegs2 : List RegDef := [
  ⟨"VIS_PIPE_STOP", 0x6003058, [(0x100, 16)], .ro, false, false, [⟨0, 8, .ro, 0⟩, ⟨8, 8, .ro, 0⟩, ⟨16, 32, .ro, 0⟩, ⟨48, 9, .ro, 0⟩]⟩]

/-- Register rows of chapter 10 of spec/. -/
def timeTrackRegs1 : List RegDef := [
  ⟨"TB_NOW_A", 0xb000000, [(0x200, 4)], .ro, false, false, [⟨0, 16, .ro, 0⟩, ⟨16, 32, .ro, 0⟩, ⟨48, 8, .ro, 0⟩]⟩,
  ⟨"TB_NOW_B", 0xb000008, [(0x200, 4)], .ro, false, false, [⟨0, 48, .ro, 0⟩]⟩,
  ⟨"TB_INCR", 0xb000010, [(0x200, 4)], .rwl .nextTick, false, false, [⟨0, 35, .rw, 0x400000000⟩]⟩,
  ⟨"TB_STEP_ADJ", 0xb000018, [(0x200, 4)], .rwl .immediate, false, false, [⟨0, 64, .rw, 0⟩]⟩,
  ⟨"TB_SET_A", 0xb000020, [(0x200, 4)], .rwl .immediate, false, false, [⟨0, 16, .rw, 0⟩, ⟨16, 32, .rw, 0⟩]⟩,
  ⟨"TB_SET_B", 0xb000028, [(0x200, 4)], .rwl .immediate, false, false, [⟨0, 48, .rw, 0⟩]⟩,
  ⟨"TB_CMD", 0xb000030, [(0x200, 4)], .wo, false, false, [⟨0, 1, .wo, 0⟩, ⟨1, 1, .wo, 0⟩, ⟨2, 1, .wo, 0⟩]⟩,
  ⟨"TB_STATE", 0xb000038, [(0x200, 4)], .ro, false, false, [⟨0, 1, .ro, 0⟩, ⟨1, 1, .ro, 0⟩, ⟨8, 8, .ro, 0⟩]⟩,
  ⟨"TB_FLAGS", 0xb000040, [(0x200, 4)], .rwl .immediate, false, false, [⟨0, 1, .w1c, 0⟩, ⟨1, 2, .ro, 0⟩, ⟨3, 1, .w1c, 0⟩]⟩,
  ⟨"TB_JUMP_LIMIT", 0xb000048, [(0x200, 4)], .rwl .nextStep, true, false, [⟨0, 30, .rw, 0xf4240⟩]⟩,
  ⟨"TB_CNT_STEP", 0xb000050, [(0x200, 4)], .ro, false, true, [⟨0, 64, .ro, 0⟩]⟩,
  ⟨"TB_CNT_STEP_REFUSED", 0xb000058, [(0x200, 4)], .ro, false, true, [⟨0, 64, .ro, 0⟩]⟩,
  ⟨"TB_LOG_DELTA", 0xb000100, [(0x200, 4), (0x10, 16)], .ro, false, false, [⟨0, 64, .ro, 0⟩]⟩,
  ⟨"TB_LOG_AT", 0xb000108, [(0x200, 4), (0x10, 16)], .ro, false, false, [⟨0, 64, .ro, 0⟩]⟩,
  ⟨"TB_IN_CFG", 0xb001000, [(0x8, 32)], .rwl .nextEdge, true, false, [⟨0, 1, .rw, 0⟩, ⟨1, 1, .rw, 0⟩, ⟨2, 2, .rw, 0⟩]⟩,
  ⟨"TB_EDGE_A", 0xb001100, [], .rc, false, false, [⟨0, 32, .rc, 0⟩, ⟨32, 8, .rc, 0⟩, ⟨40, 5, .rc, 0⟩, ⟨45, 1, .rc, 0⟩, ⟨46, 2, .rc, 0⟩, ⟨48, 1, .rc, 0⟩]⟩,
  ⟨"TB_EDGE_B", 0xb001108, [], .ro, false, false, [⟨0, 48, .ro, 0⟩]⟩,
  ⟨"TB_CNT_EDGE_DROP", 0xb001110, [], .ro, false, true, [⟨0, 64, .ro, 0⟩]⟩,
  ⟨"TB_CNT_EDGE_SKIP", 0xb001118, [], .ro, false, true, [⟨0, 64, .ro, 0⟩]⟩,
  ⟨"TB_OUT_CFG", 0xb002000, [(0x20, 40)], .rwq, true, false, [⟨0, 1, .rw, 0⟩, ⟨1, 2, .rw, 0⟩, ⟨3, 1, .rw, 0⟩, ⟨4, 1, .rw, 0⟩]⟩,
  ⟨"TB_OUT_START", 0xb002008, [(0x20, 40)], .rwq, true, false, [⟨0, 64, .rw, 0⟩]⟩,
  ⟨"TB_OUT_PERIOD", 0xb002010, [(0x20, 40)], .rwl .nextEdge, true, false, [⟨0, 32, .rw, 0⟩, ⟨32, 32, .rw, 0⟩]⟩,
  ⟨"TB_CMP_CFG", 0xb003000, [(0x10, 16)], .rwl .immediate, true, false, [⟨0, 1, .rw, 0⟩, ⟨1, 2, .rw, 0⟩, ⟨3, 1, .rw, 0⟩, ⟨4, 1, .rw, 0⟩, ⟨5, 1, .w1c, 0⟩, ⟨16, 13, .rw, 0⟩]⟩,
  ⟨"TB_CMP_TARGET", 0xb003008, [(0x10, 16)], .rwl .immediate, false, false, [⟨0, 64, .rw, 0⟩]⟩,
  ⟨"ATU_STATE", 0x6400000, [], .ro, false, false, [⟨0, 11, .ro, 0⟩, ⟨16, 1, .ro, 0⟩]⟩,
  ⟨"ATU_REJECT", 0x6400008, [], .rwl .immediate, false, false, [⟨0, 1, .w1c, 0⟩, ⟨1, 1, .w1c, 0⟩, ⟨2, 1, .w1c, 0⟩, ⟨3, 1, .w1c, 0⟩, ⟨4, 1, .w1c, 0⟩, ⟨5, 1, .w1c, 0⟩]⟩,
  ⟨"ATU_REJECT_DESC", 0x6400010, [], .ro, false, false, [⟨0, 64, .ro, 0⟩]⟩,
  ⟨"ATU_TRK_MODE", 0x6400018, [], .rwq, true, false, [⟨0, 1, .rw, 0⟩, ⟨1, 2, .rw, 3⟩]⟩,
  ⟨"ATU_TRK_RULES", 0x6400020, [], .rwl .nextUpdate, true, false, [⟨0, 4, .rw, 3⟩, ⟨4, 4, .rw, 5⟩, ⟨8, 6, .rw, 5⟩, ⟨16, 4, .rw, 3⟩, ⟨32, 16, .rw, 0x7d0⟩]⟩,
  ⟨"ATU_TRK_NOISE", 0x6400028, [], .rwl .nextUpdate, true, false, [⟨0, 32, .rw, 0x3f800000⟩, ⟨32, 32, .rw, 0x40800000⟩]⟩]

/-- Register rows of chapter 10 of spec/. -/
def timeTrackRegs2 : List RegDef := [
  ⟨"ATU_TRK_GATE", 0x6400030, [], .rwl .nextUpdate, true, false, [⟨0, 32, .rw, 0x413570a4⟩, ⟨32, 32, .rw, 0x4e20⟩]⟩,
  ⟨"ATU_SENSOR_AUTH", 0x6400038, [], .rwl .nextUpdate, true, false, [⟨0, 16, .rw, 0⟩]⟩,
  ⟨"ATU_EVT_BASE", 0x6400040, [], .rwq, true, false, [⟨0, 64, .rw, 0⟩]⟩,
  ⟨"ATU_EVT_HEAD", 0x6400048, [], .ro, false, false, [⟨0, 8, .ro, 0⟩]⟩,
  ⟨"ATU_EVT_TAIL", 0x6400050, [], .rwl .immediate, false, false, [⟨0, 8, .rw, 0⟩]⟩,
  ⟨"ATU_CNT_ALIGN", 0x6400080, [], .ro, false, true, [⟨0, 64, .ro, 0⟩]⟩,
  ⟨"ATU_CNT_PUSH_DROP", 0x6400088, [], .ro, false, true, [⟨0, 64, .ro, 0⟩]⟩,
  ⟨"ATU_CNT_STEP_DROP", 0x6400090, [], .ro, false, true, [⟨0, 64, .ro, 0⟩]⟩,
  ⟨"ATU_CNT_BIRTH", 0x6400098, [], .ro, false, true, [⟨0, 64, .ro, 0⟩]⟩,
  ⟨"ATU_CNT_BIRTH_FULL", 0x64000a0, [], .ro, false, true, [⟨0, 64, .ro, 0⟩]⟩,
  ⟨"ATU_CNT_DELETE", 0x64000a8, [], .ro, false, true, [⟨0, 64, .ro, 0⟩]⟩,
  ⟨"ATU_CNT_CONTRA", 0x64000b0, [], .ro, false, true, [⟨0, 64, .ro, 0⟩]⟩,
  ⟨"ATU_CNT_DESYNC", 0x64000b8, [], .ro, false, true, [⟨0, 64, .ro, 0⟩]⟩,
  ⟨"ATU_CNT_EVT_LOST", 0x64000c0, [], .ro, false, true, [⟨0, 64, .ro, 0⟩]⟩,
  ⟨"ATU_CNT_NUMERIC", 0x64000c8, [], .ro, false, true, [⟨0, 64, .ro, 0⟩]⟩,
  ⟨"ATU_CH_CFG", 0x6401000, [(0x40, 64)], .rwq, true, false, [⟨0, 1, .rw, 0⟩, ⟨1, 1, .rw, 0⟩, ⟨2, 6, .rw, 0⟩, ⟨8, 2, .rw, 1⟩, ⟨10, 4, .rw, 0⟩, ⟨14, 2, .rw, 2⟩]⟩,
  ⟨"ATU_CH_SCALE", 0x6401008, [(0x40, 64)], .rwq, true, false, [⟨0, 32, .rw, 0⟩, ⟨32, 16, .rw, 0⟩]⟩,
  ⟨"ATU_CH_TIME", 0x6401010, [(0x40, 64)], .rwl .nextSample, true, false, [⟨0, 20, .rw, 0⟩, ⟨32, 32, .rw, 0⟩]⟩,
  ⟨"ATU_CH_STATE", 0x6401018, [(0x40, 64)], .ro, false, false, [⟨0, 6, .ro, 0⟩, ⟨8, 1, .ro, 0⟩, ⟨9, 1, .ro, 0⟩, ⟨32, 32, .ro, 0⟩]⟩]

/-- Register rows of chapter 11 of spec/. -/
def knuckleRegs1 : List RegDef := [
  ⟨"KNK_STATE", 0xc000000, [(0x100000, 4)], .ro, false, false, [⟨0, 64, .ro, 0⟩]⟩,
  ⟨"KNK_REJECT", 0xc000008, [(0x100000, 4)], .rwl .immediate, false, false, [⟨0, 1, .w1c, 0⟩, ⟨1, 1, .w1c, 0⟩, ⟨2, 1, .w1c, 0⟩, ⟨3, 1, .w1c, 0⟩, ⟨4, 1, .w1c, 0⟩, ⟨5, 1, .w1c, 0⟩, ⟨6, 1, .w1c, 0⟩, ⟨7, 1, .w1c, 0⟩, ⟨8, 1, .w1c, 0⟩, ⟨9, 1, .w1c, 0⟩, ⟨10, 1, .w1c, 0⟩]⟩,
  ⟨"KNK_REJECT_DESC", 0xc000010, [(0x100000, 4)], .ro, false, false, [⟨0, 64, .ro, 0⟩]⟩,
  ⟨"KNK_FLAGS", 0xc000018, [(0x100000, 4)], .rwl .immediate, false, false, [⟨0, 1, .w1c, 0⟩, ⟨1, 1, .w1c, 0⟩, ⟨2, 1, .w1c, 0⟩, ⟨3, 1, .w1c, 0⟩]⟩,
  ⟨"KNK_UTIL", 0xc000020, [(0x100000, 4)], .ro, false, false, [⟨0, 14, .ro, 0⟩]⟩,
  ⟨"KNK_TRC_BASE", 0xc000028, [(0x100000, 4)], .rwq, true, false, [⟨0, 64, .rw, 0⟩]⟩,
  ⟨"KNK_TRC_CTRL", 0xc000030, [(0x100000, 4)], .rwl .immediate, false, false, [⟨0, 1, .rw, 0⟩, ⟨1, 1, .rw, 0⟩, ⟨2, 1, .rw, 0⟩, ⟨3, 1, .w1s, 0⟩, ⟨16, 16, .rw, 0⟩]⟩,
  ⟨"KNK_TRC_POS", 0xc000038, [(0x100000, 4)], .ro, false, false, [⟨0, 16, .ro, 0⟩, ⟨16, 1, .ro, 0⟩, ⟨17, 1, .ro, 0⟩, ⟨32, 16, .ro, 0⟩]⟩,
  ⟨"KNK_CNT_COMPUTE", 0xc000040, [(0x100000, 4)], .ro, false, true, [⟨0, 64, .ro, 0⟩]⟩,
  ⟨"KNK_CNT_BUSY", 0xc000048, [(0x100000, 4)], .ro, false, true, [⟨0, 64, .ro, 0⟩]⟩,
  ⟨"KNK_CNT_DUP", 0xc000050, [(0x100000, 4)], .ro, false, true, [⟨0, 64, .ro, 0⟩]⟩,
  ⟨"KNK_CNT_MISMATCH", 0xc000058, [(0x100000, 4)], .ro, false, true, [⟨0, 64, .ro, 0⟩]⟩,
  ⟨"KNK_CNT_TRC_DROP", 0xc000060, [(0x100000, 4)], .ro, false, true, [⟨0, 64, .ro, 0⟩]⟩,
  ⟨"KNK_TRC_CH", 0xc00c000, [(0x100000, 4), (0x8, 16)], .rwl .nextSample, true, false, [⟨0, 6, .rw, 0⟩, ⟨6, 4, .rw, 0⟩, ⟨10, 10, .rw, 0⟩, ⟨20, 1, .rw, 0⟩]⟩,
  ⟨"KNK_LOOP_CFG", 0xc001000, [(0x100000, 4), (0x100, 64)], .rwq, true, false, [⟨0, 1, .rw, 0⟩, ⟨1, 2, .rw, 0⟩, ⟨4, 4, .rw, 0⟩, ⟨8, 1, .rw, 0⟩, ⟨9, 1, .rw, 0⟩, ⟨10, 1, .rw, 0⟩, ⟨11, 1, .rw, 0⟩, ⟨12, 1, .rw, 0⟩, ⟨13, 1, .rw, 0⟩, ⟨16, 2, .rw, 0⟩, ⟨18, 6, .rw, 0⟩, ⟨24, 3, .rw, 0⟩]⟩,
  ⟨"KNK_LOOP_DIM", 0xc001008, [(0x100000, 4), (0x100, 64)], .rwq, true, false, [⟨0, 5, .rw, 0⟩, ⟨8, 4, .rw, 0⟩, ⟨16, 5, .rw, 0⟩, ⟨24, 4, .rw, 0⟩, ⟨32, 10, .rw, 0⟩]⟩,
  ⟨"KNK_LOOP_TIME", 0xc001010, [(0x100000, 4), (0x100, 64)], .rwq, true, false, [⟨0, 32, .rw, 0⟩, ⟨32, 24, .rw, 0⟩]⟩,
  ⟨"KNK_LOOP_PHASE", 0xc001018, [(0x100000, 4), (0x100, 64)], .rwq, true, false, [⟨0, 64, .rw, 0⟩]⟩,
  ⟨"KNK_LOOP_OUT", 0xc001020, [(0x100000, 4), (0x100, 64)], .rwq, true, false, [⟨0, 10, .rw, 0⟩, ⟨16, 1, .rw, 0⟩]⟩,
  ⟨"KNK_LOOP_SCHED", 0xc001028, [(0x100000, 4), (0x100, 64)], .rwl .loopCommit, true, false, [⟨0, 6, .rw, 0⟩, ⟨8, 5, .rw, 0⟩, ⟨32, 32, .rw, 0⟩]⟩,
  ⟨"KNK_LOOP_MISS", 0xc001030, [(0x100000, 4), (0x100, 64)], .rwl .loopCommit, true, false, [⟨0, 8, .rw, 3⟩]⟩,
  ⟨"KNK_LOOP_CTRL", 0xc001038, [(0x100000, 4), (0x100, 64)], .wo, false, false, [⟨0, 1, .wo, 0⟩]⟩,
  ⟨"KNK_LOOP_THRESH", 0xc001040, [(0x100000, 4), (0x100, 64), (0x8, 7)], .rwl .loopCommit, true, false, [⟨0, 32, .rw, 0⟩]⟩,
  ⟨"KNK_LOOP_STATE", 0xc001078, [(0x100000, 4), (0x100, 64)], .ro, false, false, [⟨0, 2, .ro, 0⟩, ⟨2, 1, .ro, 0⟩, ⟨4, 3, .ro, 0⟩, ⟨8, 8, .ro, 0⟩, ⟨16, 8, .ro, 0⟩]⟩,
  ⟨"KNK_LOOP_REGION", 0xc001080, [(0x100000, 4), (0x100, 64), (0x8, 8)], .rwl .loopCommit, true, false, [⟨0, 16, .rw, 0⟩]⟩,
  ⟨"KNK_LOOP_YMAP", 0xc0010c0, [(0x100000, 4), (0x100, 64), (0x8, 4)], .rwq, true, false, [⟨0, 10, .rw, 0⟩, ⟨16, 10, .rw, 0⟩, ⟨32, 10, .rw, 0⟩, ⟨48, 10, .rw, 0⟩]⟩,
  ⟨"KNK_LOOP_CNT_SAMPLE", 0xc0010e0, [(0x100000, 4), (0x100, 64)], .ro, false, true, [⟨0, 64, .ro, 0⟩]⟩,
  ⟨"KNK_LOOP_CNT_MISS", 0xc0010e8, [(0x100000, 4), (0x100, 64)], .ro, false, true, [⟨0, 64, .ro, 0⟩]⟩,
  ⟨"KNK_LOOP_CNT_SAT", 0xc0010f0, [(0x100000, 4), (0x100, 64)], .ro, false, true, [⟨0, 64, .ro, 0⟩]⟩,
  ⟨"KNK_LOOP_CNT_SWITCH", 0xc0010f8, [(0x100000, 4), (0x100, 64)], .ro, false, true, [⟨0, 64, .ro, 0⟩]⟩]

/-- Register rows of chapter 11 of spec/. -/
def knuckleRegs2 : List RegDef := [
  ⟨"KNK_LOOP_REF", 0xc005000, [(0x100000, 4), (0x80, 64), (0x8, 16)], .rwl .loopCommit, false, false, [⟨0, 32, .rw, 0⟩]⟩,
  ⟨"KNK_LOOP_ULIM", 0xc007000, [(0x100000, 4), (0x80, 64), (0x8, 16)], .rwl .loopCommit, true, false, [⟨0, 32, .rw, 0⟩, ⟨32, 32, .rw, 0⟩]⟩,
  ⟨"KNK_LATCH", 0xc009000, [(0x100000, 4), (0x8, 1024)], .rwl .immediate, false, false, [⟨0, 32, .rw, 0⟩]⟩,
  ⟨"KNK_COEFF", 0xc010000, [(0x100000, 4), (0x8, 65536)], .rwl .immediate, true, false, [⟨0, 64, .rw, 0⟩]⟩]

/-- Register rows of chapter 12 of spec/. -/
def gussetRegs : List RegDef := [
  ⟨"GUS_STATE", 0xd000000, [(0x10000, 2)], .ro, false, false, [⟨0, 2, .ro, 0⟩, ⟨8, 8, .ro, 0⟩]⟩,
  ⟨"GUS_REJECT", 0xd000008, [(0x10000, 2)], .rwl .immediate, false, false, [⟨0, 1, .w1c, 0⟩, ⟨1, 1, .w1c, 0⟩, ⟨2, 1, .w1c, 0⟩, ⟨3, 1, .w1c, 0⟩, ⟨4, 1, .w1c, 0⟩, ⟨5, 1, .w1c, 0⟩, ⟨6, 1, .w1c, 0⟩, ⟨7, 1, .w1c, 0⟩]⟩,
  ⟨"GUS_REJECT_DESC", 0xd000010, [(0x10000, 2)], .ro, false, false, [⟨0, 64, .ro, 0⟩]⟩,
  ⟨"GUS_FLAGS", 0xd000018, [(0x10000, 2)], .rwl .immediate, false, false, [⟨0, 1, .w1c, 0⟩, ⟨1, 1, .w1c, 0⟩, ⟨2, 1, .w1c, 0⟩, ⟨3, 1, .w1c, 0⟩]⟩,
  ⟨"GUS_CNT_JOBS", 0xd000020, [(0x10000, 2)], .ro, false, true, [⟨0, 64, .ro, 0⟩]⟩,
  ⟨"GUS_CNT_DEADLINE", 0xd000028, [(0x10000, 2)], .ro, false, true, [⟨0, 64, .ro, 0⟩]⟩,
  ⟨"GUS_CNT_DEADLINE_FACTOR", 0xd000030, [(0x10000, 2)], .ro, false, true, [⟨0, 64, .ro, 0⟩]⟩,
  ⟨"GUS_CNT_PREDICTED", 0xd000038, [(0x10000, 2)], .ro, false, true, [⟨0, 64, .ro, 0⟩]⟩,
  ⟨"GUS_CNT_PIVOT_REG", 0xd000040, [(0x10000, 2)], .ro, false, true, [⟨0, 64, .ro, 0⟩]⟩,
  ⟨"GUS_CNT_WARM_REJ", 0xd000048, [(0x10000, 2)], .ro, false, true, [⟨0, 64, .ro, 0⟩]⟩,
  ⟨"GUS_CNT_ITER", 0xd000050, [(0x10000, 2)], .ro, false, true, [⟨0, 64, .ro, 0⟩]⟩,
  ⟨"GUS_CNT_BUSY", 0xd000058, [(0x10000, 2)], .ro, false, true, [⟨0, 64, .ro, 0⟩]⟩,
  ⟨"GUS_CNT_OVERRUN", 0xd000060, [(0x10000, 2)], .ro, false, true, [⟨0, 64, .ro, 0⟩]⟩]

/-- Register rows of chapter 13 of spec/. -/
def plannerRegs : List RegDef := [
  ⟨"PCU_STATE", 0xe000000, [], .ro, false, false, [⟨0, 3, .ro, 0⟩, ⟨3, 1, .ro, 0⟩, ⟨8, 8, .ro, 0⟩]⟩,
  ⟨"PCU_REJECT", 0xe000008, [], .rwl .immediate, false, false, [⟨0, 1, .w1c, 0⟩, ⟨1, 1, .w1c, 0⟩, ⟨2, 1, .w1c, 0⟩, ⟨3, 1, .w1c, 0⟩, ⟨4, 1, .w1c, 0⟩, ⟨5, 1, .w1c, 0⟩, ⟨6, 1, .w1c, 0⟩, ⟨7, 1, .w1c, 0⟩, ⟨8, 1, .w1c, 0⟩, ⟨9, 1, .w1c, 0⟩, ⟨10, 1, .w1c, 0⟩, ⟨11, 1, .w1c, 0⟩]⟩,
  ⟨"PCU_REJECT_DESC", 0xe000010, [], .ro, false, false, [⟨0, 64, .ro, 0⟩]⟩,
  ⟨"PCU_FLAGS", 0xe000018, [], .rwl .immediate, false, false, [⟨0, 1, .w1c, 0⟩, ⟨1, 1, .w1c, 0⟩, ⟨2, 1, .w1c, 0⟩]⟩,
  ⟨"PCU_MAP_CFG", 0xe000020, [], .rwl .nextReset, true, false, [⟨0, 6, .rw, 0x14⟩, ⟨8, 4, .rw, 0xa⟩, ⟨16, 5, .rw, 1⟩, ⟨22, 2, .rw, 1⟩, ⟨32, 32, .rw, 0x186a0⟩]⟩,
  ⟨"PCU_MAP_ORIGIN_XY", 0xe000028, [], .rwl .nextReset, true, false, [⟨0, 32, .rw, 0⟩, ⟨32, 32, .rw, 0⟩]⟩,
  ⟨"PCU_MAP_ORIGIN_Z", 0xe000030, [], .rwl .nextReset, true, false, [⟨0, 32, .rw, 0⟩]⟩,
  ⟨"PCU_MAP_BASE", 0xe000038, [], .rwl .nextReset, true, false, [⟨0, 48, .rw, 0⟩, ⟨48, 16, .rw, 0⟩]⟩,
  ⟨"PCU_MAP_EPOCH", 0xe000040, [], .ro, false, false, [⟨0, 32, .ro, 0⟩, ⟨32, 32, .ro, 0⟩]⟩,
  ⟨"PCU_MAP_USE", 0xe000048, [], .ro, false, false, [⟨0, 21, .ro, 0⟩, ⟨24, 24, .ro, 0⟩]⟩,
  ⟨"PCU_MODEL", 0xe000050, [(0x8, 4)], .ro, false, false, [⟨0, 32, .ro, 0⟩, ⟨32, 8, .ro, 0⟩, ⟨40, 9, .ro, 0⟩, ⟨63, 1, .ro, 0⟩]⟩,
  ⟨"PCU_CNT_PLAN", 0xe000080, [], .ro, false, true, [⟨0, 64, .ro, 0⟩]⟩,
  ⟨"PCU_CNT_CHECK", 0xe000088, [], .ro, false, true, [⟨0, 64, .ro, 0⟩]⟩,
  ⟨"PCU_CNT_LEAF_TEST", 0xe000090, [], .ro, false, true, [⟨0, 64, .ro, 0⟩]⟩,
  ⟨"PCU_CNT_STALE", 0xe000098, [], .ro, false, true, [⟨0, 64, .ro, 0⟩]⟩,
  ⟨"PCU_CNT_TIMEOUT", 0xe0000a0, [], .ro, false, true, [⟨0, 64, .ro, 0⟩]⟩,
  ⟨"PCU_CNT_NO_PATH", 0xe0000a8, [], .ro, false, true, [⟨0, 64, .ro, 0⟩]⟩,
  ⟨"PCU_CNT_JOIN_FAIL", 0xe0000b0, [], .ro, false, true, [⟨0, 64, .ro, 0⟩]⟩,
  ⟨"PCU_CNT_UPDATE", 0xe0000b8, [], .ro, false, true, [⟨0, 64, .ro, 0⟩]⟩,
  ⟨"PCU_CNT_BUSY", 0xe0000c0, [], .ro, false, true, [⟨0, 64, .ro, 0⟩]⟩]

/-- Register rows of chapter 14 of spec/. -/
def networkRegs1 : List RegDef := [
  ⟨"NET_STATE", 0xf000000, [], .ro, false, false, [⟨0, 6, .ro, 0⟩, ⟨6, 6, .ro, 0⟩, ⟨16, 4, .ro, 0⟩]⟩,
  ⟨"NET_REJECT", 0xf000008, [], .rwl .immediate, false, false, [⟨0, 1, .w1c, 0⟩]⟩,
  ⟨"NET_FLAGS", 0xf000010, [], .rwl .immediate, false, false, [⟨0, 1, .w1c, 0⟩]⟩,
  ⟨"NET_LOST_MAP", 0xf000018, [], .ro, false, false, [⟨0, 10, .ro, 0⟩, ⟨15, 1, .ro, 0⟩]⟩,
  ⟨"NET_CNT_RX", 0xf000100, [(0x40, 13)], .ro, false, true, [⟨0, 64, .ro, 0⟩]⟩,
  ⟨"NET_CNT_TX", 0xf000108, [(0x40, 13)], .ro, false, true, [⟨0, 64, .ro, 0⟩]⟩,
  ⟨"NET_CNT_DROP", 0xf000110, [(0x40, 13)], .ro, false, true, [⟨0, 64, .ro, 0⟩]⟩,
  ⟨"NET_CNT_FRAG", 0xf000118, [(0x40, 13)], .ro, false, true, [⟨0, 64, .ro, 0⟩]⟩,
  ⟨"NET_CNT_STRANGER", 0xf000120, [(0x40, 13)], .ro, false, true, [⟨0, 64, .ro, 0⟩]⟩,
  ⟨"NET_CNT_GCL_SKIP", 0xf000128, [(0x40, 13)], .ro, false, true, [⟨0, 64, .ro, 0⟩]⟩,
  ⟨"NET_CNT_PD_RX", 0xf000500, [], .ro, false, true, [⟨0, 64, .ro, 0⟩]⟩,
  ⟨"NET_CNT_PD_BAD", 0xf000508, [], .ro, false, true, [⟨0, 64, .ro, 0⟩]⟩,
  ⟨"NET_CNT_PD_OLD", 0xf000510, [], .ro, false, true, [⟨0, 64, .ro, 0⟩]⟩,
  ⟨"NET_CNT_PD_SHORT", 0xf000518, [], .ro, false, true, [⟨0, 64, .ro, 0⟩]⟩,
  ⟨"NET_CNT_PD_STALE", 0xf000520, [], .ro, false, true, [⟨0, 64, .ro, 0⟩]⟩,
  ⟨"NET_CNT_ODS_REQ", 0xf000528, [], .ro, false, true, [⟨0, 64, .ro, 0⟩]⟩,
  ⟨"NET_CNT_ODS_DENY", 0xf000530, [], .ro, false, true, [⟨0, 64, .ro, 0⟩]⟩,
  ⟨"NET_CNT_ODS_DUP", 0xf000538, [], .ro, false, true, [⟨0, 64, .ro, 0⟩]⟩,
  ⟨"NET_CNT_ODS_OLD", 0xf000540, [], .ro, false, true, [⟨0, 64, .ro, 0⟩]⟩,
  ⟨"T1S_STATE", 0xf100000, [(0x100, 4)], .ro, false, false, [⟨0, 1, .ro, 0⟩, ⟨1, 1, .ro, 0⟩, ⟨8, 8, .ro, 0⟩]⟩,
  ⟨"T1S_FLAGS", 0xf100008, [(0x100, 4)], .rwl .immediate, false, false, [⟨0, 1, .w1c, 0⟩, ⟨1, 1, .w1c, 0⟩, ⟨2, 1, .w1c, 0⟩, ⟨3, 1, .w1c, 0⟩]⟩,
  ⟨"T1S_CNT_COLLISION", 0xf100010, [(0x100, 4)], .ro, false, true, [⟨0, 64, .ro, 0⟩]⟩,
  ⟨"T1S_CNT_OUT_OF_SLOT", 0xf100018, [(0x100, 4)], .ro, false, true, [⟨0, 64, .ro, 0⟩]⟩,
  ⟨"T1S_CNT_BEACON_CONFLICT", 0xf100020, [(0x100, 4)], .ro, false, true, [⟨0, 64, .ro, 0⟩]⟩,
  ⟨"T1S_CNT_NOISE", 0xf100028, [(0x100, 4)], .ro, false, true, [⟨0, 64, .ro, 0⟩]⟩,
  ⟨"T1S_CNT_FCS", 0xf100030, [(0x100, 4)], .ro, false, true, [⟨0, 64, .ro, 0⟩]⟩,
  ⟨"T1S_CNT_JABBER", 0xf100038, [(0x100, 4)], .ro, false, true, [⟨0, 64, .ro, 0⟩]⟩,
  ⟨"T1S_CNT_DEFER", 0xf100040, [(0x100, 4)], .ro, false, true, [⟨0, 64, .ro, 0⟩]⟩,
  ⟨"T1S_CNT_STRANGER", 0xf100048, [(0x100, 4)], .ro, false, true, [⟨0, 64, .ro, 0⟩]⟩,
  ⟨"T1S_STRANGER_A", 0xf101000, [(0x10, 32)], .ro, false, false, [⟨0, 48, .ro, 0⟩, ⟨48, 4, .ro, 0⟩, ⟨63, 1, .ro, 0⟩]⟩]

/-- Register rows of chapter 14 of spec/. -/
def networkRegs2 : List RegDef := [
  ⟨"T1S_STRANGER_B", 0xf101008, [(0x10, 32)], .ro, false, false, [⟨0, 32, .ro, 0⟩, ⟨32, 32, .ro, 0⟩, ⟨52, 11, .ro, 0⟩]⟩,
  ⟨"PCIE_STATE", 0xf200000, [], .ro, false, false, [⟨0, 3, .ro, 0⟩, ⟨3, 3, .ro, 0⟩, ⟨6, 2, .ro, 0⟩, ⟨8, 1, .ro, 0⟩]⟩,
  ⟨"PCIE_CNT_INBOUND_BAD", 0xf200008, [], .ro, false, true, [⟨0, 64, .ro, 0⟩]⟩,
  ⟨"PCIE_CNT_AER", 0xf200010, [], .ro, false, true, [⟨0, 64, .ro, 0⟩]⟩]

/-- Register rows of chapter 15 of spec/. -/
def configRegs : List RegDef := [
  ⟨"CFG_CTRL", 0x10000, [(0x40, 117)], .wo, false, false, [⟨0, 1, .wo, 0⟩, ⟨1, 1, .wo, 0⟩]⟩,
  ⟨"CFG_STATUS", 0x10008, [(0x40, 117)], .rwl .immediate, false, false, [⟨0, 1, .w1c, 0⟩, ⟨1, 1, .w1c, 0⟩, ⟨2, 1, .ro, 1⟩, ⟨3, 1, .ro, 0⟩, ⟨4, 1, .ro, 0⟩, ⟨5, 1, .ro, 0⟩, ⟨6, 1, .rw, 1⟩]⟩,
  ⟨"CFG_SIG_REF", 0x10010, [(0x40, 117)], .rwl .immediate, false, false, [⟨0, 32, .rw, 0⟩]⟩,
  ⟨"CFG_SIG_NOW", 0x10018, [(0x40, 117)], .ro, false, false, [⟨0, 32, .ro, 0⟩, ⟨32, 32, .ro, 0⟩]⟩,
  ⟨"CFG_CNT_REJECT", 0x10020, [(0x40, 117)], .ro, false, false, [⟨0, 64, .ro, 0⟩]⟩,
  ⟨"CFG_CNT_DRIFT", 0x10028, [(0x40, 117)], .ro, false, false, [⟨0, 64, .ro, 0⟩]⟩,
  ⟨"CFG_BLOCK", 0x10030, [(0x40, 117)], .ro, false, false, [⟨0, 48, .ro, 0⟩, ⟨48, 8, .ro, 0⟩]⟩,
  ⟨"CFG_GLOBAL_CTRL", 0x18000, [], .wo, false, false, [⟨0, 1, .wo, 0⟩, ⟨1, 1, .wo, 0⟩]⟩,
  ⟨"CFG_DEV_SIG", 0x18008, [], .ro, false, false, [⟨0, 32, .ro, 0⟩, ⟨32, 1, .ro, 0⟩]⟩,
  ⟨"CFG_BUS_ERR", 0x18010, [], .rwl .immediate, false, false, [⟨0, 3, .ro, 0⟩, ⟨3, 1, .ro, 0⟩, ⟨4, 3, .ro, 0⟩, ⟨8, 3, .ro, 0⟩, ⟨63, 1, .w1c, 0⟩]⟩,
  ⟨"CFG_BUS_ERR_ADDR", 0x18018, [], .ro, false, false, [⟨0, 48, .ro, 0⟩]⟩,
  ⟨"CFG_CNT_BUS_ERR", 0x18020, [], .ro, false, false, [⟨0, 64, .ro, 0⟩]⟩,
  ⟨"HOLD_SEQ", 0x40000, [(0x1000, 117)], .ro, false, false, [⟨0, 32, .ro, 0⟩]⟩,
  ⟨"HOLD_TIME", 0x40008, [(0x1000, 117)], .ro, false, false, [⟨0, 64, .ro, 0⟩]⟩,
  ⟨"HOLD", 0x40010, [(0x1000, 117), (0x8, 510)], .ro, false, false, [⟨0, 64, .ro, 0⟩]⟩,
  ⟨"CAP_LIST", 0x0, [(0x8, 8192)], .ro, false, false, [⟨0, 64, .ro, 0⟩]⟩]

/-- Register rows of chapter 16 of spec/. -/
def securityRegs : List RegDef := [
  ⟨"SEC_STATE", 0x300000, [], .ro, false, false, [⟨0, 3, .ro, 0⟩, ⟨3, 1, .ro, 0⟩, ⟨4, 1, .ro, 0⟩, ⟨8, 8, .ro, 0⟩, ⟨16, 8, .ro, 0⟩]⟩,
  ⟨"SEC_BOOT", 0x300008, [], .ro, false, false, [⟨0, 4, .ro, 0⟩, ⟨8, 4, .ro, 0⟩, ⟨12, 3, .ro, 0⟩, ⟨32, 32, .ro, 0⟩]⟩,
  ⟨"SEC_CNT_ATTEST", 0x300010, [], .ro, false, true, [⟨0, 64, .ro, 0⟩]⟩,
  ⟨"SEC_CNT_VERIFY_FAIL", 0x300018, [], .ro, false, true, [⟨0, 64, .ro, 0⟩]⟩]

/-- Register rows of chapter 17 of spec/. -/
def brimRegs : List RegDef := [
  ⟨"BRM_STATE", 0x100000, [], .ro, false, false, [⟨0, 3, .ro, 0⟩, ⟨4, 4, .ro, 0⟩, ⟨8, 2, .ro, 0⟩]⟩,
  ⟨"BRM_FLAGS", 0x100008, [], .rwl .immediate, false, false, [⟨0, 1, .w1c, 0⟩, ⟨1, 1, .w1c, 0⟩, ⟨2, 1, .w1c, 0⟩, ⟨3, 1, .w1c, 0⟩, ⟨4, 1, .w1c, 0⟩]⟩,
  ⟨"BRM_CAP", 0x100010, [], .rwl .nextPeriod, true, false, [⟨0, 12, .rw, 0x5dc⟩, ⟨12, 1, .rw, 0⟩]⟩,
  ⟨"BRM_OPPT", 0x100018, [], .rwl .nextPeriod, true, false, [⟨0, 3, .rw, 5⟩, ⟨4, 3, .rw, 7⟩, ⟨8, 3, .rw, 5⟩]⟩,
  ⟨"BRM_POWER", 0x100020, [], .ro, false, false, [⟨0, 16, .ro, 0⟩, ⟨16, 16, .ro, 0⟩, ⟨32, 16, .ro, 0⟩]⟩,
  ⟨"BRM_GATE_REFUSED", 0x100028, [], .ro, false, false, [⟨0, 8, .ro, 0⟩, ⟨8, 2, .ro, 0⟩]⟩,
  ⟨"BRM_PLL_AUD", 0x100030, [], .rwq, true, false, [⟨0, 1, .rw, 0⟩]⟩,
  ⟨"BRM_DROOP", 0x100038, [], .rwl .immediate, true, false, [⟨0, 8, .rw, 0x32⟩]⟩,
  ⟨"BRM_PALM", 0x100040, [(0x8, 4)], .ro, false, false, [⟨0, 3, .ro, 5⟩, ⟨3, 3, .ro, 5⟩, ⟨6, 1, .ro, 0⟩, ⟨7, 1, .ro, 0⟩, ⟨8, 1, .ro, 0⟩, ⟨9, 1, .ro, 0⟩]⟩,
  ⟨"BRM_THERM", 0x100080, [(0x8, 64)], .ro, false, false, [⟨0, 16, .ro, 0⟩]⟩,
  ⟨"BRM_GATE_LIST", 0x100280, [(0x8, 4)], .ro, false, false, [⟨0, 64, .ro, 0⟩]⟩,
  ⟨"BRM_CNT_LOCK_LOSS", 0x100300, [], .ro, false, true, [⟨0, 64, .ro, 0⟩]⟩,
  ⟨"BRM_CNT_GATE_AUTO_ON", 0x100308, [], .ro, false, true, [⟨0, 64, .ro, 0⟩]⟩,
  ⟨"BRM_CNT_CAP_HELD", 0x100310, [], .ro, false, true, [⟨0, 64, .ro, 0⟩]⟩,
  ⟨"BRM_CNT_THROTTLE", 0x100318, [], .ro, false, true, [⟨0, 64, .ro, 0⟩]⟩,
  ⟨"BRM_CNT_TRANSITION", 0x100320, [], .ro, false, true, [⟨0, 64, .ro, 0⟩]⟩,
  ⟨"BRM_CNT_UNCHARGED_UJ", 0x100328, [], .ro, false, true, [⟨0, 64, .ro, 0⟩]⟩,
  ⟨"BRM_CNT_PERIOD", 0x100330, [], .ro, false, true, [⟨0, 64, .ro, 0⟩]⟩,
  ⟨"BRM_CNT_DROOP", 0x100340, [(0x8, 4)], .ro, false, true, [⟨0, 64, .ro, 0⟩]⟩,
  ⟨"BRM_CNT_STRETCH_NS", 0x100360, [(0x8, 4)], .ro, false, true, [⟨0, 64, .ro, 0⟩]⟩,
  ⟨"BRM_GATE", 0x101000, [(0x8, 256)], .rwl .immediate, true, false, [⟨0, 1, .rw, 1⟩, ⟨1, 1, .rw, 1⟩, ⟨8, 8, .ro, 0⟩]⟩,
  ⟨"BRM_CNT_CTX_UJ", 0x102000, [(0x8, 256)], .ro, false, true, [⟨0, 64, .ro, 0⟩]⟩]

/-- Register rows of chapter 18 of spec/. -/
def cuffRegs1 : List RegDef := [
  ⟨"CUF_STATE", 0x200000, [], .ro, false, false, [⟨0, 2, .ro, 0⟩, ⟨2, 1, .ro, 0⟩]⟩,
  ⟨"CUF_FLAGS", 0x200008, [], .rwl .immediate, false, false, [⟨0, 1, .w1c, 0⟩, ⟨1, 1, .w1c, 0⟩, ⟨2, 1, .w1c, 0⟩, ⟨3, 1, .w1c, 0⟩, ⟨4, 1, .w1c, 0⟩]⟩,
  ⟨"CUF_CTRL", 0x200010, [], .wo, false, false, [⟨0, 1, .wo, 0⟩, ⟨1, 1, .wo, 0⟩, ⟨2, 1, .wo, 0⟩, ⟨48, 16, .wo, 0⟩]⟩,
  ⟨"CUF_CFG", 0x200018, [], .rwq, true, false, [⟨0, 7, .rw, 0x14⟩, ⟨8, 7, .rw, 0xa⟩, ⟨16, 16, .rw, 0x3e8⟩, ⟨32, 7, .rw, 0x14⟩, ⟨40, 2, .rw, 3⟩]⟩,
  ⟨"CUF_STOP", 0x200020, [], .ro, false, false, [⟨0, 2, .ro, 3⟩, ⟨2, 2, .ro, 0⟩, ⟨4, 1, .ro, 0⟩, ⟨5, 1, .w1c, 0⟩, ⟨8, 8, .ro, 0⟩]⟩,
  ⟨"CUF_STOP_CTRL", 0x200028, [], .wo, false, false, [⟨0, 2, .wo, 0⟩, ⟨2, 1, .wo, 0⟩, ⟨3, 1, .wo, 0⟩, ⟨48, 16, .wo, 0⟩]⟩,
  ⟨"CUF_HW_CAUSE", 0x200030, [], .ro, false, false, [⟨0, 2, .ro, 0⟩, ⟨16, 48, .ro, 0⟩]⟩,
  ⟨"CUF_CAP_CFG", 0x200038, [], .rwl .immediate, true, false, [⟨0, 5, .rw, 0⟩, ⟨5, 1, .rw, 0⟩, ⟨6, 1, .rw, 0⟩, ⟨7, 1, .rw, 0⟩, ⟨8, 1, .rw, 0⟩]⟩,
  ⟨"CUF_CAP_TIME", 0x200040, [], .ro, false, false, [⟨0, 64, .ro, 0⟩]⟩,
  ⟨"CUF_CAP_SRC", 0x200048, [], .ro, false, false, [⟨0, 3, .ro, 0⟩, ⟨3, 1, .ro, 0⟩, ⟨16, 32, .ro, 0⟩]⟩,
  ⟨"CUF_RETEST", 0x200050, [], .wo, false, false, [⟨0, 8, .wo, 0⟩, ⟨8, 1, .wo, 0⟩]⟩,
  ⟨"CUF_QUAR", 0x200060, [(0x8, 4)], .ro, false, false, [⟨0, 64, .ro, 0⟩]⟩,
  ⟨"CUF_ACT", 0x200088, [(0x8, 32)], .rwq, true, false, [⟨0, 2, .rw, 0⟩, ⟨2, 1, .rw, 0⟩, ⟨3, 1, .rw, 0⟩, ⟨4, 1, .rw, 0⟩, ⟨5, 1, .rw, 0⟩]⟩,
  ⟨"CUF_CNT_RECORDS", 0x200200, [], .ro, false, true, [⟨0, 64, .ro, 0⟩]⟩,
  ⟨"CUF_CNT_MERGED", 0x200208, [], .ro, false, true, [⟨0, 64, .ro, 0⟩]⟩,
  ⟨"CUF_CNT_LOST", 0x200210, [], .ro, false, true, [⟨0, 64, .ro, 0⟩]⟩,
  ⟨"CUF_CNT_STOP", 0x200218, [], .ro, false, true, [⟨0, 64, .ro, 0⟩]⟩,
  ⟨"CUF_CNT_MISMATCH", 0x200220, [], .ro, false, true, [⟨0, 64, .ro, 0⟩]⟩,
  ⟨"CUF_CNT_QUAR", 0x200228, [], .ro, false, true, [⟨0, 64, .ro, 0⟩]⟩,
  ⟨"CUF_CNT_SLICE", 0x200230, [], .ro, false, true, [⟨0, 64, .ro, 0⟩]⟩,
  ⟨"CUF_CNT_DEFER_GNT", 0x200238, [], .ro, false, true, [⟨0, 64, .ro, 0⟩]⟩,
  ⟨"CUF_CNT_DEFER_MTN", 0x200240, [], .ro, false, true, [⟨0, 64, .ro, 0⟩]⟩,
  ⟨"CUF_CNT_DEFER_KNK", 0x200248, [], .ro, false, true, [⟨0, 64, .ro, 0⟩]⟩,
  ⟨"CUF_CNT_DEFER_GUS", 0x200250, [], .ro, false, true, [⟨0, 64, .ro, 0⟩]⟩,
  ⟨"CUF_CNT_DEFER_PCU", 0x200258, [], .ro, false, true, [⟨0, 64, .ro, 0⟩]⟩,
  ⟨"CUF_CNT_COVERAGE", 0x200260, [], .ro, false, true, [⟨0, 64, .ro, 0⟩]⟩,
  ⟨"CUF_CNT_CHECKER_RUN", 0x200268, [], .ro, false, true, [⟨0, 64, .ro, 0⟩]⟩,
  ⟨"CUF_CNT_CAP", 0x200270, [], .ro, false, true, [⟨0, 64, .ro, 0⟩]⟩,
  ⟨"CUF_CNT_CAP_MISSED", 0x200278, [], .ro, false, true, [⟨0, 64, .ro, 0⟩]⟩,
  ⟨"CUF_ERQ_STATE", 0x200300, [(0x8, 4)], .ro, false, false, [⟨0, 7, .ro, 0⟩, ⟨7, 1, .ro, 0⟩, ⟨8, 7, .ro, 0⟩]⟩]

/-- Register rows of chapter 18 of spec/. -/
def cuffRegs2 : List RegDef := [
  ⟨"CUF_ERQ_REC", 0x200400, [(0x20, 4), (0x8, 4)], .ro, false, false, [⟨0, 64, .ro, 0⟩]⟩,
  ⟨"CUF_ERQ_POP", 0x200480, [(0x8, 4)], .wo, false, false, [⟨0, 1, .wo, 0⟩]⟩,
  ⟨"CUF_CHK_CFG", 0x202000, [(0x40, 64)], .rwq, true, false, [⟨0, 1, .rw, 0⟩, ⟨1, 15, .rw, 1⟩, ⟨16, 16, .rw, 0x1f4⟩, ⟨32, 16, .rw, 0⟩]⟩,
  ⟨"CUF_CHK_ADDR_A", 0x202008, [(0x40, 64)], .rwq, true, false, [⟨0, 48, .rw, 0⟩]⟩,
  ⟨"CUF_CHK_ADDR_B", 0x202010, [(0x40, 64)], .rwq, true, false, [⟨0, 48, .rw, 0⟩]⟩,
  ⟨"CUF_CHK_SYNC", 0x202018, [(0x40, 64)], .rwq, true, false, [⟨0, 13, .rw, 0⟩, ⟨16, 13, .rw, 0⟩, ⟨32, 13, .rw, 0⟩, ⟨48, 13, .rw, 0⟩]⟩,
  ⟨"CUF_CHK_STATE", 0x202020, [(0x40, 64)], .ro, false, false, [⟨0, 32, .ro, 0⟩, ⟨32, 8, .ro, 0⟩, ⟨40, 8, .ro, 0⟩, ⟨48, 1, .ro, 0⟩, ⟨49, 15, .ro, 0⟩]⟩,
  ⟨"CUF_CHK_CNT_MATCH", 0x202028, [(0x40, 64)], .ro, false, true, [⟨0, 64, .ro, 0⟩]⟩,
  ⟨"CUF_CHK_CNT_DISAGREE", 0x202030, [(0x40, 64)], .ro, false, true, [⟨0, 64, .ro, 0⟩]⟩,
  ⟨"CUF_CHK_CNT_ABSENT", 0x202038, [(0x40, 64)], .ro, false, true, [⟨0, 64, .ro, 0⟩]⟩,
  ⟨"CUF_AGE_CFG", 0x204000, [(0x10, 64)], .rwq, true, false, [⟨0, 1, .rw, 0⟩, ⟨1, 2, .rw, 3⟩, ⟨3, 2, .rw, 0⟩, ⟨8, 13, .rw, 0⟩, ⟨32, 32, .rw, 0x2710⟩]⟩,
  ⟨"CUF_AGE_STATE", 0x204008, [(0x10, 64)], .ro, false, false, [⟨0, 32, .ro, 0⟩, ⟨32, 1, .ro, 0⟩]⟩]

/-- Every register of the device. -/
def regTable : List RegDef :=
  gauntletRegs ++ attentionRegs ++ samplerRegs ++ scanRegs ++ fingerRegs ++ unifiedRegs ++ queueRegs1 ++ queueRegs2 ++ visorRegs1 ++ visorRegs2 ++ timeTrackRegs1 ++ timeTrackRegs2 ++ knuckleRegs1 ++ knuckleRegs2 ++ gussetRegs ++ plannerRegs ++ networkRegs1 ++ networkRegs2 ++ configRegs ++ securityRegs ++ brimRegs ++ cuffRegs1 ++ cuffRegs2

/-- The indices that an offset names under a row's dimensions, if it names one of its registers. -/
def dimIndex : List (Nat × Nat) → Nat → Option (List Nat)
  | [], off => if off = 0 then some [] else none
  | (stride, count) :: ds, off =>
    let i := off / stride
    if i < count then (dimIndex ds (off % stride)).map (i :: ·) else none

/-- The indices by which a row implements device address `a`. -/
def RegDef.index (d : RegDef) (a : Nat) : Option (List Nat) :=
  if a < d.base then none else dimIndex d.dims (a - d.base)

/-- The rows of the device in parts, with the first and the last address of each part. -/
def regParts : List (Nat × Nat × List RegDef) := [
  (0x4000000, 0x40F0058, gauntletRegs),
  (0x4100000, 0x4170048, attentionRegs),
  (0x6200000, 0x6200038, samplerRegs),
  (0x4000060, 0x40F0080, scanRegs),
  (0x5000000, 0x50BF028, fingerRegs),
  (0x7000000, 0x70000D0, unifiedRegs),
  (0x8000000, 0x808FFF8, queueRegs1),
  (0x9000000, 0xA802FF8, queueRegs2),
  (0x6000000, 0x6003F50, visorRegs1),
  (0x6003058, 0x6003F58, visorRegs2),
  (0x6400000, 0xB0030F8, timeTrackRegs1),
  (0x6400030, 0x6401FD8, timeTrackRegs2),
  (0xC000000, 0xC30C078, knuckleRegs1),
  (0xC005000, 0xC38FFF8, knuckleRegs2),
  (0xD000000, 0xD010060, gussetRegs),
  (0xE000000, 0xE0000C0, plannerRegs),
  (0xF000000, 0xF1011F0, networkRegs1),
  (0xF101008, 0xF200010, networkRegs2),
  (0x0, 0xB4FF8, configRegs),
  (0x300000, 0x300018, securityRegs),
  (0x100000, 0x1027F8, brimRegs),
  (0x200000, 0x200318, cuffRegs1),
  (0x200400, 0x2043F8, cuffRegs2)]

/-- The row that implements device address `a`: the first of the table, sought in the parts that reach over it. -/
def regDef (a : Nat) : Option RegDef :=
  regParts.findSome? (fun p => if Nat.ble p.1 a && Nat.ble a p.2.1 then p.2.2.find? (fun d => (d.index a).isSome) else none)

/-- Every address of a row, in ascending order of its indices. -/
def dimAddrs : List (Nat × Nat) → Nat → List Nat
  | [], a => [a]
  | (stride, count) :: ds, a => (List.range count).flatMap (fun i => dimAddrs ds (a + i * stride))

/-- The reset value that the field map of a row gives. -/
def RegDef.resetValue (d : RegDef) : Nat := d.fields.foldl (fun v f => v + f.reset * 2 ^ f.lo) 0

namespace Reg

/-! Addresses of the registers of chapter 02. -/

/-- Device address of GNT_ID. -/
def GNT_ID (g : Nat) : Nat := 0x4000000 + 0x10000 * g
/-- Device address of GNT_STATE. -/
def GNT_STATE (g : Nat) : Nat := 0x4000008 + 0x10000 * g
/-- Device address of GNT_TILE_LIMIT. -/
def GNT_TILE_LIMIT (g : Nat) : Nat := 0x4000010 + 0x10000 * g
/-- Device address of GNT_TILE_EST. -/
def GNT_TILE_EST (g : Nat) : Nat := 0x4000018 + 0x10000 * g
/-- Device address of GNT_TILE_CYC. -/
def GNT_TILE_CYC (g : Nat) : Nat := 0x4000020 + 0x10000 * g
/-- Device address of GNT_REJECT. -/
def GNT_REJECT (g : Nat) : Nat := 0x4000028 + 0x10000 * g
/-- Device address of GNT_REJECT_DESC. -/
def GNT_REJECT_DESC (g : Nat) : Nat := 0x4000030 + 0x10000 * g
/-- Device address of GNT_CONV_FLAGS. -/
def GNT_CONV_FLAGS (g : Nat) : Nat := 0x4000038 + 0x10000 * g
/-- Device address of GNT_CNT_TILES. -/
def GNT_CNT_TILES (g : Nat) : Nat := 0x4000040 + 0x10000 * g
/-- Device address of GNT_CNT_REJECT. -/
def GNT_CNT_REJECT (g : Nat) : Nat := 0x4000048 + 0x10000 * g
/-- Device address of GNT_CNT_OVERRUN. -/
def GNT_CNT_OVERRUN (g : Nat) : Nat := 0x4000050 + 0x10000 * g
/-- Device address of GNT_CNT_BUSY. -/
def GNT_CNT_BUSY (g : Nat) : Nat := 0x4000058 + 0x10000 * g

/-! Addresses of the registers of chapter 03. -/

/-- Device address of ATT_STATE. -/
def ATT_STATE (p : Nat) : Nat := 0x4100000 + 0x10000 * p
/-- Device address of ATT_REJECT. -/
def ATT_REJECT (p : Nat) : Nat := 0x4100008 + 0x10000 * p
/-- Device address of ATT_REJECT_DESC. -/
def ATT_REJECT_DESC (p : Nat) : Nat := 0x4100010 + 0x10000 * p
/-- Device address of ATT_FLAGS. -/
def ATT_FLAGS (p : Nat) : Nat := 0x4100018 + 0x10000 * p
/-- Device address of ATT_CNT_CALLS. -/
def ATT_CNT_CALLS (p : Nat) : Nat := 0x4100020 + 0x10000 * p
/-- Device address of ATT_CNT_ITEMS. -/
def ATT_CNT_ITEMS (p : Nat) : Nat := 0x4100028 + 0x10000 * p
/-- Device address of ATT_CNT_LA_HIT. -/
def ATT_CNT_LA_HIT (p : Nat) : Nat := 0x4100030 + 0x10000 * p
/-- Device address of ATT_CNT_LA_LATE. -/
def ATT_CNT_LA_LATE (p : Nat) : Nat := 0x4100038 + 0x10000 * p
/-- Device address of ATT_CNT_LA_MISS. -/
def ATT_CNT_LA_MISS (p : Nat) : Nat := 0x4100040 + 0x10000 * p
/-- Device address of ATT_CNT_LA_NATIVE. -/
def ATT_CNT_LA_NATIVE (p : Nat) : Nat := 0x4100048 + 0x10000 * p
/-- Device address of ATT_CNT_LA_WASTE. -/
def ATT_CNT_LA_WASTE (p : Nat) : Nat := 0x4100050 + 0x10000 * p
/-- Device address of ATT_CNT_LA_FETCH_ERR. -/
def ATT_CNT_LA_FETCH_ERR (p : Nat) : Nat := 0x4100058 + 0x10000 * p
/-- Device address of KVR_SEQ_BASE. -/
def KVR_SEQ_BASE (p : Nat) : Nat := 0x4140000 + 0x10000 * p
/-- Device address of KVR_POOL_BASE. -/
def KVR_POOL_BASE (p : Nat) : Nat := 0x4140008 + 0x10000 * p
/-- Device address of KVR_POOL_PAGES. -/
def KVR_POOL_PAGES (p : Nat) : Nat := 0x4140010 + 0x10000 * p
/-- Device address of KVR_PAGE_BYTES. -/
def KVR_PAGE_BYTES (p : Nat) : Nat := 0x4140018 + 0x10000 * p
/-- Device address of KVR_FREE_PAGES. -/
def KVR_FREE_PAGES (p : Nat) : Nat := 0x4140020 + 0x10000 * p
/-- Device address of KVR_REJECT. -/
def KVR_REJECT (p : Nat) : Nat := 0x4140028 + 0x10000 * p
/-- Device address of KVR_CNT_TOK_COMMIT. -/
def KVR_CNT_TOK_COMMIT (p : Nat) : Nat := 0x4140030 + 0x10000 * p
/-- Device address of KVR_CNT_TOK_TENT. -/
def KVR_CNT_TOK_TENT (p : Nat) : Nat := 0x4140038 + 0x10000 * p
/-- Device address of KVR_CNT_TOK_ROLLBACK. -/
def KVR_CNT_TOK_ROLLBACK (p : Nat) : Nat := 0x4140040 + 0x10000 * p
/-- Device address of KVR_CNT_BROKEN. -/
def KVR_CNT_BROKEN (p : Nat) : Nat := 0x4140048 + 0x10000 * p

/-! Addresses of the registers of chapter 04. -/

/-- Device address of VIS_CR_STATE. -/
def VIS_CR_STATE : Nat := 0x6200000
/-- Device address of VIS_CR_REJECT. -/
def VIS_CR_REJECT : Nat := 0x6200008
/-- Device address of VIS_CR_REJECT_DESC. -/
def VIS_CR_REJECT_DESC : Nat := 0x6200010
/-- Device address of VIS_CR_FLAGS. -/
def VIS_CR_FLAGS : Nat := 0x6200018
/-- Device address of VIS_CR_CNT_CALLS. -/
def VIS_CR_CNT_CALLS : Nat := 0x6200020
/-- Device address of VIS_CR_CNT_BOXES. -/
def VIS_CR_CNT_BOXES : Nat := 0x6200028
/-- Device address of VIS_CR_CNT_FILLED. -/
def VIS_CR_CNT_FILLED : Nat := 0x6200030
/-- Device address of VIS_CR_CNT_BAD_BOX. -/
def VIS_CR_CNT_BAD_BOX : Nat := 0x6200038

/-! Addresses of the registers of chapter 05. -/

/-- Device address of GNT_SCAN_FLAGS. -/
def GNT_SCAN_FLAGS (g : Nat) : Nat := 0x4000060 + 0x10000 * g
/-- Device address of GNT_CNT_SCAN_STEPS. -/
def GNT_CNT_SCAN_STEPS (g : Nat) : Nat := 0x4000068 + 0x10000 * g
/-- Device address of GNT_CNT_STAG. -/
def GNT_CNT_STAG (g : Nat) : Nat := 0x4000070 + 0x10000 * g
/-- Device address of GNT_CNT_STATE_WAIT. -/
def GNT_CNT_STATE_WAIT (g : Nat) : Nat := 0x4000078 + 0x10000 * g
/-- Device address of GNT_CNT_STATE_LOST. -/
def GNT_CNT_STATE_LOST (g : Nat) : Nat := 0x4000080 + 0x10000 * g

/-! Addresses of the registers of chapter 06. -/

/-- Device address of FNG_STATE. -/
def FNG_STATE (p : Nat) : Nat := 0x5000000 + 0x10000 * p
/-- Device address of FNG_REJECT. -/
def FNG_REJECT (p : Nat) : Nat := 0x5000008 + 0x10000 * p
/-- Device address of FNG_REJECT_DESC. -/
def FNG_REJECT_DESC (p : Nat) : Nat := 0x5000010 + 0x10000 * p
/-- Device address of FNG_FAULT. -/
def FNG_FAULT (p : Nat) : Nat := 0x5000018 + 0x10000 * p
/-- Device address of FNG_FAULT_PC. -/
def FNG_FAULT_PC (p : Nat) : Nat := 0x5000020 + 0x10000 * p
/-- Device address of FNG_FAULT_TVAL. -/
def FNG_FAULT_TVAL (p : Nat) : Nat := 0x5000028 + 0x10000 * p
/-- Device address of FNG_STALL_LIMIT. -/
def FNG_STALL_LIMIT (p : Nat) : Nat := 0x5000030 + 0x10000 * p
/-- Device address of FNG_CNT_LAUNCH. -/
def FNG_CNT_LAUNCH (p : Nat) : Nat := 0x5000038 + 0x10000 * p
/-- Device address of FNG_CNT_FAULT. -/
def FNG_CNT_FAULT (p : Nat) : Nat := 0x5000040 + 0x10000 * p
/-- Device address of FNG_CNT_ECC_CORR. -/
def FNG_CNT_ECC_CORR (p : Nat) : Nat := 0x5000048 + 0x10000 * p
/-- Device address of FNG_CNT_BUSY. -/
def FNG_CNT_BUSY (p : Nat) : Nat := 0x5000050 + 0x10000 * p
/-- Device address of FNG_CNT_AMO_FP. -/
def FNG_CNT_AMO_FP (p : Nat) : Nat := 0x5000058 + 0x10000 * p
/-- Device address of FNG_SCR_OWN. -/
def FNG_SCR_OWN (p g : Nat) : Nat := 0x5000100 + 0x10000 * p + 0x8 * g
/-- Device address of MTN_STATE. -/
def MTN_STATE (m : Nat) : Nat := 0x5080000 + 0x1000 * m
/-- Device address of MTN_PART. -/
def MTN_PART (m : Nat) : Nat := 0x5080008 + 0x1000 * m
/-- Device address of MTN_CNT_BAR. -/
def MTN_CNT_BAR (m : Nat) : Nat := 0x5080010 + 0x1000 * m
/-- Device address of MTN_CNT_MSG. -/
def MTN_CNT_MSG (m : Nat) : Nat := 0x5080018 + 0x1000 * m
/-- Device address of MTN_CNT_MSG_DROP. -/
def MTN_CNT_MSG_DROP (m : Nat) : Nat := 0x5080020 + 0x1000 * m
/-- Device address of MTN_CNT_BANK_CONFLICT. -/
def MTN_CNT_BANK_CONFLICT (m : Nat) : Nat := 0x5080028 + 0x1000 * m

/-! Addresses of the registers of chapter 07. -/

/-- Device address of UMR_STATE. -/
def UMR_STATE : Nat := 0x7000000
/-- Device address of UMR_REJECT. -/
def UMR_REJECT : Nat := 0x7000008
/-- Device address of UMR_REJECT_DESC. -/
def UMR_REJECT_DESC : Nat := 0x7000010
/-- Device address of UMR_FAULT. -/
def UMR_FAULT : Nat := 0x7000018
/-- Device address of UMR_FAULT_ADDR. -/
def UMR_FAULT_ADDR : Nat := 0x7000020
/-- Device address of UMR_TIMEOUT_LPDDR. -/
def UMR_TIMEOUT_LPDDR : Nat := 0x7000028
/-- Device address of UMR_TIMEOUT_FLASH. -/
def UMR_TIMEOUT_FLASH : Nat := 0x7000030
/-- Device address of UMR_FREE_HBM. -/
def UMR_FREE_HBM : Nat := 0x7000038
/-- Device address of UMR_FREE_LPDDR. -/
def UMR_FREE_LPDDR : Nat := 0x7000040
/-- Device address of UMR_FREE_FLASH. -/
def UMR_FREE_FLASH : Nat := 0x7000048
/-- Device address of UMR_FLASH_STATE. -/
def UMR_FLASH_STATE : Nat := 0x7000050
/-- Device address of UMR_RETIRED. -/
def UMR_RETIRED : Nat := 0x7000058
/-- Device address of UMR_CNT_FETCH_LPDDR. -/
def UMR_CNT_FETCH_LPDDR : Nat := 0x7000060
/-- Device address of UMR_CNT_FETCH_FLASH. -/
def UMR_CNT_FETCH_FLASH : Nat := 0x7000068
/-- Device address of UMR_CNT_WRITEBACK. -/
def UMR_CNT_WRITEBACK : Nat := 0x7000070
/-- Device address of UMR_CNT_EVICT. -/
def UMR_CNT_EVICT : Nat := 0x7000078
/-- Device address of UMR_CNT_BYPASS. -/
def UMR_CNT_BYPASS : Nat := 0x7000080
/-- Device address of UMR_CNT_WAIT_MIGRATE. -/
def UMR_CNT_WAIT_MIGRATE : Nat := 0x7000088
/-- Device address of UMR_CNT_TIMEOUT. -/
def UMR_CNT_TIMEOUT : Nat := 0x7000090
/-- Device address of UMR_CNT_XLATE_MISS. -/
def UMR_CNT_XLATE_MISS : Nat := 0x7000098
/-- Device address of UMR_CNT_CORR_HBM. -/
def UMR_CNT_CORR_HBM : Nat := 0x70000a0
/-- Device address of UMR_CNT_CORR_LPDDR. -/
def UMR_CNT_CORR_LPDDR : Nat := 0x70000a8
/-- Device address of UMR_CNT_CORR_FLASH. -/
def UMR_CNT_CORR_FLASH : Nat := 0x70000b0
/-- Device address of UMR_CNT_UNC. -/
def UMR_CNT_UNC : Nat := 0x70000b8
/-- Device address of UMR_CNT_UNC_RECOVERED. -/
def UMR_CNT_UNC_RECOVERED : Nat := 0x70000c0
/-- Device address of UMR_CNT_GC_DELAY. -/
def UMR_CNT_GC_DELAY : Nat := 0x70000c8
/-- Device address of UMR_CNT_DISTURB_REFRESH. -/
def UMR_CNT_DISTURB_REFRESH : Nat := 0x70000d0

/-! Addresses of the registers of chapter 08. -/

/-- Device address of QUE_STATE. -/
def QUE_STATE : Nat := 0x8000000
/-- Device address of QUE_REJECT. -/
def QUE_REJECT : Nat := 0x8000008
/-- Device address of QUE_REJECT_DESC. -/
def QUE_REJECT_DESC : Nat := 0x8000010
/-- Device address of QUE_MODE. -/
def QUE_MODE : Nat := 0x8000018
/-- Device address of QUE_RT_RESERVE. -/
def QUE_RT_RESERVE : Nat := 0x8000020
/-- Device address of QUE_BUF_SPLIT. -/
def QUE_BUF_SPLIT : Nat := 0x8000028
/-- Device address of QUE_SWAP_GRAN. -/
def QUE_SWAP_GRAN : Nat := 0x8000030
/-- Device address of QUE_CNT_ACCEPT. -/
def QUE_CNT_ACCEPT : Nat := 0x8000040
/-- Device address of QUE_CNT_COMPLETE. -/
def QUE_CNT_COMPLETE : Nat := 0x8000048
/-- Device address of QUE_CNT_REFUSED. -/
def QUE_CNT_REFUSED : Nat := 0x8000050
/-- Device address of QUE_CNT_BACKPRESSURE. -/
def QUE_CNT_BACKPRESSURE : Nat := 0x8000058
/-- Device address of QUE_CNT_PREEMPT. -/
def QUE_CNT_PREEMPT : Nat := 0x8000060
/-- Device address of QUE_CNT_SWAP. -/
def QUE_CNT_SWAP : Nat := 0x8000068
/-- Device address of QUE_CNT_CANCELLED. -/
def QUE_CNT_CANCELLED : Nat := 0x8000070
/-- Device address of QUE_CNT_TEARDOWN. -/
def QUE_CNT_TEARDOWN : Nat := 0x8000078
/-- Device address of QUE_CNT_DB_BAD. -/
def QUE_CNT_DB_BAD : Nat := 0x8000080
/-- Device address of QUE_CNT_DISCARD. -/
def QUE_CNT_DISCARD : Nat := 0x8000088
/-- Device address of QUE_PART_CFG. -/
def QUE_PART_CFG (p : Nat) : Nat := 0x8001000 + 0x100 * p
/-- Device address of QUE_PART_STALL_NS. -/
def QUE_PART_STALL_NS (p : Nat) : Nat := 0x8001008 + 0x100 * p
/-- Device address of QUE_PART_RUN_NS. -/
def QUE_PART_RUN_NS (p : Nat) : Nat := 0x8001010 + 0x100 * p
/-- Device address of QUE_PART_SOLO_NS. -/
def QUE_PART_SOLO_NS (p : Nat) : Nat := 0x8001018 + 0x100 * p
/-- Device address of QUE_BKT. -/
def QUE_BKT (p x : Nat) : Nat := 0x8001020 + 0x100 * p + 0x8 * x
/-- Device address of QUE_CTX_CFG. -/
def QUE_CTX_CFG (c : Nat) : Nat := 0x8002000 + 0x20 * c
/-- Device address of QUE_CTX_STATE. -/
def QUE_CTX_STATE (c : Nat) : Nat := 0x8002008 + 0x20 * c
/-- Device address of QUE_CTX_CTRL. -/
def QUE_CTX_CTRL (c : Nat) : Nat := 0x8002010 + 0x20 * c
/-- Device address of QUE_CTX_EVENT. -/
def QUE_CTX_EVENT (c : Nat) : Nat := 0x8002018 + 0x20 * c
/-- Device address of QUE_RING_BASE. -/
def QUE_RING_BASE (r : Nat) : Nat := 0x8010000 + 0x20 * r
/-- Device address of QUE_RING_CPL. -/
def QUE_RING_CPL (r : Nat) : Nat := 0x8010008 + 0x20 * r
/-- Device address of QUE_RING_CFG. -/
def QUE_RING_CFG (r : Nat) : Nat := 0x8010010 + 0x20 * r
/-- Device address of QUE_RING_PTR. -/
def QUE_RING_PTR (r : Nat) : Nat := 0x8010018 + 0x20 * r
/-- Device address of SYN_VALUE. -/
def SYN_VALUE (n : Nat) : Nat := 0xa000000 + 0x8 * n
/-- Device address of SYN_CFG. -/
def SYN_CFG (n : Nat) : Nat := 0xa010000 + 0x8 * n
/-- Device address of SYN_FLAGS. -/
def SYN_FLAGS : Nat := 0xa020000
/-- Device address of SYN_CNT_BACKWARD. -/
def SYN_CNT_BACKWARD : Nat := 0xa020008
/-- Device address of SYN_CNT_SIGNAL. -/
def SYN_CNT_SIGNAL : Nat := 0xa020010
/-- Device address of CAD_CTRL. -/
def CAD_CTRL : Nat := 0xa800000
/-- Device address of CAD_FRAME0. -/
def CAD_FRAME0 : Nat := 0xa800008
/-- Device address of CAD_FRAME1. -/
def CAD_FRAME1 : Nat := 0xa800010
/-- Device address of CAD_EPOCH. -/
def CAD_EPOCH : Nat := 0xa800018
/-- Device address of CAD_FRAME_CNT. -/
def CAD_FRAME_CNT : Nat := 0xa800020
/-- Device address of CAD_ERR. -/
def CAD_ERR : Nat := 0xa800028
/-- Device address of CAD_CNT_OVERRUN. -/
def CAD_CNT_OVERRUN : Nat := 0xa800030
/-- Device address of CAD_CNT_SKIP. -/
def CAD_CNT_SKIP : Nat := 0xa800038
/-- Device address of CAD_CNT_SWITCH. -/
def CAD_CNT_SWITCH : Nat := 0xa800040
/-- Device address of CAD_SLOT_LO. -/
def CAD_SLOT_LO (t n : Nat) : Nat := 0xa801000 + 0x1000 * t + 0x10 * n
/-- Device address of CAD_SLOT_HI. -/
def CAD_SLOT_HI (t n : Nat) : Nat := 0xa801008 + 0x1000 * t + 0x10 * n
/-- Device address of QUE_DOORBELL. -/
def QUE_DOORBELL (c k : Nat) : Nat := 0x9000000 + 0x1000 * c + 0x8 * k

/-! Addresses of the registers of chapter 09. -/

/-- Device address of VIS_STATE. -/
def VIS_STATE : Nat := 0x6000000
/-- Device address of VIS_REJECT. -/
def VIS_REJECT : Nat := 0x6000008
/-- Device address of VIS_REJECT_DESC. -/
def VIS_REJECT_DESC : Nat := 0x6000010
/-- Device address of VIS_FLAGS. -/
def VIS_FLAGS : Nat := 0x6000018
/-- Device address of VIS_TOK_CTRL. -/
def VIS_TOK_CTRL : Nat := 0x6000020
/-- Device address of VIS_CNT_SAMPLES. -/
def VIS_CNT_SAMPLES : Nat := 0x6000040
/-- Device address of VIS_CNT_DROP. -/
def VIS_CNT_DROP : Nat := 0x6000048
/-- Device address of VIS_CNT_STOP. -/
def VIS_CNT_STOP : Nat := 0x6000050
/-- Device address of VIS_CNT_BOUNDS. -/
def VIS_CNT_BOUNDS : Nat := 0x6000058
/-- Device address of VIS_CNT_REPLAY. -/
def VIS_CNT_REPLAY : Nat := 0x6000060
/-- Device address of VIS_CNT_NONIRAP. -/
def VIS_CNT_NONIRAP : Nat := 0x6000068
/-- Device address of VIS_CNT_STALE_ROI. -/
def VIS_CNT_STALE_ROI : Nat := 0x6000070
/-- Device address of VIS_CNT_TOK_FALLBACK. -/
def VIS_CNT_TOK_FALLBACK : Nat := 0x6000078
/-- Device address of VIS_STR_CFG. -/
def VIS_STR_CFG (s : Nat) : Nat := 0x6001000 + 0x40 * s
/-- Device address of VIS_STR_PORT. -/
def VIS_STR_PORT (s : Nat) : Nat := 0x6001008 + 0x40 * s
/-- Device address of VIS_STR_LAT. -/
def VIS_STR_LAT (s : Nat) : Nat := 0x6001010 + 0x40 * s
/-- Device address of VIS_STR_ROI. -/
def VIS_STR_ROI (s : Nat) : Nat := 0x6001018 + 0x40 * s
/-- Device address of VIS_STR_SCALE. -/
def VIS_STR_SCALE (s : Nat) : Nat := 0x6001020 + 0x40 * s
/-- Device address of VIS_STR_SEQ. -/
def VIS_STR_SEQ (s : Nat) : Nat := 0x6001028 + 0x40 * s
/-- Device address of VIS_PIPE_CFG. -/
def VIS_PIPE_CFG (p : Nat) : Nat := 0x6003000 + 0x100 * p
/-- Device address of VIS_PIPE_SHAPE. -/
def VIS_PIPE_SHAPE (p : Nat) : Nat := 0x6003008 + 0x100 * p
/-- Device address of VIS_PIPE_TEXT. -/
def VIS_PIPE_TEXT (p : Nat) : Nat := 0x6003010 + 0x100 * p
/-- Device address of VIS_PIPE_LIMIT. -/
def VIS_PIPE_LIMIT (p : Nat) : Nat := 0x6003018 + 0x100 * p
/-- Device address of VIS_PIPE_TIMEOUT. -/
def VIS_PIPE_TIMEOUT (p : Nat) : Nat := 0x6003020 + 0x100 * p
/-- Device address of VIS_PIPE_IN. -/
def VIS_PIPE_IN (p : Nat) : Nat := 0x6003028 + 0x100 * p
/-- Device address of VIS_PIPE_WORK. -/
def VIS_PIPE_WORK (p : Nat) : Nat := 0x6003030 + 0x100 * p
/-- Device address of VIS_PIPE_OUT. -/
def VIS_PIPE_OUT (p : Nat) : Nat := 0x6003038 + 0x100 * p
/-- Device address of VIS_PIPE_SYNC. -/
def VIS_PIPE_SYNC (p : Nat) : Nat := 0x6003040 + 0x100 * p
/-- Device address of VIS_PIPE_STATE. -/
def VIS_PIPE_STATE (p : Nat) : Nat := 0x6003048 + 0x100 * p
/-- Device address of VIS_PIPE_RELEASE. -/
def VIS_PIPE_RELEASE (p : Nat) : Nat := 0x6003050 + 0x100 * p
/-- Device address of VIS_PIPE_STOP. -/
def VIS_PIPE_STOP (p : Nat) : Nat := 0x6003058 + 0x100 * p

/-! Addresses of the registers of chapter 10. -/

/-- Device address of TB_NOW_A. -/
def TB_NOW_A (b : Nat) : Nat := 0xb000000 + 0x200 * b
/-- Device address of TB_NOW_B. -/
def TB_NOW_B (b : Nat) : Nat := 0xb000008 + 0x200 * b
/-- Device address of TB_INCR. -/
def TB_INCR (b : Nat) : Nat := 0xb000010 + 0x200 * b
/-- Device address of TB_STEP_ADJ. -/
def TB_STEP_ADJ (b : Nat) : Nat := 0xb000018 + 0x200 * b
/-- Device address of TB_SET_A. -/
def TB_SET_A (b : Nat) : Nat := 0xb000020 + 0x200 * b
/-- Device address of TB_SET_B. -/
def TB_SET_B (b : Nat) : Nat := 0xb000028 + 0x200 * b
/-- Device address of TB_CMD. -/
def TB_CMD (b : Nat) : Nat := 0xb000030 + 0x200 * b
/-- Device address of TB_STATE. -/
def TB_STATE (b : Nat) : Nat := 0xb000038 + 0x200 * b
/-- Device address of TB_FLAGS. -/
def TB_FLAGS (b : Nat) : Nat := 0xb000040 + 0x200 * b
/-- Device address of TB_JUMP_LIMIT. -/
def TB_JUMP_LIMIT (b : Nat) : Nat := 0xb000048 + 0x200 * b
/-- Device address of TB_CNT_STEP. -/
def TB_CNT_STEP (b : Nat) : Nat := 0xb000050 + 0x200 * b
/-- Device address of TB_CNT_STEP_REFUSED. -/
def TB_CNT_STEP_REFUSED (b : Nat) : Nat := 0xb000058 + 0x200 * b
/-- Device address of TB_LOG_DELTA. -/
def TB_LOG_DELTA (b i : Nat) : Nat := 0xb000100 + 0x200 * b + 0x10 * i
/-- Device address of TB_LOG_AT. -/
def TB_LOG_AT (b i : Nat) : Nat := 0xb000108 + 0x200 * b + 0x10 * i
/-- Device address of TB_IN_CFG. -/
def TB_IN_CFG (g : Nat) : Nat := 0xb001000 + 0x8 * g
/-- Device address of TB_EDGE_A. -/
def TB_EDGE_A : Nat := 0xb001100
/-- Device address of TB_EDGE_B. -/
def TB_EDGE_B : Nat := 0xb001108
/-- Device address of TB_CNT_EDGE_DROP. -/
def TB_CNT_EDGE_DROP : Nat := 0xb001110
/-- Device address of TB_CNT_EDGE_SKIP. -/
def TB_CNT_EDGE_SKIP : Nat := 0xb001118
/-- Device address of TB_OUT_CFG. -/
def TB_OUT_CFG (o : Nat) : Nat := 0xb002000 + 0x20 * o
/-- Device address of TB_OUT_START. -/
def TB_OUT_START (o : Nat) : Nat := 0xb002008 + 0x20 * o
/-- Device address of TB_OUT_PERIOD. -/
def TB_OUT_PERIOD (o : Nat) : Nat := 0xb002010 + 0x20 * o
/-- Device address of TB_CMP_CFG. -/
def TB_CMP_CFG (k : Nat) : Nat := 0xb003000 + 0x10 * k
/-- Device address of TB_CMP_TARGET. -/
def TB_CMP_TARGET (k : Nat) : Nat := 0xb003008 + 0x10 * k
/-- Device address of ATU_STATE. -/
def ATU_STATE : Nat := 0x6400000
/-- Device address of ATU_REJECT. -/
def ATU_REJECT : Nat := 0x6400008
/-- Device address of ATU_REJECT_DESC. -/
def ATU_REJECT_DESC : Nat := 0x6400010
/-- Device address of ATU_TRK_MODE. -/
def ATU_TRK_MODE : Nat := 0x6400018
/-- Device address of ATU_TRK_RULES. -/
def ATU_TRK_RULES : Nat := 0x6400020
/-- Device address of ATU_TRK_NOISE. -/
def ATU_TRK_NOISE : Nat := 0x6400028
/-- Device address of ATU_TRK_GATE. -/
def ATU_TRK_GATE : Nat := 0x6400030
/-- Device address of ATU_SENSOR_AUTH. -/
def ATU_SENSOR_AUTH : Nat := 0x6400038
/-- Device address of ATU_EVT_BASE. -/
def ATU_EVT_BASE : Nat := 0x6400040
/-- Device address of ATU_EVT_HEAD. -/
def ATU_EVT_HEAD : Nat := 0x6400048
/-- Device address of ATU_EVT_TAIL. -/
def ATU_EVT_TAIL : Nat := 0x6400050
/-- Device address of ATU_CNT_ALIGN. -/
def ATU_CNT_ALIGN : Nat := 0x6400080
/-- Device address of ATU_CNT_PUSH_DROP. -/
def ATU_CNT_PUSH_DROP : Nat := 0x6400088
/-- Device address of ATU_CNT_STEP_DROP. -/
def ATU_CNT_STEP_DROP : Nat := 0x6400090
/-- Device address of ATU_CNT_BIRTH. -/
def ATU_CNT_BIRTH : Nat := 0x6400098
/-- Device address of ATU_CNT_BIRTH_FULL. -/
def ATU_CNT_BIRTH_FULL : Nat := 0x64000a0
/-- Device address of ATU_CNT_DELETE. -/
def ATU_CNT_DELETE : Nat := 0x64000a8
/-- Device address of ATU_CNT_CONTRA. -/
def ATU_CNT_CONTRA : Nat := 0x64000b0
/-- Device address of ATU_CNT_DESYNC. -/
def ATU_CNT_DESYNC : Nat := 0x64000b8
/-- Device address of ATU_CNT_EVT_LOST. -/
def ATU_CNT_EVT_LOST : Nat := 0x64000c0
/-- Device address of ATU_CNT_NUMERIC. -/
def ATU_CNT_NUMERIC : Nat := 0x64000c8
/-- Device address of ATU_CH_CFG. -/
def ATU_CH_CFG (c : Nat) : Nat := 0x6401000 + 0x40 * c
/-- Device address of ATU_CH_SCALE. -/
def ATU_CH_SCALE (c : Nat) : Nat := 0x6401008 + 0x40 * c
/-- Device address of ATU_CH_TIME. -/
def ATU_CH_TIME (c : Nat) : Nat := 0x6401010 + 0x40 * c
/-- Device address of ATU_CH_STATE. -/
def ATU_CH_STATE (c : Nat) : Nat := 0x6401018 + 0x40 * c

/-! Addresses of the registers of chapter 11. -/

/-- Device address of KNK_STATE. -/
def KNK_STATE (e : Nat) : Nat := 0xc000000 + 0x100000 * e
/-- Device address of KNK_REJECT. -/
def KNK_REJECT (e : Nat) : Nat := 0xc000008 + 0x100000 * e
/-- Device address of KNK_REJECT_DESC. -/
def KNK_REJECT_DESC (e : Nat) : Nat := 0xc000010 + 0x100000 * e
/-- Device address of KNK_FLAGS. -/
def KNK_FLAGS (e : Nat) : Nat := 0xc000018 + 0x100000 * e
/-- Device address of KNK_UTIL. -/
def KNK_UTIL (e : Nat) : Nat := 0xc000020 + 0x100000 * e
/-- Device address of KNK_TRC_BASE. -/
def KNK_TRC_BASE (e : Nat) : Nat := 0xc000028 + 0x100000 * e
/-- Device address of KNK_TRC_CTRL. -/
def KNK_TRC_CTRL (e : Nat) : Nat := 0xc000030 + 0x100000 * e
/-- Device address of KNK_TRC_POS. -/
def KNK_TRC_POS (e : Nat) : Nat := 0xc000038 + 0x100000 * e
/-- Device address of KNK_CNT_COMPUTE. -/
def KNK_CNT_COMPUTE (e : Nat) : Nat := 0xc000040 + 0x100000 * e
/-- Device address of KNK_CNT_BUSY. -/
def KNK_CNT_BUSY (e : Nat) : Nat := 0xc000048 + 0x100000 * e
/-- Device address of KNK_CNT_DUP. -/
def KNK_CNT_DUP (e : Nat) : Nat := 0xc000050 + 0x100000 * e
/-- Device address of KNK_CNT_MISMATCH. -/
def KNK_CNT_MISMATCH (e : Nat) : Nat := 0xc000058 + 0x100000 * e
/-- Device address of KNK_CNT_TRC_DROP. -/
def KNK_CNT_TRC_DROP (e : Nat) : Nat := 0xc000060 + 0x100000 * e
/-- Device address of KNK_TRC_CH. -/
def KNK_TRC_CH (e c : Nat) : Nat := 0xc00c000 + 0x100000 * e + 0x8 * c
/-- Device address of KNK_LOOP_CFG. -/
def KNK_LOOP_CFG (e l : Nat) : Nat := 0xc001000 + 0x100000 * e + 0x100 * l
/-- Device address of KNK_LOOP_DIM. -/
def KNK_LOOP_DIM (e l : Nat) : Nat := 0xc001008 + 0x100000 * e + 0x100 * l
/-- Device address of KNK_LOOP_TIME. -/
def KNK_LOOP_TIME (e l : Nat) : Nat := 0xc001010 + 0x100000 * e + 0x100 * l
/-- Device address of KNK_LOOP_PHASE. -/
def KNK_LOOP_PHASE (e l : Nat) : Nat := 0xc001018 + 0x100000 * e + 0x100 * l
/-- Device address of KNK_LOOP_OUT. -/
def KNK_LOOP_OUT (e l : Nat) : Nat := 0xc001020 + 0x100000 * e + 0x100 * l
/-- Device address of KNK_LOOP_SCHED. -/
def KNK_LOOP_SCHED (e l : Nat) : Nat := 0xc001028 + 0x100000 * e + 0x100 * l
/-- Device address of KNK_LOOP_MISS. -/
def KNK_LOOP_MISS (e l : Nat) : Nat := 0xc001030 + 0x100000 * e + 0x100 * l
/-- Device address of KNK_LOOP_CTRL. -/
def KNK_LOOP_CTRL (e l : Nat) : Nat := 0xc001038 + 0x100000 * e + 0x100 * l
/-- Device address of KNK_LOOP_THRESH. -/
def KNK_LOOP_THRESH (e l t : Nat) : Nat := 0xc001040 + 0x100000 * e + 0x100 * l + 0x8 * t
/-- Device address of KNK_LOOP_STATE. -/
def KNK_LOOP_STATE (e l : Nat) : Nat := 0xc001078 + 0x100000 * e + 0x100 * l
/-- Device address of KNK_LOOP_REGION. -/
def KNK_LOOP_REGION (e l j : Nat) : Nat := 0xc001080 + 0x100000 * e + 0x100 * l + 0x8 * j
/-- Device address of KNK_LOOP_YMAP. -/
def KNK_LOOP_YMAP (e l q : Nat) : Nat := 0xc0010c0 + 0x100000 * e + 0x100 * l + 0x8 * q
/-- Device address of KNK_LOOP_CNT_SAMPLE. -/
def KNK_LOOP_CNT_SAMPLE (e l : Nat) : Nat := 0xc0010e0 + 0x100000 * e + 0x100 * l
/-- Device address of KNK_LOOP_CNT_MISS. -/
def KNK_LOOP_CNT_MISS (e l : Nat) : Nat := 0xc0010e8 + 0x100000 * e + 0x100 * l
/-- Device address of KNK_LOOP_CNT_SAT. -/
def KNK_LOOP_CNT_SAT (e l : Nat) : Nat := 0xc0010f0 + 0x100000 * e + 0x100 * l
/-- Device address of KNK_LOOP_CNT_SWITCH. -/
def KNK_LOOP_CNT_SWITCH (e l : Nat) : Nat := 0xc0010f8 + 0x100000 * e + 0x100 * l
/-- Device address of KNK_LOOP_REF. -/
def KNK_LOOP_REF (e l j : Nat) : Nat := 0xc005000 + 0x100000 * e + 0x80 * l + 0x8 * j
/-- Device address of KNK_LOOP_ULIM. -/
def KNK_LOOP_ULIM (e l j : Nat) : Nat := 0xc007000 + 0x100000 * e + 0x80 * l + 0x8 * j
/-- Device address of KNK_LATCH. -/
def KNK_LATCH (e i : Nat) : Nat := 0xc009000 + 0x100000 * e + 0x8 * i
/-- Device address of KNK_COEFF. -/
def KNK_COEFF (e n : Nat) : Nat := 0xc010000 + 0x100000 * e + 0x8 * n

/-! Addresses of the registers of chapter 12. -/

/-- Device address of GUS_STATE. -/
def GUS_STATE (u : Nat) : Nat := 0xd000000 + 0x10000 * u
/-- Device address of GUS_REJECT. -/
def GUS_REJECT (u : Nat) : Nat := 0xd000008 + 0x10000 * u
/-- Device address of GUS_REJECT_DESC. -/
def GUS_REJECT_DESC (u : Nat) : Nat := 0xd000010 + 0x10000 * u
/-- Device address of GUS_FLAGS. -/
def GUS_FLAGS (u : Nat) : Nat := 0xd000018 + 0x10000 * u
/-- Device address of GUS_CNT_JOBS. -/
def GUS_CNT_JOBS (u : Nat) : Nat := 0xd000020 + 0x10000 * u
/-- Device address of GUS_CNT_DEADLINE. -/
def GUS_CNT_DEADLINE (u : Nat) : Nat := 0xd000028 + 0x10000 * u
/-- Device address of GUS_CNT_DEADLINE_FACTOR. -/
def GUS_CNT_DEADLINE_FACTOR (u : Nat) : Nat := 0xd000030 + 0x10000 * u
/-- Device address of GUS_CNT_PREDICTED. -/
def GUS_CNT_PREDICTED (u : Nat) : Nat := 0xd000038 + 0x10000 * u
/-- Device address of GUS_CNT_PIVOT_REG. -/
def GUS_CNT_PIVOT_REG (u : Nat) : Nat := 0xd000040 + 0x10000 * u
/-- Device address of GUS_CNT_WARM_REJ. -/
def GUS_CNT_WARM_REJ (u : Nat) : Nat := 0xd000048 + 0x10000 * u
/-- Device address of GUS_CNT_ITER. -/
def GUS_CNT_ITER (u : Nat) : Nat := 0xd000050 + 0x10000 * u
/-- Device address of GUS_CNT_BUSY. -/
def GUS_CNT_BUSY (u : Nat) : Nat := 0xd000058 + 0x10000 * u
/-- Device address of GUS_CNT_OVERRUN. -/
def GUS_CNT_OVERRUN (u : Nat) : Nat := 0xd000060 + 0x10000 * u

/-! Addresses of the registers of chapter 13. -/

/-- Device address of PCU_STATE. -/
def PCU_STATE : Nat := 0xe000000
/-- Device address of PCU_REJECT. -/
def PCU_REJECT : Nat := 0xe000008
/-- Device address of PCU_REJECT_DESC. -/
def PCU_REJECT_DESC : Nat := 0xe000010
/-- Device address of PCU_FLAGS. -/
def PCU_FLAGS : Nat := 0xe000018
/-- Device address of PCU_MAP_CFG. -/
def PCU_MAP_CFG : Nat := 0xe000020
/-- Device address of PCU_MAP_ORIGIN_XY. -/
def PCU_MAP_ORIGIN_XY : Nat := 0xe000028
/-- Device address of PCU_MAP_ORIGIN_Z. -/
def PCU_MAP_ORIGIN_Z : Nat := 0xe000030
/-- Device address of PCU_MAP_BASE. -/
def PCU_MAP_BASE : Nat := 0xe000038
/-- Device address of PCU_MAP_EPOCH. -/
def PCU_MAP_EPOCH : Nat := 0xe000040
/-- Device address of PCU_MAP_USE. -/
def PCU_MAP_USE : Nat := 0xe000048
/-- Device address of PCU_MODEL. -/
def PCU_MODEL (m : Nat) : Nat := 0xe000050 + 0x8 * m
/-- Device address of PCU_CNT_PLAN. -/
def PCU_CNT_PLAN : Nat := 0xe000080
/-- Device address of PCU_CNT_CHECK. -/
def PCU_CNT_CHECK : Nat := 0xe000088
/-- Device address of PCU_CNT_LEAF_TEST. -/
def PCU_CNT_LEAF_TEST : Nat := 0xe000090
/-- Device address of PCU_CNT_STALE. -/
def PCU_CNT_STALE : Nat := 0xe000098
/-- Device address of PCU_CNT_TIMEOUT. -/
def PCU_CNT_TIMEOUT : Nat := 0xe0000a0
/-- Device address of PCU_CNT_NO_PATH. -/
def PCU_CNT_NO_PATH : Nat := 0xe0000a8
/-- Device address of PCU_CNT_JOIN_FAIL. -/
def PCU_CNT_JOIN_FAIL : Nat := 0xe0000b0
/-- Device address of PCU_CNT_UPDATE. -/
def PCU_CNT_UPDATE : Nat := 0xe0000b8
/-- Device address of PCU_CNT_BUSY. -/
def PCU_CNT_BUSY : Nat := 0xe0000c0

/-! Addresses of the registers of chapter 14. -/

/-- Device address of NET_STATE. -/
def NET_STATE : Nat := 0xf000000
/-- Device address of NET_REJECT. -/
def NET_REJECT : Nat := 0xf000008
/-- Device address of NET_FLAGS. -/
def NET_FLAGS : Nat := 0xf000010
/-- Device address of NET_LOST_MAP. -/
def NET_LOST_MAP : Nat := 0xf000018
/-- Device address of NET_CNT_RX. -/
def NET_CNT_RX (p : Nat) : Nat := 0xf000100 + 0x40 * p
/-- Device address of NET_CNT_TX. -/
def NET_CNT_TX (p : Nat) : Nat := 0xf000108 + 0x40 * p
/-- Device address of NET_CNT_DROP. -/
def NET_CNT_DROP (p : Nat) : Nat := 0xf000110 + 0x40 * p
/-- Device address of NET_CNT_FRAG. -/
def NET_CNT_FRAG (p : Nat) : Nat := 0xf000118 + 0x40 * p
/-- Device address of NET_CNT_STRANGER. -/
def NET_CNT_STRANGER (p : Nat) : Nat := 0xf000120 + 0x40 * p
/-- Device address of NET_CNT_GCL_SKIP. -/
def NET_CNT_GCL_SKIP (p : Nat) : Nat := 0xf000128 + 0x40 * p
/-- Device address of NET_CNT_PD_RX. -/
def NET_CNT_PD_RX : Nat := 0xf000500
/-- Device address of NET_CNT_PD_BAD. -/
def NET_CNT_PD_BAD : Nat := 0xf000508
/-- Device address of NET_CNT_PD_OLD. -/
def NET_CNT_PD_OLD : Nat := 0xf000510
/-- Device address of NET_CNT_PD_SHORT. -/
def NET_CNT_PD_SHORT : Nat := 0xf000518
/-- Device address of NET_CNT_PD_STALE. -/
def NET_CNT_PD_STALE : Nat := 0xf000520
/-- Device address of NET_CNT_ODS_REQ. -/
def NET_CNT_ODS_REQ : Nat := 0xf000528
/-- Device address of NET_CNT_ODS_DENY. -/
def NET_CNT_ODS_DENY : Nat := 0xf000530
/-- Device address of NET_CNT_ODS_DUP. -/
def NET_CNT_ODS_DUP : Nat := 0xf000538
/-- Device address of NET_CNT_ODS_OLD. -/
def NET_CNT_ODS_OLD : Nat := 0xf000540
/-- Device address of T1S_STATE. -/
def T1S_STATE (s : Nat) : Nat := 0xf100000 + 0x100 * s
/-- Device address of T1S_FLAGS. -/
def T1S_FLAGS (s : Nat) : Nat := 0xf100008 + 0x100 * s
/-- Device address of T1S_CNT_COLLISION. -/
def T1S_CNT_COLLISION (s : Nat) : Nat := 0xf100010 + 0x100 * s
/-- Device address of T1S_CNT_OUT_OF_SLOT. -/
def T1S_CNT_OUT_OF_SLOT (s : Nat) : Nat := 0xf100018 + 0x100 * s
/-- Device address of T1S_CNT_BEACON_CONFLICT. -/
def T1S_CNT_BEACON_CONFLICT (s : Nat) : Nat := 0xf100020 + 0x100 * s
/-- Device address of T1S_CNT_NOISE. -/
def T1S_CNT_NOISE (s : Nat) : Nat := 0xf100028 + 0x100 * s
/-- Device address of T1S_CNT_FCS. -/
def T1S_CNT_FCS (s : Nat) : Nat := 0xf100030 + 0x100 * s
/-- Device address of T1S_CNT_JABBER. -/
def T1S_CNT_JABBER (s : Nat) : Nat := 0xf100038 + 0x100 * s
/-- Device address of T1S_CNT_DEFER. -/
def T1S_CNT_DEFER (s : Nat) : Nat := 0xf100040 + 0x100 * s
/-- Device address of T1S_CNT_STRANGER. -/
def T1S_CNT_STRANGER (s : Nat) : Nat := 0xf100048 + 0x100 * s
/-- Device address of T1S_STRANGER_A. -/
def T1S_STRANGER_A (i : Nat) : Nat := 0xf101000 + 0x10 * i
/-- Device address of T1S_STRANGER_B. -/
def T1S_STRANGER_B (i : Nat) : Nat := 0xf101008 + 0x10 * i
/-- Device address of PCIE_STATE. -/
def PCIE_STATE : Nat := 0xf200000
/-- Device address of PCIE_CNT_INBOUND_BAD. -/
def PCIE_CNT_INBOUND_BAD : Nat := 0xf200008
/-- Device address of PCIE_CNT_AER. -/
def PCIE_CNT_AER : Nat := 0xf200010

/-! Addresses of the registers of chapter 15. -/

/-- Device address of CFG_CTRL. -/
def CFG_CTRL (k : Nat) : Nat := 0x10000 + 0x40 * k
/-- Device address of CFG_STATUS. -/
def CFG_STATUS (k : Nat) : Nat := 0x10008 + 0x40 * k
/-- Device address of CFG_SIG_REF. -/
def CFG_SIG_REF (k : Nat) : Nat := 0x10010 + 0x40 * k
/-- Device address of CFG_SIG_NOW. -/
def CFG_SIG_NOW (k : Nat) : Nat := 0x10018 + 0x40 * k
/-- Device address of CFG_CNT_REJECT. -/
def CFG_CNT_REJECT (k : Nat) : Nat := 0x10020 + 0x40 * k
/-- Device address of CFG_CNT_DRIFT. -/
def CFG_CNT_DRIFT (k : Nat) : Nat := 0x10028 + 0x40 * k
/-- Device address of CFG_BLOCK. -/
def CFG_BLOCK (k : Nat) : Nat := 0x10030 + 0x40 * k
/-- Device address of CFG_GLOBAL_CTRL. -/
def CFG_GLOBAL_CTRL : Nat := 0x18000
/-- Device address of CFG_DEV_SIG. -/
def CFG_DEV_SIG : Nat := 0x18008
/-- Device address of CFG_BUS_ERR. -/
def CFG_BUS_ERR : Nat := 0x18010
/-- Device address of CFG_BUS_ERR_ADDR. -/
def CFG_BUS_ERR_ADDR : Nat := 0x18018
/-- Device address of CFG_CNT_BUS_ERR. -/
def CFG_CNT_BUS_ERR : Nat := 0x18020
/-- Device address of HOLD_SEQ. -/
def HOLD_SEQ (k : Nat) : Nat := 0x40000 + 0x1000 * k
/-- Device address of HOLD_TIME. -/
def HOLD_TIME (k : Nat) : Nat := 0x40008 + 0x1000 * k
/-- Device address of HOLD. -/
def HOLD (k i : Nat) : Nat := 0x40010 + 0x1000 * k + 0x8 * i
/-- Device address of CAP_LIST. -/
def CAP_LIST (n : Nat) : Nat := 0x0 + 0x8 * n

/-! Addresses of the registers of chapter 16. -/

/-- Device address of SEC_STATE. -/
def SEC_STATE : Nat := 0x300000
/-- Device address of SEC_BOOT. -/
def SEC_BOOT : Nat := 0x300008
/-- Device address of SEC_CNT_ATTEST. -/
def SEC_CNT_ATTEST : Nat := 0x300010
/-- Device address of SEC_CNT_VERIFY_FAIL. -/
def SEC_CNT_VERIFY_FAIL : Nat := 0x300018

/-! Addresses of the registers of chapter 17. -/

/-- Device address of BRM_STATE. -/
def BRM_STATE : Nat := 0x100000
/-- Device address of BRM_FLAGS. -/
def BRM_FLAGS : Nat := 0x100008
/-- Device address of BRM_CAP. -/
def BRM_CAP : Nat := 0x100010
/-- Device address of BRM_OPPT. -/
def BRM_OPPT : Nat := 0x100018
/-- Device address of BRM_POWER. -/
def BRM_POWER : Nat := 0x100020
/-- Device address of BRM_GATE_REFUSED. -/
def BRM_GATE_REFUSED : Nat := 0x100028
/-- Device address of BRM_PLL_AUD. -/
def BRM_PLL_AUD : Nat := 0x100030
/-- Device address of BRM_DROOP. -/
def BRM_DROOP : Nat := 0x100038
/-- Device address of BRM_PALM. -/
def BRM_PALM (p : Nat) : Nat := 0x100040 + 0x8 * p
/-- Device address of BRM_THERM. -/
def BRM_THERM (s : Nat) : Nat := 0x100080 + 0x8 * s
/-- Device address of BRM_GATE_LIST. -/
def BRM_GATE_LIST (i : Nat) : Nat := 0x100280 + 0x8 * i
/-- Device address of BRM_CNT_LOCK_LOSS. -/
def BRM_CNT_LOCK_LOSS : Nat := 0x100300
/-- Device address of BRM_CNT_GATE_AUTO_ON. -/
def BRM_CNT_GATE_AUTO_ON : Nat := 0x100308
/-- Device address of BRM_CNT_CAP_HELD. -/
def BRM_CNT_CAP_HELD : Nat := 0x100310
/-- Device address of BRM_CNT_THROTTLE. -/
def BRM_CNT_THROTTLE : Nat := 0x100318
/-- Device address of BRM_CNT_TRANSITION. -/
def BRM_CNT_TRANSITION : Nat := 0x100320
/-- Device address of BRM_CNT_UNCHARGED_UJ. -/
def BRM_CNT_UNCHARGED_UJ : Nat := 0x100328
/-- Device address of BRM_CNT_PERIOD. -/
def BRM_CNT_PERIOD : Nat := 0x100330
/-- Device address of BRM_CNT_DROOP. -/
def BRM_CNT_DROOP (p : Nat) : Nat := 0x100340 + 0x8 * p
/-- Device address of BRM_CNT_STRETCH_NS. -/
def BRM_CNT_STRETCH_NS (p : Nat) : Nat := 0x100360 + 0x8 * p
/-- Device address of BRM_GATE. -/
def BRM_GATE (n : Nat) : Nat := 0x101000 + 0x8 * n
/-- Device address of BRM_CNT_CTX_UJ. -/
def BRM_CNT_CTX_UJ (c : Nat) : Nat := 0x102000 + 0x8 * c

/-! Addresses of the registers of chapter 18. -/

/-- Device address of CUF_STATE. -/
def CUF_STATE : Nat := 0x200000
/-- Device address of CUF_FLAGS. -/
def CUF_FLAGS : Nat := 0x200008
/-- Device address of CUF_CTRL. -/
def CUF_CTRL : Nat := 0x200010
/-- Device address of CUF_CFG. -/
def CUF_CFG : Nat := 0x200018
/-- Device address of CUF_STOP. -/
def CUF_STOP : Nat := 0x200020
/-- Device address of CUF_STOP_CTRL. -/
def CUF_STOP_CTRL : Nat := 0x200028
/-- Device address of CUF_HW_CAUSE. -/
def CUF_HW_CAUSE : Nat := 0x200030
/-- Device address of CUF_CAP_CFG. -/
def CUF_CAP_CFG : Nat := 0x200038
/-- Device address of CUF_CAP_TIME. -/
def CUF_CAP_TIME : Nat := 0x200040
/-- Device address of CUF_CAP_SRC. -/
def CUF_CAP_SRC : Nat := 0x200048
/-- Device address of CUF_RETEST. -/
def CUF_RETEST : Nat := 0x200050
/-- Device address of CUF_QUAR. -/
def CUF_QUAR (i : Nat) : Nat := 0x200060 + 0x8 * i
/-- Device address of CUF_ACT[k], k from 1 to 32. -/
def CUF_ACT (k : Nat) : Nat := 0x200080 + 8 * k
/-- Device address of CUF_CNT_RECORDS. -/
def CUF_CNT_RECORDS : Nat := 0x200200
/-- Device address of CUF_CNT_MERGED. -/
def CUF_CNT_MERGED : Nat := 0x200208
/-- Device address of CUF_CNT_LOST. -/
def CUF_CNT_LOST : Nat := 0x200210
/-- Device address of CUF_CNT_STOP. -/
def CUF_CNT_STOP : Nat := 0x200218
/-- Device address of CUF_CNT_MISMATCH. -/
def CUF_CNT_MISMATCH : Nat := 0x200220
/-- Device address of CUF_CNT_QUAR. -/
def CUF_CNT_QUAR : Nat := 0x200228
/-- Device address of CUF_CNT_SLICE. -/
def CUF_CNT_SLICE : Nat := 0x200230
/-- Device address of CUF_CNT_DEFER_GNT. -/
def CUF_CNT_DEFER_GNT : Nat := 0x200238
/-- Device address of CUF_CNT_DEFER_MTN. -/
def CUF_CNT_DEFER_MTN : Nat := 0x200240
/-- Device address of CUF_CNT_DEFER_KNK. -/
def CUF_CNT_DEFER_KNK : Nat := 0x200248
/-- Device address of CUF_CNT_DEFER_GUS. -/
def CUF_CNT_DEFER_GUS : Nat := 0x200250
/-- Device address of CUF_CNT_DEFER_PCU. -/
def CUF_CNT_DEFER_PCU : Nat := 0x200258
/-- Device address of CUF_CNT_COVERAGE. -/
def CUF_CNT_COVERAGE : Nat := 0x200260
/-- Device address of CUF_CNT_CHECKER_RUN. -/
def CUF_CNT_CHECKER_RUN : Nat := 0x200268
/-- Device address of CUF_CNT_CAP. -/
def CUF_CNT_CAP : Nat := 0x200270
/-- Device address of CUF_CNT_CAP_MISSED. -/
def CUF_CNT_CAP_MISSED : Nat := 0x200278
/-- Device address of CUF_ERQ_STATE. -/
def CUF_ERQ_STATE (s : Nat) : Nat := 0x200300 + 0x8 * s
/-- Device address of CUF_ERQ_REC. -/
def CUF_ERQ_REC (s w : Nat) : Nat := 0x200400 + 0x20 * s + 0x8 * w
/-- Device address of CUF_ERQ_POP. -/
def CUF_ERQ_POP (s : Nat) : Nat := 0x200480 + 0x8 * s
/-- Device address of CUF_CHK_CFG. -/
def CUF_CHK_CFG (n : Nat) : Nat := 0x202000 + 0x40 * n
/-- Device address of CUF_CHK_ADDR_A. -/
def CUF_CHK_ADDR_A (n : Nat) : Nat := 0x202008 + 0x40 * n
/-- Device address of CUF_CHK_ADDR_B. -/
def CUF_CHK_ADDR_B (n : Nat) : Nat := 0x202010 + 0x40 * n
/-- Device address of CUF_CHK_SYNC. -/
def CUF_CHK_SYNC (n : Nat) : Nat := 0x202018 + 0x40 * n
/-- Device address of CUF_CHK_STATE. -/
def CUF_CHK_STATE (n : Nat) : Nat := 0x202020 + 0x40 * n
/-- Device address of CUF_CHK_CNT_MATCH. -/
def CUF_CHK_CNT_MATCH (n : Nat) : Nat := 0x202028 + 0x40 * n
/-- Device address of CUF_CHK_CNT_DISAGREE. -/
def CUF_CHK_CNT_DISAGREE (n : Nat) : Nat := 0x202030 + 0x40 * n
/-- Device address of CUF_CHK_CNT_ABSENT. -/
def CUF_CHK_CNT_ABSENT (n : Nat) : Nat := 0x202038 + 0x40 * n
/-- Device address of CUF_AGE_CFG. -/
def CUF_AGE_CFG (m : Nat) : Nat := 0x204000 + 0x10 * m
/-- Device address of CUF_AGE_STATE. -/
def CUF_AGE_STATE (m : Nat) : Nat := 0x204008 + 0x10 * m

end Reg

end Sys2Proof.Machine
end

