-- ==== Sys2Proof/Machine/State.lean ====
section
/-! DEFINITION. The machine state: everything the spec gives the module, as plain data, and its value right after a
power-on reset. Registers live in one sparse table keyed by device address (R389, R390); what an unlisted register
reads as is the reset value of its field map. -/

namespace Sys2Proof.Machine

/-! ## Time bases (10_time_and_tracks.md) -/

/-- One time base: its value in units of 2⁻³² ns (R263), its increment, whether it has been set (R264), ALLOW_JUMP,
STEP_EPOCH and the jump limit in ns (R267). -/
structure TimeBase where
  val : Nat
  incr : Nat
  isSet : Bool
  allowJump : Bool
  epoch : Nat
  jumpLimit : Nat
  deriving DecidableEq, Repr

/-- The four time bases (R262). -/
structure TimeBases where
  tb0 : TimeBase
  tb1 : TimeBase
  tb2 : TimeBase
  tb3 : TimeBase
  deriving DecidableEq, Repr

/-- What base `tb` was until the TB0 value `at_` (2⁻³² ns), when its value, rate or epoch changed: its value there, its increment
and its epoch. The model keeps the changes, newest first, to say what a base read at a past event (R235, R236). -/
structure TimePast where
  tb : Nat
  at_ : Nat
  val : Nat
  incr : Nat
  epoch : Nat
  deriving DecidableEq, Repr

/-- One entry of the edge-stamp FIFO (R270). -/
structure EdgeEntry where
  gpio : Nat
  rising : Bool
  tb : Nat
  sec : Nat
  ns : Nat
  epoch : Nat
  deriving DecidableEq, Repr

/-! ## Unified range (07_unified_range.md) -/

/-- A mapped page (R174): `upper` is 0 none, 1 HBM3 stack A, 2 stack B, 3 LPDDR5X; masks hold one bit per tile block.
`home` is 0 HBM3, 1 LPDDR5X, 2 flash; `homeStack` tells the stack of an HBM3 home frame; `holds` counts transfers in progress;
`moveTo` is the stack (1, 2) that an upper frame waits to move to (R169); `dest` is the pool (1 to 4) of the new home frame of a
page that REHOME copies, and `copied` how many of its blocks are there (R172). -/
structure Page where
  st : Nat
  hint : Nat
  home : Nat
  homeStack : Nat
  upper : Nat
  part : Nat
  ro : Bool
  share : Bool
  stack : Nat
  resident : Nat
  dirty : Nat
  poison : Nat
  inflight : Nat
  zero : Nat
  age : Nat
  holds : Nat
  moveTo : Nat
  dest : Nat
  copied : Nat
  deriving DecidableEq, Repr

/-- Why a block is being written back (R170, R172, R178). -/
inductive WbKind where
  | evict | flush | drop | rehome
  deriving DecidableEq, Repr

/-- A write-back in progress: `req` is the command it belongs to, if any; `flash` tells a flash home; `start` is TB0 ns since a
channel runs it (R179). -/
structure Writeback where
  page : Nat
  block : Nat
  kind : WbKind
  abandoned : Bool
  req : Option Nat
  flash : Bool
  start : Option Nat
  deriving DecidableEq, Repr

/-- A fetch in flight into an upper frame: its source tier (1 LPDDR5X, 2 flash), its priority class of R179, the
request it was first made for, the Palm whose expert lookahead started it (R90), the pool that its upper frame is to come from
while the page has none, and TB0 ns since a channel runs it, with the limit of R183 that holds for it. -/
structure Fetch where
  page : Nat
  block : Nat
  src : Nat
  prio : Nat
  req : Option Nat
  look : Option Nat
  pool : Nat
  start : Option Nat
  limit : Nat
  deriving DecidableEq, Repr

/-- What waits on a tile block: a transfer of a request's part, a Finger transfer ticket, or, under request 0, the scheduler's
read of a descriptor of ring `idx`; TB0 ns since, and its limit (R183). -/
structure BlockWait where
  page : Nat
  block : Nat
  req : Nat
  part : Nat
  idx : Nat
  since : Nat
  limit : Nat
  deriving DecidableEq, Repr

/-- A UMR command in progress (R172): its pages (for MAP those still without a frame), the blocks whose write-back or
fetch it waits for, and what MAP and REHOME give the pages. -/
structure UmrJob where
  op : Nat
  pages : List Nat
  wait : List (Nat × Nat)
  hint : Nat
  flags : Nat
  part : Nat
  deriving DecidableEq, Repr

/-- A flash erase block (R190): its erase count, its reads since it was programmed, whether one needed soft-decision re-reads, the
powered hour at which it was erased and filled, the tile blocks programmed since, whether it is retired, and the tile blocks
(page × 32 + block) that are valid in it. -/
structure EraseBlock where
  erases : Nat
  reads : Nat
  soft : Bool
  hour : Nat
  used : Nat
  dead : Bool
  tiles : List Nat
  deriving DecidableEq, Repr

/-- The flash translation layer: the erase blocks that have been used, and the one being filled. -/
structure Flash where
  blocks : SMap EraseBlock
  filling : Option Nat
  deriving DecidableEq, Repr

/-- The unified range unit: pages by number (R165), fetches, write-backs and waits in
progress, the resident STREAM blocks by the request that fetched them (R169), translation caches most recent first (R515: Palm p is
cache p, the Visor 4, the Crown 5), the listed retired frames' pools (R188: 1 and 2 HBM3 stacks A and B, 3 LPDDR5X), bytes
written back to flash (R189). `home` holds the content of the last completed write-back of flash-homed blocks, `wb` the content captured when a write-back began; `owed` counts by pool the retired frames that the next free frames
make up for (R188). -/
structure Umr where
  pages : OMap Page
  fetches : List Fetch
  wbs : List Writeback
  waits : List BlockWait
  jobs : OMap UmrJob
  xlate : SMap (List Nat)
  home : Memory
  wb : Memory
  streams : List (Nat × Nat × Nat)
  retired : List Nat
  owed : SMap Nat
  flashBytes : Nat
  flash : Flash
  deriving DecidableEq, Repr

/-! ## Queues and scheduler (08_queues_and_scheduler.md) -/

/-- One sync list entry (R208). -/
structure SyncEntry where
  id : Nat
  op : Nat
  value : Nat
  deriving DecidableEq, Repr

/-- A stage or copy transfer of a part that is running (R201): command index, direction, buffer offset, address, destination of
a copy, bytes, and TB0 ns since it runs. -/
structure StageJob where
  idx : Nat
  dir : Nat
  bufOff : Nat
  addr : Nat
  dst : Nat
  bytes : Nat
  since : Nat
  deriving DecidableEq, Repr

/-- A part of a request (R206): its commands [first, stop), the next to dispatch and its address, the Gauntlet it
runs on, the transfers and the tile it has running, and the status it ended with. -/
structure Part where
  first : Nat
  stop : Nat
  next : Nat
  addr : Nat
  unit : Option Nat
  stages : List StageJob
  tile : Bool
  status : Option Nat
  detail : Nat
  deriving DecidableEq, Repr

/-- Where a request is (R209). -/
inductive ReqPhase where
  | waiting | running
  deriving DecidableEq, Repr

/-- A request in flight (R198). `ending` is the status a cancel, a teardown or a slot end has given a request that
is still running; `covers` lists the requests a cancel waits for (R230); `outs` are the output
ranges of a running engine, unspecified if it is stopped (R204); `stalls` are its accesses that wait on regulators, as (which,
TB0 ns since); `preemptFor` is the slot and frame whose pre-emption it counted last. -/
structure Request where
  ring : Nat
  index : Nat
  ctx : Nat
  kind : Nat
  flags : Nat
  oppt : Nat
  affinity : Nat
  tag : Nat
  cmdCount : Nat
  cmdAddr : Nat
  deadline : Nat
  soloEst : Nat
  user : Nat
  waits : List SyncEntry
  sigs : List SyncEntry
  nParts : Nat
  parts : List Part
  phase : ReqPhase
  startNs : Nat
  started : Bool
  preempts : Nat
  palms : Nat
  regulated : Bool
  migrate : Bool
  fallback : Bool
  stalls : List (Nat × Nat)
  preemptFor : Option (Nat × Nat)
  units : List Nat
  ending : Option Nat
  schedOp : Nat
  schedTag : Nat
  tails : List (Nat × Nat)
  covers : List Nat
  outs : List (Nat × Nat)
  deriving DecidableEq, Repr

/-- A cancel that still covers descriptors not yet accepted (R230): its request, context, tag, and the tail of each
ring of the context when the cancel was accepted. -/
structure Cancel where
  req : Nat
  ctx : Nat
  tag : Nat
  tails : List (Nat × Nat)
  deriving DecidableEq, Repr

/-- The scheduler: requests in flight by running number, rings with descriptors waiting, the order in which rings were
last accepted from (R213), event queues per context (R203), bucket levels in bytes with the TB0 ns of their last refill (R215, key 26p + x), slots open
and in their lead (R219, R220), cancels in force (R230), a step of the cadence base in the frame in progress, the ns by which
steps have moved it, the frame that starts next after a step (R226), whether no frame has started since ENABLE, whether
best-effort and all acceptance is stalled and which contexts' own is (R212), and contexts whose completion array faulted (R168). -/
structure Que where
  reqs : OMap Request
  nextReq : Nat
  waitRings : List Nat
  clock : Nat
  lastAccept : SMap Nat
  events : SMap (List Nat)
  buckets : SMap (Int × Nat)
  open_ : List Nat
  lead : List Nat
  cancels : List Cancel
  cadResync : Bool
  cadShift : Int
  cadNext : Option Nat
  cadFirst : Bool
  stalledBe : Bool
  stalledAll : Bool
  stalledCtx : List Nat
  doomed : List Nat
  deriving DecidableEq, Repr

/-! ## Gauntlets (02_gauntlet_arithmetic.md, 04_region_operators.md, 05_carried_state.md) -/

/-- One output element's accumulator: the exact sum in units of 2⁻³²⁰ (R32) with its flags ([0] NaN, [1] +∞, [2] −∞,
[3] an invalid operation occurred), the partial tree of the 16-bit path (R37: next block index and the FP32 codes of
the complete subtrees, newest first, and the seed that is added last), and the running maximum of a pooling window (R106). -/
structure Acc where
  sum : Int
  fl : Nat
  next : Nat
  stack : List Nat
  seed : Option Nat
  best : Option FV
  deriving DecidableEq, Repr

/-- A held bank (R34, R36, R119): who holds it, what a continuing tile must match, the K index or step that must follow,
the accumulators, and for a scan the FP32 state values. -/
structure Bank where
  req : Nat
  part : Nat
  ctx : Nat
  key : List Nat
  next : Nat
  accs : List Acc
  vals : List Nat
  deriving DecidableEq, Repr

/-- A running tile: the command it came from, its 128-byte descriptor and curve tables read at dispatch (R47), the
buffer bytes it names as (offset, length), its cost and estimate in cycles. -/
structure Tile where
  req : Nat
  part : Nat
  idx : Nat
  addr : Nat
  desc : Bytes
  curve : Bytes
  gate : Bytes
  regions : List (Nat × Nat)
  cost : Nat
  est : Nat
  deriving DecidableEq, Repr

/-- One Gauntlet: the running tile, the held bank, the part bound to it, the part parked on it with its bank (R222), and
its swap phase: 0 none, 1 pre-emption asked for, 2 parking, 3 restoring, with the slot and frame that asked last. -/
structure Gnt where
  tile : Option Tile
  bank : Option Bank
  owner : Option (Nat × Nat)
  parked : Option (Nat × Nat)
  parkedBank : Option Bank
  phase : Nat
  asker : Nat × Nat
  deriving DecidableEq, Repr

/-- A state slot known to the scheduler (R129, R130), by its home address: the Gauntlet and offset of its buffer copy,
its owning context, its phase (0 home only, 1 in a buffer, 2 swapping out, 3 restoring), the part that runs the chunk in
progress, the chunk's first step, its length once an END tile has run, the elements it stagnated and its steps, and the part
that a restore is for, with where it goes. -/
structure Slot where
  g : Nat
  off : Nat
  ctx : Nat
  phase : Nat
  chunk : Option (Nat × Nat)
  base : Nat
  chunkLen : Nat
  stag : Nat
  steps : Nat
  target : Option (Nat × Nat)
  tg : Nat
  toff : Nat
  deriving DecidableEq, Repr

/-! ## Attention and KV rings (03_sequence_models.md) -/

/-- A row of an attention call's length table (R62). -/
structure AttRow where
  seq : Nat
  start : Nat
  len : Nat
  tok0 : Nat
  deriving DecidableEq, Repr

/-- An attention call in progress on a Palm's unit (R66 to R79): its request, its descriptor and the rows of its length table, the
work items left, the sequences that it appends to, per row the pages reserved for its appends, the Gauntlets that it uses now, and
the work items that still run on those it has left (R71). -/
structure AttCall where
  req : Nat
  desc : Bytes
  rows : List AttRow
  items : Nat
  seqs : List Nat
  pages : List (List Nat)
  gnts : List Nat
  draining : Nat
  deriving DecidableEq, Repr

/-- A KV ring manager's copy of a sequence record (R74); `ctx` is the context whose tagged call set TAG. -/
structure SeqRec where
  st : Nat
  mode : Nat
  spec : Nat
  layers : Nat
  nextLayer : Nat
  commit : Nat
  tent : Nat
  win : Nat
  maxTok : Nat
  tag : Nat
  pend : Nat
  dir : Nat
  held : Nat
  ctx : Nat
  deriving DecidableEq, Repr

/-- R91: the predicted experts of a layer, with the address of their weight ranges. -/
structure LookSet where
  experts : List Nat
  ranges : Nat
  deriving DecidableEq, Repr

/-! ## Sampler front (04_region_operators.md) -/

/-- The crop-and-resize call in progress, its next box, and the ranges that others have written since it started, as (address,
bytes) (R109 to R115). -/
structure Crop where
  req : Nat
  box : Nat
  written : List (Nat × Nat)
  deriving DecidableEq, Repr

/-! ## Fingers (06_fingers_and_mittens.md) -/

/-- What a Finger waits for: a stalled message, barrier or queue instruction (R155 to R158), a ticket (R159), or the end of
its transfers in XF.EXIT (R150). -/
inductive FngWait where
  | none
  | send (value dir : Nat)
  | recv (rd dir : Nat)
  | msg
  | bar
  | gbar
  | push (q value : Nat)
  | pop (rd q : Nat)
  | ticket (t : Nat)
  | xfer (rd block : Nat)
  | drain
  deriving DecidableEq, Repr

/-- A block transfer in progress (R159, R160): its direction, the store and place of its LOC region, its length, its
unified-range address, the bytes a write captured when it started (or marks of the bytes that stores touched during a read),
and whether its unified-range access has begun. -/
structure Transfer where
  begun : Bool
  write : Bool
  space : Nat
  key : Nat
  bytes : Nat
  addr : Nat
  data : Bytes
  deriving DecidableEq, Repr

/-- One Finger (R138 to R160): the request of its launch, `run` (0 in no launch, 1 running, 2 exited), pc, integer,
floating-point and vector registers, control and status registers by number, the LR reservation as (store, place), four
inboxes, eight tickets, what it waits for, and the instructions retired since the launch started. -/
structure Finger where
  launch : Nat
  run : Nat
  pc : Nat
  x : List (BitVec 32)
  fr : List (BitVec 32)
  v : List (BitVec 128)
  csr : SMap Nat
  resv : Option (Nat × Nat)
  inbox : List (List (BitVec 32))
  tickets : List (Option Transfer)
  wait : FngWait
  retired : Nat
  deriving DecidableEq, Repr

/-- A launch (R145 to R148): its context, its Mittens in group order, the mesh width (0 with MESH clear), what it claims, its
program and argument block, its windows, whether its Fingers have started, and whether a breakpoint halts it. -/
structure Launch where
  ctx : Nat
  groups : List Nat
  mesh : Nat
  debug : Bool
  entry : Nat
  shared : Nat
  code : Bytes
  arg : Bytes
  inBase : Nat
  inBytes : Nat
  outBase : Nat
  outBytes : Nat
  scrOff : Nat
  scrBytes : Nat
  started : Bool
  halted : Bool
  deriving DecidableEq, Repr

/-! ## Time, alignment and tracks (10_time_and_tracks.md) -/

/-- The last edge of a camera-trigger output: the value of each base, with its epoch, at that instant (R235). -/
structure TrigEdge where
  vals : List Nat
  epochs : List Nat
  deriving DecidableEq, Repr

/-- A gPTP instance (R273): the best announce received on each of the six ports, the sequence number of the next sync, and of the
last sync sent the value of its base (2⁻¹⁶ ns) and the ports it went out on. -/
structure GptpInst where
  anns : List (Option Announce)
  syncSeq : Nat
  origin : Nat
  ports : List Nat
  deriving DecidableEq, Repr

/-- A sample of an align channel (R276): its stamp in 2⁻¹⁶ ns, the epoch it is carried to, its FP32 elements. -/
structure AtuSample where
  stamp : Int
  epoch : Nat
  vals : List Nat
  deriving DecidableEq, Repr

/-- An align channel (R275, R276, R280): its samples in stamp order, the samples of the present drift block with the least
arrival − stamp, the baseline m₀ and whether the channel is DESYNC. -/
structure AtuChan where
  samples : List AtuSample
  blockN : Nat
  blockMin : Int
  baseline : Option Int
  desync : Bool
  deriving DecidableEq, Repr

/-- A track (R281 to R286): the fields of its record, its in-view updates since birth, the instant of the last in-view
update, and per sensor the latest instants at which it took a detection or missed (R284), a counted miss with the number of
in-view updates it was. -/
structure Track where
  id : Nat
  st : Nat
  coasted : Bool
  hits : Nat
  misses : Nat
  agree : Nat
  sensor : Nat
  at_ : Nat
  x : List Nat
  p : List (List Nat)
  cls : Nat
  birth : Nat
  inViews : Nat
  touched : Nat
  takes : SMap (Option Nat)
  missed : SMap (Option (Nat × Option Nat))
  deriving DecidableEq, Repr

/-- The Align and Track unit: channels, tracks by slot, the next TRACK_ID, and the instant of the last accepted update
(R285). -/
structure Atu where
  chans : SMap AtuChan
  tracks : OMap Track
  nextId : Nat
  last : Option Nat
  deriving DecidableEq, Repr

/-! ## Visor intake (09_visor_intake.md) -/

/-- An installed ROI list (R244, R245): its base and stamp in 2⁻¹⁶ ns, and per box Y1, X1, Y2, X2, VY and VX. -/
structure RoiList where
  tb : Nat
  stamp : Nat
  boxes : List (List Nat)
  deriving DecidableEq, Repr

/-- An accepted sample that has not been emitted (R237, R242): its tag, its kind and crop index as its record gives them, its
stamp in 2⁻¹⁶ ns, its input data with what the port said of it, the sequence number of the sample that holds a crop's or
reduced picture's data, the box of a crop, its items, its place (batch, row, first item), whether it is complete (0 not
started, 1 decoding, 2 complete, 3 corrupt), its packed bytes, TRUNC and REPLAYED, and the width and height of the picture or
crop that it holds (R241, R245). -/
structure VSample where
  stream : Nat
  seq : Nat
  kind : Nat
  sub : Nat
  stamp : Nat
  tb : Nat
  epoch : Nat
  data : SensorData
  lead : Nat
  box : List Nat
  items : Nat
  pos : Option (Nat × Nat × Nat)
  st : Nat
  out : Bytes
  trunc : Bool
  replayed : Bool
  w : Nat
  h : Nat
  deriving DecidableEq, Repr

/-- A batch of a pipeline (R252, R253): the tags placed in it in order, the items used in each row, the TB0 ns of its first
placement, whether it is closed, and its FLAGS. -/
structure VBatch where
  seq : Nat
  tags : List Nat
  fills : List Nat
  first : Option Nat
  closed : Bool
  flags : Nat
  deriving DecidableEq, Repr

/-- A pipeline (R250 to R259): its unemitted samples in the order of acceptance, its unemitted batches (the last one is open),
the cut of a stop, the stop record to be, the tags still to be replayed, the RESTART and STOP commands in progress, and
the next output slot. -/
structure VPipe where
  samples : List VSample
  batches : List VBatch
  cut : Option (Nat × Nat)
  why : Nat × Nat × Nat
  replay : List Nat
  restart : Option Nat
  stopReq : Option Nat
  slot : Nat
  deriving DecidableEq, Repr

/-- A stream context: the stamp of the sample in progress with its epoch, the ROI lists with the TB0 ns at which each was
installed, newest first (R244), the one that was installed when that stamp was taken, and whether pictures before the next IRAP
access unit are discarded (R259). -/
structure VStream where
  stamp : Option (Nat × Nat)
  lists : List (Nat × RoiList)
  latched : Option RoiList
  skipping : Bool
  deriving DecidableEq, Repr

/-- The Visor intake: streams, pipelines and the two tokenizer banks. -/
structure Visor where
  streams : OMap VStream
  pipes : OMap VPipe
  banks : OMap Bytes
  deriving DecidableEq, Repr

/-! ## Knuckle engines (11_knuckle_control.md) -/

/-- A loop slot that is or was enabled: the next sample whose window opens (counted from PHASE), whether the boundary of the
sample before it is still to come (R295: a window opens GUARD_NS ahead of its boundary), the sample whose window is open, the inputs present for it, when it became ready (order of readiness, TB0 ns, sample) and the same for a late compute
by HOLD (R297), whether its compute has started, x̂, the bumpless offsets (R303), the region left by the last switch that
still owes its offsets, the region for the next boundary, the committed set that waits (R304), whether the slot waits for
its pair's other member, and a pair member's result for a sample: limited outputs, next state, next region (R308). -/
structure KnkLoop where
  next : Nat
  ahead : Bool
  win : Option Nat
  present : Nat
  ready : Option (Nat × Nat × Nat)
  late : Option (Nat × Nat × Nat)
  begun : Bool
  x : List Int
  d : List Int
  old : Option Nat
  region : Nat
  pending : Option (List (Nat × Word))
  waiting : Bool
  result : Option (Nat × List Int × List Int × Nat)
  deriving DecidableEq, Repr

/-- The compute an engine runs: its slot, the sample, the latched vector [x̂; y; r; 1], the TB0 ns at
which the loop became ready and at which the compute started, whether it is a late one, and whether the loop has been stopped
since (R311). -/
structure KnkRun where
  slot : Nat
  sample : Nat
  vec : List Int
  readyNs : Nat
  startNs : Nat
  late : Bool
  stopped : Bool
  deriving DecidableEq, Repr

/-- The four Knuckle engines: loops by engine × 64 + slot, running computes by engine, and the order of readiness. -/
structure Knk where
  loops : OMap KnkLoop
  runs : OMap KnkRun
  order : Nat
  deriving DecidableEq, Repr

/-! ## Gusset (12_gusset_solver.md) -/

/-- A job that a Gusset unit has taken up: its request, context, descriptor, program and base table as read (R314), the next
micro-op, the x, z and y of an accepted warm start, whether one was rejected (R324), and the effective deadline (R328). -/
structure GusJob where
  req : Nat
  ctx : Nat
  desc : Bytes
  prog : Bytes
  base : List Nat
  next : Nat
  warm : Option Bytes
  warmRej : Bool
  deadline : Option Nat
  deriving DecidableEq, Repr

/-- The two Gusset units (R313): jobs by unit, the context of each unit's last job, and the words of the user areas at
unit × 2^20 + word. -/
structure Gus where
  jobs : OMap GusJob
  owner : OMap Nat
  store : SMap Nat
  deriving DecidableEq, Repr

/-! ## Planner (13_planner_collision.md) -/

/-- A map epoch (R337 to R340): its number, T0 in 2⁻¹⁶ ns, geometry as the last RESET read it, node pool, the leaves with a
non-zero mask at (X × 2^14 + Y) × 2^14 + Z, and which epoch made each tree node (level × 2^42 + place). -/
structure PEpoch where
  num : Nat
  t0 : Nat
  leafMm : Nat
  depth : Nat
  slices : Nat
  dtUs : Nat
  tb : Nat
  origin : List Nat
  base : Nat
  mib : Nat
  leaves : SMap Nat
  made : SMap Nat
  deriving DecidableEq, Repr

/-- A tree node: configuration, whether it is in the goal tree, parent, epoch of the edge to the parent. -/
structure PNode where
  q : List Nat
  goal : Bool
  parent : Option Nat
  epoch : Nat
  deriving DecidableEq, Repr

/-- A roadmap edge: ends, duration in µs, the epoch it carries, and the blocked mark (R349). -/
structure REdge where
  a : Nat
  b : Nat
  dur : Nat
  epoch : Nat
  blocked : Bool
  deriving DecidableEq, Repr

/-- A roadmap in a work region: CRC of its model, the region's first 64 bytes, nodes and edges. -/
structure Roadmap where
  crc : Nat
  header : Bytes
  nodes : List (List Nat)
  edges : List REdge
  deriving DecidableEq, Repr

/-- An A* search (R349): cost and predecessor of each node reached, nodes expanded for good, and the node being expanded with
its edges left. -/
structure AStar where
  g : OMap Nat
  back : OMap Nat
  closed : List Nat
  cur : Option (Nat × List Nat)
  expanded : Nat
  deriving DecidableEq, Repr

/-- Waypoints of a path, each with the epoch of the edge that arrives there. -/
abbrev PPath := List (List Nat × Nat)

/-- Where a held PLAN stands. A phase that names an edge waits for its check; `ended` has a status. -/
inductive PlanPhase where
  | grow
  | extend (n : Nat) (qn : List Nat)
  | connect (a m : Nat) (qm : List Nat)
  | join (path : PPath) (i : Nat)
  | place (k : Nat)
  | link (node : Nat) (todo : List Nat)
  | search
  | recheck (e : Nat)
  | shortcut (pass : Nat)
  | cut (pass : Nat) (cand : PPath) (i at_ : Nat)
  | release
  | validate (i reps : Nat)
  | ended (st : Nat)
  deriving DecidableEq, Repr

/-- A held PLAN (R333, R345 to R353): its request, descriptor, model image, start and goal, TB0 ns when the budget runs out, the
snapshot epoch at dispatch and the epoch it holds now, the generator, iterations, tree nodes, roadmap with the number of
nodes that it began with, the search, the full path once found, and what the record reports. -/
structure Plan where
  req : Nat
  ctx : Nat
  desc : Bytes
  model : Bytes
  start : List Nat
  goal : List Nat
  budget : Nat
  first : Nat
  snap : Nat
  rng : Nat
  iter : Nat
  nodes : List PNode
  map : Roadmap
  fresh : Bool
  search : AStar
  path : PPath
  phase : PlanPhase
  cutTaken : Bool
  newer : Bool
  released : Option Nat
  stale : Option Nat
  joinFails : Nat
  tests : Nat
  checks : Nat
  hit : Nat × Nat
  deriving DecidableEq, Repr

/-- The planner and collision unit: model images by slot, live epochs, the number of the newest epoch, PLANs that wait for a
place and that are held in order, the request in its quantum, the roadmaps by work address, and the update in
progress. -/
structure Pcu where
  models : OMap Bytes
  epochs : OMap PEpoch
  newest : Nat
  waiting : List Nat
  held : OMap Plan
  order : List Nat
  turn : Option Nat
  yield : Bool
  maps : OMap Roadmap
  update : Option (Nat × PEpoch)
  deriving DecidableEq, Repr

/-! ## Brim (17_brim_clocks_power.md) -/

/-- An operating-point transition of a Palm (R450): the point it goes to, and whether the rail has reached its voltage. -/
structure PalmMove where
  dest : Nat
  rail : Bool
  deriving DecidableEq, Repr

/-- Brim: whether the Crown is throttled, which halves the Gusset clocks (R458); whether the rails are off and since when a
thermal shutdown waits (R459); transitions by Palm (R450); dividers by domain (R444: 0 to 15 the Gauntlets, 16 to 19 the
fabrics, 20 Crown, 21 Visor, 22 Knuckle, 23 and 24 the Gussets, 25 the register bus), which start at 224; TB0 ns at which a
Palm's stretch began (R457); Palms that throttling still lowers (bit per Palm); gates whose idle clock AUTO has stopped
(R447); and the governing and the measured power of the last 100 periods in 0.1 W, newest first (R453, R463). -/
structure Brim where
  gusHot : Bool
  off : Bool
  offAt : Option Nat
  moves : OMap PalmMove
  divs : SMap Nat
  stretch : OMap Nat
  lowering : Nat
  stopped : List Nat
  govern : List Nat
  measured : List Nat
  deriving DecidableEq, Repr

/-! ## Network (14_network_and_field.md) -/

/-- A roster node (R363 to R367): the last accepted SEQ, TB0 ns of the last valid input frame (or of the enable), its output
frame's data, the map entries written since the last send with the TB0 ns of the first, and the next SEQ. -/
structure NetNode where
  lastSeq : Option Nat
  since : Nat
  data : Bytes
  written : List Nat
  first : Option Nat
  seq : Nat
  deriving DecidableEq, Repr

/-- A field segment: the frames that are ready (output frames marked), TB0 ns since which the transmitter is off (R370), noise counted in a
TB0 millisecond, the beacons counted in one, the millisecond in which NOISE_LIMIT was written with the limit that stays in force
until it ends (R377), and the number and TB0 ns of the last time frame (R371). -/
structure Seg where
  ready : List (Bool × Bytes)
  off : Option Nat
  noiseMs : Nat
  noise : Nat
  beaconMs : Nat
  beacons : Nat
  oldLimit : Option (Nat × Nat)
  tsync : Nat
  synced : Option Nat
  deriving DecidableEq, Repr

/-- The operational gate control list of a port, the interval in force, and where its cycle in progress began (R359). -/
structure Gcl where
  list : Bytes
  idx : Nat
  start : Nat
  deriving DecidableEq, Repr

/-- The switch: roster nodes, segments, filtering database (VID × 2^48 + MAC to port), gate control lists, frames that wait
for a gate (port to class and frame), and the last frame that left each port or segment. -/
structure Net where
  nodes : OMap NetNode
  segs : OMap Seg
  fdb : OMap Nat
  gcl : OMap Gcl
  queues : SMap (List (Nat × Bytes))
  lastTx : SMap Bytes
  deriving DecidableEq, Repr

/-! ## Cuff (18_cuff_safety.md) -/

/-- An error record held in a queue (R472). -/
structure ErrRec where
  sev : Nat
  cls : Nat
  status : Nat
  block : Nat
  ctx : Option Nat
  lostBefore : Bool
  captured : Bool
  unit : Nat
  seq : Nat
  detail : Nat
  time : Nat
  count : Nat
  handled : Bool
  deriving DecidableEq, Repr

/-- A check channel (R478, R479): the frame being decided, the frame that opened a disagreement, the values that each side's
object took from that frame on, with the TB0 ns and the units that ran the signalling request, and the TB0 ns of the previous
decision. -/
structure CheckCh where
  v : Nat
  opened : Option Nat
  seenA : List (Nat × Nat × List Nat)
  seenB : List (Nat × Nat × List Nat)
  decided : Nat
  deriving DecidableEq, Repr

/-- An age monitor (R481): TB0 ns of its last valid result, and whether it has expired. -/
structure AgeMon where
  last : Nat
  expired : Bool
  deriving DecidableEq, Repr

/-- The self-test of one unit (R482 to R485): slices done, TB0 ns at which the previous full test started, from which its interval
runs, and at which the present one began, slices of a targeted test left, whether a slice runs, whether the coverage record was
sent, whether CUF_RETEST asked for the targeted test, and TB0 ns at which the last slice started. -/
structure SelfTest where
  done : Nat
  started : Nat
  began : Nat
  target : Nat
  running : Bool
  warned : Bool
  retest : Bool
  last : Option Nat
  deriving DecidableEq, Repr

/-- The safety island: the four queues by severity, record sequence number, loss marks, check channels, age monitors,
self-tests by unit, checker rotation and the checker under test, SAFE_IN levels, stop causes and output levels. -/
structure Cuff where
  q0 : List ErrRec
  q1 : List ErrRec
  q2 : List ErrRec
  q3 : List ErrRec
  seq : Nat
  lost : Nat
  checks : OMap CheckCh
  ages : OMap AgeMon
  tests : SMap SelfTest
  checker : Nat
  checkerRun : Option Nat
  inA : Bool
  inB : Bool
  sawStop : Bool
  cleared : Nat
  cmdLevel : Nat
  openCh : Nat
  knkOpen : OMap Nat
  knkSample : SMap Nat
  deriving DecidableEq, Repr

/-! ## Dictionary service and configuration control (15_dictionary_and_registers.md) -/

/-- What the Crown keeps for an ODS host entry: the kept responses as (SEQ, TB0 ns first sent, datagram) oldest first (R374),
the live READ_BLOCK capture as (entry key, value, next offset, TB0 ns of its last piece) (R384), the pieces of a WRITE_BLOCK so far
(R373),
DESCRIBE_TARGET and DBG_ADDR (R382, R414), and the attestation NONCE, REPORT and ATTEST_STATE (R431). -/
structure OdsHost where
  kept : List (Nat × Nat × Bytes)
  capture : Option (Nat × Bytes × Nat × Nat)
  write : Option (Nat × Nat × Bytes)
  target : Nat
  dbgAddr : Nat
  nonce : Bytes
  report : Bytes
  att : Nat
  deriving DecidableEq, Repr

/-- Dictionary service: ODS host entries by number, the last response datagram sent, the blocks whose drift has been reported
(R403), the stored set in force (R388: entry keys and values other than defaults; none when there is no set), and the store of a
captured set, or the erase, in progress. -/
structure Sys where
  hosts : OMap OdsHost
  reply : Bytes
  drifted : List Nat
  stored : Option (List (Nat × Bytes))
  storing : Option (Option (List (Nat × Bytes)))
  deriving DecidableEq, Repr

/-! ## Boot, identity and lifetime log (16_boot_and_identity.md) -/

/-- A recovery exchange (R425): the host's port and address, the image's length, the bytes received, the outstanding GETs by
offset as (sends, TB0 ns of the last send), and the offset of the next GET. -/
structure Recovery where
  port : Nat
  host : Nat
  total : Nat
  data : Memory
  gets : OMap (Nat × Nat)
  next : Nat
  deriving DecidableEq, Repr

/-- Boot and identity: the reset pins held low ([0] PORST_N, [1] WARM_RST_N), whether a reset is in progress and its cause, the
next stage (0 header, 1 to 4 the stages, 5 all loaded), the firmware image in flash, the running image's five digests,
the fused security version and owner key hash, whether an advance waits for ODS, trained
memories ([0] LPDDR5X, [1] HBM3), whether ETH_PHY_RST_N has been released (R424, R505), a pending FAULTS count of R465, the recovery exchange, TB0 ns of a DONE with result 0 and
of a RESET_CMD response, the staged image while it holds its frames (empty until it is complete), the lifetime log's two flash
copies as (sequence, entries), the calibration set's entries (R433), and the messages the last recovery event sent. -/
structure Boot where
  held : Nat
  inReset : Bool
  cause : Nat
  stage : Nat
  image : Bytes
  digests : Bytes
  secFused : Nat
  ownerHash : Bytes
  advance : Bool
  trained : Nat
  phyOut : Bool
  hwPending : Bool
  recovery : Option Recovery
  doneAt : Option Nat
  resetAt : Option Nat
  staged : Option Bytes
  logA : Option (Nat × List (Nat × Nat))
  logB : Option (Nat × List (Nat × Nat))
  cal : OMap Bytes
  sent : List Bytes
  deriving DecidableEq, Repr

/-! ## Module (19_module_hardware.md) -/

/-- The module: why its supply is off (0 on, 1 undervoltage, 2 overvoltage), the I²C read offset (R507). -/
structure Module where
  off : Nat
  offset : Nat
  deriving DecidableEq, Repr


/-! ## The machine -/

/-- Why a step stops with a fault. -/
inductive Fault where
  /-- Never raised: the spec gives the module no effect that stops it; errors are register, record and state effects.
  Safe. -/
  | none
  deriving DecidableEq, Repr

/-- Why a step is refused. -/
inductive Refusal where
  /-- Raised only by the dispatcher for a command that has no meaning yet. Safe: nothing is claimed of it. -/
  | notModelled (mnemonic : String)
  deriving DecidableEq, Repr

/-- The machine state: the commands that wait, the four time bases, the number of free values drawn so far (the model's
own field), the registers' values in force and live shadows (R393, R394), the object dictionary's numeric and
variable-size entries, the unified range's content, the value the last read answered with, and the units' own state. -/
structure State where
  pending : List Instr
  time : TimeBases
  fresh : Nat
  regs : SMap Word
  shadow : OMap Word
  dict : SMap Nat
  octets : SMap Bytes
  refused : List Nat
  umem : Memory
  readVal : Word
  umr : Umr
  que : Que
  gnt : SMap Gnt
  gbuf : Memory
  slots : OMap Slot
  att : OMap AttCall
  attWait : List Nat
  kvr : OMap SeqRec
  kvrUsed : SMap (List Nat)
  look : OMap LookSet
  crop : Option Crop
  gusNotes : OMap (List (Nat × Nat))
  launches : OMap Launch
  fingers : OMap Finger
  mqueues : SMap (List (BitVec 32))
  lmem : Memory
  smem : Memory
  scr : Memory
  timePast : List TimePast
  edges : List EdgeEntry
  outNext : SMap Nat
  pulse : OMap (Nat × Nat)
  trig : OMap TrigEdge
  cmpArmed : Nat
  gptp : SMap GptpInst
  gptpHold : Nat
  pdelay : SMap Int
  atu : Atu
  vis : Visor
  knk : Knk
  gus : Gus
  pcu : Pcu
  brm : Brim
  net : Net
  cuff : Cuff
  sys : Sys
  boot : Boot
  mdl : Module
  deriving DecidableEq, Repr

/-! ## After a power-on reset -/

/-- A time base after reset (R263, R264, R267): zero, with the increment of 4 ns. -/
def TimeBase.reset (isSet : Bool) : TimeBase :=
  { val := 0, incr := 2 ^ 34, isSet := isSet, allowJump := false, epoch := 0, jumpLimit := 1000000 }

/-- The unified range unit after reset: nothing mapped, nothing in progress. -/
def Umr.reset : Umr :=
  { pages := [], fetches := [], wbs := [], waits := [], jobs := [], xlate := [], home := [], wb := [], streams := [],
    retired := [], owed := [], flashBytes := 0, flash := { blocks := [], filling := none } }

/-- The scheduler after reset. -/
def Que.reset : Que :=
  { reqs := [], nextReq := 1, waitRings := [], clock := 0, lastAccept := [], events := [], buckets := [], open_ := [],
    lead := [], cancels := [], cadResync := false, cadShift := 0, cadNext := none, cadFirst := false,
    stalledBe := false, stalledAll := false, stalledCtx := [], doomed := [] }

/-- The planner after reset: no model, no map, nothing held. -/
def Pcu.reset : Pcu :=
  { models := [], epochs := [], newest := 0, waiting := [], held := [], order := [], turn := none, yield := false,
    maps := [], update := none }

/-- Brim after reset: nothing moves. -/
def Brim.reset : Brim :=
  { gusHot := false, off := false, offAt := none, moves := [], divs := [], stretch := [], lowering := 0, stopped := [],
    govern := [], measured := [] }

/-- The safety island after reset: SAFE_IN levels low (R467 to R469). -/
def Cuff.reset : Cuff :=
  { q0 := [], q1 := [], q2 := [], q3 := [], seq := 0, lost := 0, checks := [], ages := [], tests := [], checker := 0,
    checkerRun := none, inA := false, inB := false, sawStop := false, cleared := 0, cmdLevel := 0, openCh := 0,
    knkOpen := [], knkSample := [] }

/-- The dictionary service after reset: no kept responses, no stored set. -/
def Sys.reset : Sys := { hosts := [], reply := [], drifted := [], stored := none, storing := none }

/-- Boot state of a part that has just got power for the first time: an empty flash and unfused keys (DESIGN CHOICE, log entry
73: the spec does not say what the factory writes). -/
def Boot.reset : Boot :=
  { held := 0, inReset := false, cause := 1, stage := 0, image := [], digests := [], secFused := 0, ownerHash := [],
    advance := false, trained := 0, phyOut := false, hwPending := false, recovery := none, doneAt := none, resetAt := none,
    staged := none, logA := none, logB := none, cal := [], sent := [] }

/-- R4, R416: the module right after a power-on reset. Every register reads as its field map's reset value, since
no table lists one. -/
def State.reset : State :=
  { pending := [],
    time := ⟨TimeBase.reset true, TimeBase.reset false, TimeBase.reset false, TimeBase.reset false⟩,
    fresh := 0, regs := [], shadow := [], dict := [], octets := [], refused := [], umem := [], readVal := 0, umr := Umr.reset,
    que := Que.reset, gnt := [], gbuf := [], slots := [],
    att := [], attWait := [], kvr := [], kvrUsed := [], look := [],
    crop := none, gusNotes := [],
    launches := [], fingers := [], mqueues := [], lmem := [], smem := [], scr := [],
    timePast := [], edges := [], outNext := [], pulse := [], trig := [], cmpArmed := 0, gptp := [], gptpHold := 0, pdelay := [],
    atu := { chans := [], tracks := [], nextId := 1, last := none },
    vis := { streams := [], pipes := [], banks := [] },
    knk := { loops := [], runs := [], order := 0 },
    gus := { jobs := [], owner := [], store := [] },
    pcu := Pcu.reset,
    brm := Brim.reset,
    net := { nodes := [], segs := [], fdb := [], gcl := [], queues := [], lastTx := [] },
    cuff := Cuff.reset,
    sys := Sys.reset, boot := Boot.reset, mdl := { off := 0, offset := 0 } }

end Sys2Proof.Machine
end

