-- ==== Sys2Proof/Machine/Ops.lean ====
section
/-! DEFINITION. The operations every family shares: registers and their fields, time, dictionary counters, free
values, block numbers, snapshots, error records with their actions, the safe state, sync objects. -/

namespace Sys2Proof.Machine

/-! ## Registers -/

/-- R412: register base of block `k`. -/
def blockBase (k : Nat) : Nat :=
  if k < 0x10 then 0x04000000 + k * 0x10000
  else if k < 0x14 then 0x04100000 + (k - 0x10) * 0x10000
  else if k < 0x18 then 0x04140000 + (k - 0x14) * 0x10000
  else if k < 0x1C then 0x05000000 + (k - 0x18) * 0x10000
  else if k < 0x20 then 0
  else if k < 0x60 then 0x05080000 + (k - 0x20) * 0x1000
  else if k = 0x60 then 0x07000000
  else if k = 0x61 then 0x08000000
  else if k = 0x62 then 0x0A000000
  else if k = 0x63 then 0x0A800000
  else if k = 0x64 then 0x06000000
  else if k = 0x65 then 0x06200000
  else if k = 0x66 then 0x06400000
  else if k = 0x67 then 0x0B000000
  else if k < 0x6C then 0x0C000000 + (k - 0x68) * 0x100000
  else if k < 0x6E then 0x0D000000 + (k - 0x6C) * 0x10000
  else if k = 0x6E then 0x0E000000
  else if k = 0x6F then 0x0F000000
  else if k = 0x70 then 0x0F100000
  else if k = 0x71 then 0x0F200000
  else if k = 0x72 then 0x00100000
  else if k = 0x73 then 0x00200000
  else if k = 0x74 then 0x00300000
  else 0

/-- R412: whether a block number is assigned. -/
def blockAssigned (k : Nat) : Bool := decide (k < 0x1C) || (decide (0x20 ≤ k) && decide (k ≤ 0x74))

/-- R412: the blocks assigned, in ascending order. -/
def allBlocks : List Nat := (List.range 0x75).filter blockAssigned

/-- The block that implements a register address, 0xFF for none (R412). Configuration control records and the
capability list belong to no block. -/
def blockOf (a : Nat) : Nat :=
  if a < 0x00100000 then 0xFF
  else if a < 0x00200000 then 0x72
  else if a < 0x00300000 then 0x73
  else if a < 0x00400000 then 0x74
  else if a < 0x04000000 then 0xFF
  else if a < 0x04100000 then (a - 0x04000000) / 0x10000
  else if a < 0x04140000 then 0x10 + (a - 0x04100000) / 0x10000
  else if a < 0x04180000 then 0x14 + (a - 0x04140000) / 0x10000
  else if a < 0x05000000 then 0xFF
  else if a < 0x05040000 then 0x18 + (a - 0x05000000) / 0x10000
  else if a < 0x05080000 then 0xFF
  else if a < 0x050C0000 then 0x20 + (a - 0x05080000) / 0x1000
  else if a < 0x06000000 then 0xFF
  else if a < 0x06200000 then 0x64
  else if a < 0x06400000 then 0x65
  else if a < 0x06600000 then 0x66
  else if a < 0x07000000 then 0xFF
  else if a < 0x08000000 then 0x60
  else if a < 0x0A000000 then 0x61
  else if a < 0x0A800000 then 0x62
  else if a < 0x0B000000 then 0x63
  else if a < 0x0C000000 then 0x67
  else if a < 0x0D000000 then 0x68 + (a - 0x0C000000) / 0x100000
  else if a < 0x0E000000 then 0x6C + (a - 0x0D000000) / 0x10000
  else if a < 0x0F000000 then 0x6E
  else if a < 0x0F100000 then 0x6F
  else if a < 0x0F200000 then 0x70
  else if a < 0x0F300000 then 0x71
  else 0xFF

/-- R445: whether the gate tree names a gate. -/
def gateNamed (n : Nat) : Bool :=
  decide (n ≤ 4) || (decide (0x10 ≤ n) && decide (n ≤ 0x27)) || (decide (0x40 ≤ n) && decide (n ≤ 0x80)) ||
  (decide (0x84 ≤ n) && decide (n ≤ 0x8A)) || (decide (0x90 ≤ n) && decide (n ≤ 0x93))

/-- R445: parent of a gate; 0xFF for the root, 0 for a number that names no gate. -/
def gateParent (n : Nat) : Nat :=
  if n = 0 then 0xFF
  else if n ≤ 4 then 0
  else if n < 0x10 then 0
  else if n < 0x20 then 1 + (n - 0x10) / 4
  else if n < 0x24 then 1 + (n - 0x20)
  else if n < 0x28 then 1 + (n - 0x24)
  else if n < 0x40 then 0
  else if n < 0x80 then 0x20 + (n - 0x40) / 16
  else if n = 0x80 then 0
  else if 0x84 ≤ n ∧ n ≤ 0x8A then 0x80
  else if 0x91 ≤ n ∧ n ≤ 0x93 then 0x90
  else 0

/-- The gates from a gate to the root (R446). -/
def gatePath (n : Nat) : List Nat :=
  let p1 := gateParent n
  if n = 0 then [0]
  else if p1 = 0 then [n, 0]
  else
    let p2 := gateParent p1
    if p2 = 0 then [n, p1, 0] else [n, p1, p2, 0]

/-- R473: default action of class `k`: [1:0] stop, [2] safe, [3] capture, [4] test, [5] quarantine. -/
def classAction (k : Nat) : Nat :=
  nth 0 [0, 4, 4, 4, 0, 4, 0x18, 0, 0, 0x10, 0, 0, 8, 8, 0, 3, 0, 4, 0, 0x20, 4, 3, 0, 0, 0, 0, 4] k

/-- R473: the bits of CUF_ACT[k] that are fixed at 1. -/
def classFixed (k : Nat) : Nat :=
  nth 0 [0, 4, 4, 4, 0, 4, 0, 0, 0, 0x10, 0, 0, 0, 0, 0, 3, 0, 4, 0, 0x20, 4, 0, 0, 0, 0, 0, 4] k

/-- R409, R410: the capability entries of stepping B1 as (ID, base, first block, instances, features), after the
DEVICE entry. -/
def capEntries : List (Nat × Nat × Nat × Nat × Nat) := [
  (0x0002, 0x00010000, 0xFF, 1, 0), (0x0010, 0x04000000, 0x00, 16, 3), (0x0011, 0x04100000, 0x10, 4, 0),
  (0x0012, 0x04140000, 0x14, 4, 0), (0x0013, 0x05000000, 0x18, 4, 1), (0x0014, 0x05080000, 0x20, 64, 0),
  (0x0015, 0x07000000, 0x60, 1, 0), (0x0016, 0x08000000, 0x61, 1, 0), (0x0017, 0x0A000000, 0x62, 1, 0),
  (0x0018, 0x0A800000, 0x63, 1, 0), (0x0019, 0x06000000, 0x64, 1, 3), (0x001A, 0x06200000, 0x65, 1, 0),
  (0x001B, 0x06400000, 0x66, 1, 0), (0x001C, 0x0B000000, 0x67, 1, 0), (0x001D, 0x0C000000, 0x68, 4, 0),
  (0x001E, 0x0D000000, 0x6C, 2, 0), (0x001F, 0x0E000000, 0x6E, 1, 0), (0x0020, 0x0F000000, 0x6F, 1, 3),
  (0x0021, 0x0F100000, 0x70, 1, 0), (0x0022, 0x0F200000, 0x71, 1, 0), (0x0023, 0x00100000, 0x72, 1, 0),
  (0x0024, 0x00200000, 0x73, 1, 0), (0x0025, 0x00300000, 0x74, 1, 0)]

/-- The capability list as registers from offset 0 (R407 to R410); entries follow one another without gaps (DESIGN
CHOICE, log entry 13). `grade` is 1 for UBM-880-X, `owner` whether an owner key hash is fused. -/
def capWords (grade owner : Nat) : List Nat :=
  let device := [0x0001 + 1 * 2 ^ 16 + 1 * 2 ^ 24 + 16 * 2 ^ 32, 0x42 + 2 ^ 8 + grade * 2 ^ 16 + 4 * 2 ^ 24]
  let n := capEntries.length
  let rest := (List.range n).flatMap (fun i =>
    let e := nth (0, 0, 0, 0, 0) capEntries i
    let next := if i + 1 < n then 16 + 24 * (i + 1) else 0
    let feat := if e.1 = 0x0025 then owner else e.2.2.2.2
    [e.1 + 1 * 2 ^ 16 + 2 * 2 ^ 24 + next * 2 ^ 32,
     e.2.1 + e.2.2.1 * 2 ^ 48 + e.2.2.2.1 * 2 ^ 56, feat])
  device ++ rest

/-- Reset values that depend on the index: identities, parents and class actions. -/
def regSpecial (d : RegDef) (ix : List Nat) : Nat :=
  let i := ix.headD 0
  if d.base = 0x04000000 then (i % 4) + (i / 4) * 4
  else if d.base = 0x00010030 then blockBase i + i * 2 ^ 48
  else if d.base = 0x00101000 then (if gateNamed i then d.resetValue + gateParent i * 2 ^ 8 else 0)
  else if d.base = 0x00200088 then classAction (i + 1)
  else d.resetValue

/-- What a register reads as before anything has changed it: the reset value of its field map (R4), zero where no
register stands. -/
def regReset (a : Nat) : Word :=
  match regDef a with
  | none => 0
  | some d => BitVec.ofNat 64 (regSpecial d ((d.index a).getD []))

/-- The value in force of the register at device address `a`. -/
def State.reg (s : State) (a : Nat) : Word := SMap.get regReset s.regs a

/-- The value in force, as a number. -/
def State.regN (s : State) (a : Nat) : Nat := (s.reg a).toNat

/-- Set a register's value in force. -/
def State.setReg (s : State) (a : Nat) (w : Word) : State := { s with regs := SMap.set regReset s.regs a w }

/-- Set a register's value in force from a number. -/
def State.setRegN (s : State) (a v : Nat) : State := s.setReg a (BitVec.ofNat 64 v)

/-- A 64-bit counter adds `n` and wraps to zero. -/
def State.add (s : State) (a n : Nat) : State := s.setReg a (s.reg a + BitVec.ofNat 64 n)

/-- A 64-bit counter adds one. -/
def State.bump (s : State) (a : Nat) : State := s.add a 1

/-- A field of a register. -/
def State.fld (s : State) (a lo w : Nat) : Nat := bits (s.regN a) lo w

/-- One bit of a register. -/
def State.bit (s : State) (a k : Nat) : Bool := (s.regN a).testBit k

/-- Set a field of a register. -/
def State.setFld (s : State) (a lo w v : Nat) : State := s.setRegN a (putBits (s.regN a) lo w v)

/-- Set the bits of a mask in a register. -/
def State.orReg (s : State) (a mask : Nat) : State := s.setReg a (s.reg a ||| BitVec.ofNat 64 mask)

/-- Sticky refusal bits with the address of the first refused descriptor since they were last zero; bits that no descriptor set
take no place of one (R199). -/
def State.reject (s : State) (rej desc mask addr : Nat) : State :=
  let s1 := if s.regN rej = 0 ∨ ¬ s.refused.contains rej then
      { s.setRegN desc addr with refused := if s.refused.contains rej then s.refused else rej :: s.refused }
    else s
  s1.orReg rej mask

/-- R394: what a read of an RWL register returns: its shadow when a write waits for its boundary. -/
def State.shown (s : State) (a : Nat) : Word := (s.shadow.find a).getD (s.reg a)

/-- R394: the shadow of a register applies at its boundary. -/
def State.applyShadow (s : State) (a : Nat) : State :=
  match s.shadow.find a with
  | none => s
  | some w => { (s.setReg a w) with shadow := s.shadow.drop a }

/-- R394: the shadows of a range of registers apply. -/
def State.applyShadows (s : State) (lo hi : Nat) : State :=
  each (s.shadow.entries.filter (fun e => decide (lo ≤ e.1) && decide (e.1 < hi))) (fun t e => t.applyShadow e.1) s

/-- R447: a unit whose gate, or a gate above it, is off is no placement candidate. -/
def State.gateOn (s : State) (n : Nat) : Bool := (gatePath n).all (fun k => s.bit (Reg.BRM_GATE k) 0)

/-- Turn on every gate on the path to a unit; the number of gates turned on (R446, R447). -/
def State.turnOnPath (s : State) (n : Nat) : State × Nat :=
  (gatePath n).foldl (fun acc k =>
    if acc.1.bit (Reg.BRM_GATE k) 0 then acc else (acc.1.orReg (Reg.BRM_GATE k) 1, acc.2 + 1)) (s, 0)

/-! ## Time -/

/-- TB0 nanoseconds N (R265). -/
def State.now (s : State) : Nat := (s.time.tb0.val / 2 ^ 32) % 2 ^ 64

/-- One base by number. -/
def TimeBases.get (t : TimeBases) (b : Nat) : TimeBase :=
  if b = 0 then t.tb0 else if b = 1 then t.tb1 else if b = 2 then t.tb2 else t.tb3

/-- Replace a base by number; TB0 is never stepped or set (R264), so it is not replaced. -/
def TimeBases.put (t : TimeBases) (b : Nat) (x : TimeBase) : TimeBases :=
  if b = 1 then { t with tb1 := x } else if b = 2 then { t with tb2 := x }
  else if b = 3 then { t with tb3 := x } else t

/-- N of base `b` (R265). -/
def State.nowOf (s : State) (b : Nat) : Nat := ((s.time.get b).val / 2 ^ 32) % 2 ^ 64

/-- The current value of a base in units of 2⁻¹⁶ ns. -/
def State.fracOf (s : State) (b : Nat) : Nat := (s.time.get b).val / 2 ^ 16

/-- A value in 2⁻³² ns units as a 96-bit TIME96 (R262). -/
def time96 (v : Nat) : Nat :=
  let ns := v / 2 ^ 32
  bits v 16 16 + (ns % 1000000000) * 2 ^ 16 + ((ns / 1000000000) % 2 ^ 48) * 2 ^ 48

/-- A TIME96 is valid when NS is below 10⁹ (R262). -/
def time96Valid (t : Nat) : Bool := decide (bits t 16 32 < 1000000000)

/-- A TIME96 in units of 2⁻¹⁶ ns. -/
def time96Frac (t : Nat) : Nat := (bits t 48 48 * 1000000000 + bits t 16 32) * 2 ^ 16 + bits t 0 16

/-- N of a TIME96 (R265). -/
def time96Ns (t : Nat) : Nat := (bits t 48 48 * 1000000000 + bits t 16 32) % 2 ^ 64

/-- TB0 now as TIME96. -/
def State.now96 (s : State) : Nat := time96 s.time.tb0.val

/-- R265: the event with target `t` is due on a base whose N is `n`. -/
def due (n t : Nat) : Bool := decide (0 ≤ signed 64 (n + 2 ^ 64 - t % 2 ^ 64))

/-! ## Free values -/

/-- A fresh number for a free value. -/
def State.freshN (s : State) (n : Nat) : State := { s with fresh := s.fresh + n }

/-- Unspecified bytes: `n` free bytes at unified-range address `a` (00_scope.md R7, R204). -/
def State.havoc (s : State) (a n : Nat) : State :=
  let bs := tab n (fun i => Config.freeByte (s.fresh + i))
  { s with umem := Memory.write s.umem a bs, fresh := s.fresh + n }

/-! ## Dictionary numbers -/

/-- Key of entry index:sub. -/
def dictKey (i sub : Nat) : Nat := i * 256 + sub

/-- The value of a numeric dictionary entry. -/
def State.dictN (s : State) (i sub : Nat) : Nat := SMap.get dictReset s.dict (dictKey i sub)

/-- Set a numeric dictionary entry. -/
def State.setDictN (s : State) (i sub v : Nat) : State :=
  { s with dict := SMap.set dictReset s.dict (dictKey i sub) v }

/-- The contents of a variable-size dictionary entry. -/
def State.octetsOf (s : State) (i sub : Nat) : Bytes := SMap.get (fun _ => []) s.octets (dictKey i sub)

/-- Set a variable-size dictionary entry. -/
def State.setOctets (s : State) (i sub : Nat) (bs : Bytes) : State :=
  { s with octets := SMap.set (fun _ => []) s.octets (dictKey i sub) bs }

/-- R387: every non-zero abort is counted in ABORTS. -/
def State.aborted (s : State) (code : Nat) : State :=
  if code = 0 then s else s.setDictN 0x5000 3 ((s.dictN 0x5000 3 + 1) % 2 ^ 64)

/-- Add to a numeric dictionary entry of `w` bits, saturating. -/
def State.dictAddSat (s : State) (i sub n w : Nat) : State :=
  let v := s.dictN i sub + n
  s.setDictN i sub (if v < 2 ^ w then v else 2 ^ w - 1)

/-! ## Safe state -/

/-- R470: CUF_STATE reads SAFE. -/
def State.inSafe (s : State) : Bool := s.fld Reg.CUF_STATE 0 2 == 3

/-- Whether the device runs: its rails are on, no reset is in progress, and the ROM is not in recovery (R424), which starts
nothing but the recovery exchange. -/
def State.live (s : State) : Bool := !(s.brm.off || s.boot.inReset || s.fld Reg.SEC_STATE 0 3 == 3)

/-- R470: in the safe state no engine makes progress and nothing is recorded or signalled; nor does one when the device does not
run. -/
def State.work (s : State) (f : State → State) : State := if s.inSafe || !s.live then s else f s

/-- What the device does only while it runs, in the safe state too. -/
def State.serve (s : State) (f : State → State) : State := if s.live then f s else s

/-- What keeps running in the safe state (R470) needs its rails. -/
def State.powered (s : State) (f : State → State) : State := if s.brm.off then s else f s

/-! ## Configuration status of a block -/

/-- R395: an RWQ write was discarded in block `k`. -/
def State.cfgReject (s : State) (k : Nat) : State :=
  (s.orReg (Reg.CFG_STATUS k) 1).bump (Reg.CFG_CNT_REJECT k)

/-- R401: software changed a contributing field of block `k`: the sweep restarts and UNCOMMITTED is set. -/
def State.uncommit (s : State) (k : Nat) : State :=
  if blockAssigned k then s.orReg (Reg.CFG_STATUS k) (4 + 32) else s

/-! ## Snapshots (R405, R406) -/

/-- Insert into an ascending list. -/
def insertAsc (x : Nat) : List Nat → List Nat
  | [] => [x]
  | y :: ys => if x ≤ y then x :: y :: ys else y :: insertAsc x ys

/-- An ascending copy of a list. -/
def sortAsc (xs : List Nat) : List Nat := xs.foldr insertAsc []

/-- The last address of a row. -/
def RegDef.last (d : RegDef) : Nat := d.dims.foldl (fun a x => a + x.1 * (x.2 - 1)) d.base

/-- Addresses of the registers of block `k` whose rows satisfy `p`, in ascending order. -/
def blockRegs (k : Nat) (p : RegDef → Bool) : List Nat :=
  let ds := regTable.filter (fun d => p d && decide (blockOf d.base ≤ k) && decide (k ≤ blockOf d.last))
  sortAsc ((ds.flatMap (fun d => dimAddrs d.dims d.base)).filter (fun a => blockOf a == k))

/-- R405: the counters of block `k`. -/
def blockCounters (k : Nat) : List Nat := (blockRegs k (·.counter)).take 510

/-- R405: copy every counter of block `k` to its holding area. -/
def State.snapBlock (s : State) (k : Nat) : State :=
  let cs := blockCounters k
  let s1 := iter cs.length (fun t i => t.setReg (Reg.HOLD k i) (s.reg (nth 0 cs i))) s
  let s2 := s1.setRegN (Reg.HOLD_TIME k) s.now
  s2.setRegN (Reg.HOLD_SEQ k) ((s.regN (Reg.HOLD_SEQ k) + 1) % 2 ^ 32)

/-! ## Knuckle traces (R310) -/

/-- Mark an engine's one-shot trace triggered and keep the index at the trigger. -/
def State.traceTrigger (s : State) (e : Nat) : State :=
  if s.bit (Reg.KNK_TRC_CTRL e) 3 then s
  else
    let idx := s.fld (Reg.KNK_TRC_POS e) 0 16
    (s.setFld (Reg.KNK_TRC_POS e) 32 16 idx).orReg (Reg.KNK_TRC_CTRL e) 8

/-! ## SAFE_STOP pairs (R466) -/

/-- Put the pairs of a mask into their stop state; each entry counts in the lifetime log's SAFE_STOPS (R467). A channel that had
opened by itself agrees with its command again (R501). -/
def State.stopPairs (s : State) (mask : Nat) : State :=
  iter 2 (fun t p =>
    if mask.testBit p then
      let already := t.bit Reg.CUF_STOP p
      let t1 := t.orReg Reg.CUF_STOP (2 ^ p)
      let rest := 15 - 3 * 4 ^ p
      let t2 := { t1 with cuff := { t1.cuff with cmdLevel := t1.cuff.cmdLevel &&& rest, openCh := t1.cuff.openCh &&& rest } }
      if already then t2 else (t2.dictAddSat 0x5130 (p + 1) 1 32).bump Reg.CUF_CNT_STOP
    else t) s

/-! ## Error records (R472 to R476) -/

/-- The queue of a severity. -/
def Cuff.queue (c : Cuff) (sev : Nat) : List ErrRec :=
  if sev = 0 then c.q0 else if sev = 1 then c.q1 else if sev = 2 then c.q2 else c.q3

/-- Replace the queue of a severity. -/
def Cuff.setQueue (c : Cuff) (sev : Nat) (q : List ErrRec) : Cuff :=
  if sev = 0 then { c with q0 := q } else if sev = 1 then { c with q1 := q }
  else if sev = 2 then { c with q2 := q } else { c with q3 := q }

/-- R476: two records say the same. -/
def ErrRec.same (a b : ErrRec) : Bool :=
  a.cls == b.cls && a.sev == b.sev && a.status == b.status && a.block == b.block && a.ctx == b.ctx &&
  a.unit == b.unit && a.detail == b.detail

/-- What putting a record into its queue did. -/
inductive Queued where
  | stored | merged | lost
  deriving DecidableEq, Repr

/-- R474 to R476: store, merge or lose a record. The lifetime log counts every record by class (R475). -/
def State.enqueue (s : State) (r : ErrRec) : State × Queued :=
  let q := s.cuff.queue r.sev
  let s1 := (s.dictAddSat 0x5140 r.cls 1 32).bump Reg.CUF_CNT_RECORDS
  match q.getLast? with
  | some last =>
    if last.same r then
      let q' := q.dropLast ++ [{ last with count := clampNat 0 65535 (last.count + 1) }]
      (({ s1 with cuff := s1.cuff.setQueue r.sev q' }).bump Reg.CUF_CNT_MERGED, .merged)
    else if q.length < 64 then
      let r' := { r with lostBefore := s.cuff.lost.testBit r.sev }
      let lost' := s.cuff.lost - (if s.cuff.lost.testBit r.sev then 2 ^ r.sev else 0)
      ({ s1 with cuff := { (s1.cuff.setQueue r.sev (q ++ [r'])) with lost := lost' } }, .stored)
    else
      let s2 := { s1 with cuff := { s1.cuff with lost := s1.cuff.lost ||| 2 ^ r.sev } }
      (((s2.orReg (Reg.CUF_ERQ_STATE r.sev) 0x80).orReg Reg.CUF_FLAGS 1).bump Reg.CUF_CNT_LOST, .lost)
  | none =>
    let r' := { r with lostBefore := s.cuff.lost.testBit r.sev }
    let lost' := s.cuff.lost - (if s.cuff.lost.testBit r.sev then 2 ^ r.sev else 0)
    ({ s1 with cuff := { (s1.cuff.setQueue r.sev [r']) with lost := lost' } }, .stored)

/-- A record with the next sequence number, stamped now. -/
def State.mkRec (s : State) (sev cls status block : Nat) (ctx : Option Nat) (unit detail : Nat) : ErrRec :=
  { sev := sev, cls := cls, status := status, block := block, ctx := ctx, lostBefore := false, captured := false,
    unit := unit, seq := s.cuff.seq % 2 ^ 32, detail := detail % 2 ^ 32, time := s.now96, count := 1,
    handled := false }

/-- Mark the record with a number captured (R488). -/
def Cuff.markCaptured (c : Cuff) (sev seq : Nat) : Cuff :=
  c.setQueue sev ((c.queue sev).map (fun r => if r.seq = seq then { r with captured := true } else r))

/-- R480: the quarantine bit of a unit. -/
def State.quarantined (s : State) (unit : Nat) : Bool := s.bit (Reg.CUF_QUAR (unit / 64)) (unit % 64)

/-- Number of targeted slices of a unit's full test (R482). -/
def fullSlices (unit : Nat) : Nat :=
  if 0x10 ≤ unit ∧ unit ≤ 0x1F then 64
  else if 0x40 ≤ unit ∧ unit ≤ 0x7F then 32
  else if 0x84 ≤ unit ∧ unit ≤ 0x87 then 1024
  else if unit = 0x88 ∨ unit = 0x89 then 16
  else if unit = 0x8A then 32
  else 0

/-- The self-test of a unit that has none listed. -/
def SelfTest.idle : SelfTest :=
  { done := 0, started := 0, began := 0, target := 0, running := false, warned := false, retest := false, last := none }

/-- The self-test of a unit. -/
def State.selfTest (s : State) (unit : Nat) : SelfTest := SMap.get (fun _ => SelfTest.idle) s.cuff.tests unit

/-- Replace the self-test of a unit. -/
def State.setSelfTest (s : State) (unit : Nat) (t : SelfTest) : State :=
  { s with cuff := { s.cuff with tests := SMap.set (fun _ => SelfTest.idle) s.cuff.tests unit t } }

/-- R485: start a targeted self-test of a unit. -/
def State.startTest (s : State) (unit : Nat) : State :=
  if fullSlices unit = 0 then s
  else s.setSelfTest unit { (s.selfTest unit) with target := fullSlices unit }

/-- R470, R488: the package enters the safe state: both pairs stop and CUF_STATE reads SAFE. -/
def State.safeState (s : State) : State := (s.stopPairs 3).setFld Reg.CUF_STATE 0 2 3

/-- R488: the effect of the common capture trigger when armed: snapshots and trace triggers, source and time. -/
def State.captureNow (s : State) (src time seq : Nat) : State :=
  let s1 := each allBlocks (fun t k => if t.bit (Reg.CFG_STATUS k) 6 then t.snapBlock k else t) s
  let s2 := iter 4 (fun t e => if t.bit (Reg.KNK_TRC_CTRL e) 2 then t.traceTrigger e else t) s1
  let armed := if s.bit Reg.CUF_CAP_CFG 8 then 8 else 0
  let s3 := s2.setRegN Reg.CUF_CAP_SRC (src + armed + seq * 2 ^ 16)
  (s3.setRegN Reg.CUF_CAP_TIME time).bump Reg.CUF_CNT_CAP

/-- R480: a quarantined Knuckle engine (units 0x84 to 0x87) puts every loop on it into FAULT. -/
def State.faultEngine (s : State) (unit : Nat) : State :=
  if unit < 0x84 ∨ 0x87 < unit then s
  else iter 64 (fun t l =>
    if t.bit (Reg.KNK_LOOP_CFG (unit - 0x84) l) 0 then t.setFld (Reg.KNK_LOOP_STATE (unit - 0x84) l) 0 2 3 else t) s

/-- R485, R489: a quarantine abandons the unit's test and its slice. -/
def State.abandonTest (s : State) (unit : Nat) : State :=
  s.setSelfTest unit { (s.selfTest unit) with target := 0, running := false, retest := false }

/-- R488: the common capture trigger, with what sends a record: the capture when armed, else a missed one. `seq` is the record
that raises it. -/
def State.capTrigger (send : State → ErrRec → State) (s : State) (src time seq sev : Nat) : State :=
  if s.bit Reg.CUF_CAP_SRC 3 then
    let s1 := s.captureNow src time seq
    let s2 := if src = 4 then { s1 with cuff := s1.cuff.markCaptured sev seq } else s1
    send s2 (s2.mkRec 0 27 0 0x73 none 0xFFFF 0)
  else (s.orReg Reg.CUF_FLAGS 8).bump Reg.CUF_CNT_CAP_MISSED

/-- R480: quarantine a unit, with the DETAIL of its QUARANTINE record. A number above 255 names no unit of CUF_QUAR. -/
def State.quarantineWith (send : State → ErrRec → State) (s : State) (unit detail : Nat) : State :=
  if 255 < unit ∨ s.quarantined unit then s
  else
    let s1 := (s.orReg (Reg.CUF_QUAR (unit / 64)) (2 ^ (unit % 64))).faultEngine unit
    let s2 := (s1.abandonTest unit).bump Reg.CUF_CNT_QUAR
    send s2 (s2.mkRec 2 14 0 0x73 none unit detail)

/-- R473: the action of a record's class. Class AGE stops its monitor's own pairs (R481); SAFE of CLOCK and THERMAL acts on
fatal records only, and the fixed TEST of FINGER on cause MEM_UNCORR (DETAIL 5). -/
def State.applyAction (send : State → ErrRec → State) (s : State) (r : ErrRec) : State :=
  let a := s.regN (Reg.CUF_ACT r.cls) ||| classFixed r.cls
  let safeBit := a.testBit 2 && (r.sev == 3 || !(r.cls == 2 || r.cls == 3))
  let testBit := a.testBit 4 && (!(r.cls == 9) || r.detail == 5 || (s.regN (Reg.CUF_ACT 9)).testBit 4)
  let enter := safeBit && !s.inSafe
  let s1 := if r.cls = 15 then s else s.stopPairs (a % 4)
  let s2 := if enter then s1.safeState else s1
  let s3 := if a.testBit 3 then s2.capTrigger send 4 (time96Ns r.time) r.seq r.sev
    else if enter then s2.capTrigger send 5 s2.now r.seq r.sev else s2
  let s4 := if testBit then s3.startTest r.unit else s3
  if a.testBit 5 then s4.quarantineWith send r.unit 0 else s4

/-- R474 to R476, R488: an error record arrives at Cuff. A fatal record starts the safe state at once; a record that
is lost or merged has its action applied at once; the first loss since a queue was empty sends a RECORD_LOST record. `fuel`
bounds the chain of records that records cause. -/
def State.recordN : Nat → State → ErrRec → State
  | 0, s, _ => s
  | fuel + 1, s, r0 =>
    let r := { r0 with seq := s.cuff.seq % 2 ^ 32 }
    let s0 := { s with cuff := { s.cuff with seq := s.cuff.seq + 1 } }
    let firstLoss := !s.bit (Reg.CUF_ERQ_STATE r.sev) 7
    let (s1, how) := s0.enqueue r
    let s2 := match how with
      | .stored => s1
      | .merged =>
        let seq := match (s.cuff.queue r.sev).getLast? with
          | some l => l.seq
          | none => r.seq
        s1.applyAction (State.recordN fuel) { r with seq := seq }
      | .lost =>
        let t := s1.applyAction (State.recordN fuel) r
        if firstLoss then State.recordN fuel t (t.mkRec 1 25 0 0x73 none 0xFFFF 0) else t
    if r.sev = 3 ∧ ¬ s2.inSafe then s2.safeState.capTrigger (State.recordN fuel) 5 s2.now r.seq 3 else s2

/-- What sends a record that another cause of Cuff raises. -/
def State.send (s : State) (r : ErrRec) : State := s.recordN 4 r

/-- R228, R476: send an error record to Cuff; a record about a context already FAULTED is never sent and counts as
suppressed. -/
def State.record (s : State) (sev cls status block : Nat) (ctx : Option Nat) (unit detail : Nat) : State :=
  match ctx with
  | some c =>
    if s.fld (Reg.QUE_CTX_STATE c) 0 2 = 3 then
      s.setFld (Reg.QUE_CTX_STATE c) 32 16 (clampNat 0 65535 (s.fld (Reg.QUE_CTX_STATE c) 32 16 + 1))
    else s.recordN 4 (s.mkRec sev cls status block ctx unit detail)
  | none => s.recordN 4 (s.mkRec sev cls status block none unit detail)

/-- R488: the common capture trigger from a source other than a record. -/
def State.capture (s : State) (src time : Nat) : State := s.capTrigger State.send src time 0 0

/-- R480: quarantine a unit. -/
def State.quarantine (s : State) (unit detail : Nat) : State := s.quarantineWith State.send unit detail

/-- R391: a bus error met by an agent: the first is kept, every one counts; Cuff's own sends a record. -/
def State.busError (s : State) (ag : Agent) (write : Bool) (cause addr : Nat) : State :=
  let code := match ag with
    | .crown _ => 0 | .pcie => 1 | .odsDebug => 2 | .debugPort => 3 | .cuff => 4
  let core := match ag with
    | .crown c => c.val | _ => 0
  let word := code + b2n write * 8 + cause * 16 + core * 256 + 2 ^ 63
  let s1 := if s.bit Reg.CFG_BUS_ERR 63 then s
    else (s.setRegN Reg.CFG_BUS_ERR word).setRegN Reg.CFG_BUS_ERR_ADDR (addr % 2 ^ 48)
  let s2 := s1.bump Reg.CFG_CNT_BUS_ERR
  if code = 4 then s2.record 1 22 0 0xFF none (code + cause * 16 + core * 256) (addr % 2 ^ 30) else s2

/-! ## Sync objects (R207 to R210) -/

/-- R481: a valid result of a source reaches the age monitors that watch it. -/
def State.validResult (s : State) (source id : Nat) : State :=
  each s.cuff.ages.entries (fun t (e : Nat × AgeMon) =>
    let cfg := t.regN (Reg.CUF_AGE_CFG e.1)
    if cfg.testBit 0 ∧ bits cfg 3 2 = source ∧ bits cfg 8 13 = id then
      { t with cuff := { t.cuff with ages := t.cuff.ages.put e.1 ⟨t.now, false⟩ } }
    else t) s

/-- R478: a sync object has a new value; every check channel that names it as SYNC_A or SYNC_B sees the value, with the
units that ran the signalling request. -/
def State.checkSeen (s : State) (obj : Nat) (units : List Nat) : State :=
  let seen := (s.regN (Reg.SYN_VALUE obj), s.now, units)
  each s.cuff.checks.entries (fun t (e : Nat × CheckCh) =>
    let sy := t.regN (Reg.CUF_CHK_SYNC e.1)
    let c1 := if bits sy 0 13 = obj then { e.2 with seenA := e.2.seenA ++ [seen] } else e.2
    let c2 := if bits sy 16 13 = obj then { c1 with seenB := c1.seenB ++ [seen] } else c1
    { t with cuff := { t.cuff with checks := t.cuff.checks.put e.1 c2 } }) s

/-- R208: SET an object by the rule that its value never decreases. -/
def State.syncSet (s : State) (n v : Nat) (units : List Nat := []) : State :=
  if s.regN (Reg.SYN_VALUE n) < v then ((s.setRegN (Reg.SYN_VALUE n) v).validResult 0 n).checkSeen n units
  else (s.orReg Reg.SYN_FLAGS 1).bump Reg.SYN_CNT_BACKWARD

/-- R208: ADD to an object, saturating. -/
def State.syncAdd (s : State) (n v : Nat) (units : List Nat := []) : State :=
  let old := s.regN (Reg.SYN_VALUE n)
  let new := if old + v < 2 ^ 64 then old + v else 2 ^ 64 - 1
  if old < new then ((s.setRegN (Reg.SYN_VALUE n) new).validResult 0 n).checkSeen n units else s

/-- One signal entry, applied by the units that ran the request. -/
def State.signal (s : State) (e : SyncEntry) (units : List Nat) : State :=
  let s1 := if e.op = 1 then s.syncSet e.id e.value units else s.syncAdd e.id e.value units
  s1.bump Reg.SYN_CNT_SIGNAL

/-- R210: ABANDONED marks an object whose signal never comes. -/
def State.abandon (s : State) (n : Nat) : State := s.orReg (Reg.SYN_CFG n) (2 ^ 10)

/-- R210: whether context `c` may use object `n`. -/
def State.syncUsable (s : State) (c n : Nat) : Bool :=
  decide (n < 8192) && s.bit (Reg.SYN_CFG n) 8 && (s.bit (Reg.SYN_CFG n) 9 || s.fld (Reg.SYN_CFG n) 0 8 == c)

/-- R209: every wait of a request is satisfied. -/
def State.waitsMet (s : State) (ws : List SyncEntry) : Bool :=
  ws.all (fun w => decide (w.value ≤ s.regN (Reg.SYN_VALUE w.id)))

/-! ## Outcomes -/

/-- The outcome of a command outside the time family: the next state, with the queue and the time bases as the command
found them. -/
def done (s t : State) : Host.Outcome State Fault Refusal :=
  .next { t with pending := s.pending, time := s.time }

/-- The outcome of a command that may set a time base or reset the machine: the queue as the command found it. -/
def doneT (s t : State) : Host.Outcome State Fault Refusal := .next { t with pending := s.pending }

end Sys2Proof.Machine
end

