-- ==== Sys2Proof/Machine/Flash.lean ====
section
/-! DEFINITION. The flash tier's translation layer: which erase block holds a tile block, wear levelling, read and age counts
(R189 to R191). No rule gives the tile blocks of an erase block: it is a constant of the part (log entry 87). -/

namespace Sys2Proof.Machine

/-- An erase block that was never programmed. -/
def EraseBlock.fresh : EraseBlock := { erases := 0, reads := 0, soft := false, hour := 0, used := 0, dead := false, tiles := [] }

/-- Erase block `k`. -/
def Flash.get (f : Flash) (k : Nat) : EraseBlock := SMap.get (fun _ => EraseBlock.fresh) f.blocks k

/-- Replace erase block `k`. -/
def Flash.put (f : Flash) (k : Nat) (x : EraseBlock) : Flash := { f with blocks := SMap.set (fun _ => EraseBlock.fresh) f.blocks k x }

/-- The erase block that holds a tile block. -/
def Flash.holder (f : Flash) (t : Nat) : Option Nat := (f.blocks.find? (fun e => e.2.tiles.contains t)).map (·.1)

/-- R189: the number of erase blocks in 4 TiB. -/
def eraseBlocks : Nat := 2 ^ 26 / Nat.max 1 Config.eraseTiles

/-- An erase block that holds nothing and can be programmed. -/
def Flash.isFree (f : Flash) (k : Nat) : Bool := (f.get k).tiles == [] && !(f.get k).dead && f.filling != some k

/-- R190: the least-worn free erase block: one that was never erased before any other. -/
def Flash.leastWorn (f : Flash) : Option Nat :=
  let listed := f.blocks.map (·.1)
  match (List.range (listed.length + 1)).find? (fun k => !listed.contains k && decide (k < eraseBlocks)) with
  | some k => some k
  | none => (listed.filter f.isFree).foldl (fun best k => match best with
    | some j => if (f.get k).erases < (f.get j).erases then some k else some j
    | none => some k) none

/-- The tile block is nowhere any more. -/
def Flash.forget (f : Flash) (t : Nat) : Flash :=
  match f.holder t with
  | some k => f.put k { (f.get k) with tiles := (f.get k).tiles.filter (fun u => u != t) }
  | none => f

/-- The tile blocks of a page are nowhere any more. -/
def Flash.forgetPage (f : Flash) (n : Nat) : Flash := (List.range 32).foldl (fun g b => g.forget (n * 32 + b)) f

/-- R190: the least-worn free erase block is erased and takes the next tile blocks. -/
def Flash.openNext (f : Flash) (hour : Nat) : Flash :=
  match f.leastWorn with
  | some k => { (f.put k { EraseBlock.fresh with erases := (f.get k).erases + 1, hour := hour }) with filling := some k }
  | none => { f with filling := none }

/-- The erase block that takes the next tile block: the one being filled, or else the next. -/
def Flash.opened (f : Flash) (hour : Nat) : Flash :=
  match f.filling with
  | some k => if (f.get k).used < Nat.max 1 Config.eraseTiles then f else f.openNext hour
  | none => f.openNext hour

/-- R190: a tile block is programmed at a powered hour. -/
def Flash.write (f : Flash) (hour t : Nat) : Flash :=
  let g := (f.forget t).opened hour
  match g.filling with
  | some k => g.put k { (g.get k) with used := (g.get k).used + 1, tiles := (g.get k).tiles ++ [t] }
  | none => g

/-- R190: a tile block is read; `soft` tells a read that needed soft-decision re-reads. -/
def Flash.read (f : Flash) (t : Nat) (soft : Bool) : Flash :=
  match f.holder t with
  | some k => f.put k { (f.get k) with reads := (f.get k).reads + 1, soft := (f.get k).soft || soft }
  | none => f

/-- R190: an erase block is to be relocated: its reads, a soft-decision read, its age in powered hours, or an erase count more than
256 below another's. -/
def Flash.due (f : Flash) (hour k : Nat) : Bool :=
  let x := f.get k
  x.tiles != [] && !x.dead && (decide (100000 ≤ x.reads) || x.soft || decide (x.hour + 4000 ≤ hour) ||
    f.blocks.any (fun e => decide (x.erases + 256 < e.2.erases)))

/-- R190: the first erase block that is to be relocated. -/
def Flash.firstDue (f : Flash) (hour : Nat) : Option Nat := (f.blocks.map (·.1)).find? (fun k => f.due hour k)

/-- R190: an erase block's valid tile blocks are written elsewhere. -/
def Flash.relocate (f : Flash) (hour k : Nat) : Flash :=
  let x := f.get k
  let g := { (f.put k { x with dead := true }) with filling := if f.filling = some k then none else f.filling }
  let h := x.tiles.foldl (fun h t => h.write hour t) g
  h.put k { (h.get k) with dead := x.dead }

/-- R191: an erase block is retired: its readable tile blocks are first relocated. -/
def Flash.retire (f : Flash) (hour k : Nat) : Flash :=
  let g := f.relocate hour k
  g.put k { (g.get k) with dead := true }

/-- Powered hours (R190, R435). -/
def State.hours (s : State) : Nat := s.dictN 0x5100 1 / 3600

/-- Replace the translation layer. -/
def State.setFlash (s : State) (f : Flash) : State := { s with umr := { s.umr with flash := f } }

/-- R190: a tile block is read from flash. -/
def State.flashRead (s : State) (t : Nat) (soft : Bool) : State := s.setFlash (s.umr.flash.read t soft)

end Sys2Proof.Machine
end

