-- ==== Sys2Proof/Machine/Access.lean ====
section
/-! DEFINITION. Accesses to the unified range: the checks of R168, translation (R515), reads and writes of tile blocks
(R176, R177), victims (R170), fetches and write-backs, errors on the tiers (R186 to R188). -/

namespace Sys2Proof.Machine

/-- First address of the unified range (R165). -/
def umBase : Nat := 0x100000000000

/-- First address beyond the unified range (R165). -/
def umEnd : Nat := 0x180000000000

/-- Page number of an address (R165). -/
def pageOf (a : Nat) : Nat := (a - umBase) / 0x200000

/-- Tile block of an address within its page (R165: bits [20:16]). -/
def blockIn (a : Nat) : Nat := ((a - umBase) / 0x10000) % 32

/-- First address of a tile block. -/
def blockAddr (page block : Nat) : Nat := umBase + page * 0x200000 + block * 0x10000

/-- Index of a tile block in the unified range, as MEMORY records carry it (R519). -/
def blockIndex (page block : Nat) : Nat := page * 32 + block

/-- A mapped page. -/
def State.page (s : State) (n : Nat) : Option Page := s.umr.pages.find n

/-- Replace a mapped page. -/
def State.setPage (s : State) (n : Nat) (p : Page) : State :=
  { s with umr := { s.umr with pages := s.umr.pages.put n p } }

/-- Partition of a context. -/
def State.ctxPart (s : State) (c : Nat) : Nat := s.fld (Reg.QUE_CTX_CFG c) 0 3

/-- Whether a context is real-time. -/
def State.ctxRt (s : State) (c : Nat) : Bool := s.bit (Reg.QUE_CTX_CFG c) 3

/-- Milliseconds of TB0 modulo 2³² (R174, ACCESS_AGE). -/
def State.ageNow (s : State) : Nat := (s.now / 1000000) % 2 ^ 32

/-- R168: the fault of an access by context `c` to one page, if any: 2 UNMAPPED, 3 PARTITION, 4 READ_ONLY, 5 RT_FLASH. -/
def State.pageFault (s : State) (c n : Nat) (write : Bool) : Option Nat :=
  match s.page n with
  | none => some 2
  | some p =>
    let other := !(p.part == s.ctxPart c)
    if p.st = 3 then some 2
    else if other && !p.share then some 3
    else if write && (p.ro || other) then some 4
    else if s.ctxRt c && p.home == 2 then some 5
    else none

/-- The pages an access of `n` bytes at `a` touches. -/
def pagesOf (a n : Nat) : List Nat :=
  if n = 0 then [] else (List.range (pageOf (a + n - 1) + 1 - pageOf a)).map (· + pageOf a)

/-- R168: the first fault of an access, with the address it is recorded at. -/
def State.accessFault (s : State) (c a n : Nat) (write : Bool) : Option (Nat × Nat) :=
  if a < umBase ∨ umEnd < a + n then some (1, a)
  else
    match (pagesOf a n).find? (fun pg => (s.pageFault c pg write).isSome) with
    | none => none
    | some pg => (s.pageFault c pg write).map (fun f => (f, Nat.max a (umBase + pg * 0x200000)))

/-- R168: UMR records the first access fault. -/
def State.noteFault (s : State) (c cause addr : Nat) : State :=
  if s.bit Reg.UMR_FAULT 63 then s
  else (s.setRegN Reg.UMR_FAULT (cause + c * 256 + 2 ^ 63)).setRegN Reg.UMR_FAULT_ADDR addr

/-- R515: translate a page through cache `k`, least recently used out. -/
def State.translate (s : State) (k n : Nat) : State :=
  let c := SMap.get (fun _ => []) s.umr.xlate k
  let s1 := if c.contains n then s else s.bump Reg.UMR_CNT_XLATE_MISS
  { s1 with umr := { s1.umr with
      xlate := SMap.set (fun _ => []) s1.umr.xlate k ((n :: c.filter (fun m => !(m == n))).take 4096) } }

/-- R515: a change of a page's mapping removes its entry from every cache. -/
def State.untranslate (s : State) (n : Nat) : State :=
  { s with umr := { s.umr with xlate := iter 6 (fun x k =>
      SMap.set (fun _ => []) x k ((SMap.get (fun _ => []) x k).filter (fun m => !(m == n)))) s.umr.xlate } }

/-! ## Frames (R167, R169, R170) -/

/-- Free frames of a pool: 1 HBM3 stack A, 2 stack B, 3 LPDDR5X, 4 flash. -/
def State.freeFrames (s : State) (code : Nat) : Nat :=
  if code = 1 then s.fld Reg.UMR_FREE_HBM 0 14 else if code = 2 then s.fld Reg.UMR_FREE_HBM 16 14
  else if code = 3 then s.fld Reg.UMR_FREE_LPDDR 0 17 else s.fld Reg.UMR_FREE_FLASH 0 21

/-- Set the free frames of a pool. -/
def State.setFree (s : State) (code v : Nat) : State :=
  if code = 1 then s.setFld Reg.UMR_FREE_HBM 0 14 v else if code = 2 then s.setFld Reg.UMR_FREE_HBM 16 14 v
  else if code = 3 then s.setFld Reg.UMR_FREE_LPDDR 0 17 v else s.setFld Reg.UMR_FREE_FLASH 0 21 v

/-- One more free frame in a pool, unless a retired frame is owed one (R188); code 0 is no frame. -/
def State.giveFrame (s : State) (code : Nat) : State :=
  let owed := SMap.get (fun _ => 0) s.umr.owed code
  if code = 0 then s
  else if owed = 0 then s.setFree code (s.freeFrames code + 1)
  else { s with umr := { s.umr with owed := SMap.set (fun _ => 0) s.umr.owed code (owed - 1) } }

/-- One free frame fewer in a pool. -/
def State.takeFrame (s : State) (code : Nat) : State := s.setFree code (s.freeFrames code - 1)

/-- R169: the HBM3 stack a new frame of a page comes from. -/
def State.stackFor (s : State) (stack : Nat) : Nat :=
  if stack = 0 then 1 else if stack = 1 then 2
  else if s.freeFrames 1 < s.freeFrames 2 then 2 else 1

/-- R169: eviction class of a hint; 0 for a page that is never evicted. -/
def evictClass (hint : Nat) : Nat :=
  if hint = 4 then 1 else if hint = 3 then 2 else if hint = 2 then 3 else if hint = 1 then 4 else 0

/-- R169: hints whose upper frame a demand access fills. -/
def demandFills (hint : Nat) : Bool := hint == 1 || hint == 3 || hint == 4

/-- R169: hints whose upper frame PREFETCH and lookahead fill. -/
def prefetchFills (hint : Nat) : Bool := hint == 1 || hint == 2 || hint == 3

/-- R170: whether the upper frame of a page may be taken; write-backs to a write-protected flash are refused (R191). -/
def State.canEvict (s : State) (n : Nat) (p : Page) (code : Nat) : Bool :=
  p.upper == code && p.inflight == 0 && p.holds == 0 && p.moveTo == 0 && p.st == 1 &&
  !(s.umr.wbs.any (fun w => w.page == n)) && !(p.home == 2 && p.dirty != 0 && s.bit Reg.UMR_FLASH_STATE 0)

/-- R170: order of victims: class, then oldest age, then lowest address. -/
def State.victimBefore (s : State) (a b : Nat × Page) : Bool :=
  let ageA := (s.ageNow + 2 ^ 32 - a.2.age) % 2 ^ 32
  let ageB := (s.ageNow + 2 ^ 32 - b.2.age) % 2 ^ 32
  let ca := evictClass a.2.hint
  let cb := evictClass b.2.hint
  if ca = cb then (if ageA = ageB then decide (a.1 < b.1) else decide (ageB < ageA)) else decide (ca < cb)

/-- R170: the victim of a tier; `cleanOnly` for a real-time access. -/
def State.victim (s : State) (code : Nat) (cleanOnly : Bool) : Option (Nat × Page) :=
  let cs := s.umr.pages.entries.filter (fun e => s.canEvict e.1 e.2 code && (!cleanOnly || e.2.dirty == 0))
  cs.foldl (fun best e => match best with
    | none => some e
    | some b => if s.victimBefore e b then some e else some b) none

/-- Content of one tile block as an access returns it. -/
def State.blockBytes (s : State) (n b : Nat) : List (Nat × Byte) :=
  let lo := blockAddr n b
  s.umem.filter (fun e => decide (lo ≤ e.1) && decide (e.1 < lo + 0x10000))

/-- Replace the content of a range of a memory by the cells given. -/
def Memory.replace (m : Memory) (lo n : Nat) (cells : List (Nat × Byte)) : Memory :=
  let kept := m.filter (fun e => !(decide (lo ≤ e.1) && decide (e.1 < lo + n)))
  cells.foldl (fun k e => Memory.setByte k e.1 e.2) kept

/-- R190, R191: a tile block written to flash goes to an erase block and adds to the wear, in units of 0.01 % of 12 PB, and to the
lifetime log. -/
def State.wear (s0 : State) (t : Nat) : State :=
  let s := s0.setFlash (s0.umr.flash.write s0.hours t)
  let n := s.umr.flashBytes + 0x10000
  let w := clampNat 0 65535 (n / 1200000000000)
  (({ s with umr := { s.umr with flashBytes := n } }).setFld Reg.UMR_FLASH_STATE 16 16 w).setDictN 0x5122 1 w

/-- The flash home of a block takes its present content (R175: a write-back replaces the block as one unit). -/
def State.commitHome (s : State) (n b : Nat) : State :=
  ({ s with umr := { s.umr with home := Memory.replace s.umr.home (blockAddr n b) 0x10000 (s.blockBytes n b) } }).wear (blockIndex n b)

/-! ## The migration engine's channels (R179) -/

/-- Priority class of a write-back (R179). -/
def WbKind.prio (k : WbKind) : Nat :=
  match k with
  | .evict => 3
  | .flush => 4
  | .drop => 6
  | .rehome => 6

/-- R183: the wait limit of a source tier, in ns. -/
def State.tierLimit (s : State) (flash : Bool) : Nat :=
  1000 * s.fld (if flash then Reg.UMR_TIMEOUT_FLASH else Reg.UMR_TIMEOUT_LPDDR) 0 16

/-- Moves that run on the four LPDDR5X or the four flash channels. -/
def State.channelsBusy (s : State) (flash : Bool) : Nat :=
  (s.umr.fetches.filter (fun f => f.start.isSome && (f.src == 2) == flash)).length +
  (s.umr.wbs.filter (fun w => w.start.isSome && w.flash == flash)).length

/-- A fetch that may start: its page has its upper frame, which is not about to move. -/
def State.fetchReady (s : State) (f : Fetch) : Bool :=
  f.start.isNone && (match s.page f.page with
    | some p => p.upper != 0 && p.moveTo == 0
    | none => false)

/-- The first of a list with the least priority class. -/
def firstLeast {α : Type} (prio : α → Nat) (xs : List α) : Option α :=
  xs.foldl (fun best x => match best with
    | none => some x
    | some y => if prio x < prio y then some x else some y) none

/-- A fetch takes a channel now; its wait limit is the one in force (R183). -/
def State.runFetch (s : State) (flash : Bool) (x : Fetch) : State :=
  { s with umr := { s.umr with fetches := s.umr.fetches.map (fun y =>
      if y = x then { y with start := some s.now, limit := s.tierLimit flash } else y) } }

/-- A write-back takes a channel now. -/
def State.runWb (s : State) (x : Writeback) : State :=
  { s with umr := { s.umr with wbs := s.umr.wbs.map (fun y => if y = x then { y with start := some s.now } else y) } }

/-- R179: the next move of a channel kind starts where a channel is free: by priority class, then in order of arrival, of one
class fetches before write-backs (DESIGN CHOICE, log entry 84). -/
def State.nextMove (s : State) (flash : Bool) : State :=
  if 4 ≤ s.channelsBusy flash then s
  else
    let f := firstLeast (·.prio) (s.umr.fetches.filter (fun f => s.fetchReady f && (f.src == 2) == flash))
    let w := firstLeast (·.kind.prio) (s.umr.wbs.filter (fun w => w.start.isNone && w.flash == flash))
    match f, w with
    | none, none => s
    | some x, none => s.runFetch flash x
    | none, some y => s.runWb y
    | some x, some y => if x.prio ≤ y.kind.prio then s.runFetch flash x else s.runWb y

/-- R179: free channels take the moves that wait. -/
def State.startMoves (s : State) : State := iter 4 (fun t _ => (t.nextMove false).nextMove true) s

/-! ## Write-backs, frames and fetches -/

/-- Start the write-back of a dirty block; its content is captured now (R178). -/
def State.startWb (s : State) (n b : Nat) (kind : WbKind) (req : Option Nat) : State :=
  if s.umr.wbs.any (fun w => w.page == n && w.block == b) then s
  else
    let flash := match s.page n with | some p => p.home == 2 | none => false
    State.startMoves { s with umr := { s.umr with
        wb := Memory.replace s.umr.wb (blockAddr n b) 0x10000 (s.blockBytes n b),
        wbs := s.umr.wbs ++ [{ page := n, block := b, kind := kind, abandoned := false, req := req, flash := flash, start := none }] } }

/-- Blocks named by a mask. -/
def maskBlocks (m : Nat) : List Nat := (List.range 32).filter (fun b => m.testBit b)

/-- Drop a page's upper frame. -/
def State.dropUpper (s : State) (n : Nat) (p : Page) : State :=
  (s.setPage n { p with upper := 0, resident := 0, dirty := 0, moveTo := 0 }).giveFrame p.upper

/-- What became of a request for an upper frame. -/
inductive FrameGrant where
  | granted | waits | bypass
  deriving DecidableEq, Repr

/-- R170: a frame of pool `code` is made free for a new use: a free one, a clean victim's at once, a dirty victim's once its
blocks are written back. -/
def State.freeOne (s : State) (code : Nat) (rt : Bool) : State × FrameGrant :=
  if 0 < s.freeFrames code then (s.takeFrame code, .granted)
  else match s.victim code rt with
    | none => (s, .bypass)
    | some (vn, vp) =>
      if vp.dirty = 0 then ((s.setPage vn { vp with upper := 0, resident := 0, moveTo := 0 }).bump Reg.UMR_CNT_EVICT, .granted)
      else (each (maskBlocks vp.dirty) (fun t b => t.startWb vn b .evict none) s, .waits)

/-- R169, R170: give page `n` an upper frame of pool `code`. -/
def State.grantUpper (s : State) (n code : Nat) (rt : Bool) : State × FrameGrant :=
  match s.page n with
  | none => (s, .bypass)
  | some p => match s.freeOne code rt with
    | (s1, .granted) => (s1.setPage n { p with upper := code }, .granted)
    | (s1, .waits) => (s1, .waits)
    | (s1, .bypass) => (s1.bump Reg.UMR_CNT_BYPASS, .bypass)

/-- Enter a fetch of a block into the page's upper frame, or into one of pool `pool` once there is one (R176, R179); `look` is the
Palm of an expert lookahead. -/
def State.startFetchFor (s : State) (n b prio : Nat) (req look : Option Nat) (pool : Nat) : State :=
  match s.page n with
  | none => s
  | some p =>
    let src := if p.home = 2 then 2 else 1
    let s1 := s.setPage n { p with inflight := p.inflight ||| 2 ^ b }
    let f : Fetch :=
      { page := n, block := b, src := src, prio := prio, req := req, look := look, pool := pool, start := none, limit := 0 }
    let s2 := State.startMoves { s1 with umr := { s1.umr with fetches := s1.umr.fetches ++ [f] } }
    if src = 2 ∧ s.bit Reg.UMR_FLASH_STATE 1 then s2.bump Reg.UMR_CNT_GC_DELAY else s2

/-- The pool a demand access takes an upper frame from (R169). -/
def State.demandPool (s : State) (p : Page) : Nat := if p.hint = 3 then 3 else s.stackFor p.stack

/-- Start a fetch for an access: real-time demand goes first (R179). -/
def State.startFetch (s : State) (n b : Nat) (rt : Bool) (req : Option Nat) : State :=
  match s.page n with
  | none => s
  | some p => s.startFetchFor n b (if rt then 1 else 2) req none (s.demandPool p)

/-! ## Errors on the tiers (R186 to R188) -/

/-- Counter of corrected errors by tier code 0 A, 1 B, 2 LPDDR5X, 3 flash (R186). -/
def State.corrected (s : State) (tier : Nat) : State :=
  if tier ≤ 1 then (s.bump Reg.UMR_CNT_CORR_HBM).dictAddSat 0x5121 1 1 64
  else if tier = 2 then (s.bump Reg.UMR_CNT_CORR_LPDDR).dictAddSat 0x5121 2 1 64
  else (s.bump Reg.UMR_CNT_CORR_FLASH).dictAddSat 0x5121 3 1 64

/-- Tier code of a page's home frame, as MEMORY records name it (R519). -/
def Page.homeTier (p : Page) : Nat := if p.home = 0 then p.homeStack else if p.home = 1 then 2 else 3

/-- Tier code of a page's upper frame. -/
def Page.upperTier (p : Page) : Nat := if p.upper = 1 then 0 else if p.upper = 2 then 1 else 2

/-- R172, R178: a block that REHOME has copied is in the new home frame. -/
def Page.moved (p : Page) (b : Nat) : Bool := p.st == 2 && p.dest != 0 && decide (b < p.copied)

/-- R178: the block that REHOME is copying. -/
def Page.copying (p : Page) (b : Nat) : Bool := p.st == 2 && p.dest != 0 && p.copied == b

/-- Tier code of the home frame that holds a block. -/
def Page.blockTier (p : Page) (b : Nat) : Nat := if p.moved b then p.dest - 1 else p.homeTier

/-- R191: the tier becomes write-protected when spare erase blocks fall below 0.5 %, and Cuff is told. -/
def State.checkSpare (s : State) : State :=
  if s.fld Reg.UMR_FLASH_STATE 4 12 < 50 ∧ ¬ s.bit Reg.UMR_FLASH_STATE 0 then
    (s.orReg Reg.UMR_FLASH_STATE 1).record 2 8 0 0x60 none 0xFFFF 0
  else s

/-- R191: retire erase block `blk`, where it is known; a spare replaces it. The spec does not say how many erase blocks make up 0.01 % of raw
capacity, so whether SPARE falls by one is a free value (log entry 30). -/
def State.retireErase (s0 : State) (blk : Option Nat) : State :=
  let s := match blk with
    | some k => s0.setFlash (s0.umr.flash.retire s0.hours k)
    | none => s0
  let n := s.fld Reg.UMR_RETIRED 32 32
  let s1 := s.setFld Reg.UMR_RETIRED 32 32 (clampNat 0 (2 ^ 32 - 1) (n + 1))
  let drop := (Config.freeWord s1.fresh).toNat % 2
  let s2 := (s1.freshN 1).setFld Reg.UMR_FLASH_STATE 4 12 (s1.fld Reg.UMR_FLASH_STATE 4 12 - drop)
  s2.checkSpare

/-- R188: the page's other blocks move to another frame of pool `code`: a free one, or a victim's (R170); where only a dirty
victim is left, the frame is owed until the next one of the pool is free. -/
def State.replaceFrame (s : State) (code : Nat) : State :=
  match s.freeOne code false with
  | (s1, .granted) => s1
  | (s1, _) => { s1 with umr := { s1.umr with
      owed := SMap.set (fun _ => 0) s1.umr.owed code (SMap.get (fun _ => 0) s1.umr.owed code + 1) } }

/-- R188: retire a DRAM frame of pool `code`: the page moves to another frame and the capacity is lost. -/
def State.retireFrame (s : State) (code : Nat) : State :=
  let s1 := s.replaceFrame code
  let lo := if code = 3 then 16 else 0
  let s2 := s1.setFld Reg.UMR_RETIRED lo 12 (clampNat 0 4095 (s.fld Reg.UMR_RETIRED lo 12 + 1))
  if s2.umr.retired.length < 1024 then
    { s2 with umr := { s2.umr with retired := code :: s2.umr.retired } }
  else s2.orReg Reg.UMR_STATE 4

/-- R188 and R191: the frame or erase block that held a failing copy of tile block `t` leaves service. -/
def State.retireTier (s : State) (tier t : Nat) : State :=
  if tier = 0 then s.retireFrame 1 else if tier = 1 then s.retireFrame 2
  else if tier = 2 then s.retireFrame 3 else s.retireErase (s.umr.flash.holder t)

/-- R187: an uncorrectable error in the upper or the home copy of a block. -/
def State.uncorrectable (s : State) (n b : Nat) (inUpper : Bool) : State :=
  match s.page n with
  | none => s
  | some p =>
    let res := p.resident.testBit b
    if inUpper && res && !p.dirty.testBit b then
      let p1 := { p with resident := p.resident - 2 ^ b }
      ((s.setPage n p1).retireTier p.upperTier (blockIndex n b)).bump Reg.UMR_CNT_UNC_RECOVERED
    else if !inUpper && res then
      let p1 := { p with dirty := p.dirty ||| 2 ^ b }
      ((s.setPage n p1).retireTier p.homeTier (blockIndex n b)).bump Reg.UMR_CNT_UNC_RECOVERED
    else
      let tier := if inUpper then p.upperTier else p.blockTier b
      let s1 := (s.setPage n { p with poison := p.poison ||| 2 ^ b }).retireTier tier (blockIndex n b)
      (s1.bump Reg.UMR_CNT_UNC).record 2 7 6 0x60 none tier (blockIndex n b)

/-! ## Block reads and writes (R176, R177) -/

/-- What a block access met: its status code (0 or 6 TIER_ERROR), whether it waits for a fetch or a copy of the block, and
whether it waits for an upper frame alone. -/
structure Touch where
  status : Nat
  waits : Bool
  later : Bool
  deriving DecidableEq, Repr

/-- A block access that proceeds. -/
def Touch.ok : Touch := ⟨0, false, false⟩

/-- A block access that waits for the block. -/
def Touch.wait : Touch := ⟨0, true, false⟩

/-- A block access that ends with TIER_ERROR. -/
def Touch.bad : Touch := ⟨6, false, false⟩

/-- R178, R181: an access meets a fetch in flight and waits for it; a real-time access does not wait for a frame that a
write-back is to free: it takes a clean victim's, or is served from the home frame. -/
def State.meetFetch (s : State) (n : Nat) (p : Page) (rt : Bool) (pool : Nat) : State × Touch :=
  if rt ∧ p.upper = 0 then
    match s.grantUpper n pool true with
    | (s1, .granted) => (s1.startMoves.bump Reg.UMR_CNT_WAIT_MIGRATE, .wait)
    | (s1, _) => (s1, .ok)
  else (s.bump Reg.UMR_CNT_WAIT_MIGRATE, .wait)

/-- A tile block is read in its home; flash counts the read (R190). -/
def State.homeRead (s : State) (n b : Nat) (p : Page) : State :=
  if p.blockTier b = 3 then s.flashRead (blockIndex n b) false else s

/-- R176: a read of one tile block by an access of a real-time or best-effort context. -/
def State.touchRead (s : State) (n b : Nat) (rt : Bool) (req : Option Nat) : State × Touch :=
  match s.page n with
  | none => (s, .bad)
  | some p0 =>
    let p := { p0 with age := s.ageNow }
    let s0 := s.setPage n p
    if p.poison.testBit b then (s0, .bad)
    else if p.copying b then (s0, .wait)
    else if p.zero.testBit b || p.resident.testBit b then (s0, .ok)
    else if p.inflight.testBit b then s0.meetFetch n p rt (s0.demandPool p)
    else if demandFills p.hint ∧ p.st = 1 then
      if p.upper = 0 then
        match s0.grantUpper n (s0.demandPool p) rt with
        | (s1, .bypass) => (s1.homeRead n b p, .ok)
        | (s1, _) => (s1.startFetch n b rt req, .wait)
      else (s0.startFetch n b rt req, .wait)
    else (s0.homeRead n b p, .ok)

/-- R177: what a write of a tile block waits for before it can be made; `whole` tells one of the whole 64 KiB. -/
def State.prepWrite (s : State) (n b : Nat) (whole rt : Bool) (req : Option Nat) : State × Touch :=
  match s.page n with
  | none => (s, .bad)
  | some p0 =>
    let p := { p0 with age := s.ageNow }
    let s0 := s.setPage n p
    let skip := whole || p.zero.testBit b
    if p.poison.testBit b ∧ !whole then (s, .bad)
    else if p.copying b then (s0, .wait)
    else if p.resident.testBit b then (s0, .ok)
    else if p.inflight.testBit b then s0.meetFetch n p rt (s0.demandPool p)
    else if p.home = 2 ∧ p.st = 1 then
      if p.upper = 0 then
        match s0.grantUpper n (s0.demandPool p) rt with
        | (s1, .granted) => if skip then (s1, .ok) else (s1.startFetch n b rt req, .wait)
        | (s1, .waits) => if skip then (s1, ⟨0, false, true⟩) else (s1.startFetch n b rt req, .wait)
        | (s1, .bypass) => if s1.bit Reg.UMR_FLASH_STATE 0 then (s1, .bad) else (s1, .ok)
      else if skip then (s0, .ok) else (s0.startFetch n b rt req, .wait)
    else if p.blockTier b = 3 ∧ s.bit Reg.UMR_FLASH_STATE 0 then (s0, .bad)
    else (s0, .ok)

/-- A write into a block abandons an eviction or drop of it that is in progress; a flush completes with what it
captured, and DIRTY stays set (R178). -/
def State.abandonWb (s : State) (n b : Nat) : State :=
  { s with umr := { s.umr with wbs := s.umr.wbs.map (fun w =>
      if w.page == n && w.block == b then { w with abandoned := true } else w) } }

/-- Store bytes into the present content. -/
def State.poke (s : State) (a : Nat) (bs : Bytes) : State := { s with umem := Memory.write s.umem a bs }

/-- A write is made: a crop-and-resize call in progress notes it (R115), and so does a Gusset unit that runs a job (R316). -/
def State.put (s : State) (a : Nat) (bs : Bytes) : State :=
  { (s.poke a bs) with
    crop := s.crop.map (fun x => { x with written := (a, bs.length) :: x.written }),
    gusNotes := s.gusNotes.map (fun e => (e.1, e.2.map (fun ws => (a, bs.length) :: ws))) }

/-- R177: a write into the upper copy of a block. -/
def State.writeUpper (s : State) (n b : Nat) (p : Page) (a : Nat) (bs : Bytes) : State :=
  ((s.setPage n { p with dirty := p.dirty ||| 2 ^ b }).abandonWb n b).put a bs

/-- R177: a write into the home frame of a block; a flash home takes it as one tile-block write. -/
def State.writeHome (s : State) (n b : Nat) (p : Page) (a : Nat) (bs : Bytes) : State × Touch :=
  if p.blockTier b = 3 then
    (if s.bit Reg.UMR_FLASH_STATE 0 then (s, .bad) else (((s.setPage n p).put a bs).commitHome n b, .ok))
  else ((s.setPage n p).put a bs, .ok)

/-- R174, R176: a page after a write of bytes of block `b`: its age, and no zero or poison mark of the block. -/
def Page.marked (p : Page) (b age : Nat) : Page :=
  { p with age := age, zero := if p.zero.testBit b then p.zero - 2 ^ b else p.zero,
           poison := if p.poison.testBit b then p.poison - 2 ^ b else p.poison }

/-- The bytes of a write that cannot wait stand at once in the upper copy, and the block's fetch goes on behind it (log entry 85). -/
def State.writeBehind (s : State) (n b a : Nat) (bs : Bytes) (rt : Bool) (req : Option Nat) : State × Touch :=
  let s1 := s.startFetch n b rt req
  ((match s1.page n with | some q => s1.writeUpper n b q a bs | none => s1), .wait)

/-- R177: a write into a block of a flash page that has no upper copy: the page takes an upper frame, or the write goes home; `p0` is
the page as it was, `p` as the write marks it, and `skip` tells that the block need not be fetched. -/
def State.writeFlash (s : State) (n b : Nat) (p0 p : Page) (a : Nat) (bs : Bytes) (skip rt : Bool) (req : Option Nat) :
    State × Touch :=
  let s0 := s.setPage n p
  let (s1, g) := if p.upper = 0 then s0.grantUpper n (s.demandPool p) rt else (s0, .granted)
  match s1.page n with
  | none => (s1, .bad)
  | some q => match g with
    | .bypass => let w := s1.writeHome n b q a bs; if w.2.status = 0 then w else (s1.setPage n p0, .bad)
    | .granted => if skip then (s1.writeUpper n b { q with resident := q.resident ||| 2 ^ b } a bs, .ok)
        else s1.writeBehind n b a bs rt req
    | .waits => s1.writeBehind n b a bs rt req

/-- R177: a write of bytes that lie in one tile block is made. Where a write of the device's own cannot wait (it has no request:
DESIGN CHOICE, log entry 85), its bytes stand at once and the fetch that it needs goes on behind it. -/
def State.touchWrite (s : State) (a : Nat) (bs : Bytes) (rt : Bool) (req : Option Nat) : State × Touch :=
  let n := pageOf a
  let b := blockIn a
  match s.page n with
  | none => (s, .bad)
  | some p0 =>
    let whole := bs.length == 0x10000
    if p0.poison.testBit b && !whole then (s, .bad)
    else
      let p := p0.marked b s.ageNow
      if p.resident.testBit b then (s.writeUpper n b p a bs, .ok)
      else if p.inflight.testBit b then
        (if p.upper = 0 then s.writeHome n b p a bs else ((s.writeUpper n b p a bs).bump Reg.UMR_CNT_WAIT_MIGRATE, .wait))
      else if p.home = 2 ∧ p.st = 1 then s.writeFlash n b p0 p a bs (whole || p0.zero.testBit b) rt req
      else s.writeHome n b p a bs

/-- The pieces of an access that each lie in one tile block, as (address, length). -/
def pieces (a n : Nat) : List (Nat × Nat) :=
  if n = 0 then []
  else (List.range ((a + n - 1) / 0x10000 + 1 - a / 0x10000)).map (fun i =>
    let lo := Nat.max a ((a / 0x10000 + i) * 0x10000)
    let hi := Nat.min (a + n) ((a / 0x10000 + i + 1) * 0x10000)
    (lo, hi - lo))

/-- What an engine's access met: 0 OK, 6 TIER_ERROR, 8 CONTEXT_FAULT, the blocks it waits for, and whether it waits for an upper
frame alone. -/
structure AccessResult where
  status : Nat
  waits : List (Nat × Nat)
  later : Bool
  deriving DecidableEq, Repr

/-- An access that need not wait any more and has met no error. -/
def AccessResult.ready (w : AccessResult) : Bool := w.status == 0 && w.waits.isEmpty && !w.later

/-- What an access has met after one more piece: the first status that is not OK stands. -/
def AccessResult.join (w : AccessResult) (x : Touch) (blk : Nat × Nat) : AccessResult :=
  ⟨if w.status = 0 then x.status else w.status, if x.waits then w.waits ++ [blk] else w.waits, w.later || x.later⟩

/-- R168, R515: an access of context `c` through translation cache `k` is checked and translated, then `f` takes its pieces. -/
def State.access (s : State) (c k a n : Nat) (write : Bool) (f : State → Nat × Nat → State × Touch) : State × AccessResult :=
  match s.accessFault c a n write with
  | some (cause, fa) => (s.noteFault c cause fa, ⟨8, [], false⟩)
  | none =>
    (pieces a n).foldl (fun (acc : State × AccessResult) pc =>
      let (t, x) := f acc.1 pc
      (t, acc.2.join x (pageOf pc.1, blockIn pc.1))) (each (pagesOf a n) (fun t pg => t.translate k pg) s, ⟨0, [], false⟩)

/-- R168, R176, R515: an engine reads `n` bytes at `a` for context `c` through translation cache `k`. -/
def State.accessRead (s : State) (c k a n : Nat) (req : Option Nat) : State × AccessResult :=
  s.access c k a n false (fun t pc => t.touchRead (pageOf pc.1) (blockIn pc.1) (s.ctxRt c) req)

/-- R168, R177, R515: what an engine's write of `n` bytes at `a` for context `c` waits for. -/
def State.accessPrep (s : State) (c k a n : Nat) (req : Option Nat) : State × AccessResult :=
  s.access c k a n true (fun t pc => t.prepWrite (pageOf pc.1) (blockIn pc.1) (pc.2 == 0x10000) (s.ctxRt c) req)

/-- R168, R177, R515: an engine writes bytes at `a` for context `c`. -/
def State.accessWrite (s : State) (c k a : Nat) (bs : Bytes) (req : Option Nat) : State × AccessResult :=
  s.access c k a bs.length true (fun t pc => t.touchWrite pc.1 ((bs.drop (pc.1 - a)).take pc.2) (s.ctxRt c) req)

/-- The bytes an access returns (R166: whatever the tier). -/
def State.peek (s : State) (a n : Nat) : Bytes := Memory.read s.umem a n

/-- A little-endian field in the unified range. -/
def State.peekN (s : State) (a n : Nat) : Nat := leNat (s.peek a n)

/-- R183: part `p`, command `i` of request `r` waits on blocks from now; the time limits that software wrote apply to these waits
(R192, R394). -/
def State.newWaits (s : State) (ws : List (Nat × Nat)) (r p i : Nat) : State :=
  if ws.isEmpty then s
  else
    let s1 := (s.applyShadow Reg.UMR_TIMEOUT_LPDDR).applyShadow Reg.UMR_TIMEOUT_FLASH
    let mk (w : Nat × Nat) : BlockWait :=
      let flash := match s1.page w.1 with | some x => x.home == 2 | none => false
      { page := w.1, block := w.2, req := r, part := p, idx := i, since := s1.now, limit := s1.tierLimit flash }
    { s1 with umr := { s1.umr with waits := s1.umr.waits ++ ws.map mk } }

/-- The device writes bytes of its own: a completion record, a KV record, a trace. -/
def State.devWrite (s : State) (a : Nat) (bs : Bytes) (rt : Bool := false) : State :=
  if a < umBase ∨ umEnd < a + bs.length then s
  else (pieces a bs.length).foldl (fun t pc =>
    (t.touchWrite pc.1 ((bs.drop (pc.1 - a)).take pc.2) rt none).1) s

/-- A page of the range homed in flash (checks of R180, R478, R310 and others). -/
def State.flashHomed (s : State) (a n : Nat) : Bool :=
  (pagesOf a n).any (fun pg => match s.page pg with
    | none => false
    | some p => p.home == 2)

/-- Transfer counts of the pages of a range (UNMAP waits for them, R172; a victim has none, R170). -/
def State.hold (s : State) (a n : Nat) (up : Bool) : State :=
  each (pagesOf a n) (fun t pg => match t.page pg with
    | none => t
    | some p => t.setPage pg { p with holds := if up then p.holds + 1 else p.holds - 1 }) s

/-- Unspecified bytes of a failed output region, where context `c` may write (R204; the bytes that it may not write stay,
DEDUCED from R168, log entry 28). -/
def State.havocOut (s : State) (c a n : Nat) : State :=
  each (pieces a n) (fun t x => if (t.accessFault c x.1 x.2 true).isSome then t else t.havoc x.1 x.2) s

/-- Blocks of a range that a fetch has still to bring (R176). -/
def State.fetching (s : State) (a n : Nat) : Bool :=
  (pieces a n).any (fun pc => match s.page (pageOf pc.1) with
    | none => false
    | some p => p.inflight.testBit (blockIn pc.1))

/-- Poisoned blocks in a range (R176). -/
def State.poisoned (s : State) (a n : Nat) : Bool :=
  (pieces a n).any (fun pc => match s.page (pageOf pc.1) with
    | none => true
    | some p => p.poison.testBit (blockIn pc.1))

end Sys2Proof.Machine
end

