-- ==== Sys2Proof/Machine/Kv.lean ====
section
/-! DEFINITION. KV ring managers (R73 to R85): page pools, sequence records, rollback. -/

namespace Sys2Proof.Machine

/-- Used pages of a manager's pool, ascending. -/
def State.kvUsed (s : State) (p : Nat) : List Nat := SMap.get (fun _ => []) s.kvrUsed p

/-- Free pages of a manager's pool (R73). -/
def State.kvFree (s : State) (p : Nat) : Nat := s.fld (Reg.KVR_POOL_PAGES p) 0 24 - (s.kvUsed p).length

/-- Replace the used pages; KVR_FREE_PAGES shows the free ones. -/
def State.setKvUsed (s : State) (p : Nat) (u : List Nat) : State :=
  let s1 := { s with kvrUsed := SMap.set (fun _ => []) s.kvrUsed p u }
  s1.setRegN (Reg.KVR_FREE_PAGES p) (s1.kvFree p)

/-- The `k`-th page number that an ascending list does not hold. -/
def nthFree (used : List Nat) (k : Nat) : Nat := used.foldl (fun a u => if u ≤ a then a + 1 else a) k

/-- Insert a page number in an ascending list. -/
def addPage (x : Nat) : List Nat → List Nat
  | [] => [x]
  | y :: ys => if x ≤ y then x :: y :: ys else y :: addPage x ys

/-- Allocate a page. The spec does not say which free page a manager takes: a free value chooses (log entry 33). -/
def State.takePage (s : State) (p : Nat) : State × Nat :=
  let n := nthFree (s.kvUsed p) ((Config.freeWord s.fresh).toNat % Nat.max 1 (s.kvFree p))
  (({ s with fresh := s.fresh + 1 }).setKvUsed p (addPage n (s.kvUsed p)), n)

/-- Allocate `n` pages. -/
def State.takePages (s : State) (p : Nat) : Nat → State × List Nat
  | 0 => (s, [])
  | n + 1 =>
    let (s1, ps) := s.takePages p n
    let (s2, x) := s1.takePage p
    (s2, ps ++ [x])

/-- Pages return to the pool. -/
def State.givePages (s : State) (p : Nat) (ps : List Nat) : State :=
  s.setKvUsed p ((s.kvUsed p).filter (fun x => !ps.contains x))

/-- The 64 bytes of a sequence record (R74). -/
def SeqRec.bytes (q : SeqRec) : Bytes :=
  natLE 1 q.st ++ natLE 1 q.mode ++ natLE 1 q.spec ++ natLE 1 0 ++ natLE 2 q.layers ++ natLE 2 q.nextLayer ++
  natLE 4 q.commit ++ natLE 4 q.tent ++ natLE 4 q.win ++ natLE 4 q.maxTok ++ natLE 4 q.tag ++ natLE 4 q.pend ++
  natLE 8 q.dir ++ natLE 4 q.held ++ List.replicate 20 0

/-- A record read from memory. -/
def SeqRec.ofBytes (bs : Bytes) : SeqRec :=
  { st := fieldLE bs 0 1, mode := fieldLE bs 1 1, spec := fieldLE bs 2 1, layers := fieldLE bs 4 2,
    nextLayer := fieldLE bs 6 2, commit := fieldLE bs 8 4, tent := fieldLE bs 0x0C 4, win := fieldLE bs 0x10 4,
    maxTok := fieldLE bs 0x14 4, tag := fieldLE bs 0x18 4, pend := fieldLE bs 0x1C 4, dir := fieldLE bs 0x20 8,
    held := fieldLE bs 0x28 4, ctx := 0 }

/-- A manager's copy of a record; a sequence without one is free (R74). -/
def State.seq (s : State) (id : Nat) : Option SeqRec := s.kvr.find id

/-- R74: change a record and write it back; a free sequence keeps no copy. -/
def State.putSeq (s : State) (id : Nat) (q : SeqRec) : State :=
  let m := if q.st = 0 then s.kvr.drop id else s.kvr.put id q
  ({ s with kvr := m }).devWrite (s.regN (Reg.KVR_SEQ_BASE (id % 4)) + id * 64) q.bytes

/-- Address of a layer's page list (R74). -/
def State.pageList (s : State) (q : SeqRec) (layer : Nat) : Nat := s.peekN (q.dir + 8 * layer) 8

/-- Entry `i` of a layer's page list. -/
def State.listEntry (s : State) (q : SeqRec) (layer i : Nat) : Nat := s.peekN (s.pageList q layer + 4 * i) 4

/-- The manager fills entry `i` of a layer's page list. -/
def State.setEntry (s : State) (q : SeqRec) (layer i page : Nat) : State :=
  s.devWrite (s.pageList q layer + 4 * i) (natLE 4 page)

/-- R76: pages of a layer's ring. -/
def SeqRec.ring (q : SeqRec) : Nat := q.win / 16 + 1 + q.spec

/-- Pages that a layer of a sequence holds (R75, R76). -/
def SeqRec.layerPages (q : SeqRec) (layer : Nat) : Nat :=
  if q.mode = 1 then q.ring
  else ceilDiv (q.tent + (if layer < q.nextLayer then q.pend else 0)) 16

/-- R75: full-context pages of every layer from entry `first` on return to the pool; the pages freed are counted. -/
def State.freeFrom (s : State) (id : Nat) (q : SeqRec) (first : Nat) : State × Nat :=
  let ps := (List.range q.layers).flatMap (fun l =>
    (List.range (q.layerPages l - first)).map (fun i => s.listEntry q l (first + i)))
  (s.givePages (id % 4) ps, ps.length)

/-- R83: a rollback of a sliding-window sequence that discards more than its spare pages hold breaks it. -/
def SeqRec.breaks (q : SeqRec) : Bool := q.mode == 1 && decide (16 * q.spec < q.pend + q.tent - q.commit)

/-- R82 to R85: ROLLBACK of an active sequence. -/
def State.rollbackSeq (s : State) (id : Nat) (q : SeqRec) : State :=
  let p := id % 4
  let s1 := s.add (Reg.KVR_CNT_TOK_ROLLBACK p) (q.tent - q.commit)
  let (s2, n) := if q.mode = 1 then (s1, 0) else s1.freeFrom id q (ceilDiv q.commit 16)
  let q1 := { q with st := if q.breaks then 2 else q.st, nextLayer := 0, pend := 0, tent := q.commit, tag := 0,
                     held := q.held - n }
  let s3 := if q.breaks then s2.bump (Reg.KVR_CNT_BROKEN p) else s2
  s3.putSeq id q1

/-- R84: a cancel of tag T rolls back every active sequence whose TAG is T and was set by the cancel's context. -/
def State.rollbackTag (s : State) (c tag : Nat) : State :=
  each s.kvr.entries (fun t e =>
    if e.2.st = 1 ∧ e.2.tag = tag ∧ e.2.ctx = c then t.rollbackSeq e.1 e.2 else t) s

end Sys2Proof.Machine
end

