-- ==== Sys2Proof/Machine/Regions.lean ====
section
/-! DEFINITION. What a Gauntlet command names, read from its descriptor: buffer regions and their rules (R52, R202), the
commands of a part (R198, R517), the regions of matrix, sliding-window and scan tiles, and what a part that fails leaves
unspecified (R204). -/

namespace Sys2Proof.Machine

/-! ## The Gauntlet buffer -/

/-- Key of buffer offset `off` of Gauntlet `g` (R15: 4 MiB each). -/
def gbufKey (g off : Nat) : Nat := g * 0x400000 + off

/-- Read a Gauntlet's buffer. -/
def State.gread (s : State) (g off n : Nat) : Bytes := Memory.read s.gbuf (gbufKey g off) n

/-- Write a Gauntlet's buffer. -/
def State.gwrite (s : State) (g off : Nat) (bs : Bytes) : State :=
  { s with gbuf := Memory.write s.gbuf (gbufKey g off) bs }

/-- FP32 code `i` of a vector in a Gauntlet's buffer. -/
def State.gvec (s : State) (g off i : Nat) : Nat := leNat (s.gread g (off + 4 * i) 4)

/-- Unspecified bytes in a Gauntlet's buffer (R57). -/
def State.ghavoc (s : State) (g off n : Nat) : State :=
  { (s.gwrite g off (tab n (fun i => Config.freeByte (s.fresh + i)))) with fresh := s.fresh + n }

/-- What a region is to the in-place rule of R44: the residual input, the output, or neither. -/
inductive RgnRole where
  | plain | residual | output
  deriving DecidableEq, Repr

/-- A buffer region: `rows` rows of `row` bytes, `stride` apart, from `off`; `write` when the tile writes it. -/
structure Rgn where
  off : Nat
  row : Nat
  stride : Nat
  rows : Nat
  write : Bool
  role : RgnRole := .plain
  deriving DecidableEq, Repr

/-- A contiguous region. -/
def Rgn.flat (off n : Nat) (write : Bool) : Rgn := ⟨off, n, alignUp n 64, 1, write, .plain⟩

/-- The intervals of a region, as (offset, length): the rows' own bytes. Bytes between the rows of a strided region belong to
no interval (DESIGN CHOICE, log entry 81: R52 does not say). -/
def Rgn.parts (r : Rgn) : List (Nat × Nat) :=
  if r.row = 0 then [] else tab r.rows (fun i => (r.off + i * r.stride, r.row))

/-- Two intervals share a byte. -/
def overlaps (a b : Nat × Nat) : Bool := decide (a.1 < b.1 + b.2) && decide (b.1 < a.1 + a.2)

/-- Two regions share a byte. -/
def Rgn.meets (a b : Rgn) : Bool := a.parts.any (fun x => b.parts.any (fun y => overlaps x y))

/-- R52, R202: alignment, stride, bounds and window of one region. -/
def Rgn.ok (win : Nat × Nat) (r : Rgn) : Bool :=
  r.off % 64 == 0 && r.stride % 64 == 0 && decide (r.row ≤ r.stride) &&
  (r.parts.all (fun x => decide (x.1 + x.2 ≤ 0x400000) && decide (win.1 ≤ x.1) && decide (x.1 + x.2 ≤ win.2)))

/-- The pair of the in-place residual (R44). -/
def Rgn.residualPair (a b : Rgn) : Bool :=
  (a.role == .residual && b.role == .output) || (a.role == .output && b.role == .residual)

/-- R52: no region written overlaps another, but for the residual and the output of a tile that updates `inPlace` (R44). -/
def noOverlap (rs : List Rgn) (inPlace : Bool) : Bool :=
  (List.range rs.length).all (fun i => (List.range rs.length).all (fun j =>
    if i < j then
      match rs[i]?, rs[j]? with
      | some a, some b =>
        !(a.write || b.write) || !(a.meets b) || (inPlace && a.residualPair b)
      | _, _ => true
    else true))

/-- R52, R202: the buffer rules over every region of a tile. -/
def regionsOk (win : Nat × Nat) (rs : List Rgn) (inPlace : Bool) : Bool :=
  rs.all (fun r => r.ok win) && noOverlap rs inPlace

/-- State elements per channel of a slot header (R117, R127). -/
def slotElems (h : Bytes) : Nat := if fieldLE h 1 1 = 2 then 2 * fieldLE h 3 1 else 1

/-- Bytes of one state bank, without rounding (R127). -/
def slotStateBytes (h : Bytes) : Nat := fieldLE h 4 2 * slotElems h * (fmtBits (fieldLE h 2 1) / 8)

/-- Bytes of the buffer copy: header and two banks, each rounded up to 64 bytes. -/
def slotCopyBytes (h : Bytes) : Nat := 64 + 2 * alignUp (slotStateBytes h) 64

/-- Offset of bank `b` within the buffer copy. -/
def slotBankOff (h : Bytes) (b : Nat) : Nat := 64 + b * alignUp (slotStateBytes h) 64

/-- Intervals that regions write. -/
def writeParts (rs : List Rgn) : List (Nat × Nat) := (rs.filter (·.write)).flatMap Rgn.parts

/-! ## The commands of a part -/

/-- Size of a command by its OPCODE within a KIND, none where the KIND does not accept it (R198, R517). -/
def cmdSize (kind op : Nat) : Option Nat :=
  if kind = 1 then
    (if op = 0x08 then some 32 else if op = 0x10 ∨ op = 0x30 ∨ op = 0x34 ∨ op = 0x40 then some 128 else none)
  else if kind = 3 then (if op = 0x21 then some 32 else none)
  else if kind = 7 then (if op = 0x08 then some 32 else none)
  else none

/-- R198, R517: a list is packed, so a 128-byte descriptor may lie at an address that is not a multiple of 128; it is read where
it lies and no check refuses it (DESIGN CHOICE, log entry 81: R50 and R103 call it aligned and name no refusal).
Address of command `i` of a list, found from the OPCODEs before it, or the index of the command that the
KIND does not accept. -/
def State.cmdAddrOf (s : State) (kind : Nat) : Nat → Nat → Nat → Nat ⊕ Nat
  | 0, _, a => .inl a
  | n + 1, i, a =>
    match cmdSize kind (s.peekN a 1) with
    | none => .inr i
    | some sz => s.cmdAddrOf kind n (i + 1) (a + sz)

/-- R202: the window of a Gauntlet buffer that a context may use, as [lo, hi). -/
def State.bufWindow (s : State) (c : Nat) : Nat × Nat :=
  let split := s.fld Reg.QUE_BUF_SPLIT 0 6 * 0x10000
  if s.ctxRt c then (split, 0x400000) else (0, split)

/-- Whether a buffer region lies in a context's window. -/
def State.inWindow (s : State) (c off n : Nat) : Bool :=
  let w := s.bufWindow c
  decide (w.1 ≤ off) && decide (off + n ≤ w.2)

/-! ## Matrix and post-only tiles (R50) -/

/-- ACC_IN. -/
def accIn (d : Bytes) : Nat := fieldLE d 0x0C 2 % 4
/-- ACC_OUT. -/
def accOut (d : Bytes) : Nat := fieldLE d 0x0C 2 / 4 % 4
/-- SPARSE_B. -/
def sparseB (d : Bytes) : Bool := (fieldLE d 0x0C 2).testBit 4
/-- ROUND. -/
def roundMode (d : Bytes) : Nat := bits (fieldLE d 0x0C 2) 7 2
/-- POST_EN. -/
def postEn (d : Bytes) : Nat := fieldLE d 0x0E 2
/-- RES_OUT. -/
def resOutOn (d : Bytes) : Bool := (fieldLE d 0x0C 2).testBit 9

/-- Bytes of one column of B (R21, R42). -/
def colBytes (fmt k : Nat) (sparse : Bool) : Nat :=
  if sparse then ceilDiv (k / 2 * fmtBits fmt) 8 + (if fmtBlocked fmt then k / 32 else 0) else fmtRowBytes fmt k

/-- Regions of a matrix or post-only tile (R52); post stages name regions only where they run, in a FINAL tile (DEDUCED,
log entry 25), but for the curve table, which every tile with CURVE enabled reads at dispatch (R47). -/
def matrixRegions (d : Bytes) : List Rgn × Bool :=
  let m := fieldLE d 4 2
  let n := fieldLE d 6 2
  let k := fieldLE d 8 4
  let f (o : Nat) : Nat := fieldLE d o 4
  let en := postEn d
  let fin := accOut d == 0
  let opt (c : Bool) (r : Rgn) : List Rgn := if c then [r] else []
  let res : Rgn := ⟨f 0x48, n * fmtBits (fieldLE d 0x4C 1) / 8, f 0x50, m, false, .residual⟩
  let out : Rgn := ⟨f 0x2C, fmtRowBytes (fieldLE d 3 1) n, f 0x30, m, true, .output⟩
  let rs :=
    opt (k != 0) ⟨f 0x18, fmtRowBytes (fieldLE d 1 1) k, f 0x1C, m, false, .plain⟩ ++
    opt (k != 0) ⟨f 0x20, colBytes (fieldLE d 2 1) k (sparseB d), f 0x24, n, false, .plain⟩ ++
    opt (k != 0 && sparseB d) (Rgn.flat (f 0x28) (n * (k / 8)) false) ++
    opt (accIn d == 1) (Rgn.flat (f 0x34) (m * n * 4) false) ++
    opt (accIn d == 3) (Rgn.flat (f 0x34) (m * n * 128) false) ++
    opt (accOut d == 2) (Rgn.flat (f 0x38) (m * n * 128) true) ++
    opt (fin && en.testBit 0 && (fieldLE d 0x0C 2).testBit 10) (Rgn.flat (f 0x3C) (m * 4) false) ++
    opt (fin && en.testBit 0) (Rgn.flat (f 0x40) (n * 4) false) ++
    opt (fin && en.testBit 1) (Rgn.flat (f 0x44) (n * 4) false) ++
    opt (fin && en.testBit 2) res ++
    opt (fin && resOutOn d) ⟨f 0x54, n * fmtBits (fieldLE d 0x4D 1) / 8, f 0x50, m, true, .plain⟩ ++
    opt (fin && en.testBit 3) (Rgn.flat (f 0x58) (n * 4 * (if en.testBit 6 then 2 else 1)) false) ++
    opt (en.testBit 4) (Rgn.flat (f 0x60) 192 false) ++
    opt (fin && en.testBit 5) (Rgn.flat (f 0x64) (n * 4) false) ++
    opt fin out
  (rs, en.testBit 2 && f 0x2C == f 0x48 && f 0x30 == f 0x50 && fmtBits (fieldLE d 3 1) == fmtBits (fieldLE d 0x4C 1))

/-! ## Sliding-window tiles (R94, R103) -/

/-- Channel block size of a format. -/
def blockChans (fmt : Nat) : Nat := if fmt ≤ 2 then 16 else 32

/-- Bytes of one pixel's block of channels. -/
def blockElemBytes (fmt : Nat) : Nat := blockChans fmt * fmtBits fmt / 8

/-- Bytes of a row of `w` columns, padded to 64 (R94). -/
def layoutRowBytes (fmt w : Nat) : Nat :=
  alignUp (w * blockElemBytes fmt + (if fmtBlocked fmt then w else 0)) 64

/-- The fields of a sliding-window descriptor. -/
structure Win where
  pool : Bool
  fa : Nat
  fb : Nat
  fo : Nat
  kind : Nat
  kh : Nat
  kw : Nat
  sy : Nat
  sx : Nat
  dy : Nat
  dx : Nat
  pt : Nat
  pb : Nat
  pl : Nat
  pr : Nat
  oh : Nat
  ow : Nat
  n : Nat
  cin : Nat
  h : Nat
  w : Nat
  iy0 : Nat
  ix0 : Nat
  ph : Nat
  pw : Nat
  oy0 : Nat
  ox0 : Nat
  col0 : Nat
  k0 : Nat
  kT : Nat
  kTotal : Nat
  img : Nat
  deriving DecidableEq, Repr

/-- Read a sliding-window descriptor (R103). -/
def winOf (d : Bytes) : Win :=
  let b (o : Nat) : Nat := fieldLE d o 1
  let u (o : Nat) : Nat := fieldLE d o 2
  { pool := b 0 == 0x34, fa := b 1, fb := b 2, fo := b 3, kind := b 4, kh := b 5, kw := b 6,
    sy := b 7 % 16 + 1, sx := b 7 / 16 + 1, dy := b 8 % 16 + 1, dx := b 8 / 16 + 1,
    pt := b 9 % 16, pb := b 9 / 16, pl := b 0x0A % 16, pr := b 0x0A / 16, oh := b 0x0B, ow := b 0x46,
    n := u 0x5C, cin := u 0x5E, h := u 0x60, w := u 0x62, iy0 := u 0x64, ix0 := u 0x66, ph := u 0x68, pw := u 0x6A,
    oy0 := u 0x6C, ox0 := u 0x6E, col0 := fieldLE d 0x70 4, k0 := fieldLE d 0x74 4, kT := fieldLE d 0x34 4,
    kTotal := fieldLE d 0x78 4, img := u 0x7C }

/-- Positions in the tile (R98). -/
def Win.m (x : Win) : Nat := x.oh * x.ow

/-- Depthwise convolution. -/
def Win.depthwise (x : Win) : Bool := !x.pool && x.kind == 1

/-- C_IN rounded up to a multiple of 32 (R100). -/
def Win.cp (x : Win) : Nat := alignUp x.cin 32

/-- Channel blocks that the patch holds (R104). -/
def Win.patchBlocks (x : Win) : Nat :=
  if x.pool || x.depthwise then ceilDiv x.n (blockChans x.fa) else x.cp / blockChans x.fa

/-- Regions of a sliding-window tile (R52, R103, R104). -/
def winRegions (d : Bytes) : List Rgn × Bool :=
  let x := winOf d
  let f (o : Nat) : Nat := fieldLE d o 4
  let en := postEn d
  let fin := accOut d == 0
  let opt (c : Bool) (r : Rgn) : List Rgn := if c then [r] else []
  let grid (fmt off : Nat) (write : Bool) (role : RgnRole) : Rgn :=
    ⟨off, layoutRowBytes fmt x.ow, f 0x30, ceilDiv x.n (blockChans fmt) * x.oh, write, role⟩
  let res := grid (fieldLE d 0x44 1) (f 0x40) false .residual
  let out := grid x.fo (f 0x2C) true .output
  let rs :=
    [⟨f 0x18, layoutRowBytes x.fa x.pw, f 0x1C, x.patchBlocks * x.ph, false, .plain⟩] ++
    opt (!x.pool) ⟨f 0x20, colBytes x.fb x.kT (sparseB d), f 0x24, x.n, false, .plain⟩ ++
    opt (!x.pool && sparseB d) (Rgn.flat (f 0x28) (x.n * (x.kT / 8)) false) ++
    opt (accIn d == 1) (Rgn.flat (f 0x54) (x.m * x.n * 4) false) ++
    opt (accIn d == 3) (Rgn.flat (f 0x54) (x.m * x.n * 128) false) ++
    opt (accOut d == 2) (Rgn.flat (f 0x58) (x.m * x.n * 128) true) ++
    opt (fin && en.testBit 0) (Rgn.flat (f 0x38) (x.n * 4) false) ++
    opt (fin && en.testBit 1) (Rgn.flat (f 0x3C) (x.n * 4) false) ++
    opt (fin && en.testBit 2) res ++
    opt (fin && resOutOn d) (grid (fieldLE d 0x45 1) (f 0x48) true .plain) ++
    opt (en.testBit 4) (Rgn.flat (f 0x4C) 192 false) ++
    opt (fin && en.testBit 5) (Rgn.flat (f 0x50) (x.n * 4) false) ++
    opt fin out
  (rs, en.testBit 2 && f 0x2C == f 0x40 && fmtBits x.fo == fmtBits (fieldLE d 0x44 1))

/-! ## Scan tiles (R124) -/

/-- The fields of a scan descriptor (R124). -/
structure Scan where
  fx : Nat
  fg : Nat
  fo : Nat
  kind : Nat
  aMode : Nat
  sections : Nat
  fs : Nat
  t : Nat
  n : Nat
  ch0 : Nat
  chunkIn : Nat
  chunkOut : Nat
  sat : Bool
  ftz : Bool
  round : Nat
  stRound : Nat
  zero : Bool
  slot : Nat
  step0 : Nat
  c : Nat
  deriving DecidableEq, Repr

/-- Read a scan descriptor. -/
def scanOf (d : Bytes) : Scan :=
  let b (o : Nat) : Nat := fieldLE d o 1
  let fl := fieldLE d 0x0C 2
  { fx := b 1, fg := b 2, fo := b 3, kind := b 4, aMode := b 5, sections := b 6, fs := b 7, t := fieldLE d 8 2,
    n := fieldLE d 0x0A 2, ch0 := fieldLE d 0x4E 2, chunkIn := fl % 4, chunkOut := fl / 4 % 4, sat := fl.testBit 4,
    ftz := fl.testBit 5, round := bits fl 6 2, stRound := bits fl 8 2, zero := fl.testBit 10,
    slot := fieldLE d 0x58 8, step0 := fieldLE d 0x60 8, c := fieldLE d 0x68 4 }

/-! ## A part that fails -/

/-- The commands of a list of `n` from address `a` on, as (address, OPCODE), as far as they can be found (R517). -/
def State.partCommands (s : State) (kind : Nat) : Nat → Nat → List (Nat × Nat)
  | 0, _ => []
  | n + 1, a =>
    let op := s.peekN a 1
    match cmdSize kind op with
    | none => []
    | some sz => (a, op) :: s.partCommands kind n (a + sz)

/-- Buffer intervals that a tile writes as its outputs. -/
def tileWrites (d : Bytes) : List (Nat × Nat) :=
  let op := fieldLE d 0 1
  if op = 0x10 then writeParts (matrixRegions d).1
  else if op = 0x40 then
    (⟨fieldLE d 0x2C 4, fmtRowBytes (scanOf d).fo (scanOf d).n, fieldLE d 0x30 4, (scanOf d).t, true, .output⟩ : Rgn).parts
  else writeParts (winRegions d).1

/-- R132: the bank that ACTIVE does not name, of the buffer copy that a scan tile on Gauntlet `g` writes. -/
def State.havocBank (s : State) (g : Nat) (d : Bytes) : State :=
  match s.slots.find (scanOf d).slot with
  | none => s
  | some y =>
    if y.phase = 1 ∧ y.g = g ∧ y.off = fieldLE d 0x34 4 then
      let h := s.gread g y.off 64
      s.ghavoc g (y.off + slotBankOff h (1 - fieldLE h 7 1 % 2)) (slotStateBytes h)
    else s

/-- What one command of a failed part leaves unspecified: the destination of a transfer to the unified range, or on the
Gauntlet that the part ran on the output regions of a tile. -/
def State.havocCommand (s : State) (q : Request) (unit : Option Nat) (a op : Nat) : State :=
  let n := s.peekN (a + 0x18) 4
  if op = 8 then
    (match s.peekN (a + 1) 1 with
      | 1 => if q.kind = 1 then s.havocOut q.ctx (s.peekN (a + 8) 8) n else s
      | 2 => if q.kind = 7 then s.havocOut q.ctx (s.peekN (a + 0x10) 8) n else s
      | _ => s)
  else match unit with
    | none => s
    | some g =>
      let d := s.peek a 128
      let t := each (tileWrites d) (fun u w => if u.inWindow q.ctx w.1 w.2 then u.ghavoc g w.1 w.2 else u) s
      if op = 0x40 then t.havocBank g d else t

/-- R204, R132: every byte of every region that a failed part of a GAUNTLET or COPY request names becomes unspecified; the
Gauntlet command at `keep`, which was refused, is not written (R53, R202). -/
def State.havocPart (s : State) (q : Request) (x : Part) (keep : Option Nat) : State :=
  match s.cmdAddrOf q.kind x.first 0 q.cmdAddr with
  | .inr _ => s
  | .inl a0 => each (s.partCommands q.kind (x.stop - x.first) a0) (fun t e =>
      if keep = some e.1 then t else t.havocCommand q x.unit e.1 e.2) s

end Sys2Proof.Machine
end

