-- ==== Sys2Proof/Machine/Outputs.lean ====
section
/-! DEFINITION. The unified-range output regions that the command of a request names, by KIND: what a request that is
cancelled or fails before its engine takes it up leaves unspecified (R204, R231). -/

namespace Sys2Proof.Machine

/-! ## Output ranges by engine -/

/-- Bytes of a format code of R18. -/
def fmtBytes (f : Nat) : Nat := fmtBits f / 8

/-- Ranges that a call writes: O and LSE. -/
def attOuts (d : Bytes) : List (Nat × Nat) :=
  let tot := fieldLE d 0x64 4
  let o := tab tot (fun t => (fieldLE d 0x38 8 + t * fieldLE d 0x58 4, fieldLE d 6 1 * fieldLE d 4 2 * fmtBytes (fieldLE d 3 1)))
  if (fieldLE d 0x0B 1).testBit 3 then o ++ [(fieldLE d 0x40 8, 4 * tot * fieldLE d 6 1)] else o

/-- The rows of a descriptor's length table. -/
def State.attRows (s : State) (d : Bytes) : List AttRow :=
  let a := fieldLE d 0x18 8
  tab (fieldLE d 8 2) (fun i => ⟨s.peekN (a + 16 * i) 4, s.peekN (a + 16 * i + 4) 4, s.peekN (a + 16 * i + 8) 4,
    s.peekN (a + 16 * i + 12) 4⟩)

/-- Bytes of one position's keys or values, for all key/value heads. -/
def attPosBytes (d : Bytes) (val : Bool) : Nat :=
  fieldLE d 7 1 * fieldLE d 4 2 * fmtBytes (fieldLE d (if val then 2 else 1) 1)

/-- Bytes of a page's keys and values (R73). -/
def attPageBytes (d : Bytes) : Nat := 16 * (attPosBytes d false + attPosBytes d true)

/-- NO_WRITE of a descriptor. -/
def attNoWrite (d : Bytes) : Bool := (fieldLE d 0x0B 1).testBit 4

/-- Address of the keys (`val` false) or values of position `k` of sequence `id` for key/value head `h`, in the page of the given
number: a page holds the 16 positions' keys, then their values (DESIGN CHOICE, log entry 34). -/
def State.kvAt (s : State) (d : Bytes) (id page k h : Nat) (val : Bool) : Nat :=
  let p := id % 4
  let base := s.regN (Reg.KVR_POOL_BASE p) + page * s.fld (Reg.KVR_PAGE_BYTES p) 0 22
  let head := h * fieldLE d 4 2 * fmtBytes (fieldLE d (if val then 2 else 1) 1)
  base + (if val then 16 * attPosBytes d false else 0) + (k % 16) * attPosBytes d val + head

/-- Entry of a layer's page list for position `k` (R74, R76). -/
def SeqRec.slotOf (q : SeqRec) (k : Nat) : Nat := if q.mode = 1 then (k / 16) % q.ring else k / 16

/-- Address of a key or value of a position that a sequence holds. -/
def State.kvAddr (s : State) (d : Bytes) (q : SeqRec) (id k h : Nat) (val : Bool) : Nat :=
  s.kvAt d id (s.listEntry q (fieldLE d 0x0C 2) (q.slotOf k)) k h val

/-- The pages that hold a row's positions below START (R63). -/
def State.kvPages (s : State) (d : Bytes) (x : AttRow) : List (Nat × Nat) :=
  match s.seq x.seq with
  | some q => tab (ceilDiv x.start 16) (fun i => (s.kvAddr d q x.seq (16 * i) 0 false, attPageBytes d))
  | none => []

/-- The page of a position that a row appends: one that the sequence holds, or one of those reserved for the row (R75, R76). -/
def State.appendPage (s : State) (d : Bytes) (q : SeqRec) (x : AttRow) (pages : List Nat) (k : Nat) : Nat :=
  let first := ceilDiv x.start 16
  if q.mode = 1 ∨ k / 16 < first then s.listEntry q (fieldLE d 0x0C 2) (q.slotOf k) else nth 0 pages (k / 16 - first)

/-- Ranges of the pages that a row's appends write. -/
def State.appendOuts (s : State) (d : Bytes) (x : AttRow) (pages : List Nat) : List (Nat × Nat) :=
  match s.seq x.seq with
  | none => []
  | some q => (List.range x.len).flatMap (fun i =>
      let at_ (val : Bool) : Nat × Nat :=
        (s.kvAt d x.seq (s.appendPage d q x pages (x.start + i)) (x.start + i) 0 val, attPosBytes d val)
      [at_ false, at_ true])

/-- R78: a row of `len` new positions would overwrite ring slots that the sequence still needs. -/
def SeqRec.overruns (q : SeqRec) (len : Nat) : Bool := q.mode == 1 && decide (16 * q.spec < len + q.tent - q.commit)

/-- R78: a call that fails leaves the bytes at the positions that it appends unspecified; a ring that they would overrun keeps its
bytes until the sequence is broken. -/
def State.havocAppends (s : State) (c : Nat) (x : AttCall) : State :=
  if attNoWrite x.desc then s
  else each (x.rows.zip x.pages) (fun t e => match t.seq e.1.seq with
    | none => t
    | some q => if q.st = 1 ∧ q.overruns e.1.len then t
        else each (t.appendOuts x.desc e.1 e.2) (fun u o => u.havocOut c o.1 o.2) t) s

/-- Ranges that ROUTE writes. -/
def routeOuts (d : Bytes) : List (Nat × Nat) :=
  let n := fieldLE d 4 2
  let tok := fieldLE d 8 4
  let k := fieldLE d 2 1
  [(fieldLE d 0x38 8, 8 * n + 8 * tok * k), (fieldLE d 0x30 8, tok * k * fieldLE d 0x2C 4)]

/-- Ranges that COMBINE writes. -/
def combineOuts (d : Bytes) : List (Nat × Nat) :=
  tab (fieldLE d 8 4) (fun t => (fieldLE d 0x20 8 + t * fieldLE d 0x2C 4, fieldLE d 0x0C 2 * fmtBytes (fieldLE d 6 1)))

/-- The output range of a call (R115). -/
def cropOuts (d : Bytes) : List (Nat × Nat) := [(fieldLE d 0x20 8, fieldLE d 4 2 * fieldLE d 0x40 8)]

/-- N of a job. -/
def gusN (d : Bytes) : Nat := fieldLE d 4 2

/-- M of a job. -/
def gusM (d : Bytes) : Nat := fieldLE d 6 2

/-- Bytes of the result record (R326). -/
def gusResultBytes (d : Bytes) : Nat := 0x40 + 4 * gusN d + 8 * gusM d

/-- Channels that a mask selects, ascending. -/
def maskChans (m : Nat) : List Nat := (List.range 64).filter (fun c => m.testBit c)

/-- Output range of an ALIGN. -/
def alignOuts (d : Bytes) : List (Nat × Nat) := [(fieldLE d 0x20 8, 16 + 72 * (maskChans (fieldLE d 0x10 8)).length)]

/-- Output range of a TRACK_UPDATE. -/
def trackOuts (d : Bytes) : List (Nat × Nat) := [(fieldLE d 0x28 8, 2 * fieldLE d 0x10 2)]

/-- Ranges that a PLAN writes. -/
def planOuts (d : Bytes) : List (Nat × Nat) :=
  [(fieldLE d 0x40 8, fieldLE d 0x48 4), (fieldLE d 0x50 8, fieldLE d 0x58 8)]

/-- Output ranges of a PLAN; a roadmap PLAN updates its work region only when it ends with a result (R355). -/
def planRequestOuts (d : Bytes) : List (Nat × Nat) := if fieldLE d 1 1 = 1 then (planOuts d).take 1 else planOuts d

/-- Output range of a TRACK_READ (R286) of a table of `n` tracks. -/
def snapshotOuts (n : Nat) (d : Bytes) : List (Nat × Nat) := [(fieldLE d 8 8, 16 + 256 * n)]

/-- Output range of a KNK_READ. -/
def knkReadOuts (d : Bytes) : List (Nat × Nat) := [(fieldLE d 8 8, 8 * fieldLE d 0x10 4)]

/-! ## By request -/

/-- Unified-range output ranges that the command of a one-command request names. -/
def State.namedOuts (s : State) (q : Request) : List (Nat × Nat) :=
  let d := s.peek q.cmdAddr 128
  let op := fieldLE d 0 1
  if q.kind = 2 ∧ op = 0x20 then attOuts d
  else if q.kind = 2 ∧ op = 0x22 then routeOuts d
  else if q.kind = 2 ∧ op = 0x23 then combineOuts d
  else if q.kind = 4 ∧ op = 0x35 then cropOuts d
  else if q.kind = 5 ∧ op = 0x50 then [(fieldLE d 0x38 8, fieldLE d 0x40 8)]
  else if q.kind = 0x10 ∧ (op = 0x70 ∨ op = 0x71) then [(fieldLE d 0x58 8, gusResultBytes d)]
  else if q.kind = 0x11 ∧ op = 0x80 then planRequestOuts d
  else if q.kind = 0x11 ∧ op = 0x82 then [(fieldLE d 0x20 8, 4)]
  else if q.kind = 0x12 ∧ op = 0x92 then [(fieldLE d 0x10 8, 4)]
  else if q.kind = 0x13 ∧ op = 0x98 then alignOuts d
  else if q.kind = 0x13 ∧ op = 0x9A then trackOuts d
  else if q.kind = 0x13 ∧ op = 0x9B then snapshotOuts s.atu.tracks.entries.length d
  else if q.kind = 0x14 ∧ op = 0xA1 then knkReadOuts d
  else []

/-- R204, R231: every output region of a request that ends CANCELLED, or that fails before its engine wrote anything, is
unspecified: for a list of commands what each part names, of a part that has ended with OK only the unified-range
destinations, since its Gauntlet may hold other work by then (DESIGN CHOICE, log entry 82). -/
def State.havocNamed (s : State) (q : Request) : State :=
  if q.kind = 1 ∨ q.kind = 7 then
    each q.parts (fun t x => t.havocPart q (if x.status.isSome then { x with unit := none } else x) none) s
  else each (q.outs ++ s.namedOuts q) (fun t x => if x.2 = 0 then t else t.havocOut q.ctx x.1 x.2) s

end Sys2Proof.Machine
end

