-- ==== Sys2Proof/Machine/GusCost.lean ====
section
/-! DEFINITION. What a Gusset job costs, by its descriptor and its program (R327). -/

namespace Sys2Proof.Machine

/-! ## Phase costs (R327) -/

/-- QP job. -/
def gusQp (d : Bytes) : Bool := fieldLE d 0 1 == 0x71

/-- Block-tridiagonal job. -/
def gusBlocked (d : Bytes) : Bool := fieldLE d 2 1 == 1

/-- Order of the system that is factored: N, or N + M for a QP. -/
def gusOrder (d : Bytes) : Nat := if gusQp d then gusN d + gusM d else gusN d

/-- Warm-start read or result write. -/
def gusVectorCost (d : Bytes) : Nat := ceilDiv (gusN d + 2 * gusM d) 16 + 200

/-- One micro-op. -/
def microCost (op : Bytes) : Nat :=
  let n := fieldLE op 4 2 * fieldLE op 6 2
  if (fieldLE op 1 1).testBit 0 then ceilDiv n 16 + 200 else ceilDiv n 64 + 24

/-- Micro-op `i` of a program. -/
def microAt (prog : Bytes) (i : Nat) : Bytes := (prog.drop (32 * i)).take 32

/-- Factorisation. -/
def gusFactorCost (d : Bytes) : Nat :=
  let n := gusOrder d
  let s := fieldLE d 8 1
  let b := fieldLE d 9 1
  if gusBlocked d then s * (ceilDiv (b ^ 3) 150 + 64 * b + 300)
  else if fieldLE d 1 1 = 2 then ceilDiv (n ^ 3) 300 + 96 * n + 200
  else ceilDiv (n ^ 3) 600 + 48 * n + 200

/-- One solve. -/
def gusSolveCost (d : Bytes) : Nat :=
  let n := gusOrder d
  let s := fieldLE d 8 1
  let b := fieldLE d 9 1
  if gusBlocked d then s * (ceilDiv (b ^ 2) 48 + 16 * b + 100) else ceilDiv (n ^ 2) 128 + 16 * n + 100

/-- One refinement step. -/
def gusRefineCost (d : Bytes) : Nat :=
  let n := gusN d
  let s := fieldLE d 8 1
  let b := fieldLE d 9 1
  (if gusBlocked d then s * (ceilDiv (3 * b ^ 2) 64 + 100) else ceilDiv (n ^ 2) 64 + 100) + gusSolveCost d + ceilDiv n 64 + 20

/-- One QP iteration. -/
def gusIterCost (d : Bytes) : Nat :=
  let n := gusN d
  let m := gusM d
  gusSolveCost d + ceilDiv (n ^ 2 + 2 * m * n) 128 + ceilDiv (n + 3 * m) 16 + 60

/-- The phases up to the end of factorisation. -/
def gusFactorEnd (d prog : Bytes) : Nat :=
  let ops := fieldLE d 0x10 4
  ceilDiv ops 2 + 200 + (if fieldLE d 0x50 8 = 0 then 0 else gusVectorCost d) +
    (List.range (prog.length / 32)).foldl (fun a i => a + microCost (microAt prog i)) 0 +
    (if gusQp d then ceilDiv (gusOrder d ^ 2) 64 + 200 else 0) + gusFactorCost d

/-- Full cost. -/
def gusFullCost (d prog : Bytes) : Nat :=
  gusFactorEnd d prog +
    (if gusQp d then fieldLE d 0x0E 2 * gusIterCost d else gusSolveCost d + fieldLE d 0x0A 1 * gusRefineCost d) +
    gusVectorCost d

/-- Minimum cost. -/
def gusMinCost (d prog : Bytes) : Nat :=
  gusFactorEnd d prog + (if gusQp d then fieldLE d 0x0D 1 * gusIterCost d else gusSolveCost d) + gusVectorCost d

/-- Iterations or refinement steps that the full cost counts. -/
def gusCap (d : Bytes) : Nat := if gusQp d then fieldLE d 0x0E 2 else fieldLE d 0x0A 1

end Sys2Proof.Machine
end

