-- ==== Sys2Proof/Machine/Release.lean ====
section
/-! DEFINITION. What the engines give up when a request of theirs is stopped (R222, R228, R230, R231): held and parked
banks, transfers, places in an engine. -/

namespace Sys2Proof.Machine

/-- A request in flight. -/
def State.req (s : State) (r : Nat) : Option Request := s.que.reqs.find r

/-- Replace a request in flight. -/
def State.putReq (s : State) (r : Nat) (q : Request) : State :=
  { s with que := { s.que with reqs := s.que.reqs.put r q } }

/-! ## Gauntlets -/

/-- A Gauntlet with nothing on it. -/
def Gnt.idle : Gnt :=
  { tile := none, bank := none, owner := none, parked := none, parkedBank := none, phase := 0, asker := (0, 0) }

/-- Gauntlet `g`. -/
def State.gntOf (s : State) (g : Nat) : Gnt := SMap.get (fun _ => Gnt.idle) s.gnt g

/-- Replace Gauntlet `g`. -/
def State.setGnt (s : State) (g : Nat) (x : Gnt) : State :=
  { s with gnt := SMap.set (fun _ => Gnt.idle) s.gnt g x }

/-- Set the held bank of a Gauntlet and HOLD_VALID. -/
def State.setBank (s : State) (g : Nat) (b : Option Bank) : State :=
  (s.setGnt g { s.gntOf g with bank := b }).setFld (Reg.GNT_STATE g) 16 1 (b2n b.isSome)

/-- GNT_STATE.STATE: 0 idle, 1 awaiting dispatch, 2 running (R60). -/
def State.showGnt (s : State) (g : Nat) : State :=
  let x := s.gntOf g
  s.setFld (Reg.GNT_STATE g) 0 2 (if x.tile.isSome then 2 else if x.owner.isSome then 1 else 0)

/-- The transfers that part `p` of request `r` still waits for are forgotten; blocks already fetching keep fetching
(R231). -/
def State.dropWaits (s : State) (r p : Nat) : State :=
  { s with umr := { s.umr with waits := s.umr.waits.filter (fun w => !(w.req == r && w.part == p)) } }

/-- Transfers of a stage or copy end: its pages are no longer held. -/
def State.unholdStage (s : State) (j : StageJob) : State :=
  let s1 := s.hold j.addr j.bytes false
  if j.dir = 2 then s1.hold j.dst j.bytes false else s1

/-- R132: a chunk that fails leaves its slot's committed state as it was. -/
def State.dropChunk (s : State) (r p : Nat) : State :=
  each s.slots.entries (fun t e =>
    if e.2.chunk = some (r, p) then { t with slots := t.slots.put e.1 { e.2 with chunk := none, stag := 0, steps := 0 } }
    else if e.2.target = some (r, p) then { t with slots := t.slots.put e.1 { e.2 with target := none } }
    else t) s

/-- Part `p` of request `r` leaves its Gauntlet; a part that fails or is stopped loses the bank it holds and its parked
bank (R222, R231), but for a refusal, which leaves any held bank as it is (`keepBank`, R53). A pre-emption that waited for its
tile is over. -/
def State.releasePart (s : State) (r p : Nat) (x : Part) (discard keepBank : Bool) : State :=
  let s1 := (each x.stages (fun t j => t.unholdStage j) s).dropWaits r p
  let s2 := if discard then s1.dropChunk r p else s1
  match x.unit with
  | none => s2
  | some g =>
    let y := s2.gntOf g
    let y1 := if y.owner = some (r, p) then { y with owner := none, phase := if y.phase = 1 then 0 else y.phase } else y
    let y2 := if y1.parked = some (r, p) then
        { y1 with parked := none, parkedBank := none, phase := if 2 ≤ y1.phase then 0 else y1.phase } else y1
    let mine := match y2.bank with | some b => b.req == r && b.part == p | none => false
    let s3 := s2.setGnt g y2
    let s4 := if discard && mine && !keepBank then s3.setBank g none else s3
    s4.showGnt g

/-! ## Other engines -/

/-- A UMR command in progress. -/
def State.umrJob (s : State) (r : Nat) : Option UmrJob := s.umr.jobs.find r

/-- Enter or replace a UMR command in progress; COMMANDS counts them (R192). -/
def State.setUmrJob (s : State) (r : Nat) (j : Option UmrJob) : State :=
  let js := match j with | some x => s.umr.jobs.put r x | none => s.umr.jobs.drop r
  let s1 := { s with umr := { s.umr with jobs := js } }
  s1.setFld Reg.UMR_STATE 16 16 js.length

/-- A UMR command stopped by a teardown: pages not yet freed or copied are mapped as before (DESIGN CHOICE, log entry
32). -/
def State.releaseUmr (s : State) (r : Nat) : State :=
  match s.umrJob r with
  | none => s
  | some j =>
    let s1 := if j.op = 2 ∨ j.op = 3 then each j.pages (fun t n => match t.page n with
        | some p => (t.giveFrame p.dest).setPage n { p with st := 1, dest := 0, copied := 0 }
        | none => t) s
      else s
    s1.setUmrJob r none

/-- The waits of a request of another engine are forgotten. -/
def State.dropReqWaits (s : State) (r : Nat) : State :=
  { s with umr := { s.umr with waits := s.umr.waits.filter (fun w => !(w.req == r)) } }

/-- The Palm whose attention unit runs a request. -/
def State.attPalm (s : State) (r : Nat) : Option Nat :=
  (s.att.entries.find? (fun e => e.2.req == r)).map (·.1)

/-- An attention unit's call fails: what it appends is unspecified (R78), the pages reserved for it return, and ATT_STATE reads
idle. -/
def State.dropAtt (s : State) (p : Nat) : State :=
  match s.att.find p with
  | none => s
  | some x =>
    let s0 := match s.req x.req with | some q => s.havocAppends q.ctx x | none => s
    let s1 := (x.seqs.zip x.pages).foldl (fun (t : State) e => t.givePages (e.1 % 4) e.2) s0
    ({ s1 with att := s1.att.drop p }).setRegN (Reg.ATT_STATE p) 0

/-- Whether the engine that runs request `r` stops only at a boundary of its own: the end of an attention work item that runs on
some Gauntlet (R71). -/
def State.mustFinish (s : State) (r : Nat) (_q : Request) : Bool :=
  s.att.entries.any (fun e => e.2.req == r && e.2.items != 0 && (e.2.gnts != [] || e.2.draining != 0))

/-- A call or a KV command leaves the KV managers' queue. -/
def State.attUnqueue (s : State) (r : Nat) : State :=
  { s with attWait := s.attWait.filter (fun x => !(x == r)) }

/-- What a stopped attention request gives up. -/
def State.releaseAtt (s : State) (r : Nat) : State :=
  let s1 := s.attUnqueue r
  match s1.attPalm r with
  | none => s1
  | some p => s1.dropAtt p

/-- What a stopped crop-and-resize call gives up. -/
def State.releaseCrop (s : State) (r : Nat) : State :=
  match s.crop with
  | none => s
  | some x => if x.req = r then ({ s with crop := none }).setRegN Reg.VIS_CR_STATE 0 else s

/-- Palms that a launch occupies. -/
def Launch.palms (l : Launch) : List Nat := (List.range 4).filter (fun p => l.groups.any (fun m => m / 16 == p))

/-- R162: the scratch region of a failed launch is unspecified on every Palm it occupied. -/
def State.havocScratch (s : State) (l : Launch) : State :=
  each l.palms (fun t p =>
    let bs := tab l.scrBytes (fun i => Config.freeByte (t.fresh + i))
    { t with scr := Memory.write t.scr (p * 0x4000000 + l.scrOff) bs, fresh := t.fresh + l.scrBytes }) s

/-- A launch is over (R148, R162): its Fingers, queues and transfers are gone and its Mittens are free. FNG_CNT_BUSY grows by
the cycles it ran and MTN_CNT_BANK_CONFLICT by the accesses that bank conflicts delayed, free values (log entry 40). -/
def State.freeLaunch (s : State) (r : Nat) (l : Launch) : State :=
  let s1 := each s.fingers.entries (fun t e =>
    if e.2.launch = r then each e.2.tickets (fun u y => match y with
      | some z => u.hold z.addr z.bytes false
      | none => u) t
    else t) s
  let s2 := { s1 with
    fingers := s1.fingers.filter (fun e => match e.2 with | some x => !(x.launch == r) | none => true),
    mqueues := s1.mqueues.filter (fun e => !(l.groups.contains (e.1 / 16))),
    launches := s1.launches.drop r }
  let s3 := each l.groups (fun t m =>
    (t.setRegN (Reg.MTN_STATE m) (l.ctx * 256)).setFld (Reg.FNG_STATE (m / 16)) (m % 16) 1 0) s2
  if l.started then
    each l.groups (fun t m => (t.add (Reg.MTN_CNT_BANK_CONFLICT m) (Config.freeWord t.fresh).toNat).freshN 1)
      (each l.palms (fun t p => (t.add (Reg.FNG_CNT_BUSY p) (Config.freeWord t.fresh).toNat).freshN 1) s3)
  else s3

/-- What a stopped launch gives up (R161, R162). -/
def State.releaseLaunch (s : State) (r : Nat) : State :=
  match s.launches.find r with
  | none => s
  | some l => (s.freeLaunch r l).havocScratch l

/-- The counters of a job that ends without a result (R329): its cycles are a free value, and so are the pivots replaced and the
steps completed by a job whose system stands (R331). -/
def State.gusSpent (s : State) (u : Nat) : State :=
  match s.gus.jobs.find u with
  | none => s
  | some j =>
    let v (i n : Nat) : Nat := (Config.freeWord (s.fresh + i)).toNat % (n + 1)
    let s1 := (s.add (Reg.GUS_CNT_BUSY u) (v 0 (gusFullCost j.desc j.prog + 256))).freshN 3
    if j.prog.length ≠ 32 * j.next then s1
    else
      let s2 := (s1.add (Reg.GUS_CNT_ITER u) (v 1 (gusCap j.desc))).add (Reg.GUS_CNT_PIVOT_REG u) (v 2 (gusOrder j.desc))
      if v 2 (gusOrder j.desc) = 0 then s2 else s2.orReg (Reg.GUS_FLAGS u) 1

/-- A unit's job is gone: the unit is idle (R331). -/
def State.gusIdle (s : State) (u : Nat) : State :=
  ({ s with gus := { s.gus with jobs := s.gus.jobs.drop u }, gusNotes := s.gusNotes.drop u }).setRegN (Reg.GUS_STATE u) 0

/-- What a stopped Gusset job gives up (R329): the unit is idle. -/
def State.releaseGus (s : State) (q : Request) : State :=
  each q.units (fun t u => (t.gusSpent (u - 0x88)).gusIdle (u - 0x88)) s

/-- Marks that edge checks made during a request stay on the edges that the roadmap had before it (R355). -/
def Roadmap.remark (old new : Roadmap) : Roadmap :=
  { old with edges := old.edges.map (fun e =>
      match new.edges.find? (fun x => x.a == e.a && x.b == e.b) with
      | some x => { e with epoch := x.epoch, blocked := x.blocked }
      | none => e) }

/-- The request after `r` in the planner's order that takes the next quantum: real-time first, in turn within a class
(R333). -/
def State.nextTurn (s : State) (r : Nat) : Option Nat :=
  let before := s.pcu.order.takeWhile (fun x => !(x == r))
  let ring := (s.pcu.order.drop (before.length + 1) ++ before ++ s.pcu.order.filter (fun x => x == r))
  let rt (x : Nat) : Bool := match s.pcu.held.find x with | some p => s.ctxRt p.ctx | none => false
  match ring.find? rt with
  | some x => some x
  | none => ring.head?

/-- PCU_STATE shows the PLANs held, the map engine and the context in its quantum. -/
def State.showPcu (s : State) : State :=
  let c := match s.pcu.turn with
    | none => 0
    | some r => match s.pcu.held.find r with
      | some p => p.ctx
      | none => 0
  s.setRegN Reg.PCU_STATE (s.pcu.order.length + b2n s.pcu.update.isSome * 8 + c * 256)

/-- R340: epochs that are neither the newest nor held by a PLAN are freed; PCU_MAP_EPOCH and PCU_MAP_USE follow. Nodes
shared by live epochs count once (DESIGN CHOICE, log entry 64). -/
def State.trimEpochs (s : State) : State :=
  let live : List (Nat × PEpoch) := s.pcu.epochs.entries.filter (fun e => e.1 == s.pcu.newest || s.pcu.held.entries.any (fun h => h.2.snap == e.1))
  let s1 := { s with pcu := { s.pcu with epochs := live.map (fun (e : Nat × PEpoch) => (e.1, some e.2)) } }
  match s1.pcu.epochs.find s.pcu.newest with
  | none => s1
  | some n =>
    let used := ((live.filter (fun (e : Nat × PEpoch) => e.2.base == n.base)).flatMap (fun e => e.2.made)).eraseDups.length
    let oldest := live.foldl (fun m e => Nat.min m e.1) n.num
    (s1.setRegN Reg.PCU_MAP_EPOCH (n.num % 2 ^ 32 + (oldest % 2 ^ 32) * 2 ^ 32)).setRegN Reg.PCU_MAP_USE
      (n.leaves.length + (n.mib * 16384 - used) * 2 ^ 24)

/-- A held or waiting PLAN leaves the growth engine. -/
def State.dropPlan (s : State) (r : Nat) : State :=
  let turn := if s.pcu.turn = some r then (match s.nextTurn r with | some x => if x = r then none else some x | none => none)
    else s.pcu.turn
  let s1 := { s with pcu := { s.pcu with
    waiting := s.pcu.waiting.filter (fun x => !(x == r)), held := s.pcu.held.drop r,
    order := s.pcu.order.filter (fun x => !(x == r)), turn := turn } }
  (s1.trimEpochs).showPcu

/-- What a stopped PLAN, MODEL_LOAD or MAP_UPDATE gives up (R355, R356). -/
def State.releasePcu (s : State) (r : Nat) : State :=
  let s1 := match s.pcu.held.find r with
    | none => s
    | some p =>
      let w := fieldLE p.desc 0x50 8
      match s.pcu.maps.find w with
      | some old => if fieldLE p.desc 1 1 = 1 then { s with pcu := { s.pcu with maps := s.pcu.maps.put w (old.remark p.map) } } else s
      | none => s
  let s2 := match s1.pcu.update with
    | some u => if u.1 = r then { s1 with pcu := { s1.pcu with update := none } } else s1
    | none => s1
  s2.dropPlan r

/-- What an engine that stops at once gives up; its output ranges become unspecified (R204). -/
def State.releaseReq (s : State) (r : Nat) (q : Request) : State :=
  let s1 := (s.dropReqWaits r).havocNamed q
  if q.kind = 6 then s1.releaseUmr r else if q.kind = 2 then s1.releaseAtt r else if q.kind = 3 then s1.attUnqueue r
  else if q.kind = 4 then s1.releaseCrop r else if q.kind = 5 then s1.releaseLaunch r
  else if q.kind = 0x10 then s1.releaseGus q
  else if q.kind = 0x11 then s1.releasePcu r
  else if q.kind = 0x13 ∧ q.units = [0x93] then s1.setFld Reg.ATU_STATE 16 1 0 else s1

/-- R228, R130: parked banks of the context and buffer copies of its slots are discarded. -/
def State.discardContext (s : State) (c : Nat) : State :=
  let s1 := { s with slots := s.slots.filter (fun e => match e.2 with | some x => !(x.ctx == c) | none => true) }
  each s1.gnt (fun t e => match e.2.parkedBank with
    | some b => if b.ctx = c then t.setGnt e.1 { t.gntOf e.1 with parkedBank := none } else t
    | none => t) s1

end Sys2Proof.Machine
end

