-- ==== Sys2Proof/Machine/Requests.lean ====
section
/-! DEFINITION. The life of a request in the scheduler: completion records (R203 to R206), signals and abandonment
(R209, R210), events, the in-flight counts (R211), cancels (R230) and teardown (R228). -/

namespace Sys2Proof.Machine

/-- R204: whether a request that ends with this status applies its signals; `result` says that an outcome comes with a
result that its engine defines. -/
def statusSignals (st : Nat) (result : Bool) : Bool :=
  st == 0 || st == 0x13 || st == 0x14 || st == 0x16 ||
  ((st == 2 || st == 3 || (decide (0x0E ≤ st) && decide (st ≤ 0x12)) || st == 0x15) && result)

/-- R204: success and informational statuses, which set a part's PART_OK bit. -/
def statusOk (st : Nat) : Bool := st == 0 || st == 0x13 || st == 0x14 || st == 0x16

/-- R205: OK becomes PREEMPTED after a pre-emption. -/
def finalStatus (st preempts : Nat) : Nat := if st = 0 ∧ 0 < preempts then 0x16 else st

/-- PHASE of the record at an index (R203). -/
def recordPhase (index log2 : Nat) : Nat := ((index >>> log2) + 1) % 2

/-- The 32 bytes of a completion record (R203). -/
def recordBytes (st kind parts flags partOk user run slow preempts energy detail palms : Nat) : Bytes :=
  natLE 1 st ++ natLE 1 kind ++ natLE 1 parts ++ natLE 1 flags ++ natLE 4 partOk ++ natLE 8 user ++ natLE 4 run ++
  natLE 2 slow ++ natLE 2 preempts ++ natLE 4 energy ++ natLE 2 detail ++ natLE 1 palms ++ natLE 1 0

/-- RUN_NS of a request that ends now (R203). -/
def State.runNs (s : State) (q : Request) : Nat :=
  if q.started then clampNat 0 (2 ^ 32 - 1) ((s.now + 2 ^ 64 - q.startNs) % 2 ^ 64) else 0

/-- SLOWDOWN (R203). -/
def slowdown (run solo : Nat) : Nat := if solo = 0 then 0 else clampNat 0 0xFFFF (run * 256 / solo)

/-- The address of the completion record of a descriptor (R194). -/
def State.recordAddr (s : State) (ring index : Nat) : Nat :=
  s.regN (Reg.QUE_RING_CPL ring) + (index % 2 ^ s.fld (Reg.QUE_RING_CFG ring) 0 5) * 32

/-- R203: the record of request `q` ending with a status. ENERGY_UJ is a free value within the accuracy of R460. -/
def State.recordFor (s : State) (q : Request) (st detail partOk : Nat) : Bytes :=
  let run := s.runNs q
  let flags := recordPhase q.index (s.fld (Reg.QUE_RING_CFG q.ring) 0 5) + b2n q.regulated * 2 + b2n q.migrate * 4 +
    b2n q.fallback * 8
  let energy := if q.started then (Config.freeWord s.fresh).toNat % 2 ^ 32 else 0
  recordBytes (finalStatus st q.preempts) q.kind (Nat.max 1 q.nParts) flags partOk q.user run
    (slowdown run q.soloEst) (clampNat 0 0xFFFF q.preempts) energy detail q.palms

/-- R203: NOTIFY places [31:0] index, [45:32] ring, [63] VALID in the context's event queue; a full queue drops the
entry (DESIGN CHOICE, log entry 20). -/
def State.pushEvent (s : State) (c ring index : Nat) : State :=
  let q := SMap.get (fun _ => []) s.que.events c
  if q.length < 64 then
    let s1 := { s with que := { s.que with
      events := SMap.set (fun _ => []) s.que.events c (q ++ [index + ring * 2 ^ 32 + 2 ^ 63]) } }
    s1.setFld (Reg.QUE_CTX_STATE c) 48 16 (q.length + 1)
  else s

/-- Requests of a context in flight (R211). -/
def State.inflightOf (s : State) (c : Nat) : Nat :=
  (s.que.reqs.entries.filter (fun e => e.2.ctx == c)).length

/-- R211: QUE_STATE.INFLIGHT and the context's INFLIGHT show the requests in flight; a context with none is IDLE and one
with some is ACTIVE (PRESUMED, log entry 21), unless it is tearing down or faulted. -/
def State.countInflight (s : State) (c : Nat) : State :=
  let n := s.inflightOf c
  let s1 := (s.setFld Reg.QUE_STATE 0 13 s.que.reqs.entries.length).setFld (Reg.QUE_CTX_STATE c) 16 13 n
  if s1.fld (Reg.QUE_CTX_STATE c) 0 2 < 2 then s1.setFld (Reg.QUE_CTX_STATE c) 0 2 (if n = 0 then 0 else 1) else s1

/-- R209, R210: apply a request's signals together, or mark their objects ABANDONED. -/
def State.applySignals (s : State) (q : Request) (st : Nat) (result : Bool) : State :=
  if statusSignals (finalStatus st q.preempts) result then each q.sigs (fun t e => t.signal e q.units) s
  else each q.sigs (fun t e => t.abandon e.id) s

/-- R169: the STREAM blocks that a request fetched are dropped when it ends; dirty ones are written back first (R178), and
an upper frame left empty is freed (DEDUCED, log entry 27). What was fetched or is being fetched for a cancelled request stays
resident (R231). -/
def State.dropStreams (s : State) (r st : Nat) : State :=
  let mine := s.umr.streams.filter (fun e => e.1 == r && st != 7)
  let s1 := { s with umr := { s.umr with
    streams := s.umr.streams.filter (fun e => !(e.1 == r)),
    fetches := if st = 7 then s.umr.fetches.map (fun f => if f.req = some r then { f with req := none } else f)
      else s.umr.fetches } }
  each mine (fun t e => match t.page e.2.1 with
    | none => t
    | some p =>
      if !p.resident.testBit e.2.2 then t
      else if p.dirty.testBit e.2.2 then t.startWb e.2.1 e.2.2 .drop none
      else
        let q := { p with resident := p.resident - 2 ^ e.2.2 }
        if q.resident = 0 ∧ q.inflight = 0 then t.dropUpper e.2.1 q else t.setPage e.2.1 q) s1

/-- R215: an access of partition `p` has waited on regulators since TB0 ns `t`. -/
def State.stalled (s : State) (p t : Nat) : State := s.add (Reg.QUE_PART_STALL_NS p) ((s.now + 2 ^ 64 - t) % 2 ^ 64)

/-- R203, R515: the record of a request is written through the Crown's translation cache. An array that its context may not
write is a fault of the context (R168): no record is written, and the context is torn down. -/
def State.writeRecord (s : State) (q : Request) (bs : Bytes) : State :=
  let a := s.recordAddr q.ring q.index
  match s.accessFault q.ctx a bs.length true with
  | none => (each (pagesOf a bs.length) (fun t pg => t.translate 5 pg) s).devWrite a bs (s.ctxRt q.ctx)
  | some (cause, fa) =>
    let s1 := s.noteFault q.ctx cause fa
    { s1 with que := { s1.que with doomed := s1.que.doomed ++ [q.ctx] } }

/-- The record of a request cannot be written. -/
def State.recordLost (s : State) (q : Request) : Bool := (s.accessFault q.ctx (s.recordAddr q.ring q.index) 32 true).isSome

/-- R212: a record has been written: acceptance resumes where a limit is no longer reached. -/
def State.resume (s : State) : State :=
  let n := s.que.reqs.entries.length
  let be := s.que.stalledBe && decide (4096 - s.fld Reg.QUE_RT_RESERVE 0 13 ≤ n)
  let all := s.que.stalledAll && decide (4096 ≤ n)
  let cs := s.que.stalledCtx.filter (fun c => decide (s.fld (Reg.QUE_CTX_CFG c) 16 13 ≤ s.inflightOf c))
  ({ s with que := { s.que with stalledBe := be, stalledAll := all, stalledCtx := cs } }).setFld Reg.QUE_STATE 16 2
    (b2n be + b2n all * 2)

/-- A request that has ended is in flight no more and waits for nothing. -/
def State.dropReq (s : State) (r : Nat) : State :=
  (({ s with que := { s.que with reqs := s.que.reqs.drop r } }).dropReqWaits r).attUnqueue r

/-- R203: the record of a request is written, then its counters, its event and its signals follow. -/
def State.finishReq (s : State) (r : Nat) (q : Request) (st detail partOk : Nat) (result : Bool) : State :=
  let p := s.ctxPart q.ctx
  let s2 := ((s.writeRecord q (s.recordFor q st detail partOk)).freshN 1).dropReq r
  let s3 := ((each q.stalls (fun t e => t.stalled p e.2) s2).resume).countInflight q.ctx
  let s4 := if q.soloEst = 0 then s3
    else (s3.add (Reg.QUE_PART_RUN_NS p) (s.runNs q)).add (Reg.QUE_PART_SOLO_NS p) q.soloEst
  let s5 := if st = 7 then s4.bump Reg.QUE_CNT_CANCELLED else s4
  let s6 := if q.flags.testBit 1 then s5.pushEvent q.ctx q.ring q.index else s5
  let s7 := (s6.dropStreams r st).applySignals q (if s.recordLost q then 8 else st) result
  s7.bump Reg.QUE_CNT_COMPLETE

/-! ## Parts of a GAUNTLET request (R206) -/

/-- Replace part `p`. -/
def Request.setPart (q : Request) (p : Nat) (x : Part) : Request := { q with parts := q.parts.set p x }

/-- Every part has ended. -/
def Request.allEnded (q : Request) : Bool := q.parts.all (fun x => x.status.isSome)

/-- PART_OK of the parts (R203). -/
def Request.partOk (q : Request) : Nat :=
  (List.range q.parts.length).foldl (fun acc i => match q.parts[i]? with
    | some x => if statusOk (x.status.getD 1) then acc + 2 ^ i else acc
    | none => acc) 0

/-- R206: status and DETAIL of a request whose parts have all ended. `ending` is what a cancel, a teardown or a slot end
gave it. -/
def Request.partsStatus (q : Request) : Nat × Nat :=
  let sts := q.parts.map (fun x => x.status.getD 0)
  let failed := firstIdx sts.length (fun i => !statusOk (nth 0 sts i))
  let low := failed.getD 0
  let lowSt := nth 0 sts low
  if sts.contains 0x0B then (0x0B, 0)
  else if sts.contains 8 then (8, lowSt + low * 256)
  else match q.ending with
    | some e => (e, 0)
    | none =>
      if failed.isNone then (0, 0)
      else if sts.any statusOk then (1, lowSt + low * 256)
      else (lowSt, match q.parts[low]? with | some x => x.detail | none => 0)

/-- A GAUNTLET request whose parts have all ended is finished by R206; the outputs of a cancelled one are unspecified in full
(R204, R231). -/
def State.finishParts (s : State) (r : Nat) : State :=
  match s.req r with
  | none => s
  | some q =>
    if q.allEnded then
      let (st, d) := q.partsStatus
      (if st = 7 then s.havocNamed q else s).finishReq r q st d q.partOk false
    else s

/-- A request that has not been dispatched ends with a status; one that is cancelled leaves its output regions unspecified
(R204, R231). -/
def State.dropWaiting (s : State) (r : Nat) (q : Request) (st : Nat) : State :=
  (if st = 7 then s.havocNamed q else s).finishReq r q st 0 0 false

/-- Parts of a request that have no tile and no transfer running end now with a status; the others end at their next
tile boundary (R219, R228, R230). -/
def State.stopParts (s : State) (r st : Nat) (skip : Option Nat) : State :=
  match s.req r with
  | none => s
  | some q =>
    let s1 := s.putReq r { q with ending := some (q.ending.getD st) }
    iter q.parts.length (fun t i =>
      match t.req r with
      | none => t
      | some q1 => match q1.parts[i]? with
        | none => t
        | some x =>
          if x.status.isSome ∨ skip = some i ∨ x.tile then t
          else
            let t1 := (t.havocPart q1 x none).releasePart r i x true false
            t1.putReq r (q1.setPart i { x with status := some st, stages := [], tile := false })) s1

/-- A request that is still running ends with a status: at once where its engine stops at once, at its next boundary
otherwise. -/
def State.stopRunning (s : State) (r st : Nat) : State :=
  match s.req r with
  | none => s
  | some q =>
    if q.kind = 1 ∨ q.kind = 7 then (s.stopParts r st none).finishParts r
    else if s.mustFinish r q then s.putReq r { q with ending := some (q.ending.getD st) }
    else (s.releaseReq r q).finishReq r q st 0 0 false

/-- R228: the scheduler tears down a context; `keep` is the request whose fault caused it, which ends by its own
status. Parked banks and slot copies of the context are discarded. -/
def State.teardown (s : State) (c st : Nat) (keep : Option Nat) : State :=
  if 2 ≤ s.fld (Reg.QUE_CTX_STATE c) 0 2 then s
  else
    let s1 := (s.setFld (Reg.QUE_CTX_STATE c) 0 2 2).bump Reg.QUE_CNT_TEARDOWN
    let s2 := s1.record 2 10 st 0x61 (some c) 0xFFFF 0
    let s3 := s2.discardContext c
    each (s3.que.reqs.entries.filter (fun e => e.2.ctx == c && !(keep == some e.1))) (fun t e =>
      match t.req e.1 with
      | none => t
      | some q => match q.phase with
        | .waiting => t.dropWaiting e.1 q 7
        | .running => t.stopRunning e.1 7) s3

/-- R230: whether a cancel still covers a descriptor of its context that has not been accepted. -/
def State.cancelOpen (s : State) (k : Cancel) : Bool :=
  k.tails.any (fun e => decide (0 < signed 32 (e.2 + 2 ^ 32 - s.fld (Reg.QUE_RING_PTR e.1) 0 32)))

/-- The next request that must end because of another's end: a waiting request with FAIL_ON_ABANDON whose object is
abandoned below its wait value (R210), or a cancel all of whose covered requests have ended (R230). -/
def State.nextEnding (s : State) : Option (Nat × Request × Nat) :=
  s.que.reqs.entries.findSome? (fun e =>
    let q := e.2
    match q.phase with
    | .waiting =>
      if q.flags.testBit 2 ∧ q.waits.any (fun w => s.bit (Reg.SYN_CFG w.id) 10 && decide (s.regN (Reg.SYN_VALUE w.id) < w.value))
      then some (e.1, q, 7) else none
    | .running =>
      if q.kind = 8 ∧ q.schedOp = 0x0C ∧ q.covers.all (fun c => (s.req c).isNone) ∧
          s.que.cancels.all (fun k => !(k.req == e.1) || !s.cancelOpen k)
      then some (e.1, q, 0) else none)

/-- End every request that others' ends release, one after another. -/
def State.settle : Nat → State → State
  | 0, s => s
  | n + 1, s => match s.nextEnding with
    | none => s
    | some (r, q, st) =>
      let s1 := { s with que := { s.que with cancels := s.que.cancels.filter (fun k => !(k.req == r)) } }
      State.settle n ((if st = 7 then s1.havocNamed q else s1).finishReq r q st 0 (if st = 0 then 1 else 0) false)

/-- Settle with as many rounds as there are requests; contexts whose records could not be written are torn down (R168). -/
def State.settled (s : State) : State :=
  let s1 := State.settle (s.que.reqs.length + 1) s
  if s1.que.doomed = [] then s1
  else
    let s2 := each s1.que.doomed (fun t c => t.teardown c 8 none) s1
    let s3 := State.settle (s2.que.reqs.length + 1) s2
    { s3 with que := { s3.que with doomed := [] } }

/-- A request of an engine other than the Gauntlets ends with a status; CONTEXT_FAULT and STATE_LOST tear its context
down. -/
def State.endReq (s : State) (r : Nat) (st detail : Nat) (result : Bool) : State :=
  match s.req r with
  | none => s
  | some q =>
    let s1 := s.finishReq r q st (if st = 8 then 8 else detail) (if statusOk st then 1 else 0) result
    let s2 := if st = 8 ∨ st = 0x0B then s1.teardown q.ctx st none else s1
    s2.settled

/-- An engine's boundary: a request marked to end ends with that status instead of the engine's own. -/
def State.endOr (s : State) (r : Nat) (st detail : Nat) (result : Bool) : State :=
  match s.req r with
  | none => s
  | some q => match q.ending with
    | some e => s.endReq r e 0 false
    | none => s.endReq r st detail result

/-- R53, R206: part `p` of a GAUNTLET (or COPY) request ends with a status and DETAIL; every region that a failing part names
becomes unspecified (R204), but for the Gauntlet command at `keep` that was refused, which writes nothing and leaves the held
bank as it is (R53). A status that tears the context down stops the request's other parts too. -/
def State.endPart (s : State) (r p st detail : Nat) (keep : Option Nat := none) : State :=
  match s.req r with
  | none => s
  | some q => match q.parts[p]? with
    | none => s
    | some x =>
      let bad := !statusOk st
      let s0 := if bad then s.havocPart q x keep else s
      let s1 := (s0.releasePart r p x bad keep.isSome).putReq r
        (q.setPart p { x with status := some st, detail := detail, stages := [], tile := false })
      let s2 := if st = 8 ∨ st = 0x0B then (s1.stopParts r 7 (some p)).teardown q.ctx st (some r) else s1
      (s2.finishParts r).settled

end Sys2Proof.Machine
end

