-- ==== Sys2Proof/Machine/Sched.lean ====
section
/-! DEFINITION. Placement, bandwidth regulators, cadence claims and the order of commands in a part (R201, R214 to R222,
R516, R517): what the dispatching steps of every engine share. -/

namespace Sys2Proof.Machine

/-! ## Bandwidth regulators (R215 to R217) -/

/-- Guaranteed rate of resource `x`, in bytes per ns. -/
def resourceRate (x : Nat) : Nat :=
  if x < 2 then 737 else if x = 2 then 246 else if x = 3 then 14 else if x < 12 then 600 else if x < 20 then 800
  else if x < 22 then 400 else 300

/-- R215: level of a bucket now, refilled up to BURST KiB. -/
def State.bucketLevel (s : State) (p x : Nat) : Int :=
  let b := SMap.get (fun _ => ((0 : Int), 0)) s.que.buckets (26 * p + x)
  let cfg := s.regN (Reg.QUE_BKT p x)
  let gain : Nat := bits cfg 0 11 * resourceRate x * ((s.now + 2 ^ 64 - b.2) % 2 ^ 64) / 1024
  let top := bits cfg 16 10 * 1024
  if (top : Int) < b.1 + (gain : Int) then top else b.1 + (gain : Int)

/-- R215: whether an access may start on a resource. -/
def State.bucketReady (s : State) (p x : Nat) : Bool :=
  !s.bit (Reg.QUE_BKT p x) 32 || decide (0 ≤ s.bucketLevel p x)

/-- R215: an access draws its bytes from a bucket that regulates. -/
def State.draw (s : State) (p x n : Nat) : State :=
  if s.bit (Reg.QUE_BKT p x) 32 then
    { s with que := { s.que with
      buckets := SMap.set (fun _ => ((0 : Int), 0)) s.que.buckets (26 * p + x) (s.bucketLevel p x - n, s.now) } }
  else s

/-- Tier that serves one block: 0 stack A, 1 stack B, 2 LPDDR5X, 3 flash. -/
def State.tierOf (s : State) (n b : Nat) : Nat :=
  match s.page n with
  | none => 2
  | some p => if p.resident.testBit b then p.upperTier else p.blockTier b

/-- R170, R177: a write of a flash-homed page finds no upper frame. -/
def State.bypasses (s : State) (p : Page) (rt : Bool) : Bool :=
  let code := s.demandPool p
  p.upper == 0 && s.freeFrames code == 0 && (s.victim code rt).isNone

/-- R177, R215: the tier that a write of `n` bytes in one block draws on, and the bytes that it counts there: a write that finds
no upper frame counts against flash as one of 64 KiB; one that finds it goes to the upper frame. -/
def State.writeDraw (s : State) (pg b n : Nat) (rt : Bool) : Nat × Nat :=
  match s.page pg with
  | none => (2, n)
  | some p =>
    if p.resident.testBit b then (p.upperTier, n)
    else if p.blockTier b ≠ 3 then (p.blockTier b, n)
    else if p.st ≠ 1 ∨ s.bypasses p rt then (3, 0x10000 * 7 / 3)
    else ((if p.upper = 0 then s.demandPool p else p.upper) - 1, n)

/-- Ring link between a Palm and the Palm through which it reaches the other stack (R216), with the direction. -/
def ringLink (palm : Nat) (toMem : Bool) : Nat :=
  let first := if palm = 0 then false else if palm = 1 then true else if palm = 2 then true else false
  12 + 2 * (if palm = 0 ∨ palm = 2 then 3 else 1) + (if first == toMem then 0 else 1)

/-- Resources an access of `n` bytes at `a` draws on, with the bytes each counts; `loc` is the Palm it comes from, 4 for
the Visor and 5 for the Crown (DEDUCED from R215's table and the links of 01, log entry 22). -/
def State.resources (s : State) (c loc a n : Nat) (write : Bool) : List (Nat × Nat) :=
  (pieces a n).flatMap (fun pc =>
    let mem := if write then s.writeDraw (pageOf pc.1) (blockIn pc.1) pc.2 (s.ctxRt c)
      else (s.tierOf (pageOf pc.1) (blockIn pc.1), pc.2)
    let t := mem.1
    let link := if loc < 4 then
        (if t < 2 then (if loc / 2 = t then [] else [(ringLink loc write, pc.2)])
         else [(4 + 2 * loc + b2n write, pc.2)])
      else if loc = 4 then
        (if t = 0 then [(22 + b2n !write, pc.2)] else if t = 1 then [(24 + b2n !write, pc.2)]
         else [(20 + b2n write, pc.2)])
      else if t = 0 then [(4 + b2n !write, pc.2)] else if t = 1 then [(8 + b2n !write, pc.2)] else []
    mem :: link)

/-- R215: an access may start when every bucket it draws on is at or above zero. -/
def State.mayAccess (s : State) (c loc a n : Nat) (write : Bool) : Bool :=
  (s.resources c loc a n write).all (fun r => s.bucketReady (s.ctxPart c) r.1)

/-- R215: an access draws on its buckets. -/
def State.drawAll (s : State) (c loc a n : Nat) (write : Bool) : State :=
  each (s.resources c loc a n write) (fun t r => t.draw (s.ctxPart c) r.1 r.2) s

/-- R217: what OVERSUB shows: the RATE values of some resource sum to more than 1,024 or a bucket does not regulate. It is so
after reset too, where no bucket has EN (log entry 22). -/
def State.oversub (s : State) : Bool :=
  (List.range 26).any (fun x =>
    (List.range 8).any (fun p => !s.bit (Reg.QUE_BKT p x) 32) ||
    decide (1024 < (List.range 8).foldl (fun a p => a + s.fld (Reg.QUE_BKT p x) 0 11) 0))

/-! ## Cadence claims (R218 to R220) -/

/-- Active cadence table. -/
def State.cadTable (s : State) : Nat := s.fld Reg.CAD_CTRL 1 1

/-- Base of the cadence: N of the time base that CAD_CTRL selects. -/
def State.cadNow (s : State) : Nat := s.nowOf (s.fld Reg.CAD_CTRL 4 2)

/-- LEN of a cadence table in µs. -/
def State.cadLen (s : State) (t : Nat) : Nat := s.fld (if t = 0 then Reg.CAD_FRAME0 else Reg.CAD_FRAME1) 0 14

/-- LEN of the active table in ns. -/
def State.frameLen (s : State) : Nat := Nat.max 1 (s.cadLen s.cadTable * 1000)

/-- R218: where frame `k` of the active table starts, in ns of the cadence base. -/
def State.frameStart (s : State) (k : Int) : Int := s.regN Reg.CAD_EPOCH + k * s.frameLen

/-- R226, R265: ns since frame `k` started, on the base as it stood before a step in the frame in progress. -/
def State.sinceFrame (s : State) (k : Nat) : Int :=
  signed 64 (((s.cadNow : Int) - s.que.cadShift - s.frameStart k) % 2 ^ 64).toNat

/-- Ns since the frame in progress started. -/
def State.inFrame (s : State) : Int := s.sinceFrame (s.regN Reg.CAD_FRAME_CNT)

/-- Context of slot `n` of the active table. -/
def State.slotCtx (s : State) (n : Nat) : Nat := s.fld (Reg.CAD_SLOT_LO s.cadTable n) 32 8

/-- Whether slot `n` claims a unit: bits 0 to 15 Gauntlets, 16 and 17 Gusset units, 18 to 25 Crown cores. -/
def State.slotClaims (s : State) (n u : Nat) : Bool := s.bit (Reg.CAD_SLOT_HI s.cadTable n) u

/-- R219, R220: whether a request of context `c` may be dispatched on cadence unit `u` now: a real-time context only in an
open slot of its own that claims the unit, a best-effort context only outside every slot and slot lead that claims it. -/
def State.cadAllows (s : State) (c u : Nat) : Bool :=
  if s.ctxRt c then s.que.open_.any (fun n => s.slotClaims n u && s.slotCtx n == c)
  else !(s.que.open_.any (fun n => s.slotClaims n u)) && !(s.que.lead.any (fun n => s.slotClaims n u))

/-! ## Placement (R214) -/

/-- R214, R227: Palms a request may use. -/
def State.candidatePalms (s : State) (q : Request) : List Nat :=
  let aff := if q.affinity % 16 = 0 then 15 else q.affinity % 16
  let mode := if s.bit Reg.QUE_MODE 0 then s.fld (Reg.QUE_PART_CFG (s.ctxPart q.ctx)) 0 4 else 15
  (List.range 4).filter (fun p => (aff &&& mode).testBit p)

/-- R214: bytes of a range that the HBM3 stack attached to Palm `p` holds, as home or upper frame. -/
def State.bytesNear (s : State) (p a n : Nat) : Nat :=
  (pieces a n).foldl (fun acc pc =>
    match s.page (pageOf pc.1) with
    | none => acc
    | some x =>
      let stack := p / 2
      let home := x.home == 0 && x.homeStack == stack
      let up := x.upper == stack + 1 && x.resident.testBit (blockIn pc.1)
      if home || up then acc + pc.2 else acc) 0

/-- R214: the Palm among candidates that holds most of the inputs, then has the fewest parts waiting (the parts parked
there, DEDUCED, log entry 23), then the lowest index. -/
def State.choosePalm (s : State) (cands : List Nat) (inputs : List (Nat × Nat)) : Option Nat :=
  let score (p : Nat) : Nat := inputs.foldl (fun acc r => acc + s.bytesNear p r.1 r.2) 0
  let waitingAt (p : Nat) : Nat := countIdx 4 (fun g => (s.gntOf (4 * p + g)).parked.isSome)
  cands.foldl (fun best p => match best with
    | none => some p
    | some b =>
      if score b < score p ∨ (score b = score p ∧ waitingAt p < waitingAt b) then some p else some b) none

/-- A Gauntlet may take a part of context `c`: nothing is bound to it, it is not quarantined (R480), the cadence allows
it, and a best-effort part finds no parked part on it (R222). -/
def State.gntFree (s : State) (c g : Nat) : Bool :=
  let x := s.gntOf g
  x.owner.isNone && x.tile.isNone && x.phase == 0 && !s.quarantined (0x10 + g) && !(s.selfTest (0x10 + g)).running && s.gateOn (0x10 + g) && s.cadAllows c g &&
  (s.ctxRt c || x.parked.isNone)

/-- Unified-range inputs of a part: the sources of its stage commands with DIR 0 (R214). -/
def State.partInputs (s : State) : Nat → Nat → List (Nat × Nat)
  | 0, _ => []
  | n + 1, a =>
    match cmdSize 1 (s.peekN a 1) with
    | none => []
    | some sz =>
      let rest := s.partInputs n (a + sz)
      if s.peekN a 1 = 8 ∧ s.peekN (a + 1) 1 = 0 then (s.peekN (a + 8) 8, s.peekN (a + 0x18) 4) :: rest else rest

/-- Whether a part's first tile continues a held bank, so that it goes to the Gauntlet that holds its context's bank
(R214). -/
def State.startsHeld (s : State) (addr : Nat) : Bool :=
  let op := s.peekN addr 1
  (op == 0x10 || op == 0x30 || op == 0x34) && s.peekN (addr + 0x0C) 1 % 4 == 2 || (op == 0x40 && s.peekN (addr + 0x0C) 1 % 4 == 1)

/-- R214: a Gauntlet for a part whose commands start at `addr`: the candidate Palm first, among those with a free Gauntlet, then
within it the one that holds its context's bank, for a part that continues it, else the lowest that is free. -/
def State.chooseGnt (s : State) (q : Request) (addr count : Nat) : Option Nat :=
  let free (p g : Nat) : Bool := s.gntFree q.ctx (4 * p + g)
  let cands := (s.candidatePalms q).filter (fun p => (List.range 4).any (free p))
  match s.choosePalm cands (s.partInputs count addr) with
  | none => none
  | some p =>
    let holds (g : Nat) : Bool := match (s.gntOf (4 * p + g)).bank with | some b => b.ctx == q.ctx | none => false
    let g := match (if s.startsHeld addr then firstIdx 4 (fun g => free p g && holds g) else none) with
      | some g => some g
      | none => firstIdx 4 (free p)
    g.map (fun g => 4 * p + g)

/-- Present operating point of a Palm (R448). -/
def State.palmPoint (s : State) (p : Nat) : Nat := s.fld (Reg.BRM_PALM p) 0 3

/-- A request marks the Palm it runs on and whether that Palm runs at its preferred point (R203). -/
def Request.onPalm (q : Request) (s : State) (p : Nat) : Request :=
  { q with palms := q.palms ||| 2 ^ p,
           fallback := q.fallback || (!(q.oppt == 0xFF) && !(s.palmPoint p == q.oppt)) }

/-- Bind part `p` to Gauntlet `g`. -/
def State.bindPart (s : State) (r p g : Nat) : State :=
  match s.req r with
  | none => s
  | some q => match q.parts[p]? with
    | none => s
    | some x =>
      let q1 := { (q.setPart p { x with unit := some g }).onPalm s (g / 4) with
        units := if q.units.contains (0x10 + g) then q.units else q.units ++ [0x10 + g] }
      ((s.putReq r q1).setGnt g { s.gntOf g with owner := some (r, p) }).showGnt g

/-- A part of a request that has ended because a command that its KIND does not accept makes its commands unfindable
(R517): parts whose first command lies after command `i` and that have not started. -/
def State.endUnfound (s : State) (r i : Nat) : State :=
  match s.req r with
  | none => s
  | some q =>
    iter q.parts.length (fun t p => match t.req r with
      | none => t
      | some q1 => match q1.parts[p]? with
        | none => t
        | some x => if x.status.isNone ∧ i < x.first then
            t.putReq r (q1.setPart p { x with status := some 9, detail := i }) else t) s

/-- R53: a refused Gauntlet command writes none of its outputs, leaves any held bank as it is, sets its bits, records the
descriptor and ends its part with BAD_DESCRIPTOR. GNT_CNT_REJECT counts the tiles among them (R60); a command with an OPCODE
that the KIND does not accept is no tile (DESIGN CHOICE, log entry 81). -/
def State.gntRefuse (s : State) (r p g idx addr mask : Nat) : State :=
  let op := s.peekN addr 1
  let s1 := (s.endPart r p 9 idx (some addr)).reject (Reg.GNT_REJECT g) (Reg.GNT_REJECT_DESC g) mask addr
  if op = 0x10 ∨ op = 0x30 ∨ op = 0x34 ∨ op = 0x40 then s1.bump (Reg.GNT_CNT_REJECT g) else s1

/-! ## State slots at placement (R129) -/

/-- The commands that a part has still to dispatch: of a part that has not started, all of them. -/
def State.commandsLeft (s : State) (q : Request) (x : Part) : List (Nat × Nat) :=
  if x.unit.isSome then s.partCommands 1 (x.stop - x.next) x.addr
  else match s.cmdAddrOf 1 x.first 0 q.cmdAddr with
    | .inl a => s.partCommands 1 (x.stop - x.first) a
    | .inr _ => []

/-- The scan tiles among commands, as their descriptors. -/
def State.scansOf (s : State) (cs : List (Nat × Nat)) : List Bytes :=
  (cs.filter (fun e => e.2 == 0x40)).map (fun e => s.peek e.1 128)

/-- R129: chunks on one slot run in arrival order: no part that arrived before part `p` of request `r` still has a tile of
the slot to run. -/
def State.slotTurn (s : State) (r p a : Nat) : Bool :=
  s.que.reqs.entries.all (fun e => e.2.kind != 1 || decide (r < e.1) ||
    (List.range e.2.parts.length).all (fun i => (e.1 == r && decide (p ≤ i)) || (match e.2.parts[i]? with
      | none => true
      | some x => x.status.isSome || !((s.scansOf (s.commandsLeft e.2 x)).any (fun d => (scanOf d).slot == a)))))

/-- R129, R176: the restore of slot `a` into Gauntlet `g` starts for a part, whose request gets a wait on the slot's SYNC for the
value that the restore signals. Its read of the home copy starts the fetches that it needs. -/
def State.startRestore (s0 : State) (a : Nat) (y : Slot) (r p g off : Nat) : State :=
  let s := (s0.accessRead y.ctx (g / 4) a (64 + slotStateBytes (s0.peek a 64)) none).1
  let s1 := { s with slots := s.slots.put a { y with phase := 3, chunk := none, target := some (r, p), tg := g, toff := off } }
  let sync := s.peekN (a + 8) 4
  match s1.req r with
  | none => s1
  | some q =>
    if sync < 8192 then
      s1.putReq r { q with waits := q.waits ++ [⟨sync, 0, clampNat 0 (2 ^ 64 - 1) (s.regN (Reg.SYN_VALUE sync) + 1)⟩] }
    else s1

/-- A slot that is only at home. -/
def Slot.home (ctx : Nat) : Slot :=
  { g := 0, off := 0, ctx := ctx, phase := 0, chunk := none, base := 0, chunkLen := 0, stag := 0, steps := 0,
    target := none, tg := 0, toff := 0 }

/-- R129, R130: slot `a` is made usable on Gauntlet `g` for a part that starts a chunk on it; whether it is usable now. A chunk
that starts with ZERO_STATE needs no restore. -/
def State.claimSlot (s : State) (a ctx r p g off : Nat) (zero : Bool) : State × Bool :=
  if !s.slotTurn r p a then (s, false)
  else
    let y := (s.slots.find a).getD (Slot.home ctx)
    if y.phase = 0 then (if zero then (s, true) else (s.startRestore a { y with ctx := ctx } r p g off, false))
    else if y.phase = 1 ∧ y.g = g then (s, y.chunk.isNone)
    else if y.phase = 1 ∧ y.chunk = none then
      ({ s with slots := s.slots.put a { y with phase := 2, target := if zero then none else some (r, p), tg := g, toff := off } },
       false)
    else (s, false)

/-- R129: every slot on which a part starts a chunk is made usable on Gauntlet `g`; whether the part may be dispatched. -/
def State.claimSlots (s : State) (q : Request) (x : Part) (r p g : Nat) : State × Bool :=
  let starts := (s.scansOf (s.commandsLeft q x)).filter (fun d => (scanOf d).chunkIn == 0)
  starts.foldl (fun (acc : State × Bool) d =>
    let t := acc.1.claimSlot (scanOf d).slot q.ctx r p g (fieldLE d 0x34 4) (scanOf d).zero
    (t.1, acc.2 && t.2)) (s, true)

/-- The Gauntlet of a part: the one that a slot was restored to for it, once the restore has ended and unless it is
quarantined; else the one that R214 chooses. -/
def State.gntFor (s : State) (q : Request) (x : Part) (r p a : Nat) : Option Nat :=
  let mine := s.slots.entries.filter (fun e => e.2.target == some (r, p))
  if mine.any (fun e => e.2.phase != 1) then none
  else match mine.find? (fun e => !s.quarantined (0x10 + e.2.g)) with
    | some e => if s.gntFree q.ctx e.2.g then some e.2.g else none
    | none => s.chooseGnt q a (x.stop - x.first)

/-- Ensure that part `p` of a GAUNTLET request is bound to a Gauntlet: find its first command (R517), place it (R214) and make
the slots of its chunks usable there; a chunk whose slot is not there holds no engine while it waits (R129). -/
def State.placePart (s : State) (r p : Nat) : State :=
  match s.req r with
  | none => s
  | some q => match q.parts[p]? with
    | none => s
    | some x =>
      if x.unit.isSome ∨ x.status.isSome then s
      else match s.cmdAddrOf 1 x.first 0 q.cmdAddr with
        | .inr i => s.endPart r p 9 i
        | .inl a =>
          match s.gntFor q x r p a with
          | none => s
          | some g =>
            let (s1, ready) := s.claimSlots q x r p g
            if !ready || !s1.waitsMet q.waits then s1
            else (s1.putReq r (q.setPart p { x with addr := a, next := x.first })).bindPart r p g

/-- The list's block with command `i` of a part is on its way. -/
def State.listWaits (s : State) (r p i : Nat) : Bool :=
  s.umr.waits.any (fun w => w.req == r && w.part == p && w.idx == i)

/-- A part that may dispatch its next command now: request, part, Gauntlet. `besideTile` allows earlier commands of the part
to be running: a tile is dispatched only when every earlier command has completed, so that its staged inputs are resident
(R15, R120, R201). Nothing is dispatched for a request that is
being stopped, in the safe state, during a swap, or where the cadence does not allow the context on the unit. -/
def State.readyPart (s : State) (r p : Nat) (besideTile : Bool) : Option (Request × Part × Nat) :=
  match s.req r with
  | none => none
  | some q => match q.parts[p]? with
    | none => none
    | some x => match x.unit with
      | none => none
      | some g =>
        let y := s.gntOf g
        if s.listWaits r p x.next then none
        else if q.kind = 1 ∧ q.phase = .running ∧ q.ending = none ∧ x.status = none ∧ (besideTile ∨ (x.tile = false ∧ x.stages = [])) ∧ x.next < x.stop ∧
            y.owner = some (r, p) ∧ y.phase = 0 ∧ s.cadAllows q.ctx g
        then some (q, x, g) else none

/-- R168, R176, R515: a part reads its next command from the list, through the Crown's translation cache, once it could dispatch
it; a list that it cannot read ends it, and a block of it that is on its way holds it up. -/
def State.readList (s : State) (r p : Nat) : State :=
  match s.readyPart r p true with
  | none => s
  | some (q, x, _) =>
    let size := (cmdSize 1 (s.peekN x.addr 1)).getD 32
    let (s1, w) := s.accessRead q.ctx 5 x.addr size (some r)
    if w.status ≠ 0 then s1.endPart r p w.status x.next else s1.newWaits w.waits r p x.next

/-- R201, R517: dispatch of a part's next command by a step that expects OPCODE `op`. A command that the KIND does not
accept is refused by whichever step reaches it. -/
def State.nextCommand (s : State) (r p op : Nat) (besideTile : Bool) (f : State → Request → Part → Nat → State) : State :=
  let s0 := (s.placePart r p).readList r p
  match s0.readyPart r p besideTile with
  | none => s0
  | some (q, x, g) =>
    let o := s0.peekN x.addr 1
    if (cmdSize 1 o).isNone then
      (s0.endUnfound r x.next).gntRefuse r p g x.next x.addr 1
    else if o = op then f s0 q x g
    else s0

/-- The next command follows; a part whose commands have all been dispatched and completed ends with OK. -/
def State.advancePart (s : State) (r p size : Nat) : State :=
  match s.req r with
  | none => s
  | some q => match q.parts[p]? with
    | none => s
    | some x => s.putReq r (q.setPart p { x with next := x.next + 1, addr := x.addr + size })

end Sys2Proof.Machine
end

