-- ==== Sys2Proof/Machine/Tile.lean ====
section
/-! DEFINITION. What every Gauntlet tile shares: accumulators (R32 to R38),
curves (R45, R46), normalisation (R49) and the post pipeline (R43), for matrix, sliding-window and scan tiles. -/

namespace Sys2Proof.Machine

/-! ## Accumulators (R32 to R38) -/

/-- A new accumulator. -/
def Acc.zero : Acc := ⟨0, 0, 0, [], none, none⟩

/-- Add one value to the exact sum (R32, R33); NaN and infinities are carried as flags. -/
def Acc.put (a : Acc) (v : FV) : Acc :=
  match v with
  | .nan => { a with fl := a.fl ||| 1 }
  | .inf n => { a with fl := a.fl ||| (if n then 4 else 2) }
  | .fin n m e => { a with sum := a.sum + smant n m * 2 ^ (e + 320).toNat }

/-- Add the product of two values; ∞ × 0 is an invalid operation (R27). -/
def Acc.putMul (a : Acc) (x y : FV) : Acc :=
  let v := x.mul y
  let bad := v.isNan && !x.isNan && !y.isNan
  let a1 := a.put v
  if bad then { a1 with fl := a1.fl ||| 8 } else a1

/-- The value of the exact sum (R27, R28). -/
def Acc.value (a : Acc) : FV :=
  if a.fl.testBit 0 || (a.fl.testBit 1 && a.fl.testBit 2) then .nan
  else if a.fl.testBit 1 then .inf false
  else if a.fl.testBit 2 then .inf true
  else FV.ofInt a.sum (-320)

/-- INVALID_OP of the reduction: ∞ × 0, or ∞ + (−∞). -/
def Acc.invalid (a : Acc) : Bool := a.fl.testBit 3 || (a.fl.testBit 1 && a.fl.testBit 2)

/-- FP32 addition with the invalid-operation flag. -/
def f32AddF (a b : Nat) : Nat × Nat :=
  let v := (f32 a).add (f32 b)
  (toF32 v, if v.isNan && !f32Nan a && !f32Nan b then flagInvalid else 0)

/-- FP32 multiplication with the invalid-operation flag. -/
def f32MulF (a b : Nat) : Nat × Nat :=
  let v := (f32 a).mul (f32 b)
  (toF32 v, if v.isNan && !f32Nan a && !f32Nan b then flagInvalid else 0)

/-- FP32 fused multiply-add with the invalid-operation flag. -/
def f32FmaF (a b c : Nat) : Nat × Nat :=
  let v := ((f32 a).mul (f32 b)).add (f32 c)
  (toF32 v, if v.isNan && !f32Nan a && !f32Nan b && !f32Nan c then flagInvalid else 0)

/-- R37 step 4: a leaf joins the tree of complete subtrees; `k` is the number of leaves before it. The flag tells an invalid
addition (R60). -/
def treeJoin : Nat → Nat → Nat → List Nat → List Nat × Nat
  | 0, _, w, st => (w :: st, 0)
  | n + 1, k, w, st =>
    match st with
    | [] => ([w], 0)
    | t :: ts =>
      if k % 2 = 1 then
        let a := f32AddF t w
        let r := treeJoin n (k / 2) a.1 ts
        (r.1, a.2 ||| r.2)
      else (w :: t :: ts, 0)

/-- Push one block sum, rounded to FP32 (R37 step 3). -/
def Acc.pushBlock (a : Acc) (leaf : Acc) : Acc :=
  let j := treeJoin 32 a.next (toF32 leaf.value) a.stack
  { a with next := a.next + 1, stack := j.1, fl := a.fl ||| (if leaf.invalid || j.2 != 0 then 8 else 0) }

/-- Push leaves of value +0 up to block `b` (R37 step 3). -/
def Acc.fillTo (a : Acc) (b : Nat) : Acc := iter (b - a.next) (fun x _ => x.pushBlock Acc.zero) a

/-- R37 steps 5 and 6 with the last leaf exact: every operation rounds to nearest-even but the last, which rounds by
`rd` and `sat`. -/
def treeClose (rd : Rnd) (sat : Bool) (leaf : FV) : List Nat → Nat × Nat
  | [] => fp32.enc rd sat false leaf
  | ops =>
    let front := ops.dropLast
    let w := front.foldl (fun (acc : Nat × Nat) t =>
      let a := f32AddF t acc.1
      (a.1, acc.2 ||| a.2)) (toF32 leaf, 0)
    match ops.getLast? with
    | none => w
    | some t =>
      let v := (f32 t).add (f32 w.1)
      let c := fp32.enc rd sat false v
      (c.1, c.2 ||| w.2 ||| (if v.isNan && !f32Nan t && !f32Nan w.1 then flagInvalid else 0))

/-- The FP32 value of an exact accumulator (R33) with the conversion events but NAN_OUT and INF_OUT, which count what is
written. -/
def Acc.close (a : Acc) (rd : Rnd) (sat : Bool) : Nat × Nat :=
  let c := fp32.enc rd sat false a.value
  (c.1, (c.2 &&& flagSat) ||| (if a.invalid then flagInvalid else 0))

/-- Carry record of an element (R35): the layout is the model's own (DESIGN CHOICE, log entry 24): the exact sum and its
flags, or the tree, or the maximum, then a CRC-32C of the first 124 bytes. -/
def Acc.record (a : Acc) : Bytes :=
  let body :=
    if a.next = 0 ∧ a.seed = none ∧ a.best = none then
      natLE 80 (codeOf 640 a.sum) ++ natLE 1 a.fl ++ natLE 1 0 ++ natLE 4 0
    else match a.best with
      | none => padTo 72 (padTo 64 (a.stack.flatMap (fun w => natLE 4 w)) ++ natLE 4 (a.seed.getD 0) ++
            natLE 1 (b2n a.seed.isSome)) ++ natLE 8 0 ++ natLE 1 a.fl ++ natLE 1 (1 + a.stack.length) ++
          natLE 4 a.next
      | some v =>
        let f := match v with
          | .nan => (1, 0, 0, 0)
          | .inf n => (2, b2n n, 0, 0)
          | .fin n m e => (0, b2n n, m, codeOf 16 e)
        padTo 80 (natLE 1 f.1 ++ natLE 1 f.2.1 ++ natLE 4 f.2.2.1 ++ natLE 2 f.2.2.2) ++ natLE 1 a.fl ++ natLE 1 64 ++
          natLE 4 0
  let b := padTo 124 body
  b ++ natLE 4 (crc32c b)

/-- A carry record read back, none when its check fails. -/
def Acc.ofRecord (bs : Bytes) : Option Acc :=
  let b := bs.take 124
  if crc32c b = fieldLE bs 124 4 then
    let kind := fieldLE b 81 1
    let fl := fieldLE b 80 1
    if kind = 0 then some { Acc.zero with sum := signed 640 (fieldLE b 0 80), fl := fl }
    else if kind < 64 then
      some { Acc.zero with fl := fl, next := fieldLE b 82 4, stack := tab (kind - 1) (fun i => fieldLE b (4 * i) 4),
                            seed := if fieldLE b 68 1 = 1 then some (fieldLE b 64 4) else none }
    else
      let n := fieldLE b 1 1 == 1
      let v : FV := if fieldLE b 0 1 = 1 then .nan else if fieldLE b 0 1 = 2 then .inf n
        else .fin n (fieldLE b 2 4) (signed 16 (fieldLE b 6 2))
      some { Acc.zero with fl := fl, best := some v }
  else none

/-! ## Curves (R45, R46) -/

/-- R45: whether a 192-byte curve table is well formed. -/
def curveOk (t : Bytes) : Bool :=
  let segs := fieldLE t 0x3C 1
  let br (i : Nat) : Nat := fieldLE t (4 * i) 4
  decide (1 ≤ segs) && decide (segs ≤ 16) && fieldLE t 0x3D 3 == 0 &&
  (List.range (segs - 1)).all (fun i => f32Fin (br i)) &&
  (List.range (segs - 2)).all (fun i => f32Lt (br i) (br (i + 1))) &&
  (List.range segs).all (fun i => f32Fin (fieldLE t (0x40 + 4 * i) 4) && f32Fin (fieldLE t (0x80 + 4 * i) 4))

/-- R46: the curve at an FP32 code. -/
def curveEval (t : Bytes) (x : Nat) : Nat :=
  let segs := fieldLE t 0x3C 1
  let i := countIdx (segs - 1) (fun k => f32Le (fieldLE t (4 * k) 4) x)
  let sl := fieldLE t (0x40 + 4 * i) 4
  let ic := fieldLE t (0x80 + 4 * i) 4
  match f32 x with
  | .nan => 0x7FC00000
  | .inf n => if (f32 sl).isZero then ic else (if n != (f32 sl).isNeg then 0xFF800000 else 0x7F800000)
  | .fin _ _ _ => f32Fma sl x ic

/-! ## Normalisation (R49) -/

/-- R49 over one row of FP32 codes; each value comes with the invalid-operation flag of its operations (R60). -/
def normRow (layer : Bool) (eps : Nat) (gamma beta : Nat → Nat) (xs : List Nat) : List (Nat × Nat) :=
  if xs.any (fun x => !f32Fin x) then xs.map (fun _ => (0x7FC00000, 0))
  else
    let n := xs.length
    let ints := xs.map (fun x => match f32 x with
      | .fin s m e => smant s m * 2 ^ (e + 149).toNat
      | _ => 0)
    let sx := ints.foldl (· + ·) 0
    let sq := ints.foldl (fun a i => a + i * i) 0
    if layer then
      let mean := f32Ratio sx (-149) n
      let var := f32Ratio ((n : Int) * sq - sx * sx) (-298) (n * n)
      let ve := f32AddF var eps
      let rstd := f32Rsqrt ve.1
      (List.range n).map (fun j =>
        let c := f32AddF (nth 0 xs j) (f32Neg mean)
        let z := f32MulF c.1 rstd
        let y := f32FmaF z.1 (gamma j) (beta j)
        (y.1, ve.2 ||| c.2 ||| z.2 ||| y.2))
    else
      let ms := f32Ratio sq (-298) n
      let me := f32AddF ms eps
      let rstd := f32Rsqrt me.1
      (List.range n).map (fun j =>
        let z := f32MulF (nth 0 xs j) rstd
        let y := f32MulF z.1 (gamma j)
        (y.1, me.2 ||| z.2 ||| y.2))

/-! ## The post pipeline (R43) -/

/-- The parameters of a tile's post stages: POST_EN bits, output format, rounding, SEED, the vectors by column or row,
the residual by row and column, gamma and beta, the curve table and the global coordinates of an element. `bare` tells a
post-only tile (R48); columns from `live` on are padding channels, written as zero (R95). -/
structure Post where
  en : Nat
  fmtOut : Nat
  sat : Bool
  ftz : Bool
  mode : Nat
  seed : Nat
  scaleRow : Bool
  resOutFmt : Option Nat
  srow : Nat → Nat
  scol : Nat → Nat
  bias : Nat → Nat
  res : Nat → Nat → Nat
  eps : Nat
  gamma : Nat → Nat
  beta : Nat → Nat
  curve : Bytes
  qscale : Nat → Nat
  coord : Nat → Nat → Nat × Nat
  bare : Bool
  live : Nat

/-- Stages 1 to 3 on one element: the value and the conversion events. The value of a post-only tile before RESIDUAL is +0 and
becomes the residual input exactly (R48). -/
def Post.front (p : Post) (m n v : Nat) : Nat × Nat :=
  if p.bare then (if p.en.testBit 2 then (p.res m n, 0) else (0, 0)) else
  let a := if p.en.testBit 0 then (if p.scaleRow then f32MulF v (p.srow m) else (v, 0)) else (v, 0)
  let b := if p.en.testBit 0 then f32MulF a.1 (p.scol n) else (a.1, 0)
  let c := if p.en.testBit 1 then f32AddF b.1 (p.bias n) else (b.1, 0)
  let d := if p.en.testBit 2 then f32AddF c.1 (p.res m n) else (c.1, 0)
  (d.1, a.2 ||| b.2 ||| c.2 ||| d.2)

/-- Rounding of the final conversion of an element (R24): ROUND acts here unless FMT_OUT is FP32. -/
def Post.rnd (p : Post) (m n : Nat) : Rnd :=
  if p.fmtOut = 0 then rne else let rc := p.coord m n; rndAt p.mode p.seed rc.1 rc.2

/-- Rounding of the accumulator value (R24): ROUND acts here when FMT_OUT is FP32. -/
def Post.accRnd (p : Post) (m n : Nat) : Rnd :=
  if p.fmtOut = 0 then (let rc := p.coord m n; rndAt p.mode p.seed rc.1 rc.2) else rne

/-- A converted row: raw elements, scale bytes, residual-output elements and the conversion events. -/
structure OutRow where
  elems : List Nat
  scales : List Nat
  res : List Nat
  flags : Nat
  deriving DecidableEq, Repr

/-- Stage 7 on a row (R24, R26, R27, R30, R31). -/
def Post.convert (p : Post) (m : Nat) (xs : List Nat) : List Nat × List Nat × Nat :=
  if fmtMx p.fmtOut then
    let blocks := tab (xs.length / 32) (fun b =>
      mxBlock p.fmtOut p.ftz (tab 32 (fun i => (f32 (nth 0 xs (32 * b + i)), p.rnd m (32 * b + i)))))
    (blocks.flatMap (·.1), blocks.map (·.2.1), blocks.foldl (fun a b => a ||| b.2.2) 0)
  else
    let cs : List (Nat × Nat) := (List.range xs.length).map (fun n =>
      match fmtFloat p.fmtOut with
      | some f => f.enc (p.rnd m n) p.sat p.ftz (f32 (nth 0 xs n))
      | none => encInt (fmtBits p.fmtOut) (p.rnd m n) (f32 (nth 0 xs n)))
    (cs.map (·.1), [], cs.foldl (fun a c => a ||| c.2) 0)

/-- R43: the post stages over row `m` of finished accumulators. -/
def Post.row (p : Post) (m : Nat) (vs : List Nat) : OutRow :=
  let fr := (List.range vs.length).map (fun n => if n < p.live then p.front m n (nth 0 vs n) else (0, 0))
  let v3 := fr.map (·.1)
  let ro : List Nat × Nat := match p.resOutFmt with
    | none => ([], 0)
    | some f =>
      let cs : List (Nat × Nat) := v3.map (fun v => ((fmtFloat f).getD fp32).enc rne p.sat false (f32 v))
      (cs.map (·.1), cs.foldl (fun a c => a ||| c.2) 0)
  let v4 := if p.en.testBit 3 then normRow (p.en.testBit 6) p.eps p.gamma p.beta v3 else v3.map (fun v => (v, 0))
  let v5 := if p.en.testBit 4 then v4.map (fun v => (curveEval p.curve v.1, v.2)) else v4
  let q := (List.range v5.length).map (fun n =>
    let v := nth (0, 0) v5 n
    if p.live ≤ n then (0, 0)
    else if p.en.testBit 5 then
      let y := f32MulF v.1 (p.qscale n)
      (y.1, v.2 ||| y.2)
    else v)
  let c := p.convert m (q.map (·.1))
  ⟨c.1, c.2.1, ro.1, fr.foldl (fun a x => a ||| x.2) 0 ||| ro.2 ||| q.foldl (fun a x => a ||| x.2) 0 ||| c.2.2⟩

/-- R20, R21: the bytes of a converted row: packed elements, then scale bytes. -/
def OutRow.bytes (r : OutRow) (fmt pad : Nat) : Bytes :=
  packElems (fmtBits fmt) r.elems pad ++ r.scales.map (fun x => BitVec.ofNat 8 x)

/-- Number of POST_EN stage bits [5:0] set (R54). -/
def stageCount (en : Nat) : Nat := countIdx 6 (fun i => en.testBit i)

/-- R18, R30, R31, R44: checks of the output and residual formats that every tile kind shares. RES_FMT is checked where
RESIDUAL is enabled and RES_OUT_FMT where RES_OUT is set (DESIGN CHOICE, log entry 81: R44 does not say). -/
def postFormatsOk (fmtOut en : Nat) (resFmt : Nat) (resOut : Option Nat) (col0 n : Nat) : Bool :=
  fmtOutput fmtOut && (!fmtMx fmtOut || (col0 % 32 == 0 && n % 32 == 0)) &&
  (!(fmtOut == 0x0A || fmtOut == 0x0C) || en.testBit 5) &&
  (!en.testBit 2 || decide (resFmt ≤ 4)) &&
  (match resOut with | some f => decide (f ≤ 2) | none => true)

/-- Set sticky conversion events of a Gauntlet (R60). -/
def State.convFlags (s : State) (g f : Nat) : State := s.orReg (Reg.GNT_CONV_FLAGS g) f

/-! ## Buffer copies of state slots (R127, R130) -/

/-- A state slot by its home address. -/
def State.slotAt (s : State) (a : Nat) : Option Slot := s.slots.find a

/-- R130: before a command of Gauntlet `g` writes regions, every slot's buffer copy that they overlap is swapped out; whether
the command may start now. The copy at `own` (slot and offset), which the command itself updates, and that of a slot with a
chunk in progress are not swapped out. -/
def State.guardSlots (s : State) (g : Nat) (writes : List (Nat × Nat)) (own : Option (Nat × Nat)) : State × Bool :=
  s.slots.entries.foldl (fun (acc : State × Bool) e =>
    let h := s.gread g e.2.off 64
    let copy := (e.2.off, slotCopyBytes h)
    if e.2.g = g ∧ own ≠ some (e.1, e.2.off) ∧ (e.2.phase = 1 ∨ e.2.phase = 2) ∧ e.2.chunk = none ∧
        writes.any (fun w => overlaps w copy) then
      ({ acc.1 with slots := acc.1.slots.put e.1 { e.2 with phase := 2 } }, false)
    else acc) (s, true)

/-- R56: a checked tile starts to run on a Gauntlet. GNT_TILE_EST shows the tiles that started, not those that dispatch
refused (DESIGN CHOICE, log entry 81: R60 names "the last dispatch"). -/
def State.startTile (s : State) (g : Nat) (q : Request) (x : Part) (t : Tile) : State :=
  let s1 := (s.putReq t.req (q.setPart t.part { x with tile := true })).setGnt g { s.gntOf g with tile := some t }
  let s2 := s1.advancePart t.req t.part 128
  let s3 := (s2.showGnt g).setFld (Reg.GNT_STATE g) 8 8 q.ctx
  s3.setRegN (Reg.GNT_TILE_EST g) (t.est + t.cost * 2 ^ 32)

/-- R55: the estimate against the cost and the limit, as GNT_REJECT bits. -/
def State.estMask (s : State) (g cost est : Nat) : Nat :=
  b2n (decide (est < cost)) * 8 + b2n (decide (s.fld (Reg.GNT_TILE_LIMIT g) 0 16 < est)) * 16

/-- R58: the shadow of GNT_TILE_LIMIT applies at a tile dispatch. -/
def State.tileBoundary (s : State) (g : Nat) : State := s.applyShadow (Reg.GNT_TILE_LIMIT g)

end Sys2Proof.Machine
end

