-- ==== Sys2Proof/Machine/Matrix.lean ====
section
/-! DEFINITION. Matrix and post-only tiles (02_gauntlet_arithmetic.md): the descriptor and its dispatch checks (R50 to
R55), the result of a tile (R33, R37, R43), and the held bank and carry records (R34, R35). -/

namespace Sys2Proof.Machine

/-! ## The descriptor (R50) -/

/-- R16, R17: K indices per pass of a pairing, dense. -/
def passDepth (a b : Nat) : Nat :=
  let one (f : Nat) : Nat := if f = 1 ∨ f = 2 then 32 else if fmtBits f = 4 then 128 else 64
  Nat.min (one a) (one b)

/-- R54: cycles of the output phase. -/
def outCycles (d : Bytes) (m n resOut : Nat) : Nat :=
  if accOut d = 1 then 0
  else if accOut d = 2 then 2 * m
  else m * ceilDiv n 128 * (1 + b2n ((postEn d).testBit 3)) + m * resOut + 8 * stageCount (postEn d)

/-- R54: the cost of a matrix or post-only tile. -/
def matrixCost (d : Bytes) : Nat :=
  let k := fieldLE d 8 4
  let m := fieldLE d 4 2
  let kd := passDepth (fieldLE d 1 1) (fieldLE d 2 1) * (if sparseB d then 2 else 1)
  let passes := if k = 0 then 0 else ceilDiv k kd
  72 + passes * Nat.max m 64 + outCycles d m (fieldLE d 6 2) (b2n (resOutOn d))

/-- R41: formats that may be a sparse operand B. -/
def sparseFmt (f : Nat) : Bool := f == 3 || f == 4 || f == 5 || f == 6 || f == 9 || f == 0x0A || f == 0x0B

/-- What a HOLD input must match (R35). -/
def matrixKey (d : Bytes) : List Nat :=
  [0x10, fieldLE d 4 2, fieldLE d 6 2, fieldLE d 0x68 4, fieldLE d 0x6C 4, fieldLE d 1 1, fieldLE d 2 1]

/-- Whether a tile runs on the 16-bit path (R37). -/
def sixteenBit (fmtA : Nat) : Bool := fmtA == 1 || fmtA == 2

/-- R35: the carry records an element grid names all pass their check; a 16-bit record must not lie beyond the tile's first
block. -/
def State.carryOk (s : State) (g off count k0 : Nat) (tree : Bool) : Bool :=
  (List.range count).all (fun i => match Acc.ofRecord (s.gread g (off + 128 * i) 128) with
    | none => false
    | some a => !tree || decide (a.next ≤ k0 / 32))

/-- R35: the held bank matches a tile's HOLD input. -/
def State.holdOk (s : State) (g ctx : Nat) (key : List Nat) (k0 : Nat) : Bool :=
  match (s.gntOf g).bank with
  | none => false
  | some b => b.ctx == ctx && b.key == key && b.next == k0

/-- Dispatch checks of a matrix or post-only tile, as GNT_REJECT bits (R18 to R55). -/
def State.matrixMask (s : State) (g ctx : Nat) (d : Bytes) : Nat :=
  let m := fieldLE d 4 2
  let n := fieldLE d 6 2
  let k := fieldLE d 8 4
  let fa := fieldLE d 1 1
  let fb := fieldLE d 2 1
  let en := postEn d
  let fl := fieldLE d 0x0C 2
  let k0 := fieldLE d 0x70 4
  let kt := fieldLE d 0x74 4
  let col0 := fieldLE d 0x6C 4
  let mat := k != 0
  let fmtOk := (!mat || (fmtOperand fa && fmtOperand fb && fmtPair fa fb)) &&
    postFormatsOk (fieldLE d 3 1) en (fieldLE d 0x4C 1) (if resOutOn d then some (fieldLE d 0x4D 1) else none) col0 n
  let shapeOk := decide (1 ≤ m) && decide (m ≤ 128) && decide (1 ≤ n) && decide (n ≤ (if mat then 128 else 8192)) &&
    (if mat then k % 32 == 0 && decide (k ≤ 16384) && !(sparseB d && fmtBits fb == 8 && k % 64 != 0) &&
        decide (k0 + k ≤ kt) && decide (1 ≤ kt) && decide (kt ≤ 1048576) && !(sixteenBit fa && k0 % 32 != 0)
      else accIn d == 0 && accOut d == 0)
  let estM := s.estMask g (matrixCost d) (fieldLE d 0x10 4)
  let sparseBad := mat && sparseB d && !sparseFmt fb
  let curveBad := en.testBit 4 && !curveOk (s.gread g (fieldLE d 0x60 4) 192)
  let normBad := en.testBit 3 && (if mat then col0 != 0 else decide (8192 < n))
  let (rs, ip) := matrixRegions d
  let bufOk := regionsOk (s.bufWindow ctx) rs ip
  let accBad := (accIn d == 2 && !s.holdOk g ctx (matrixKey d) k0) ||
    (accIn d == 3 && !s.carryOk g (fieldLE d 0x34 4) (m * n) k0 (sixteenBit fa))
  let resBad := fieldLE d 0x4E 2 != 0 || fieldLE d 0x78 8 != 0 || bits fl 11 5 != 0 || bits en 7 9 != 0
  b2n (!fmtOk) * 2 + b2n (!shapeOk) * 4 + estM + b2n sparseBad * 32 + b2n curveBad * 64 + b2n normBad * 128 +
    b2n (!bufOk) * 256 + b2n accBad * 512 + b2n resBad * 1024 + b2n (roundMode d == 3 || accOut d == 3) * 2048

/-! ## The result -/

/-- R42: the K values of a sparse column, zero where nothing is stored. -/
def sparseColumn (fmt k : Nat) (col meta_ : Bytes) : List FV :=
  let sc := ceilDiv (k / 2 * fmtBits fmt) 8
  tab k (fun i =>
    let g := i / 4
    let nib := bits (leNat ((meta_.drop (g / 2)).take 1)) (4 * (g % 2)) 4
    let p0 := nib % 4
    let p1 := nib / 4
    let which := if i % 4 = p0 then some (2 * g) else if i % 4 = p1 then some (2 * g + 1) else none
    let scale := (nth 0 col (sc + i / 32)).toNat
    match which with
    | none => if fmtBlocked fmt && scale == 255 then .nan else .fin false 0 0
    | some j =>
      let v := elemValue fmt (packedElem fmt col j)
      if fmtBlocked fmt then scaled v scale else v)

/-- The accumulators a tile starts from (R34), by element index m × N_T + n; `seed` is the FP32 seed. -/
def State.accStart (s : State) (g : Nat) (inp off count : Nat) (sixteen : Bool) : List Acc :=
  if inp = 1 then tab count (fun i =>
      if sixteen then { Acc.zero with seed := some (s.gvec g off i) } else Acc.zero.put (f32 (s.gvec g off i)))
  else if inp = 2 then (match (s.gntOf g).bank with | some b => b.accs | none => [])
  else if inp = 3 then tab count (fun i => (Acc.ofRecord (s.gread g (off + 128 * i) 128)).getD Acc.zero)
  else List.replicate count Acc.zero

/-- Exact products of one element's K slice joined to its accumulator (R33). -/
def accDot (a : Acc) (xs ys : List FV) : Acc := (xs.zip ys).foldl (fun b p => b.putMul p.1 p.2) a

/-- The 16-bit path over one element's K slice (R37): every block but `keep` joins the tree; block `keep`, the last of
the product, is returned for the closing additions. -/
def accTree (a : Acc) (k0 : Nat) (xs ys : List FV) (keep : Option Nat) : Acc × Option Acc :=
  let n := xs.length / 32 + (if xs.length % 32 = 0 then 0 else 1)
  (List.range n).foldl (fun (acc : Acc × Option Acc) i =>
    let leaf := accDot Acc.zero ((xs.drop (32 * i)).take 32) ((ys.drop (32 * i)).take 32)
    let b := k0 / 32 + i
    if keep = some b then (acc.1, some leaf) else ((acc.1.fillTo b).pushBlock leaf, acc.2)) (a, none)

/-- The FP32 value of one finished element: exact path or 16-bit path (R33, R37), with the conversion events. -/
def closeElement (sixteen : Bool) (kTotal : Nat) (rd : Rnd) (sat : Bool) (a : Acc)
    (last : Option Acc) : Nat × Nat :=
  if sixteen then
    let nb := ceilDiv kTotal 32
    let a1 := a.fillTo (nb - 1)
    let leaf := last.getD Acc.zero
    let ops := a1.stack ++ (match a.seed with | some w => [w] | none => [])
    let c := treeClose rd sat leaf.value ops
    (c.1, (c.2 &&& (flagSat ||| flagInvalid)) ||| (if leaf.invalid || a.fl.testBit 3 then flagInvalid else 0))
  else a.close rd sat

/-- Write a converted grid of rows into a Gauntlet's buffer and set the conversion events. -/
def State.writeRows (s : State) (g : Nat) (p : Post) (outOff outStride resOff resStride : Nat) (rows : List OutRow) :
    State :=
  let s1 := iter rows.length (fun t m => match rows[m]? with
    | none => t
    | some r =>
      let pad := (Config.freeByte t.fresh).toNat
      let t1 := (t.gwrite g (outOff + m * outStride) (r.bytes p.fmtOut pad)).freshN 1
      match p.resOutFmt with
      | none => t1
      | some f => t1.gwrite g (resOff + m * resStride) (packElems (fmtBits f) r.res 0)) s
  s1.convFlags g (rows.foldl (fun a r => a ||| r.flags) 0)

/-- The post parameters of a matrix tile on a Gauntlet. -/
def State.matrixPost (s : State) (g : Nat) (d curve : Bytes) : Post :=
  let f (o : Nat) : Nat := fieldLE d o 4
  let n := fieldLE d 6 2
  let rf := fieldLE d 0x4C 1
  { en := postEn d, fmtOut := fieldLE d 3 1, sat := (fieldLE d 0x0C 2).testBit 5, ftz := (fieldLE d 0x0C 2).testBit 6,
    mode := roundMode d, seed := f 0x14, scaleRow := (fieldLE d 0x0C 2).testBit 10,
    resOutFmt := if resOutOn d then some (fieldLE d 0x4D 1) else none,
    srow := fun m => s.gvec g (f 0x3C) m, scol := fun j => s.gvec g (f 0x40) j, bias := fun j => s.gvec g (f 0x44) j,
    res := fun m j =>
      let w := fmtBits rf / 8
      toF32 (elemValue rf (leNat (s.gread g (f 0x48 + m * f 0x50 + j * w) w))),
    eps := f 0x5C, gamma := fun j => s.gvec g (f 0x58) j, beta := fun j => s.gvec g (f 0x58) (n + j), curve := curve,
    qscale := fun j => s.gvec g (f 0x64) j, coord := fun m j => (f 0x68 + m, f 0x6C + j),
    bare := f 8 == 0, live := n }

/-- What a finished tile leaves: the bank it holds, or its outputs written. `accs` are its accumulators. A bank held before that
the tile did not continue is lost when the tile ends, as the Gauntlet holds one bank (DESIGN CHOICE, log entry 81: R34 does
not say). -/
def State.finishAccs (s : State) (g : Nat) (t : Tile) (ctx out : Nat) (key : List Nat) (next carryOff : Nat)
    (accs : List Acc) (rows : List OutRow) (p : Post) (outOff outStride resOff resStride : Nat) : State :=
  if out = 1 then
    s.setBank g (some ⟨t.req, t.part, ctx, key, next, accs, []⟩)
  else if out = 2 then
    (iter accs.length (fun u i => u.gwrite g (carryOff + 128 * i) ((accs[i]?).getD Acc.zero).record) s).setBank g none
  else (s.writeRows g p outOff outStride resOff resStride rows).setBank g none

/-- The end of a matrix or post-only tile (R33 to R49). -/
def State.matrixResult (s : State) (g : Nat) (ctx : Nat) (t : Tile) : State :=
  let d := t.desc
  let f (o : Nat) : Nat := fieldLE d o 4
  let m := fieldLE d 4 2
  let n := fieldLE d 6 2
  let k := f 8
  let fa := fieldLE d 1 1
  let fb := fieldLE d 2 1
  let sixteen := sixteenBit fa
  let k0 := f 0x70
  let kt := f 0x74
  let p := s.matrixPost g d t.curve
  let fin := accOut d == 0
  let start := s.accStart g (accIn d) (f 0x34) (m * n) sixteen
  let arows := tab m (fun i => rowValues fa k (s.gread g (f 0x18 + i * f 0x1C) (fmtRowBytes fa k)))
  let bcols := tab n (fun j =>
    let col := s.gread g (f 0x20 + j * f 0x24) (colBytes fb k (sparseB d))
    if sparseB d then sparseColumn fb k col (s.gread g (f 0x28 + j * (k / 8)) (k / 8)) else rowValues fb k col)
  let keep := if fin ∧ ceilDiv kt 32 - 1 = (k0 + k) / 32 - 1 then some (ceilDiv kt 32 - 1) else none
  let ends : List (Acc × Option Acc) := (List.range (m * n)).map (fun i =>
    let a := (start[i]?).getD Acc.zero
    let xs := nth [] arows (i / n)
    let ys := nth [] bcols (i % n)
    if sixteen then accTree a k0 xs ys keep else (accDot a xs ys, none))
  let rows : List OutRow := tab m (fun i =>
    if k = 0 then p.row i (List.replicate n 0)
    else
      let cs := tab n (fun j =>
        let e := (ends[i * n + j]?).getD (Acc.zero, none)
        closeElement sixteen kt (p.accRnd i j) p.sat e.1 e.2)
      let r := p.row i (cs.map (·.1))
      { r with flags := r.flags ||| cs.foldl (fun a c => a ||| c.2) 0 })
  s.finishAccs g t ctx (accOut d) (matrixKey d) (k0 + k) (f 0x38) (ends.map (·.1)) rows p (f 0x2C) (f 0x30) (f 0x54)
    (f 0x50)

/-- R50: a matrix or post-only tile reaches dispatch: it is refused, or starts for its cost. -/
def State.matrixDispatch (s0 : State) (q : Request) (x : Part) (g r p : Nat) : State :=
  let s := s0.tileBoundary g
  let d := s.peek x.addr 128
  let mask := s.matrixMask g q.ctx d
  if mask = 0 then
    let (s1, ready) := s.guardSlots g (writeParts (matrixRegions d).1) none
    if !ready then s1
    else s1.startTile g q x
      { req := r, part := p, idx := x.next, addr := x.addr, desc := d,
        curve := if (postEn d).testBit 4 then s.gread g (fieldLE d 0x60 4) 192 else [], gate := [],
        regions := (matrixRegions d).1.flatMap Rgn.parts, cost := matrixCost d, est := fieldLE d 0x10 4 }
  else s.gntRefuse r p g x.next x.addr mask

end Sys2Proof.Machine
end

