-- ==== Sys2Proof/Machine/Window.lean ====
section
/-! DEFINITION. Sliding-window tiles (04_region_operators.md): channel-blocked layouts (R94, R95), convolution (R96 to
R105) and pooling (R106 to R108). -/

namespace Sys2Proof.Machine

/-! ## Layouts (R94) -/

/-- Value of lane `l` at column `w` of a layout row of `cols` columns. -/
def layoutValue (fmt cols : Nat) (row : Bytes) (w l : Nat) : FV :=
  let v := elemValue fmt (packedElem fmt (row.drop (w * blockElemBytes fmt)) l)
  if fmtBlocked fmt then scaled v (nth 0 row (cols * blockElemBytes fmt + w)).toNat else v

/-- Bytes of a layout row from its raw elements by column and lane and its scale bytes, padded with zeros (R95). -/
def layoutRow (fmt cols : Nat) (elem : Nat → Nat → Nat) (scale : Nat → Nat) : Bytes :=
  let body := (List.range cols).flatMap (fun w =>
    packElems (fmtBits fmt) (tab (blockChans fmt) (fun l => elem w l)) 0)
  let sc := if fmtBlocked fmt then (List.range cols).map (fun w => BitVec.ofNat 8 (scale w)) else []
  padTo (layoutRowBytes fmt cols) (body ++ sc)

/-! ## The descriptor (R103) -/

/-- Global pooling (R108). -/
def Win.global (x : Win) : Bool := x.pool && decide (2 ≤ x.kind)

/-- Maximum pooling (R106). -/
def Win.isMax (x : Win) : Bool := x.pool && x.kind % 2 == 0

/-- R97: output extent along one axis, by the image extent, kernel, stride, dilation and padding of that axis. -/
def outExtent (transposed : Bool) (img k s d p0 p1 : Nat) : Int :=
  if transposed then ((img : Int) - 1) * s - p0 - p1 + d * ((k : Int) - 1) + 1
  else ((img : Int) + p0 + p1 - d * ((k : Int) - 1) - 1) / s + 1

/-- Output rows of the whole image (R97; one row for a global pool). -/
def Win.outH (x : Win) : Int :=
  if x.global then 1 else outExtent (!x.pool && x.kind == 2) x.h x.kh x.sy x.dy x.pt x.pb

/-- Output columns of the whole image. -/
def Win.outW (x : Win) : Int :=
  if x.global then 1 else outExtent (!x.pool && x.kind == 2) x.w x.kw x.sx x.dx x.pl x.pr

/-- R99: kernel passes as (first row, rows, first column, columns), row-major. -/
def Win.passes (x : Win) : List (Nat × Nat × Nat × Nat) :=
  (List.range (ceilDiv x.kh 7)).flatMap (fun py => (List.range (ceilDiv x.kw 7)).map (fun px =>
    (7 * py, Nat.min 7 (x.kh - 7 * py), 7 * px, Nat.min 7 (x.kw - 7 * px))))

/-- Find the pass, the tap in it and the group of a position: `scale` groups per tap set, groups outermost (R100). -/
def findTap (groups : Nat) : Nat → Nat → List (Nat × Nat × Nat × Nat) → Option (Nat × Nat × Nat × Nat)
  | _, _, [] => none
  | i, rel, (ky0, nr, kx0, nc) :: ps =>
    let t := nr * nc
    if rel < groups * t then
      let tap := rel % t
      some (i, rel / t, ky0 + tap / nc, kx0 + tap % nc)
    else findTap groups (i + 1) (rel - groups * t) ps

/-- R100: what K index `k` names: (pass, channel, ky, kx); none for a padding tap of a depthwise tile. -/
def Win.tapOf (x : Win) (k : Nat) : Option (Nat × Nat × Nat × Nat) :=
  if x.pool then
    (if x.global then some (0, 0, k / Nat.max 1 x.w, k % Nat.max 1 x.w)
     else some (0, 0, k / Nat.max 1 x.kw, k % Nat.max 1 x.kw))
  else if x.depthwise then (findTap 1 0 k x.passes).map (fun t => (t.1, 0, t.2.2.1, t.2.2.2))
  else (findTap (x.cp / 32) 0 (k / 32) x.passes).map (fun t => (t.1, 32 * t.2.1 + k % 32, t.2.2.1, t.2.2.2))

/-- R96: input position of a tap for output position (oy, ox), none where the tap does not contribute or lies outside the
image. -/
def Win.input (x : Win) (oy ox ky kx : Nat) : Option (Nat × Nat) :=
  let pos : Option (Int × Int) :=
    if x.global then some (ky, kx)
    else if !x.pool && x.kind == 2 then
      let a := (oy : Int) + x.pt - ky * x.dy
      let b := (ox : Int) + x.pl - kx * x.dx
      if a % x.sy = 0 ∧ b % x.sx = 0 then some (a / x.sy, b / x.sx) else none
    else some ((oy : Int) * x.sy - x.pt + ky * x.dy, (ox : Int) * x.sx - x.pl + kx * x.dx)
  match pos with
  | none => none
  | some (iy, ix) =>
    if 0 ≤ iy ∧ iy < x.h ∧ 0 ≤ ix ∧ ix < x.w then some (iy.toNat, ix.toNat) else none

/-- Output position of tile row `m`. -/
def Win.pos (x : Win) (m : Nat) : Nat × Nat := (x.oy0 + m / Nat.max 1 x.ow, x.ox0 + m % Nat.max 1 x.ow)

/-- One K index of each tap that the tile's K range holds. -/
def Win.tapKs (x : Win) : List Nat :=
  if x.pool || x.depthwise then (List.range x.kT).map (· + x.k0)
  else (List.range (ceilDiv x.kT 32)).map (fun i => x.k0 + 32 * i)

/-- R104: every in-image position that the tile reads lies in its patch. -/
def Win.patchOk (x : Win) : Bool :=
  x.tapKs.all (fun k => match x.tapOf k with
    | none => true
    | some (_, _, ky, kx) => (List.range x.m).all (fun m =>
      let o := x.pos m
      match x.input o.1 o.2 ky kx with
      | none => true
      | some (iy, ix) => decide (x.iy0 ≤ iy) && decide (iy < x.iy0 + x.ph) && decide (x.ix0 ≤ ix) &&
          decide (ix < x.ix0 + x.pw)))

/-- R105: the cost of a sliding-window tile. -/
def winCost (d : Bytes) : Nat :=
  let x := winOf d
  let body :=
    if x.pool then (if x.kind < 2 then ceilDiv (x.m * x.kh * x.kw) 8 else ceilDiv x.kT 8)
    else
      let kd := if x.kind = 1 then (if fmtBits x.fa = 16 then 4 else 8)
        else passDepth x.fa x.fb * (if sparseB d then 2 else 1)
      let touched := (x.tapKs.filterMap (fun k => (x.tapOf k).map (·.1))).eraseDups.length
      ceilDiv x.kT kd * Nat.max x.m 64 + 8 * (touched - 1)
  72 + body + outCycles d x.m x.n (b2n (resOutOn d))

/-- What a HOLD input must match (R35, R101, R108). -/
def winKey (d : Bytes) : List Nat :=
  let x := winOf d
  [fieldLE d 0 1, x.kind, x.oh, x.ow, x.n, x.img, x.oy0, x.ox0, x.col0, x.fa, x.fb]

/-- R98: the shape limits of a sliding-window tile. -/
def winShapeOk (d : Bytes) : Bool :=
  let x := winOf d
  let within (lo v hi : Nat) : Bool := decide (lo ≤ v) && decide (v ≤ hi)
  let pads := within 0 x.pt (x.kh - 1) && within 0 x.pb (x.kh - 1) && within 0 x.pl (x.kw - 1) && within 0 x.pr (x.kw - 1)
  let window :=
    if !x.pool then within 1 x.kh 31 && within 1 x.kw 31 && decide (x.sy ≤ 4) && decide (x.sx ≤ 4) && pads &&
      decide (x.kind ≤ 2)
    else if x.kind < 2 then within 1 x.kh 8 && within 1 x.kw 8 && decide (x.sy ≤ 8) && decide (x.sx ≤ 8) &&
      x.dy == 1 && x.dx == 1 && pads
    else x.kh == 0 && x.kw == 0 && x.sy == 1 && x.sx == 1 && x.dy == 1 && x.dx == 1 && x.pt == 0 && x.pb == 0 &&
      x.pl == 0 && x.pr == 0 && x.oh == 1 && x.ow == 1 && decide (x.kind ≤ 3)
  let total := if x.pool then (if x.global then x.h * x.w else x.kh * x.kw)
    else if x.depthwise then alignUp (x.kh * x.kw) 32 else x.kh * x.kw * x.cp
  let sixteen := !x.pool && sixteenBit x.fa
  window && within 1 x.m 128 && within 1 x.n 128 && within 1 x.cin 16384 && within 1 x.h 16384 && within 1 x.w 16384 &&
  x.kTotal == total && (x.pool || decide (total ≤ 1048576)) && decide (1 ≤ x.kT) && decide (x.k0 + x.kT ≤ x.kTotal) &&
  (x.pool || (x.kT % 32 == 0 && x.k0 % 32 == 0 && !(sparseB d && fmtBits x.fb == 8 && x.kT % 64 != 0))) &&
  (!sixteen || (x.k0 % 32 == 0 && x.kT % 32 == 0)) &&
  (!x.global || (x.k0 == x.iy0 * x.w && x.kT == x.ph * x.w && x.pw == x.w && x.ix0 == 0)) &&
  decide (1 ≤ x.outH) && decide ((x.oy0 : Int) + x.oh ≤ x.outH) && decide ((x.ox0 : Int) + x.ow ≤ x.outW) &&
  !(fieldLE d 0x0C 2).testBit 10

/-- Dispatch checks of a sliding-window tile, as GNT_REJECT bits (R98, R102 to R105, R108). -/
def State.winMask (s : State) (g ctx : Nat) (d : Bytes) : Nat :=
  let x := winOf d
  let en := postEn d
  let fl := fieldLE d 0x0C 2
  let fmtOk := fmtOperand x.fa && (x.pool || (fmtOperand x.fb && fmtPair x.fa x.fb)) &&
    postFormatsOk x.fo en (fieldLE d 0x44 1) (if resOutOn d then some (fieldLE d 0x45 1) else none) x.col0 x.n
  let shapeOk := winShapeOk d
  let estM := s.estMask g (winCost d) (fieldLE d 0x10 4)
  let sparseBad := !x.pool && sparseB d && (x.kind == 1 || !sparseFmt x.fb)
  let curveBad := en.testBit 4 && !curveOk (s.gread g (fieldLE d 0x4C 4) 192)
  let (rs, ip) := winRegions d
  let bufOk := regionsOk (s.bufWindow ctx) rs ip && (!shapeOk || x.patchOk)
  let accBad := (accIn d == 2 && !s.holdOk g ctx (winKey d) x.k0) ||
    (accIn d == 3 && !s.carryOk g (fieldLE d 0x54 4) (x.m * x.n) x.k0 (!x.pool && sixteenBit x.fa))
  let unused := (x.pool && (x.fb != 0 || fieldLE d 0x20 4 != 0 || fieldLE d 0x24 4 != 0 || sparseB d)) ||
    (!sparseB d && fieldLE d 0x28 4 != 0) || en.testBit 6
  let countPad := fl.testBit 11 && !(x.pool && x.kind == 1)
  let resBad := fieldLE d 0x47 1 != 0 || fieldLE d 0x7E 2 != 0 || bits fl 12 4 != 0 || bits en 7 9 != 0 || unused ||
    countPad
  b2n (!fmtOk) * 2 + b2n (!shapeOk) * 4 + estM + b2n sparseBad * 32 + b2n curveBad * 64 + b2n (en.testBit 3) * 128 +
    b2n (!bufOk) * 256 + b2n accBad * 512 + b2n resBad * 1024 + b2n (roundMode d == 3 || accOut d == 3) * 2048

/-! ## The result -/

/-- Value of patch channel `c` at an image position (R94, R104). -/
def State.patchValue (s : State) (g : Nat) (d : Bytes) (x : Win) (c iy ix : Nat) : FV :=
  let b := blockChans x.fa
  let row := s.gread g (fieldLE d 0x18 4 + ((c / b) * x.ph + (iy - x.iy0)) * fieldLE d 0x1C 4) (layoutRowBytes x.fa x.pw)
  layoutValue x.fa x.pw row (ix - x.ix0) (c % b)

/-- Input factor of K index `k` for tile row `m` and column `n` (R96); none for a padding channel, a padding tap, a tap that
does not contribute and a position outside the image, whose products are zero and add nothing whatever the weight is
(R101). -/
def State.winInput (s : State) (g : Nat) (d : Bytes) (x : Win) (m n k : Nat) : Option FV :=
  let o := x.pos m
  match x.tapOf k with
  | none => none
  | some (_, c, ky, kx) =>
    let ch := if x.pool || x.depthwise then x.col0 + n else c
    if x.cin ≤ ch then none
    else match x.input o.1 o.2 ky kx with
      | none => none
      | some (iy, ix) => some (s.patchValue g d x (if x.pool || x.depthwise then n else c) iy ix)

/-- The factors of the products of a K range: the inputs, and the weights where an input contributes. -/
def winFactors (xs : List (Option FV)) (ys : List FV) : List FV × List FV :=
  let zero : FV := .fin false 0 0
  let ps := (xs.zip ys).map (fun p => match p.1 with
    | none => (zero, zero)
    | some v => (v, p.2))
  (ps.map (·.1), ps.map (·.2))

/-- Output channels of a tile that the tensor has: the channels of a depthwise or pooling output are those of its input, and
the lanes beyond are padding (R95). -/
def Win.liveChans (x : Win) : Nat := if x.pool || x.depthwise then Nat.min x.n (x.cin - x.col0) else x.n

/-- The larger of two values, with +0 above −0 (R106). -/
def fvMax (a b : FV) : FV :=
  if a.isNan || b.isNan then .nan
  else if FV.lt a b then b else if FV.lt b a then a else if a.isNeg then b else a

/-- In-image inputs of tile row `m` and column `n` over a K range (R106, R107). -/
def State.admitted (s : State) (g : Nat) (d : Bytes) (x : Win) (m n : Nat) (ks : List Nat) : List FV :=
  let o := x.pos m
  ks.filterMap (fun k => match x.tapOf k with
    | none => none
    | some (_, _, ky, kx) => match x.input o.1 o.2 ky kx with
      | none => none
      | some (iy, ix) =>
        if x.cin ≤ x.col0 + n then some (.fin false 0 0) else some (s.patchValue g d x n iy ix))

/-- Number of inputs that an average divides by (R107). -/
def Win.count (x : Win) (countPad : Bool) (m : Nat) : Nat :=
  if x.global then x.h * x.w
  else if countPad then x.kh * x.kw
  else
    let o := x.pos m
    countIdx (x.kh * x.kw) (fun k => (x.input o.1 o.2 (k / Nat.max 1 x.kw) (k % Nat.max 1 x.kw)).isSome)

/-- The post parameters of a sliding-window tile. -/
def State.winPost (s : State) (g : Nat) (d curve : Bytes) : Post :=
  let x := winOf d
  let f (o : Nat) : Nat := fieldLE d o 4
  let rf := fieldLE d 0x44 1
  { en := postEn d, fmtOut := x.fo, sat := (fieldLE d 0x0C 2).testBit 5, ftz := (fieldLE d 0x0C 2).testBit 6,
    mode := roundMode d, seed := f 0x14, scaleRow := false,
    resOutFmt := if resOutOn d then some (fieldLE d 0x45 1) else none,
    srow := fun _ => 0, scol := fun j => s.gvec g (f 0x38) j, bias := fun j => s.gvec g (f 0x3C) j,
    res := fun m j =>
      let b := blockChans rf
      let row := s.gread g (f 0x40 + ((j / b) * x.oh + m / x.ow) * f 0x30) (layoutRowBytes rf x.ow)
      toF32 (layoutValue rf x.ow row (m % x.ow) (j % b)),
    eps := 0, gamma := fun _ => 0, beta := fun _ => 0, curve := curve, qscale := fun j => s.gvec g (f 0x50) j,
    coord := fun m j =>
      let o := x.pos m
      ((((x.img : Int) * x.outH + o.1) * x.outW + o.2).toNat, x.col0 + j), bare := false, live := x.liveChans }

/-- Write a grid of channel-blocked rows (R94, R95): `vals m n` is raw element n of position m, `sc m b` the scale byte of
channel block b. -/
def State.writeGrid (s : State) (g off stride fmt n oh ow : Nat) (vals : Nat → Nat → Nat) (sc : Nat → Nat → Nat) :
    State :=
  let b := blockChans fmt
  iter (ceilDiv n b * oh) (fun t i =>
    let blk := i / oh
    let y := i % oh
    let row := layoutRow fmt ow (fun w l => if blk * b + l < n then vals (y * ow + w) (blk * b + l) else 0)
      (fun w => sc (y * ow + w) blk)
    t.gwrite g (off + i * stride) row) s

/-- The end of a sliding-window tile (R96 to R108). -/
def State.winResult (s : State) (g : Nat) (ctx : Nat) (t : Tile) : State :=
  let d := t.desc
  let x := winOf d
  let f (o : Nat) : Nat := fieldLE d o 4
  let p := s.winPost g d t.curve
  let sixteen := !x.pool && sixteenBit x.fa
  let ks := (List.range x.kT).map (· + x.k0)
  let start := s.accStart g (accIn d) (f 0x54) (x.m * x.n) sixteen
  let fin := accOut d == 0
  let keep := if fin ∧ ceilDiv x.kTotal 32 - 1 = (x.k0 + x.kT) / 32 - 1 then some (ceilDiv x.kTotal 32 - 1) else none
  let bcols := if x.pool then [] else tab x.n (fun j =>
    let col := s.gread g (f 0x20 + j * f 0x24) (colBytes x.fb x.kT (sparseB d))
    if sparseB d then sparseColumn x.fb x.kT col (s.gread g (f 0x28 + j * (x.kT / 8)) (x.kT / 8))
    else rowValues x.fb x.kT col)
  let ends : List (Acc × Option Acc) := (List.range (x.m * x.n)).map (fun i =>
    let a := (start[i]?).getD Acc.zero
    let mm := i / Nat.max 1 x.n
    let nn := i % Nat.max 1 x.n
    if x.pool then
      let vs := s.admitted g d x mm nn ks
      if x.isMax then
        let b0 := if accIn d = 1 then some a.value else a.best
        let b1 := vs.foldl (fun b v => some (match b with | none => v | some w => fvMax w v)) b0
        ({ a with best := b1, sum := 0 }, none)
      else (vs.foldl (fun b v => b.put v) a, none)
    else
      let f := winFactors (ks.map (fun k => s.winInput g d x mm nn k)) (nth [] bcols nn)
      if sixteen then accTree a x.k0 f.1 f.2 keep else (accDot a f.1 f.2, none))
  let close (m n : Nat) : Nat × Nat :=
    let e := (ends[m * x.n + n]?).getD (Acc.zero, none)
    let rd := p.accRnd m n
    if x.isMax then
      let c := fp32.enc rd p.sat false (e.1.best.getD (.fin false 0 0))
      (c.1, c.2 &&& flagSat)
    else if x.pool then
      let c := fp32.enc rd p.sat false (e.1.value.div (.fin false (x.count ((fieldLE d 0x0C 2).testBit 11) m) 0))
      (c.1, (c.2 &&& flagSat) ||| (if e.1.invalid then flagInvalid else 0))
    else closeElement sixteen x.kTotal rd p.sat e.1 e.2
  if fin then
    let rows : List OutRow := tab x.m (fun m =>
      let cs := tab x.n (fun n => if n < x.liveChans then close m n else (0, 0))
      let r := p.row m (cs.map (·.1))
      { r with flags := r.flags ||| cs.foldl (fun a c => a ||| c.2) 0 })
    let row (m : Nat) : OutRow := (rows[m]?).getD ⟨[], [], [], 0⟩
    let s1 := s.writeGrid g (f 0x2C) (f 0x30) x.fo x.n x.oh x.ow (fun m n => nth 0 (row m).elems n)
      (fun m b => nth 0x7F (row m).scales b)
    let s2 := match p.resOutFmt with
      | none => s1
      | some rf => s1.writeGrid g (f 0x48) (f 0x30) rf x.n x.oh x.ow (fun m n => nth 0 (row m).res n) (fun _ _ => 0x7F)
    (s2.convFlags g (rows.foldl (fun a r => a ||| r.flags) 0)).setBank g none
  else
    s.finishAccs g t ctx (accOut d) (winKey d) (x.k0 + x.kT) (f 0x58) (ends.map (·.1)) [] p 0 0 0 0

/-- R96, R106: a sliding-window tile reaches dispatch. -/
def State.winDispatch (s0 : State) (q : Request) (x : Part) (g r p : Nat) : State :=
  let s := s0.tileBoundary g
  let d := s.peek x.addr 128
  let mask := s.winMask g q.ctx d
  if mask = 0 then
    let (s1, ready) := s.guardSlots g (writeParts (winRegions d).1) none
    if !ready then s1
    else s1.startTile g q x
      { req := r, part := p, idx := x.next, addr := x.addr, desc := d,
        curve := if (postEn d).testBit 4 then s.gread g (fieldLE d 0x4C 4) 192 else [], gate := [],
        regions := (winRegions d).1.flatMap Rgn.parts, cost := winCost d, est := fieldLE d 0x10 4 }
  else s.gntRefuse r p g x.next x.addr mask

end Sys2Proof.Machine
end

