-- ==== Sys2Proof/Machine/Scan.lean ====
section
/-! DEFINITION. Scan tiles and state slots (05_carried_state.md): recurrences (R117, R118), chunks (R119 to R121), gates
(R123), the scan descriptor (R124 to R126), slots, their commit, swap-out and restore (R127 to R136). -/

namespace Sys2Proof.Machine

/-- State elements per channel (R117). -/
def Scan.e (x : Scan) : Nat := if x.kind = 2 then 2 * x.sections else 1

/-- R126: the cost of a scan tile. -/
def scanCost (d : Bytes) : Nat :=
  let x := scanOf d
  let w := if x.kind = 2 then 3 * x.sections else if x.aMode < 2 then 1 else if x.aMode = 2 then 2 else 3
  72 + x.t * (w + 1) + 8 * stageCount (postEn d) + (if x.chunkIn = 0 then 16 else 0) + (if x.chunkOut = 0 then 16 else 0)

/-- Bytes of a channel's coefficient record (R124). -/
def Scan.coefBytes (x : Scan) : Nat := if x.kind = 2 then 32 * x.sections else 32

/-- Regions of a scan tile; `h` is the header of its slot. -/
def scanRegions (d h : Bytes) : List Rgn × Bool :=
  let x := scanOf d
  let f (o : Nat) : Nat := fieldLE d o 4
  let en := postEn d
  let opt (c : Bool) (r : Rgn) : List Rgn := if c then [r] else []
  let res : Rgn := ⟨f 0x48, x.n * fmtBits (fieldLE d 0x4C 1) / 8, f 0x50, x.t, false, .residual⟩
  let out : Rgn := ⟨f 0x2C, fmtRowBytes x.fo x.n, f 0x30, x.t, true, .output⟩
  let rs :=
    [⟨f 0x18, x.n * fmtBits x.fx / 8, f 0x1C, x.t, false, .plain⟩, Rgn.flat (f 0x28) (x.n * x.coefBytes) false,
     Rgn.flat (f 0x34) (slotCopyBytes h) true, out] ++
    opt (1 ≤ x.aMode) ⟨f 0x20, x.n * fmtBits x.fg / 8, f 0x24, x.t, false, .plain⟩ ++
    opt (2 ≤ x.aMode) (Rgn.flat (f 0x38) 192 false) ++
    opt (en.testBit 0) (Rgn.flat (f 0x40) (x.n * 4) false) ++
    opt (en.testBit 1) (Rgn.flat (f 0x44) (x.n * 4) false) ++
    opt (en.testBit 2) res ++
    opt (en.testBit 4) (Rgn.flat (f 0x3C) 192 false) ++
    opt (en.testBit 5) (Rgn.flat (f 0x54) (x.n * 4) false)
  (rs, en.testBit 2 && f 0x2C == f 0x48 && f 0x30 == f 0x50 && fmtBits x.fo == fmtBits (fieldLE d 0x4C 1))

/-- What a HOLD input must match (R125). -/
def scanKey (x : Scan) : List Nat := [0x40, x.slot, x.ch0, x.n]

/-- R134: formats that the state may take. -/
def stateFmtOk (fs fx : Nat) : Bool := decide (fs ≤ 2) || ((fs == 3 || fs == 4) && fs == fx)

/-- Dispatch checks of a scan tile, as GNT_REJECT bits (R124 to R126, R133). -/
def State.scanMask (s : State) (g ctx tag : Nat) (d h : Bytes) : Nat :=
  let x := scanOf d
  let en := postEn d
  let f (o : Nat) : Nat := fieldLE d o 4
  let shapeOk := decide (1 ≤ x.t) && decide (x.t ≤ 1024) && decide (x.t ≤ x.c) && decide (1 ≤ x.n) && decide (x.n ≤ 128) &&
    (x.c == 1 || (decide (16 ≤ x.c) && decide (x.c ≤ 1024))) && decide (x.ch0 + x.n ≤ fieldLE h 4 2) &&
    decide (x.kind ≤ 2) && decide (x.aMode ≤ 3) && (x.kind != 2 || (decide (1 ≤ x.sections) && decide (x.sections ≤ 8) &&
    x.aMode == 0)) && tag == 0
  let fmtOk := decide (x.fx ≤ 4) && (x.aMode == 0 || decide (x.fg ≤ 4)) && stateFmtOk x.fs x.fx &&
    postFormatsOk x.fo en (fieldLE d 0x4C 1) none x.ch0 x.n
  let normBad := en.testBit 3
  let roundBad := decide (2 ≤ x.chunkIn) || decide (2 ≤ x.chunkOut) || x.round == 3 || x.stRound == 1 || x.stRound == 3 ||
    (x.stRound == 2 && x.fs == 0)
  let accBad := x.chunkIn == 1 && !s.holdOk g ctx (scanKey x) x.step0
  let (rs, ip) := scanRegions d h
  let bufOk := regionsOk (s.bufWindow ctx) rs ip
  let curveBad := (decide (2 ≤ x.aMode) && !curveOk (s.gread g (f 0x38) 192)) ||
    (en.testBit 4 && !curveOk (s.gread g (f 0x3C) 192))
  let unused := (x.kind != 2 && x.sections != 0) ||
    (x.aMode == 0 && (x.fg != 0 || f 0x20 != 0 || f 0x24 != 0)) || (decide (x.aMode < 2) && f 0x38 != 0)
  let resBad := bits (fieldLE d 0x0C 2) 11 5 != 0 || bits en 6 10 != 0 || fieldLE d 0x4D 1 != 0 || fieldLE d 0x6C 20 != 0 ||
    unused
  b2n (!fmtOk) * 2 + b2n (!shapeOk) * 4 + s.estMask g (scanCost d) (f 0x10) + b2n curveBad * 64 + b2n normBad * 128 +
    b2n (!bufOk) * 256 + b2n accBad * 512 + b2n resBad * 1024 + b2n roundBad * 2048

/-! ## Slots (R127 to R131) -/

/-- CHECK of a header and its committed state (R127). -/
def slotCheck (h state : Bytes) : Nat := crc32c (h.take 0x30 ++ state)

/-- The header a ZERO_STATE start stages: the home header where it is valid, and otherwise one that keeps CHANNELS, SYNC and
STAG_LIMIT and takes the tile's kind and format (DEDUCED from R127 and R131, log entry 26). -/
def zeroHeader (h : Bytes) (x : Scan) (valid : Bool) : Bytes :=
  if valid then h
  else natLE 1 1 ++ natLE 1 x.kind ++ natLE 1 x.fs ++ natLE 1 (if x.kind = 2 then x.sections else 0) ++
    natLE 2 (fieldLE h 4 2) ++ natLE 1 0 ++ natLE 1 0 ++ natLE 4 (fieldLE h 8 4) ++ natLE 4 0 ++ natLE 8 0 ++ natLE 8 0 ++
    natLE 8 0 ++ natLE 8 (fieldLE h 0x28 8) ++ natLE 16 0

/-- Whether a home copy passes a restore's check (R129, R131). -/
def State.slotHomeOk (s : State) (a : Nat) : Bool :=
  let h := s.peek a 64
  fieldLE h 0 1 == 1 && fieldLE h 0x30 4 == slotCheck h (s.peek (a + 64) (slotStateBytes h))

/-- Put the home copy of a slot into a buffer (R129). -/
def State.stageSlot (s : State) (a g off : Nat) (h : Bytes) : State :=
  let s1 := s.gwrite g off h
  s1.gwrite g (off + slotBankOff h (fieldLE h 7 1)) (s.peek (a + 64) (slotStateBytes h))

/-- The header that a start of `x` finds at home: for ZERO_STATE the one it stages. -/
def State.startHeader (s : State) (x : Scan) : Bytes :=
  if x.zero then zeroHeader (s.peek x.slot 64) x (s.slotHomeOk x.slot) else s.peek x.slot 64

/-- A chunk of a part starts on a slot that is in a buffer. -/
def Slot.begin_ (y : Slot) (x : Scan) (r p : Nat) : Slot :=
  if y.chunk = some (r, p) then y
  else { y with chunk := some (r, p), base := x.step0, chunkLen := 0, stag := 0, steps := 0, target := none }

/-- The header and both banks of a buffer copy move to another offset of the same Gauntlet (R130 names no swap-out for a chunk
there with another STATE_OFF; DESIGN CHOICE, log entry 83). -/
def State.moveCopy (s : State) (g off dst : Nat) : State :=
  s.gwrite g dst (s.gread g off (slotCopyBytes (s.gread g off 64)))

/-- R127 to R130: the START tile of a chunk takes its slot at (g, off); whether the tile may start now. A slot that the part
found usable when it was placed and that a command of its own has swapped out since is restored here. -/
def State.slotFor (s : State) (x : Scan) (g off ctx r p : Nat) : State × Bool :=
  let y := (s.slotAt x.slot).getD (Slot.home ctx)
  if y.phase = 0 ∧ x.zero then
    let h := s.startHeader x
    let t := if s.slotHomeOk x.slot then s.stageSlot x.slot g off h
      else (s.gwrite g off h).gwrite g (off + slotBankOff h 0) (List.replicate (slotStateBytes h) 0)
    ({ t with slots := t.slots.put x.slot ({ Slot.home ctx with g := g, off := off, phase := 1 }.begin_ x r p) }, true)
  else if y.phase = 0 then (s.startRestore x.slot { y with ctx := ctx } r p g off, false)
  else if y.phase = 1 ∧ y.g = g ∧ (y.chunk = none ∨ y.chunk = some (r, p)) then
    let t := if y.off = off then s else s.moveCopy g y.off off
    ({ t with slots := t.slots.put x.slot { (y.begin_ x r p) with off := off } }, true)
  else (s, false)

/-- R127: whether the buffer copy that a scan tile names is the slot's. -/
def State.scanHere (s : State) (g : Nat) (d : Bytes) : Bool :=
  match s.slotAt (scanOf d).slot with
  | some y => decide (y.phase = 1 ∧ y.g = g ∧ y.off = fieldLE d 0x34 4)
  | none => false

/-- The slot header that a scan tile is checked against: that of the buffer copy on Gauntlet `g`, else what the start of a
chunk finds at home (R125). -/
def State.scanHeader (s : State) (g : Nat) (d : Bytes) : Bytes :=
  match s.slotAt (scanOf d).slot with
  | some y => if y.phase = 1 ∧ y.g = g then s.gread g y.off 64 else s.startHeader (scanOf d)
  | none => s.startHeader (scanOf d)

/-- R128, R129: the first tile of a chunk obtains its slot; a later one needs the slot's buffer copy. -/
def State.scanGrant (s : State) (q : Request) (g r p : Nat) (d : Bytes) : State × Bool :=
  if (scanOf d).chunkIn = 0 then s.slotFor (scanOf d) g (fieldLE d 0x34 4) q.ctx r p else (s, s.scanHere g d)

/-- R124, R129: a scan tile reaches dispatch. -/
def State.scanDispatch (s0 : State) (q : Request) (x : Part) (g r p : Nat) : State :=
  let s := s0.tileBoundary g
  let d := s.peek x.addr 128
  let sc := scanOf d
  let h := s.scanHeader g d
  let mask := s.scanMask g q.ctx q.tag d h
  if mask ≠ 0 then s.gntRefuse r p g x.next x.addr mask
  else
    let rs := (scanRegions d h).1
    let (s1, ready) := s.guardSlots g (writeParts rs) (some (sc.slot, fieldLE d 0x34 4))
    if !ready then s1
    else
      let (s2, slotOk) := s1.scanGrant q g r p d
      if !slotOk then s2
      else s2.startTile g q x
        { req := r, part := p, idx := x.next, addr := x.addr, desc := d,
          curve := if (postEn d).testBit 4 then s.gread g (fieldLE d 0x3C 4) 192 else [],
          gate := if 2 ≤ sc.aMode then s.gread g (fieldLE d 0x38 4) 192 else [],
          regions := rs.flatMap Rgn.parts, cost := scanCost d, est := fieldLE d 0x10 4 }

/-! ## The recurrences (R117, R118, R123) -/

/-- FP32 code of element `i` of a row of a plain format. -/
def plainElem (fmt : Nat) (row : Bytes) (i : Nat) : Nat := toF32 (elemValue fmt (packedElem fmt row i))

/-- One biquad cascade step (kind 2): the new state elements, the output and the invalid-operation flag. -/
def biquads (coef : Nat → Nat → Nat) : Nat → Nat → Nat → List Nat → List Nat × Nat × Nat
  | 0, _, x, _ => ([], x, 0)
  | n + 1, k, x, st =>
    let s1 := nth 0 st 0
    let s2 := nth 0 st 1
    let y := f32FmaF (coef k 0) x s1
    let u1 := f32FmaF (f32Neg (coef k 3)) y.1 s2
    let t1 := f32FmaF (coef k 1) x u1.1
    let u2 := f32MulF (f32Neg (coef k 4)) y.1
    let t2 := f32FmaF (coef k 2) x u2.1
    let rest := biquads coef n (k + 1) y.1 (st.drop 2)
    (t1.1 :: t2.1 :: rest.1, rest.2.1, y.2 ||| u1.2 ||| t1.2 ||| u2.2 ||| t2.2 ||| rest.2.2)

/-- One step of one channel: new state elements, output and the invalid-operation flag (R117, R60). -/
def scanStep (x : Scan) (coef : Nat → Nat → Nat) (a xin : Nat) (st : List Nat) : List Nat × Nat × Nat :=
  if x.kind = 0 then
    let u := f32MulF (coef 0 1) xin
    let h := f32FmaF a (nth 0 st 0) u.1
    let w := f32MulF (coef 0 3) xin
    let y := f32FmaF (coef 0 2) h.1 w.1
    ([h.1], y.1, u.2 ||| h.2 ||| w.2 ||| y.2)
  else if x.kind = 1 then
    let u := f32AddF (nth 0 st 0) (f32Neg xin)
    let h := f32FmaF a u.1 xin
    ([h.1], h.1, u.2 ||| h.2)
  else biquads coef x.sections 0 xin st

/-- The decay of a step, with the invalid-operation flag (R123). -/
def scanDecay (x : Scan) (coef : Nat → Nat → Nat) (gate : Bytes) (gv : Nat) : Nat × Nat :=
  if x.aMode = 0 then (coef 0 0, 0)
  else if x.aMode = 1 then (gv, 0)
  else if x.aMode = 2 then (curveEval gate gv, 0)
  else
    let m := f32MulF (coef 0 4) (curveEval gate gv)
    (f32Exp (f32Neg m.1), m.2)

/-- The post parameters of a scan tile: row = step, column = channel (R124). -/
def State.scanPost (s : State) (g : Nat) (d curve : Bytes) : Post :=
  let x := scanOf d
  let f (o : Nat) : Nat := fieldLE d o 4
  let rf := fieldLE d 0x4C 1
  { en := postEn d, fmtOut := x.fo, sat := x.sat, ftz := x.ftz, mode := x.round, seed := f 0x14, scaleRow := false,
    resOutFmt := none, srow := fun _ => 0, scol := fun j => s.gvec g (f 0x40) j, bias := fun j => s.gvec g (f 0x44) j,
    res := fun m j =>
      let w := fmtBits rf / 8
      toF32 (elemValue rf (leNat (s.gread g (f 0x48 + m * f 0x50 + j * w) w))),
    eps := 0, gamma := fun _ => 0, beta := fun _ => 0, curve := curve, qscale := fun j => s.gvec g (f 0x54) j,
    coord := fun m j => ((x.step0 + m) % 2 ^ 32, x.ch0 + j),
    bare := false, live := x.n }

/-- R121, R128, R136: the END tile writes a channel group's state into the bank that ACTIVE does not name; the number of
stagnated elements and whether an element saturated. -/
def State.writeState (s : State) (g : Nat) (d : Bytes) (vals : List Nat) : State × Nat × Bool :=
  let x := scanOf d
  let off := fieldLE d 0x34 4
  let h := s.gread g off 64
  let w := fmtBits x.fs / 8
  let act := fieldLE h 7 1 % 2
  let f := (fmtFloat x.fs).getD fp32
  (List.range vals.length).foldl (fun (acc : State × Nat × Bool) i =>
    let v := nth 0 vals i
    let place := (x.ch0 * x.e + i) * w
    let old := leNat (s.gread g (off + slotBankOff h act + place) w)
    let rd := rndAt x.stRound (fieldLE d 0x14 4) ((x.step0 + x.t) % 2 ^ 32)
      (((x.ch0 + i / x.e) * 16 + i % x.e) % 2 ^ 32)
    let c := f.enc rd x.sat false (f32 v)
    let stag := v ≠ toF32 (f.dec old) ∧ c.1 = old
    (acc.1.gwrite g (off + slotBankOff h (1 - act) + place) (natLE w c.1), acc.2.1 + (if stag then 1 else 0),
     acc.2.2 || c.2.testBit 2)) (s, 0, false)

/-- The end of a scan tile (R117 to R121). -/
def State.scanResult (s : State) (g : Nat) (ctx : Nat) (t : Tile) : State :=
  let d := t.desc
  let x := scanOf d
  let f (o : Nat) : Nat := fieldLE d o 4
  let off := f 0x34
  let h := s.gread g off 64
  let w := fmtBits x.fs / 8
  let act := fieldLE h 7 1 % 2
  let xs := tab x.t (fun i => s.gread g (f 0x18 + i * f 0x1C) (x.n * fmtBits x.fx / 8))
  let gs := tab x.t (fun i => if x.aMode = 0 then [] else s.gread g (f 0x20 + i * f 0x24) (x.n * fmtBits x.fg / 8))
  let init (n : Nat) : List Nat := tab x.e (fun e =>
    if x.chunkIn = 1 then (match (s.gntOf g).bank with | some b => nth 0 b.vals (n * x.e + e) | none => 0)
    else if x.zero then 0
    else toF32 (((fmtFloat x.fs).getD fp32).dec
      (leNat (s.gread g (off + slotBankOff h act + ((x.ch0 + n) * x.e + e) * w) w))))
  let coef (n k i : Nat) : Nat := leNat (s.gread g (f 0x28 + n * x.coefBytes + 32 * k + 4 * i) 4)
  let chans : List (List Nat × List Nat × Nat) := tab x.n (fun n =>
    (List.range x.t).foldl (fun (acc : List Nat × List Nat × Nat) i =>
      let gv := if x.aMode = 0 then 0 else plainElem x.fg (nth [] gs i) n
      let a := scanDecay x (coef n) t.gate gv
      let r := scanStep x (coef n) a.1 (plainElem x.fx (nth [] xs i) n) acc.1
      (r.1, acc.2.1 ++ [r.2.1], acc.2.2 ||| a.2 ||| r.2.2)) (init n, [], 0))
  let p := s.scanPost g d t.curve
  let rows : List OutRow := tab x.t (fun m => p.row m (tab x.n (fun n => nth 0 (nth ([], [], 0) chans n).2.1 m)))
  let s1 := (s.writeRows g p (f 0x2C) (f 0x30) 0 0 rows).convFlags g (chans.foldl (fun a c => a ||| c.2.2) 0)
  let vals := chans.flatMap (·.1)
  let slot := s1.slotAt x.slot
  if x.chunkOut = 1 then
    let s2 := s1.setBank g (some ⟨t.req, t.part, ctx, scanKey x, x.step0 + x.t, [], vals⟩)
    match slot with
    | none => s2
    | some y =>
      let y1 := { y with steps := y.steps + x.t * x.n }
      { s2 with slots := s2.slots.put x.slot y1 }
  else
    let (s2, stag, satd) := s1.writeState g d vals
    let s3 := if satd then s2.orReg (Reg.GNT_SCAN_FLAGS g) 8 else s2
    let s4 := s3.setBank g none
    match slot with
    | none => s4
    | some y =>
      let y1 := { y with steps := y.steps + x.t * x.n, stag := y.stag + stag, chunkLen := x.c }
      { s4 with slots := s4.slots.put x.slot y1 }

/-- R128, R136: a chunk whose tiles have all ended with OK commits, all at once; SYNC is signalled by the units of the
request. A chunk none of whose tiles was an END tile only gives its slot back. -/
def State.commitChunk (s : State) (a : Nat) (y : Slot) (units : List Nat) : State :=
  let g := y.g
  let released := { y with chunk := none, chunkLen := 0, stag := 0, steps := 0 }
  if y.chunkLen = 0 then { s with slots := s.slots.put a released }
  else
    let h := s.gread g y.off 64
    let act := 1 - fieldLE h 7 1 % 2
    let stagCount := clampNat 0 (2 ^ 64 - 1) (fieldLE h 0x20 8 + y.stag)
    let h1 := setFieldLE h 7 1 act
    let h2 := setFieldLE h1 0x10 8 ((fieldLE h 0x10 8 + 1) % 2 ^ 64)
    let h3 := setFieldLE h2 0x18 8 ((fieldLE h 0x18 8 + y.chunkLen) % 2 ^ 64)
    let h4 := setFieldLE h3 0x20 8 stagCount
    let h5 := setFieldLE h4 0x30 4 (slotCheck h4 (s.gread g (y.off + slotBankOff h4 act) (slotStateBytes h4)))
    let s1 := s.gwrite g y.off h5
    let s2 := if y.stag = 0 then s1 else (s1.add (Reg.GNT_CNT_STAG g) y.stag).orReg (Reg.GNT_SCAN_FLAGS g) 1
    let lim := fieldLE h 0x28 8
    let s3 := if lim ≠ 0 ∧ lim ≤ stagCount then s2.orReg (Reg.GNT_SCAN_FLAGS g) 2 else s2
    let s4 := s3.add (Reg.GNT_CNT_SCAN_STEPS g) y.steps
    let sync := fieldLE h 8 4
    let s5 := if sync < 8192 then s4.signal ⟨sync, 2, 1⟩ units else s4
    { s5 with slots := s5.slots.put a released }

/-- R128: the chunk of the slot that a scan tile of part `p` named commits when no tile of it is left: none of the part's
commands to come is a scan tile of the slot with a step of the chunk. -/
def State.commitEnded (s : State) (r p : Nat) (d : Bytes) : State :=
  let x := scanOf d
  match s.slotAt x.slot, s.req r with
  | some y, some q => (match q.parts[p]? with
    | none => s
    | some part =>
      let left := (s.scansOf (s.commandsLeft q part)).any (fun e => (scanOf e).slot == x.slot &&
        decide (((scanOf e).step0 + 2 ^ 64 - y.base) % 2 ^ 64 < x.c))
      if y.chunk = some (r, p) ∧ !left then s.commitChunk x.slot y q.units else s)
  | _, _ => s

/-- The slots of a part that ends with OK are given back. -/
def State.commitChunks (s : State) (r p : Nat) : State :=
  let units := match s.req r with | some q => q.units | none => []
  each (s.slots.entries.filter (fun e => e.2.chunk == some (r, p))) (fun t e => t.commitChunk e.1 e.2 units) s

/-- R129: a swap-out finishes: header and committed bank are written home and a waiting restore starts. -/
def State.swapOutDone (s : State) (a : Nat) : State :=
  match s.slotAt a with
  | none => s
  | some y =>
    if y.phase = 2 then
      let h := s.gread y.g y.off 64
      let st := s.gread y.g (y.off + slotBankOff h (fieldLE h 7 1 % 2)) (slotStateBytes h)
      let s1 := s.devWrite a (h ++ st)
      match y.target with
      | none => { s1 with slots := s1.slots.put a { y with phase := 0 } }
      | some (r, p) => s1.startRestore a y r p y.tg y.toff
    else s

/-- R131: a restore fails: its chunk ends with STATE_LOST, which tears the context down, and the home copy says so where the
tier still accepts the write. -/
def State.restoreFailed (s : State) (a : Nat) (y : Slot) (r p cause : Nat) : State :=
  let s1 := s.devWrite a (natLE 1 2)
  let s2 := s1.devWrite (a + 6) (natLE 1 cause)
  let s3 := { s2 with slots := s2.slots.drop a }
  let s4 := (s3.orReg (Reg.GNT_SCAN_FLAGS y.tg) 4).bump (Reg.GNT_CNT_STATE_LOST y.tg)
  s4.endPart r p 0x0B 0

/-- R131: why a restore fails, as the status code of LOST_CAUSE: its read's own, TIER_ERROR of a poisoned block (R176), or
STATE_LOST where CHECK or STATUS is wrong (DESIGN CHOICE, log entry 26). -/
def State.restoreCause (s : State) (a : Nat) (res : HomeRead) : Option Nat :=
  match res with
  | .tierTimeout => some 5
  | .tierError => some 6
  | .read =>
    if s.poisoned a (64 + slotStateBytes (s.peek a 64)) then some 6
    else if s.slotHomeOk a then none else some 0x0B

/-- R129 to R131: a restore finishes or fails. Where it would stage over another slot's buffer copy, that one is swapped out
first and the restore finishes later (R130). -/
def State.restoreDone (s : State) (a : Nat) (res : HomeRead) : State :=
  match s.slotAt a with
  | none => s
  | some y =>
    if y.phase ≠ 3 ∨ s.fetching a (64 + slotStateBytes (s.peek a 64)) then s
    else match y.target with
      | none => { s with slots := s.slots.drop a }
      | some (r, p) => match s.restoreCause a res with
        | some cause => s.restoreFailed a y r p cause
        | none =>
          let h := s.peek a 64
          let (s0, ready) := s.guardSlots y.tg [(y.toff, slotCopyBytes h)] none
          if !ready then s0
          else
            let s1 := s0.stageSlot a y.tg y.toff h
            let sync := fieldLE h 8 4
            let units := match s1.req r with | some q => q.units | none => []
            let s2 := if sync < 8192 then s1.signal ⟨sync, 2, 1⟩ units else s1
            let y1 := { y with g := y.tg, off := y.toff, phase := 1, chunk := none, steps := 0, stag := 0, chunkLen := 0 }
            { (s2.bump (Reg.GNT_CNT_STATE_WAIT y.tg)) with slots := s2.slots.put a y1 }

end Sys2Proof.Machine
end

