-- ==== Sys2Proof/Machine/Gauntlet.lean ====
section
/-! DEFINITION. The Gauntlet commands: tiles of every kind reach dispatch, complete (R56) or overrun (R57), and state slots
swap out and are restored (R129, R131). -/

namespace Sys2Proof.Machine

/-! ## Parts that end -/

/-- R483: a self-test slice runs on the Gauntlet that a part holds. -/
def State.partTesting (s : State) (r p : Nat) : Bool :=
  match s.req r with
  | none => false
  | some q => match q.parts[p]? with
    | none => false
    | some x => match x.unit with
      | none => false
      | some g => (s.selfTest (0x10 + g)).running

/-- R480: a part holds a quarantined Gauntlet. -/
def State.partQuarantined (s : State) (r p : Nat) : Bool :=
  match s.req r with
  | none => false
  | some q => match q.parts[p]? with
    | none => false
    | some x => match x.unit with
      | none => false
      | some g => s.quarantined (0x10 + g) && !x.tile && x.status.isNone && x.stages.isEmpty

/-- A part whose last command has completed commits its chunks (R128) and ends with OK; a part of a request that is being
stopped ends with that status. -/
def State.partProgress (s : State) (r p : Nat) : State :=
  match s.req r with
  | none => s
  | some q => match q.parts[p]? with
    | none => s
    | some x =>
      if x.tile ∨ x.status.isSome then s
      else if s.partQuarantined r p then s.endPart r p 0x0A 0
      else match q.ending with
        | some st => if x.stages = [] then s.endPart r p st 0 else s
        | none =>
          if x.stop ≤ x.next ∧ x.stages = [] then (s.commitChunks r p).endPart r p 0 0 else s

/-! ## Pre-emption (R220 to R222) -/

/-- R203, R220: a pre-emption of a request for a slot of a frame; it counts once, on however many Gauntlets (the worked example of
08). -/
def State.countPreempt (s : State) (r : Nat) (asker : Nat × Nat) : State :=
  match s.req r with
  | none => s
  | some q =>
    if q.preemptFor = some asker then s
    else (s.putReq r { q with preempts := q.preempts + 1, preemptFor := some asker }).bump Reg.QUE_CNT_PREEMPT

/-- A Gauntlet at a tile boundary that a slot's lead claims parks its part; with no held bank it is released at once. -/
def State.parkGnt (s : State) (g : Nat) : State :=
  let y := s.gntOf g
  match y.owner with
  | none => s.setGnt g { y with phase := 0 }
  | some rp =>
    let s1 := s.countPreempt rp.1 y.asker
    match y.bank with
    | none => (s1.setGnt g { y with owner := none, parked := some rp, parkedBank := none, phase := 0 }).showGnt g
    | some b =>
      ((s1.setGnt g { y with parked := some rp, parkedBank := some b, phase := 2 }).setBank g none).showGnt g

/-- R220: pre-emption of the best-effort part that runs on Gauntlet `g`, at its next tile boundary; one whose bank is being
restored is pre-empted once it has been. -/
def State.preemptGnt (s : State) (g : Nat) (asker : Nat × Nat) : State :=
  let y := s.gntOf g
  match y.owner with
  | none => s
  | some (r, _) => match s.req r with
    | none => s
    | some q =>
      if s.ctxRt q.ctx ∨ y.phase ≠ 0 then s
      else if y.tile.isSome then s.setGnt g { y with phase := 1, asker := asker }
      else (s.setGnt g { y with asker := asker }).parkGnt g

/-- R71, R220: a slot's lead takes the Gauntlets that it claims from best-effort attention calls: work items that run on them
complete, and no further one starts there. -/
def State.preemptCalls (s : State) (n k : Nat) : State :=
  each s.att.entries (fun t e =>
    let gone := e.2.gnts.filter (s.slotClaims n)
    match t.req e.2.req with
    | none => t
    | some q =>
      if gone = [] ∨ s.ctxRt q.ctx then t
      else ({ t with att := t.att.put e.1 { e.2 with
        gnts := e.2.gnts.filter (fun g => !s.slotClaims n g), draining := e.2.draining + gone.length } }).countPreempt
          e.2.req (n, k)) s

/-! ## The end of a tile -/

/-- The result of a tile by its OPCODE. -/
def State.tileResult (s : State) (g ctx : Nat) (t : Tile) : State :=
  let op := fieldLE t.desc 0 1
  if op = 0x10 then s.matrixResult g ctx t
  else if op = 0x40 then s.scanResult g ctx t
  else s.winResult g ctx t

/-- The tile has left the Gauntlet. -/
def State.clearTile (s : State) (g r p : Nat) : State :=
  let s1 := s.setGnt g { s.gntOf g with tile := none }
  (match s1.req r with
    | none => s1
    | some q => match q.parts[p]? with
      | none => s1
      | some x => s1.putReq r (q.setPart p { x with tile := false })).showGnt g

/-- R56: a tile completes. -/
def State.tileComplete (s : State) (g : Nat) : State :=
  match (s.gntOf g).tile with
  | none => s
  | some t =>
    let ctx := s.fld (Reg.GNT_STATE g) 8 8
    let s0 := (s.tileResult g ctx t).clearTile g t.req t.part
    let s1 := if fieldLE t.desc 0 1 = 0x40 then s0.commitEnded t.req t.part t.desc else s0
    let s2 := s1.partProgress t.req t.part
    let y := s2.gntOf g
    let s3 := if y.phase = 1 then
        (if y.owner.isSome then s2.parkGnt g else s2.setGnt g { y with phase := 0 }) else s2
    let s4 := s3.setRegN (Reg.GNT_TILE_CYC g) t.cost
    (s4.setReg (Reg.GNT_CNT_BUSY g) (s.reg (Reg.GNT_CNT_BUSY g) + BitVec.ofNat 64 t.cost)).setReg
      (Reg.GNT_CNT_TILES g) (s.reg (Reg.GNT_CNT_TILES g) + 1)

/-- R57: a tile that overruns is stopped; its outputs are unspecified, its held bank is lost and its context is torn
down. The record's UNIT is the Gauntlet's gate identifier, so that the TEST action of its class has a unit to test (DESIGN
CHOICE, log entry 81: R57 states no UNIT). GNT_CNT_BUSY counts the cycles until the stop. -/
def State.tileOverrun (s : State) (g : Nat) : State :=
  match (s.gntOf g).tile with
  | none => s
  | some t =>
    let ctx := s.fld (Reg.GNT_STATE g) 8 8
    let s1 := each (tileWrites t.desc) (fun u w => u.ghavoc g w.1 w.2) s
    let s2 := (s1.setBank g none).clearTile g t.req t.part
    let s3 := s2.record 2 6 8 g (some ctx) (0x10 + g) 0
    let s4 := s3.endPart t.req t.part 8 0
    let y := s4.gntOf g
    let s5 := if y.phase = 1 then s4.setGnt g { y with phase := 0 } else s4
    (s5.setReg (Reg.GNT_CNT_OVERRUN g) (s.reg (Reg.GNT_CNT_OVERRUN g) + 1)).setReg (Reg.GNT_CNT_BUSY g)
      (s.reg (Reg.GNT_CNT_BUSY g) + BitVec.ofNat 64 (t.est + 64))

/-- A tile of a part reaches dispatch. -/
def State.dispatchTile (s : State) (r p op : Nat) (f : State → Request → Part → Nat → State) : State :=
  let u := s.placePart r p
  if u.partTesting r p then u
  else if u.partQuarantined r p then u.endPart r p 0x0A 0
  else u.nextCommand r p op false f

/-! ## The commands -/

/-- MATRIX_TILE (R50, R53, R55). -/
def execMatrixTile (r part : Nat) (s : State) : Host.Outcome State Fault Refusal :=
  done s (s.work (fun u => u.dispatchTile r part 0x10 (fun v q x g => v.matrixDispatch q x g r part)))

/-- TILE_COMPLETE (R56). -/
def execTileComplete (g : Fin 16) (s : State) : Host.Outcome State Fault Refusal :=
  done s (s.work (fun u => u.tileComplete g.val))

/-- TILE_OVERRUN (R57). -/
def execTileOverrun (g : Fin 16) (s : State) : Host.Outcome State Fault Refusal :=
  done s (s.work (fun u => u.tileOverrun g.val))

/-- CONVOLUTION_TILE (R96). -/
def execConvolutionTile (r part : Nat) (s : State) : Host.Outcome State Fault Refusal :=
  done s (s.work (fun u => u.dispatchTile r part 0x30 (fun v q x g => v.winDispatch q x g r part)))

/-- POOLING_TILE (R106). -/
def execPoolingTile (r part : Nat) (s : State) : Host.Outcome State Fault Refusal :=
  done s (s.work (fun u => u.dispatchTile r part 0x34 (fun v q x g => v.winDispatch q x g r part)))

/-- SCAN_TILE (R117). -/
def execScanTile (r part : Nat) (s : State) : Host.Outcome State Fault Refusal :=
  done s (s.work (fun u => u.dispatchTile r part 0x40 (fun v q x g => v.scanDispatch q x g r part)))

/-- SLOT_SWAP_OUT_DONE (R129). -/
def execSlotSwapOutDone (slot : Nat) (s : State) : Host.Outcome State Fault Refusal :=
  done s (s.work (fun u => u.swapOutDone slot))

/-- SLOT_RESTORE_DONE (R129, R131). -/
def execSlotRestoreDone (slot : Nat) (res : HomeRead) (s : State) : Host.Outcome State Fault Refusal :=
  done s (s.work (fun u => u.restoreDone slot res))

end Sys2Proof.Machine
end

