-- ==== Sys2Proof/Machine/GusBase.lean ====
section
/-! DEFINITION. When a Gusset unit may take a job (R219, R220, R224), and its effective deadline (R328). -/

namespace Sys2Proof.Machine

/-- Nanoseconds of Gusset cycles: 700 MHz, or 350 MHz when the Crown is throttled. -/
def State.gusNs (s : State) (cycles : Nat) : Nat := ceilDiv (cycles * (if s.brm.gusHot then 20 else 10)) 7

/-! ## Units -/

/-- R224, R226, R483: nanoseconds until the lead of the next valid slot of the active table that claims unit bit `k`: in the frame
in progress, or in the one that follows skipped frames. -/
def State.nextLeadOf (s : State) (k : Nat) : Option Nat :=
  let at_ := match s.que.cadNext with | some j => s.sinceFrame j | none => s.inFrame
  let leads := (List.range 256).filterMap (fun n =>
    let lo := s.regN (Reg.CAD_SLOT_LO s.cadTable n)
    if s.bit Reg.CAD_CTRL 0 ∧ lo.testBit 40 ∧ s.slotClaims n k then
      let left : Int := 1000 * bits lo 0 16 - 8000 - at_
      some (if 0 ≤ left then left else left + s.frameLen).toNat
    else none)
  leads.foldl (fun b x => match b with | none => some x | some y => some (Nat.min x y)) none

/-- R224: nanoseconds until the lead of the next valid slot of the active table that claims Gusset `u`. -/
def State.nextLead (s : State) (u : Nat) : Option Nat := s.nextLeadOf (16 + u)

/-- R219, R220, R224, R480: unit `u` may take a job of context `c` with this full cost. -/
def State.gusFree (s : State) (c u cost : Nat) : Bool :=
  (s.gus.jobs.find u).isNone && s.que.reqs.entries.all (fun e => !e.2.units.contains (0x88 + u)) &&
  s.gateOn (0x88 + u) && !s.quarantined (0x88 + u) &&
  !(s.selfTest (0x88 + u)).running && s.cadAllows c (16 + u) &&
  (s.ctxRt c || (match s.nextLead u with | none => true | some t => decide (s.gusNs cost < t)))

/-- The unit that takes a waiting job now: the lowest one that may (DESIGN CHOICE, log entry 63). -/
def State.gusUnit (s : State) (q : Request) : Option Nat :=
  let d := s.peek q.cmdAddr 128
  let prog := s.peek (fieldLE d 0x40 8) (32 * Nat.min 4096 (fieldLE d 0x10 4))
  firstIdx 2 (fun u => s.gusFree q.ctx u (gusFullCost d prog))

/-- R328: the effective deadline of a job of context `c` on unit `u`. -/
def State.gusDeadline (s : State) (c u : Nat) (d : Bytes) : Option Nat :=
  let own := if fieldLE d 0x60 8 = 0 then none else some (fieldLE d 0x60 8)
  if !s.ctxRt c then own
  else match s.que.open_.find? (fun n => s.slotClaims n (16 + u) && s.slotCtx n == c) with
    | none => own
    | some n =>
      let lo := s.regN (Reg.CAD_SLOT_LO s.cadTable n)
      let stop := ((s.now : Int) + 1000 * (bits lo 0 16 + bits lo 16 16) - s.inFrame - 1000).toNat
      some (match own with
        | none => stop
        | some t => Nat.min t stop)

end Sys2Proof.Machine
end

