-- ==== Sys2Proof/Machine/Queues.lean ====
section
/-! DEFINITION. Queues, sync objects and the scheduler (08_queues_and_scheduler.md): doorbells, acceptance, dispatch, stage
and copy transfers, cancels, the cadence table, pre-emption, teardown and reset of contexts. -/

namespace Sys2Proof.Machine

/-! ## Doorbells (R194, R195) -/

/-- Head of a ring. -/
def State.ringHead (s : State) (r : Nat) : Nat := s.fld (Reg.QUE_RING_PTR r) 0 32

/-- Tail of a ring. -/
def State.ringTail (s : State) (r : Nat) : Nat := s.fld (Reg.QUE_RING_PTR r) 32 32

/-- LOG2_SIZE of a ring. -/
def State.ringLog2 (s : State) (r : Nat) : Nat := s.fld (Reg.QUE_RING_CFG r) 0 5

/-- R195: a doorbell write that is discarded. -/
def State.doorbellBad (s : State) (r tail : Nat) : Bool :=
  !s.bit (Reg.QUE_RING_CFG r) 8 ||
  decide (signed 32 (tail + 2 ^ 32 - s.ringTail r) < 0) ||
  decide (2 ^ s.ringLog2 r < (tail + 2 ^ 32 - s.ringHead r) % 2 ^ 32)

/-- The rings with descriptors waiting, kept in ascending order. -/
def State.ringWaits (s : State) (r : Nat) : State :=
  let rest := s.que.waitRings.filter (fun x => !(x == r))
  let ws := if s.ringHead r = s.ringTail r then rest else insertAsc r rest
  { s with que := { s.que with waitRings := ws } }

/-- R194, R195: a new tail is taken or discarded. -/
def State.doorbell (s : State) (r tail : Nat) : State :=
  if s.doorbellBad r tail then (s.orReg Reg.QUE_REJECT 64).setReg Reg.QUE_CNT_DB_BAD (s.reg Reg.QUE_CNT_DB_BAD + 1)
  else
    let s1 := s.setFld (Reg.QUE_RING_PTR r) 32 32 tail
    s1.ringWaits r

/-! ## Acceptance (R199, R211 to R213) -/

/-- Requests in flight. -/
def State.inflight (s : State) : Nat := s.que.reqs.entries.length

/-- R211: why a ring may not be accepted from now: 0 it may, 1 its context's limit, 2 the best-effort limit, 3 the device
limit. -/
def State.limitOf (s : State) (r : Nat) : Nat :=
  let c := r / 64
  if 4096 ≤ s.inflight then 3
  else if !s.ctxRt c && decide (4096 - s.fld Reg.QUE_RT_RESERVE 0 13 ≤ s.inflight) then 2
  else if s.fld (Reg.QUE_CTX_CFG c) 16 13 ≤ s.inflightOf c then 1
  else 0

/-- R213: whether ring `a` is accepted from before ring `b`. -/
def State.ringBefore (s : State) (a b : Nat) : Bool :=
  let rtA := s.ctxRt (a / 64)
  let rtB := s.ctxRt (b / 64)
  let pa := s.fld (Reg.QUE_RING_CFG a) 16 4
  let pb := s.fld (Reg.QUE_RING_CFG b) 16 4
  let la := SMap.get (fun _ => 0) s.que.lastAccept a
  let lb := SMap.get (fun _ => 0) s.que.lastAccept b
  if rtA != rtB then rtA
  else if pa ≠ pb then decide (pb < pa)
  else if la ≠ lb then decide (la < lb)
  else decide (a < b)

/-- A descriptor of the ring is being read: its block, or one of its lists', is on its way. -/
def State.ringReading (s : State) (r : Nat) : Bool := s.umr.waits.any (fun w => w.req == 0 && w.idx == r)

/-- Rings that the scheduler may read: enabled, with descriptors waiting none of which is being read, of a context that is neither
tearing down nor faulted (R228, R229). -/
def State.openRings (s : State) : List Nat :=
  s.que.waitRings.filter (fun r => s.bit (Reg.QUE_RING_CFG r) 8 && !(s.ringHead r == s.ringTail r) && !s.ringReading r &&
    decide (s.fld (Reg.QUE_CTX_STATE (r / 64)) 0 2 < 2))

/-- R213: the ring to accept from. -/
def State.chooseRing (s : State) : Option Nat :=
  (s.openRings.filter (fun r => s.limitOf r == 0)).foldl (fun best r => match best with
    | none => some r
    | some b => if s.ringBefore r b then some r else some b) none

/-- KIND of the KIND table (R198). -/
def kindKnown (k : Nat) : Bool := (decide (1 ≤ k) && decide (k ≤ 8)) || (decide (0x10 ≤ k) && decide (k ≤ 0x1F))

/-- Largest CMD_COUNT of a KIND (R198). -/
def kindMax (k : Nat) : Nat := if k = 1 then 65536 else if k = 3 then 256 else if k = 7 then 4096 else 1

/-- One sync list entry (R208). -/
def State.syncEntry (s : State) (a : Nat) : SyncEntry := ⟨s.peekN a 4, s.peekN (a + 4) 1, s.peekN (a + 8) 8⟩

/-- R199, R210: a sync list entry is well formed at its position and its object usable. -/
def State.entryOk (s : State) (c a : Nat) (isWait : Bool) : Bool :=
  let e := s.syncEntry a
  s.peekN (a + 5) 3 == 0 && (if isWait then e.op == 0 else e.op == 1 || e.op == 2) && s.syncUsable c e.id

/-- The part table of a descriptor, as (address, bytes): none where its count or its place is out of range. -/
def partTable (d : Bytes) : Option (Nat × Nat) :=
  let parts := fieldLE d 6 1
  let a := fieldLE d 0x38 8
  if 0 < parts ∧ parts ≤ 32 ∧ a % 4 = 0 then some (a, 4 * parts) else none

/-- The sync list of a descriptor, as (address, bytes). -/
def syncList (d : Bytes) : Option (Nat × Nat) :=
  let nw := fieldLE d 2 1
  let ns := fieldLE d 3 1
  let a := fieldLE d 0x18 8
  if 0 < nw + ns ∧ nw ≤ 4 ∧ ns ≤ 2 ∧ a % 16 = 0 then some (a, 16 * (nw + ns)) else none

/-- The command of a SCHED descriptor, as (address, bytes). -/
def schedBlock (d : Bytes) : Option (Nat × Nat) :=
  if fieldLE d 0 1 = 8 ∧ fieldLE d 0x10 8 % 32 = 0 then some (fieldLE d 0x10 8, 32) else none

/-- R516: what is read with a descriptor at its acceptance. -/
def acceptLists (d : Bytes) : List (Nat × Nat) :=
  (partTable d).toList ++ (syncList d).toList ++ (schedBlock d).toList

/-- A range that context `c` can read without error: allowed by R168 and with no poisoned block. -/
def State.readable (s : State) (c a n : Nat) : Bool := (s.accessFault c a n false).isNone && !s.poisoned a n

/-- Checks of a descriptor alone, as QUE_REJECT bits (R199, R227). -/
def State.descMask (s : State) (c : Nat) (d : Bytes) : Nat :=
  let b (o : Nat) : Nat := fieldLE d o 1
  let kind := b 0
  let nw := b 2
  let ns := b 3
  let parts := b 6
  let cc := fieldLE d 0x0C 4
  let known := kindKnown kind
  let alignBad := fieldLE d 0x10 8 % 32 != 0 || (decide (0 < nw + ns) && fieldLE d 0x18 8 % 16 != 0) ||
    (decide (0 < parts) && fieldLE d 0x38 8 % 4 != 0)
  let rangeBad := decide (4 < nw) || decide (2 < ns) || decide (32 < parts) || (decide (7 < b 4) && b 4 != 0xFF) ||
    (known && (decide (cc < 1) || decide (kindMax kind < cc))) || (parts != 0 && kind != 1)
  let aff := if b 5 % 16 = 0 then 15 else b 5 % 16
  let affBad := s.bit Reg.QUE_MODE 0 && (aff &&& s.fld (Reg.QUE_PART_CFG (s.ctxPart c)) 0 4) == 0
  b2n (!known) + b2n rangeBad * 2 + b2n alignBad * 4 + b2n (kind == 8 && fieldLE d 8 4 != 0) * 16 + b2n affBad * 32 +
    b2n (bits (b 1) 3 5 != 0 || bits (b 5) 4 4 != 0 || b 7 != 0) * 128

/-- Checks of a descriptor's part table, sync list and SCHED command, as QUE_REJECT bits (R199). -/
def State.listMask (s : State) (c : Nat) (d : Bytes) : Nat :=
  let cc := fieldLE d 0x0C 4
  let nw := fieldLE d 2 1
  let ns := fieldLE d 3 1
  let partBad := match partTable d with
    | none => false
    | some (a, n) => s.readable c a n && (let parts := n / 4
        let entry (i : Nat) : Nat := s.peekN (a + 4 * i) 4
        entry 0 != 0 || (List.range parts).any (fun i => decide (cc ≤ entry i)) ||
          (List.range (parts - 1)).any (fun i => decide (entry (i + 1) ≤ entry i)))
  let syncBad := match syncList d with
    | none => false
    | some (a, n) => s.readable c a n && ((List.range nw).any (fun i => !s.entryOk c (a + 16 * i) true) ||
        (List.range ns).any (fun i => !s.entryOk c (a + 16 * (nw + i)) false))
  let sched := match schedBlock d with
    | none => 0
    | some (a, n) => if !s.readable c a n then 0 else
        let op := s.peekN a 1
        b2n ((op == 0x0C && (s.peekN (a + 1) 3 != 0 || s.peekN (a + 8) 24 != 0)) || (op == 0x0D && s.peekN (a + 1) 31 != 0)) * 128 +
          b2n (!(op == 0x0C || op == 0x0D)) * 512
  b2n partBad * 2 + b2n syncBad * 8 + sched

/-- Acceptance checks, as QUE_REJECT bits (R199, R227). `d` is the descriptor, `c` the context. -/
def State.acceptMask (s : State) (c : Nat) (d : Bytes) : Nat := s.descMask c d ||| s.listMask c d

/-- The parts of an accepted GAUNTLET request (R198, R206); a COPY request is kept as one part. -/
def State.partsOf (s : State) (d : Bytes) : List Part :=
  let parts := fieldLE d 6 1
  let cc := fieldLE d 0x0C 4
  let pad := fieldLE d 0x38 8
  let cmd := fieldLE d 0x10 8
  let mk (first stop : Nat) : Part :=
    { first := first, stop := stop, next := first, addr := cmd, unit := none, stages := [], tile := false,
      status := none, detail := 0 }
  if parts = 0 then [mk 0 cc]
  else tab parts (fun i => mk (s.peekN (pad + 4 * i) 4) (if i + 1 < parts then s.peekN (pad + 4 * (i + 1)) 4 else cc))

/-- The request that a descriptor makes; a refused one keeps only the signal entries that it may mark (R210). -/
def State.requestOf (s : State) (ring index : Nat) (d : Bytes) (refused : Bool) : Request :=
  let b (o : Nat) : Nat := fieldLE d o 1
  let c := ring / 64
  let nw := b 2
  let ns := b 3
  let syn := fieldLE d 0x18 8
  let cmd := fieldLE d 0x10 8
  let readable := match syncList d with
    | some (a, n) => s.readable c a n
    | none => false
  let sigAddrs := (List.range ns).map (fun i => syn + 16 * (nw + i))
  let sigs := if refused then
      (if readable then (sigAddrs.filter (fun a => s.entryOk c a false)).map s.syncEntry else [])
    else sigAddrs.map s.syncEntry
  let kind := b 0
  { ring := ring, index := index, ctx := c, kind := kind, flags := b 1, oppt := b 4, affinity := b 5,
    tag := fieldLE d 8 4, cmdCount := fieldLE d 0x0C 4, cmdAddr := cmd, deadline := fieldLE d 0x20 8,
    soloEst := fieldLE d 0x28 8, user := fieldLE d 0x30 8,
    waits := if refused then [] else tab nw (fun i => s.syncEntry (syn + 16 * i)), sigs := sigs,
    nParts := if b 6 ≤ 32 then b 6 else 0, parts := if refused then [] else s.partsOf d, phase := .waiting, startNs := 0,
    started := false, preempts := 0, palms := 0, regulated := false, migrate := false, fallback := false,
    stalls := [], preemptFor := none, units := [], ending := none,
    schedOp := if kind = 8 then s.peekN cmd 1 else 0, schedTag := if kind = 8 then s.peekN (cmd + 4) 4 else 0,
    tails := if kind = 8 then (List.range 64).map (fun k => (64 * c + k, s.ringTail (64 * c + k))) else [],
    covers := [], outs := [] }

/-- One more stall of acceptance (R212). -/
def State.stall (s : State) : State := s.bump Reg.QUE_CNT_BACKPRESSURE

/-- R212: acceptance stops where a limit is reached: the flags, which show the best-effort and the device limit, and, once for each
stall, the counter. -/
def State.backpressure (s : State) : State :=
  let hit (k : Nat) : Bool := s.openRings.any (fun r => s.limitOf r == k)
  let s1 := if hit 3 && !s.que.stalledAll then
      (let u := (s.orReg Reg.QUE_STATE (2 ^ 17)).stall
       { u with que := { u.que with stalledAll := true } }) else s
  let s2 := if hit 2 && !s.que.stalledBe then
      (let u := (s1.orReg Reg.QUE_STATE (2 ^ 16)).stall
       { u with que := { u.que with stalledBe := true } }) else s1
  let cs := ((s.openRings.filter (fun r => s.limitOf r == 1)).map (· / 64)).eraseDups
  each (cs.filter (fun c => !s.que.stalledCtx.contains c)) (fun t c =>
    let u := t.stall
    { u with que := { u.que with stalledCtx := u.que.stalledCtx ++ [c] } }) s2

/-- R230: an executed cancel covers a descriptor that is accepted after it. -/
def State.coveredBy (s : State) (c tag ring index : Nat) : Bool :=
  tag != 0 && s.que.cancels.any (fun k => k.ctx == c && k.tag == tag &&
    k.tails.any (fun e => e.1 == ring && decide (0 < signed 32 (e.2 + 2 ^ 32 - index))))

/-- The scheduler has passed the descriptor at a ring's head (R196, R213). -/
def State.passHead (s : State) (r : Nat) : State :=
  let s1 := (s.setFld (Reg.QUE_RING_PTR r) 0 32 ((s.ringHead r + 1) % 2 ^ 32)).ringWaits r
  { s1 with que := { s1.que with
    clock := s1.que.clock + 1, lastAccept := SMap.set (fun _ => 0) s1.que.lastAccept r (s1.que.clock + 1) } }

/-- A descriptor as it stands for one that cannot be read: its KIND and USER are free values, every other field is zero (DESIGN
CHOICE, log entry 37). -/
def State.unreadDesc (s : State) : Bytes :=
  tab 64 (fun i => if i = 0 ∨ (0x30 ≤ i ∧ i < 0x38) then Config.freeByte (s.fresh + i) else 0)

/-- R168, R176, R183: the read of a descriptor, or of a list or command that belongs to it, ends with a status: so does the request,
which runs nothing. CONTEXT_FAULT tears its context down. -/
def State.acceptLost (s : State) (r st : Nat) (d : Bytes) : State :=
  let q := s.requestOf r (s.ringHead r) d true
  let s1 := (s.passHead r).finishReq s.que.nextReq q st (if st = 8 then 8 else 0) 0 false
  (if st = 8 then s1.teardown (r / 64) st none else s1).settled

/-- R168, R176, R515, R516: a descriptor's lists are read through the Crown's translation cache: the first status that is not OK
and the blocks that they wait for. -/
def State.readLists (s : State) (c : Nat) (d : Bytes) : State × AccessResult :=
  (acceptLists d).foldl (fun (acc : State × AccessResult) x =>
    if acc.2.status ≠ 0 then acc
    else
      let (t, w) := acc.1.accessRead c 5 x.1 x.2 none
      (t, ⟨w.status, acc.2.waits ++ w.waits, acc.2.later || w.later⟩)) (s, ⟨0, [], false⟩)

/-- R199: a descriptor is refused: its record, its bits and its address. -/
def State.acceptRefused (s : State) (r : Nat) (d : Bytes) (addr mask : Nat) : State :=
  let q := s.requestOf r (s.ringHead r) d true
  let s1 := ((s.passHead r).finishReq s.que.nextReq q 9 0 0 false).settled
  (s1.reject Reg.QUE_REJECT Reg.QUE_REJECT_DESC mask addr).setReg Reg.QUE_CNT_REFUSED (s.reg Reg.QUE_CNT_REFUSED + 1)

/-- R211: a descriptor is accepted: its request is in flight, unless a cancel covers it (R230). -/
def State.acceptTaken (s : State) (r : Nat) (d : Bytes) : State :=
  let index := s.ringHead r
  let q := s.requestOf r index d false
  let n := s.que.nextReq
  let s1 := s.passHead r
  let s2 := { s1 with que := { s1.que with nextReq := n + 1 } }
  let s3 := (s2.putReq n q).countInflight (r / 64)
  let s4 := if s.coveredBy (r / 64) q.tag r index then s3.finishReq n q 7 0 0 false else s3
  s4.settled.setReg Reg.QUE_CNT_ACCEPT (s.reg Reg.QUE_CNT_ACCEPT + 1)

/-- Address of the descriptor at a ring's head (R194). -/
def State.headAddr (s : State) (r : Nat) : Nat := s.regN (Reg.QUE_RING_BASE r) + (s.ringHead r % 2 ^ s.ringLog2 r) * 64

/-- R199, R516: a descriptor that has been read is checked, with its lists where its own fields are in order; it is accepted,
refused, lost, or waits for blocks of its lists. -/
def State.acceptDesc (s : State) (r : Nat) (d : Bytes) : State :=
  let c := r / 64
  let (s1, w) := if s.descMask c d = 0 then s.readLists c d else (s, ⟨0, [], false⟩)
  if w.status ≠ 0 then s1.acceptLost r w.status d
  else if !w.ready then s1.newWaits w.waits 0 0 r
  else if s1.acceptMask c d ≠ 0 then s1.acceptRefused r d (s1.headAddr r) (s1.acceptMask c d)
  else s1.acceptTaken r d

/-- R199 to R213, R515, R516: the next descriptor of a ring is read through the Crown's translation cache, and checked once its
block is there. -/
def State.acceptFrom (s : State) (r : Nat) : State :=
  let a := s.headAddr r
  let (s1, w) := s.accessRead (r / 64) 5 a 64 none
  if w.status ≠ 0 then (s1.acceptLost r w.status s1.unreadDesc).freshN 64
  else if !w.ready then s1.newWaits w.waits 0 0 r
  else s1.acceptDesc r (s1.peek a 64)

/-- REQUEST_ACCEPT. -/
def State.requestAccept (s : State) : State :=
  let s1 := s.applyShadow Reg.QUE_RT_RESERVE
  match s1.chooseRing with
  | none => s1.backpressure
  | some r => (s1.acceptFrom r).backpressure

/-! ## Dispatch (R197, R204, R209) -/

/-- R197: an earlier request of the ring is still in flight. -/
def State.fenced (s : State) (r : Nat) (q : Request) : Bool :=
  q.flags.testBit 0 && s.que.reqs.entries.any (fun e => e.2.ring == q.ring && decide (e.1 < r))

/-- A waiting request may be dispatched: its waits are satisfied, its fence is clear, its context is not tearing down. -/
def State.dispatchable (s : State) (r : Nat) (q : Request) : Bool :=
  q.phase == .waiting && s.waitsMet q.waits && !s.fenced r q && decide (s.fld (Reg.QUE_CTX_STATE q.ctx) 0 2 < 2)

/-- R204, R265: the DEADLINE of a request has passed. -/
def State.deadlinePassed (s : State) (q : Request) : Bool := q.deadline != 0 && due s.now q.deadline

/-- A request starts: it holds its engine from now on (R203, RUN_NS). -/
def Request.started_ (q : Request) (now : Nat) : Request :=
  { q with phase := .running, started := true, startNs := now }

/-- Bytes of the one command of a request, by KIND and OPCODE (R198); none of a list, of a SCHED command, which has been read, and of a
KIND that no chapter gives commands. -/
def blockSize (kind op : Nat) : Nat :=
  if kind = 2 ∨ kind = 4 ∨ kind = 5 ∨ kind = 0x10 then 128
  else if kind = 6 ∨ kind = 0x12 ∨ kind = 0x14 then 32
  else if kind = 0x13 then 64
  else if kind = 0x11 then (if op = 0x80 then 128 else if op = 0x82 then 64 else 32)
  else 0

/-- R168, R176, R515, R516: the one command of a request is read through the Crown's translation cache. -/
def State.readBlock (s : State) (r : Nat) (q : Request) : State × AccessResult :=
  let n := blockSize q.kind (s.peekN q.cmdAddr 1)
  if n = 0 then (s, ⟨0, [], false⟩) else s.accessRead q.ctx 5 q.cmdAddr n (some r)

/-- R209: a request whose command has been read goes to its engine. A job and a launch wait in their ring for a unit (R224, R147:
`room`). A request of KIND 0x15 to 0x1F ends with BAD_DESCRIPTOR, since no chapter gives these KINDs an OPCODE (R517). -/
def State.engage (s : State) (r : Nat) (q : Request) (room : State → Request → Bool) : State :=
  if 0x15 ≤ q.kind then (s.putReq r (q.started_ s.now)).endReq r 9 0 false
  else if q.kind = 0x10 then
    (match s.gusUnit q with
      | none => s
      | some u => s.putReq r { q.started_ s.now with units := [0x88 + u] })
  else if q.kind = 5 ∧ room s q = false then s
  else s.putReq r (q.started_ s.now)

/-- R209: dispatch of a request to its engine, once its command has been read. -/
def State.requestDispatch (s : State) (r : Nat) (room : State → Request → Bool) : State :=
  match s.req r with
  | none => s
  | some q =>
    if !s.dispatchable r q || s.umr.waits.any (fun w => w.req == r) then s
    else if s.deadlinePassed q then s.endReq r 4 0 false
    else
      let (s1, w) := s.readBlock r q
      if w.status ≠ 0 then s1.endReq r w.status 0 false
      else if !w.ready then s1.newWaits w.waits r 0 0
      else s1.engage r q room

/-- R204: a waiting request whose DEADLINE passes ends without running. -/
def State.requestDeadline (s : State) (r : Nat) : State :=
  match s.req r with
  | none => s
  | some q => if q.phase = .waiting ∧ s.deadlinePassed q then s.endReq r 4 0 false else s

/-! ## Stage and copy transfers (R200 to R202) -/

/-- What a memory read met on the copy it used (R186, R187). -/
def State.meetRead (s : State) (a n : Nat) (res : MemRead) : State :=
  match res with
  | .clean => s
  | .corrected => s.corrected (s.tierOf (pageOf a) (blockIn a))
  | .uncorrectable =>
    if n = 0 then s
    else match s.page (pageOf a) with
      | none => s
      | some p => s.uncorrectable (pageOf a) (blockIn a) (p.resident.testBit (blockIn a))

/-- Access `k` of a request waits on a bandwidth regulator: REGULATED is set and the wait is timed (R215). -/
def State.regulate (s : State) (r k : Nat) : State :=
  match s.req r with
  | none => s
  | some q => s.putReq r { q with
      regulated := true, stalls := if q.stalls.any (fun e => e.1 == k) then q.stalls else q.stalls ++ [(k, s.now)] }

/-- Access `k` of a request starts: the time it waited on regulators is charged to its partition (R215). -/
def State.unregulate (s : State) (r k : Nat) : State :=
  match s.req r with
  | none => s
  | some q => match q.stalls.find? (fun e => e.1 == k) with
    | none => s
    | some e => (s.putReq r { q with stalls := q.stalls.filter (fun x => !(x.1 == k)) }).stalled (s.ctxPart q.ctx) e.2

/-- MIGRATE_WAIT is set in a request where its accesses between two states met a fetch already in flight (R178, R203). -/
def State.noteMigrate (s0 s : State) (r : Nat) : State :=
  if s0.regN Reg.UMR_CNT_WAIT_MIGRATE = s.regN Reg.UMR_CNT_WAIT_MIGRATE then s
  else match s.req r with
    | none => s
    | some q => s.putReq r { q with migrate := true }

/-- The accesses of a transfer have been made: the job is entered, its pages are held, and the blocks that it waits for are noted. -/
def State.startJob (s0 s : State) (r p : Nat) (j : StageJob) (waits : List (Nat × Nat)) (size : Nat) : State :=
  match s.req r with
  | none => s
  | some q => match q.parts[p]? with
    | none => s
    | some x =>
      let s1 := s.putReq r (q.setPart p { x with stages := x.stages ++ [j] })
      let s2 := (State.noteMigrate s0 s1 r).newWaits waits r p j.idx
      let s3 := s2.hold j.addr j.bytes true
      let s4 := if j.dir = 2 then s3.hold j.dst j.bytes true else s3
      (s4.unregulate r p).advancePart r p size

/-- R200, R202: checks of a stage command, as GNT_REJECT bits. The spec names BUFFER for the window; size, alignment and a
DIR that a stage cannot have take it too, non-zero reserved bytes take RESERVED_NZ (DESIGN CHOICE, log entry 29). -/
def State.stageMask (s : State) (c : Nat) (d : Bytes) : Nat :=
  let dir := fieldLE d 1 1
  let off := fieldLE d 4 4
  let a := fieldLE d 8 8
  let n := fieldLE d 0x18 4
  let bufBad := decide (1 < dir) || off % 64 != 0 || a % 64 != 0 || n % 64 != 0 || decide (0x400000 < n) ||
    !s.inWindow c off n
  b2n bufBad * 256 + b2n (fieldLE d 2 2 != 0 || fieldLE d 0x10 8 != 0 || fieldLE d 0x1C 4 != 0) * 1024

/-- R201: a stage may start now: DIR 0 while its region overlaps no region of an earlier command still running, DIR 1 once
every earlier command of the part has completed. -/
def stageMayStart (y : Gnt) (x : Part) (d : Bytes) : Bool :=
  let here := (fieldLE d 4 4, fieldLE d 0x18 4)
  if fieldLE d 1 1 = 0 then
    (match y.tile with | none => true | some t => !(t.regions.any (fun w => overlaps w here))) &&
    !(x.stages.any (fun j => overlaps (j.bufOff, j.bytes) here))
  else y.tile.isNone && x.stages.isEmpty

/-- R168, R176, R177: the unified-range access of a stage transfer is made: it reads its source, or readies its destination. -/
def State.stageAccess (s : State) (q : Request) (g r dir a n : Nat) (res : MemRead) : State × AccessResult :=
  if dir = 0 then (s.meetRead a n res).accessRead q.ctx (g / 4) a n (some r) else s.accessPrep q.ctx (g / 4) a n (some r)

/-- R201: a stage command of a part starts its transfer. -/
def State.stageStart (s0 : State) (q : Request) (x : Part) (g r p : Nat) (res : MemRead) : State :=
  let d := s0.peek x.addr 32
  let mask := s0.stageMask q.ctx d
  if mask ≠ 0 then s0.gntRefuse r p g x.next x.addr mask
  else if !stageMayStart (s0.gntOf g) x d then s0
  else
    let dir := fieldLE d 1 1
    let off := fieldLE d 4 4
    let a := fieldLE d 8 8
    let n := fieldLE d 0x18 4
    let (s1, ready) := if dir = 0 then s0.guardSlots g [(off, n)] none else (s0, true)
    if !ready then s1
    else if !s1.mayAccess q.ctx (g / 4) a n (dir == 1) then s1.regulate r p
    else
      let s2 := s1.drawAll q.ctx (g / 4) a n (dir == 1)
      let (s3, w) := s2.stageAccess q g r dir a n res
      if w.status ≠ 0 then s3.endPart r p w.status x.next
      else State.startJob s2 s3 r p ⟨x.next, dir, off, a, 0, n, s0.now⟩ w.waits 32

/-- STAGE: the next command of a GAUNTLET part is a stage. -/
def State.stage (s : State) (r p : Nat) (res : MemRead) : State :=
  s.nextCommand r p 0x08 true (fun u q x g => u.stageStart q x g r p res)

/-- R200: whether a COPY command is malformed. -/
def copyBad (d : Bytes) : Bool :=
  fieldLE d 1 1 != 2 || fieldLE d 2 2 != 0 || fieldLE d 4 4 != 0 || fieldLE d 0x1C 4 != 0 || fieldLE d 8 8 % 64 != 0 ||
  fieldLE d 0x10 8 % 64 != 0 || fieldLE d 0x18 4 % 64 != 0 || decide (0x10000000 < fieldLE d 0x18 4)

/-- A COPY request that may take its next command now: its commands run one at a time (R200). -/
def State.copyReady (s : State) (r p : Nat) : Option (Request × Part) :=
  match s.req r with
  | none => none
  | some q => match q.parts[p]? with
    | none => none
    | some x =>
      if q.kind = 7 ∧ q.phase = .running ∧ q.ending = none ∧ x.status = none ∧ x.stages = [] ∧ x.next < x.stop ∧
          s.listWaits r p x.next = false
      then some (q, x) else none

/-- R168, R176, R515: a COPY request reads its next command from its list. -/
def State.readCopy (s : State) (r p : Nat) : State :=
  match s.copyReady r p with
  | none => s
  | some (q, x) =>
    let (s1, w) := s.accessRead q.ctx 5 x.addr 32 (some r)
    if w.status ≠ 0 then s1.endPart r p w.status x.next else s1.newWaits w.waits r p x.next

/-- R168, R176, R177: the accesses of a copy are made: it reads its source and readies its destination. -/
def State.copyAccess (s : State) (q : Request) (r a b n : Nat) (res : MemRead) : State × AccessResult :=
  let (s1, w) := (s.meetRead a n res).accessRead q.ctx 5 a n (some r)
  if w.status ≠ 0 then (s1, w)
  else
    let (s2, w2) := s1.accessPrep q.ctx 5 b n (some r)
    (s2, ⟨w2.status, w.waits ++ w2.waits, w2.later⟩)

/-- R200, R517: a COPY command is checked and starts its transfer. -/
def State.copyStart (s : State) (q : Request) (x : Part) (r p : Nat) (res : MemRead) : State :=
  let d := s.peek x.addr 32
  if fieldLE d 0 1 ≠ 8 then (s.endPart r p 9 x.next).orReg Reg.QUE_REJECT 512
  else if copyBad d then s.endPart r p 9 x.next
  else
    let a := fieldLE d 8 8
    let b := fieldLE d 0x10 8
    let n := fieldLE d 0x18 4
    if !(s.mayAccess q.ctx 5 a n false && s.mayAccess q.ctx 5 b n true) then s.regulate r p
    else
      let s1 := (s.drawAll q.ctx 5 a n false).drawAll q.ctx 5 b n true
      let (s2, w) := s1.copyAccess q r a b n res
      if w.status ≠ 0 then s2.endPart r p w.status x.next
      else State.startJob s1 s2 r p ⟨x.next, 2, 0, a, b, n, s.now⟩ w.waits 32

/-- COPY: the next command of a COPY request is read and runs (R200, R516). -/
def State.copy (s : State) (r p : Nat) (res : MemRead) : State :=
  let s0 := s.readCopy r p
  match s0.copyReady r p with
  | none => s0
  | some (q, x) => s0.copyStart q x r p res

/-- R177: what the write of a transfer still waits for. -/
def State.movePrep (s : State) (q : Request) (x : Part) (r : Nat) (j : StageJob) : State × AccessResult :=
  if j.dir = 0 then (s, ⟨0, [], false⟩)
  else if j.dir = 1 then s.accessPrep q.ctx (x.unit.getD 0 / 4) j.addr j.bytes (some r)
  else s.accessPrep q.ctx 5 j.dst j.bytes (some r)

/-- The bytes of a transfer move (R201): the status it meets. -/
def State.moveBytes (s : State) (q : Request) (x : Part) (r : Nat) (j : StageJob) : State × Nat :=
  let g := x.unit.getD 0
  if j.dir = 0 then
    (if s.poisoned j.addr j.bytes then (s, 6) else (s.gwrite g j.bufOff (s.peek j.addr j.bytes), 0))
  else if j.dir = 1 then
    let w := s.accessWrite q.ctx (g / 4) j.addr (s.gread g j.bufOff j.bytes) (some r)
    (w.1, w.2.status)
  else if s.poisoned j.addr j.bytes then (s, 6)
  else
    let w := s.accessWrite q.ctx 5 j.dst (s.peek j.addr j.bytes) (some r)
    (w.1, w.2.status)

/-- A transfer leaves its part, which goes on. -/
def State.endJob (s : State) (x : Part) (r p : Nat) (j : StageJob) : State :=
  match s.req r with
  | none => s
  | some q => (((s.unholdStage j).putReq r
      (q.setPart p { x with stages := x.stages.filter (fun k => !(k.idx == j.idx)) }))).partProgress r p

/-- STAGE_DONE: a transfer that waits for no block completes. -/
def State.stageDone (s : State) (r p i : Nat) : State :=
  match s.req r with
  | none => s
  | some q => match q.parts[p]? with
    | none => s
    | some x => match x.stages.find? (fun j => j.idx == i) with
      | none => s
      | some j =>
        if s.umr.waits.any (fun w => w.req == r && w.part == p && w.idx == i) then s
        else
          let (s1, w) := s.movePrep q x r j
          if w.status ≠ 0 then s1.endPart r p w.status i
          else if !w.ready then s1.newWaits w.waits r p i
          else
            let (s2, st) := s1.moveBytes q x r j
            if st ≠ 0 then s2.endPart r p st i else s2.endJob x r p j

/-! ## SCHED commands (R230) -/

/-- R230: the requests in flight that cancel `r` covers. -/
def State.cancelCovers (s : State) (r : Nat) (q : Request) : List (Nat × Request) :=
  s.que.reqs.entries.filter (fun e => e.1 ≠ r ∧ e.2.ctx = q.ctx ∧ q.schedTag ≠ 0 ∧ e.2.tag = q.schedTag ∧
    q.tails.any (fun t => t.1 == e.2.ring && decide (0 < signed 32 (t.2 + 2 ^ 32 - e.2.index))))

/-- R230: a cancel runs: every covered request of its context ends with CANCELLED, now or at its next boundary; the
cancel itself completes once they have ended. `rollback` undoes the KV sequences tagged with the tag (R84). -/
def State.schedCancel (s : State) (r : Nat) (rollback : State → Nat → Nat → State) : State :=
  match s.req r with
  | none => s
  | some q =>
    if q.kind ≠ 8 ∨ q.schedOp ≠ 0x0C ∨ q.phase ≠ .running ∨ q.covers ≠ [] then s
    else
      let covered := s.cancelCovers r q
      let s1 := s.putReq r { q with covers := covered.map (·.1) }
      let s2 := { s1 with que := { s1.que with cancels := s1.que.cancels ++
        (if q.schedTag = 0 then [] else [⟨r, q.ctx, q.schedTag, q.tails⟩]) } }
      let s3 := if q.schedTag = 0 then s2 else rollback s2 q.ctx q.schedTag
      let s4 := each covered (fun t e => match t.req e.1 with
        | none => t
        | some q1 => match q1.phase with
          | .waiting => t.dropWaiting e.1 q1 7
          | .running => t.stopRunning e.1 7) s3
      s4.settled

/-- R199: a no-operation completes without running an engine. -/
def State.schedNoop (s : State) (r : Nat) : State :=
  match s.req r with
  | none => s
  | some q => if q.kind = 8 ∧ q.schedOp = 0x0D ∧ q.phase = .running then s.endReq r 0 0 false else s

/-! ## The cadence table (R218 to R226) -/

/-- Units that slot `n` of table `t` claims: gate identifiers of its Gauntlets and Gusset units (R445). -/
def State.slotUnits (s : State) (t n : Nat) : List Nat :=
  (List.range 18).filterMap (fun u => if s.bit (Reg.CAD_SLOT_HI t n) u then some (if u < 16 then 0x10 + u else 0x88 + (u - 16))
    else none)

/-- START and end of slot `n` of the active table, in ns of the frame. -/
def State.slotWindow (s : State) (n : Nat) : Int × Int :=
  let lo := s.regN (Reg.CAD_SLOT_LO s.cadTable n)
  (1000 * bits lo 0 16, 1000 * (bits lo 0 16 + bits lo 16 16))

/-- A slot of the active table that may act: the table runs, a frame is in progress and not skipped (R226), and the slot is
valid. -/
def State.slotLive (s : State) (n : Nat) : Bool :=
  s.bit Reg.CAD_CTRL 0 && !s.que.cadFirst && s.que.cadNext.isNone && s.bit (Reg.CAD_SLOT_LO s.cadTable n) 40

/-- R220: the time is in the slot's lead, which for a START below 8 µs begins in the frame before. -/
def State.leadDue (s : State) (n : Nat) : Bool :=
  let w := s.slotWindow n
  (decide (w.1 - 8000 ≤ s.inFrame) && decide (s.inFrame < w.2)) ||
  (!s.que.cadResync && decide (w.1 - 8000 + s.frameLen ≤ s.inFrame))

/-- R219: the time is in the slot. -/
def State.slotDue (s : State) (n : Nat) : Bool :=
  decide ((s.slotWindow n).1 ≤ s.inFrame) && decide (s.inFrame < (s.slotWindow n).2)

/-- Pre-emption of what best-effort contexts run on the units that slot `n` claims. -/
def State.preemptFor (s : State) (n : Nat) : State :=
  iter 16 (fun t g => if t.slotClaims n g then t.preemptGnt g (n, s.regN Reg.CAD_FRAME_CNT) else t)
    (s.preemptCalls n (s.regN Reg.CAD_FRAME_CNT))

/-- R220: the lead of a slot: no more best-effort dispatch on its units, and running best-effort work is pre-empted. -/
def State.slotLead (s : State) (n : Nat) : State :=
  if !s.slotLive n || !s.leadDue n || s.que.lead.contains n || s.que.open_.contains n then s
  else
    let s1 := s.preemptFor n
    { s1 with que := { s1.que with lead := s.que.lead ++ [n] } }

/-- R219, R220: a slot opens; with SYNC_EN its object is SET to the frame number. -/
def State.slotStart (s : State) (n : Nat) : State :=
  if !s.slotLive n || !s.slotDue n || s.que.open_.contains n then s
  else
    let lo := s.regN (Reg.CAD_SLOT_LO s.cadTable n)
    let s1 := s.preemptFor n
    let s2 := if lo.testBit 41 then (s1.signal ⟨bits lo 48 13, 1, s.regN Reg.CAD_FRAME_CNT⟩ []).settled else s1
    { s2 with que := { s2.que with lead := s.que.lead.filter (fun x => !(x == n)), open_ := s.que.open_ ++ [n] } }

/-- R219: the slot's own request on a unit at the slot's end is stopped at its next tile boundary and ends with
DEADLINE. -/
def State.slotOverrun (s : State) (r : Nat) : State :=
  let s1 := (s.orReg Reg.CAD_ERR 32).bump Reg.CAD_CNT_OVERRUN
  let s2 := match s1.req r with
    | none => s1
    | some q => s1.record 1 11 2 0x63 (some q.ctx) 0xFFFF 0
  (s2.stopRunning r 2).settled

/-- The requests of context `c` that run on cadence unit `u`: on a Gauntlet a part or an attention call, on a Gusset its job. -/
def State.unitReqs (s : State) (c u : Nat) : List Nat :=
  let own := if u < 16 then (match (s.gntOf u).owner with | some rp => [rp.1] | none => []) ++
      (s.att.entries.filter (fun e => e.2.gnts.contains u)).map (fun e => e.2.req)
    else (s.que.reqs.entries.filter (fun e => e.2.units.contains (0x88 + (u - 16)))).map (·.1)
  own.filter (fun r => match s.req r with
    | some q => q.ctx == c && q.phase == .running
    | none => false)

/-- A request of context `c` on unit `u` keeps it: another open slot of the context claims the same unit. -/
def State.keepsUnit (s : State) (others : List Nat) (c u : Nat) : Bool :=
  others.any (fun m => s.slotCtx m == c && s.slotClaims m u)

/-- R219: a slot ends, when its time is over or its table no longer runs: what its real-time context still runs on a unit that it
claims is stopped. -/
def State.slotEnd (s : State) (n : Nat) : State :=
  if !s.que.open_.contains n || (s.slotLive n && s.slotDue n) then s
  else
    let c := s.slotCtx n
    let others := s.que.open_.filter (fun x => !(x == n))
    let units := (List.range 18).filter (fun u => s.slotClaims n u && !s.keepsUnit others c u)
    let running := if s.ctxRt c then (units.flatMap (s.unitReqs c)).eraseDups else []
    let s1 := each running (fun t r => t.slotOverrun r) s
    { s1 with que := { s1.que with open_ := others } }

/-- Valid slots of a table as (slot, START, length, context, units). -/
def State.cadSlots (s : State) (t : Nat) : List (Nat × Nat × Nat × Nat × Nat) :=
  (List.range 256).filterMap (fun n =>
    let lo := s.regN (Reg.CAD_SLOT_LO t n)
    if lo.testBit 40 then some (n, bits lo 0 16, bits lo 16 16, bits lo 32 8, s.regN (Reg.CAD_SLOT_HI t n)) else none)

/-- R225: the rules that a table breaks, as CAD_ERR bits. -/
def State.cadErrors (s : State) (t : Nat) : Nat :=
  let len := s.cadLen t
  let sl := s.cadSlots t
  let common (a b : Nat × Nat × Nat × Nat × Nat) : Bool := (a.2.2.2.2 &&& b.2.2.2.2) != 0
  let pairs := sl.flatMap (fun a => (sl.filter (fun b => decide (a.1 < b.1))).map (fun b => (a, b)))
  let disjoint (a b : Nat × Nat × Nat × Nat × Nat) : Bool :=
    decide (a.2.1 + a.2.2.1 ≤ b.2.1) || decide (b.2.1 + b.2.2.1 ≤ a.2.1)
  let near (a b : Nat × Nat × Nat × Nat × Nat) : Bool :=
    let gap (x y : Nat × Nat × Nat × Nat × Nat) : Nat :=
      if x.2.1 + x.2.2.1 ≤ y.2.1 then y.2.1 - (x.2.1 + x.2.2.1) else y.2.1 + len - (x.2.1 + x.2.2.1)
    decide (gap a b < 2) || decide (gap b a < 2)
  b2n (decide (len < 250) || decide (10000 < len)) +
  b2n (sl.any (fun x => decide (len < x.2.1 + x.2.2.1) || decide (x.2.2.1 < 2))) * 2 +
  b2n (sl.any (fun x => !s.ctxRt x.2.2.2.1)) * 4 +
  b2n (pairs.any (fun p => common p.1 p.2 && !disjoint p.1 p.2)) * 8 +
  b2n (pairs.any (fun p => common p.1 p.2 && p.1.2.2.2.1 != p.2.2.2.2.1 && disjoint p.1 p.2 && near p.1 p.2)) * 16

/-- R447: the gates of every unit that a table claims turn on; Brim's sweep restarts and UNCOMMITTED suspends comparison,
unless Brim then commits its own reference (R401). -/
def State.cadGates (s : State) (t : Nat) : State :=
  let units := (s.cadSlots t).flatMap (fun x => s.slotUnits t x.1)
  let (s1, n) := units.foldl (fun (acc : State × Nat) u =>
    let r := acc.1.turnOnPath u
    (r.1, acc.2 + r.2)) (s, 0)
  if n = 0 then s1
  else
    let s2 := s1.add Reg.BRM_CNT_GATE_AUTO_ON n
    let st := s.regN (Reg.CFG_STATUS 0x72)
    let matched := st.testBit 3 && s.fld (Reg.CFG_SIG_NOW 0x72) 0 32 == s.fld (Reg.CFG_SIG_REF 0x72) 0 32
    let s3 := s2.uncommit 0x72
    if matched then s3.orReg (Reg.CFG_STATUS 0x72) 16 else s3

/-- R225: the inactive table is validated and becomes active, or the failing rules are flagged; SWITCH clears. -/
def State.tableSwitch (s : State) : State :=
  let t := 1 - s.cadTable
  let errs := s.cadErrors t
  let s1 := s.setFld Reg.CAD_CTRL 2 1 0
  if errs ≠ 0 then s1.orReg Reg.CAD_ERR errs
  else ((s1.setFld Reg.CAD_CTRL 1 1 t).bump Reg.CAD_CNT_SWITCH).cadGates t

/-- R226: frame `k` starts once its time has come; until then no frame is in progress. -/
def State.enterFrame (s : State) (k : Nat) : State :=
  let s1 := { s with que := { s.que with cadFirst := false, cadNext := none, cadResync := false, cadShift := 0 } }
  if 0 ≤ s1.sinceFrame k then s1.setRegN Reg.CAD_FRAME_CNT k
  else { s1 with que := { s1.que with cadNext := some k } }

/-- The first frame of the active table that starts at or after a time of the cadence base. -/
def State.frameFrom (s : State) (b : Int) : Nat :=
  ((b - s.regN Reg.CAD_EPOCH + (s.frameLen - 1)) / s.frameLen).toNat

/-- Where the boundary that FRAME_BOUNDARY waits for lies: the start of frame 0 after ENABLE, of the frame that follows a step, or
of the next frame. -/
def State.boundaryFrame (s : State) : Nat :=
  if s.que.cadFirst then 0 else s.que.cadNext.getD (s.regN Reg.CAD_FRAME_CNT + 1)

/-- R265: the boundary has come. -/
def State.boundaryDue (s : State) : Bool := decide (0 ≤ s.sinceFrame s.boundaryFrame)

/-- R226: the frame that starts at a boundary, `u` being the machine before a table switch at it: the next frame; after a step of the
cadence base the first one at least 250 µs after the boundary in the stepped base, with the frames passed over counted; after ENABLE
the one in progress. A table of another LEN goes on with its first frame at or after the boundary (DESIGN CHOICE, log entry
38). -/
def State.nextFrame (u s : State) : State :=
  if s.que.cadFirst then s.enterFrame (((s.cadNow : Int) - s.regN Reg.CAD_EPOCH) / s.frameLen).toNat
  else
    let k := u.boundaryFrame
    let b := u.frameStart k + u.que.cadShift
    if s.que.cadResync then
      let k' := s.frameFrom (b + 250000)
      (s.add Reg.CAD_CNT_SKIP (k' - k)).enterFrame k'
    else s.enterFrame (s.frameFrom b)

/-- FRAME_BOUNDARY: shadows of the cadence block apply (R394), a requested switch is made (R225), and the frame number
advances (R226). While the table runs, the boundary must have come; while it does not, there are no frames and a boundary may be
taken at any time (DESIGN CHOICE, log entry 38). -/
def State.frameBoundary (s : State) : State :=
  let was := s.bit Reg.CAD_CTRL 0
  if was && !s.boundaryDue then s
  else
    let s1 := s.applyShadows 0xA800000 0xA803000
    let s2 := if !was && s1.bit Reg.CAD_CTRL 0 then
        { s1 with que := { s1.que with cadFirst := true, cadNext := none, cadResync := false, cadShift := 0 } } else s1
    if !s2.bit Reg.CAD_CTRL 0 then s2
    else State.nextFrame s2 (if s2.bit Reg.CAD_CTRL 2 then s2.tableSwitch else s2)

/-- R221: parking writes a bank's 80 bytes per held element to its Gauntlet's place in the swap store; their layout is not the
spec's, so they are free values. -/
def State.storeBank (s : State) (g : Nat) (b : Bank) : State :=
  let n := 80 * Nat.max b.accs.length b.vals.length
  let a := g / 4 * 0x4000000 + s.fld Reg.QUE_SWAP_GRAN 0 6 * 0x100000 + g % 4 * 0x140000
  { s with scr := Memory.write s.scr a (tab n (fun i => Config.freeByte (s.fresh + i))), fresh := s.fresh + n }

/-- R221: parking of a held bank finishes and the Gauntlet is released. -/
def State.bankParkDone (s : State) (g : Nat) : State :=
  let y := s.gntOf g
  if y.phase ≠ 2 then s
  else
    let s1 := (s.setGnt g { y with owner := none, phase := 0 }).showGnt g
    let s2 := match y.parkedBank with | some b => s1.storeBank g b | none => s1
    s2.setReg Reg.QUE_CNT_SWAP (s.reg Reg.QUE_CNT_SWAP + 1)

/-- R222: a Gauntlet outside every claiming slot and lead takes back its parked part; the restore of its bank starts. -/
def State.partResume (s : State) (g : Nat) : State :=
  let y := s.gntOf g
  match y.parked with
  | none => s
  | some rp => match s.req rp.1 with
    | none => s
    | some q =>
      if y.owner.isSome ∨ y.tile.isSome ∨ y.phase ≠ 0 ∨ !s.cadAllows q.ctx g then s
      else match y.parkedBank with
        | none => (s.setGnt g { y with owner := some rp, parked := none }).showGnt g
        | some _ => (s.setGnt g { y with owner := some rp, phase := 3 }).showGnt g

/-- R220: a slot that claims Gauntlet `g` is open or in its lead. -/
def State.claimer (s : State) (g : Nat) : Option Nat := (s.que.open_ ++ s.que.lead).find? (fun n => s.slotClaims n g)

/-- R222: a parked bank has been restored; where a slot has claimed the Gauntlet meanwhile, its part is pre-empted again
(R220). -/
def State.bankRestoreDone (s : State) (g : Nat) : State :=
  let y := s.gntOf g
  if y.phase ≠ 3 then s
  else
    let s1 := s.setGnt g { y with parked := none, parkedBank := none, phase := 0 }
    let s2 := (s1.setBank g y.parkedBank).setReg Reg.QUE_CNT_SWAP (s.reg Reg.QUE_CNT_SWAP + 1)
    match s2.claimer g with
    | none => s2
    | some n => s2.preemptGnt g (n, s.regN Reg.CAD_FRAME_CNT)

/-! ## Contexts (R228, R229, R232, R477) -/

/-- R228: the last record of a torn-down context has been written: the context is FAULTED. -/
def State.teardownDone (s : State) (c : Nat) : State :=
  if s.fld (Reg.QUE_CTX_STATE c) 0 2 = 2 ∧ s.inflightOf c = 0 then s.setFld (Reg.QUE_CTX_STATE c) 0 2 3 else s

/-- R477: a teardown whose records are not all written within 20 µs. -/
def State.teardownTimeout (s : State) (c : Nat) : State :=
  if s.fld (Reg.QUE_CTX_STATE c) 0 2 = 2 then s.record 3 26 0 0x73 (some c) 0xFFFF 1 else s

/-- R229: RESET of a FAULTED context. -/
def State.contextReset (s : State) (c : Nat) : State :=
  if s.fld (Reg.QUE_CTX_STATE c) 0 2 ≠ 3 then s
  else
    let s1 := (List.range 64).foldl (fun t k =>
      let r := 64 * c + k
      let n := (t.ringTail r + 2 ^ 32 - t.ringHead r) % 2 ^ 32
      if n = 0 then t
      else ((t.setFld (Reg.QUE_RING_PTR r) 0 32 (t.ringTail r)).ringWaits r).add Reg.QUE_CNT_DISCARD n) s
    let s2 := { s1 with que := { s1.que with events := SMap.set (fun _ => []) s1.que.events c [] } }
    (s2.discardContext c).setRegN (Reg.QUE_CTX_STATE c) 0

/-- R232: a read of QUE_CTX_EVENT answers with the oldest entry and removes it. -/
def State.ctxEventRead (s : State) (c : Nat) : State :=
  match SMap.get (fun _ => []) s.que.events c with
  | [] => { s with readVal := 0 }
  | e :: es =>
    let s1 := { s with que := { s.que with events := SMap.set (fun _ => []) s.que.events c es } }
    { (s1.setFld (Reg.QUE_CTX_STATE c) 48 16 es.length) with readVal := BitVec.ofNat 64 e }

/-- R208, R210: a register write to SYN_VALUE obeys the SET rule. -/
def State.synWrite (s : State) (n v : Nat) : State :=
  (s.syncSet n v).setReg Reg.SYN_CNT_SIGNAL (s.reg Reg.SYN_CNT_SIGNAL + 1)

/-- R4, R394: SWITCH is set; a write of CAD_CTRL that waits for its boundary keeps it. -/
def State.cadSwitch (s : State) : State :=
  let s1 := s.orReg Reg.CAD_CTRL 4
  match s.shadow.find Reg.CAD_CTRL with
  | none => s1
  | some w => { s1 with shadow := s1.shadow.put Reg.CAD_CTRL (w ||| 4) }

/-! ## The commands -/

/-- DOORBELL (R195). -/
def execDoorbell (ring : Fin 16384) (tail : BitVec 32) (s : State) : Host.Outcome State Fault Refusal :=
  done s (s.doorbell ring.val tail.toNat)

/-- REQUEST_ACCEPT (R199). -/
def execRequestAccept (s : State) : Host.Outcome State Fault Refusal := done s (s.work State.requestAccept)

/-- STAGE (R201). -/
def execStage (r part : Nat) (res : MemRead) (s : State) : Host.Outcome State Fault Refusal :=
  done s (s.work (fun u => u.stage r part res))

/-- STAGE_DONE (R201). -/
def execStageDone (r part idx : Nat) (s : State) : Host.Outcome State Fault Refusal :=
  done s (s.work (fun u => u.stageDone r part idx))

/-- COPY (R200). -/
def execCopy (r part : Nat) (res : MemRead) (s : State) : Host.Outcome State Fault Refusal :=
  done s (s.work (fun u => u.copy r part res))

/-- SCHED_NOOP (R199). -/
def execSchedNoop (r : Nat) (s : State) : Host.Outcome State Fault Refusal :=
  done s (s.work (fun u => u.schedNoop r))

/-- SYN_VALUE_WRITE (R208). -/
def execSynValueWrite (n : Fin 8192) (value : BitVec 64) (s : State) : Host.Outcome State Fault Refusal :=
  done s (s.synWrite n.val value.toNat)

/-- SLOT_LEAD (R220). -/
def execSlotLead (n : Fin 256) (s : State) : Host.Outcome State Fault Refusal :=
  done s (s.work (fun u => u.slotLead n.val))

/-- SLOT_START (R219). -/
def execSlotStart (n : Fin 256) (s : State) : Host.Outcome State Fault Refusal :=
  done s (s.work (fun u => u.slotStart n.val))

/-- SLOT_END (R219). -/
def execSlotEnd (n : Fin 256) (s : State) : Host.Outcome State Fault Refusal :=
  done s (s.work (fun u => u.slotEnd n.val))

/-- FRAME_BOUNDARY (R226). -/
def execFrameBoundary (s : State) : Host.Outcome State Fault Refusal := done s (s.work State.frameBoundary)

/-- CAD_SWITCH (R225): SWITCH in CAD_CTRL. -/
def execCadSwitch (s : State) : Host.Outcome State Fault Refusal := done s s.cadSwitch

/-- BANK_PARK_DONE (R221). -/
def execBankParkDone (g : Fin 16) (s : State) : Host.Outcome State Fault Refusal :=
  done s (s.work (fun u => u.bankParkDone g.val))

/-- PART_RESUME (R222). -/
def execPartResume (g : Fin 16) (s : State) : Host.Outcome State Fault Refusal :=
  done s (s.work (fun u => u.partResume g.val))

/-- BANK_RESTORE_DONE (R222). -/
def execBankRestoreDone (g : Fin 16) (s : State) : Host.Outcome State Fault Refusal :=
  done s (s.work (fun u => u.bankRestoreDone g.val))

/-- TEARDOWN_DONE (R228). -/
def execTeardownDone (c : Fin 256) (s : State) : Host.Outcome State Fault Refusal := done s (s.teardownDone c.val)

/-- TEARDOWN_TIMEOUT (R477). -/
def execTeardownTimeout (c : Fin 256) (s : State) : Host.Outcome State Fault Refusal :=
  done s (s.work (fun u => u.teardownTimeout c.val))

/-- CONTEXT_RESET (R229). -/
def execContextReset (c : Fin 256) (s : State) : Host.Outcome State Fault Refusal := done s (s.contextReset c.val)

/-- CTX_EVENT_READ (R232). -/
def execCtxEventRead (c : Fin 256) (s : State) : Host.Outcome State Fault Refusal := done s (s.ctxEventRead c.val)

/-- REQUEST_DEADLINE (R204). -/
def execRequestDeadline (r : Nat) (s : State) : Host.Outcome State Fault Refusal :=
  done s (s.work (fun u => u.requestDeadline r))

end Sys2Proof.Machine
end

