-- ==== Sys2Proof/Machine/Unified.lean ====
section
/-! DEFINITION. The unified range unit (07_unified_range.md): UMR commands, fetches, write-backs, timeouts, the patrol
scrub and what befalls flash blocks. -/

namespace Sys2Proof.Machine

/-! ## Commands in progress -/

/-- A UMR command ends. -/
def State.endUmr (s : State) (r st : Nat) : State := (s.setUmrJob r none).endOr r st 0 false

/-- A block that a command waited for is done; EVICT, FLUSH and PREFETCH end with the last. -/
def State.jobBlock (s : State) (n b : Nat) : State :=
  each s.umr.jobs.entries (fun t e => match t.umrJob e.1 with
    | none => t
    | some j =>
      if j.wait.contains (n, b) then
        let j1 := { j with wait := j.wait.filter (fun w => !(w == (n, b))) }
        if j1.wait = [] ∧ (j1.op = 4 ∨ j1.op = 5 ∨ j1.op = 6) then t.endUmr e.1 0 else t.setUmrJob e.1 (some j1)
      else t) s

/-- A block that a command waited for failed: the command ends with its status (R173). -/
def State.jobFail (s : State) (n b st : Nat) : State :=
  each s.umr.jobs.entries (fun t e => match t.umrJob e.1 with
    | none => t
    | some j => if j.wait.contains (n, b) then t.endUmr e.1 st else t) s

/-! ## Frames for pages that wait -/

/-- A fetch that finds no upper frame is given up: the accesses that wait are served from the home frame (R170), and a PREFETCH
passes over the page's blocks (R169). -/
def State.cancelFetch (s : State) (n : Nat) : State :=
  match s.page n with
  | none => s
  | some p =>
    let s1 := s.setPage n { p with inflight := 0 }
    each (maskBlocks p.inflight) (fun t b => t.jobBlock n b)
      { s1 with umr := { s1.umr with fetches := s1.umr.fetches.filter (fun f => !(f.page == n)),
                                     waits := s1.umr.waits.filter (fun w => !(w.page == n)) } }

/-- A frame of pool `code` that has been taken becomes a page's upper frame; one that it leaves returns to its pool (R169). -/
def State.seatPage (s : State) (n code : Nat) (p : Page) : State :=
  (s.setPage n { p with upper := code, moveTo := 0 }).giveFrame p.upper

/-- The fetches of a page are to use an upper frame of pool `code`. -/
def State.repool (s : State) (n code : Nat) : State :=
  { s with umr := { s.umr with fetches := s.umr.fetches.map (fun f => if f.page = n then { f with pool := code } else f) } }

/-- R169, R170: a page that waits for an upper frame of pool `code` takes one that has become free, or another victim's. Where there
is none, a COLD page takes or keeps one in LPDDR5X, and any other fetch is given up. -/
def State.seekFrame (s : State) (n code : Nat) (p : Page) : State :=
  if s.freeFrames code = 0 ∧ s.umr.wbs.any (fun w => w.kind == .evict) then s
  else match s.freeOne code false with
    | (s1, .granted) => s1.seatPage n code p
    | (s1, .waits) => s1
    | (s1, .bypass) =>
      if p.moveTo ≠ 0 then s1.setPage n { p with moveTo := 0 }
      else if p.hint = 3 ∧ code ≠ 3 then
        match (s1.repool n 3).freeOne 3 false with
        | (s2, .granted) => s2.seatPage n 3 p
        | (s2, .waits) => s2
        | (s2, .bypass) => (s2.bump Reg.UMR_CNT_BYPASS).cancelFetch n
      else (s1.bump Reg.UMR_CNT_BYPASS).cancelFetch n

/-- R170: pages whose fetches wait for an upper frame, or for their frame to move, go on where they can. -/
def State.serveWaiting (s : State) : State :=
  State.startMoves (each s.umr.fetches (fun t f => match t.page f.page with
    | none => t
    | some p =>
      if (p.upper ≠ 0 ∧ p.moveTo = 0) ∨ p.inflight = 0 then t
      else t.seekFrame f.page (if p.moveTo ≠ 0 then p.moveTo else f.pool) p) s)

/-! ## Home frames -/

/-- Pools that a home frame may come from, in order: HBM3 by STACK, the stack with more free frames first where either will do
(R169), LPDDR5X, or flash. -/
def State.homePools (s : State) (hint stack : Nat) : List Nat :=
  if hint = 0 then
    (if stack = 2 then (let c := s.stackFor stack
                        [c, 3 - c])
     else [s.stackFor stack])
  else if hint = 3 then [4] else [3]

/-- R170, R172: a home frame is taken: a free one, or a victim's; none while a dirty victim is written back. -/
def State.homeFrame (s : State) (hint stack : Nat) : State × Option Nat :=
  let pools := s.homePools hint stack
  match pools.find? (fun c => decide (0 < s.freeFrames c)) with
  | some c => (s.takeFrame c, some c)
  | none =>
    if s.umr.wbs.any (fun w => w.kind == .evict) then (s, none)
    else match pools.find? (fun c => (s.victim c false).isSome) with
      | none => (s, none)
      | some c => match s.freeOne c false with
        | (s1, .granted) => (s1, some c)
        | (s1, _) => (s1, none)

/-- Home tier of a hint (R169): 0 HBM3, 1 LPDDR5X, 2 flash. -/
def homeOf (hint : Nat) : Nat := if hint = 0 then 0 else if hint = 3 then 2 else 1

/-- A page as MAP makes it: every ZERO bit set (R172). -/
def freshPage (hint flags part code age : Nat) : Page :=
  { st := 1, hint := hint, home := homeOf hint, homeStack := if code = 2 then 1 else 0, upper := 0, part := part,
    ro := flags.testBit 0, share := flags.testBit 1, stack := bits flags 2 2, resident := 0, dirty := 0, poison := 0,
    inflight := 0, zero := 2 ^ 32 - 1, age := age, holds := 0, moveTo := 0, dest := 0, copied := 0 }

/-- R172: MAP gives home frames to its pages in address order; what is left waits for a victim's write-back. -/
def State.mapPages (s : State) (j : UmrJob) : List Nat → State × List Nat
  | [] => (s, [])
  | n :: ns =>
    match s.homeFrame j.hint (bits j.flags 2 2) with
    | (s1, some code) => ((s1.setPage n (freshPage j.hint j.flags j.part code s.ageNow)).untranslate n).mapPages j ns
    | (s1, none) => (s1, n :: ns)

/-- A MAP in progress goes on: it ends when every page has its frame. -/
def State.mapProgress (s : State) (r : Nat) (j : UmrJob) : State :=
  let (s1, rest) := s.mapPages j j.pages
  if rest = [] then s1.endUmr r 0 else s1.setUmrJob r (some { j with pages := rest })

/-- R172: a page that is being re-homed: its dirty blocks are written back, its upper frame is dropped, and it takes its new home
frame where one can be had. -/
def State.rehomePage (s : State) (r : Nat) (j : UmrJob) (n : Nat) : State :=
  match s.page n with
  | none => s
  | some p =>
    if p.dest ≠ 0 ∨ p.inflight ≠ 0 ∨ s.umr.wbs.any (fun w => w.page == n) then s
    else if p.dirty ≠ 0 then each (maskBlocks p.dirty) (fun u b => u.startWb n b .rehome (some r)) s
    else
      let p1 := { p with upper := 0, resident := 0, moveTo := 0 }
      match ((s.setPage n p1).giveFrame p.upper).homeFrame j.hint p.stack with
      | (s1, some code) => s1.setPage n { p1 with dest := code, copied := 0 }
      | (s1, none) => s1

/-- Frames have become free: waiting fetches, MAP and REHOME commands go on. -/
def State.framesFreed (s : State) : State :=
  each s.umr.jobs.entries (fun t e => match t.umrJob e.1 with
    | some j => if j.op = 1 then t.mapProgress e.1 j else if j.op = 3 then each j.pages (fun u n => u.rehomePage e.1 j n) t else t
    | none => t) s.serveWaiting

/-! ## Checks (R171 to R173, R180) -/

/-- Pages of a range by number. -/
def State.pageRange (a n : Nat) : List Nat := pagesOf a n

/-- R172: frames of a pool that are free or that R170 can take as victims. -/
def State.poolSpace (s : State) (code : Nat) : Nat :=
  s.freeFrames code + (s.umr.pages.entries.filter (fun e => s.canEvict e.1 e.2 code)).length

/-- R169, R172, R191: home frames of a hint for pages with these STACK fields are short. -/
def State.homeShort (s : State) (hint : Nat) (sides : List Nat) : Bool :=
  let n := sides.length
  if hint = 3 then decide ((if s.bit Reg.UMR_FLASH_STATE 0 then 0 else s.freeFrames 4) < n)
  else if hint = 0 then
    decide (s.poolSpace 1 < (sides.filter (· == 0)).length) || decide (s.poolSpace 2 < (sides.filter (· == 1)).length) ||
      decide (s.poolSpace 1 + s.poolSpace 2 < n)
  else decide (s.poolSpace 3 < n)

/-- R180: a partition that may hold real-time contexts. -/
def State.partRt (s : State) (part : Nat) : Bool := s.bit (Reg.QUE_PART_CFG part) 8

/-- R171 to R173: the checks of a UMR command, as UMR_REJECT bits. Page conditions are checked once the command and its
range are sound (DEDUCED, log entry 31). -/
def State.umrMask (s : State) (q : Request) (d : Bytes) : Nat :=
  let op := fieldLE d 1 1
  let hint := fieldLE d 2 1
  let flags := fieldLE d 3 1
  let part := fieldLE d 4 1
  let a := fieldLE d 8 8
  let n := fieldLE d 0x10 8
  let unit := if op = 4 ∨ op = 5 ∨ op = 6 then 0x10000 else 0x200000
  let limit := if op = 7 then 0x80000000 else 0x4000000000
  let usesHint := op == 1 || op == 3
  let m := b2n (op == 0 || decide (7 < op) || (usesHint && decide (4 < hint)) || bits flags 2 2 == 3 ||
        (op == 1 && decide (7 < part))) +
    b2n (a % unit != 0 || n % unit != 0) * 2 +
    b2n (decide (a < umBase) || decide (umEnd < a + n) || n == 0 || decide (limit < n)) * 4
  let soft := b2n (q.tag != 0) * 128 + b2n (bits flags 4 4 != 0 || fieldLE d 5 3 != 0) * 256
  if m ≠ 0 then m + soft
  else
    let pgs := (pagesOf a n).map s.page
    let state := if op = 1 then pgs.any (·.isSome) else
      if op = 7 then false else pgs.any (fun x => match x with | some p => !(p.st == 1) | none => true)
    let mine := s.ctxPart q.ctx
    let owner := if op = 1 then part != mine else if op = 7 then false else
      pgs.any (fun x => match x with | some p => p.part != mine | none => false)
    let sides := pgs.map (fun x => if op = 1 then bits flags 2 2 else match x with | some p => p.stack | none => 2)
    let noFrame := usesHint && s.homeShort hint sides
    let rtFlash := usesHint && hint == 3 && s.partRt (if op = 1 then part else mine)
    soft + b2n state * 8 + b2n owner * 16 + b2n noFrame * 32 + b2n rtFlash * 64

/-! ## Commands (R172) -/

/-- R173, R191: a command with dirty flash-homed blocks to write back is refused by a write-protected flash. -/
def State.flashRefuses (s : State) (blocks : List (Nat × Nat)) : Bool :=
  s.bit Reg.UMR_FLASH_STATE 0 && blocks.any (fun w => match s.page w.1 with
    | some p => p.home == 2 && p.dirty.testBit w.2
    | none => false)

/-- Tile blocks of a range as (page, block). -/
def blocksOf (a n : Nat) : List (Nat × Nat) := (pieces a n).map (fun pc => (pageOf pc.1, blockIn pc.1))

/-- MAP. -/
def State.startMap (s : State) (r : Nat) (d : Bytes) : State :=
  s.mapProgress r ⟨1, pagesOf (fieldLE d 8 8) (fieldLE d 0x10 8), [], fieldLE d 2 1, fieldLE d 3 1, fieldLE d 4 1⟩

/-- New accesses to a page are blocked (STATE 3). -/
def State.closePage (s : State) (n : Nat) : State :=
  match s.page n with
  | some p => (s.setPage n { p with st := 3 }).untranslate n
  | none => s

/-- UNMAP: new accesses to the pages are blocked (STATE 3). -/
def State.startUnmap (s : State) (r : Nat) (d : Bytes) : State :=
  let pgs := pagesOf (fieldLE d 8 8) (fieldLE d 0x10 8)
  let s1 := each pgs State.closePage s
  s1.setUmrJob r (some ⟨2, pgs, [], 0, 0, 0⟩)

/-- Unmap one page: both frames free, its content and its home discarded. -/
def State.dropPage (s : State) (n : Nat) : State :=
  match s.page n with
  | none => s
  | some p =>
    let code := if p.home = 0 then p.homeStack + 1 else if p.home = 1 then 3 else 4
    let s1 := (s.giveFrame p.upper).giveFrame code
    { s1 with
      umem := Memory.replace s1.umem (blockAddr n 0) 0x200000 [],
      umr := { s1.umr with pages := s1.umr.pages.drop n, home := Memory.replace s1.umr.home (blockAddr n 0) 0x200000 [],
                           streams := s1.umr.streams.filter (fun e => !(e.2.1 == n)),
                           flash := s1.umr.flash.forgetPage n } }

/-- UNMAP_FRAMES_FREED: the transfers in progress have ended. -/
def State.unmapFreed (s : State) (r : Nat) : State :=
  match s.umrJob r with
  | none => s
  | some j =>
    let busy (n : Nat) : Bool := match s.page n with
      | some p => p.holds != 0 || p.inflight != 0 || s.umr.wbs.any (fun w => w.page == n)
      | none => false
    if j.op ≠ 2 ∨ j.pages.any busy then s
    else ((each j.pages (fun t n => (t.dropPage n).untranslate n) s).framesFreed).endUmr r 0

/-- REHOME: dirty blocks are written back, the upper frame is dropped, and STATE reads 2 during the copy, which begins where a new
home frame can be had. -/
def State.startRehome (s : State) (r : Nat) (d : Bytes) : State :=
  let pgs := pagesOf (fieldLE d 8 8) (fieldLE d 0x10 8)
  if s.flashRefuses (pgs.flatMap (fun n => (List.range 32).map (fun b => (n, b)))) then s.endUmr r 6
  else
    let j : UmrJob := ⟨3, pgs, [], fieldLE d 2 1, 0, 0⟩
    let s1 := each pgs (fun t n => match t.page n with
      | none => t
      | some p => (t.setPage n { p with st := 2, dest := 0, copied := 0 }).untranslate n) s
    (each pgs (fun t n => t.rehomePage r j n) (s1.setUmrJob r (some j))).serveWaiting

/-- R172, R178: one more block of a page has been copied to its new home frame; the accesses that wait for it go on. -/
def State.copyBlock (s : State) (n : Nat) (p : Page) : State :=
  let b := p.copied
  let s1 := if p.dest = 4 ∧ ¬ p.zero.testBit b then s.commitHome n b else s
  let s2 := s1.setPage n { p with copied := b + 1 }
  { s2 with umr := { s2.umr with waits := s2.umr.waits.filter (fun w => !(w.page == n && w.block == b)) } }

/-- R172: the copy of a page is complete: its home is the new frame and the old one is free. -/
def State.finishCopy (s : State) (n hint : Nat) (p : Page) : State :=
  let old := if p.home = 0 then p.homeStack + 1 else if p.home = 1 then 3 else 4
  let s1 := (s.giveFrame old).setPage n { p with
    st := 1, hint := hint, home := homeOf hint, homeStack := if p.dest = 2 then 1 else 0, dest := 0, copied := 0 }
  let s2 := s1.untranslate n
  if hint = 3 then s2 else { s2 with umr := { s2.umr with
    home := Memory.replace s2.umr.home (blockAddr n 0) 0x200000 [], flash := s2.umr.flash.forgetPage n } }

/-- REHOME_COPY_DONE: the copy of the page's next block, in ascending order, is done; the command ends with the last block of its
last page. -/
def State.rehomeDone (s : State) (r n : Nat) : State :=
  match s.umrJob r, s.page n with
  | some j, some p =>
    if j.op ≠ 3 ∨ !j.pages.contains n ∨ p.dest = 0 then s
    else
      let s1 := s.copyBlock n p
      if p.copied + 1 < 32 then s1
      else
        let s2 := (s1.finishCopy n j.hint p).framesFreed
        let rest := j.pages.filter (fun m => !(m == n))
        if rest = [] then s2.endUmr r 0 else s2.setUmrJob r (some { j with pages := rest })
  | _, _ => s

/-- R169, R170: an upper frame for a PREFETCH or a lookahead on a page: whether its blocks can be fetched, and the pool that its
frame comes from. A COLD page's frame in LPDDR5X first moves to HBM3 where R170 gives a frame there, and stays where it gives
none; UMR_CNT_BYPASS counts once for a page that can have no frame. -/
def State.prefetchFrame (s : State) (n : Nat) (p : Page) (rt : Bool) : State × Option Nat :=
  let code := s.stackFor p.stack
  if p.hint = 3 ∧ p.upper = 3 ∧ p.moveTo = 0 then
    match s.freeOne code rt with
    | (s1, .granted) => (s1.seatPage n code p, some code)
    | (s1, .waits) => (s1.setPage n { p with moveTo := code }, some code)
    | (s1, .bypass) => (s1, some 3)
  else if p.upper ≠ 0 then (s, some p.upper)
  else if p.inflight ≠ 0 then (s, some code)
  else match s.freeOne code rt with
    | (s1, .granted) => (s1.seatPage n code p, some code)
    | (s1, .waits) => (s1, some code)
    | (s1, .bypass) =>
      if p.hint ≠ 3 then (s1.bump Reg.UMR_CNT_BYPASS, none)
      else match s1.freeOne 3 rt with
        | (s2, .granted) => (s2.seatPage n 3 p, some 3)
        | (s2, .waits) => (s2, some 3)
        | (s2, .bypass) => (s2.bump Reg.UMR_CNT_BYPASS, none)

/-- R169, R172, R515: PREFETCH of one page's blocks through translation cache `k`; the blocks that are fetched. -/
def State.prefetchPage (s : State) (k n : Nat) (bs : List Nat) (rt : Bool) (prio : Nat) (req look : Option Nat) :
    State × List (Nat × Nat) :=
  match s.page n with
  | none => (s, [])
  | some p =>
    let want := bs.filter (fun b => !p.zero.testBit b && !p.poison.testBit b && !p.resident.testBit b)
    if !prefetchFills p.hint || want.isEmpty then (s.translate k n, [])
    else match (s.translate k n).prefetchFrame n p rt with
      | (s1, none) => (s1, [])
      | (s1, some pool) =>
        (each (want.filter (fun b => !p.inflight.testBit b)) (fun t b => t.startFetchFor n b prio req look pool) s1,
         want.map (fun b => (n, b)))

/-- R172: the machine with the fetches of a PREFETCH started, and the blocks that it waits for. -/
def State.prefetchRange (s : State) (r : Nat) (q : Request) (d : Bytes) : State × List (Nat × Nat) :=
  let bl := blocksOf (fieldLE d 8 8) (fieldLE d 0x10 8)
  (pagesOf (fieldLE d 8 8) (fieldLE d 0x10 8)).foldl (fun (acc : State × List (Nat × Nat)) n =>
    let bs := (bl.filter (fun x => x.1 == n)).map (·.2)
    let (t, ws) := acc.1.prefetchPage 5 n bs (s.ctxRt q.ctx) 4 (some r) none
    (t, acc.2 ++ ws)) (s, [])

/-- PREFETCH. -/
def State.startPrefetch (s : State) (r : Nat) (q : Request) (d : Bytes) : State :=
  let pgs := pagesOf (fieldLE d 8 8) (fieldLE d 0x10 8)
  let (s1, w) := s.prefetchRange r q d
  if w = [] then s1.endUmr r 0 else s1.setUmrJob r (some ⟨4, pgs, w, 0, 0, 0⟩)

/-- Drop a clean block from its upper frame; an upper frame left empty is freed (R172). -/
def State.dropBlock (s : State) (n b : Nat) : State :=
  match s.page n with
  | none => s
  | some p =>
    if p.resident.testBit b then
      let p1 := { p with resident := p.resident - 2 ^ b }
      let s1 := { s with umr := { s.umr with streams := s.umr.streams.filter (fun e => !(e.2.1 == n && e.2.2 == b)) } }
      if p1.resident = 0 ∧ p1.inflight = 0 then s1.dropUpper n p1 else s1.setPage n p1
    else s

/-- The dirty blocks among those given. -/
def State.dirtyOf (s : State) (bl : List (Nat × Nat)) : List (Nat × Nat) :=
  bl.filter (fun w => match s.page w.1 with
    | some p => p.dirty.testBit w.2
    | none => false)

/-- EVICT: dirty blocks are written back and dropped, clean ones dropped at once. -/
def State.startEvict (s : State) (r : Nat) (d : Bytes) : State :=
  let bl := blocksOf (fieldLE d 8 8) (fieldLE d 0x10 8)
  let dirty := s.dirtyOf bl
  if s.flashRefuses bl then s.endUmr r 6
  else
    let s1 := each bl (fun t w => if dirty.contains w then t.startWb w.1 w.2 .drop (some r) else t.dropBlock w.1 w.2) s
    if dirty = [] then s1.framesFreed.endUmr r 0 else s1.setUmrJob r (some ⟨5, [], dirty, 0, 0, 0⟩)

/-- FLUSH: dirty blocks are written back and stay resident and clean. -/
def State.startFlush (s : State) (r : Nat) (d : Bytes) : State :=
  let bl := blocksOf (fieldLE d 8 8) (fieldLE d 0x10 8)
  let dirty := s.dirtyOf bl
  if s.flashRefuses bl then s.endUmr r 6
  else if dirty = [] then s.endUmr r 0
  else
    let s1 := each dirty (fun t w => t.startWb w.1 w.2 .flush (some r)) s
    s1.setUmrJob r (some ⟨6, [], dirty, 0, 0, 0⟩)

/-- R174: the record of a page. -/
def State.pageRecord (s : State) (n : Nat) : Bytes :=
  match s.page n with
  | none => List.replicate 32 0
  | some p =>
    let flags := b2n p.ro + b2n p.share * 2 + p.stack * 4
    natLE 1 p.st ++ natLE 1 p.hint ++ natLE 1 p.home ++ natLE 1 p.upper ++ natLE 1 p.part ++ natLE 1 flags ++ natLE 2 0 ++
    natLE 4 p.resident ++ natLE 4 p.dirty ++ natLE 4 p.poison ++ natLE 4 p.inflight ++ natLE 4 p.zero ++ natLE 4 p.age

/-- R174: the records of a range. -/
def State.queryRecords (s : State) (d : Bytes) : Bytes :=
  (pagesOf (fieldLE d 8 8) (fieldLE d 0x10 8)).flatMap s.pageRecord

/-- QUERY: one record per page at OUT_ADDR, in address order, once the write may start (R177, R215). -/
def State.startQuery (s : State) (r : Nat) (q : Request) (d : Bytes) : State :=
  let a := fieldLE d 0x18 8
  let bs := s.queryRecords d
  if !s.mayAccess q.ctx 5 a bs.length true then s.regulate r 0
  else
    let (s1, w) := s.accessPrep q.ctx 5 a bs.length (some r)
    if w.status ≠ 0 then s1.endUmr r w.status
    else if !w.ready then (State.noteMigrate s s1 r).newWaits w.waits r 0 0
    else
      let (s2, w2) := ((s1.drawAll q.ctx 5 a bs.length true).unregulate r 0).accessWrite q.ctx 5 a bs (some r)
      s2.endUmr r w2.status

/-- A UMR request that its engine has not yet taken up. -/
def State.umrReady (s : State) (r : Nat) : Option Request :=
  match s.req r with
  | none => none
  | some q => if q.kind = 6 ∧ q.phase = .running ∧ q.ending = none ∧ (s.umrJob r).isNone ∧
      s.umr.waits.any (fun w => w.req == r) = false then some q else none

/-- R172, R173, R517: a UMR request whose command has operation `op` is checked and started by `f`; a refused command
changes no page. -/
def State.umrCommand (s : State) (r op : Nat) (f : State → Request → Bytes → State) : State :=
  match s.umrReady r with
  | none => s
  | some q =>
    let d := s.peek q.cmdAddr 32
    let o := fieldLE d 1 1
    if fieldLE d 0 1 ≠ 0x60 then (s.endReq r 9 0 false).reject Reg.UMR_REJECT Reg.UMR_REJECT_DESC 1 q.cmdAddr
    else if o ≠ op ∧ 1 ≤ o ∧ o ≤ 7 then s
    else
      let m := s.umrMask q d
      if m ≠ 0 then (s.endReq r 9 0 false).reject Reg.UMR_REJECT Reg.UMR_REJECT_DESC m q.cmdAddr
      else f s q d

/-! ## Fetches (R176 to R179, R183, R184, R187) -/

/-- An access that waited on a block ends with a status: its part, its request or, for the scheduler's own read, the descriptor
of its ring. -/
def State.failWait (s : State) (w : BlockWait) (st : Nat) : State :=
  if w.req = 0 then s.acceptLost w.idx st s.unreadDesc
  else match s.req w.req with
    | none => s
    | some q =>
      if q.kind = 1 ∨ q.kind = 7 then s.endPart w.req w.part st w.idx
      else (s.releaseReq w.req q).endReq w.req st 0 false

/-- The accesses that wait on a block end with a status. -/
def State.failWaits (s : State) (n b st : Nat) : State :=
  let ws := s.umr.waits.filter (fun w => w.page == n && w.block == b)
  let s1 := { s with umr := { s.umr with waits := s.umr.waits.filter (fun w => !(w.page == n && w.block == b)) } }
  each ws (fun t w => t.failWait w st) s1

/-- A fetch leaves its channel, which takes the next move (R179). -/
def State.endFetch (s : State) (n b : Nat) : State :=
  State.startMoves { s with umr := { s.umr with fetches := s.umr.fetches.filter (fun f => !(f.page == n && f.block == b)) } }

/-- The fetch of a block in flight. -/
def State.fetchOf (s : State) (n b : Nat) : Option Fetch := s.umr.fetches.find? (fun f => f.page == n && f.block == b)

/-- A fetch fails (a lookahead's counts, R92): the block stays non-resident, and the accesses and commands that wait on it end with its status. -/
def State.failFetch (s : State) (n b st : Nat) (p : Page) : State :=
  let s0 := match (s.fetchOf n b).bind (·.look) with
    | some palm => s.bump (Reg.ATT_CNT_LA_FETCH_ERR palm)
    | none => s
  let s1 := (s0.endFetch n b).setPage n { p with
    inflight := p.inflight - (if p.inflight.testBit b then 2 ^ b else 0),
    dirty := p.dirty - (if p.dirty.testBit b then 2 ^ b else 0) }
  let s2 := (s1.failWaits n b st).jobFail n b st
  if p.st = 2 then s2.framesFreed else s2

/-- A fetch lands: the block is resident and the accesses that wait on it proceed. A block of a STREAM page is noted under
the request that fetched it (R169), and dropped at once if that has ended. -/
def State.landFetch (s : State) (n b : Nat) (p : Page) (f : Fetch) : State :=
  let s1 := (s.endFetch n b).setPage n { p with
    inflight := p.inflight - (if p.inflight.testBit b then 2 ^ b else 0), resident := p.resident ||| 2 ^ b }
  let gone : Bool := match f.req with | some r => (s.req r).isNone | none => false
  let s2 := { s1 with umr := { s1.umr with
    waits := s1.umr.waits.filter (fun w => !(w.page == n && w.block == b)),
    streams := match f.req with
      | some r => if p.hint = 4 ∧ gone = false then s1.umr.streams ++ [(r, n, b)] else s1.umr.streams
      | none => s1.umr.streams } }
  let s3 := if p.hint = 4 ∧ gone = true then
      (if p.dirty.testBit b then s2.startWb n b .drop none else s2.dropBlock n b) else s2
  let s4 := s3.jobBlock n b
  if p.st = 2 then s4.framesFreed else s4

/-- A fetch that a channel runs, with its page. -/
def State.runningFetch (s : State) (n b : Nat) : Option (Fetch × Page) :=
  match s.fetchOf n b, s.page n with
  | some f, some p => if f.start.isSome then some (f, p) else none
  | _, _ => none

/-- R190: a fetch has read its block; flash counts the read. Whether a corrected one needed soft-decision re-reads is a free value
(log entry 87). -/
def State.fetchRead (s : State) (n b : Nat) (f : Fetch) (soft : Bool) : State :=
  if f.src = 2 then (s.flashRead (blockIndex n b) soft).freshN 1 else s

/-- BLOCK_FETCH_DONE. -/
def State.fetchDone (s : State) (n b : Nat) (res : MemRead) : State :=
  match s.runningFetch n b with
  | none => s
  | some (f, p) =>
    let c := if f.src = 2 then Reg.UMR_CNT_FETCH_FLASH else Reg.UMR_CNT_FETCH_LPDDR
    match res with
    | .uncorrectable =>
      let s1 := s.uncorrectable n b false
      match s1.page n with
      | none => s1
      | some p1 => s1.failFetch n b 6 p1
    | .corrected =>
      let s1 := s.fetchRead n b f ((Config.freeWord s.fresh).toNat % 2 == 1)
      ((s1.corrected p.homeTier).landFetch n b p f).setReg c (s.reg c + 1)
    | .clean => ((s.fetchRead n b f false).landFetch n b p f).setReg c (s.reg c + 1)

/-- Ns that have passed since TB0 ns `t`. -/
def State.since (s : State) (t : Nat) : Nat := (s.now + 2 ^ 64 - t) % 2 ^ 64

/-- FETCH_TIMEOUT (R179): the source tier has not delivered within its limit since the fetch started. -/
def State.fetchTimeout (s : State) (n b : Nat) : State :=
  match s.runningFetch n b with
  | none => s
  | some (f, p) =>
    if s.since (f.start.getD 0) < f.limit then s
    else ((s.failFetch n b 5 p).record 2 7 5 0x60 none p.homeTier (blockIndex n b)).setReg Reg.UMR_CNT_TIMEOUT
      (s.reg Reg.UMR_CNT_TIMEOUT + 1)

/-- R183: a transfer of a part has read the home frame of a block for longer than its tier allows. -/
def State.slowRead (s : State) (x : Part) (n b : Nat) : Option StageJob :=
  x.stages.find? (fun j => j.dir != 1 && (blocksOf j.addr j.bytes).contains (n, b) &&
    decide (s.tierLimit (s.tierOf n b == 3) < s.since j.since))

/-- ACCESS_TIMEOUT (R183): an access that has waited on a fetch, a move or a home read for longer than its limit ends; the fetch
continues. -/
def State.accessTimeout (s : State) (r p n b : Nat) : State :=
  match s.umr.waits.find? (fun w => w.req == r && w.part == p && w.page == n && w.block == b) with
  | some w =>
    if s.since w.since ≤ w.limit then s
    else
      let s1 := { s with umr := { s.umr with waits := s.umr.waits.filter (fun x => !(x == w)) } }
      (s1.failWait w 5).setReg Reg.UMR_CNT_TIMEOUT (s.reg Reg.UMR_CNT_TIMEOUT + 1)
  | none => match (s.req r).bind (fun q => q.parts[p]?) with
    | none => s
    | some x => match s.slowRead x n b with
      | none => s
      | some j => (s.endPart r p 5 j.idx).setReg Reg.UMR_CNT_TIMEOUT (s.reg Reg.UMR_CNT_TIMEOUT + 1)

/-! ## Write-backs (R170, R178, R184, R191) -/

/-- The captured content of a block becomes its flash home. -/
def State.commitCaptured (s : State) (n b : Nat) : State :=
  let lo := blockAddr n b
  let cells := s.umr.wb.filter (fun e => decide (lo ≤ e.1) && decide (e.1 < lo + 0x10000))
  ({ s with umr := { s.umr with home := Memory.replace s.umr.home lo 0x10000 cells } }).wear (blockIndex n b)

/-- A write-back that is over leaves its channel, with its captured content. -/
def State.endWb (s : State) (n b : Nat) : State :=
  State.startMoves { s with umr := { s.umr with wbs := s.umr.wbs.filter (fun w => !(w.page == n && w.block == b)),
                                                wb := Memory.replace s.umr.wb (blockAddr n b) 0x10000 [] } }

/-- A block is clean again. -/
def Page.clean (p : Page) (b : Nat) : Page := { p with dirty := p.dirty - (if p.dirty.testBit b then 2 ^ b else 0) }

/-- After the last write-back of an evicted frame it is dropped (R170); after the last of a REHOME the upper frame is
dropped (R172). -/
def State.finishFrame (s : State) (n : Nat) (kind : WbKind) : State :=
  match s.page n with
  | none => s
  | some p =>
    if s.umr.wbs.any (fun w => w.page == n) ∨ p.dirty ≠ 0 ∨ p.upper = 0 then s
    else match kind with
      | .evict => (s.dropUpper n p).bump Reg.UMR_CNT_EVICT
      | .rehome => s.dropUpper n p
      | _ => s

/-- WRITEBACK_DONE with success. -/
def State.wbOk (s : State) (w : Writeback) (p : Page) : State :=
  let n := w.page
  let b := w.block
  let gone := w.abandoned && (w.kind == .evict || w.kind == .drop)
  let s0 := if p.home = 2 ∧ gone = false then s.commitCaptured n b else s
  let s1 := s0.endWb n b
  let s2 := if w.abandoned then (if w.kind = .rehome then s1.startWb n b .rehome w.req else s1)
    else
      let t := s1.setPage n (p.clean b)
      if w.kind = .drop then t.dropBlock n b else t
  let s3 := (s2.finishFrame n w.kind).framesFreed
  (s3.jobBlock n b).setReg Reg.UMR_CNT_WRITEBACK (s.reg Reg.UMR_CNT_WRITEBACK + 1)

/-- WRITEBACK_DONE that failed: the erase block is retired and the write-back is retried on another one (R184, R191);
once flash is write-protected it is refused, and what waited for its frame looks for another. -/
def State.wbFailed (s : State) (w : Writeback) (p : Page) : State :=
  if p.home ≠ 2 then s
  else
    let s1 := s.retireErase s.umr.flash.filling
    if s1.bit Reg.UMR_FLASH_STATE 0 then ((s1.endWb w.page w.block).jobFail w.page w.block 6).framesFreed else s1

/-- WRITEBACK_DONE. -/
def State.writebackDone (s : State) (n b : Nat) (ok : Bool) : State :=
  match s.umr.wbs.find? (fun w => w.page == n && w.block == b), s.page n with
  | some w, some p => if ok then s.wbOk w p else s.wbFailed w p
  | _, _ => s

/-- PATROL_SCRUB: a read of one HBM3 or LPDDR5X copy of a block (R185 to R187). -/
def State.patrolScrub (s : State) (n b : Nat) (upper : Bool) (res : MemRead) : State :=
  match s.page n with
  | none => s
  | some p =>
    let there := if upper then p.resident.testBit b else p.home != 2
    if !there then s
    else match res with
      | .clean => s
      | .corrected => s.corrected (if upper then p.upperTier else p.homeTier)
      | .uncorrectable => s.uncorrectable n b upper

/-- FLASH_RELOCATE (R190, R191): the first erase block that is due is relocated, and retired where its erase fails. -/
def State.flashRelocate (s : State) (eraseFails : Bool) : State :=
  match s.umr.flash.firstDue s.hours with
  | none => s
  | some k => (if eraseFails then s.retireErase (some k) else s.setFlash (s.umr.flash.relocate s.hours k)).setReg Reg.UMR_CNT_DISTURB_REFRESH (s.reg Reg.UMR_CNT_DISTURB_REFRESH + 1)

/-! ## The commands -/

/-- UMR_MAP (R172). -/
def execUmrMap (r : Nat) (s : State) : Host.Outcome State Fault Refusal :=
  done s (s.work (fun u => u.umrCommand r 1 (fun t _ d => t.startMap r d)))

/-- UMR_UNMAP (R172). -/
def execUmrUnmap (r : Nat) (s : State) : Host.Outcome State Fault Refusal :=
  done s (s.work (fun u => u.umrCommand r 2 (fun t _ d => t.startUnmap r d)))

/-- UNMAP_FRAMES_FREED (R172). -/
def execUnmapFramesFreed (r : Nat) (s : State) : Host.Outcome State Fault Refusal :=
  done s (s.work (fun u => u.unmapFreed r))

/-- UMR_REHOME (R172). -/
def execUmrRehome (r : Nat) (s : State) : Host.Outcome State Fault Refusal :=
  done s (s.work (fun u => u.umrCommand r 3 (fun t _ d => t.startRehome r d)))

/-- REHOME_COPY_DONE (R172). -/
def execRehomeCopyDone (r page : Nat) (s : State) : Host.Outcome State Fault Refusal :=
  done s (s.work (fun u => u.rehomeDone r page))

/-- UMR_PREFETCH (R169, R172). -/
def execUmrPrefetch (r : Nat) (s : State) : Host.Outcome State Fault Refusal :=
  done s (s.work (fun u => u.umrCommand r 4 (fun t q d => t.startPrefetch r q d)))

/-- UMR_EVICT (R172). -/
def execUmrEvict (r : Nat) (s : State) : Host.Outcome State Fault Refusal :=
  done s (s.work (fun u => u.umrCommand r 5 (fun t _ d => t.startEvict r d)))

/-- UMR_FLUSH (R172). -/
def execUmrFlush (r : Nat) (s : State) : Host.Outcome State Fault Refusal :=
  done s (s.work (fun u => u.umrCommand r 6 (fun t _ d => t.startFlush r d)))

/-- UMR_QUERY (R174). -/
def execUmrQuery (r : Nat) (s : State) : Host.Outcome State Fault Refusal :=
  done s (s.work (fun u => u.umrCommand r 7 (fun t q d => t.startQuery r q d)))

/-- BLOCK_FETCH_DONE (R178). -/
def execBlockFetchDone (page : Nat) (block : Fin 32) (res : MemRead) (s : State) : Host.Outcome State Fault Refusal :=
  done s (s.work (fun u => u.fetchDone page block.val res))

/-- FETCH_TIMEOUT (R179). -/
def execFetchTimeout (page : Nat) (block : Fin 32) (s : State) : Host.Outcome State Fault Refusal :=
  done s (s.work (fun u => u.fetchTimeout page block.val))

/-- ACCESS_TIMEOUT (R183). -/
def execAccessTimeout (r part page : Nat) (block : Fin 32) (s : State) : Host.Outcome State Fault Refusal :=
  done s (s.work (fun u => u.accessTimeout r part page block.val))

/-- WRITEBACK_DONE (R170). -/
def execWritebackDone (page : Nat) (block : Fin 32) (ok : Bool) (s : State) : Host.Outcome State Fault Refusal :=
  done s (s.work (fun u => u.writebackDone page block.val ok))

/-- PATROL_SCRUB (R185). -/
def execPatrolScrub (page : Nat) (block : Fin 32) (upper : Bool) (res : MemRead) (s : State) :
    Host.Outcome State Fault Refusal :=
  done s (s.work (fun u => u.patrolScrub page block.val upper res))

/-- FLASH_RELOCATE (R190). -/
def execFlashRelocate (eraseFails : Bool) (s : State) : Host.Outcome State Fault Refusal :=
  done s (s.work (fun u => u.flashRelocate eraseFails))

/-- FLASH_GARBAGE_COLLECTION (R182): GC_ACTIVE; flash fetches that start meanwhile are delayed. -/
def execFlashGarbageCollection (start : Bool) (s : State) : Host.Outcome State Fault Refusal :=
  done s (s.work (fun u => u.setFld Reg.UMR_FLASH_STATE 1 1 (b2n start)))

/-- MAPPING_TABLE_LOADED (R175): the unit runs. -/
def execMappingTableLoaded (s : State) : Host.Outcome State Fault Refusal := done s (s.setFld Reg.UMR_STATE 0 2 0)

end Sys2Proof.Machine
end

