-- ==== Sys2Proof/Machine/Engine.lean ====
section
/-! DEFINITION. What every engine other than the Gauntlets does with a request: it takes the command up, reads its inputs
through the unified range under the bandwidth regulators, writes its outputs, and ends. -/

namespace Sys2Proof.Machine

/-- A dispatched request of a KIND in `kinds` that nothing has been told to stop. -/
def State.engReq (s : State) (r : Nat) (kinds : List Nat) : Option Request :=
  match s.req r with
  | none => none
  | some q => if kinds.contains q.kind ∧ q.phase = .running ∧ q.ending = none then some q else none

/-- An engine request still waits for tile blocks. -/
def State.stillWaits (s : State) (r : Nat) : Bool := s.umr.waits.any (fun w => w.req == r)

/-- How an engine's accesses for a command went: they wait on a regulator, fail with a status, wait on tile blocks, or are
all made. -/
inductive Reads where
  | regulated | failed (st : Nat) | pending | ready
  deriving DecidableEq, Repr

/-- R176, R177: one access of an engine: it reads a range, or readies one for a write. -/
def State.engineTouch (s : State) (r : Nat) (q : Request) (loc : Nat) (x : Nat × Nat × Bool) : State × AccessResult :=
  if x.2.2 then s.accessPrep q.ctx loc x.1 x.2.1 (some r) else s.accessRead q.ctx loc x.1 x.2.1 (some r)

/-- R168, R176, R177, R215: an engine at `loc` (a Palm, 4 the Visor, 5 the Crown) makes accesses for a request, each given as
(address, bytes, whether it readies a write): they wait together on a regulator or on blocks, and the first status that is not
OK stands. A write draws on its buckets when it is made. -/
def State.engineAccess (s : State) (r : Nat) (q : Request) (loc : Nat) (xs : List (Nat × Nat × Bool)) : State × Reads :=
  if !(xs.all (fun x => s.mayAccess q.ctx loc x.1 x.2.1 x.2.2)) then (s.regulate r 0, .regulated)
  else
    let res := (xs.filter (fun x => decide (0 < x.2.1))).foldl (fun (acc : State × AccessResult) x =>
      if acc.2.status ≠ 0 then acc
      else
        let (t, w) := acc.1.engineTouch r q loc x
        (t, ⟨w.status, acc.2.waits ++ w.waits, acc.2.later || w.later⟩)) (s, ⟨0, [], false⟩)
    if res.2.status ≠ 0 then (res.1, .failed res.2.status)
    else if !res.2.ready then ((State.noteMigrate s res.1 r).newWaits res.2.waits r 0 0, .pending)
    else ((each xs (fun t x => if x.2.2 then t else t.drawAll q.ctx loc x.1 x.2.1 false) res.1).unregulate r 0, .ready)

/-- Accesses that read ranges. -/
def asReads (ins : List (Nat × Nat)) : List (Nat × Nat × Bool) := ins.map (fun x => (x.1, x.2, false))

/-- Accesses that ready ranges for writes. -/
def asWrites (outs : List (Nat × Nat)) : List (Nat × Nat × Bool) := outs.map (fun x => (x.1, x.2, true))

/-- An engine reads ranges for a request; `outs` are the ranges that it will write, whose rights are checked now. Where the same
command writes them (`now`), they are readied too. -/
def State.engineReads (s : State) (r : Nat) (q : Request) (loc : Nat) (ins outs : List (Nat × Nat)) (now : Bool := false) :
    State × Reads :=
  if s.stillWaits r then (s, .pending)
  else match outs.findSome? (fun x => if x.2 = 0 then none else s.accessFault q.ctx x.1 x.2 true) with
    | some (cause, fa) => (s.noteFault q.ctx cause fa, .failed 8)
    | none => s.engineAccess r q loc (asReads ins ++ if now then asWrites outs else [])

/-- R177: the ranges that an engine is about to write are readied, then `f` runs; a failing status goes to `fail`, and where they
wait, the event comes again. -/
def State.withOuts (s : State) (r : Nat) (q : Request) (loc : Nat) (outs : List (Nat × Nat)) (fail : State → Nat → State)
    (f : State → State) : State :=
  if s.stillWaits r then s
  else match s.engineAccess r q loc (asWrites outs) with
    | (t, .ready) => f t
    | (t, .failed st) => fail t st
    | (t, _) => t

/-- An engine writes bytes of a request's output; the status met first is kept. -/
def State.engineWrite (acc : State × Nat) (r : Nat) (q : Request) (loc a : Nat) (bs : Bytes) : State × Nat :=
  if acc.2 ≠ 0 ∨ bs = [] then acc
  else
    let (t, w) := (acc.1.drawAll q.ctx loc a bs.length true).accessWrite q.ctx loc a bs (some r)
    (t, w.status)

/-- R204: a request that fails after it started leaves its output regions unspecified; only bytes that its context may
write are (log entry 28). -/
def State.havocOuts (s : State) (q : Request) (outs : List (Nat × Nat)) : State :=
  each outs (fun t x => if x.2 = 0 then t else t.havocOut q.ctx x.1 x.2) s

/-- R204: a one-command request fails and every output region that its command names is unspecified. -/
def State.engineFail (s : State) (r : Nat) (q : Request) (st : Nat) : State := (s.havocNamed q).endReq r st 0 false

/-- R517: refuse a one-command request: its bits, its address, BAD_DESCRIPTOR. -/
def State.engineRefuse (s : State) (r : Nat) (q : Request) (rej desc mask : Nat) : State :=
  (s.endReq r 9 0 false).reject rej desc mask q.cmdAddr

end Sys2Proof.Machine
end

