-- ==== Sys2Proof/Machine/KnkBase.lean ====
section
/-! DEFINITION. Knuckle loops: sample windows, misses and readiness (R295 to R297, R302, R308). -/

namespace Sys2Proof.Machine

/-- A loop slot that has not been enabled. -/
def KnkLoop.idle : KnkLoop :=
  { next := 0, ahead := false, win := none, present := 0, ready := none, late := none, begun := false, x := [], d := [], old := none,
    region := 0, pending := none, waiting := false, result := none }

/-- Key of slot `l` of engine `e`. -/
def slotKey (e l : Nat) : Nat := e * 64 + l

/-- The loop in a slot. -/
def State.loopAt (s : State) (e l : Nat) : KnkLoop := (s.knk.loops.find (slotKey e l)).getD KnkLoop.idle

/-- Replace a loop. -/
def State.setLoop (s : State) (e l : Nat) (x : KnkLoop) : State :=
  { s with knk := { s.knk with loops := s.knk.loops.put (slotKey e l) x } }

/-- STATE of a slot: 0 disabled, 1 waiting, 2 computing, 3 FAULT. -/
def State.loopState (s : State) (e l : Nat) : Nat := s.fld (Reg.KNK_LOOP_STATE e l) 0 2

/-- NX, NU, NY and NR of a slot. -/
def State.loopNx (s : State) (e l : Nat) : Nat := s.fld (Reg.KNK_LOOP_DIM e l) 0 5
/-- NU. -/
def State.loopNu (s : State) (e l : Nat) : Nat := s.fld (Reg.KNK_LOOP_DIM e l) 8 4
/-- NY. -/
def State.loopNy (s : State) (e l : Nat) : Nat := s.fld (Reg.KNK_LOOP_DIM e l) 16 5
/-- NR. -/
def State.loopNr (s : State) (e l : Nat) : Nat := s.fld (Reg.KNK_LOOP_DIM e l) 24 4

/-- R295: N at which the window of sample `k` opens: Sₖ − GUARD_NS. -/
def State.windowAt (s : State) (e l k : Nat) : Nat :=
  (s.regN (Reg.KNK_LOOP_PHASE e l) + k * s.fld (Reg.KNK_LOOP_TIME e l) 0 32 + 2 ^ 64 - s.fld (Reg.KNK_LOOP_TIME e l) 32 24) % 2 ^ 64

/-- The base of a loop's windows. -/
def State.loopTb (s : State) (e l : Nat) : Nat := s.fld (Reg.KNK_LOOP_CFG e l) 1 2

/-- The first index not below `k0` whose instant `start + k · period` has not passed `n`. -/
def nextEdge (start period k0 n : Nat) : Nat :=
  let d := signed 64 (n + 2 ^ 64 - start)
  if d ≤ 0 ∨ period = 0 then k0 else Nat.max k0 (ceilDiv d.toNat period)

/-- Status DEADLINE of a missed loop's record and CHECK_MISMATCH of a pair's. -/
def stDeadline : Nat := 2
/-- CHECK_MISMATCH. -/
def stMismatch : Nat := 0x0A

/-- R297: `n` samples of a loop are misses: they are counted, and at MISS_LIMIT consecutive ones the loop enters FAULT. -/
def State.loopMiss (s : State) (e l n : Nat) : State :=
  let was := s.fld (Reg.KNK_LOOP_STATE e l) 16 8
  let m := Nat.min 255 (was + n)
  let s1 := (s.add (Reg.KNK_LOOP_CNT_MISS e l) n).setFld (Reg.KNK_LOOP_STATE e l) 16 8 m
  if n ≠ 0 ∧ s.fld (Reg.KNK_LOOP_MISS e l) 0 8 ≤ m ∧ s.loopState e l ≠ 3 then
    let s2 := (s1.setFld (Reg.KNK_LOOP_STATE e l) 0 2 3).setLoop e l { s1.loopAt e l with ready := none, late := none }
    s2.record 2 12 stDeadline (0x68 + e) none (slotKey e l) m
  else s1

/-- R269, R295: a forward step of base `b` passes over samples of its loops, which count as misses. -/
def State.skipSamples (s : State) (b nNew : Nat) : State :=
  each s.knk.loops.entries (fun t c =>
    let e := c.1 / 64
    let l := c.1 % 64
    if t.loopTb e l = b ∧ [1, 2].contains (t.loopState e l) ∧ !c.2.waiting then
      let k := nextEdge (t.windowAt e l 0) (t.fld (Reg.KNK_LOOP_TIME e l) 0 32) c.2.next nNew
      (t.setLoop e l { c.2 with next := k }).loopMiss e l (k - c.2.next)
    else t) s

/-- The slot paired with a slot, if PAIR_EN is set. -/
def State.mate (s : State) (e l : Nat) : Option (Nat × Nat) :=
  let c := s.regN (Reg.KNK_LOOP_CFG e l)
  if c.testBit 11 then some (bits c 16 2, bits c 18 6) else none

/-! ## Pairs (R308, R479) -/

/-- R479: a frame of a pair passes; 1,000 frames without a second disagreement close the open one. The pair is named by its
primary's slot. -/
def State.pairFrame (s : State) (key : Nat) : State :=
  let n := SMap.get (fun _ => 0) s.cuff.knkSample key + 1
  let open_ := match s.cuff.knkOpen.find key with
    | some o => decide (n ≤ o + 1000)
    | none => false
  { s with cuff := { s.cuff with
      knkSample := SMap.set (fun _ => 0) s.cuff.knkSample key n,
      knkOpen := if open_ then s.cuff.knkOpen else s.cuff.knkOpen.drop key } }

/-- R308, R479: a disagreement of a pair on engines `e` and `f`: both count and report it; the first starts a targeted test of
both engines, a second within 1,000 frames quarantines them. -/
def State.pairMismatch (s : State) (key e f : Nat) : State :=
  let s1 := s.pairFrame key
  let n := SMap.get (fun _ => 0) s1.cuff.knkSample key
  let s2 := (s1.bump (Reg.KNK_CNT_MISMATCH e)).bump (Reg.KNK_CNT_MISMATCH f)
  let s3 := (s2.record 2 13 stMismatch (0x68 + e) none 0xFFFF n).record 2 13 stMismatch (0x68 + f) none 0xFFFF n
  match s1.cuff.knkOpen.find key with
  | some _ => (s3.quarantine (0x84 + e) 0).quarantine (0x84 + f) 0
  | none =>
    let s4 := (s3.startTest (0x84 + e)).startTest (0x84 + f)
    { s4 with cuff := { s4.cuff with knkOpen := s4.cuff.knkOpen.put key n } }

/-- Whose slot names the pair: the primary's. -/
def State.pairKey (s : State) (e l f m : Nat) : Nat :=
  if s.bit (Reg.KNK_LOOP_CFG e l) 12 then slotKey f m else slotKey e l

/-- R308: only one member has computed sample `k` by the end of its window. -/
def State.pairEnd (s : State) (e l k : Nat) : State :=
  match s.mate e l with
  | none => s
  | some (f, m) =>
    let a := s.loopAt e l
    let b := s.loopAt f m
    let has (x : KnkLoop) : Bool := match x.result with
      | some r => r.1 == k
      | none => false
    if has a == has b then s
    else
      (((s.setLoop e l { a with result := none }).setLoop f m { b with result := none }).pairMismatch (s.pairKey e l f m) e f)

/-- The window of a loop closes. -/
def State.closeWindow (s : State) (e l : Nat) : State := s.setLoop e l { s.loopAt e l with win := none, present := 0 }

/-- A late compute of sample `k` is wanted. -/
def State.wantLate (s : State) (e l k : Nat) : State :=
  s.setLoop e l { s.loopAt e l with late := some (s.knk.order, s.now, k) }

/-- R297: sample `k` did not become ready in its window: a miss, and MISS_POLICY applies. -/
def State.missWindow (s : State) (e l k : Nat) : State :=
  let s2 := (s.closeWindow e l).loopMiss e l 1
  if s.bit (Reg.KNK_LOOP_CFG e l) 8 ∨ s2.loopState e l = 3 then s2 else s2.wantLate e l k

/-- R297: the open window of a loop ends: a sample that did not become ready is a miss and its MISS_POLICY applies; one that is
ready and has not started is dropped as a miss with OVERLOAD. -/
def State.endWindow (s : State) (e l : Nat) : State :=
  let x := s.loopAt e l
  match x.win with
  | none => s
  | some k =>
    let s0 := s.pairEnd e l k
    let x := s0.loopAt e l
    let s1 := match x.late with
      | some _ => ((s0.setLoop e l { x with late := none }).loopMiss e l 1).orReg (Reg.KNK_FLAGS e) 2
      | none => s0
    let y := { s1.loopAt e l with win := none, present := 0 }
    match x.ready with
    | some _ => ((s1.setLoop e l { y with ready := none, begun := false }).loopMiss e l 1).orReg (Reg.KNK_FLAGS e) 2
    | none =>
      if x.begun then s1.setLoop e l { y with begun := false } else s1.missWindow e l k

end Sys2Proof.Machine
end

