-- ==== Sys2Proof/Machine/RegWrite.lean ====
section
/-! DEFINITION. What a software write does to a register (R4, R393 to R396, R401): fields by their access types, clamp rules
of the field maps, shadows, refusals and the signature's UNCOMMITTED mark. -/

namespace Sys2Proof.Machine

/-- R4: one field of a register after a write. -/
def RegField.write (f : RegField) (old v acc : Nat) : Nat :=
  match f.access with
  | .rw => putBits acc f.lo f.width (bits v f.lo f.width)
  | .w1c => putBits acc f.lo f.width (bits old f.lo f.width - (bits old f.lo f.width &&& bits v f.lo f.width))
  | .w1s => putBits acc f.lo f.width (bits old f.lo f.width ||| bits v f.lo f.width)
  | _ => acc

/-- R4: the register after a write. -/
def RegDef.merge (d : RegDef) (old v : Nat) : Nat := d.fields.foldl (fun acc f => f.write old v acc) old

/-- A field of `v` at [lo + w − 1 : lo] clamped to a range. -/
def clampFld (v lo w a b : Nat) : Nat := putBits v lo w (clampNat a b (bits v lo w))

/-- The clamp rules of the field maps, by the register's first address. -/
def clampReg (base v : Nat) : Nat :=
  if base = Reg.GNT_TILE_LIMIT 0 then clampFld v 0 16 256 2100
  else if base = Reg.FNG_STALL_LIMIT 0 then clampFld v 0 21 256 1048576
  else if base = Reg.UMR_TIMEOUT_LPDDR then clampFld v 0 16 5 5000
  else if base = Reg.UMR_TIMEOUT_FLASH then clampFld v 0 16 500 50000
  else if base = Reg.QUE_RT_RESERVE then clampFld v 0 13 0 2048
  else if base = Reg.QUE_BUF_SPLIT then clampFld v 0 6 8 56
  else if base = Reg.QUE_SWAP_GRAN then clampFld v 0 6 0 43
  else if base = Reg.QUE_BKT 0 0 then clampFld (clampFld v 0 11 1 1024) 16 10 1 1023
  else if base = Reg.QUE_CTX_CFG 0 then clampFld v 16 13 1 4096
  else if base = Reg.QUE_RING_CFG 0 then (if 6 ≤ bits v 0 5 ∧ bits v 0 5 ≤ 16 then v else putBits v 0 5 6)
  else if base = Reg.VIS_PIPE_LIMIT 0 then clampFld v 32 16 1 65535
  else if base = Reg.TB_JUMP_LIMIT 0 then clampFld v 0 30 1000 1000000000
  else if base = Reg.ATU_TRK_RULES then clampFld v 4 4 (bits v 0 4) 15
  else if base = Reg.KNK_LOOP_SCHED 0 0 then clampFld v 8 5 1 16
  else if base = Reg.KNK_LOOP_MISS 0 0 then clampFld v 0 8 1 255
  else if base = Reg.PCU_MAP_CFG then
    clampFld (clampFld (clampFld (clampFld v 0 6 10 50) 8 4 8 14) 16 5 1 16) 32 32 1000 10000000
  else if base = Reg.BRM_DROOP then clampFld v 0 8 20 150
  else if base = Reg.BRM_CAP then clampFld v 0 12 350 1500
  else if base = Reg.BRM_OPPT then
    let m := Nat.max (bits v 0 3) (bits v 4 3)
    putBits (putBits v 4 3 m) 8 3 (Nat.min (bits v 8 3) m)
  else if base = Reg.CUF_CFG then clampFld (clampFld (clampFld v 8 7 1 100) 16 16 100 60000) 32 7 1 100
  else v

/-- R400: the part of a register's value that its block's signature covers. -/
def RegDef.contrib (d : RegDef) (v : Nat) : Nat :=
  if d.signed then d.fields.foldl (fun acc f => match f.access with
    | .rw => acc + bits v f.lo f.width * 2 ^ f.lo
    | _ => acc) 0
  else 0

/-- An accepted software write: an RWL register takes it in its shadow until its boundary (R394). -/
def State.storeReg (s : State) (a v : Nat) : State :=
  match regDef a with
  | none => s
  | some d =>
    let old := (s.shown a).toNat
    let new := clampReg d.base (d.merge old v)
    let u := if new = 0 then { s with refused := s.refused.filter (fun x => !(x == a)) } else s
    let t := match d.cls with
      | .rwl b => if b = .immediate then u.setRegN a new else { s with shadow := s.shadow.put a (BitVec.ofNat 64 new) }
      | .rwq => s.setRegN a new
      | .ro => s
      | .wo => s
      | .rc => s
    if d.contrib old = d.contrib new then t else t.uncommit (blockOf a)

/-- R395: an RWQ write of a block that is not quiescent. -/
def State.refuseBusy (s : State) (ag : Agent) (a : Nat) : State := (s.cfgReject (blockOf a)).busError ag true 3 a

/-- R391: a write that another rule of the block's chapter refuses. -/
def State.refuseRule (s : State) (ag : Agent) (a : Nat) : State := s.busError ag true 4 a

/-- The agent of a write that a command of the table makes without naming one: a Crown control core (DESIGN CHOICE, log entry
50). -/
def software : Agent := .crown 0

/-- R395: a write that clears ENABLE, bit `k`, of an RWQ register while the block is not quiescent: only ENABLE changes. -/
def State.clearBit (s : State) (a k v : Nat) : State :=
  let old := (s.reg a).toNat
  let t := (s.setFld a k 1 0).uncommit (blockOf a)
  match regDef a with
  | none => t
  | some d => if clampReg d.base (d.merge old v) = putBits old k 1 0 then t else t.cfgReject (blockOf a)

/-- R395: clearing an ENABLE that is bit 0. -/
def State.clearEnable (s : State) (a v : Nat) : State := s.clearBit a 0 v

end Sys2Proof.Machine
end

