-- ==== Sys2Proof/Machine/Timebase.lean ====
section
/-! DEFINITION. The time bases, edge stamps, time-triggered outputs, compare units and gPTP (R262 to R274, R288). -/

namespace Sys2Proof.Machine

/-! ## Steps and sets (R267 to R269) -/

/-- The number of values a base can hold: 2⁴⁸ seconds in units of 2⁻³² ns. -/
def timeSpan : Nat := 2 ^ 48 * 1000000000 * 2 ^ 32

/-- R267: why a request for `new` is refused: 0 accepted, 1 NEGATIVE, 2 JUMP. -/
def TimeBase.refusal (b : TimeBase) (new : Int) : Nat :=
  if new < 0 then 1
  else if b.isSet && !b.allowJump && decide ((b.jumpLimit : Int) * 2 ^ 32 < ((new - (b.val : Int)).natAbs : Int)) then 2
  else 0

/-- R267: an accepted step. A value beyond what TIME96 holds wraps (DESIGN CHOICE, log entry 51). -/
def TimeBase.stepped (b : TimeBase) (new : Int) : TimeBase :=
  { b with val := new.toNat % timeSpan, epoch := (b.epoch + 1) % 256, isSet := true, allowJump := false }

/-- R268: Δ in nanoseconds, to the nearest, an exact half away from zero. -/
def deltaNs (d : Int) : Int :=
  let k : Int := ((d.natAbs + 2 ^ 31) / 2 ^ 32 : Nat)
  if d < 0 then -k else k

/-- R269: a forward step skips the edges of the base's outputs that it passed over. -/
def State.skipEdges (s : State) (b nNew : Nat) : State :=
  iter 40 (fun t o =>
    let cfg := t.regN (Reg.TB_OUT_CFG o)
    if cfg.testBit 0 ∧ bits cfg 1 2 = b then
      let k0 := SMap.get (fun _ => 0) t.outNext o
      let k1 := nextEdge (t.regN (Reg.TB_OUT_START o)) (t.fld (Reg.TB_OUT_PERIOD o) 0 32) k0 nNew
      let k2 := if cfg.testBit 3 ∧ 1 < k1 then Nat.max k0 1 else k1
      ({ t with outNext := SMap.set (fun _ => 0) t.outNext o k2 }).add Reg.TB_CNT_EDGE_SKIP (k2 - k0)
    else t) s

/-- The effects of an accepted step of base `b` from `old` to its new value, other than the value itself: log, hold, edges
and cadence (R226, R268, R269, R274). -/
def State.afterStep (s : State) (b : Nat) (old new : TimeBase) (newVal : Int) : State :=
  let i := new.epoch % 16
  let d := newVal - (old.val : Int)
  let s1 := (s.setRegN (Reg.TB_LOG_DELTA b i) (codeOf 64 (deltaNs d))).setRegN (Reg.TB_LOG_AT b i) s.now
  let s2 := { s1 with gptpHold := s1.gptpHold - (if s1.gptpHold.testBit b then 2 ^ b else 0) }
  let n := (new.val / 2 ^ 32) % 2 ^ 64
  let s3 := if 0 < d then (s2.skipEdges b n).skipSamples b n else s2
  if s.fld Reg.CAD_CTRL 4 2 = b ∧ s.bit Reg.CAD_CTRL 0 ∧ s.que.cadNext = none then
    { s3 with que := { s3.que with
      cadResync := true, cadShift := s3.que.cadShift + (newVal / 2 ^ 32 - (old.val : Int) / 2 ^ 32) } }
  else s3

/-- R267: a refused request. -/
def State.stepRefused (s : State) (b reason : Nat) : State :=
  ((s.orReg (Reg.TB_FLAGS b) 1).setFld (Reg.TB_FLAGS b) 1 2 reason).setReg (Reg.TB_CNT_STEP_REFUSED b)
    (s.reg (Reg.TB_CNT_STEP_REFUSED b) + 1)

/-- Replace base `b`; what it was until now is noted where its value, rate or epoch changes. -/
def State.putBase (s : State) (b : Nat) (x : TimeBase) : State :=
  let y := s.time.get b
  { s with
    time := s.time.put b x,
    timePast := if y.val = x.val ∧ y.incr = x.incr ∧ y.epoch = x.epoch then s.timePast
      else ⟨b, s.time.tb0.val, y.val, y.incr, y.epoch⟩ :: s.timePast }

/-- R235, R236: the value (2⁻³² ns) and the epoch of base `b` at the instant `ageNs` of TB0 ago: from the change that came next,
or from the present where none came since. -/
def State.baseAt (s : State) (b ageNs : Nat) : Int × Nat :=
  let t : Int := (s.time.tb0.val : Int) - ageNs * 2 ^ 32
  let back (val at_ incr : Nat) : Int := (val : Int) - ((at_ : Int) - t) * incr / 2 ^ 34
  match s.timePast.reverse.find? (fun e => e.tb == b && decide (t < e.at_)) with
  | some e => (back e.val e.at_ e.incr, e.epoch)
  | none => (back (s.time.get b).val s.time.tb0.val (s.time.get b).incr, (s.time.get b).epoch)

/-- R267: a request for value `new` on base `b` (1 to 3). -/
def State.requestStep (s : State) (b : Nat) (x : TimeBase) (new : Int) : State :=
  let why := x.refusal new
  if why ≠ 0 then (s.putBase b x).stepRefused b why
  else ((s.afterStep b x (x.stepped new) new).putBase b (x.stepped new)).setReg (Reg.TB_CNT_STEP b) (s.reg (Reg.TB_CNT_STEP b) + 1)

/-- R394: a written jump limit is in force from the next step on. -/
def State.stepLimit (s : State) (b : Nat) : State :=
  let s1 := s.applyShadow (Reg.TB_JUMP_LIMIT b)
  s1.putBase b { s1.time.get b with jumpLimit := clampNat 1000 1000000000 (s1.fld (Reg.TB_JUMP_LIMIT b) 0 30) }

/-- The base with ALLOW_JUMP of the same write in force. -/
def State.baseFor (s : State) (b : Nat) (allow : Bool) : TimeBase :=
  let x := s.time.get b
  { x with allowJump := x.allowJump || allow }

/-- R267: STEP. -/
def State.tbStep (s : State) (b : Nat) (allow : Bool) : State :=
  if b = 0 then s
  else
    let s := s.stepLimit b
    let x := s.baseFor b allow
    s.requestStep b x ((x.val : Int) + signed 64 (s.regN (Reg.TB_STEP_ADJ b)) * 2 ^ 16)

/-- R267: SET. -/
def State.tbSet (s : State) (b : Nat) (allow : Bool) : State :=
  if b = 0 then s
  else
    let s := s.stepLimit b
    let x := s.baseFor b allow
    let a := s.regN (Reg.TB_SET_A b)
    if 1000000000 ≤ bits a 16 32 then (s.putBase b x).stepRefused b 3
    else
      let t := bits a 0 48 + bits (s.regN (Reg.TB_SET_B b)) 0 48 * 2 ^ 48
      s.requestStep b x ((time96Frac t * 2 ^ 16 : Nat) : Int)

/-- TB_STEP (R267). -/
def execTbStep (b : Fin 4) (allow : Bool) (s : State) : Host.Outcome State Fault Refusal := doneT s (s.tbStep b allow)

/-- TB_SET (R267). -/
def execTbSet (b : Fin 4) (allow : Bool) (s : State) : Host.Outcome State Fault Refusal := doneT s (s.tbSet b allow)

/-- TB_ALLOW_JUMP (R267). -/
def execTbAllowJump (b : Fin 4) (s : State) : Host.Outcome State Fault Refusal :=
  doneT s (if b.val = 0 then s else s.putBase b { s.time.get b with allowJump := true })

/-! ## Reads (R270, R288) -/

/-- TB_NOW_READ: the read answers with FRAC, NS and STEP_EPOCH, and latches SEC. -/
def execTbNowRead (b : Fin 4) (s : State) : Host.Outcome State Fault Refusal :=
  let x := s.time.get b
  let t := time96 x.val
  done s ((({ s with readVal := BitVec.ofNat 64 (bits t 0 48 + x.epoch * 2 ^ 48) }).setRegN (Reg.TB_NOW_B b) (bits t 48 48)))

/-- TB_EDGE_READ: the oldest entry is removed and its seconds are latched; with none, VALID reads 0 and the other fields
are free (log entry 52). -/
def execTbEdgeRead (s : State) : Host.Outcome State Fault Refusal :=
  match s.edges with
  | [] => done s (({ s with readVal := Config.freeWord s.fresh &&& 0xFFFFFFFFFFFF#64 }).freshN 1)
  | e :: es =>
    let w := e.ns + e.epoch * 2 ^ 32 + e.gpio * 2 ^ 40 + b2n e.rising * 2 ^ 45 + e.tb * 2 ^ 46 + 2 ^ 48
    done s (({ s with edges := es, readVal := BitVec.ofNat 64 w }).setRegN Reg.TB_EDGE_B e.sec)

/-! ## Edges, outputs and compares (R270 to R272) -/

/-- R488: an edge that Cuff names captures. -/
def State.edgeCapture (s : State) (g : Nat) (rising : Bool) : State :=
  let cap := s.regN Reg.CUF_CAP_CFG
  if cap.testBit 7 ∧ bits cap 0 5 = g ∧ cap.testBit (if rising then 5 else 6) then s.capture 2 s.now else s

/-- R270: a stamp enters the FIFO, or is lost when it is full; `drops` have been lost. -/
def State.takeEdge (s : State) (x : EdgeEntry) (drops : Word) : State :=
  if s.edges.length < 256 then { s with edges := s.edges ++ [x] } else s.setReg Reg.TB_CNT_EDGE_DROP (drops + 1)

/-- EDGE_STAMP (R270), with the capture of R488 where Cuff names this GPIO. -/
def State.edgeStamp (s : State) (g : Nat) (rising : Bool) : State :=
  let s0 := s.applyShadow (Reg.TB_IN_CFG g)
  let cfg := s0.regN (Reg.TB_IN_CFG g)
  if cfg.testBit (if rising then 0 else 1) then
    let b := bits cfg 2 2
    let t := time96 (s.time.get b).val
    (s0.edgeCapture g rising).takeEdge ⟨g, rising, b, bits t 48 48, bits t 16 32, (s.time.get b).epoch⟩
      (s.reg Reg.TB_CNT_EDGE_DROP)
  else s0

/-- EDGE_STAMP. -/
def execEdgeStamp (g : Fin 32) (rising : Bool) (s : State) : Host.Outcome State Fault Refusal :=
  done s (s.work (fun u => u.edgeStamp g rising))

/-- R271: the pulse width that a channel drives. -/
def State.outWidth (s : State) (o : Nat) : Nat :=
  let w := s.regN (Reg.TB_OUT_PERIOD o)
  if bits w 0 32 ≤ bits w 32 32 then bits w 0 32 - 4 else bits w 32 32

/-- R271: the level that a channel drives its pin to, none where the channel is not enabled and the pin is no output: the pulse of
its last edge lasts WIDTH ns on its base, and INVERT selects its polarity. -/
def State.pinLevel (s : State) (o : Nat) : Option Bool :=
  let cfg := s.regN (Reg.TB_OUT_CFG o)
  if !cfg.testBit 0 then none
  else
    let high := match s.pulse.find o with
      | some x => decide ((s.nowOf (bits cfg 1 2) + 2 ^ 64 - x.1) % 2 ^ 64 < x.2)
      | none => false
    some (high != cfg.testBit 4)

/-- R271, R235: edge `k` of a channel, due at `at_`, is driven at this instant of every base. -/
def State.driveEdge (s : State) (o k at_ : Nat) : State :=
  { s with
    outNext := SMap.set (fun _ => 0) s.outNext o (k + 1),
    pulse := s.pulse.put o (at_ % 2 ^ 64, s.outWidth o),
    trig := s.trig.put o ⟨(List.range 4).map (fun b => (s.time.get b).val), (List.range 4).map (fun b => (s.time.get b).epoch)⟩ }

/-- R271: OUTPUT_EDGE: the channel's next edge is due and is driven; a camera trigger keeps its instant on every base
(R235). -/
def State.outputEdge (s : State) (o : Nat) : State :=
  let s0 := s.applyShadow (Reg.TB_OUT_PERIOD o)
  let cfg := s0.regN (Reg.TB_OUT_CFG o)
  let k := SMap.get (fun _ => 0) s0.outNext o
  let at_ := s0.regN (Reg.TB_OUT_START o) + k * s0.fld (Reg.TB_OUT_PERIOD o) 0 32
  if cfg.testBit 0 ∧ due (s.nowOf (bits cfg 1 2)) at_ ∧ ¬ (cfg.testBit 3 ∧ 0 < k) then
    s0.driveEdge o k at_
  else s0

/-- OUTPUT_EDGE. -/
def execOutputEdge (o : Fin 40) (s : State) : Host.Outcome State Fault Refusal := done s (s.work (fun u => u.outputEdge o))

/-- R272: COMPARE_FIRE. -/
def State.compareFire (s : State) (k : Nat) : State :=
  let cfg := s.regN (Reg.TB_CMP_CFG k)
  if s.cmpArmed.testBit k ∧ cfg.testBit 0 ∧ due (s.nowOf (bits cfg 1 2)) (s.regN (Reg.TB_CMP_TARGET k)) then
    let s1 := { s with cmpArmed := s.cmpArmed - 2 ^ k }
    let s2 := if cfg.testBit 3 then s1.signal ⟨bits cfg 16 13, 2, 1⟩ [] else s1
    let s3 := if cfg.testBit 4 then s2.capture 3 s.now else s2
    s3.setReg (Reg.TB_CMP_CFG k) (s.reg (Reg.TB_CMP_CFG k) ||| 32#64)
  else s

/-- COMPARE_FIRE. -/
def execCompareFire (k : Fin 16) (s : State) : Host.Outcome State Fault Refusal := done s (s.work (fun u => u.compareFire k))

/-- R272: a unit is armed and its FIRED bit cleared. -/
def State.armCmp (s : State) (k : Nat) : State :=
  { (s.setFld (Reg.TB_CMP_CFG k) 5 1 0) with cmpArmed := s.cmpArmed ||| 2 ^ k }

/-- R272: a write of TB_CMP_CFG: a change of EN from 0 to 1 arms the unit and clears FIRED; clearing EN disarms it. -/
def State.writeCmpCfg (s : State) (k v : Nat) : State :=
  let was := s.bit (Reg.TB_CMP_CFG k) 0
  let s1 := s.storeReg (Reg.TB_CMP_CFG k) v
  if !was && v.testBit 0 then s1.armCmp k
  else if v.testBit 0 then s1
  else { s1 with cmpArmed := s1.cmpArmed - (if s1.cmpArmed.testBit k then 2 ^ k else 0) }

/-- COMPARE_ARM (R272): a write of TB_CMP_CFG. -/
def execCompareArm (k : Fin 16) (v : BitVec 64) (s : State) : Host.Outcome State Fault Refusal := done s (s.writeCmpCfg k v.toNat)

/-- R272: a write of TB_CMP_TARGET stores the target and re-arms a unit that is enabled. -/
def State.writeCmpTarget (s : State) (k v : Nat) : State :=
  let s1 := if s.bit (Reg.TB_CMP_CFG k) 0 then s.armCmp k else s
  s1.setRegN (Reg.TB_CMP_TARGET k) v

/-- COMPARE_TARGET_WRITE. -/
def execCompareTargetWrite (k : Fin 16) (v : BitVec 64) (s : State) : Host.Outcome State Fault Refusal :=
  done s (s.writeCmpTarget k v.toNat)

/-- R271: a write that changes EN of an output channel from 0 to 1 begins at the first edge that has not passed. -/
def State.enableOutput (s : State) (o : Nat) : State :=
  let cfg := s.regN (Reg.TB_OUT_CFG o)
  let n := s.nowOf (bits cfg 1 2)
  let s0 := s.applyShadow (Reg.TB_OUT_PERIOD o)
  let k := nextEdge (s0.regN (Reg.TB_OUT_START o)) (s0.fld (Reg.TB_OUT_PERIOD o) 0 32) 0 n
  { s0 with outNext := SMap.set (fun _ => 0) s0.outNext o k, pulse := s0.pulse.drop o }

/-! ## gPTP (R273, R274) -/

/-- An instance that has heard nothing. -/
def GptpInst.idle : GptpInst := { anns := List.replicate 6 none, syncSeq := 0, origin := 0, ports := [] }

/-- Instance `i`. -/
def State.gptpOf (s : State) (i : Nat) : GptpInst := SMap.get (fun _ => GptpInst.idle) s.gptp i

/-- Replace an instance. -/
def State.setGptp (s : State) (i : Nat) (x : GptpInst) : State :=
  { s with gptp := SMap.set (fun _ => GptpInst.idle) s.gptp i x }

/-- A dictionary entry of instance `i` (0x1C00). -/
def State.gptpEntry (s : State) (i sub : Nat) : Nat := s.dictN 0x1C00 (sub + 16 * i)

/-- The device's own clock identity, a constant of the part. -/
def ownClockId : Nat := leNat ((List.range 8).map (Config.partByte 0x100))

/-- What an instance announces of its own clock: the fields besides the priorities are IEEE 802.1AS's values for a clock
without a time source (PRESUMED, log entry 53). -/
def State.ownAnnounce (s : State) (i : Nat) : Announce :=
  ⟨s.gptpEntry i 4, 248, 0xFE, 0x436A, s.gptpEntry i 5, ownClockId, 0⟩

/-- The vector that the best master clock algorithm compares, most significant first. -/
def annVector (a : Announce) : List Nat :=
  [a.priority1, a.clockClass, a.accuracy, a.variance, a.priority2, a.identity, a.steps]

/-- Lexicographic comparison. -/
def lexLt : List Nat → List Nat → Bool
  | [], [] => false
  | [], _ :: _ => true
  | _ :: _, [] => false
  | x :: xs, y :: ys => if x = y then lexLt xs ys else decide (x < y)

/-- R273: port roles: external configuration (GPTP_PORT_ROLES) or the best master clock algorithm (PRESUMED, log entry
53): the port that hears the best clock is slave, a port that hears a better clock than the device would announce there is
passive, the others are master. -/
def gptpRoles (own : Announce) (anns : List (Option Announce)) (ext : Nat) : List Nat :=
  let step (a : Announce) : Announce := { a with steps := a.steps + 1 }
  let best := (List.range 6).foldl (fun (acc : Announce × Option Nat) p =>
    if bits ext (2 * p) 2 ≠ 0 then acc
    else match (nth none anns p).map step with
      | some a => if lexLt (annVector a) (annVector acc.1) then (a, some p) else acc
      | none => acc) (own, none)
  tab 6 (fun p =>
    let e := bits ext (2 * p) 2
    if e = 1 then 1 else if e = 2 then 2 else if e = 3 then 0
    else if best.2 = some p then 2
    else match nth none anns p with
      | some a => if lexLt (annVector a) (annVector best.1) then 3 else 1
      | none => 1)

/-- R273: the roles of an instance's ports: 0 disabled, 1 master, 2 slave, 3 passive. With no announce heard, every port that
nothing else configures is master: the device is grandmaster. -/
def State.gptpRole (s : State) (i : Nat) : List Nat :=
  if s.gptpEntry i 1 = 0 then List.replicate 6 0 else gptpRoles (s.ownAnnounce i) (s.gptpOf i).anns (s.gptpEntry i 6)

/-- R273: the instance sends a two-step sync with its base's value on its master ports. -/
def State.sendSync (s : State) (i : Nat) : State :=
  let x := s.gptpOf i
  s.setGptp i { x with
    syncSeq := (x.syncSeq + 1) % 65536, origin := s.fracOf (s.gptpEntry i 3),
    ports := (List.range 6).filter (fun p => nth 0 (s.gptpRole i) p == 1) }

/-- GPTP_ANNOUNCE_RX. -/
def State.gptpAnnounceRx (s : State) (i p : Nat) (m : Announce) : State :=
  if s.gptpEntry i 1 = 0 ∨ bits (s.gptpEntry i 6) (2 * p) 2 = 3 then s
  else
    let x := s.gptpOf i
    s.setGptp i { x with anns := x.anns.set p (some m) }

/-- GPTP_ANNOUNCE_RX (R273). -/
def execGptpAnnounceRx (i : Fin 2) (p : Fin 6) (m : Announce) (s : State) : Host.Outcome State Fault Refusal :=
  done s (s.work (fun u => u.gptpAnnounceRx i p m))

/-- GPTP_PDELAY (R273): the mean link delay of a port, in ns, from the four instants of an exchange. -/
def execGptpPdelay (p : Fin 6) (t1 t2 t3 t4 : Nat) (s : State) : Host.Outcome State Fault Refusal :=
  done s (s.work (fun u =>
    if u.gptpEntry 0 1 = 0 ∧ u.gptpEntry 1 1 = 0 then u
    else { u with pdelay := SMap.set (fun _ => (0 : Int)) u.pdelay p ((((t4 : Int) - t1) - ((t3 : Int) - t2)) / 2) }))

/-- GPTP_SYNC_TX (R273): an instance with a master port sends a two-step sync. -/
def execGptpSyncTx (i : Fin 2) (s : State) : Host.Outcome State Fault Refusal :=
  done s (s.work (fun u => if (u.gptpRole i).contains 1 then u.sendSync i else u))

/-- R266: INCR clamps to 4 ns ± 500 ppm. -/
def clampIncr (v : Nat) : Nat := clampNat 0x3FF7CED91 0x40083126F v

/-- R273: the offset in ns of an instance's base from its master: how far the receipt of a sync lies behind the time that it
carries, less the delay measured on the link of the slave port. -/
def State.gptpOffset (s : State) (i : Nat) (late : Int) : Int :=
  late - match (List.range 6).find? (fun p => nth 0 (s.gptpRole i) p == 2) with
    | some p => SMap.get (fun _ => (0 : Int)) s.pdelay p
    | none => 0

/-- R273, R274: a slave instance receives a sync, which it relays on its master ports. Of the servo, `late` is how far the receipt
lies behind the time that the sync carries, in ns, `rate` the INCR it chooses, `step` whether it corrects the phase now (its
algorithm is not stated, log entry 54). -/
def State.gptpSyncRx (s0 : State) (i : Nat) (late : Int) (rate : Nat) (step : Bool) : State :=
  let b := s0.gptpEntry i 3
  if !(s0.gptpRole i).contains 2 ∨ b = 0 ∨ 3 < b then s0
  else
    let off := s0.gptpOffset i late
    let s := (if (s0.gptpRole i).contains 1 then s0.sendSync i else s0).stepLimit b
    let x := s.time.get b
    let s0 := s.setDictN 0x1C00 (8 + 16 * i) (codeOf 64 off)
    let far := x.isSet && !x.allowJump && decide ((x.jumpLimit : Int) < (off.natAbs : Int))
    if far || (s.gptpHold.testBit b && !x.allowJump) then
      if far then { (s0.orReg (Reg.TB_FLAGS b) 8) with gptpHold := s0.gptpHold ||| 2 ^ b } else s0
    else
      let x1 := { x with incr := clampIncr rate }
      let s1 := s0.putBase b x1
      if step then s1.requestStep b x1 ((x1.val : Int) - off * 2 ^ 32) else s1

/-- GPTP_SYNC_RX (R274). -/
def execGptpSyncRx (i : Fin 2) (off : Int) (rate : Nat) (step : Bool) (s : State) : Host.Outcome State Fault Refusal :=
  doneT s (s.work (fun u => u.gptpSyncRx i off rate step))

end Sys2Proof.Machine
end

