-- ==== Sys2Proof/Machine/Align.lean ====
section
/-! DEFINITION. The Align and Track unit's channels: samples, alignment to one instant, clock drift and events (R275 to
R280, R286, R287). -/

namespace Sys2Proof.Machine

/-- A channel that holds nothing. -/
def AtuChan.idle : AtuChan := { samples := [], blockN := 0, blockMin := 0, baseline := none, desync := false }

/-- Channel `c`. -/
def State.chan (s : State) (c : Nat) : AtuChan := SMap.get (fun _ => AtuChan.idle) s.atu.chans c

/-- Replace a channel, and show its kept samples. -/
def State.setChan (s : State) (c : Nat) (x : AtuChan) : State :=
  ({ s with atu := { s.atu with chans := SMap.set (fun _ => AtuChan.idle) s.atu.chans c x } }).setFld (Reg.ATU_CH_STATE c) 0 6
    x.samples.length

/-- The base a channel's samples are stamped on (R275). -/
def State.chanTb (s : State) (c : Nat) : Nat := s.fld (Reg.ATU_CH_CFG c) 8 2

/-- Elements of a channel's sample. -/
def State.chanElems (s : State) (c : Nat) : Nat := s.fld (Reg.ATU_CH_CFG c) 10 4 + 1

/-- A TIME96 from units of 2⁻¹⁶ ns. -/
def time96Of (f : Nat) : Nat := time96 (f * 2 ^ 16)

/-- R287: an event for the track event ring; a full ring, one with a single free entry, loses it (DESIGN CHOICE, log entry 90). -/
def State.atuEvent (s : State) (t id kind a b : Nat) : State :=
  let h := s.fld Reg.ATU_EVT_HEAD 0 8
  if (h + 1) % 256 = s.fld Reg.ATU_EVT_TAIL 0 8 then s.bump Reg.ATU_CNT_EVT_LOST
  else
    let bs := natLE 12 t ++ natLE 4 id ++ natLE 1 kind ++ natLE 1 a ++ natLE 1 b ++ List.replicate 13 0
    (s.devWrite (s.regN Reg.ATU_EVT_BASE + 32 * h) bs).setRegN Reg.ATU_EVT_HEAD ((h + 1) % 256)

/-! ## Samples (R276) -/

/-- R268: a stamp of epoch `e` on base `b` carried to the base's epoch, by the logged steps; none when a step is no longer in
the log. -/
def State.carryStamp (s : State) (b : Nat) (stamp : Int) (e : Nat) : Option Int :=
  let k := ((s.time.get b).epoch + 256 - e % 256) % 256
  if 16 < k then none
  else some ((List.range k).foldl (fun acc j => acc + signed 64 (s.regN (Reg.TB_LOG_DELTA b ((e + 1 + j) % 16))) * 2 ^ 16) stamp)

/-- R276: before a use, every sample of a channel is carried to the current epoch; one that cannot be is dropped. -/
def State.carryChan (s : State) (c : Nat) : State :=
  let b := s.chanTb c
  let x := s.chan c
  let kept := x.samples.filterMap (fun y => (s.carryStamp b y.stamp y.epoch).map (fun t =>
    { y with stamp := t, epoch := (s.time.get b).epoch }))
  (s.setChan c { x with samples := kept }).add Reg.ATU_CNT_STEP_DROP (x.samples.length - kept.length)

/-- Insert in stamp order; an equal stamp replaces. -/
def insertSample (y : AtuSample) : List AtuSample → List AtuSample
  | [] => [y]
  | z :: zs => if y.stamp = z.stamp then y :: zs else if y.stamp < z.stamp then y :: z :: zs else z :: insertSample y zs

/-- R276: the channel keeps the 32 samples with the newest stamps. -/
def AtuChan.keep (x : AtuChan) (y : AtuSample) : AtuChan :=
  let all := insertSample y x.samples
  { x with samples := all.drop (all.length - 32) }

/-- R276: a sample older than every kept sample of a full channel. -/
def AtuChan.tooOld (x : AtuChan) (stamp : Int) : Bool :=
  x.samples.length == 32 && x.samples.all (fun z => decide (stamp < z.stamp))

/-- R280: the drift that CH_STATE shows, saturating. -/
def driftCode (d : Int) : Nat := codeOf 32 (clampInt (-(2 ^ 31)) (2 ^ 31 - 1) d)

/-- R280: the end of a block of 64 samples whose minimum is `m`. -/
def State.driftBlock (s : State) (c : Nat) (x : AtuChan) (m : Int) : State :=
  let frame : Int := s.fld (Reg.ATU_CH_TIME c) 32 32
  let m0 := x.baseline.getD m
  let d := m - m0
  let size : Int := d.natAbs
  let des := if x.desync then decide (frame < 2 * size) else decide (frame < size)
  let s1 := s.setChan c { x with blockN := 0, blockMin := 0, baseline := some m0, desync := des }
  let s2 := ((s1.setFld (Reg.ATU_CH_STATE c) 8 1 (b2n des)).setFld (Reg.ATU_CH_STATE c) 9 1 1).setFld
    (Reg.ATU_CH_STATE c) 32 32 (driftCode d)
  let t := time96 (s.time.get (s.chanTb c)).val
  if des = x.desync then s2
  else if des then (s2.atuEvent t 0 2 c 0xFF).bump Reg.ATU_CNT_DESYNC
  else s2.atuEvent t 0 3 c 0xFF

/-- R280: an accepted sample's o := arrival − stamp, in whole ns rounded down, joins the present block. -/
def State.driftSample (s : State) (c : Nat) (stamp : Int) : State :=
  let x := s.chan c
  let o := (((s.fracOf (s.chanTb c) : Nat) : Int) - stamp) / 2 ^ 16
  let m := if x.blockN = 0 then o else if o < x.blockMin then o else x.blockMin
  if x.blockN + 1 < 64 then s.setChan c { x with blockN := x.blockN + 1, blockMin := m } else s.driftBlock c x m

/-- R276, R280: a channel takes a sample. -/
def State.takeSample (s : State) (c : Nat) (stamp : Int) (epoch : Nat) (vals : List Nat) : State :=
  let s0 := (s.applyShadow (Reg.ATU_CH_TIME c)).carryChan c
  match s0.carryStamp (s0.chanTb c) stamp epoch with
  | none => s0.bump Reg.ATU_CNT_STEP_DROP
  | some t =>
    let x := s0.chan c
    if x.tooOld t then s0.bump Reg.ATU_CNT_PUSH_DROP
    else (s0.setChan c (x.keep ⟨t, (s0.time.get (s0.chanTb c)).epoch, vals⟩)).driftSample c t

/-- R275: the elements that a stream-fed channel decodes from a sample's data; an element beyond the data is free (log entry
56). -/
def State.streamElems (s : State) (c : Nat) (bs : Bytes) : List Nat :=
  let cfg := s.regN (Reg.ATU_CH_CFG c)
  let sc := s.regN (Reg.ATU_CH_SCALE c)
  let w := if bits cfg 14 2 = 0 then 2 else 4
  tab (s.chanElems c) (fun i =>
    let o := bits sc 32 16 + w * i
    let v := fieldLE bs o w
    if bs.length < o + w then (Config.freeWord (s.fresh + i)).toNat % 2 ^ 32
    else if bits cfg 14 2 = 2 then f32Mul v (bits sc 0 32)
    else f32Mul (f32OfInt (signed (8 * w) v)) (bits sc 0 32))

/-- R275: every enabled channel fed by a stream takes its accepted sample. -/
def State.feedChannels (s : State) (stream : Nat) (bs : Bytes) (stamp epoch : Nat) : State :=
  iter 64 (fun t c =>
    let cfg := t.regN (Reg.ATU_CH_CFG c)
    if cfg.testBit 0 ∧ cfg.testBit 1 ∧ bits cfg 2 6 = stream then
      (t.takeSample c stamp epoch (t.streamElems c bs)).freshN 16
    else t) s

/-! ## Commands (R286) -/

/-- The bytes of a command that its OPCODE does not use. -/
def atuUnused (op : Nat) : List (Nat × Nat) :=
  if op = 0x98 then [(2, 2), (0x28, 24)] else if op = 0x99 then [(3, 5), (0x10, 48)]
  else if op = 0x9A then [(0x12, 6), (0x30, 16)] else if op = 0x9B then [(1, 7), (0x10, 48)] else [(3, 61)]

/-- A field out of range, an address not 64-byte aligned, or an invalid TIME96 (R262, R289). -/
def atuBad (op : Nat) (d : Bytes) : Bool :=
  let f (o n : Nat) : Nat := fieldLE d o n
  if op = 0x98 then decide (3 < f 1 1) || f 0x20 8 % 64 != 0 || !time96Valid (f 4 12)
  else if op = 0x99 then decide (63 < f 1 1) || f 2 1 == 0 || decide (32 < f 2 1) || f 8 8 % 64 != 0
  else if op = 0x9A then decide (3 < f 1 1) || decide (15 < f 2 1) || (decide (63 < f 3 1) && f 3 1 != 0xFF) ||
    decide (256 < f 0x10 2) || f 0x18 8 % 64 != 0 || f 0x20 8 % 64 != 0 || f 0x28 8 % 64 != 0 || !time96Valid (f 4 12)
  else if op = 0x9B then f 8 8 % 64 != 0
  else !([1, 2].contains (f 1 1)) || (f 1 1 == 2 && decide (63 < f 2 1))

/-- The refusals of a command, as ATU_REJECT bits. -/
def State.atuMask (s : State) (q : Request) (d : Bytes) : Nat :=
  let op := fieldLE d 0 1
  b2n (op == 0x98 && (maskChans (fieldLE d 0x10 8)).any (fun c => s.chanTb c != fieldLE d 1 1)) * 2 +
  b2n (op == 0x9A && (match s.atu.last with
    | some t => decide (time96Frac (fieldLE d 4 12) < t)
    | none => false)) * 4 +
  b2n (q.tag != 0 && op != 0x98) * 8 +
  b2n (atuBad op d) * 16 +
  b2n ((atuUnused op).any (fun x => fieldLE d x.1 x.2 != 0)) * 32

/-- No other request has the unit. -/
def State.atuFree (s : State) (r : Nat) : Bool :=
  s.que.reqs.entries.all (fun e => e.1 == r || e.2.kind != 0x13 || e.2.units != [0x93])

/-- A request has the unit, which runs its command. -/
def State.atuTake (s : State) (r : Nat) (q : Request) : State :=
  (s.putReq r { q with units := [0x93] }).setFld Reg.ATU_STATE 16 1 1

/-- The command of request `r`, whose output ranges are `outs`, ends. -/
def State.atuEnd (s : State) (r : Nat) (q : Request) (st : Nat) (outs : List (Nat × Nat)) : State :=
  let s1 := if st = 0 ∨ st = 0x15 then s else s.havocOuts q outs
  (s1.endReq r st 0 (decide (st = 0x15))).setFld Reg.ATU_STATE 16 1 0

/-- A command whose OPCODE is `op` (and OP is in `ops`, where the OPCODE has one): checked, its inputs read, then `f`. An
unknown OPCODE or OP is refused by whichever event takes the request up. -/
def State.atuCommand (s : State) (r op : Nat) (ops : List Nat) (ins outs : Bytes → List (Nat × Nat))
    (f : State → Request → Bytes → State) : State :=
  match s.engReq r [0x13] with
  | none => s
  | some q =>
    let d := s.peek q.cmdAddr 64
    let o := fieldLE d 0 1
    if !(s.gateOn 0x93) ∨ !(s.atuFree r) then s
    else if o < 0x98 ∨ 0x9C < o then s.engineRefuse r q Reg.ATU_REJECT Reg.ATU_REJECT_DESC 16
    else if o ≠ op ∨ (ops ≠ [] ∧ [1, 2].contains (fieldLE d 1 1) ∧ !(ops.contains (fieldLE d 1 1))) then s
    else if q.units ≠ [0x93] ∧ s.atuMask q d ≠ 0 then s.engineRefuse r q Reg.ATU_REJECT Reg.ATU_REJECT_DESC (s.atuMask q d)
    else
      let s1 := s.atuTake r q
      match s1.engineReads r q 4 (ins d) (outs d) true with
      | (t, .failed st) => t.atuEnd r q st (outs d)
      | (t, .ready) => f t q d
      | (t, _) => t

/-! ## PUSH -/

/-- The samples of a PUSH: stamp (TIME96), epoch, the three reserved bytes, elements. -/
def pushSamples (n : Nat) (bs : Bytes) : List (Nat × Nat × Nat × List Nat) :=
  tab n (fun i =>
    let b := (bs.drop (80 * i)).take 80
    (fieldLE b 0 12, fieldLE b 12 1, fieldLE b 13 3, tab 16 (fun k => fieldLE b (16 + 4 * k) 4)))

/-- R262, R276: the samples are checked, then taken in order. No rule refuses samples for a channel that is disabled or fed by a
stream (DESIGN CHOICE, log entry 90). -/
def State.pushRun (s : State) (r : Nat) (q : Request) (d : Bytes) : State :=
  let c := fieldLE d 1 1
  let xs := pushSamples (fieldLE d 2 1) (s.peek (fieldLE d 8 8) (80 * fieldLE d 2 1))
  let m := b2n (xs.any (fun x => !time96Valid x.1)) * 16 + b2n (xs.any (fun x => x.2.2.1 != 0)) * 32
  if m ≠ 0 then (s.setFld Reg.ATU_STATE 16 1 0).engineRefuse r q Reg.ATU_REJECT Reg.ATU_REJECT_DESC m
  else (each xs (fun t x => t.takeSample c (time96Frac x.1) x.2.1 (x.2.2.2.take (t.chanElems c))) s).atuEnd r q 0 []

/-- PUSH. -/
def State.push (s : State) (r : Nat) : State :=
  s.atuCommand r 0x99 [] (fun d => [(fieldLE d 8 8, 80 * fieldLE d 2 1)]) (fun _ => []) (fun t q d => t.pushRun r q d)

/-- PUSH (R276, R286). -/
def execPush (r : Nat) (s : State) : Host.Outcome State Fault Refusal := done s (s.work (fun u => u.push r))

/-! ## ALIGN (R277 to R279) -/

/-- R277: an estimate from two samples: y := fma(w, x1 − x0, base), elementwise. -/
def estimate (w : Nat) (x0 x1 base : List Nat) : List Nat :=
  tab base.length (fun i => f32Fma w (f32Sub (nth 0 x1 i) (nth 0 x0 i)) (nth 0 base i))

/-- R277: MODE and estimate of a channel with `n` elements at instant `t`, from its samples in stamp order. -/
def alignOne (desync : Bool) (horizonUs n : Nat) (xs : List AtuSample) (t : Int) : Nat × List Nat :=
  let zero := List.replicate n 0
  let before := xs.filter (fun x => decide (x.stamp < t))
  let after := xs.filter (fun x => decide (t < x.stamp))
  if desync then (4, zero)
  else match xs.find? (fun x => decide (x.stamp = t)) with
    | some x => (0, x.vals)
    | none => match before.getLast?, after.head? with
      | some a, some b => (1, estimate (f32Ratio (t - a.stamp) 0 (b.stamp - a.stamp).toNat) a.vals b.vals a.vals)
      | none, some _ => (5, zero)
      | none, none => (3, zero)
      | some b, none =>
        if (horizonUs : Int) * 1000 * 2 ^ 16 < t - b.stamp then (3, zero)
        else match before.dropLast.getLast? with
          | none => (3, zero)
          | some a => (2, estimate (f32Ratio (t - b.stamp) 0 (b.stamp - a.stamp).toNat) a.vals b.vals b.vals)

/-- MODE and estimate of channel `c`. -/
def State.alignChan (s : State) (c : Nat) (t : Int) : Nat × List Nat :=
  let x := s.chan c
  alignOne x.desync (s.fld (Reg.ATU_CH_TIME c) 0 20) (s.chanElems c) x.samples t

/-- R278: the entry of a channel. -/
def State.alignEntry (s : State) (c : Nat) (t : Int) : Bytes :=
  let e := s.alignChan c t
  natLE 1 c ++ natLE 1 e.1 ++ natLE 1 (s.chanElems c) ++ List.replicate 5 0 ++
    ((List.range 16).flatMap (fun i => natLE 4 (nth 0 e.2 i)))

/-- R278: the output of an ALIGN. -/
def State.alignOut (s : State) (d : Bytes) : Bytes :=
  let t : Int := time96Frac (fieldLE d 4 12)
  let b := fieldLE d 1 1
  natLE 12 (fieldLE d 4 12) ++ natLE 1 b ++ natLE 1 (s.time.get b).epoch ++ [0, 0] ++
    ((maskChans (fieldLE d 0x10 8)).flatMap (fun c => s.alignEntry c t))

/-- R279: the samples are carried, the output is written, and a required channel in MODE 4 gives DESYNC. -/
def State.alignRun (s : State) (r : Nat) (q : Request) (d : Bytes) : State :=
  let cs := maskChans (fieldLE d 0x10 8)
  let s1 := each cs (fun t c => t.carryChan c) s
  let w := State.engineWrite (s1, 0) r q 4 (fieldLE d 0x20 8) (s1.alignOut d)
  let des := cs.any (fun c => (fieldLE d 0x18 8).testBit c && (s1.chan c).desync)
  (w.1.atuEnd r q (if w.2 ≠ 0 then w.2 else if des then 0x15 else 0) (alignOuts d)).setReg Reg.ATU_CNT_ALIGN
    (s.reg Reg.ATU_CNT_ALIGN + 1)

/-- ALIGN. -/
def State.align (s : State) (r : Nat) : State :=
  s.atuCommand r 0x98 [] (fun _ => []) alignOuts (fun t q d => t.alignRun r q d)

/-- ALIGN (R277). -/
def execAlign (r : Nat) (s : State) : Host.Outcome State Fault Refusal := done s (s.work (fun u => u.align r))

/-! ## REBASE and channel enable -/

/-- R280: the drift monitor of a channel starts again. -/
def State.rebaseRun (s : State) (r : Nat) (q : Request) (d : Bytes) : State :=
  let c := fieldLE d 2 1
  let s1 := s.setChan c { s.chan c with blockN := 0, blockMin := 0, baseline := none }
  (s1.setFld (Reg.ATU_CH_STATE c) 9 1 0).atuEnd r q 0 []

/-- REBASE. -/
def State.rebase (s : State) (r : Nat) : State :=
  s.atuCommand r 0x9C [2] (fun _ => []) (fun _ => []) (fun t q d => t.rebaseRun r q d)

/-- REBASE (R280). -/
def execRebase (r : Nat) (s : State) : Host.Outcome State Fault Refusal := done s (s.work (fun u => u.rebase r))

/-- A channel starts empty when it is enabled (DESIGN CHOICE, log entry 56). -/
def State.startChan (s : State) (c : Nat) : State := (s.setChan c AtuChan.idle).setRegN (Reg.ATU_CH_STATE c) 0

/-- R275, R289: a write of ATU_CH_CFG. -/
def State.writeAtuCh (s : State) (ag : Agent) (c v : Nat) : State :=
  let a := Reg.ATU_CH_CFG c
  if s.bit a 0 then (if v.testBit 0 then s.refuseBusy ag a else s.clearEnable a v)
  else if v.testBit 0 ∧ v.testBit 1 ∧ bits v 8 2 ≠ s.fld (Reg.VIS_STR_CFG (bits v 2 6)) 28 2 then
    (s.orReg Reg.ATU_REJECT 1).refuseRule ag a
  else if v.testBit 0 then (s.storeReg a v).startChan c else s.storeReg a v

/-- ATU_CHANNEL_ENABLE (R275). -/
def execAtuChannelEnable (ch : Fin 64) (v : BitVec 64) (s : State) : Host.Outcome State Fault Refusal :=
  done s (s.writeAtuCh software ch v.toNat)

end Sys2Proof.Machine
end

