-- ==== Sys2Proof/Machine/Attention.lean ====
section
/-! DEFINITION. The attention unit and the commands of the KV ring managers (R61 to R85). -/

namespace Sys2Proof.Machine

/-! ## Products (R33, R37, R66) -/

/-- R37: the FP32 value of a 16-bit product, in blocks of 32 and a binary tree. -/
def dot16 (xs ys : List FV) : Nat :=
  let n := ceilDiv xs.length 32
  let leaf (b : Nat) : Acc :=
    (((xs.drop (32 * b)).take 32).zip ((ys.drop (32 * b)).take 32)).foldl (fun a e => a.putMul e.1 e.2) Acc.zero
  let front := iter (n - 1) (fun (a : Acc) b => a.pushBlock (leaf b)) Acc.zero
  (treeClose rne false (leaf (n - 1)).value front.stack).1

/-- R33: the single rounding of the exact sum of products. -/
def dotExact (xs ys : List FV) : Nat :=
  toF32 ((xs.zip ys).foldl (fun a e => a.putMul e.1 e.2) Acc.zero).value

/-- The product of a class: 16-bit formats (BF16, FP16) by R37, 8-bit ones by R33. -/
def dotOf (fmt : Nat) (xs ys : List FV) : Nat := if fmt = 1 ∨ fmt = 2 then dot16 xs ys else dotExact xs ys

/-- FP32 −∞. -/
def f32NegInf : Nat := 0xFF800000

/-- The P format of R66. -/
def pFmt (fmtV : Nat) : FpFmt := if fmtV = 1 then bf16 else if fmtV = 2 then fp16 else e4m3

/-- Running maximum, sum and accumulators of a query row. -/
structure Soft where
  m : Nat
  l : Nat
  acc : List Nat
  deriving DecidableEq, Repr

/-- A key of a block: whether the masks let it through, its key and its value. -/
structure KeyRow where
  allowed : Bool
  k : List FV
  v : List FV
  deriving DecidableEq, Repr

/-- The larger of two scores; a NaN among them is kept (log entry 39). -/
def scoreMax (a b : Nat) : Nat := if f32Nan a || f32Nan b then 0x7FC00000 else f32Max a b

/-- One key block of R66 for a query row. -/
def Soft.block (x : Soft) (fmtQK fmtV d scale : Nat) (q : List FV) (keys : List KeyRow) : Soft :=
  let sc := keys.map (fun e => if e.allowed then f32Mul (dotOf fmtQK q e.k) scale else f32NegInf)
  let mNew := sc.foldl scoreMax x.m
  if mNew = f32NegInf then x
  else
    let alpha := f32Exp (f32Sub x.m mNew)
    let f := pFmt fmtV
    let ps := sc.map (fun e => f.dec (f.enc rne false false (f32 (f32Exp (f32Sub e mNew)))).1)
    let zero := FV.fin false 0 0
    let psPad := ps ++ List.replicate (128 - ps.length) zero
    let sum := toF32 (ps.foldl Acc.put Acc.zero).value
    let col (i : Nat) : List FV :=
      keys.map (fun e => if e.allowed then nth zero e.v i else zero) ++ List.replicate (128 - keys.length) zero
    ⟨mNew, f32Fma x.l alpha sum, tab d (fun i => f32Fma (nth 0 x.acc i) alpha (dotOf fmtV psPad (col i)))⟩

/-- R66: a span is folded into the row total; a span that skipped every block changes nothing (R70). -/
def Soft.fold (t : Option Soft) (x : Soft) : Option Soft :=
  if x.m = f32NegInf then t
  else match t with
    | none => some x
    | some o =>
      let mt := scoreMax o.m x.m
      let a := f32Exp (f32Sub o.m mt)
      let c := f32Exp (f32Sub x.m mt)
      let mix (u w : Nat) : Nat := f32Add (f32Mul u a) (f32Mul w c)
      some ⟨mt, mix o.l x.l, (o.acc.zip x.acc).map (fun e => mix e.1 e.2)⟩

/-! ## The descriptor and its table (R61 to R65, R71, R72) -/

/-- R71: cost of one work item. -/
def attItemCost (d fmtQK fmtV : Nat) : Nat :=
  let kd (f : Nat) : Nat := if f = 1 ∨ f = 2 then 32 else 64
  200 + 64 * (ceilDiv d (kd fmtQK) + ceilDiv 128 (kd fmtV) * ceilDiv d 128)

/-- R71: the checks of EST_ITEM for the Gauntlets that run the call: below its cost, and per Gauntlet above its limit. -/
def attEstLow (d : Bytes) : Bool := decide (fieldLE d 0x5C 4 < attItemCost (fieldLE d 4 2) (fieldLE d 1 1) (fieldLE d 2 1))

/-- R71: EST_ITEM is above a Gauntlet's limit. -/
def State.attEstOver (s : State) (d : Bytes) (g : Nat) : Bool := decide (s.fld (Reg.GNT_TILE_LIMIT g) 0 16 < fieldLE d 0x5C 4)

/-- R61, R64, R71, R72: the checks of a descriptor at `addr` without its table, as ATT_REJECT bits; Gauntlets `gs` run the call.
The descriptor's own alignment counts as an address (DEDUCED, log entry 81). -/
def State.attMask (s : State) (gs : List Nat) (addr : Nat) (d : Bytes) : Nat :=
  let qk := fieldLE d 1 1
  let v := fieldLE d 2 1
  let o := fieldLE d 3 1
  let hd := fieldLE d 4 2
  let hq := fieldLE d 6 1
  let hkv := fieldLE d 7 1
  let rows := fieldLE d 8 2
  let mask := fieldLE d 0x0A 1
  let flags := fieldLE d 0x0B 1
  let win := fieldLE d 0x14 4
  let tot := fieldLE d 0x64 4
  let fmtBad := decide (qk < 1) || decide (4 < qk) || decide (v < 1) || decide (4 < v) || decide (4 < o)
  let shapeBad := !([64, 96, 128, 192, 256].contains hd) || decide (hq < 1) || decide (128 < hq) || decide (hkv < 1) ||
    decide (hq < hkv) || hq % Nat.max 1 hkv != 0 || decide (rows < 1) || decide (4096 < rows) || decide (tot < 1) ||
    decide (65536 < tot)
  let maskBad := decide (7 < mask) || (mask.testBit 1 && (decide (win < 1) || decide (1048576 < win))) ||
    (mask.testBit 2 && !flags.testBit 4)
  let addrs := [fieldLE d 0x18 8, fieldLE d 0x20 8, fieldLE d 0x28 8, fieldLE d 0x30 8, fieldLE d 0x38 8, fieldLE d 0x40 8,
    fieldLE d 0x48 8, fieldLE d 0x50 4, fieldLE d 0x54 4, fieldLE d 0x58 4]
  b2n fmtBad + b2n shapeBad * 2 + b2n maskBad * 8 + b2n (!fmtBad && !shapeBad && attEstLow d) * 16 +
    b2n (gs.any (s.attEstOver d)) * 32 + b2n (addr % 128 != 0 || addrs.any (fun a => a % 64 != 0)) * 64 +
    b2n (bits flags 5 3 != 0 || fieldLE d 0x0E 2 != 0 || fieldLE d 0x68 24 != 0) * 128 + b2n (bits flags 0 2 == 3) * 256

/-- R61, R63, R65, R73: the checks of the length table, as ATT_REJECT bits; a call that appends uses the pools of its rows. -/
def State.attTableMask (s : State) (d : Bytes) (rows : List AttRow) : Nat :=
  let tot := fieldLE d 0x64 4
  let nw := attNoWrite d
  let sum := rows.foldl (fun a r => a + r.len) 0
  let inRange := rows.all (fun r => decide (1 ≤ r.len) && decide (r.tok0 + r.len ≤ tot) && (nw || decide (r.seq < 65536)))
  let disjoint := (List.range rows.length).all (fun i => (List.range i).all (fun j =>
    match rows[i]?, rows[j]? with
    | some a, some b => !overlaps (a.tok0, a.len) (b.tok0, b.len)
    | _, _ => true))
  let keysBad := rows.any (fun r => decide (1048576 < r.start + r.len))
  let pageBad := !nw && rows.any (fun r => decide (s.fld (Reg.KVR_PAGE_BYTES (r.seq % 4)) 0 22 < attPageBytes d))
  b2n (keysBad || pageBad) * 2 + b2n (!(inRange && disjoint && sum == tot)) * 4 +
    b2n ((fieldLE d 0x0A 1).testBit 2 && rows.any (fun r => r.start != 0)) * 8

/-- R63: a sequence that two rows of an appending call name. -/
def dupSeq (d : Bytes) (rows : List AttRow) : Option Nat :=
  if attNoWrite d then none
  else (rows.find? (fun r => decide (1 < (rows.filter (fun x => x.seq == r.seq)).length))).map (·.seq)

/-- Pages that a row's append needs (R75). -/
def AttRow.needs (x : AttRow) (q : SeqRec) : Nat :=
  if q.mode = 1 then 0 else ceilDiv (x.start + x.len) 16 - ceilDiv x.start 16

/-- R77 step 1, R78, R81: the checks of a row against its record, as KVR_REJECT bits. -/
def State.rowMask (s : State) (layer tag : Nat) (rows : List AttRow) (x : AttRow) : Nat :=
  match s.seq x.seq with
  | none => 1
  | some q =>
    if q.st ≠ 1 then 1
    else
      let palm := x.seq % 4
      let need := rows.foldl (fun a y => if y.seq % 4 = palm then
        (match s.seq y.seq with | some z => a + y.needs z | none => a) else a) 0
      b2n (tag == 0 && (decide (q.commit < q.tent) || (q.tag != 0 && decide (0 < q.nextLayer)))) +
      b2n (x.start != q.tent || (decide (0 < layer) && x.len != q.pend)) * 2 + b2n (layer != q.nextLayer) * 4 +
      b2n (tag != 0 && q.tag != 0 && q.tag != tag) * 8 +
      b2n (tag != 0 && q.mode == 1 && decide (16 * q.spec < q.tent - q.commit + x.len)) * 16 +
      b2n (q.mode != 1 && decide (q.maxTok < x.start + x.len)) * 32 + b2n (decide (s.kvFree palm < need)) * 64

/-! ## Keys, values and masks -/

/-- R64: whether the masks let key `k` through for query `q`; segment ids are those of packed tokens. -/
def State.attAdmit (s : State) (d : Bytes) (x : AttRow) (q k : Nat) : Bool :=
  let mask := fieldLE d 0x0A 1
  let seg (i : Nat) : Nat := s.peekN (fieldLE d 0x48 8 + 2 * (x.tok0 + i)) 2
  (!mask.testBit 0 || decide (k ≤ q)) && (!mask.testBit 1 || decide (q < k + fieldLE d 0x14 4)) &&
  (!mask.testBit 2 || seg k == seg q)

/-- Values of `n` elements of a format at an address. -/
def State.fmtVec (s : State) (fmt a n : Nat) : List FV := rowValues fmt n (s.peek a (n * fmtBytes fmt))

/-- Address of a key or value that a row reads: from START upward the call's tensors, below it the sequence's pages, which a
NO_WRITE row has too where the manager holds a record of its SEQ_ID (DESIGN CHOICE, log entry 86: R63 has both SEQ_ID ignored and
the keys below START come from the sequence). -/
def State.keyAddr (s : State) (d : Bytes) (x : AttRow) (k h : Nat) (val : Bool) : Nat :=
  if x.start ≤ k then
    fieldLE d (if val then 0x30 else 0x28) 8 + (x.tok0 + (k - x.start)) * fieldLE d 0x54 4 +
      h * fieldLE d 4 2 * fmtBytes (fieldLE d (if val then 2 else 1) 1)
  else match s.seq x.seq with
    | none => 0
    | some q => s.kvAddr d q x.seq k h val

/-- The keys of block `b` that a query at position `q` of a row meets. -/
def State.blockKeys (s : State) (d : Bytes) (x : AttRow) (q h b : Nat) : List KeyRow :=
  let hd := fieldLE d 4 2
  tab (Nat.min 128 (x.start + x.len - 128 * b)) (fun i =>
    let k := 128 * b + i
    ⟨s.attAdmit d x q k, s.fmtVec (fieldLE d 1 1) (s.keyAddr d x k h false) hd,
      s.fmtVec (fieldLE d 2 1) (s.keyAddr d x k h true) hd⟩)

/-- Output codes, LSE code and ATT_FLAGS of one query row (R66, R68, R69). -/
def State.attQuery (s : State) (d : Bytes) (x : AttRow) (i head : Nat) : List Nat × Nat × Nat :=
  let qk := fieldLE d 1 1
  let fv := fieldLE d 2 1
  let hd := fieldLE d 4 2
  let hq := fieldLE d 6 1
  let h := head / (hq / Nat.max 1 (fieldLE d 7 1))
  let pos := x.start + i
  let q := s.fmtVec qk (fieldLE d 0x20 8 + (x.tok0 + i) * fieldLE d 0x50 4 + head * hd * fmtBytes qk) hd
  let nb := ceilDiv (x.start + x.len) 128
  let blocks := tab nb (fun b => s.blockKeys d x pos h b)
  let fo := (fmtFloat (fieldLE d 3 1)).getD fp32
  let admitted := blocks.flatMap (fun b => b.filter (·.allowed))
  if admitted.isEmpty then (tab hd (fun _ => 0), f32NegInf, 1)
  else if q.any FV.isNan || admitted.any (fun e => e.k.any FV.isNan || e.v.any FV.isNan) then
    (tab hd (fun _ => fo.nanOut), 0x7FC00000, 2)
  else
    let span (n : Nat) : Soft := ((blocks.drop (32 * n)).take 32).foldl (fun acc b =>
      acc.block qk fv hd (fieldLE d 0x10 4) q b) ⟨f32NegInf, 0, tab hd (fun _ => 0)⟩
    let total := (List.range (ceilDiv nb 32)).foldl (fun t n => Soft.fold t (span n)) none
    let t := total.getD ⟨f32NegInf, 0, tab hd (fun _ => 0)⟩
    let flags := fieldLE d 0x0B 1
    let outs := tab hd (fun j =>
      let o := f32Div (nth 0 t.acc j) t.l
      fo.enc (rndAt (if fieldLE d 3 1 = 0 then 0 else bits flags 0 2) (fieldLE d 0x60 4) (pos * hq + head)
        (x.seq * 256 + j)) (flags.testBit 2) false (f32 o))
    (outs.map (·.1), f32Add t.m (f32Ln t.l), if outs.any (fun e => e.2 &&& flagSat != 0) then 4 else 0)

/-- Work items of a call (R66): per row and key/value head, each key block that some query row admits against each group
of at most 64 query rows. -/
def State.attItems (s : State) (d : Bytes) (rows : List AttRow) : Nat :=
  let group := fieldLE d 6 1 / Nat.max 1 (fieldLE d 7 1)
  rows.foldl (fun acc x =>
    let live := countIdx (ceilDiv (x.start + x.len) 128) (fun b =>
      (List.range x.len).any (fun i => (List.range (Nat.min 128 (x.start + x.len - 128 * b))).any (fun j =>
        s.attAdmit d x (x.start + i) (128 * b + j))))
    acc + live * fieldLE d 7 1 * ceilDiv (group * x.len) 64) 0

/-- Ranges that a call reads. -/
def State.attIns (s : State) (d : Bytes) (rows : List AttRow) : List (Nat × Nat) :=
  let hd := fieldLE d 4 2
  let hkv := fieldLE d 7 1
  let tot := fieldLE d 0x64 4
  let q := tab tot (fun t => (fieldLE d 0x20 8 + t * fieldLE d 0x50 4, fieldLE d 6 1 * hd * fmtBytes (fieldLE d 1 1)))
  let k := tab tot (fun t => (fieldLE d 0x28 8 + t * fieldLE d 0x54 4, hkv * hd * fmtBytes (fieldLE d 1 1)))
  let v := tab tot (fun t => (fieldLE d 0x30 8 + t * fieldLE d 0x54 4, hkv * hd * fmtBytes (fieldLE d 2 1)))
  let sg := if (fieldLE d 0x0A 1).testBit 2 then [(fieldLE d 0x48 8, 2 * tot)] else []
  let pages := rows.flatMap (s.kvPages d)
  (fieldLE d 0x18 8, 16 * rows.length) :: (q ++ k ++ v ++ sg ++ pages)

/-! ## The life of a call (R77 to R81) -/

/-- R71, R219: the Gauntlets of Palm `p` that may run a request's work items now. -/
def State.attGnts (s : State) (q : Request) (p : Nat) : List Nat :=
  ((List.range 4).map (4 * p + ·)).filter (fun g => s.cadAllows q.ctx g && s.gateOn (0x10 + g) && !s.quarantined (0x10 + g))

/-- The length table of a call that its context may read. -/
def State.tableRows (s : State) (q : Request) (d : Bytes) : List AttRow :=
  if 4096 < fieldLE d 8 2 ∨ (s.accessFault q.ctx (fieldLE d 0x18 8) (16 * fieldLE d 8 2) false).isSome then [] else s.attRows d

/-- R214: the Palm of an attention call: the one that holds most of its queries, new keys and values, and pages. -/
def State.attPlace (s : State) (q : Request) (d : Bytes) : Option Nat :=
  let cands := (s.candidatePalms q).filter (fun p => (s.att.find p).isNone && s.gateOn (0x24 + p) && !s.quarantined (0x24 + p) &&
    s.attGnts q p != [])
  let tot := Nat.min 65536 (fieldLE d 0x64 4)
  s.choosePalm cands ([(fieldLE d 0x20 8, tot * fieldLE d 0x50 4), (fieldLE d 0x28 8, tot * fieldLE d 0x54 4),
    (fieldLE d 0x30 8, tot * fieldLE d 0x54 4)] ++ (s.tableRows q d).flatMap (s.kvPages d))

/-- Sequences that a waiting request names: an appending call's rows, or the next command of a KV request. -/
def State.waitingSeqs (s : State) (r : Nat) : List Nat :=
  match s.req r with
  | none => []
  | some q =>
    let d := s.peek q.cmdAddr 128
    if q.kind = 3 then (match q.parts.head? with | some x => [s.peekN (x.addr + 4) 4] | none => [])
    else if fieldLE d 0 1 = 0x20 ∧ !attNoWrite d then (s.attRows d).map (·.seq) else []

/-- Sequences of the calls and KV commands that came before request `r` and have not ended (R79, R84). -/
def State.earlierSeqs (s : State) (r : Nat) : List Nat :=
  s.att.entries.flatMap (fun e => e.2.seqs) ++ (s.attWait.takeWhile (fun x => !(x == r))).flatMap s.waitingSeqs

/-- A call waits at the manager. -/
def State.attQueue (s : State) (r : Nat) : State :=
  if s.attWait.contains r then s else { s with attWait := s.attWait ++ [r] }

/-- R81: refuse a call with KVR_REJECT bits of the managers that own its rows. -/
def State.kvRefuse (s : State) (r : Nat) (rows : List AttRow) (mask : AttRow → Nat) : State :=
  each rows (fun t x => t.orReg (Reg.KVR_REJECT (x.seq % 4)) (mask x)) (s.endReq r 9 0 false)

/-- R77: the call starts on a Palm: its pages are reserved and its work items are due. -/
def State.attStart (s : State) (r : Nat) (q : Request) (palm : Nat) (d : Bytes) (rows : List AttRow) : State :=
  let nw := attNoWrite d
  let (s1, ps) := rows.foldl (fun (acc : State × List (List Nat)) x =>
    match (if nw then none else s.seq x.seq) with
    | none => (acc.1, acc.2 ++ [[]])
    | some rec =>
      let (t, l) := acc.1.takePages (x.seq % 4) (x.needs rec)
      (t, acc.2 ++ [l])) (s, [])
  let gs := s.attGnts q palm
  let call : AttCall := { req := r, desc := d, rows := rows, items := s.attItems d rows, seqs := if nw then [] else rows.map (·.seq), pages := ps, gnts := gs, draining := 0 }
  let s2 := { (s1.attUnqueue r) with att := s1.att.put palm call }
  let s3 := match s2.req r with
  | none => s2
  | some q1 => s2.putReq r { q1.onPalm s palm with outs := attOuts d, units := (0x24 + palm) :: gs.map (0x10 + ·) }
  s3.setRegN (Reg.ATT_STATE palm) (2 + q.ctx * 2 ^ 8)

/-- A call that its checks refuse: ATT_REJECT, and for a bad estimate the Gauntlets' own registers (R53, R71). -/
def State.attRefuse (s : State) (r : Nat) (q : Request) (palm m : Nat) (d : Bytes) : State :=
  let s1 := s.engineRefuse r q (Reg.ATT_REJECT palm) (Reg.ATT_REJECT_DESC palm) m
  each (s.attGnts q palm) (fun t g =>
    let k := bits m 4 1 * 8 + b2n (m.testBit 5 && s.attEstOver d g) * 16
    if k = 0 then t else t.reject (Reg.GNT_REJECT g) (Reg.GNT_REJECT_DESC g) k q.cmdAddr) s1

/-- R61 to R81: a call is checked. It starts on a Palm with the rows read, or it waits behind earlier work on one of its
sequences, for an attention unit, a regulator or a tile block, or it ends refused or failed. -/
def State.attCheck (s : State) (r : Nat) (q : Request) : State × Option (Nat × List AttRow) :=
  let d := s.peek q.cmdAddr 128
  match s.attPlace q d with
  | none => (s.attQueue r, none)
  | some palm =>
    let m1 := s.attMask (s.attGnts q palm) q.cmdAddr d
    if m1 ≠ 0 then (s.attRefuse r q palm m1 d, none)
    else
      let (s1, w) := s.engineReads r q palm [(fieldLE d 0x18 8, 16 * fieldLE d 8 2)] []
      match w with
      | .regulated => (s1.attQueue r, none)
      | .pending => (s1.attQueue r, none)
      | .failed st => (s1.engineFail r q st, none)
      | .ready =>
        let rows := s1.attRows d
        let m2 := s1.attTableMask d rows
        if m2 ≠ 0 then (s1.attRefuse r q palm m2 d, none)
        else match dupSeq d rows with
          | some id => ((s1.endReq r 9 0 false).orReg (Reg.KVR_REJECT (id % 4)) 256, none)
          | none =>
            let nw := attNoWrite d
            let before := s1.earlierSeqs r
            if !nw && rows.any (fun x => before.contains x.seq) then (s1.attQueue r, none)
            else
              let mask (x : AttRow) : Nat := if nw then 0 else s1.rowMask (fieldLE d 0x0C 2) q.tag rows x
              if rows.any (fun x => mask x != 0) then (s1.kvRefuse r rows mask, none)
              else
                let (s2, w2) := s1.engineReads r q palm (s1.attIns d rows) (attOuts d)
                match w2 with
                | .regulated => (s2.attQueue r, none)
                | .pending => (s2.attQueue r, none)
                | .failed st => (s2.engineFail r q st, none)
                | .ready => (s2, some (palm, rows))

/-- R61 to R81: a call that passes its checks starts. -/
def State.attTry (s : State) (r : Nat) (q : Request) : State :=
  match s.attCheck r q with
  | (t, none) => t
  | (t, some (palm, rows)) => t.attStart r q palm (s.peek q.cmdAddr 128) rows

/-- R517: an ATTENTION request's command of OPCODE `op` is run by `f`; an OPCODE that the KIND does not accept is refused by
whichever step reaches it. -/
def State.attCommand (s : State) (r op : Nat) (f : State → Request → State) : State :=
  match s.engReq r [2] with
  | none => s
  | some q =>
    let o := s.peekN q.cmdAddr 1
    if o ≠ 0x20 ∧ o ≠ 0x22 ∧ o ≠ 0x23 then
      (match (s.candidatePalms q).head? with
        | some p => s.engineRefuse r q (Reg.ATT_REJECT p) (Reg.ATT_REJECT_DESC p) 512
        | none => s.endReq r 9 0 false)
    else if o = op ∧ (s.attPalm r).isNone then f s q else s

/-- ATTENTION_CALL. -/
def State.attentionCall (s : State) (r : Nat) : State := s.attCommand r 0x20 (fun t q => t.attTry r q)

/-- SEQ_CALL_RELEASED (R79). -/
def State.seqCallReleased (s : State) (r : Nat) : State :=
  if s.attWait.contains r then s.attCommand r 0x20 (fun t q => t.attTry r q) else s

/-- A call that does not end with OK: its O and LSE regions are unspecified (R80) and no record changes (R78). -/
def State.attFail (s : State) (p r : Nat) (q : Request) (st : Nat) : State :=
  ((s.havocOuts q q.outs).dropAtt p).endReq r st 0 false

/-- ATT_WORK_ITEM_DONE (R71): a work item ends, on a Gauntlet that the call has or on one that it has left; no other one starts
while the cadence gives the call no Gauntlet. A request that is being stopped ends at this boundary. -/
def State.attItemDone (s : State) (p : Nat) : State :=
  match s.att.find p with
  | none => s
  | some x => match s.req x.req with
    | none => s
    | some q =>
      let gs := s.attGnts q p
      if x.items = 0 ∨ (gs = [] ∧ x.gnts = [] ∧ x.draining = 0) then s
      else
        let s1 := { s with att := s.att.put p { x with items := x.items - 1, gnts := gs, draining := x.draining - 1 } }
        let s2 := match (if s1.quarantined (0x24 + p) then some 0x0A else q.ending) with
          | some st => s1.attFail p x.req q st
          | none => s1
        s2.setReg (Reg.ATT_CNT_ITEMS p) (s.reg (Reg.ATT_CNT_ITEMS p) + 1)

/-- R66 to R69: a call's outputs are computed and written. -/
def State.attOutput (s : State) (r : Nat) (q : Request) (p : Nat) (d : Bytes) (rows : List AttRow) : State × Nat × Nat :=
  let hq := fieldLE d 6 1
  let fo := fieldLE d 3 1
  let w := fmtBits fo
  rows.foldl (fun acc x => (List.range x.len).foldl (fun acc i => (List.range hq).foldl (fun (acc : State × Nat × Nat) h =>
    let o := s.attQuery d x i h
    let a := fieldLE d 0x38 8 + (x.tok0 + i) * fieldLE d 0x58 4 + h * fieldLE d 4 2 * (w / 8)
    let t1 := State.engineWrite (acc.1, acc.2.1) r q p a (packElems w o.1 0)
    let t2 := if (fieldLE d 0x0B 1).testBit 3 then
        State.engineWrite t1 r q p (fieldLE d 0x40 8 + 4 * ((x.tok0 + i) * hq + h)) (natLE 4 o.2.1)
      else t1
    (t2.1, t2.2, acc.2.2 ||| o.2.2)) acc) acc) (s, 0, 0)

/-- R75 to R77 step 3: a row's new keys and values go into its layer's pages. -/
def State.attAppend (s : State) (r : Nat) (q : Request) (p : Nat) (d : Bytes) (x : AttRow) (pages : List Nat) : State × Nat :=
  match s.seq x.seq with
  | none => (s, 0)
  | some rec =>
    let first := ceilDiv x.start 16
    let s1 := iter pages.length (fun t i => t.setEntry rec (fieldLE d 0x0C 2) (first + i) (nth 0 pages i)) s
    iter x.len (fun (acc : State × Nat) i =>
      let k := x.start + i
      let put (acc : State × Nat) (val : Bool) : State × Nat :=
        let src := fieldLE d (if val then 0x30 else 0x28) 8 + (x.tok0 + i) * fieldLE d 0x54 4
        State.engineWrite acc r q p (s1.kvAddr d rec x.seq k 0 val) (s1.peek src (attPosBytes d val))
      put (put acc false) true) (s1, 0)

/-- R77 step 4, R81: the record of a row after a call that ended with OK. -/
def SeqRec.advance (rec : SeqRec) (layer tag c : Nat) (x : AttRow) (pages : Nat) : SeqRec :=
  let r1 := { rec with held := rec.held + pages, tag := if tag ≠ 0 ∧ layer = 0 then tag else rec.tag,
                       ctx := if tag ≠ 0 ∧ layer = 0 then c else rec.ctx }
  if layer + 1 = rec.layers then { r1 with tent := x.start + x.len, nextLayer := 0, pend := 0 }
  else { r1 with nextLayer := layer + 1, pend := x.len }

/-- R78: an untagged call that failed while it wrote pages breaks the sliding-window sequences it overran. -/
def State.breakRows (s : State) (tag : Nat) (rows : List AttRow) : State :=
  if tag ≠ 0 then s
  else each rows (fun t x => match t.seq x.seq with
    | none => t
    | some rec =>
      if rec.st = 1 ∧ rec.overruns x.len then
        (t.putSeq x.seq { rec with st := 2 }).bump (Reg.KVR_CNT_BROKEN (x.seq % 4))
      else t) s

/-- R77 steps 2 to 4: the outputs and the appends are written, then the records change; a write that fails ends the call. -/
def State.attFinish (s : State) (p : Nat) (x : AttCall) (q : Request) : State :=
  let d := x.desc
  let (s1, st1, fl) := s.attOutput x.req q p d x.rows
  let s2 := s1.orReg (Reg.ATT_FLAGS p) fl
  let nw := attNoWrite d
  let res := if st1 ≠ 0 ∨ nw then (s2, st1)
    else (x.rows.zip x.pages).foldl (fun (acc : State × Nat) e =>
      if acc.2 ≠ 0 then acc else acc.1.attAppend x.req q p d e.1 e.2) (s2, 0)
  let s3 := if res.2 ≠ 0 then
      ((if st1 = 0 ∧ nw = false then res.1.breakRows q.tag x.rows else res.1)).attFail p x.req q res.2
    else
      let t1 := if nw then res.1 else each (x.rows.zip x.pages) (fun t e => match t.seq e.1.seq with
        | none => t
        | some rec =>
          let layer := fieldLE d 0x0C 2
          let t2 := t.putSeq e.1.seq (rec.advance layer q.tag q.ctx e.1 e.2.length)
          if layer + 1 = rec.layers then t2.add (Reg.KVR_CNT_TOK_TENT (e.1.seq % 4)) e.1.len else t2) res.1
      let t3 := { t1 with att := t1.att.drop p }
      (t3.setRegN (Reg.ATT_STATE p) 0).endReq x.req 0 0 false
  s3.setReg (Reg.ATT_CNT_CALLS p) (s.reg (Reg.ATT_CNT_CALLS p) + 1)

/-- The ranges that a call writes: its outputs and what it appends. -/
def State.callOuts (s : State) (x : AttCall) : List (Nat × Nat) :=
  attOuts x.desc ++ (if attNoWrite x.desc then [] else (x.rows.zip x.pages).flatMap (fun e => s.appendOuts x.desc e.1 e.2))

/-- ATTENTION_CALL_END (R77). -/
def State.attCallEnd (s : State) (p : Nat) : State :=
  match s.att.find p with
  | none => s
  | some x => match s.req x.req with
    | none => s
    | some q =>
      if x.items ≠ 0 then s
      else s.withOuts x.req q p (s.callOuts x) (fun t st => t.attFail p x.req q st) (fun t => t.attFinish p x q)

/-! ## KV commands (R82 to R84) -/

/-- A KV command whose condition fails (R83). -/
def State.kvBad (s : State) (r idx id mask : Nat) : State :=
  (s.endReq r 9 idx false).orReg (Reg.KVR_REJECT (id % 4)) mask

/-- The next command of the list follows; the request ends with OK after the last. -/
def State.kvNext (s : State) (r : Nat) (x : Part) : State :=
  if x.next + 1 = x.stop then s.endReq r 0 0 false
  else match s.req r with
    | none => s
    | some q => (s.attUnqueue r).putReq r (q.setPart 0 { x with next := x.next + 1, addr := x.addr + 32 })

/-- R176: a KV command reads `n` bytes at `a` through translation cache `k`, then `f` runs; an access that fails ends the request
at this command, and one that waits keeps the command in its place at the managers. -/
def State.kvRead (s : State) (r : Nat) (q : Request) (x : Part) (k a n : Nat) (f : State → State) : State :=
  if s.stillWaits r then s
  else
    let (t, w) := s.accessRead q.ctx k a n (some r)
    if w.status ≠ 0 then t.endReq r w.status x.next false
    else if w.ready then f t else ((State.noteMigrate s t r).newWaits w.waits r 0 0).attQueue r

/-- R82, R84, R516, R517: the next command of a KV request has operation `op` and is run by `f` with the request, the part and
the command. An unknown OPCODE or operation is refused by whichever step reaches it; a command that meets earlier work on its
sequence waits for it, but a FREE is refused. -/
def State.kvCommand (s : State) (r op : Nat) (f : State → Request → Part → Bytes → Nat → State) : State :=
  match s.engReq r [3] with
  | none => s
  | some q => match q.parts.head? with
    | none => s
    | some x => s.kvRead r q x 5 x.addr 32 (fun t =>
        let d := t.peek x.addr 32
        let o := fieldLE d 1 1
        let id := fieldLE d 4 4
        if fieldLE d 0 1 ≠ 0x21 ∨ o = 0 ∨ 5 < o ∨ 65535 < id then t.kvBad r x.next id 1024
        else if o ≠ op then t
        else if (t.earlierSeqs r).contains id then (if o = 5 then t.kvBad r x.next id 1024 else t.attQueue r)
        else f t q x d id)

/-- The pages of a sequence that is not free return to the pool. -/
def State.returnPages (s : State) (id : Nat) : State :=
  match s.seq id with
  | some o => (s.freeFrom id o 0).1
  | none => s

/-- R82: a sequence is active with a template's fields, and ring pages are allocated in sliding-window mode. -/
def State.initSeq (s : State) (c id : Nat) (tpl : SeqRec) (need : Nat) : State :=
  let nr := { tpl with st := 1, commit := 0, tent := 0, held := need, ctx := c }
  let (t1, ps) := s.takePages (id % 4) need
  let t2 := iter need (fun u i => u.setEntry nr (i / Nat.max 1 nr.ring) (i % Nat.max 1 nr.ring) (nth 0 ps i)) t1
  t2.putSeq id nr

/-- KV INIT: the template is copied, the sequence is active, and ring pages are allocated in sliding-window mode. A broken
sequence's pages return first. -/
def State.kvInit (s : State) (r : Nat) : State :=
  s.kvCommand r 1 (fun t q x d id =>
    if (t.seq id).map (·.st) = some 1 then t.kvBad r x.next id 1024
    else t.kvRead r q x (id % 4) (fieldLE d 0x10 8) 64 (fun u =>
      let u0 := u.returnPages id
      let tpl := SeqRec.ofBytes (u.peek (fieldLE d 0x10 8) 64)
      let need := if tpl.mode = 1 then tpl.layers * tpl.ring else 0
      if u0.kvFree (id % 4) < need then u.kvBad r x.next id 64 else (u0.initSeq q.ctx id tpl need).kvNext r x))

/-- KV COMMIT. -/
def State.kvCommit (s : State) (r : Nat) : State :=
  s.kvCommand r 2 (fun t _ x d id =>
    let v := fieldLE d 8 4
    match t.seq id with
      | none => t.kvBad r x.next id 128
      | some q =>
        if v < q.commit ∨ q.tent < v then t.kvBad r x.next id 128
        else
          let t1 := (t.putSeq id { q with commit := v, tag := if v = q.tent then 0 else q.tag }).kvNext r x
          t1.setReg (Reg.KVR_CNT_TOK_COMMIT (id % 4))
            (t.reg (Reg.KVR_CNT_TOK_COMMIT (id % 4)) + BitVec.ofNat 64 (v - q.commit)))

/-- KV ROLLBACK. -/
def State.kvRollback (s : State) (r : Nat) : State :=
  s.kvCommand r 3 (fun t _ x _ id =>
    match t.seq id with
      | none => t.kvBad r x.next id 1024
      | some q => if q.st ≠ 1 then t.kvBad r x.next id 1024 else (t.rollbackSeq id q).kvNext r x)

/-- KV TRUNCATE: a ROLLBACK first, then COMMIT and TENT take VALUE. -/
def State.kvTruncate (s : State) (r : Nat) : State :=
  s.kvCommand r 4 (fun t _ x d id =>
    let v := fieldLE d 8 4
    match t.seq id with
      | none => t.kvBad r x.next id 512
      | some q =>
        if q.commit < v ∨ (q.mode = 1 ∧ v ≠ 0) then t.kvBad r x.next id 512
        else
          let t1 := t.rollbackSeq id q
          match t1.seq id with
          | none => t1.kvNext r x
          | some q1 =>
            let (t2, n) := if q1.mode = 1 then (t1, 0) else t1.freeFrom id q1 (ceilDiv v 16)
            (t2.putSeq id { q1 with commit := v, tent := v, held := q1.held - n }).kvNext r x)

/-- KV FREE: every page returns and the sequence is free. -/
def State.kvFreeSeq (s : State) (r : Nat) : State :=
  s.kvCommand r 5 (fun t _ x _ id =>
    match t.seq id with
      | none => t.kvNext r x
      | some q => (((t.freeFrom id q 0).1).putSeq id { q with st := 0, held := 0 }).kvNext r x)

/-! ## The commands -/

/-- ATTENTION_CALL (R66). -/
def execAttentionCall (r : Nat) (s : State) : Host.Outcome State Fault Refusal :=
  done s (s.work (fun u => u.attentionCall r))

/-- ATT_WORK_ITEM_DONE (R71). -/
def execAttWorkItemDone (p : Fin 4) (s : State) : Host.Outcome State Fault Refusal :=
  done s (s.work (fun u => u.attItemDone p.val))

/-- ATTENTION_CALL_END (R77). -/
def execAttentionCallEnd (p : Fin 4) (s : State) : Host.Outcome State Fault Refusal :=
  done s (s.work (fun u => u.attCallEnd p.val))

/-- SEQ_CALL_RELEASED (R79). -/
def execSeqCallReleased (r : Nat) (s : State) : Host.Outcome State Fault Refusal :=
  done s (s.work (fun u => u.seqCallReleased r))

/-- KV_INIT (R82). -/
def execKvInit (r : Nat) (s : State) : Host.Outcome State Fault Refusal := done s (s.work (fun u => u.kvInit r))

/-- KV_COMMIT (R82). -/
def execKvCommit (r : Nat) (s : State) : Host.Outcome State Fault Refusal := done s (s.work (fun u => u.kvCommit r))

/-- KV_ROLLBACK (R82). -/
def execKvRollback (r : Nat) (s : State) : Host.Outcome State Fault Refusal := done s (s.work (fun u => u.kvRollback r))

/-- KV_TRUNCATE (R82). -/
def execKvTruncate (r : Nat) (s : State) : Host.Outcome State Fault Refusal := done s (s.work (fun u => u.kvTruncate r))

/-- KV_FREE (R82). -/
def execKvFree (r : Nat) (s : State) : Host.Outcome State Fault Refusal := done s (s.work (fun u => u.kvFreeSeq r))

/-- SCHED_CANCEL (R230): with the rollback of R84. -/
def execSchedCancel (r : Nat) (s : State) : Host.Outcome State Fault Refusal :=
  done s (s.work (fun u => u.schedCancel r State.rollbackTag))

end Sys2Proof.Machine
end

