-- ==== Sys2Proof/Machine/NetBase.lean ====
section
/-! DEFINITION. What leaves through the switch: egress queues and gates of ports 0 to 5, the ready frames of the field segments,
and the process-data output map (R359, R364, R367, R369). -/

namespace Sys2Proof.Machine

/-! ## Access -/

/-- A roster node that has exchanged nothing. -/
def NetNode.idle : NetNode := { lastSeq := none, since := 0, data := [], written := [], first := none, seq := 0 }

/-- A segment with nothing to send. -/
def Seg.idle : Seg := { ready := [], off := none, noiseMs := 0, noise := 0, beaconMs := 0, beacons := 0, oldLimit := none, tsync := 0, synced := none }

/-- Roster node `n`. -/
def State.node (s : State) (n : Nat) : NetNode := (s.net.nodes.find n).getD NetNode.idle

/-- Replace a roster node. -/
def State.setNode (s : State) (n : Nat) (x : NetNode) : State := { s with net := { s.net with nodes := s.net.nodes.put n x } }

/-- Segment `k`. -/
def State.seg (s : State) (k : Nat) : Seg := (s.net.segs.find k).getD Seg.idle

/-- Replace a segment. -/
def State.setSeg (s : State) (k : Nat) (x : Seg) : State := { s with net := { s.net with segs := s.net.segs.put k x } }

/-- A roster entry of node `n` (0x8000 + n). -/
def State.roster (s : State) (n sub : Nat) : Nat := s.dictN (0x8000 + n) sub

/-- A segment entry (0x1E00 + k). -/
def State.segCfg (s : State) (k sub : Nat) : Nat := s.dictN (0x1E00 + k) sub

/-- The module's own MAC address, a constant of the part. -/
def ownMac : Nat := leNat ((List.range 6).map (Config.partByte 0x102))

/-- A number as `n` bytes, most significant first. -/
def natBE (n v : Nat) : Bytes := (natLE n v).reverse

/-! ## Egress of ports 0 to 5 -/

/-- R359: whether the gate of a traffic class is open: with no list the gates are open. -/
def State.gateOpen (s : State) (p tc : Nat) : Bool :=
  match s.net.gcl.find p with
  | none => true
  | some g => (Config.gclGates g.list g.idx).toNat.testBit tc

/-- A frame leaves port `p` (0 to 12). -/
def State.transmit (s : State) (p : Nat) (frame : Bytes) : State :=
  ({ s with net := { s.net with lastTx := SMap.set (fun _ => []) s.net.lastTx p frame } }).bump (Reg.NET_CNT_TX p)

/-- R358, R378: fragments of a frame of a pre-emptable class on a port whose pre-emption is verified: a free number, since where a
frame is cut depends on time (log entry 7). -/
def State.countFrags (s : State) (p tc : Nat) (frame : Bytes) : State :=
  if s.bit Reg.NET_STATE (6 + p) ∧ !((s.dictN (0x1A00 + p) 4).testBit tc) then
    (s.add (Reg.NET_CNT_FRAG p) ((Config.freeWord s.fresh).toNat % (frame.length / 64 + 1))).freshN 1
  else s

/-- A frame of a class for an external port: sent at once when its gate is open, else it waits; a port that is disabled or
has no link drops it. -/
def State.egress (s : State) (p tc : Nat) (frame : Bytes) : State :=
  if s.dictN (0x1A00 + p) 1 = 0 ∨ !(s.bit Reg.NET_STATE p) then s.bump (Reg.NET_CNT_DROP p)
  else if s.gateOpen p tc then (s.countFrags p tc frame).transmit p frame
  else
    let q := SMap.get (fun _ => []) s.net.queues p
    { s with net := { s.net with queues := SMap.set (fun _ => []) s.net.queues p (q ++ [(tc, frame)]) } }

/-- R359: the frames of the classes whose gates are open leave, in order, highest class first. -/
def State.drainPort (s : State) (p : Nat) : State :=
  let q := SMap.get (fun _ => []) s.net.queues p
  let go := (List.range 8).reverse.flatMap (fun tc => if s.gateOpen p tc then q.filter (fun f => f.1 == tc) else [])
  let keep := q.filter (fun f => !(s.gateOpen p f.1))
  each go (fun t f => (t.countFrags p f.1 f.2).transmit p f.2)
    { s with net := { s.net with queues := SMap.set (fun _ => []) s.net.queues p keep } }

/-! ## Segments -/

/-- R369, R370: a frame becomes ready on segment `k`; one longer than SEG_MAX_FRAME (its FCS counted) is discarded. With PLCA
off it is sent at once (R368). -/
def State.segReady (s : State) (k : Nat) (output : Bool) (frame : Bytes) : State :=
  if s.segCfg k 1 = 0 ∨ s.segCfg k 0x0B < frame.length + 4 then s.bump (Reg.NET_CNT_DROP (9 + k))
  else if s.segCfg k 2 = 0 ∧ (s.seg k).off = none then s.transmit (9 + k) frame
  else
    let x := s.seg k
    s.setSeg k { x with ready := x.ready ++ [(output, frame)] }

/-! ## Process-data output (R364, R367) -/

/-- R364: a process-data payload. -/
def pdPayload (type node seq flags : Nat) (data : Bytes) : Bytes :=
  natLE 1 1 ++ natLE 1 type ++ natLE 2 node ++ natLE 4 seq ++ natLE 2 data.length ++ natLE 1 flags ++ [0] ++ data

/-- R364: a process-data frame without its FCS; on ports 0 to 5 it carries the VLAN tag of the node's entry. -/
def pdFrame (dst : Nat) (tag : Option Nat) (payload : Bytes) : Bytes :=
  let head := natBE 6 dst ++ natBE 6 ownMac ++ (match tag with
    | some v => natBE 2 0x8100 ++ natBE 2 v
    | none => []) ++ natBE 2 0x88B5
  padTo (Nat.max 60 (head.length + payload.length)) (head ++ payload)

/-- R367: the output frame of node `n` is sent. -/
def State.sendOutput (s : State) (n : Nat) (stale : Bool) : State :=
  let x := s.node n
  let len := s.roster n 9
  let payload := pdPayload 2 n x.seq (b2n stale) (padTo len x.data)
  let s1 := s.setNode n { x with written := [], first := none, seq := (x.seq + 1) % 2 ^ 32 }
  let at_ := s.roster n 3
  if at_ < 6 then s1.egress at_ (bits (s.roster n 5) 13 3) (pdFrame (s.roster n 2) (some (s.roster n 5)) payload)
  else if 8 ≤ at_ ∧ at_ < 12 then s1.segReady (at_ - 8) true (pdFrame (s.roster n 2) none payload)
  else s1

/-- R367: the valid output-map entries that target node `n`. -/
def State.mapEntries (s : State) (n : Nat) : List Nat :=
  (List.range 1024).filter (fun m =>
    let e := s.dictN (0x8800 + m) 1
    e.testBit 63 && bits e 0 10 == n)

/-- R301, R367: a loop's outputs are placed in output-map entry `m`, one field after another from its offset; bytes past
OUT_LEN are not in the frame. -/
def State.writeOutput (s : State) (m : Nat) (bs : Bytes) : State :=
  let e := s.dictN (0x8800 + m) 1
  if !(e.testBit 63) then s
  else
    let n := bits e 0 10
    let o := bits e 16 10
    let x := s.node n
    let d := padTo (s.roster n 9) x.data
    let data := (padTo o d ++ bs ++ d.drop (o + bs.length)).take (s.roster n 9)
    let written := if x.written.contains m then x.written else m :: x.written
    let s1 := s.setNode n { x with data := data, written := written, first := some (x.first.getD s.now) }
    if (s1.mapEntries n).all (fun k => written.contains k) then s1.sendOutput n false else s1

end Sys2Proof.Machine
end

