-- ==== Sys2Proof/Machine/Knuckle.lean ====
section
/-! DEFINITION. Knuckle closed-loop control engines: the control law, compute-when-ready, emission, gain scheduling, live
gains, pairs, coefficient memory and traces (R290 to R311). -/

namespace Sys2Proof.Machine

/-! ## The control law (R291 to R293, R302, R303) -/

/-- R291: the accumulator range in units of 2⁻³¹. -/
def accMax : Int := 2 ^ 71 - 1

/-- R291: one term added; after an overflow the accumulator keeps the end of its range. -/
def accStep (acc : Int × Bool) (word : Nat) (v : Int) : Int × Bool :=
  if acc.2 then acc
  else
    let t := acc.1 + signed 32 (bits word 0 32) * v * 2 ^ (31 - bits word 32 5)
    if accMax < t then (accMax, true) else if t < -(2 ^ 71) then (-(2 ^ 71), true) else (t, false)

/-- Saturation to the signed 32-bit range. -/
def sat32 (v : Int) : Int := clampInt (-(2 ^ 31)) (2 ^ 31 - 1) v

/-- R291: the accumulator rounded to an integer, ties to even, then saturated. -/
def accRound (acc : Int) : Int :=
  let q := acc / 2 ^ 31
  let r := acc % 2 ^ 31
  sat32 (if 2 ^ 30 < r ∨ (r = 2 ^ 30 ∧ q % 2 = 1) then q + 1 else q)

/-- R291: a row whose accumulator starts at an integer: its result and whether the accumulator overflowed. -/
def rowFrom (start : Int) (words : List Nat) (vec : List Int) : Int × Bool :=
  let a := (words.zip vec).foldl (fun acc p => accStep acc p.1 p.2) (start * 2 ^ 31, false)
  (accRound a.1, a.2)

/-- Coefficient word `n` of engine `e`. -/
def State.coeff (s : State) (e n : Nat) : Nat := s.regN (Reg.KNK_COEFF e n)

/-- Columns of M. -/
def State.loopCols (s : State) (e l : Nat) : Nat := s.loopNx e l + s.loopNy e l + s.loopNr e l + 1

/-- First word of region `g` in force. -/
def State.regionBase (s : State) (e l g : Nat) : Nat := s.fld (Reg.KNK_LOOP_REGION e l g) 0 16

/-- R291: row `i` of M in region `g` applied to a vector. -/
def State.loopRow (s : State) (e l g i : Nat) (vec : List Int) : Int × Bool :=
  let n := s.loopCols e l
  rowFrom 0 (tab n (fun j => s.coeff e (s.regionBase e l g + i * n + j))) vec

/-- R293: state row `j` with its anti-windup correction: the sum x̂⁺ⱼ + Σₖ wⱼₖ × diffₖ, rounded and saturated once (DEDUCED, log
entry 90). -/
def State.windup (s : State) (e l g j : Nat) (x : Int) (diff : List Int) : Int × Bool :=
  let nu := s.loopNu e l
  let base := s.regionBase e l g + (nu + s.loopNx e l) * s.loopCols e l
  rowFrom x (tab nu (fun k => s.coeff e (base + j * nu + k))) diff

/-- R303: dₖ ÷ 2^BL_SHIFT rounded away from zero. -/
def awayShift (d : Int) (sh : Nat) : Int :=
  let k : Int := (ceilDiv d.natAbs (2 ^ sh) : Nat)
  if d < 0 then -k else k

/-- What one sample computes: unlimited outputs, limited outputs, next state, offsets after the sample, overflow. -/
structure KnkOut where
  raw : List Int
  u : List Int
  x : List Int
  d : List Int
  ovf : Bool
  deriving DecidableEq, Repr

/-- R290 to R293, R303: the whole control law of a sample. -/
def State.control (s : State) (e l : Nat) (vec : List Int) (y : KnkLoop) : KnkOut :=
  let nx := s.loopNx e l
  let nu := s.loopNu e l
  let g := s.fld (Reg.KNK_LOOP_STATE e l) 4 3
  let us := tab nu (fun k => s.loopRow e l g k vec)
  let xs := tab nx (fun j => s.loopRow e l g (nu + j) vec)
  let olds := match y.old with
    | some o => tab nu (fun k => s.loopRow e l o k vec)
    | none => []
  let d := tab nu (fun k =>
    let dk := nth 0 y.d k
    if olds = [] then dk else (nth (0, false) olds k).1 + dk - (nth (0, false) us k).1)
  let raw := tab nu (fun k => (nth (0, false) us k).1 + nth 0 d k)
  let lim (k : Nat) : Int × Int :=
    let w := s.regN (Reg.KNK_LOOP_ULIM e l k)
    (signed 32 (bits w 0 32), signed 32 (bits w 32 32))
  let u := tab nu (fun k => min (max (nth 0 raw k) (lim k).1) (lim k).2)
  let diff := List.zipWith (fun a b => a - b) u raw
  let aw := if s.bit (Reg.KNK_LOOP_CFG e l) 9 ∧ diff.any (fun v => v != 0) then
      tab nx (fun j => s.windup e l g j (nth (0, false) xs j).1 diff)
    else xs
  let sh := s.fld (Reg.KNK_LOOP_SCHED e l) 8 5
  { raw := raw, u := u, x := aw.map (·.1), d := d.map (fun v => v - awayShift v sh),
    ovf := us.any (·.2) || xs.any (·.2) || aw.any (·.2) || olds.any (·.2) }

/-- R302: the region that follows the one in force. A SCHED_IDX that names no element of [x̂; y; r] reads a free value (log
entry 62). -/
def State.nextRegion (s : State) (e l : Nat) (vec : List Int) : Nat :=
  let sc := s.regN (Reg.KNK_LOOP_SCHED e l)
  let i := s.fld (Reg.KNK_LOOP_STATE e l) 4 3
  let last := s.fld (Reg.KNK_LOOP_CFG e l) 24 3
  let idx := bits sc 0 6
  let v := if idx + 1 < vec.length then nth 0 vec idx else signed 32 ((Config.freeWord s.fresh).toNat % 2 ^ 32)
  let hyst : Int := bits sc 32 32
  let thr (t : Nat) : Int := signed 32 (s.fld (Reg.KNK_LOOP_THRESH e l t) 0 32)
  if i < last ∧ thr i + hyst ≤ v then i + 1
  else if 0 < i ∧ v < thr (i - 1) - hyst then i - 1
  else i

/-! ## Readiness (R295, R296) -/

/-- Latch of measurement `j`. -/
def State.yLatch (s : State) (e l j : Nat) : Nat := s.fld (Reg.KNK_LOOP_YMAP e l (j / 4)) (16 * (j % 4)) 10

/-- R296: a loop whose inputs are all present becomes ready. -/
def State.checkReady (s : State) (e l : Nat) : State :=
  let x := s.loopAt e l
  match x.win with
  | none => s
  | some k =>
    if !x.begun ∧ x.ready = none ∧ (List.range (s.loopNy e l)).all (fun j => x.present.testBit j) ∧ s.loopState e l ≠ 3 then
      s.setLoop e l { x with ready := some (s.knk.order, s.now, k) }
    else s

/-- R296: a write of latch `i` reaches one loop. -/
def State.latchLoop (s : State) (e l i : Nat) : State :=
  let x := s.loopAt e l
  let js := (List.range (s.loopNy e l)).filter (fun j => s.yLatch e l j == i)
  if js = [] ∨ x.win = none then s
  else if x.begun then s.bump (Reg.KNK_CNT_DUP e)
  else (s.setLoop e l { x with present := js.foldl (fun m j => m ||| 2 ^ j) x.present }).checkReady e l

/-- R296: a write to an input latch, by any source. -/
def State.latchWrite (s : State) (e i : Nat) (v : Nat) : State :=
  each (s.knk.loops.entries.filter (fun c => c.1 / 64 == e)) (fun t c => t.latchLoop e (c.1 % 64) i)
    (s.setRegN (Reg.KNK_LATCH e i) (v % 2 ^ 32))

/-- Events that follow one another are ordered by readiness (R298). -/
def State.nextOrder (s : State) : State := { s with knk := { s.knk with order := s.knk.order + 1 } }

/-- R304: the pending set of a slot replaces the set in force. -/
def State.applyPending (s : State) (e l : Nat) : State :=
  let x := s.loopAt e l
  match x.pending with
  | none => s
  | some ws =>
    let s1 := each ws (fun t w =>
      let t1 := t.setReg w.1 w.2
      if t.shadow.find w.1 = some w.2 then { t1 with shadow := t1.shadow.drop w.1 } else t1) s
    let q := s1.fld (Reg.KNK_LOOP_STATE e l) 8 8
    ((s1.setLoop e l { x with pending := none }).setFld (Reg.KNK_LOOP_STATE e l) 8 8 (q + 1)).setFld (Reg.KNK_LOOP_STATE e l) 2 1 0

/-- R302, R303: a region switch takes effect. -/
def State.applyRegion (s : State) (e l : Nat) : State :=
  let x := s.loopAt e l
  let g := s.fld (Reg.KNK_LOOP_STATE e l) 4 3
  if x.region = g then s
  else
    let old := if s.bit (Reg.KNK_LOOP_CFG e l) 10 then some g else none
    ((s.setLoop e l { x with old := old }).setFld (Reg.KNK_LOOP_STATE e l) 4 3 x.region).bump (Reg.KNK_LOOP_CNT_SWITCH e l)

/-- A loop that runs: enabled, not in FAULT, not waiting for its pair. -/
def State.loopRuns (s : State) (e l : Nat) : Bool :=
  s.bit (Reg.KNK_LOOP_CFG e l) 0 && s.loopState e l != 3 && !(s.loopAt e l).waiting

/-- The window of sample `k` opens; its boundary is still to come. -/
def State.openWindow (s : State) (e l k : Nat) : State :=
  s.setLoop e l { s.loopAt e l with next := k + 1, ahead := true, win := some k, present := 0, begun := false }

/-- R295: N at the boundary of sample `k`: Sₖ. -/
def State.boundaryAt (s : State) (e l k : Nat) : Nat :=
  (s.regN (Reg.KNK_LOOP_PHASE e l) + k * s.fld (Reg.KNK_LOOP_TIME e l) 0 32) % 2 ^ 64

/-- The engine computes a sample of this slot. -/
def State.computes (s : State) (e l : Nat) : Bool := match s.knk.runs.find e with
  | some run => run.slot == l
  | none => false

/-- R302, R304, R311: the boundary of the sample whose window opened last has come: the committed set and a region switch take
effect, and the trace channels' live writes. One that comes while the slot computes takes effect when the compute has ended, so
that a sample is computed with one set (DESIGN CHOICE, log entry 90). -/
def State.passBoundary (s : State) (e l : Nat) : State :=
  let x := s.loopAt e l
  if x.ahead ∧ !(s.computes e l) ∧ due (s.nowOf (s.loopTb e l)) (s.boundaryAt e l (x.next - 1)) then
    iter 16 (fun t c => t.applyShadow (Reg.KNK_TRC_CH e c))
      (((s.setLoop e l { x with ahead := false }).applyPending e l).applyRegion e l)
  else s

/-- The next window of a loop opens: the one that was open ends first (R297), and a loop without measurements is ready at once. -/
def State.nextWindow (s : State) (e l k : Nat) : State :=
  let s1 := s.nextOrder.endWindow e l
  if s1.loopState e l = 3 then s1.setLoop e l { s1.loopAt e l with next := k + 1 }
  else ((s1.openWindow e l k).passBoundary e l).checkReady e l

/-- SAMPLE_BOUNDARY: the boundary of the sample whose window is open has come (R304, R302), or the window of the next sample opens
(R295). -/
def State.sampleBoundary (s : State) (e l : Nat) : State :=
  let k := (s.loopAt e l).next
  if !(s.loopRuns e l) then s
  else if due (s.nowOf (s.loopTb e l)) (s.windowAt e l k) then (s.passBoundary e l).nextWindow e l k
  else s.passBoundary e l

/-- SAMPLE_MISS: the window of the open sample has ended without the loop having become ready (R297). -/
def State.sampleMiss (s : State) (e l : Nat) : State :=
  let x := s.loopAt e l
  if s.loopRuns e l ∧ x.win.isSome ∧ !x.begun ∧ x.ready = none ∧ due (s.nowOf (s.loopTb e l)) (s.windowAt e l x.next) then
    s.nextOrder.endWindow e l
  else s

/-! ## Compute (R298) -/

/-- When a loop became ready: its late compute first. -/
def KnkLoop.when (x : KnkLoop) : Option (Nat × Nat × Nat) := match x.late with | some t => some t | none => x.ready

/-- The ready loops of an engine: slot, priority, order of readiness. -/
def State.readyLoops (s : State) (e : Nat) : List (Nat × Nat × Nat) :=
  s.knk.loops.entries.filterMap (fun c =>
    if c.1 / 64 = e ∧ s.loopState e (c.1 % 64) ≠ 3 then
      c.2.when.map (fun t => (c.1 % 64, s.fld (Reg.KNK_LOOP_CFG e (c.1 % 64)) 4 4, t.1))
    else none)

/-- R298: highest PRIORITY first, then the one that became ready earliest, then the lowest slot. -/
def chooseLoop (xs : List (Nat × Nat × Nat)) : Option Nat :=
  (xs.foldl (fun (acc : Option (Nat × Nat × Nat)) x => match acc with
    | none => some x
    | some a => if a.2.1 < x.2.1 ∨ (a.2.1 = x.2.1 ∧ x.2.2 < a.2.2) then some x else some a) none).map (·.1)

/-- R290: the latched vector [x̂; y; r; 1]. -/
def State.loopVector (s : State) (e l : Nat) (x : KnkLoop) : List Int :=
  tab (s.loopNx e l) (fun i => nth 0 x.x i) ++
  tab (s.loopNy e l) (fun j => signed 32 (s.fld (Reg.KNK_LATCH e (s.yLatch e l j)) 0 32)) ++
  tab (s.loopNr e l) (fun j => signed 32 (s.fld (Reg.KNK_LOOP_REF e l j) 0 32)) ++ [1]

/-- An engine begins a compute. -/
def State.putRun (s : State) (e : Nat) (run : KnkRun) : State := { s with knk := { s.knk with runs := s.knk.runs.put e run } }

/-- The engine starts the compute of slot `l`, whose boundary has been passed where it has come. -/
def State.beginRun (s : State) (e l : Nat) : State :=
  let x := s.loopAt e l
  match x.when with
  | none => s
  | some t =>
    let late := x.late.isSome
    let y := if late then { x with late := none } else { x with ready := none, begun := true }
    ((s.setLoop e l y).setFld (Reg.KNK_LOOP_STATE e l) 0 2 2).putRun e
      { slot := l, sample := t.2.2, vec := s.loopVector e l x, readyNs := t.2.1, startNs := s.now, late := late, stopped := false }

/-- LOOP_COMPUTE_START: an engine that is busy, under a self-test slice or quarantined (R480) starts none. -/
def State.computeStart (s : State) (e : Nat) : State :=
  if (s.knk.runs.find e).isSome || (s.selfTest (0x84 + e)).running || s.quarantined (0x84 + e) then s
  else match chooseLoop (s.readyLoops e) with
    | none => s
    | some l => (s.passBoundary e l).beginRun e l

/-- R298: cycles of a compute, without the switch sample's extra. -/
def State.loopCost (s : State) (e l : Nat) : Nat := 138 + ceilDiv ((s.loopNu e l + s.loopNx e l) * s.loopCols e l) 20

/-- R298: the extra of the first sample after a switch with BUMPLESS. -/
def State.switchCost (s : State) (e l : Nat) : Nat := ceilDiv (s.loopNu e l * s.loopCols e l) 20

/-! ## Traces (R309, R310) -/

/-- The value a trace channel records; an index or node that names nothing records a free value. -/
def State.traceValue (s : State) (e l node idx : Nat) (run : KnkRun) (o : KnkOut) : Nat :=
  let nx := s.loopNx e l
  let ny := s.loopNy e l
  let pick (xs : List Int) (n : Nat) : Nat := if idx < n then codeOf 32 (nth 0 xs idx) else (Config.freeWord s.fresh).toNat % 2 ^ 32
  if node = 0 then pick run.vec nx
  else if node = 1 then pick (run.vec.drop nx) ny
  else if node = 2 then pick (run.vec.drop (nx + ny)) (s.loopNr e l)
  else if node = 3 then pick o.raw (s.loopNu e l)
  else if node = 4 then pick o.u (s.loopNu e l)
  else if node = 5 then s.fld (Reg.KNK_LOOP_STATE e l) 4 3
  else if node = 6 then s.fld (Reg.KNK_LOOP_STATE e l) 16 8
  else if node = 7 then s.fld (Reg.KNK_LATCH e idx) 0 32
  else if node = 8 then (run.startNs + 2 ^ 64 - run.readyNs) % 2 ^ 32
  else (Config.freeWord s.fresh).toNat % 2 ^ 32

/-- Channels of an engine that record slot `l`. -/
def State.traceChans (s : State) (e l : Nat) : List Nat :=
  (List.range 16).filter (fun c => s.bit (Reg.KNK_TRC_CH e c) 20 && s.fld (Reg.KNK_TRC_CH e c) 0 6 == l)

/-- R309, R310: the channels that name the slot record one entry each; the ring has one index (log entry 61). -/
def State.trace (s : State) (e l : Nat) (run : KnkRun) (o : KnkOut) : State :=
  let cs := s.traceChans e l
  let ctl := s.regN (Reg.KNK_TRC_CTRL e)
  if cs = [] ∨ !(ctl.testBit 0) ∨ s.bit (Reg.KNK_TRC_POS e) 17 then s
  else
    let idx := s.fld (Reg.KNK_TRC_POS e) 0 16
    let base := s.regN (Reg.KNK_TRC_BASE e)
    let s1 := each cs (fun t c =>
      let w := t.regN (Reg.KNK_TRC_CH e c)
      (t.devWrite (base + c * 0x80000 + idx * 8)
        (natLE 4 (t.traceValue e l (bits w 6 4) (bits w 10 10) run o) ++ natLE 4 (t.now % 2 ^ 32))).freshN 1) s
    let next := (idx + 1) % 65536
    let s2 := s1.setFld (Reg.KNK_TRC_POS e) 0 16 next
    let s3 := if next = 0 then s2.setFld (Reg.KNK_TRC_POS e) 16 1 1 else s2
    let after := (next + 65536 - s3.fld (Reg.KNK_TRC_POS e) 32 16) % 65536
    if ctl.testBit 1 ∧ ctl.testBit 3 ∧ after = (65536 - bits ctl 16 16) % 65536 then s3.setFld (Reg.KNK_TRC_POS e) 17 1 1 else s3

/-! ## Emission and the end of a compute (R301, R308) -/

/-- R301: a loop's outputs leave: into its output-map entry, and with CASC_EN into the cascade latches of every engine (log entry
62). -/
def State.emit (s : State) (e l : Nat) (u : List Int) (cascade : Bool) : State :=
  let out := s.regN (Reg.KNK_LOOP_OUT e l)
  let w := if out.testBit 16 then 2 else 4
  let s1 := (s.writeOutput (bits out 0 10) (u.flatMap (fun v => natLE w (codeOf (8 * w) v)))).validResult 2 (slotKey e l)
  if cascade then
    let base := s.fld (Reg.KNK_LOOP_DIM e l) 32 10
    iter u.length (fun t k => iter 4 (fun r f => r.latchWrite f ((base + k) % 1024) (codeOf 32 (nth 0 u k))) t) s1
  else s1

/-- The results of a sample take effect: next state and next region. -/
def State.commitSample (s : State) (e l : Nat) (x : List Int) (region : Nat) : State :=
  s.setLoop e l { s.loopAt e l with x := x, region := region, result := none }

/-- R308: a member of a pair has computed a sample; with the other's result of the same sample they are compared. -/
def State.pairResult (s : State) (e l f m k : Nat) (u x : List Int) (region : Nat) : State :=
  let s1 := s.setLoop e l { s.loopAt e l with result := some (k, u, x, region) }
  match (s1.loopAt f m).result with
  | none => s1
  | some (j, u2, x2, r2) =>
    if j ≠ k then s1
    else if u = u2 ∧ x = x2 ∧ region = r2 then
      let s2 := ((s1.commitSample e l x region).commitSample f m x region).pairFrame (s1.pairKey e l f m)
      if s.bit (Reg.KNK_LOOP_CFG e l) 12 then s2.emit f m u (s.bit (Reg.KNK_LOOP_CFG f m) 13)
      else s2.emit e l u (s.bit (Reg.KNK_LOOP_CFG e l) 13)
    else
      ((s1.setLoop e l { s1.loopAt e l with result := none }).setLoop f m { s1.loopAt f m with result := none }).pairMismatch
        (s1.pairKey e l f m) e f

/-- An engine's compute is over. -/
def State.dropRun (s : State) (e : Nat) : State := { s with knk := { s.knk with runs := s.knk.runs.drop e } }

/-- R303: the offsets after a sample. -/
def State.setOffsets (s : State) (e l : Nat) (d : List Int) : State := s.setLoop e l { s.loopAt e l with d := d, old := none }

/-- LOOP_COMPUTE_DONE: the engine's compute of slot `l` ends. -/
def State.computeDone (s : State) (e l : Nat) : State :=
  match s.knk.runs.find e with
  | none => s
  | some run =>
    if run.slot ≠ l then s
    else
      let x := s.loopAt e l
      let o := s.control e l run.vec x
      let region := s.nextRegion e l run.vec
      let cost := s.loopCost e l + (if x.old.isSome then s.switchCost e l else 0)
      let s1 := s.add (Reg.KNK_CNT_BUSY e) cost
      let s2 := if s.loopState e l = 2 then
          s1.setFld (Reg.KNK_LOOP_STATE e l) 0 2 (if s.bit (Reg.KNK_LOOP_CFG e l) 0 then 1 else 0)
        else s1
      let s3 := if run.late ∨ run.stopped then s2 else s2.setFld (Reg.KNK_LOOP_STATE e l) 16 8 0
      let s4 := if o.ovf then s3.orReg (Reg.KNK_FLAGS e) 1 else s3
      let s5 := if o.u = o.raw then s4 else s4.bump (Reg.KNK_LOOP_CNT_SAT e l)
      let s6 := ((s5.bump (Reg.KNK_LOOP_CNT_SAMPLE e l)).trace e l run o).nextOrder.freshN 1
      let s7 := if s.loopState e l = 3 then s6.setOffsets e l o.d
        else match s.mate e l with
          | some (f, m) => if run.stopped then s6 else (s6.setOffsets e l o.d).pairResult e l f m run.sample o.u o.x region
          | none =>
            (if run.stopped then s6 else (s6.setOffsets e l o.d).commitSample e l o.x region).emit e l o.u
              (s.bit (Reg.KNK_LOOP_CFG e l) 13)
      ((s7.dropRun e).passBoundary e l).setReg (Reg.KNK_CNT_COMPUTE e) (s.reg (Reg.KNK_CNT_COMPUTE e) + 1)

/-! ## Live sets and coefficient memory (R304, R305) -/

/-- The RWL registers of a loop slot. -/
def loopRegs (e l : Nat) : List Nat :=
  [Reg.KNK_LOOP_SCHED e l, Reg.KNK_LOOP_MISS e l] ++ tab 7 (fun t => Reg.KNK_LOOP_THRESH e l t) ++
  tab 8 (fun j => Reg.KNK_LOOP_REGION e l j) ++ tab 16 (fun j => Reg.KNK_LOOP_REF e l j) ++ tab 16 (fun j => Reg.KNK_LOOP_ULIM e l j)

/-- R305: words of a region. -/
def State.regionWords (s : State) (e l : Nat) : Nat :=
  (s.loopNu e l + s.loopNx e l) * s.loopCols e l +
  (if s.bit (Reg.KNK_LOOP_CFG e l) 9 then s.loopNx e l * s.loopNu e l else 0)

/-- R305: why a COMMIT is refused, as KNK_REJECT bits. -/
def State.commitMask (s : State) (e l : Nat) : Nat :=
  let v (a : Nat) : Nat := (s.shown a).toNat
  let regions := s.fld (Reg.KNK_LOOP_CFG e l) 24 3 + 1
  let thr (t : Nat) : Int := signed 32 (bits (v (Reg.KNK_LOOP_THRESH e l t)) 0 32)
  let w16 := s.bit (Reg.KNK_LOOP_OUT e l) 16
  b2n ((List.range regions).any (fun j => decide (65536 < bits (v (Reg.KNK_LOOP_REGION e l j)) 0 16 + s.regionWords e l)) ||
    (List.range (regions - 2)).any (fun t => decide (thr (t + 1) ≤ thr t))) * 16 +
  b2n ((List.range (s.loopNu e l)).any (fun k =>
    let w := v (Reg.KNK_LOOP_ULIM e l k)
    let lo := signed 32 (bits w 0 32)
    let hi := signed 32 (bits w 32 32)
    decide (hi < lo) || (w16 && (decide (lo < -32768) || decide (32767 < hi))))) * 32

/-- R304: a sound set waits for the next sample boundary. -/
def State.pendSet (s : State) (e l : Nat) : State :=
  let ws := (loopRegs e l).filterMap (fun a => (s.shadow.find a).map (fun w => (a, w)))
  (s.setLoop e l { s.loopAt e l with pending := some ws }).setFld (Reg.KNK_LOOP_STATE e l) 2 1 1

/-- R304: a write of COMMIT. A boundary that has come takes the set committed before. -/
def State.commitLoop (s : State) (ag : Agent) (e l : Nat) : State :=
  let m := s.commitMask e l
  if m ≠ 0 then (s.orReg (Reg.KNK_REJECT e) m).refuseRule ag (Reg.KNK_LOOP_CTRL e l)
  else if s.loopRuns e l then (s.passBoundary e l).pendSet e l
  else s.pendSet e l

/-- R305: words [lo, hi) of engine `e` are named by a pointer in force or pending of an enabled loop. -/
def State.coeffInUse (s : State) (e lo hi : Nat) : Bool :=
  (List.range 64).any (fun l =>
    s.bit (Reg.KNK_LOOP_CFG e l) 0 && (
      let pend := ((s.loopAt e l).pending).getD []
      let n := s.regionWords e l
      (List.range (s.fld (Reg.KNK_LOOP_CFG e l) 24 3 + 1)).any (fun j =>
        let hit (b : Nat) : Bool := decide (lo < b + n) && decide (b < hi)
        hit (s.regionBase e l j) ||
        pend.any (fun w => w.1 == Reg.KNK_LOOP_REGION e l j && hit (bits w.2.toNat 0 16)))))

/-- R305: a register write of a coefficient word; bits [63:37] are zero. -/
def State.writeCoeff (s : State) (ag : Agent) (e n v : Nat) : State :=
  if s.coeffInUse e n (n + 1) then
    ((s.cfgReject (0x68 + e)).orReg (Reg.KNK_REJECT e) 64).refuseRule ag (Reg.KNK_COEFF e n)
  else if s.regN (Reg.KNK_COEFF e n) = v % 2 ^ 37 then s
  else (s.setRegN (Reg.KNK_COEFF e n) (v % 2 ^ 37)).uncommit (0x68 + e)

/-! ## Enabling a loop (R300, R307, R311) -/

/-- R300: load of an engine as a fraction of its clock, Σ cost ÷ PERIOD_NS, over slots `ls`. -/
def State.loopLoad (s : State) (e : Nat) (ls : List Nat) : Nat × Nat :=
  ls.foldl (fun acc l =>
    let p := s.fld (Reg.KNK_LOOP_TIME e l) 0 32
    let c := s.loopCost e l + (if s.bit (Reg.KNK_LOOP_CFG e l) 10 then s.switchCost e l else 0)
    (acc.1 * p + c * acc.2, acc.2 * p)) (0, 1)

/-- Enabled slots of an engine. -/
def State.enabledLoops (s : State) (e : Nat) : List Nat := (List.range 64).filter (fun l => s.bit (Reg.KNK_LOOP_CFG e l) 0)

/-- R300: KNK_UTIL shows the committed load. -/
def State.showUtil (s : State) (e : Nat) : State :=
  let f := s.loopLoad e (s.enabledLoops e)
  s.setRegN (Reg.KNK_UTIL e) (f.1 * 100000 / (7 * f.2))

/-- R307: the fields that both members of a pair must have alike. -/
def State.pairKeyFields (s : State) (e l cfg : Nat) : List Nat :=
  let dim := s.regN (Reg.KNK_LOOP_DIM e l)
  [bits dim 0 5, bits dim 8 4, bits dim 16 5, bits dim 24 4, bits cfg 1 2, s.regN (Reg.KNK_LOOP_TIME e l),
    s.regN (Reg.KNK_LOOP_PHASE e l), bits cfg 8 1, bits cfg 9 1, bits cfg 10 1, bits cfg 24 3]

/-- Why setting ENABLE with configuration `v` is refused, as KNK_REJECT bits (R290, R300, R307, R311). -/
def State.loopMask (s : State) (e l v : Nat) : Nat :=
  let dim := s.regN (Reg.KNK_LOOP_DIM e l)
  let time := s.regN (Reg.KNK_LOOP_TIME e l)
  let out (x lo hi : Nat) : Bool := decide (x < lo) || decide (hi < x)
  let t := s.setRegN (Reg.KNK_LOOP_CFG e l) v
  let f := t.loopLoad e (t.enabledLoops e)
  let g := bits v 16 2
  let m := bits v 18 6
  let other := s.regN (Reg.KNK_LOOP_CFG g m)
  let pairOk := g != e && other.testBit 11 && bits other 16 2 == e && bits other 18 6 == l && (other.testBit 12 != v.testBit 12) &&
    s.pairKeyFields e l v == s.pairKeyFields g m other
  b2n (out (bits dim 0 5) 1 24 || out (bits dim 8 4) 1 12 || decide (16 < bits dim 16 5) || decide (12 < bits dim 24 4) ||
    (v.testBit 13 && decide (1024 < bits dim 32 10 + bits dim 8 4))) +
  b2n (out (bits time 0 32) 25000 10000000 || decide (bits time 0 32 < 2 * bits time 32 24)) * 2 +
  b2n (decide (63 * f.2 < 100 * f.1)) * 4 + b2n (v.testBit 11 && !pairOk) * 8

/-- The loop starts: x̂ zero, region 0, at the first sample whose window starts from now on (R293, R295, R302). -/
def State.startLoop (s : State) (e l : Nat) (waiting : Bool) : State :=
  let x := s.loopAt e l
  let k := nextEdge (s.windowAt e l 0) (s.fld (Reg.KNK_LOOP_TIME e l) 0 32) 0 (s.nowOf (s.loopTb e l))
  let y : KnkLoop :=
    { KnkLoop.idle with
      next := k, x := List.replicate (s.loopNx e l) 0, d := List.replicate (s.loopNu e l) 0, pending := x.pending, waiting := waiting }
  let st := s.regN (Reg.KNK_LOOP_STATE e l)
  (s.setLoop e l y).setRegN (Reg.KNK_LOOP_STATE e l) (1 + bits st 2 1 * 4 + bits st 8 8 * 2 ^ 8)

/-- R311: the loop stops; a compute of it in progress ends and emits. -/
def State.stopLoop (s : State) (e l : Nat) : State :=
  let s0 := match s.knk.runs.find e with
    | some run => if run.slot = l then s.putRun e { run with stopped := true } else s
    | none => s
  ((s0.setLoop e l { KnkLoop.idle with pending := (s.loopAt e l).pending }).setFld (Reg.KNK_STATE e) l 1 0).setFld
    (Reg.KNK_LOOP_STATE e l) 0 2 (if s.loopState e l = 2 then 2 else 0)

/-- R307, R311: a write of KNK_LOOP_CFG. -/
def State.writeLoopCfg (s : State) (ag : Agent) (e l v : Nat) : State :=
  let a := Reg.KNK_LOOP_CFG e l
  if s.bit a 0 then
    if v.testBit 0 then s.refuseBusy ag a else ((s.stopLoop e l).clearEnable a v).showUtil e
  else if !(v.testBit 0) then s.storeReg a v
  else if s.loopMask e l v ≠ 0 then (s.orReg (Reg.KNK_REJECT e) (s.loopMask e l v)).refuseRule ag a
  else
    let s1 := (s.storeReg a v).setFld (Reg.KNK_STATE e) l 1 1
    let s2 := match s1.mate e l with
      | none => s1.startLoop e l false
      | some (f, m) =>
        if s1.bit (Reg.KNK_LOOP_CFG f m) 0 then (s1.startLoop e l false).startLoop f m false else s1.startLoop e l true
    s2.showUtil e

/-! ## Trace control -/

/-- R309: a page of the trace ring is not mapped, or is homed in flash. -/
def State.traceUnmapped (s : State) (e : Nat) : Bool :=
  (pagesOf (s.regN (Reg.KNK_TRC_BASE e)) 0x800000).any (fun n => match s.page n with
    | none => true
    | some p => p.home == 2)

/-- R310: a write of 1 to TRIGGER, unless the trace waits for the common capture trigger. -/
def State.triggerNow (s : State) (e : Nat) : State :=
  if s.bit (Reg.KNK_TRC_CTRL e) 0 ∧ !(s.bit (Reg.KNK_TRC_CTRL e) 2) then s.traceTrigger e else s

/-- R4, R309, R310: a write of KNK_TRC_CTRL. A trace starts at index 0 and not triggered; a 1 in TRIGGER triggers a trace that
runs, and is kept as R4 says by one that does not run (DESIGN CHOICE, log entry 61). -/
def State.writeTrcCtrl (s : State) (ag : Agent) (e v : Nat) : State :=
  let a := Reg.KNK_TRC_CTRL e
  let was := s.bit a 0
  if !was ∧ v.testBit 0 ∧ s.traceUnmapped e then (s.orReg (Reg.KNK_REJECT e) 128).refuseRule ag a
  else
    let runs := v.testBit 0
    let trig := if runs && !was then false else s.bit a 3 || (v.testBit 3 && !runs)
    let s1 := (s.storeReg a v).setFld a 3 1 (b2n trig)
    let s2 := if !was ∧ runs then s1.setRegN (Reg.KNK_TRC_POS e) 0 else s1
    if v.testBit 3 then s2.triggerNow e else s2

/-- R310: a trace write met TIER_TIMEOUT or TIER_ERROR: the trace stops; the entries of the failed write are unspecified. -/
def State.traceFail (s : State) (e : Nat) : State :=
  if !(s.bit (Reg.KNK_TRC_CTRL e) 0) ∨ s.bit (Reg.KNK_TRC_POS e) 17 then s
  else
    let idx := (s.fld (Reg.KNK_TRC_POS e) 0 16 + 65535) % 65536
    let cs := (List.range 16).filter (fun c => s.bit (Reg.KNK_TRC_CH e c) 20)
    let s1 := each cs (fun t c => t.havoc (s.regN (Reg.KNK_TRC_BASE e) + c * 0x80000 + idx * 8) 8) s
    (s1.setFld (Reg.KNK_TRC_POS e) 17 1 1).orReg (Reg.KNK_FLAGS e) 8

/-! ## Commands (R306) -/

/-- The refusals of a LOAD or READ, as KNK_REJECT bits. -/
def State.knkMask (s : State) (q : Request) (d : Bytes) : Nat :=
  let e := fieldLE d 1 1
  let first := fieldLE d 4 4
  let n := fieldLE d 0x10 4
  let bad := decide (3 < e) || n == 0 || decide (65536 < n) || decide (65536 < first + n) || fieldLE d 8 8 % 64 != 0
  b2n (fieldLE d 0 1 == 0xA0 && decide (e ≤ 3) && s.coeffInUse e first (first + n)) * 64 + b2n (q.tag != 0) * 256 + b2n bad * 512 +
  b2n (fieldLE d 2 2 != 0 || fieldLE d 0x14 12 != 0) * 1024

/-- A command whose OPCODE is `op`: checked, its inputs read, then `f`. An unknown OPCODE is refused by whichever event takes the
request up; a refusal shows in the engine that the low bits of ENGINE name (log entry 60). -/
def State.knkCommand (s : State) (r op : Nat) (ins outs : Bytes → List (Nat × Nat))
    (f : State → Request → Bytes → State) (failed : State → Bytes → State) : State :=
  match s.engReq r [0x14] with
  | none => s
  | some q =>
    let d := s.peek q.cmdAddr 32
    let o := fieldLE d 0 1
    let e := fieldLE d 1 1 % 4
    let m := if o = 0xA0 ∨ o = 0xA1 then s.knkMask q d else 512
    if (o = 0xA0 ∨ o = 0xA1) ∧ o ≠ op then s
    else if m ≠ 0 then s.engineRefuse r q (Reg.KNK_REJECT e) (Reg.KNK_REJECT_DESC e) m
    else match s.engineReads r q 5 (ins d) (outs d) true with
      | (t, .failed st) => ((failed t d).havocOuts q (outs d)).endReq r st 0 false
      | (t, .ready) => f t q d
      | (t, _) => t

/-- LOAD: the words are written, unless one has bits [63:37] set. -/
def State.knkLoadRun (s : State) (r : Nat) (q : Request) (d : Bytes) : State :=
  let e := fieldLE d 1 1
  let n := fieldLE d 0x10 4
  let bs := s.peek (fieldLE d 8 8) (8 * n)
  let ws := tab n (fun i => fieldLE bs (8 * i) 8)
  if ws.any (fun w => decide (2 ^ 37 ≤ w)) then s.engineRefuse r q (Reg.KNK_REJECT e) (Reg.KNK_REJECT_DESC e) 1024
  else
    (iter n (fun t i => t.setRegN (Reg.KNK_COEFF e (fieldLE d 4 4 + i)) (nth 0 ws i)) (s.endReq r 0 0 false)).uncommit (0x68 + e)

/-- KNK_LOAD; a tier failure leaves the destination words unspecified. -/
def State.knkLoad (s : State) (r : Nat) : State :=
  s.knkCommand r 0xA0 (fun d => [(fieldLE d 8 8, 8 * fieldLE d 0x10 4)]) (fun _ => []) (fun t q d => t.knkLoadRun r q d)
    (fun t d => (iter (fieldLE d 0x10 4) (fun u i =>
      u.setRegN (Reg.KNK_COEFF (fieldLE d 1 1) (fieldLE d 4 4 + i)) ((Config.freeWord (u.fresh + i)).toNat % 2 ^ 37)) t).freshN 65536)

/-- KNK_READ: the words are copied out. -/
def State.knkRead (s : State) (r : Nat) : State :=
  s.knkCommand r 0xA1 (fun _ => []) knkReadOuts (fun t q d =>
    let bs := (List.range (fieldLE d 0x10 4)).flatMap (fun i => natLE 8 (t.coeff (fieldLE d 1 1) (fieldLE d 4 4 + i)))
    let w := State.engineWrite (t, 0) r q 5 (fieldLE d 8 8) bs
    if w.2 ≠ 0 then (w.1.havocOuts q (knkReadOuts d)).endReq r w.2 0 false else w.1.endReq r 0 0 false) (fun t _ => t)

/-! ## Meanings -/

/-- KNK_LATCH_WRITE (R296). -/
def execKnkLatchWrite (e : Fin 4) (i : Fin 1024) (v : BitVec 32) (s : State) : Host.Outcome State Fault Refusal :=
  done s (s.nextOrder.latchWrite e.val i.val v.toNat)

/-- SAMPLE_BOUNDARY (R295). -/
def execSampleBoundary (e : Fin 4) (l : Fin 64) (s : State) : Host.Outcome State Fault Refusal :=
  done s (s.work (fun u => u.sampleBoundary e.val l.val))

/-- LOOP_COMPUTE_START (R298). -/
def execLoopComputeStart (e : Fin 4) (s : State) : Host.Outcome State Fault Refusal :=
  done s (s.work (fun u => u.computeStart e.val))

/-- LOOP_COMPUTE_DONE (R290). -/
def execLoopComputeDone (e : Fin 4) (l : Fin 64) (s : State) : Host.Outcome State Fault Refusal :=
  done s (s.work (fun u => u.computeDone e.val l.val))

/-- SAMPLE_MISS (R297). -/
def execSampleMiss (e : Fin 4) (l : Fin 64) (s : State) : Host.Outcome State Fault Refusal :=
  done s (s.work (fun u => u.sampleMiss e.val l.val))

/-- KNK_COMMIT (R304). -/
def execKnkCommit (e : Fin 4) (l : Fin 64) (s : State) : Host.Outcome State Fault Refusal :=
  done s (s.commitLoop software e.val l.val)

/-- KNK_LOAD (R306). -/
def execKnkLoad (r : Nat) (s : State) : Host.Outcome State Fault Refusal := done s (s.work (fun u => u.knkLoad r))

/-- KNK_READ (R306). -/
def execKnkRead (r : Nat) (s : State) : Host.Outcome State Fault Refusal := done s (s.work (fun u => u.knkRead r))

/-- COEFF_WORD_WRITE (R305). -/
def execCoeffWordWrite (e : Fin 4) (n : Fin 65536) (v : BitVec 64) (s : State) : Host.Outcome State Fault Refusal :=
  done s (s.writeCoeff software e.val n.val v.toNat)

/-- LOOP_ENABLE (R300). -/
def execLoopEnable (e : Fin 4) (l : Fin 64) (v : BitVec 64) (s : State) : Host.Outcome State Fault Refusal :=
  done s (s.writeLoopCfg software e.val l.val v.toNat)

/-- TRACE_TRIGGER (R310). -/
def execTraceTrigger (e : Fin 4) (s : State) : Host.Outcome State Fault Refusal := done s (s.triggerNow e.val)

/-- TRACE_WRITE_FAIL (R310). -/
def execTraceWriteFail (e : Fin 4) (s : State) : Host.Outcome State Fault Refusal :=
  done s (s.work (fun u => u.traceFail e.val))

end Sys2Proof.Machine
end

