-- ==== Sys2Proof/Machine/Network.lean ====
section
/-! DEFINITION. The switch, the field segments and the PCIe port (14_network_and_field.md): reception, strangers, forwarding,
process-data input, the roster, gate control lists, PLCA, time frames, ARP, ICMP and inbound PCIe accesses. Frames are byte
strings without their FCS. -/

namespace Sys2Proof.Machine

/-! ## Frames -/

/-- `n` bytes at offset `o`, most significant first. -/
def fieldBE (bs : Bytes) (o n : Nat) : Nat := leNat (((bs.drop o).take n).reverse)

/-- Destination address. -/
def frDst (f : Bytes) : Nat := fieldBE f 0 6

/-- Source address. -/
def frSrc (f : Bytes) : Nat := fieldBE f 6 6

/-- Whether a frame carries a VLAN tag. -/
def frTagged (f : Bytes) : Bool := fieldBE f 12 2 == 0x8100

/-- Priority of a frame: its traffic class (802.1Q). -/
def frClass (f : Bytes) : Nat := if frTagged f then bits (fieldBE f 14 2) 13 3 else 0

/-- Bytes before the EtherType. -/
def frHead (f : Bytes) : Nat := if frTagged f then 16 else 12

/-- EtherType. -/
def frType (f : Bytes) : Nat := fieldBE f (frHead f) 2

/-- Payload. -/
def frBody (f : Bytes) : Bytes := f.drop (frHead f + 2)

/-- Switch port of a frame command's port: 0 to 5, or segment k as 6 + k. -/
def switchPort (p : Nat) : Nat := if p < 6 then p else p + 3

/-- Attachment of a frame command's port (ATTACH). -/
def attachOf (p : Nat) : Nat := if p < 6 then p else p + 2

/-- A port that receives: enabled, and with a link where it has one. -/
def State.portUp (s : State) (p : Nat) : Bool :=
  if p < 6 then s.dictN (0x1A00 + p) 1 != 0 && s.bit Reg.NET_STATE p else s.segCfg (p - 6) 1 != 0

/-- Largest frame of a port, its FCS counted (R358). -/
def portMax (p : Nat) : Nat := if p < 6 then 9216 else 1522

/-! ## The roster (R360 to R363) -/

/-- Enabled roster entries. -/
def State.enabledNodes (s : State) : List Nat := (List.range 1024).filter (fun n => s.roster n 1 != 0)

/-- The enabled entry that holds a MAC address. -/
def State.nodeOfMac (s : State) (mac : Nat) : Option Nat := s.enabledNodes.find? (fun n => s.roster n 2 % 2 ^ 48 == mac)

/-- R361: a frame from this source is a stranger on an attachment. -/
def State.isStranger (s : State) (p mac : Nat) : Bool :=
  match s.nodeOfMac mac with
  | some n => s.roster n 3 != attachOf p
  | none => decide (6 ≤ p) || s.dictN (0x1A00 + p) 6 != 0

/-- TB0 milliseconds as the stranger log holds them. -/
def State.ms32 (s : State) : Nat := (s.now / 1000000) % 2 ^ 32

/-- R362: where a stranger is or goes in the log, and whether it is new. -/
def State.strangerSlot (s : State) (att mac : Nat) : Nat × Bool :=
  let key := mac + att * 2 ^ 48 + 2 ^ 63
  let a (i : Nat) : Nat := s.regN (Reg.T1S_STRANGER_A i)
  let last (i : Nat) : Nat := s.fld (Reg.T1S_STRANGER_B i) 32 32
  match firstIdx 32 (fun i => a i - bits (a i) 52 11 * 2 ^ 52 == key) with
  | some i => (i, false)
  | none => match firstIdx 32 (fun i => !((a i).testBit 63)) with
    | some i => (i, true)
    | none => ((List.range 32).foldl (fun b i => if last i < last b then i else b) 0, true)

/-- R361, R362: a stranger frame is discarded, counted and logged; a new entry sends a record (R519). -/
def State.stranger (s : State) (p mac : Nat) : State :=
  let att := attachOf p
  let x := s.strangerSlot att mac
  let s1 := if p < 6 then s.bump (Reg.NET_CNT_STRANGER p) else s.bump (Reg.T1S_CNT_STRANGER (p - 6))
  if x.2 then
    let s2 := (s1.setRegN (Reg.T1S_STRANGER_A x.1) (mac + att * 2 ^ 48 + 2 ^ 52 + 2 ^ 63)).setRegN (Reg.T1S_STRANGER_B x.1)
      (s.ms32 + s.ms32 * 2 ^ 32)
    s2.record 1 24 0 0x6F none att (2 + (mac % 2 ^ 24) * 256)
  else
    let n := clampNat 0 2047 (s.fld (Reg.T1S_STRANGER_A x.1) 52 11 + 1)
    (s1.setFld (Reg.T1S_STRANGER_A x.1) 52 11 n).setFld (Reg.T1S_STRANGER_B x.1) 32 32 s.ms32

/-- NET_LOST_MAP names the lowest LOST entry. -/
def State.showLost (s : State) : State :=
  match s.enabledNodes.find? (fun n => s.roster n 0x0B == 2) with
  | some n => s.setRegN Reg.NET_LOST_MAP (n + 2 ^ 15)
  | none => s.setRegN Reg.NET_LOST_MAP 0

/-- R363: an enabled entry that was silent for TIMEOUT_US becomes LOST. -/
def State.nodeTimeout (s : State) (n : Nat) : State :=
  if s.roster n 1 = 0 ∨ s.roster n 0x0B ≠ 1 ∨ s.now < (s.node n).since + s.roster n 8 * 1000 then s
  else
    (((s.record 1 24 0 0x6F none n 1).setDictN (0x8000 + n) 0x0B 2).showLost).setReg Reg.NET_FLAGS (s.reg Reg.NET_FLAGS ||| 1)

/-- NODE_TIMEOUT (R363). -/
def execNodeTimeout (n : Fin 1024) (s : State) : Host.Outcome State Fault Refusal :=
  done s (s.work (fun u => u.nodeTimeout n.val))

/-- R360, R369: entry `n` breaks a rule that ENABLE checks. -/
def State.rosterBad (s : State) (n : Nat) : Bool :=
  let at_ := s.roster n 3
  let others := s.enabledNodes.filter (fun m => m != n)
  let onSeg := others.filter (fun m => s.roster m 3 == at_)
  !(decide (at_ < 6) || (decide (8 ≤ at_) && decide (at_ < 12))) ||
  others.any (fun m => s.roster m 2 % 2 ^ 48 == s.roster n 2 % 2 ^ 48) ||
  (decide (8 ≤ at_) && (s.roster n 4 == 0 || decide (15 ≤ onSeg.length) || onSeg.any (fun m => s.roster m 4 == s.roster n 4) ||
    decide (s.segCfg (at_ - 8) 0x0B < s.roster n 9 + 30)))

/-- Forget what a roster node has exchanged. -/
def State.dropNode (s : State) (n : Nat) : State := { s with net := { s.net with nodes := s.net.nodes.drop n } }

/-- R360, R377: NODE_ENABLE is written; the second component tells that it is refused. -/
def State.writeNodeEnable (s : State) (n : Nat) (on : Bool) : State × Bool :=
  if !on then
    (((s.dropNode n).setDictN (0x8000 + n) 1 0).setDictN (0x8000 + n) 0x0B 0 |>.showLost, false)
  else if s.roster n 1 ≠ 0 then (s, false)
  else if s.rosterBad n then (s.orReg Reg.NET_REJECT 1, true)
  else (((s.setNode n { NetNode.idle with since := s.now }).setDictN (0x8000 + n) 0x0B 1).setDictN (0x8000 + n) 1 1, false)

/-- NODE_ENABLE (R360). -/
def execNodeEnable (n : Fin 1024) (on : Bool) (s : State) : Host.Outcome State Fault Refusal :=
  done s (s.serve (fun u => let r := u.writeNodeEnable n.val on; r.1.aborted (if r.2 then 6 else 0)))

/-! ## Reception and forwarding (R358, R361) -/

/-- The stream tables (R358). -/
def State.streamTables (s : State) : List Bytes := (List.range 5).map (fun i => s.octetsOf 0x1A20 (i + 1))

/-- R358: filters, gates, meters and recovery let a frame pass; frames of no stream always do. -/
def State.streamOk (s : State) (f : Bytes) : Bool :=
  let h := Config.streamHandle (s.octetsOf 0x1A20 1) f
  (s.octetsOf 0x1A20 1).isEmpty || decide (4096 ≤ h) || Config.streamPass s.streamTables h f s.fresh

/-- VLAN of a frame: its tag, or PORT_PVID for an untagged or priority-tagged frame. -/
def State.vlanOf (s : State) (p : Nat) (f : Bytes) : Nat :=
  let v := fieldBE f 14 2 % 4096
  if frTagged f ∧ v ≠ 0 then v else if p < 6 then s.dictN (0x1A00 + p) 3 % 4096 else 1

/-- R358: ports 0 to 5 learn unicast sources while the filtering database has room. -/
def State.learn (s : State) (p vid mac : Nat) : State :=
  let key := vid * 2 ^ 48 + mac
  if 6 ≤ p ∨ (mac >>> 40).testBit 0 then s
  else if (s.net.fdb.find key).isNone ∧ 8192 ≤ s.net.fdb.length then s
  else { s with net := { s.net with fdb := s.net.fdb.put key p } }

/-- What reception makes of a frame before it is used: counted, its source learned, and false where it is discarded. -/
def State.receive (s : State) (p : Nat) (f : Bytes) : State × Bool :=
  if !(s.portUp p) then (s, false)
  else
    let s1 := (s.bump (Reg.NET_CNT_RX (switchPort p))).freshN 1
    if f.length < 14 ∨ portMax p < f.length + 4 then (s1.bump (Reg.NET_CNT_DROP (switchPort p)), false)
    else if s.isStranger p (frSrc f) then (s1.stranger p (frSrc f), false)
    else if !(s.streamOk f) then (s1.bump (Reg.NET_CNT_DROP (switchPort p)), false)
    else if s.vlanOf p f = 0 ∨ s.vlanOf p f = 4095 then (s1.bump (Reg.NET_CNT_DROP (switchPort p)), false)
    else (s1.learn p (s.vlanOf p f) (frSrc f), true)

/-- A frame goes out of switch port `q` (0 to 5, 6 to 8, or 9 + segment). -/
def State.forwardTo (s : State) (q : Nat) (f : Bytes) : State :=
  if q < 6 then s.egress q (frClass f) f else if q < 9 then s.transmit q f else s.segReady (q - 9) false f

/-- R358: the ports that a frame goes to: its own port for a known address, the Crown's for the module's own, and every other
port that is up for an unknown or group address (standard bridging, PRESUMED, log entry 65). -/
def State.destinations (s : State) (p vid : Nat) (f : Bytes) : List Nat :=
  let dst := frDst f
  let group := (dst >>> 40).testBit 0
  let others := ((List.range 10).filter (fun x => x != p && s.portUp x)).map switchPort
  if dst = ownMac then [if frType f = 0x88B5 then 8 else 6]
  else if group then others ++ [6]
  else match s.net.fdb.find (vid * 2 ^ 48 + dst) with
    | some q => if q = p then [] else [q]
    | none => others

/-- FRAME_RX: a frame is received, filtered, learned and forwarded. -/
def State.frameRx (s : State) (p : Nat) (f : Bytes) : State :=
  let r := s.receive p f
  if !r.2 then r.1
  else
    let t := each (r.1.destinations p (s.vlanOf p f) f) (fun u q => u.forwardTo q f) r.1
    t.setReg (Reg.NET_CNT_RX (switchPort p)) (s.reg (Reg.NET_CNT_RX (switchPort p)) + 1)

/-- FRAME_RX (R358). -/
def execFrameRx (port : Fin 10) (f : Bytes) (s : State) : Host.Outcome State Fault Refusal :=
  done s (s.work (fun u => u.frameRx port.val f))

/-! ## Process-data input (R364 to R366) -/

/-- R366: one receive-map entry of an accepted frame. -/
def State.applyRxMap (s : State) (e : Nat) (data : Bytes) : State :=
  if !(e.testBit 63) then s
  else
    let o := bits e 0 16
    let w := if e.testBit 16 then 4 else 2
    if data.length < o + w then s.bump Reg.NET_CNT_PD_SHORT
    else
      let v := codeOf 32 (signed (8 * w) (fieldLE data o w))
      let s1 := s.latchWrite (bits e 18 2) (bits e 20 10) v
      if e.testBit 30 then s1.latchWrite (bits e 32 2) (bits e 34 10) v else s1

/-- R365: VERSION, TYPE, NODE and LENGTH are valid and NODE names an enabled entry that holds the source address. -/
def State.pdValid (s : State) (p : Nat) (f : Bytes) : Bool :=
  let b := frBody f
  let n := fieldLE b 2 2
  let len := fieldLE b 8 2
  frType f == 0x88B5 && decide (12 ≤ b.length) && fieldLE b 0 1 == 1 && fieldLE b 1 1 == 1 && decide (n < 1024) &&
  decide (len ≤ (if p < 6 then 1024 else 256)) && decide (12 + len ≤ b.length) && s.roster n 1 != 0 &&
  s.roster n 2 % 2 ^ 48 == frSrc f

/-- R365, R366: an input frame is accepted: its entry is ACTIVE and its receive map is applied. -/
def State.pdAccept (s : State) (n : Nat) (b : Bytes) : State :=
  let x := s.node n
  let data := (b.drop 12).take (fieldLE b 8 2)
  let s1 := (s.setNode n { x with lastSeq := some (fieldLE b 4 4), since := s.now }).setDictN (0x8000 + n) 0x0B 1
  let s2 := (s1.showLost.validResult 3 n).nextOrder
  iter 16 (fun t i => t.applyRxMap (t.dictN (0x8400 + n) (i + 1)) data) s2

/-- A received process-data input frame. -/
def State.pdInput (s : State) (p : Nat) (f : Bytes) : State :=
  let b := frBody f
  let n := fieldLE b 2 2
  if !(s.pdValid p f) then s.bump Reg.NET_CNT_PD_BAD
  else
    let x := s.node n
    let old := s.roster n 0x0B == 1 && (match x.lastSeq with
      | none => false
      | some q => decide (signed 32 (fieldLE b 4 4 + 2 ^ 32 - q) ≤ 0))
    if old then s.bump Reg.NET_CNT_PD_OLD
    else (s.pdAccept n b).setReg Reg.NET_CNT_PD_RX (s.reg Reg.NET_CNT_PD_RX + 1)

/-- PD_INPUT_FRAME: the frame passes reception (R361, and recovery where it is of a stream) and the checks of R365. -/
def State.pdInputFrame (s : State) (p : Nat) (f : Bytes) : State :=
  let r := s.receive p f
  if !r.2 then r.1 else r.1.pdInput p f

/-- PD_INPUT_FRAME (R365, R366). -/
def execPdInputFrame (port : Fin 10) (f : Bytes) (s : State) : Host.Outcome State Fault Refusal :=
  done s (s.work (fun u => u.pdInputFrame port.val f))

/-- R367: the hold time of a node's output frame runs out. -/
def State.outHold (s : State) (n : Nat) : State :=
  match (s.node n).first with
  | none => s
  | some t => if s.now < t + s.roster n 0x0A then s
    else (s.sendOutput n true).setReg Reg.NET_CNT_PD_STALE (s.reg Reg.NET_CNT_PD_STALE + 1)

/-- OUT_HOLD_EXPIRY (R367). -/
def execOutHoldExpiry (n : Fin 1024) (s : State) : Host.Outcome State Fault Refusal :=
  done s (s.work (fun u => u.outHold n.val))

/-! ## Gate control lists (R359) -/

/-- The operational list of port `p`. -/
def State.setGcl (s : State) (p : Nat) (g : Option Gcl) : State :=
  { s with net := { s.net with gcl := match g with
      | some x => s.net.gcl.put p x
      | none => s.net.gcl.drop p } }

/-- Now on the base of a list. -/
def State.gclNow (s : State) (l : Bytes) : Nat := s.nowOf (Config.gclTb l).toNat

/-- R359: which cycle of a list covers the instant `n` of its base. -/
def gclIndex (l : Bytes) (n : Nat) : Nat := (n - Config.gclBase l) / Nat.max 1 (Config.gclCycle l)

/-- R359: where the cycle of a list that covers `n` starts; before the list's base time, `n` itself. -/
def gclStart (l : Bytes) (n : Nat) : Nat :=
  if Config.gclBase l ≤ n then Config.gclBase l + gclIndex l n * Nat.max 1 (Config.gclCycle l) else n

/-- The end of interval `i` of a list, from the start of its cycle. -/
def gclEnd (l : Bytes) (i : Nat) : Nat := (List.range (i + 1)).foldl (fun a j => a + Config.gclTime l j % 2 ^ 32) 0

/-- The list `l` already runs on port `p` and no new cycle of it has begun. -/
def State.gclRuns (s : State) (p : Nat) (l : Bytes) : Bool :=
  match s.net.gcl.find p with
  | none => false
  | some g => g.list == l && gclStart l (s.gclNow l) == g.start

/-- R359: a cycle starts on port `p`: a pending list whose base time has come becomes operational; cycles that a forward
step passed over are counted; the first interval's gates take effect. While the cycle in progress goes on nothing changes. -/
def State.gclCycle (s : State) (p : Nat) : State :=
  let admin := s.octetsOf (0x1A10 + p) 1
  let ready := admin != [] && decide (Config.gclBase admin ≤ s.gclNow admin)
  let cur := s.net.gcl.find p
  let list := if ready then some admin else if admin = [] then none else cur.map (·.list)
  match list with
  | none => (s.setGcl p none).drainPort p
  | some l =>
    if s.gclRuns p l then s
    else
      let passed := match cur with
        | some g => if g.list = l then gclIndex l (s.gclNow l) - gclIndex l g.start - 1 else 0
        | none => 0
      ((s.setGcl p (some { list := l, idx := 0, start := gclStart l (s.gclNow l) })).add (Reg.NET_CNT_GCL_SKIP p) passed).drainPort p

/-- GCL_CYCLE_START (R359). -/
def execGclCycleStart (port : Fin 6) (s : State) : Host.Outcome State Fault Refusal :=
  done s (s.work (fun u => u.gclCycle port.val))

/-- R359: the next interval's gate states take effect when the interval in force ends. -/
def State.gclEntry (s : State) (p : Nat) : State :=
  match s.net.gcl.find p with
  | none => s
  | some g =>
    if Config.gclLen g.list ≤ g.idx + 1 ∨ s.gclNow g.list < g.start + gclEnd g.list g.idx then s
    else (s.setGcl p (some { g with idx := g.idx + 1 })).drainPort p

/-- GCL_ENTRY_EXPIRY (R359). -/
def execGclEntryExpiry (port : Fin 6) (s : State) : Host.Outcome State Fault Refusal :=
  done s (s.work (fun u => u.gclEntry port.val))

/-! ## Field segments (R368 to R371) -/

/-- A segment runs: enabled, with its transmitter on where it must transmit. -/
def State.segOn (s : State) (k : Nat) : Bool := s.segCfg k 1 != 0

/-- PLCA runs on a segment and its transmitter is on. -/
def State.plcaOn (s : State) (k : Nat) : Bool := s.segOn k && s.segCfg k 2 != 0 && (s.seg k).off.isNone

/-- R368: a BEACON starts a cycle; T1S_STATE shows PLCA active and the beacons of the last millisecond. -/
def State.plcaBeacon (s : State) (k : Nat) : State :=
  if !(s.plcaOn k) then s
  else
    let x := s.seg k
    let ms := s.now / 1000000
    let same := x.beaconMs == ms
    let shown := if same then s.fld (Reg.T1S_STATE k) 8 8 else if x.beaconMs + 1 = ms then clampNat 0 255 x.beacons else 0
    let s1 := s.setSeg k { x with beaconMs := ms, beacons := if same then x.beacons + 1 else 1 }
    s1.setReg (Reg.T1S_STATE k) (BitVec.ofNat 64 (3 + shown * 256))

/-- PLCA_BEACON (R368). -/
def execPlcaBeacon (seg : Fin 4) (s : State) : Host.Outcome State Fault Refusal :=
  done s (s.work (fun u => u.plcaBeacon seg.val))

/-- R369: in its opportunity the Melulo sends up to 1 + MAX_BC ready frames, output frames first; output frames left are
deferred. -/
def State.plcaOpportunity (s : State) (k : Nat) : State :=
  if !(s.plcaOn k) then s
  else
    let x := s.seg k
    let order := x.ready.filter (·.1) ++ x.ready.filter (fun f => !f.1)
    let n := 1 + s.segCfg k 5
    let left := order.drop n
    let s1 := each (order.take n) (fun t f => t.transmit (9 + k) f.2) (s.setSeg k { x with ready := left })
    s1.setReg (Reg.T1S_CNT_DEFER k) (s.reg (Reg.T1S_CNT_DEFER k) + BitVec.ofNat 64 (left.filter (·.1)).length)

/-- PLCA_OPPORTUNITY (R369). -/
def execPlcaOpportunity (seg : Fin 4) (s : State) : Host.Outcome State Fault Refusal :=
  done s (s.work (fun u => u.plcaOpportunity seg.val))

/-- R370: a physical collision; with PLCA on, the frame is retried in the next opportunity and MISCONFIG is set. -/
def State.collision (s : State) (k : Nat) : State :=
  if !(s.segOn k) then s
  else
    let x := s.seg k
    let f := SMap.get (fun _ => []) s.net.lastTx (9 + k)
    let s1 := if s.segCfg k 2 ≠ 0 then
        let t := if f = [] then s else s.setSeg k { x with ready := (frType f == 0x88B5, f) :: x.ready }
        t.orReg (Reg.T1S_FLAGS k) 1
      else s
    s1.setReg (Reg.T1S_CNT_COLLISION k) (s.reg (Reg.T1S_CNT_COLLISION k) + 1)

/-- PLCA_COLLISION (R370). -/
def execPlcaCollision (seg : Fin 4) (s : State) : Host.Outcome State Fault Refusal :=
  done s (s.work (fun u => u.collision seg.val))

/-- R370: an event of a segment: flags, counter, and a record of class NETWORK with this event number (0 for none). -/
def State.segEvent (s : State) (k flags cnt event : Nat) : State :=
  if !(s.segOn k) then s
  else
    let s1 := if event = 0 then s else s.record 1 24 0 0x70 none (8 + k) event
    (s1.setReg cnt (s.reg cnt + 1)).orReg (Reg.T1S_FLAGS k) flags

/-- OUT_OF_SLOT (R370). -/
def execOutOfSlot (seg : Fin 4) (s : State) : Host.Outcome State Fault Refusal :=
  done s (s.work (fun u => u.segEvent seg.val 1 (Reg.T1S_CNT_OUT_OF_SLOT seg.val) 0))

/-- BEACON_CONFLICT (R370). -/
def execBeaconConflict (seg : Fin 4) (s : State) : Host.Outcome State Fault Refusal :=
  done s (s.work (fun u => u.segEvent seg.val 2 (Reg.T1S_CNT_BEACON_CONFLICT seg.val) 3))

/-- NOISE_LIMIT in force on segment `k`: a write applies from the next TB0 millisecond (R377). -/
def State.noiseLimit (s : State) (k : Nat) : Nat :=
  match (s.seg k).oldLimit with
  | some (ms, v) => if ms = s.now / 1000000 then v else s.segCfg k 8
  | none => s.segCfg k 8

/-- NOISE_LIMIT of segment `k` is written. -/
def State.writeNoiseLimit (s : State) (k v : Nat) : State :=
  (s.setSeg k { s.seg k with oldLimit := some (s.now / 1000000, s.noiseLimit k) }).setDictN (0x1E00 + k) 8 v

/-- R370: a symbol error outside a frame; more than NOISE_LIMIT in one TB0 millisecond set NOISY. -/
def State.segNoise (s : State) (k : Nat) : State :=
  let x := s.seg k
  let ms := s.now / 1000000
  let n := if x.noiseMs = ms then x.noise + 1 else 1
  let past := n == s.noiseLimit k + 1
  (if s.segOn k then s.setSeg k { x with noiseMs := ms, noise := n } else s).segEvent k (if past then 4 else 0)
    (Reg.T1S_CNT_NOISE k) (if past then 4 else 0)

/-- SEGMENT_NOISE (R370). -/
def execSegmentNoise (seg : Fin 4) (s : State) : Host.Outcome State Fault Refusal :=
  done s (s.work (fun u => u.segNoise seg.val))

/-- FCS_ERROR (R370). -/
def execFcsError (seg : Fin 4) (s : State) : Host.Outcome State Fault Refusal :=
  done s (s.work (fun u => u.segEvent seg.val 0 (Reg.T1S_CNT_FCS seg.val) 0))

/-- RX_JABBER (R370). -/
def execRxJabber (seg : Fin 4) (s : State) : Host.Outcome State Fault Refusal :=
  done s (s.work (fun u => u.segEvent seg.val 8 (Reg.T1S_CNT_JABBER seg.val) 0))

/-- R370: the jabber timer cuts the Melulo's transmission: its transmitter is off for 1 ms. -/
def State.jabberCut (s : State) (k : Nat) : State :=
  (if s.segOn k then s.setSeg k { s.seg k with off := some s.now } else s).segEvent k 0 (Reg.T1S_CNT_JABBER k) 5

/-- TX_JABBER_CUT (R370). -/
def execTxJabberCut (seg : Fin 4) (s : State) : Host.Outcome State Fault Refusal :=
  done s (s.work (fun u => u.jabberCut seg.val))

/-- R370: the transmitter is on again; with PLCA off the frames that waited are sent. -/
def State.txOn (s : State) (k : Nat) : State :=
  let x := s.seg k
  match x.off with
  | none => s
  | some t =>
    if s.now < t + 1000000 then s
    else if s.segCfg k 2 = 0 then
      each x.ready (fun u f => u.transmit (9 + k) f.2) (s.setSeg k { x with off := none, ready := [] })
    else s.setSeg k { x with off := none }

/-- TX_REENABLE (R370). -/
def execTxReenable (seg : Fin 4) (s : State) : Host.Outcome State Fault Refusal :=
  done s (s.work (fun u => u.txOn seg.val))

/-- R371: the time frame of a segment: the base that TSYNC_TB names, its number and its STEP_EPOCH. -/
def State.timeFrame (s : State) (k : Nat) : Bytes :=
  let b := s.segCfg k 0x0A % 4
  let t := s.time.get b
  pdFrame (2 ^ 48 - 1) none (pdPayload 3 0 (s.seg k).tsync 0 (natLE 12 (time96 t.val) ++ natLE 1 b ++ natLE 1 t.epoch))

/-- R371: a time frame of segment `k` is due: TSYNC_MS have passed since the last one. -/
def State.syncDue (s : State) (k : Nat) : Bool :=
  match (s.seg k).synced with
  | none => true
  | some t => decide (t + s.segCfg k 9 * 1000000 ≤ s.now)

/-- TSYNC_FRAME: every TSYNC_MS while ENABLE and TSYNC_MS are non-zero. -/
def State.tsync (s : State) (k : Nat) : State :=
  if !(s.segOn k) ∨ s.segCfg k 9 = 0 ∨ (s.seg k).off.isSome ∨ !(s.syncDue k) then s
  else
    let x := s.seg k
    (s.setSeg k { x with tsync := (x.tsync + 1) % 2 ^ 32, synced := some s.now }).transmit (9 + k) (s.timeFrame k)

/-- TSYNC_FRAME (R371). -/
def execTsyncFrame (seg : Fin 4) (s : State) : Host.Outcome State Fault Refusal :=
  done s (s.work (fun u => u.tsync seg.val))

/-! ## ARP and ICMP (R372) -/

/-- The Crown's IPv4 address. -/
def State.ownIp (s : State) : Nat := s.dictN 0x1A40 1

/-- An answer to a received frame leaves by its port. -/
def State.answer (s : State) (p : Nat) (f : Bytes) : State := s.egress p (frClass f) f

/-- The ARP answer to a request: its own addresses as the sender's, the sender's as the target's. -/
def State.arpAnswer (s : State) (f : Bytes) : Bytes :=
  let b := frBody f
  let body := b.take 6 ++ natBE 2 2 ++ natBE 6 ownMac ++ natBE 4 s.ownIp ++ (b.drop 8).take 10
  padTo 60 (natBE 6 (frSrc f) ++ natBE 6 ownMac ++ (f.drop 12).take (frHead f - 10) ++ body)

/-- R372: an ARP request for the Crown's address is answered. -/
def State.arp (s : State) (p : Nat) (f : Bytes) : State :=
  let r := s.receive p f
  let b := frBody f
  if !r.2 ∨ frType f ≠ 0x0806 ∨ b.length < 28 ∨ fieldBE b 6 2 ≠ 1 ∨ fieldBE b 24 4 ≠ s.ownIp then r.1
  else r.1.answer p (s.arpAnswer f)

/-- ARP_REQUEST (R372). -/
def execArpRequest (port : Fin 6) (f : Bytes) (s : State) : Host.Outcome State Fault Refusal :=
  done s (s.work (fun u => u.arp port.val f))

/-- The Internet checksum of a byte string. -/
def inetSum (bs : Bytes) : Nat :=
  let t := (List.range ((bs.length + 1) / 2)).foldl (fun a i => a + fieldBE (padTo (bs.length + bs.length % 2) bs) (2 * i) 2) 0
  let f (x : Nat) : Nat := x % 65536 + x / 65536
  65535 - f (f t) % 65536

/-- The echo reply to a request: the same packet with the addresses exchanged, type 0 and its checksum. -/
def State.icmpAnswer (s : State) (f : Bytes) : Bytes :=
  let b := frBody f
  let len := fieldBE b 2 2
  let data := (b.take len).drop 24
  let echo (sum : Nat) : Bytes := [0, 0] ++ natBE 2 sum ++ data
  let ip := b.take 12 ++ natBE 4 s.ownIp ++ (b.drop 12).take 4
  padTo (Nat.max 60 (frHead f + 2 + len))
    (natBE 6 (frSrc f) ++ natBE 6 ownMac ++ (f.drop 12).take (frHead f - 10) ++ ip ++ echo (inetSum (echo 0)))

/-- R372: an ICMP echo request to the Crown's address is answered. -/
def State.icmp (s : State) (p : Nat) (f : Bytes) : State :=
  let r := s.receive p f
  let b := frBody f
  let len := fieldBE b 2 2
  if !r.2 ∨ frType f ≠ 0x0800 ∨ b.length < len ∨ len < 28 ∨ fieldLE b 0 1 ≠ 0x45 ∨ fieldLE b 9 1 ≠ 1 ∨ fieldBE b 16 4 ≠ s.ownIp ∨
      fieldLE b 20 1 ≠ 8 ∨ fieldBE b 6 2 % 0x4000 ≠ 0 then r.1
  else r.1.answer p (s.icmpAnswer f)

/-- ICMP_ECHO (R372). -/
def execIcmpEcho (port : Fin 6) (f : Bytes) (s : State) : Host.Outcome State Fault Refusal :=
  done s (s.work (fun u => u.icmp port.val f))

/-! ## Links and the PCIe port (R375, R376, R518) -/

/-- NET_STATE shows the link and the pre-emption verification of a port. -/
def State.portLink (s : State) (p : Nat) (up preempt : Bool) : State :=
  let v := putBits (putBits (s.regN Reg.NET_STATE) p 1 (b2n up)) (6 + p) 1 (b2n (up && preempt))
  s.setRegN Reg.NET_STATE v

/-- PORT_LINK_CHANGE (R378). -/
def execPortLinkChange (port : Fin 6) (up preempt : Bool) (s : State) : Host.Outcome State Fault Refusal :=
  done s (s.powered (fun u => u.portLink port.val up preempt))

/-- Mode of the PCIe port: 0 off, 1 endpoint, 2 root port. -/
def State.pcieMode (s : State) : Nat := s.fld Reg.PCIE_STATE 6 2

/-- PCIE_STATE shows the link; a port that is off has none. -/
def State.pcieLink (s : State) (up : Bool) (width rate : Nat) : State :=
  let mode := s.pcieMode
  s.setRegN Reg.PCIE_STATE (if up && mode != 0 then width + rate * 8 + mode * 64 + 256 else mode * 64)

/-- PCIE_LINK_CHANGE (R375). -/
def execPcieLinkChange (up : Bool) (width rate : Fin 8) (s : State) : Host.Outcome State Fault Refusal :=
  done s (s.powered (fun u => u.pcieLink up width.val rate.val))

/-- The unified-range address of a PCIe access: BAR2 is window 8, in endpoint mode; windows 0 to 7 are inbound, in root-port
mode. -/
def State.pcieAddr (s : State) (w off : Nat) : Option Nat :=
  if w = 8 then (if s.pcieMode = 1 ∧ off < 2 ^ 32 then some (s.dictN 0x2000 2 + off) else none)
  else if s.pcieMode = 2 then Config.pcieWindow (s.octetsOf 0x2001 1) w off else none

/-- R376: the port reaches no page of a real-time partition unless SHARE is set; unmapped pages are not reached. -/
def State.pcieReach (s : State) (a n : Nat) : Bool :=
  decide (umBase ≤ a) && decide (a + n ≤ umEnd) && (pagesOf a n).all (fun pg => match s.page pg with
    | none => false
    | some p => p.st != 3 && (p.share || !(s.bit (Reg.QUE_PART_CFG p.part) 8)))

/-- The blocks that an inbound read meets, and the first status that is not OK. -/
def State.pcieTouch (s : State) (a n : Nat) : State × Nat :=
  (pieces a n).foldl (fun (acc : State × Nat) pc =>
    let (t, w) := ((acc.1.translate 5 (pageOf pc.1)).touchRead (pageOf pc.1) (blockIn pc.1) false none)
    (t, if acc.2 = 0 then w.status else acc.2)) (s, 0)

/-- R518: a read; what it returns is the value the last read answered with, and a failed one is a Completer Abort. A read
that waits for a fetch is answered in the same step (log entry 7). -/
def State.pcieRead (s : State) (a n : Nat) : State :=
  let r := s.pcieTouch a n
  if r.2 ≠ 0 then r.1 else { r.1 with readVal := BitVec.ofNat 64 (leNat (s.peek a n)) }

/-- An inbound write of the blocks it lies in, and the first status that is not OK. -/
def State.pcieStore (s : State) (a : Nat) (bs : Bytes) : State × Nat :=
  (pieces a bs.length).foldl (fun (acc : State × Nat) pc =>
    let (t, w) := (acc.1.translate 5 (pageOf pc.1)).touchWrite pc.1 ((bs.drop (pc.1 - a)).take pc.2) false none
    (t, if acc.2 = 0 then w.status else acc.2)) (s, 0)

/-- R518: a posted write; one that is refused or meets a tier failure is reported by AER. -/
def State.pcieWrite (s : State) (a : Nat) (bs : Bytes) : State :=
  let ro := (pagesOf a bs.length).any (fun pg => match s.page pg with | some p => p.ro | none => true)
  if ro then s.bump Reg.PCIE_CNT_AER
  else
    let r := s.pcieStore a bs
    if r.2 ≠ 0 then r.1.bump Reg.PCIE_CNT_AER else r.1

/-- PCIE_INBOUND_ACCESS: in root-port mode an access outside every window is counted; a read has as many bytes as `data`. -/
def State.pcieAccess (s : State) (w off : Nat) (write : Bool) (data : Bytes) : State :=
  if !(s.bit Reg.PCIE_STATE 8) then s
  else match s.pcieAddr w off with
    | none => if s.pcieMode = 2 then s.bump Reg.PCIE_CNT_INBOUND_BAD else s
    | some a =>
      if !(s.pcieReach a data.length) then s
      else if write then s.pcieWrite a data else s.pcieRead a data.length

/-- PCIE_INBOUND_ACCESS (R375, R518). -/
def execPcieInboundAccess (window : Fin 9) (off : Nat) (write : Bool) (data : Bytes) (s : State) :
    Host.Outcome State Fault Refusal :=
  done s (s.work (fun u => u.pcieAccess window.val off write data))

end Sys2Proof.Machine
end

