-- ==== Sys2Proof/Machine/Brim.lean ====
section
/-! DEFINITION. Brim (17_brim_clocks_power.md): dividers and operating points, the power cap, droop, temperature, clock faults
and clock gates. -/

namespace Sys2Proof.Machine

/-! ## Tables -/

/-- R448: the Gauntlet divider of a point. -/
def pointGntDiv (k : Nat) : Nat := nth 16 [32, 28, 24, 20, 18, 16, 15, 14] k

/-- R448: the fabric divider of a point. -/
def pointFabDiv (k : Nat) : Nat := nth 24 [48, 40, 36, 32, 28, 24, 22, 21] k

/-- R452: static, Gauntlet and fabric terms of a point, in 0.01 W. -/
def pointTerms (k : Nat) : Nat × Nat × Nat :=
  nth (0, 0, 0) [(46, 397, 190), (53, 500, 252), (61, 640, 307), (73, 864, 389), (83, 1044, 483), (90, 1240, 595),
    (109, 1505, 739), (131, 1820, 873)] k

/-- R452: idle and full power of the other consumers (HBM3, LPDDR5X, flash, Crown, Visor, Seam), in 0.01 W. -/
def consumers : List (Nat × Nat) := [(100, 1400), (80, 900), (50, 600), (140, 1400), (50, 800), (50, 500)]

/-! ## Points and dividers (R444, R448, R450) -/

/-- The point a Palm's domains head for. -/
def State.headingPoint (s : State) (p : Nat) : Nat :=
  match s.brm.moves.find p with
  | some m => m.dest
  | none => s.palmPoint p

/-- R450: whether a transition goes up. -/
def State.movingUp (s : State) (p : Nat) : Bool :=
  match s.brm.moves.find p with
  | some m => decide (s.palmPoint p < m.dest)
  | none => false

/-- R450: what capping counts a Palm as: the higher of the two points of its transition. -/
def State.countedPoint (s : State) (p : Nat) : Nat := Nat.max (s.palmPoint p) (s.headingPoint p)

/-- The present divider of a domain; 224 until Brim ramps it (R444). -/
def State.divider (s : State) (d : Nat) : Nat := SMap.get (fun _ => 224) s.brm.divs d

/-- The Palm of a domain, for the twenty domains of the Palms. -/
def domainPalm (d : Nat) : Option Nat := if d < 16 then some (d / 4) else if d < 20 then some (d - 16) else none

/-- The divider a domain heads for (R443, R448, R458). -/
def State.dividerGoal (s : State) (d : Nat) : Nat :=
  if d < 16 then pointGntDiv (s.headingPoint (d / 4))
  else if d < 20 then pointFabDiv (s.headingPoint (d - 16))
  else if d < 22 then 24
  else if d = 22 then 32
  else if d < 25 then (if s.brm.gusHot then 64 else 32)
  else 64

/-- Whether a domain may take its step now: ROOT is locked, a Gauntlet is between tiles (R56), a Gusset between jobs (R328), and
on the way up the rail has reached its voltage (R450). -/
def State.dividerMay (s : State) (d : Nat) : Bool :=
  s.bit Reg.BRM_STATE 4 && !(decide (d < 16) && (s.gntOf d).tile.isSome) &&
  !((d == 23 || d == 24) && (s.gus.jobs.find (d - 23)).isSome) &&
  (match domainPalm d with
   | none => true
   | some p => !s.movingUp p || (match s.brm.moves.find p with | some m => m.rail | none => true))

/-- One step towards a goal. -/
def stepTowards (x goal : Nat) : Nat := if x < goal then x + 1 else if goal < x then x - 1 else x

/-- The five domains of a Palm have the dividers of the point they head for. -/
def State.palmDivided (s : State) (p : Nat) : Bool :=
  (List.range 4).all (fun g => s.divider (4 * p + g) == pointGntDiv (s.headingPoint p)) &&
  s.divider (16 + p) == pointFabDiv (s.headingPoint p)

/-- R449: whether a running request that OPPT applies to runs on Palm `p`. -/
def Request.runsOn (q : Request) (p : Nat) : Bool :=
  (match q.phase with | .running => true | .waiting => false) &&
  (if q.kind = 1 then q.parts.any (fun x => x.status.isNone && (match x.unit with | some g => g / 4 == p | none => false))
   else (q.kind == 2 || q.kind == 5) && q.palms.testBit p)

/-- R449: requests running on Palm `p` at a point other than their OPPT complete with OPPT_FALLBACK set. -/
def State.markFallback (s : State) (p : Nat) : State :=
  each s.que.reqs.entries (fun t (e : Nat × Request) =>
    if e.2.runsOn p && !(e.2.oppt == 0xFF) && !(e.2.oppt == t.palmPoint p) then t.putReq e.1 { e.2 with fallback := true }
    else t) s

/-- R450: a Palm is at its new point once its rail and all five of its domains have reached it. -/
def State.palmSettle (s : State) (p : Nat) : State :=
  match s.brm.moves.find p with
  | none => s
  | some m =>
    if m.rail && s.palmDivided p then
      let s1 := { s with brm := { s.brm with moves := s.brm.moves.drop p } }
      let s2 := (s1.setFld (Reg.BRM_PALM p) 0 3 m.dest).setFld (Reg.BRM_PALM p) 6 1 0
      s2.markFallback p
    else s

/-- The transition of a Palm that has just settled counts. -/
def State.palmSettled (s t : State) (p : Nat) : State :=
  if (s.brm.moves.find p).isSome && (t.brm.moves.find p).isNone then t.setReg Reg.BRM_CNT_TRANSITION (s.reg Reg.BRM_CNT_TRANSITION + 1)
  else t

/-- R444: a domain takes one step of its divider. -/
def State.dividerStep (s : State) (d : Nat) : State :=
  if s.dividerMay d then
    let v := stepTowards (s.divider d) (s.dividerGoal d)
    let s1 := { s with brm := { s.brm with divs := SMap.set (fun _ => 224) s.brm.divs d v } }
    match domainPalm d with
    | none => s1
    | some p => s.palmSettled (s1.palmSettle p) p
  else s

/-- R450: the rail of a Palm reaches its new voltage; on the way down it slews only after the ramp. -/
def State.railDone (s : State) (p : Nat) : State :=
  match s.brm.moves.find p with
  | none => s
  | some m =>
    if m.rail || !(s.movingUp p || s.palmDivided p) then s
    else
      let s1 := { s with brm := { s.brm with moves := s.brm.moves.put p { m with rail := true } } }
      s.palmSettled (s1.palmSettle p) p

/-- R450: begin a transition of one point; a Palm in transition completes that first (R461). -/
def State.startMove (s : State) (p dst : Nat) : State :=
  if (s.brm.moves.find p).isSome || s.palmPoint p == dst then s
  else
    let s1 := { s with brm := { s.brm with moves := s.brm.moves.put p { dest := dst, rail := false } } }
    s1.setFld (Reg.BRM_PALM p) 6 1 1

/-! ## Targets and the cap (R449 to R456) -/

/-- R451: a valid slot of a cadence table claims a Gauntlet of the Palm. -/
def State.hasFloor (s : State) (p : Nat) : Bool :=
  (List.range 2).any (fun t => (s.cadSlots t).any (fun x => bits x.2.2.2.2 (4 * p) 4 != 0))

/-- R451: the point capping never lowers a Palm below. -/
def State.floorPoint (s : State) (p : Nat) : Nat := if s.hasFloor p then s.fld Reg.BRM_OPPT 8 3 else 0

/-- R449: the target of a Palm, before capping and temperature. -/
def State.targetPoint (s : State) (p : Nat) : Nat :=
  let ps := s.que.reqs.entries.filterMap (fun (e : Nat × Request) =>
    if e.2.runsOn p && decide (e.2.oppt < 8) then some e.2.oppt else none)
  let t := if ps.isEmpty then s.fld Reg.BRM_OPPT 0 3 else ps.foldl Nat.max 0
  Nat.min (Nat.max t (s.floorPoint p)) (s.fld Reg.BRM_OPPT 4 3)

/-- R458: the Palm is throttled. -/
def State.throttled (s : State) (p : Nat) : Bool := s.bit (Reg.BRM_PALM p) 8

/-- R452: the estimate at given points, from fourteen activities in 1/65,536 (six consumers, then Gauntlets and fabric of each
Palm), in units of 0.1 W ÷ `powerUnit`. -/
def powerEstimate (acts : List Nat) (points : List Nat) : Nat :=
  let c := ((List.range 6).map (fun i =>
    let e := nth (0, 0) consumers i
    e.1 * 65536 + (e.2 - e.1) * nth 0 acts i)).sum
  let ps := ((List.range 4).map (fun p =>
    let e := pointTerms (nth 0 points p)
    e.1 * 65536 + e.2.1 * nth 0 acts (6 + 2 * p) + e.2.2 * nth 0 acts (7 + 2 * p))).sum
  10827 * (c + ps)

/-- The estimate's units in 0.1 W: 0.01 W per term, activities in 1/65,536, the loss factor in 1/10,000. -/
def powerUnit : Nat := 10 * 65536 * 10000

/-- R453: whether the governing power fits the cap at given points. In opportunistic mode the measurement is taken at the
points `now` and changes by the estimate's difference (DESIGN CHOICE, log entry 66). -/
def State.capFits (s : State) (measured : Nat) (acts now points : List Nat) : Bool :=
  let cap := s.fld Reg.BRM_CAP 0 12 * powerUnit
  if s.bit Reg.BRM_CAP 12 then decide (measured * powerUnit + powerEstimate acts points ≤ cap + powerEstimate acts now)
  else decide (powerEstimate acts points ≤ cap)

/-- Palms in descending order of point and then descending index. -/
def capOrder (points : List Nat) : List Nat :=
  (List.range 8).flatMap (fun i => ([3, 2, 1, 0] : List Nat).filter (fun p => nth 0 points p == 7 - i))

/-- R453: the Palms to lower: in order, until the power fits. -/
def State.capLower (s : State) (measured : Nat) (acts now : List Nat) : List Nat :=
  ((capOrder now).foldl (fun (acc : List Nat × List Nat) p =>
    if s.capFits measured acts now acc.1 || decide (nth 0 now p ≤ s.floorPoint p) || (s.brm.moves.find p).isSome then acc
    else (acc.1.set p (nth 0 now p - 1), acc.2 ++ [p])) (now, [])).2

/-- R453: the Palm to raise: the lowest index below its target for which the power still fits. -/
def State.capRaise (s : State) (measured : Nat) (acts now : List Nat) : Option Nat :=
  firstIdx 4 (fun p => decide (s.palmPoint p < s.targetPoint p) && (s.brm.moves.find p).isNone && !s.throttled p &&
    s.capFits measured acts now (now.set p (nth 0 now p + 1)))

/-- R456: every Palm is at its floor. -/
def State.allAtFloor (s : State) (now : List Nat) : Bool := (List.range 4).all (fun p => decide (nth 0 now p ≤ s.floorPoint p))

/-- R456: the cap cannot be met: the flag with one warning record each time that it is set, and the count of periods. -/
def State.capHeld (s : State) : State :=
  let s1 := s.bump Reg.BRM_CNT_CAP_HELD
  if s1.bit Reg.BRM_FLAGS 1 then s1 else (s1.orReg Reg.BRM_FLAGS 2).record 1 4 0 0x72 none 0xFFFF 0

/-- A Palm above its target goes down by one point a period (DESIGN CHOICE, log entry 66). -/
def State.followTargets (s : State) : State :=
  iter 4 (fun t p => if t.targetPoint p < t.palmPoint p then t.startMove p (t.palmPoint p - 1) else t) s

/-- R453: what Brim does to the points in one period. -/
def State.capAct (s : State) (measured : Nat) (acts : List Nat) : State :=
  let now := (List.range 4).map s.countedPoint
  let s1 :=
    if s.capFits measured acts now now then
      match s.capRaise measured acts now with
      | some p => s.startMove p (s.palmPoint p + 1)
      | none => s
    else
      let low := s.capLower measured acts now
      if low.isEmpty && s.allAtFloor now then s.capHeld else each low (fun t p => t.startMove p (t.palmPoint p - 1)) s
  s1.followTargets

/-- R449, R451: what BRM_PALM shows of target and floor. -/
def State.showPalms (s : State) : State :=
  iter 4 (fun t p => (t.setFld (Reg.BRM_PALM p) 3 3 (t.targetPoint p)).setFld (Reg.BRM_PALM p) 7 1 (b2n (t.hasFloor p))) s

/-- R460: the energy of a period, in µJ, is split between the contexts with a running request and the uncharged rest. The shares
follow activity that the model does not hold, so they are free within the measured energy (log entry 67). -/
def State.charge (s : State) (uj : Nat) : State :=
  let cs := (List.range 256).filter (fun c =>
    s.que.reqs.entries.any (fun (e : Nat × Request) => e.2.ctx == c && (match e.2.phase with | .running => true | .waiting => false)))
  let r := cs.foldl (fun (acc : State × Nat) c =>
    let share := (Config.freeWord acc.1.fresh).toNat % (acc.2 + 1)
    ((acc.1.freshN 1).add (Reg.BRM_CNT_CTX_UJ c) share, acc.2 - share)) (s, uj)
  r.1.add Reg.BRM_CNT_UNCHARGED_UJ r.2

/-- R462, R463: power figures after a period: estimate, measured power and 1 ms mean of the governing power in 0.1 W; the mean of
the measured power in watts; the input energy in µJ (0.1 W for 10 µs is 1 µJ). -/
def State.showPower (s : State) (measured : Nat) (acts : List Nat) : State :=
  let est := powerEstimate acts ((List.range 4).map s.countedPoint) / powerUnit
  let gov := if s.bit Reg.BRM_CAP 12 then measured else est
  let gs := (gov :: s.brm.govern).take 100
  let ms := (measured :: s.brm.measured).take 100
  let s1 := { s with brm := { s.brm with govern := gs, measured := ms } }
  let v := clampNat 0 65535 est + clampNat 0 65535 measured * 2 ^ 16 + clampNat 0 65535 (gs.sum / gs.length) * 2 ^ 32
  let s2 := (s1.setRegN Reg.BRM_POWER v).setDictN 0x2E00 8 (toF32 ((FV.ofInt ms.sum 0).div (FV.ofInt (10 * ms.length) 0)))
  s2.setDictN 0x2E00 9 ((s2.dictN 0x2E00 9 + measured) % 2 ^ 64)

/-- R453: one period of 10 µs; the shadows of BRM_CAP and BRM_OPPT apply first. -/
def State.capPeriod (s : State) (measured : Nat) (acts : List Nat) : State :=
  let s1 := (s.applyShadow Reg.BRM_CAP).applyShadow Reg.BRM_OPPT
  let s2 := s1.setFld Reg.BRM_STATE 0 3 (s1.fld Reg.BRM_CAP 12 1)
  let s3 := ((s2.showPower measured acts).charge measured).showPalms
  s3.capAct measured acts

/-! ## Droop (R457) -/

/-- A droop detector of a Palm sees the rail fall. -/
def State.droopDetect (s : State) (p : Nat) : State :=
  if (s.brm.stretch.find p).isSome then s
  else
    let s1 := { s with brm := { s.brm with stretch := s.brm.stretch.put p s.now } }
    (s1.setFld (Reg.BRM_PALM p) 9 1 1).dictAddSat 0x5120 (p + 1) 1 64

/-- Every detector is again within its limits: the stretch ends and its time counts. -/
def State.droopClear (s : State) (p : Nat) : State :=
  match s.brm.stretch.find p with
  | none => s
  | some since =>
    let s1 := { s with brm := { s.brm with stretch := s.brm.stretch.drop p } }
    (s1.setFld (Reg.BRM_PALM p) 9 1 0).setReg (Reg.BRM_CNT_STRETCH_NS p)
      (s.reg (Reg.BRM_CNT_STRETCH_NS p) + BitVec.ofNat 64 (s.now - since))

/-- The Palm goes down by one point as R453 would lower it: not below its floor. -/
def State.droopLong (s : State) (p : Nat) : State :=
  if (s.brm.stretch.find p).isNone then s
  else
    let s1 := if s.palmPoint p ≤ s.floorPoint p then s else s.startMove p (s.palmPoint p - 1)
    s1.setRegN Reg.BRM_FLAGS (s.regN Reg.BRM_FLAGS ||| 8)

/-! ## Temperature (R458, R459) -/

/-- R458: the sensors of Palm `p`: its twelve and that of the HBM3 stack it drives (stack A: Palms 0 and 1). -/
def palmSensors (p : Nat) : List Nat := (List.range 12).map (fun i => 12 * p + i) ++ [62 + p / 2]

/-- Sensor readings in 1/16 °C. -/
def hottest (temps : List Int) (ss : List Nat) : Int := ss.foldl (fun m k => max m (nth 0 temps k)) (-32768)

/-- R458: throttling begins: the flag, a warning record, the count. -/
def State.throttleBegin (s : State) : State :=
  ((s.orReg Reg.BRM_FLAGS 4).bump Reg.BRM_CNT_THROTTLE).record 1 3 0 0x72 none 0xFFFF 0

/-- R458: a throttled Palm goes down by one point, past its floor. -/
def State.throttleLower (s : State) (p : Nat) : State :=
  if s.palmPoint p = 0 then s else s.startMove p (s.palmPoint p - 1)

/-- R458: one Palm after a reading: it is throttled from 100 °C until below 95 °C, and lowered until below 97 °C. -/
def State.throttlePalm (s : State) (temps : List Int) (p : Nat) : State :=
  let h := hottest temps (palmSensors p)
  if 1600 ≤ h then
    let s1 := if s.throttled p then s else ((s.setFld (Reg.BRM_PALM p) 8 1 1).throttleBegin).throttleLower p
    { s1 with brm := { s1.brm with lowering := s1.brm.lowering ||| 2 ^ p } }
  else
    let s1 := if h < 1552 then { s with brm := { s.brm with lowering := s.brm.lowering &&& (15 - 2 ^ p) } } else s
    if h < 1520 then s1.setFld (Reg.BRM_PALM p) 8 1 0 else s1

/-- R458: the Gusset domains after a reading of the Crown sensors. -/
def State.throttleCrown (s : State) (temps : List Int) : State :=
  let h := hottest temps ((List.range 10).map (· + 48))
  if 1600 ≤ h then
    if s.brm.gusHot then s else ({ s with brm := { s.brm with gusHot := true } }).throttleBegin
  else if h < 1520 then { s with brm := { s.brm with gusHot := false } }
  else s

/-- R458, R459: the 64 sensors are read; from 115 °C the package goes to the safe state and a shutdown follows. -/
def State.thermalSample (s : State) (temps : List Int) : State :=
  let s1 := iter 64 (fun t k => t.setRegN (Reg.BRM_THERM k) (codeOf 16 (nth 0 temps k))) s
  if 1840 ≤ hottest temps (List.range 64) then
    if s1.brm.offAt.isSome then s1
    else
      let s2 := { s1 with brm := { s1.brm with offAt := some s1.now } }
      s2.record 3 3 0 0x72 none 0xFFFF 0
  else (iter 4 (fun t p => t.throttlePalm temps p) s1).throttleCrown temps

/-- R458: every 100 µs a Palm that throttling lowers goes down one more point. -/
def State.throttleStep (s : State) (p : Nat) : State := if s.brm.lowering.testBit p then s.throttleLower p else s

/-- R459: one millisecond after the shutdown began, every rail but the standby supply is off. -/
def State.railsOff (s : State) : State :=
  match s.brm.offAt with
  | none => s
  | some t => if t + 1000000 ≤ s.now then { s with brm := { s.brm with off := true } } else s

/-! ## Clock faults (R442) -/

/-- The lock bit of a PLL in BRM_STATE: ROOT, MEM, NET, TIME, AUD, CAM; XA has none. -/
def lockBit (pll : Nat) : Option Nat := if pll < 4 then some (4 + pll) else if pll < 6 then some (4 + pll) else none

/-- A PLL's lock bit set or cleared. -/
def State.setLock (s : State) (pll : Nat) (on : Bool) : State :=
  match lockBit pll with
  | none => s
  | some k => s.setFld Reg.BRM_STATE k 1 (b2n on)

/-- R442: XA leaves its range, or a PLL loses lock: fatal for XA, ROOT, MEM and TIME; a loss of NET takes the ports' links. -/
def State.clockFault (s : State) (pll : Nat) : State :=
  let s1 := (s.setLock pll false).orReg Reg.BRM_FLAGS 16
  if pll = 6 ∨ pll = 0 ∨ pll = 1 ∨ pll = 3 then s1.record 3 2 0 0x72 none 0xFFFF 0
  else
    let s2 := if pll = 2 then iter 6 (fun t p => t.portLink p false false) s1 else s1
    s2.record 1 2 0 0x72 none 0xFFFF 0

/-! ## Gates (R445 to R447) -/

/-- Quiescence of the unit of a gate by its own chapter (DEDUCED for the units whose chapter states no rule, log entry 68). -/
def State.unitQuiet (s : State) (n : Nat) : Bool :=
  if 0x10 ≤ n ∧ n < 0x20 then
    let g := s.gntOf (n - 0x10)
    g.tile.isNone && g.owner.isNone && g.parked.isNone
  else if 0x20 ≤ n ∧ n < 0x24 then
    s.regN (Reg.FNG_STATE (n - 0x20)) == 0 && s.kvr.entries.all (fun (e : Nat × SeqRec) => e.1 % 4 != n - 0x20)
  else if 0x24 ≤ n ∧ n < 0x28 then (s.att.find (n - 0x24)).isNone
  else if 0x40 ≤ n ∧ n < 0x80 then s.fld (Reg.MTN_STATE (n - 0x40)) 0 2 == 0
  else if 0x84 ≤ n ∧ n < 0x88 then (List.range 64).all (fun l => !s.bit (Reg.KNK_LOOP_CFG (n - 0x84) l) 0)
  else if n = 0x88 ∨ n = 0x89 then (s.gus.jobs.find (n - 0x88)).isNone
  else if n = 0x8A then s.pcu.held.isEmpty && s.pcu.waiting.isEmpty && s.pcu.update.isNone
  else if n = 0x91 then s.vis.pipes.entries.all (fun (e : Nat × VPipe) => e.2.samples.isEmpty)
  else if n = 0x92 then s.crop.isNone
  else if n = 0x93 then s.atu.tracks.entries.isEmpty && s.que.reqs.entries.all (fun (e : Nat × Request) => !(e.2.kind == 0x13) || !e.2.started)
  else true

/-- The gates at or below a gate. -/
def gatesBelow (n : Nat) : List Nat := (List.range 256).filter (fun k => gateNamed k && (gatePath k).contains n)

/-- Gates that a valid slot of either table claims. -/
def State.claimedGates (s : State) : List Nat :=
  (List.range 2).flatMap (fun t => (s.cadSlots t).flatMap (fun x => s.slotUnits t x.1))

/-- R446: why turning a gate off is refused, with the gates that cause it: 1 CHILD, 2 BUSY, 3 SLOT; none when it is not. -/
def State.gateRefusal (s : State) (n : Nat) : Option (Nat × List Nat) :=
  let kids := (List.range 256).filter (fun k => gateNamed k && k != n && gateParent k == n && s.bit (Reg.BRM_GATE k) 0)
  let busy := (gatesBelow n).filter (fun k => !s.unitQuiet k)
  let slot := (gatesBelow n).filter (fun k => s.claimedGates.contains k)
  if !kids.isEmpty then some (1, kids)
  else if !busy.isEmpty then some (2, busy)
  else if !slot.isEmpty then some (3, slot)
  else none

/-- R446: a refused write leaves every gate unchanged and says why. -/
def State.gateRefuse (s : State) (n cause : Nat) (list : List Nat) : State :=
  let s1 := (s.orReg Reg.BRM_FLAGS 1).setRegN Reg.BRM_GATE_REFUSED (n + cause * 256)
  iter 4 (fun t i => t.setRegN (Reg.BRM_GATE_LIST i)
    ((list.filter (fun k => k / 64 == i)).foldl (fun acc k => acc ||| 2 ^ (k % 64)) 0)) s1

/-- R446: a write of a gate. `refused` says what the writer meets. -/
def State.writeGate (s : State) (ag : Agent) (n v : Nat) : State :=
  let a := Reg.BRM_GATE n
  if !gateNamed n then s.busError ag true 1 a
  else if v.testBit 0 then
    let s1 := each (gatePath n) (fun t k => t.storeReg (Reg.BRM_GATE k) (t.regN (Reg.BRM_GATE k) ||| 1)) s
    s1.storeReg a v
  else match s.gateRefusal n with
    | some (cause, list) => (s.gateRefuse n cause list).refuseRule ag a
    | none => s.storeReg a v

/-- R447: AUTO stops the clock of an idle unit. -/
def State.idleStop (s : State) (n : Nat) : State :=
  if gateNamed n && s.bit (Reg.BRM_GATE n) 0 && s.bit (Reg.BRM_GATE n) 1 && (gatesBelow n).all s.unitQuiet then
    let rest := s.brm.stopped.filter (fun k => k != n && s.unitQuiet k)
    { s with brm := { s.brm with stopped := insertAsc n rest } }
  else s

/-! ## Commands -/

/-- CAP_PERIOD (R453): measured input power in 0.1 W and the fourteen activities of R452. -/
def execCapPeriod (measured : Nat) (acts : List Nat) (s : State) : Host.Outcome State Fault Refusal :=
  done s (s.powered (fun u => (u.capPeriod measured acts).setReg Reg.BRM_CNT_PERIOD (s.reg Reg.BRM_CNT_PERIOD + 1)))

/-- DIVIDER_STEP (R444). -/
def execDividerStep (domain : Fin 26) (s : State) : Host.Outcome State Fault Refusal :=
  done s (s.powered (fun u => u.dividerStep domain.val))

/-- RAIL_SLEW_DONE (R450). -/
def execRailSlewDone (p : Fin 4) (s : State) : Host.Outcome State Fault Refusal :=
  done s (s.powered (fun u => u.railDone p.val))

/-- DROOP_DETECT (R457). -/
def execDroopDetect (p : Fin 4) (s : State) : Host.Outcome State Fault Refusal :=
  done s (s.powered (fun u =>
    let t := u.droopDetect p.val
    if (s.brm.stretch.find p.val).isSome then t else t.setReg (Reg.BRM_CNT_DROOP p.val) (s.reg (Reg.BRM_CNT_DROOP p.val) + 1)))

/-- DROOP_CLEAR (R457). -/
def execDroopClear (p : Fin 4) (s : State) : Host.Outcome State Fault Refusal :=
  done s (s.powered (fun u => u.droopClear p.val))

/-- DROOP_LONG (R457). -/
def execDroopLong (p : Fin 4) (s : State) : Host.Outcome State Fault Refusal :=
  done s (s.powered (fun u => u.droopLong p.val))

/-- THERMAL_SAMPLE (R458): 64 readings in 1/16 °C. -/
def execThermalSample (temps : List Int) (s : State) : Host.Outcome State Fault Refusal :=
  done s (s.powered (fun u => u.thermalSample temps))

/-- THROTTLE_STEP (R458). -/
def execThrottleStep (p : Fin 4) (s : State) : Host.Outcome State Fault Refusal :=
  done s (s.powered (fun u => u.throttleStep p.val))

/-- RAILS_OFF (R459). -/
def execRailsOff (s : State) : Host.Outcome State Fault Refusal := done s (s.powered (fun u => u.railsOff))

/-- CLOCK_FAULT (R442): 0 ROOT, 1 MEM, 2 NET, 3 TIME, 4 AUD, 5 CAM, 6 XA. -/
def execClockFault (pll : Fin 7) (s : State) : Host.Outcome State Fault Refusal :=
  done s (s.powered (fun u => (u.clockFault pll.val).setReg Reg.BRM_CNT_LOCK_LOSS (s.reg Reg.BRM_CNT_LOCK_LOSS + 1)))

/-- PLL_RELOCK (R442): NET, AUD and CAM are relocked. -/
def execPllRelock (pll : Fin 7) (s : State) : Host.Outcome State Fault Refusal :=
  done s (s.powered (fun u => if pll.val = 2 ∨ pll.val = 4 ∨ pll.val = 5 then u.setLock pll.val true else u))

/-- PLL_LOCK (R441). -/
def execPllLock (pll : Fin 7) (s : State) : Host.Outcome State Fault Refusal :=
  done s (s.powered (fun u => u.setLock pll.val true))

/-- GATE_WRITE (R446). -/
def execGateWrite (n : Fin 256) (value : BitVec 64) (s : State) : Host.Outcome State Fault Refusal :=
  done s (s.powered (fun u => u.writeGate software n.val value.toNat))

/-- IDLE_CLOCK_STOP (R447). -/
def execIdleClockStop (n : Fin 256) (s : State) : Host.Outcome State Fault Refusal :=
  done s (s.work (fun u => u.idleStop n.val))

end Sys2Proof.Machine
end

