-- ==== Sys2Proof/Machine/Cuff.lean ====
section
/-! DEFINITION. The safety island (18_cuff_safety.md): error records and their handling, stop outputs, redundant results, age
monitors, self-test, checker tests and its registers' own write rules. -/

namespace Sys2Proof.Machine

/-! ## Records (R472 to R477) -/

/-- R472: the 32 bytes of a record. -/
def ErrRec.bytes (r : ErrRec) : Bytes :=
  natLE 1 r.sev ++ natLE 1 r.cls ++ natLE 1 r.status ++ natLE 1 r.block ++ natLE 1 (r.ctx.getD 0) ++
  natLE 1 (b2n r.ctx.isSome + b2n r.lostBefore * 2 + b2n r.captured * 4) ++ natLE 2 r.unit ++ natLE 4 r.seq ++
  natLE 4 r.detail ++ natLE 12 r.time ++ natLE 2 r.count ++ [0, 0]

/-- The oldest unhandled record of a queue marked handled, with the record. -/
def takeUnhandled : List ErrRec → Option (ErrRec × List ErrRec)
  | [] => none
  | r :: rs =>
    if r.handled then (takeUnhandled rs).map (fun x => (x.1, r :: x.2))
    else some (r, { r with handled := true } :: rs)

/-- R474: the severity whose record is handled next: the highest with an unhandled one. -/
def Cuff.nextSeverity (c : Cuff) : Option Nat :=
  (firstIdx 4 (fun i => (takeUnhandled (c.queue (3 - i))).isSome)).map (3 - ·)

/-- R474: handle one record: its class's action is applied. -/
def State.handleRecord (s : State) : State :=
  match s.cuff.nextSeverity with
  | none => s
  | some sev => match takeUnhandled (s.cuff.queue sev) with
    | none => s
    | some (r, q) => ({ s with cuff := s.cuff.setQueue sev q }).applyAction State.send r

/-- R474, R475: remove the oldest record of a severity; one that is not handled yet stays (DEDUCED, log entry 69). A queue left
empty is no longer in overflow, so its next loss is a first one. -/
def State.popRecord (s : State) (sev : Nat) : State :=
  match s.cuff.queue sev with
  | [] => s
  | r :: rs =>
    if r.handled then
      let s1 := { s with cuff := s.cuff.setQueue sev rs }
      if rs.isEmpty then s1.setFld (Reg.CUF_ERQ_STATE sev) 7 1 0 else s1
    else s

/-- R490: what CUF_ERQ_STATE shows. -/
def State.erqState (s : State) (sev : Nat) : Nat :=
  let q := s.cuff.queue sev
  putBits (putBits (s.regN (Reg.CUF_ERQ_STATE sev)) 0 7 q.length) 8 7 (q.filter (fun r => !r.handled)).length

/-- R490: word `w` of the oldest record of a severity, zero when there is none. -/
def State.erqWord (s : State) (sev w : Nat) : Nat :=
  match s.cuff.queue sev with
  | [] => 0
  | r :: _ => fieldLE r.bytes (8 * w) 8

/-- ERROR_RECORD (R474). -/
def execErrorRecord (rec : RecordIn) (s : State) : Host.Outcome State Fault Refusal :=
  done s (s.powered (fun u =>
    u.record rec.sev.val rec.cls rec.status rec.block (rec.ctx.map (·.val)) rec.unit rec.detail))

/-- RECORD_HANDLE (R474). -/
def execRecordHandle (s : State) : Host.Outcome State Fault Refusal := done s (s.powered State.handleRecord)

/-- ERQ_POP (R474). -/
def execErqPop (sev : Fin 4) (s : State) : Host.Outcome State Fault Refusal := done s (s.powered (fun u => u.popRecord sev.val))

/-- R491: ERR_POP answers with the oldest record, or with nothing, and removes it. -/
def State.errPop (s : State) (sev : Nat) : State :=
  let bs := match s.cuff.queue sev with
    | [] => []
    | r :: _ => r.bytes
  (s.popRecord sev).setOctets 0x3001 (sev + 1) bs

/-- ERR_POP (R491). -/
def execErrPop (sev : Fin 4) (s : State) : Host.Outcome State Fault Refusal := done s (s.powered (fun u => u.errPop sev.val))

/-! ## Hardware causes and stops (R465 to R471) -/

/-- R465, R488: a hardware cause takes the package to the safe state and is latched; in the safe state a later one is not. -/
def State.hwSafe (s : State) (cause : Nat) : State :=
  let s0 := if s.boot.hwPending && s.inSafe then s
    else { s with boot := { s.boot with hwPending := true } }.setRegN Reg.CUF_HW_CAUSE
      (cause + (s.now / 1000000) % 2 ^ 48 * 2 ^ 16)
  if s.inSafe then s0 else s0.safeState.capture 5 s0.now

/-- LOCKSTEP_MISMATCH (R465). -/
def execLockstepMismatch (s : State) : Host.Outcome State Fault Refusal := done s (s.hwSafe 1)

/-- CUFF_SUPPLY_FAULT (R465). -/
def execCuffSupplyFault (s : State) : Host.Outcome State Fault Refusal := done s (s.hwSafe 2)

/-- WATCHDOG_EXPIRY (R465). -/
def execWatchdogExpiry (s : State) : Host.Outcome State Fault Refusal := done s (s.hwSafe 3)

/-- R469, R490: CUF_STOP shows the SAFE_IN channels; DISCREPANT clears once both have read stop together and then run together. -/
def State.showSafeIn (s : State) : State :=
  let s1 := (s.setFld Reg.CUF_STOP 2 1 (b2n s.cuff.inA)).setFld Reg.CUF_STOP 3 1 (b2n s.cuff.inB)
  if !s.cuff.inA && !s.cuff.inB then { s1 with cuff := { s1.cuff with sawStop := true } }
  else if s.cuff.inA && s.cuff.inB && s.cuff.sawStop then s1.setFld Reg.CUF_STOP 4 1 0
  else s1

/-- Level of a SAFE_IN channel (false A, true B) becomes `run`. -/
def State.setSafeIn (s : State) (ch run : Bool) : State :=
  { s with cuff := if ch then { s.cuff with inB := run } else { s.cuff with inA := run } }

/-- R469: a channel reads stop. When both read run before, this is a trip. -/
def State.safeInTrip (s : State) (ch : Bool) : State :=
  let tripped := s.cuff.inA && s.cuff.inB
  let s1 := (s.setSafeIn ch false).showSafeIn
  if tripped then
    ((s1.stopPairs (s1.fld Reg.CUF_CFG 40 2)).dictAddSat 0x5130 3 1 32).record 1 16 0 0x73 none 0xFFFF 0
  else s1

/-- SAFE_IN_TRIP (R469). -/
def execSafeInTrip (ch : Bool) (s : State) : Host.Outcome State Fault Refusal := done s (s.powered (fun u => u.safeInTrip ch))

/-- SAFE_IN_RUN (R469). -/
def execSafeInRun (ch : Bool) (s : State) : Host.Outcome State Fault Refusal :=
  done s (s.powered (fun u => (u.setSafeIn ch true).showSafeIn))

/-- R469: the channels have disagreed for longer than SAFE_IN_DISC_MS. -/
def State.safeInDiscrepant (s : State) : State :=
  if s.cuff.inA == s.cuff.inB || s.bit Reg.CUF_STOP 4 then s
  else
    let s1 := { s with cuff := { s.cuff with sawStop := false } }
    (s1.orReg Reg.CUF_STOP 16).record 2 16 0 0x73 none 0xFFFF 0

/-- SAFE_IN_DISCREPANT (R469). -/
def execSafeInDiscrepant (s : State) : Host.Outcome State Fault Refusal := done s (s.powered State.safeInDiscrepant)

/-- STOP_READBACK (R468). -/
def execStopReadback (_ : Fin 4) (s : State) : Host.Outcome State Fault Refusal :=
  done s (s.powered (fun u => u.record 3 17 0 0x73 none 0xFFFF 0))

/-- R467: why pairs may not be released: 1 not READY, 2 SAFE_IN, 3 an expired age monitor; 0 when they may. -/
def State.releaseCause (s : State) (pairs : Nat) : Nat :=
  if s.fld Reg.CUF_STATE 0 2 ≠ 2 then 1
  else if !(s.cuff.inA && s.cuff.inB) || s.bit Reg.CUF_STOP 4 then 2
  else if s.cuff.ages.entries.any (fun (e : Nat × AgeMon) => e.2.expired && s.bit (Reg.CUF_AGE_CFG e.1) 0 &&
      (s.fld (Reg.CUF_AGE_CFG e.1) 1 2 &&& pairs) != 0) then 3
  else 0

/-- R467: release pairs: both channels drive the run level; a refusal leaves every pair as it was and shows its cause. -/
def State.releasePairs (s : State) (pairs : Nat) : State × Bool :=
  let cause := s.releaseCause pairs
  if cause = 0 then
    let ch := (if pairs.testBit 0 then 3 else 0) + (if pairs.testBit 1 then 12 else 0)
    let s1 := { s with cuff := { s.cuff with cmdLevel := s.cuff.cmdLevel ||| ch } }
    (s1.setFld Reg.CUF_STOP 0 2 (s.fld Reg.CUF_STOP 0 2 - (s.fld Reg.CUF_STOP 0 2 &&& pairs)), true)
  else ((s.orReg Reg.CUF_STOP 32).setFld Reg.CUF_STOP 8 8 cause, false)

/-- R466, R467, R489: a write of CUF_STOP_CTRL. A stop in the same write wins over a release, which is then refused. A release
with a wrong key releases nothing and is refused (DEDUCED, log entry 70). -/
def State.writeStopCtrl (s : State) (ag : Agent) (v : Nat) : State :=
  let pairs := v % 4
  let s1 := if v.testBit 2 then s.stopPairs pairs else s
  if v.testBit 3 then
    if bits v 48 16 ≠ 0x524C then s1.refuseRule ag Reg.CUF_STOP_CTRL
    else if v.testBit 2 then (s1.orReg Reg.CUF_STOP 32).refuseRule ag Reg.CUF_STOP_CTRL
    else
      let r := s1.releasePairs pairs
      if r.2 then r.1 else r.1.refuseRule ag Reg.CUF_STOP_CTRL
  else s1

/-- STOP (R466). -/
def execStop (value : BitVec 64) (s : State) : Host.Outcome State Fault Refusal :=
  done s (s.powered (fun u => u.writeStopCtrl software value.toNat))

/-- RELEASE (R467). -/
def execRelease (value : BitVec 64) (s : State) : Host.Outcome State Fault Refusal :=
  done s (s.powered (fun u => u.writeStopCtrl software value.toNat))

/-- STOP_RELEASE (R491): only 0x524C is accepted; it acts on both pairs by R467. -/
def execStopRelease (value : BitVec 16) (s : State) : Host.Outcome State Fault Refusal :=
  done s (s.serve (fun u => if value.toNat = 0x524C then
    let r := u.releasePairs 3
    r.1.aborted (if r.2 then 0 else 6) else u.aborted 6))

/-- R471: whether an age monitor with this LIMIT_US may be enabled under an FTTI. -/
def ageFits (ftti limit : Nat) : Bool := decide (limit + 1000 ≤ ftti * 1000)

/-- A write that a limit of R471 refuses: the register is unchanged and LIMIT is set. -/
def State.refuseLimit (s : State) (ag : Agent) (a : Nat) : State := (s.orReg Reg.CUF_FLAGS 16).refuseRule ag a

/-- R490: Cuff is quiescent while both pairs are in their stop state and LOCKED is clear. -/
def State.cuffQuiet (s : State) : Bool := s.fld Reg.CUF_STOP 0 2 == 3 && !s.bit Reg.CUF_STATE 2

/-- R471: a value of CUF_CFG that would break the rule for an enabled monitor, or an FTTI outside its range. -/
def State.cufCfgBad (s : State) (v : Nat) : Bool :=
  decide (v % 128 < 5) || decide (100 < v % 128) || (List.range 64).any (fun m =>
    s.bit (Reg.CUF_AGE_CFG m) 0 && !ageFits (v % 128) (s.fld (Reg.CUF_AGE_CFG m) 32 32))

/-- R471: a write of CUF_CFG; a bad value is refused. -/
def State.writeCufCfg (s : State) (ag : Agent) (v : Nat) : State :=
  if !s.cuffQuiet then s.refuseBusy ag Reg.CUF_CFG
  else if s.cufCfgBad v then s.refuseLimit ag Reg.CUF_CFG
  else s.storeReg Reg.CUF_CFG v

/-- R471, R481: a write of CUF_AGE_CFG. Enabling starts the age at zero. -/
def State.writeAgeCfg (s : State) (ag : Agent) (m v : Nat) : State :=
  let a := Reg.CUF_AGE_CFG m
  if !s.cuffQuiet then s.refuseBusy ag a
  else if v.testBit 0 && (decide (bits v 32 32 < 100) || !ageFits (s.fld Reg.CUF_CFG 0 7) (bits v 32 32)) then s.refuseLimit ag a
  else
    let was := s.bit a 0
    let s1 := s.storeReg a v
    if v.testBit 0 then
      if was then s1 else { s1 with cuff := { s1.cuff with ages := s1.cuff.ages.put m ⟨s1.now, false⟩ } }
    else { s1 with cuff := { s1.cuff with ages := s1.cuff.ages.drop m } }

/-- R478: a write of CUF_CHK_CFG. A region homed in flash refuses EN; enabling starts at the frame after both objects. -/
def State.writeChkCfg (s : State) (ag : Agent) (n v : Nat) : State :=
  let a := Reg.CUF_CHK_CFG n
  let len := bits v 1 15 * 64
  let flash := s.flashHomed (s.fld (Reg.CUF_CHK_ADDR_A n) 0 48) len || s.flashHomed (s.fld (Reg.CUF_CHK_ADDR_B n) 0 48) len
  if !s.cuffQuiet then s.refuseBusy ag a
  else if v.testBit 0 && (flash || len == 0 || decide (1048576 < len)) then s.refuseRule ag a
  else
    let was := s.bit a 0
    let s1 := s.storeReg a v
    if v.testBit 0 then
      if was then s1
      else
        let sy := s.regN (Reg.CUF_CHK_SYNC n)
        let v0 := Nat.max (s.regN (Reg.SYN_VALUE (bits sy 0 13))) (s.regN (Reg.SYN_VALUE (bits sy 16 13))) + 1
        { s1 with cuff := { s1.cuff with checks := s1.cuff.checks.put n ⟨v0, none, [], [], s1.now⟩ } }
    else { s1 with cuff := { s1.cuff with checks := s1.cuff.checks.drop n } }

/-- R473: a write of CUF_ACT: fixed bits read 1. -/
def State.writeAct (s : State) (ag : Agent) (k v : Nat) : State :=
  if s.cuffQuiet then s.storeReg (Reg.CUF_ACT k) (v ||| classFixed k) else s.refuseBusy ag (Reg.CUF_ACT k)

/-- R490: LOCK with its key. -/
def State.lockCuff (s : State) (ag : Agent) (key : Nat) : State :=
  if key = 0x4C4B then s.orReg Reg.CUF_STATE 4 else s.refuseRule ag Reg.CUF_CTRL

/-- R490: a write of CUF_CTRL: LOCK, CAPTURE_NOW, CAP_ARM. -/
def State.writeCufCtrl (s : State) (ag : Agent) (v : Nat) : State :=
  let s1 := if v.testBit 0 then s.lockCuff ag (bits v 48 16) else s
  let s2 := if v.testBit 1 then s1.capture 1 s1.now else s1
  if v.testBit 2 then s2.orReg Reg.CUF_CAP_SRC 8 else s2

/-- LOCK (R490). -/
def execLock (key : BitVec 16) (s : State) : Host.Outcome State Fault Refusal :=
  done s (s.powered (fun u => u.lockCuff software key.toNat))

/-- CAPTURE_NOW (R488). -/
def execCaptureNow (s : State) : Host.Outcome State Fault Refusal := done s (s.powered (fun u => u.capture 1 u.now))

/-- CAP_ARM (R488). -/
def execCapArm (s : State) : Host.Outcome State Fault Refusal := done s (s.powered (fun u => u.orReg Reg.CUF_CAP_SRC 8))

/-! ## Redundant results (R478, R479) -/

/-- The first value from `v` on that an object took, with its time and units. -/
def firstFrom (xs : List (Nat × Nat × List Nat)) (v : Nat) : Option (Nat × Nat × List Nat) := xs.find? (fun x => decide (v ≤ x.1))

/-- The units of the signal that gave an object the value `v`, or the first one past it. -/
def unitsOf (xs : List (Nat × Nat × List Nat)) (v : Nat) : List Nat := ((firstFrom xs v).map (fun x => x.2.2)).getD []

/-- Whether an object ever held `v`. -/
def everHeld (xs : List (Nat × Nat × List Nat)) (v : Nat) : Bool := xs.any (fun x => x.1 == v)

/-- R478, R479: after every decision of frame `v`: SET v to SYNC_DONE; the channel goes on with the next frame, and an open
disagreement closes after 1,000 frames. -/
def State.nextFrameOf (s : State) (n : Nat) (c : CheckCh) (v : Nat) : State :=
  let s1 := s.signal ⟨s.fld (Reg.CUF_CHK_SYNC n) 48 13, 1, v⟩ []
  let opened := match c.opened with
    | some o => if o + 1000 ≤ v then none else some o
    | none => none
  let past := match s1.cuff.checks.find n with
    | some c1 => c1
    | none => c
  let next : CheckCh := ⟨v + 1, opened, past.seenA.filter (fun x => decide (v < x.1)),
    past.seenB.filter (fun x => decide (v < x.1)), s1.now⟩
  { s1 with cuff := { s1.cuff with checks := s1.cuff.checks.put n next } }

/-- R478: a match of frame v. -/
def State.checkMatch (s : State) (n : Nat) (c : CheckCh) : State :=
  let s1 := (s.signal ⟨s.fld (Reg.CUF_CHK_SYNC n) 32 13, 1, c.v⟩ []).bump (Reg.CUF_CHK_CNT_MATCH n)
  (s1.validResult 1 n).nextFrameOf n c c.v

/-- R479: a disagreement in frame v: the record; the first tests the units of both sides, a second within 1,000 frames
quarantines them. DETAIL is v for every disagreement (DEDUCED, log entry 71). -/
def State.checkDisagree (s : State) (n : Nat) (c : CheckCh) : State :=
  let us := unitsOf c.seenA c.v ++ (unitsOf c.seenB c.v).filter (fun u => !(unitsOf c.seenA c.v).contains u)
  let s1 := (s.bump (Reg.CUF_CHK_CNT_DISAGREE n)).bump Reg.CUF_CNT_MISMATCH
  let s2 := s1.record 2 13 0x0A 0x73 none 0xFFFF c.v
  match c.opened with
  | none => (each us (fun t u => t.startTest u) s2).nextFrameOf n { c with opened := some c.v } c.v
  | some _ => (each us (fun t u => t.quarantine u 0) s2).nextFrameOf n c c.v

/-- R478: frames up to and with `last` were produced by neither side: they count as absent. -/
def State.checkAbsent (s : State) (n : Nat) (c : CheckCh) (last : Nat) : State :=
  (s.add (Reg.CUF_CHK_CNT_ABSENT n) (last + 1 - c.v)).nextFrameOf n c last

/-- R478: whether two regions are byte for byte equal; a region that is not mapped differs (DEDUCED, log entry 71). -/
def State.regionsEqual (s : State) (n : Nat) : Bool :=
  let a := s.fld (Reg.CUF_CHK_ADDR_A n) 0 48
  let b := s.fld (Reg.CUF_CHK_ADDR_B n) 0 48
  let len := s.fld (Reg.CUF_CHK_CFG n) 1 15 * 64
  (pagesOf a len ++ pagesOf b len).all (fun pg => (s.page pg).isSome) && s.peek a len == s.peek b len

/-- The present values of a channel's two objects. -/
def State.checkValues (s : State) (n : Nat) : Nat × Nat :=
  let sy := s.regN (Reg.CUF_CHK_SYNC n)
  (s.regN (Reg.SYN_VALUE (bits sy 0 13)), s.regN (Reg.SYN_VALUE (bits sy 16 13)))

/-- R478: the comparison of frame v ends, or is found overtaken, common or skipped. Nothing is decided before both objects have
reached v or one that held v has passed it. Frames that neither side produced are skipped together. -/
def State.checkCompare (s : State) (n : Nat) : State :=
  match s.cuff.checks.find n with
  | none => s
  | some c =>
    let (a, b) := s.checkValues n
    let held := everHeld c.seenA c.v || everHeld c.seenB c.v
    let past := decide (c.v < a) && decide (c.v < b)
    let ahead := decide (c.v < a) || decide (c.v < b)
    if s.cuff.checkerRun = some 0 then s
    else if past && !held then
      let least (xs : List (Nat × Nat × List Nat)) (m : Nat) : Nat := match firstFrom xs c.v with
        | some x => Nat.min m x.1
        | none => m
      s.checkAbsent n c (least c.seenB (least c.seenA (Nat.min a b)) - 1)
    else if ahead && held then s.checkDisagree n c
    else if a = c.v ∧ b = c.v then
      if (unitsOf c.seenA c.v).any (fun u => (unitsOf c.seenB c.v).contains u) then
        (s.record 1 13 0 0x73 none 0xFFFF 3).nextFrameOf n c c.v
      else if s.regionsEqual n then s.checkMatch n c
      else s.checkDisagree n c
    else s

/-- CHECK_COMPARE_DONE (R478). -/
def execCheckCompareDone (n : Fin 64) (s : State) : Host.Outcome State Fault Refusal :=
  done s (s.work (fun u => u.checkCompare n.val))

/-- R478: one object reached v and the other has not SKEW_US later. -/
def State.checkSkew (s : State) (n : Nat) : State :=
  match s.cuff.checks.find n with
  | none => s
  | some c =>
    let (a, b) := s.checkValues n
    let since := match firstFrom c.seenA c.v, firstFrom c.seenB c.v with
      | some x, none => some x.2.1
      | none, some x => some x.2.1
      | _, _ => none
    match since with
    | none => s
    | some t =>
      if (c.v ≤ a) ≠ (c.v ≤ b) ∧ t + s.fld (Reg.CUF_CHK_CFG n) 16 16 * 1000 ≤ s.now then s.checkDisagree n c else s

/-- CHECK_SKEW (R478). -/
def execCheckSkew (n : Fin 64) (s : State) : Host.Outcome State Fault Refusal := done s (s.work (fun u => u.checkSkew n.val))

/-- R478: neither object has reached v FRAME_US after the previous decision. -/
def State.checkTimeout (s : State) (n : Nat) : State :=
  match s.cuff.checks.find n with
  | none => s
  | some c =>
    let (a, b) := s.checkValues n
    let us := s.fld (Reg.CUF_CHK_CFG n) 32 16
    if us ≠ 0 ∧ a < c.v ∧ b < c.v ∧ c.decided + us * 1000 ≤ s.now then s.checkAbsent n c c.v else s

/-- CHECK_ABSENT (R478). -/
def execCheckAbsent (n : Fin 64) (s : State) : Host.Outcome State Fault Refusal := done s (s.work (fun u => u.checkTimeout n.val))

/-- R490: what CUF_CHK_STATE shows. -/
def State.chkState (s : State) (n : Nat) : Nat :=
  match s.cuff.checks.find n with
  | none => 0
  | some c =>
    let low (xs : List Nat) : Nat := match xs with
      | [] => 0
      | x :: r => r.foldl Nat.min x
    c.v % 2 ^ 32 + low (unitsOf c.seenA c.v) % 256 * 2 ^ 32 + low (unitsOf c.seenB c.v) % 256 * 2 ^ 40 +
    (match c.opened with | some o => 2 ^ 48 + clampNat 0 32767 (c.v - o) * 2 ^ 49 | none => 0)

/-! ## Age monitors (R481) -/

/-- R481: an age passes its limit: the monitor expires and its pairs stop. -/
def State.ageExpiry (s : State) (m : Nat) : State :=
  match s.cuff.ages.find m with
  | none => s
  | some x =>
    let cfg := s.regN (Reg.CUF_AGE_CFG m)
    if x.expired || !cfg.testBit 0 || decide (s.now - x.last ≤ bits cfg 32 32 * 1000) then s
    else
      let s1 := { s with cuff := { s.cuff with ages := s.cuff.ages.put m { x with expired := true } } }
      (s1.stopPairs (bits cfg 1 2)).record 2 15 0 0x73 none m 0

/-- AGE_EXPIRY (R481). -/
def execAgeExpiry (m : Fin 64) (s : State) : Host.Outcome State Fault Refusal := done s (s.powered (fun u => u.ageExpiry m.val))

/-- R490: what CUF_AGE_STATE shows: the age in µs, saturating, and EXPIRED. -/
def State.ageState (s : State) (m : Nat) : Nat :=
  match s.cuff.ages.find m with
  | none => 0
  | some x => clampNat 0 (2 ^ 32 - 1) ((s.now - x.last) / 1000) + b2n x.expired * 2 ^ 32

/-! ## Self-test (R482 to R486) -/

/-- The kind of a unit: 0 Gauntlet, 1 Mitten, 2 Knuckle, 3 Gusset, 4 planner. -/
def testKind (unit : Nat) : Nat :=
  if unit < 0x40 then 0 else if unit < 0x84 then 1 else if unit < 0x88 then 2 else if unit < 0x8A then 3 else 4

/-- The deferral counter of a kind. -/
def deferReg (kind : Nat) : Nat :=
  if kind = 0 then Reg.CUF_CNT_DEFER_GNT else if kind = 1 then Reg.CUF_CNT_DEFER_MTN
  else if kind = 2 then Reg.CUF_CNT_DEFER_KNK else if kind = 3 then Reg.CUF_CNT_DEFER_GUS else Reg.CUF_CNT_DEFER_PCU

/-- R483: a slot of the active table that is open or in its lead claims unit bit `k`. -/
def State.slotHolds (s : State) (k : Nat) : Bool := (s.que.open_ ++ s.que.lead).any (fun n => s.slotClaims n k)

/-- R483: a slice of `ns` nanoseconds ends before the lead of the next slot that claims unit bit `k`. -/
def State.endsBefore (s : State) (k ns : Nat) : Bool :=
  match s.nextLeadOf k with
  | none => true
  | some t => decide (ns < t)

/-- R483: the slack rules: whether a slice may start on a unit now. A Gauntlet takes it between tiles, where best-effort work
that holds it costs 8 µs of pre-emption and swap. -/
def State.sliceMay (s : State) (unit : Nat) : Bool :=
  let k := testKind unit
  if k = 0 then
    let g := s.gntOf (unit - 0x10)
    g.tile.isNone && !s.slotHolds (unit - 0x10) && s.endsBefore (unit - 0x10) (if g.owner.isSome then 16000 else 8000)
  else if k = 1 then s.fld (Reg.MTN_STATE (unit - 0x40)) 0 2 == 0
  else if k = 2 then
    (s.readyLoops (unit - 0x84)).isEmpty && (s.knk.runs.find (unit - 0x84)).isNone &&
    (match (s.selfTest unit).last with | none => true | some t => decide (t + 50000 ≤ s.now))
  else if k = 3 then
    (s.gus.jobs.find (unit - 0x88)).isNone && !s.slotHolds (16 + (unit - 0x88)) && s.endsBefore (16 + (unit - 0x88)) 40000
  else s.pcu.turn.isNone

/-- R482, R483, R485: a slice starts on a unit, or is put off and counted. Slices of a targeted test come first; a quarantined
unit is tested only by CUF_RETEST. The first slice of a periodic test begins it. -/
def State.sliceStart (s : State) (unit : Nat) : State :=
  let t := s.selfTest unit
  if fullSlices unit = 0 ∨ t.running ∨ (s.quarantined unit ∧ !t.retest) ∨ s.fld Reg.CUF_STATE 0 2 ≠ 2 then s
  else if s.sliceMay unit then
    let began := if t.done = 0 ∧ t.target = 0 then s.now else t.began
    s.setSelfTest unit { t with running := true, last := some s.now, began := began }
  else (s.orReg Reg.CUF_FLAGS 2).bump (deferReg (testKind unit))

/-- SELFTEST_SLICE (R483). -/
def execSelftestSlice (unit : Fin 256) (s : State) : Host.Outcome State Fault Refusal :=
  done s (s.work (fun u => u.sliceStart unit.val))

/-- R480: a retest passed: the quarantine bit clears and an info record is sent. -/
def State.retestPassed (s : State) (unit : Nat) : State :=
  if s.quarantined unit then
    (s.setFld (Reg.CUF_QUAR (unit / 64)) (unit % 64) 1 0).record 0 14 0 0x73 none unit 0
  else s

/-- R482, R485: a slice ends. A wrong answer sends a SELFTEST record, whose action quarantines the unit; a right one counts
for the targeted test, or for the periodic test, which starts again once it is full; the next one's interval runs from its start. -/
def State.sliceDone (s : State) (unit : Nat) (pass : Bool) : State :=
  let t := s.selfTest unit
  if !t.running then s
  else if !pass then
    ((s.setSelfTest unit { t with running := false, target := 0, retest := false }).record 2 19 0 0x73 none unit 0)
  else if 0 < t.target then
    let t1 := { t with running := false, target := t.target - 1, retest := t.retest && decide (1 < t.target) }
    let s1 := s.setSelfTest unit t1
    if t.target = 1 ∧ t.retest then s1.retestPassed unit else s1
  else if t.done + 1 < fullSlices unit then s.setSelfTest unit { t with running := false, done := t.done + 1 }
  else s.setSelfTest unit { t with running := false, done := 0, started := t.began, warned := false }

/-- SELFTEST_SLICE_DONE (R482). -/
def execSelftestSliceDone (unit : Fin 256) (pass : Bool) (s : State) : Host.Outcome State Fault Refusal :=
  done s (s.work (fun u => if (u.selfTest unit.val).running then
    (u.sliceDone unit.val pass).setReg Reg.CUF_CNT_SLICE (s.reg Reg.CUF_CNT_SLICE + 1) else u))

/-- R484: the full test of a unit still has slices to run, and this share (in tenths) of the interval has passed. -/
def State.coverageLate (s : State) (unit tenths : Nat) : Bool :=
  let t := s.selfTest unit
  fullSlices unit != 0 && !s.quarantined unit && s.fld Reg.CUF_STATE 0 2 == 2 &&
  decide (t.started + s.fld Reg.CUF_CFG 16 16 * 100000 * tenths ≤ s.now)

/-- R484: at 90 % of the interval: one COVERAGE record and the flag. -/
def State.coverageWarn (s : State) (unit : Nat) : State :=
  if s.coverageLate unit 9 && !(s.selfTest unit).warned then
    let s1 := (s.setSelfTest unit { (s.selfTest unit) with warned := true }).orReg Reg.CUF_FLAGS 4
    (s1.record 2 18 0 0x73 none 0xFFFF 0).setReg Reg.CUF_CNT_COVERAGE (s.reg Reg.CUF_CNT_COVERAGE + 1)
  else s

/-- COVERAGE_WARNING (R484). -/
def execCoverageWarning (unit : Fin 256) (s : State) : Host.Outcome State Fault Refusal :=
  done s (s.work (fun u => u.coverageWarn unit.val))

/-- COVERAGE_EXPIRY (R484): the unit is quarantined with DETAIL 4. -/
def execCoverageExpiry (unit : Fin 256) (s : State) : Host.Outcome State Fault Refusal :=
  done s (s.work (fun u => if u.coverageLate unit.val 10 then u.quarantine unit.val 4 else u))

/-- The units that have a self-test (R482). -/
def testedUnits : List Nat := (List.range 256).filter (fun u => fullSlices u != 0)

/-- R486: the start-up test ends: units that fail are quarantined and CUF_STATE reads READY. -/
def State.startupDone (s : State) (failed : List Nat) : State :=
  if s.fld Reg.CUF_STATE 0 2 ≠ 1 then s
  else
    let s1 := each testedUnits (fun t u =>
      t.setSelfTest u { (t.selfTest u) with done := 0, started := t.now, warned := false }) s
    let s2 := each (failed.filter (fun u => fullSlices u != 0)) (fun t u => t.quarantine u 0) s1
    if s2.inSafe then s2 else s2.setFld Reg.CUF_STATE 0 2 2

/-- STARTUP_TEST_DONE (R486). -/
def execStartupTestDone (failed : List (Fin 256)) (s : State) : Host.Outcome State Fault Refusal :=
  done s (s.work (fun u => u.startupDone (failed.map (·.val))))

/-- R480: a GO write to CUF_RETEST runs a full self-test of the unit. -/
def State.retest (s : State) (unit : Nat) : State :=
  if fullSlices unit = 0 then s
  else s.setSelfTest unit { (s.selfTest unit) with target := fullSlices unit, retest := true }

/-- CUF_RETEST (R480). -/
def execCufRetest (unit : Fin 256) (s : State) : Host.Outcome State Fault Refusal :=
  done s (s.work (fun u => u.retest unit.val))

/-! ## Checker tests (R487) -/

/-- R487: a known mismatch is injected into the next checker of the rotation. -/
def State.checkerTest (s : State) : State :=
  if s.cuff.checkerRun.isSome then s
  else { s with cuff := { s.cuff with checkerRun := some s.cuff.checker, checker := (s.cuff.checker + 1) % 12 } }

/-- CHECKER_TEST (R487). -/
def execCheckerTest (s : State) : Host.Outcome State Fault Refusal :=
  done s (s.powered (fun u => if u.cuff.checkerRun.isSome then u else
    u.checkerTest.setReg Reg.CUF_CNT_CHECKER_RUN (s.reg Reg.CUF_CNT_CHECKER_RUN + 1)))

/-- R487: a checker that did not detect its mismatch sends a fatal record with its number. -/
def State.checkerResult (s : State) (detected : Bool) : State :=
  match s.cuff.checkerRun with
  | none => s
  | some k =>
    let s1 := { s with cuff := { s.cuff with checkerRun := none } }
    if detected then s1 else s1.record 3 20 0 0x73 none k 0

/-- CHECKER_RESULT (R487). -/
def execCheckerResult (detected : Bool) (s : State) : Host.Outcome State Fault Refusal :=
  done s (s.powered (fun u => u.checkerResult detected))

end Sys2Proof.Machine
end

