-- ==== Sys2Proof/Machine/RvFp.lean ====
section
/-! DEFINITION. IEEE 754 operations of the Fingers (R139): five rounding modes, exception flags, canonical NaNs. The
instruction set's own rules are the RISC-V standard's (PRESUMED, log entry 36): 06_fingers_and_mittens.md names the
extensions. -/

namespace Sys2Proof.Machine

/-- NV, DZ, OF, UF and NX of fflags. -/
def fNV : Nat := 16
/-- Divide by zero. -/
def fDZ : Nat := 8
/-- Overflow. -/
def fOF : Nat := 4
/-- Underflow. -/
def fUF : Nat := 2
/-- Inexact. -/
def fNX : Nat := 1

/-- m × 2^e as a whole multiple of 2^q by rounding mode (0 RNE, 1 RTZ, 2 RDN, 3 RUP, 4 RMM, 5 to odd), and whether it is inexact. -/
def rvCut (rm : Nat) (neg : Bool) (m : Nat) (e q : Int) : Nat × Bool :=
  if q ≤ e then (m <<< (e - q).toNat, false)
  else
    let sh := (q - e).toNat
    let k := m >>> sh
    let rem := m % 2 ^ sh
    let up := if rm = 0 then decide (2 ^ sh < 2 * rem) || (2 * rem == 2 ^ sh && k % 2 == 1)
      else if rm = 2 then neg && rem != 0
      else if rm = 3 then !neg && rem != 0
      else if rm = 4 then decide (2 ^ sh ≤ 2 * rem)
      else if rm = 5 then rem != 0 && k % 2 == 0
      else false
    (if up then k + 1 else k, rem != 0)

/-- Code and flags of a value in a format under a rounding mode; underflow is detected after rounding. -/
def rvEnc (f : FpFmt) (rm : Nat) (v : FV) : Nat × Nat :=
  match v with
  | .nan => (f.nanOut, 0)
  | .inf n => (f.infOut + b2n n * 2 ^ (f.eb + f.mb), 0)
  | .fin n m e =>
    let sign := b2n n * 2 ^ (f.eb + f.mb)
    if m = 0 then (sign, 0)
    else
      let qmin : Int := 1 - (f.bias : Int) - f.mb
      let qf : Int := (m.log2 : Int) + e - f.mb
      let q := if qf < qmin then qmin else qf
      let (k, nx) := rvCut rm n m e q
      let mag := (q - qmin).toNat * 2 ^ f.mb + k
      if f.infOut ≤ mag then
        let toInf := rm == 0 || rm == 4 || (rm == 2 && n) || (rm == 3 && !n)
        (sign + (if toInf then f.infOut else f.maxCode), fOF + fNX)
      else
        let kf := (rvCut rm n m e qf).1
        let top : Int := qf + f.mb + (if kf = 2 ^ (f.mb + 1) then 1 else 0)
        let tiny := decide (top < 1 - (f.bias : Int))
        (sign + mag, if nx then (if tiny then fUF + fNX else fNX) else 0)

/-- A signalling NaN. -/
def FpFmt.snan (f : FpFmt) (w : Nat) : Bool := (f.dec w).isNan && !w.testBit (f.mb - 1)

/-- NV for signalling NaN operands. -/
def nvOf (f : FpFmt) (xs : List Nat) : Nat := if xs.any f.snan then fNV else 0

/-- The sum with the zero sign of the rounding mode: an exact zero from operands of unlike sign is −0 only in RDN. -/
def rvAddV (rm : Nat) (a b : FV) : FV :=
  match a.add b with
  | .fin n m e => if m = 0 then .fin (if a.isNeg = b.isNeg then a.isNeg else rm == 2) 0 e else .fin n m e
  | v => v

/-- Addition. -/
def rvAdd (f : FpFmt) (rm a b : Nat) : Nat × Nat :=
  let x := f.dec a
  let y := f.dec b
  let r := rvEnc f rm (rvAddV rm x y)
  (r.1, r.2 ||| nvOf f [a, b] ||| (if (x.add y).isNan && !x.isNan && !y.isNan then fNV else 0))

/-- Sign flip of a code. -/
def rvNeg (f : FpFmt) (a : Nat) : Nat := a ^^^ 2 ^ (f.eb + f.mb)

/-- Subtraction. -/
def rvSub (f : FpFmt) (rm a b : Nat) : Nat × Nat :=
  let r := rvAdd f rm a (rvNeg f b)
  (r.1, r.2 ||| nvOf f [a, b])

/-- Multiplication. -/
def rvMul (f : FpFmt) (rm a b : Nat) : Nat × Nat :=
  let x := f.dec a
  let y := f.dec b
  let r := rvEnc f rm (x.mul y)
  (r.1, r.2 ||| nvOf f [a, b] ||| (if (x.mul y).isNan && !x.isNan && !y.isNan then fNV else 0))

/-- Division. -/
def rvDiv (f : FpFmt) (rm a b : Nat) : Nat × Nat :=
  let x := f.dec a
  let y := f.dec b
  let r := rvEnc f rm (x.div y)
  (r.1, r.2 ||| nvOf f [a, b] ||| (if (x.div y).isNan && !x.isNan && !y.isNan then fNV else 0) |||
    (if y.isZero && x.isFin && !x.isZero then fDZ else 0))

/-- Square root. -/
def rvSqrt (f : FpFmt) (rm a : Nat) : Nat × Nat :=
  let x := f.dec a
  let r := rvEnc f rm x.sqrt
  (r.1, r.2 ||| nvOf f [a] ||| (if x.sqrt.isNan && !x.isNan then fNV else 0))

/-- a × b + c with one rounding. `f` is the format of `a` and `b`, `g` that of `c` and of the result. -/
def rvFma (f g : FpFmt) (rm a b c : Nat) : Nat × Nat :=
  let x := f.dec a
  let y := f.dec b
  let z := g.dec c
  let p := x.mul y
  let s := rvAddV rm p z
  let bad := (p.isNan && !x.isNan && !y.isNan) || (s.isNan && !p.isNan && !z.isNan)
  let r := rvEnc g rm s
  (r.1, r.2 ||| nvOf f [a, b] ||| nvOf g [c] ||| (if bad then fNV else 0))

/-- fmin and fmax: the other operand for one NaN, −0 below +0. -/
def rvMinMax (f : FpFmt) (wantMax : Bool) (a b : Nat) : Nat × Nat :=
  let x := f.dec a
  let y := f.dec b
  let less := FV.lt x y || (x.isZero && y.isZero && x.isNeg && !y.isNeg)
  let r := if x.isNan && y.isNan then f.nanOut else if x.isNan then b else if y.isNan then a
    else if less == wantMax then b else a
  (r, nvOf f [a, b])

/-- Comparisons: 0 le, 1 lt, 2 eq; lt and le raise NV for any NaN, eq for a signalling one. -/
def rvCmp (f : FpFmt) (op a b : Nat) : Nat × Nat :=
  let x := f.dec a
  let y := f.dec b
  let nan := x.isNan || y.isNan
  let r := if op = 0 then FV.le x y else if op = 1 then FV.lt x y else !nan && !FV.lt x y && !FV.lt y x
  (b2n r, if op = 2 then nvOf f [a, b] else if nan then fNV else 0)

/-- fclass. -/
def rvClass (f : FpFmt) (a : Nat) : Nat :=
  let neg := a.testBit (f.eb + f.mb)
  match f.dec a with
  | .nan => if f.snan a then 256 else 512
  | .inf n => if n then 1 else 128
  | .fin _ m _ =>
    if m = 0 then (if neg then 8 else 16)
    else if bits a f.mb f.eb = 0 then (if neg then 4 else 32)
    else (if neg then 2 else 64)

/-- Conversion to an integer of `w` bits, saturating; NaN gives the largest value. -/
def rvToInt (f : FpFmt) (rm : Nat) (isSigned : Bool) (w a : Nat) : Nat × Nat :=
  let lo : Int := if isSigned then -((2 ^ (w - 1) : Nat) : Int) else 0
  let hi : Int := if isSigned then ((2 ^ (w - 1) : Nat) : Int) - 1 else ((2 ^ w : Nat) : Int) - 1
  match f.dec a with
  | .nan => (codeOf w hi, fNV)
  | .inf n => (codeOf w (if n then lo else hi), fNV)
  | .fin n m e =>
    let (k, nx) := rvCut rm n m e 0
    let i := smant n k
    if i < lo then (codeOf w lo, fNV) else if hi < i then (codeOf w hi, fNV) else (codeOf w i, if nx then fNX else 0)

/-- Conversion from an integer. -/
def rvOfInt (f : FpFmt) (rm : Nat) (i : Int) : Nat × Nat := rvEnc f rm (FV.ofInt i 0)

/-- Conversion between formats. -/
def rvConvert (f g : FpFmt) (rm a : Nat) : Nat × Nat :=
  let r := rvEnc g rm (f.dec a)
  (r.1, r.2 ||| nvOf f [a])

/-- Sign injection: 0 copy, 1 negated, 2 xor. -/
def rvSgnj (f : FpFmt) (op a b : Nat) : Nat :=
  let k := f.eb + f.mb
  let s := if op = 0 then b.testBit k else if op = 1 then !b.testBit k else a.testBit k != b.testBit k
  bits a 0 k + b2n s * 2 ^ k

/-- The 7-bit reciprocal estimate of vfrec7: the standard's table holds the reciprocal of each interval's middle. -/
def rvRec7 (f : FpFmt) (rm a : Nat) : Nat × Nat :=
  match f.dec a with
  | .nan => (f.nanOut, nvOf f [a])
  | .inf n => (b2n n * 2 ^ (f.eb + f.mb), 0)
  | .fin n m e =>
    let sign := b2n n * 2 ^ (f.eb + f.mb)
    if m = 0 then (sign + f.infOut, fDZ)
    else
      let top : Int := (m.log2 : Int) + e
      let sig := bits (m * 2 ^ 7 / 2 ^ m.log2) 0 7
      let den := 256 + 2 * sig + 1
      let y := (512 * 128 * 2 + den) / (2 * den)
      let outExp : Int := -top - 1
      if (f.bias : Int) < top + 1 ∧ outExp < -(f.bias : Int) - 1 then (sign, fUF)
      else if top < -(f.bias : Int) - 1 then
        (sign + (if rm = 1 ∨ (rm = 2 ∧ n = false) ∨ (rm = 3 ∧ n) then f.maxCode else f.infOut), fOF + fNX)
      else
        let mag := (rvCut 1 n y (outExp - 7) (1 - (f.bias : Int) - f.mb)).1
        let q : Int := outExp - f.mb
        let qmin : Int := 1 - (f.bias : Int) - f.mb
        if q < qmin then (sign + mag, 0)
        else (sign + (q - qmin).toNat * 2 ^ f.mb + (y <<< (f.mb - 7)), 0)

/-- The 7-bit reciprocal square-root estimate of vfrsqrt7. -/
def rvRsqrt7 (f : FpFmt) (a : Nat) : Nat × Nat :=
  match f.dec a with
  | .nan => (f.nanOut, nvOf f [a])
  | .inf n => if n then (f.nanOut, fNV) else (0, 0)
  | .fin n m e =>
    if m = 0 then (b2n n * 2 ^ (f.eb + f.mb) + f.infOut, fDZ)
    else if n then (f.nanOut, fNV)
    else
      let top : Int := (m.log2 : Int) + e
      let sig6 := bits (m * 2 ^ 6 / 2 ^ m.log2) 0 6
      let odd := top % 2 != 0
      let mid := FV.fin false ((128 + 2 * sig6 + 1) * (if odd then 2 else 1)) (-7)
      let half : Int := (top - (if odd then 1 else 0)) / 2
      let y := match mid.rsqrt with
        | .fin _ m' e' => (rvCut 0 false m' e' (-8)).1
        | _ => 0
      let outExp : Int := -half - 1
      (((outExp + f.bias).toNat) * 2 ^ f.mb + (y - 128) * 2 ^ (f.mb - 7), 0)

end Sys2Proof.Machine
end

