-- ==== Sys2Proof/Machine/FngMem.lean ====
section
/-! DEFINITION. What a Finger addresses (R141, R142): the address map, loads, stores and atomics with the faults they raise,
reservations (R151), and what a block transfer in progress leaves unspecified (R160). -/

namespace Sys2Proof.Machine

/-- Result of one Finger operation: the machine with the Finger's own new state, or a trap with its cause and, where the spec
gives one, its TVAL (R161). -/
inductive FngRes where
  | ok (t : State) (x : Finger)
  | trap (t : State) (cause : Nat) (tval : Option Nat)

/-- Result of one memory access: a value, or the cause of a trap at an address. -/
inductive MemRes where
  | val (t : State) (v : Nat)
  | bad (t : State) (cause addr : Nat)

/-! ## Fingers -/

/-- A Finger in no launch. -/
def Finger.idle : Finger :=
  { launch := 0, run := 0, pc := 0, x := [], fr := [], v := [], csr := [], resv := none, inbox := [], tickets := [],
    wait := .none, retired := 0 }

/-- Finger `f`. -/
def State.fngOf (s : State) (f : Nat) : Finger := (s.fingers.find f).getD Finger.idle

/-- Replace Finger `f`. -/
def State.putFng (s : State) (f : Nat) (x : Finger) : State := { s with fingers := s.fingers.put f x }

/-- Palm of a Finger. -/
def palmOf (f : Nat) : Nat := f / 1024

/-- Mitten of a Finger, counted over the device. -/
def mittenOf (f : Nat) : Nat := f / 64

/-- Integer register `i`; x0 reads zero. -/
def Finger.getX (x : Finger) (i : Nat) : Nat := if i = 0 then 0 else (nth 0 x.x i).toNat

/-- Write integer register `i`; a write of x0 is discarded. -/
def Finger.setX (x : Finger) (i v : Nat) : Finger := if i = 0 then x else { x with x := x.x.set i (BitVec.ofNat 32 v) }

/-- The instruction retires: pc moves past its `n` bytes. -/
def Finger.adv (x : Finger) (n : Nat) : Finger := { x with pc := (x.pc + n) % 2 ^ 32, retired := x.retired + 1 }

/-! ## The address map (R141) -/

/-- The store that holds an address (1 local data, 2 Mitten shared, 3 Palm scratch, 4 argument block), its place there, and
the bytes from it to the end of what the Finger sees. -/
def fngPlace (l : Launch) (f a : Nat) : Option (Nat × Nat × Nat) :=
  if 0x00010000 ≤ a ∧ a < 0x00018000 then some (1, f * 0x8000 + (a - 0x10000), 0x18000 - a)
  else if 0x01000000 ≤ a ∧ a < 0x01000000 + l.shared then
    some (2, mittenOf f * 0x200000 + (a - 0x01000000), 0x01000000 + l.shared - a)
  else if 0x20000000 + l.scrOff ≤ a ∧ a < 0x20000000 + l.scrOff + l.scrBytes then
    some (3, palmOf f * 0x4000000 + (a - 0x20000000), 0x20000000 + l.scrOff + l.scrBytes - a)
  else if 0xF0000000 ≤ a ∧ a < 0xF0000000 + l.arg.length then some (4, a - 0xF0000000, 0xF0000000 + l.arg.length - a)
  else none

/-- One byte of a store. -/
def State.spaceByte (s : State) (l : Launch) (sp k : Nat) : Byte :=
  if sp = 1 then Memory.byte s.lmem k else if sp = 2 then Memory.byte s.smem k
  else if sp = 3 then Memory.byte s.scr k else nth 0 l.arg k

/-- Write bytes of a store. -/
def State.spaceWrite (s : State) (sp k : Nat) (bs : Bytes) : State :=
  if sp = 1 then { s with lmem := Memory.write s.lmem k bs }
  else if sp = 2 then { s with smem := Memory.write s.smem k bs }
  else { s with scr := Memory.write s.scr k bs }

/-- R160: a byte lies in the LOC region of a transfer in progress. -/
def Finger.busyAt (x : Finger) (sp k : Nat) : Bool :=
  x.tickets.any (fun t => match t with
    | some y => y.space == sp && decide (y.key ≤ k) && decide (k < y.key + y.bytes)
    | none => false)

/-- R160: the byte is unspecified to loads. -/
def State.busyAt (s : State) (sp k : Nat) : Bool :=
  s.fingers.any (fun e => match e.2 with
    | some x => x.busyAt sp k
    | none => false)

/-- The bytes that a load returns: free where a transfer is in progress. -/
def State.spaceRead (s : State) (l : Launch) (sp k n : Nat) : Bytes :=
  tab n (fun i => if s.busyAt sp (k + i) then Config.freeByte (s.fresh + i) else s.spaceByte l sp (k + i))

/-- Apply a change to every Finger. -/
def State.mapFng (s : State) (g : Nat → Finger → Finger) : State :=
  { s with fingers := s.fingers.map (fun e => (e.1, e.2.map (g e.1))) }

/-- R160: a store of `n` bytes into the LOC region of a transfer: what it places in a write transfer is unspecified, and
what a read transfer leaves there is not settled by the spec, so it is marked. -/
def Transfer.touched (y : Transfer) (sp k n fresh : Nat) : Transfer :=
  if y.space = sp ∧ y.key < k + n ∧ k < y.key + y.bytes then
    { y with data := (List.range n).foldl (fun d i =>
        if y.key ≤ k + i ∧ k + i < y.key + y.bytes then
          (padTo y.bytes d).set (k + i - y.key) (if y.write then Config.freeByte (fresh + i) else 1)
        else d) y.data }
  else y

/-- R151: another Finger's reservation on a word of the bytes is lost. -/
def Finger.unreserve (x : Finger) (sp k n : Nat) : Finger :=
  match x.resv with
  | none => x
  | some (rs, rk) => if rs = sp ∧ rk < k + n ∧ k < rk + 4 then { x with resv := none } else x

/-- Bytes of a store change by the hand of Finger `f`: other Fingers' reservations on them are lost, and transfers in progress
over them are touched. -/
def State.spaceStore (s : State) (f sp k : Nat) (bs : Bytes) : State :=
  let s1 := (s.spaceWrite sp k bs).mapFng (fun g x =>
    let y := { x with tickets := x.tickets.map (fun t => t.map (fun u => u.touched sp k bs.length s.fresh)) }
    if g = f then y else y.unreserve sp k bs.length)
  s1.freshN bs.length

/-- R141, R142: a load of `n` bytes that is naturally aligned to `al`. -/
def State.fload (s : State) (l : Launch) (f a n al : Nat) : MemRes :=
  match fngPlace l f a with
  | none => .bad s 5 a
  | some (sp, k, room) =>
    if sp ≠ 1 ∧ a % al ≠ 0 then .bad s 4 a
    else if room < n then .bad s 5 a
    else .val (s.freshN n) (leNat (s.spaceRead l sp k n))

/-- R141, R142: a store of `n` bytes that is naturally aligned to `al`. -/
def State.fstore (s : State) (l : Launch) (f a n al v : Nat) : MemRes :=
  match fngPlace l f a with
  | none => .bad s 7 a
  | some (sp, k, room) =>
    if sp = 4 then .bad s 7 a
    else if sp ≠ 1 ∧ a % al ≠ 0 then .bad s 6 a
    else if room < n then .bad s 7 a
    else .val (s.spaceStore f sp k (natLE n v)) 0

/-- The Finger after an operation that may have touched its own transfers. -/
def Finger.withTickets (x : Finger) (s : State) (f : Nat) : Finger := { x with tickets := (s.fngOf f).tickets }

/-- R142, R151: an atomic on the aligned word at `a`: the old value goes to rd and `g` of it is stored. It ends the Finger's
reservation. -/
def State.fatomic (s : State) (l : Launch) (f : Nat) (x : Finger) (a rd len : Nat) (g : Nat → Option Nat) : FngRes :=
  match fngPlace l f a with
  | none => .trap s 7 (some a)
  | some (sp, k, _) =>
    if sp = 4 then .trap s 7 (some a)
    else if a % 4 ≠ 0 then .trap s 6 (some a)
    else
      let old := leNat (s.spaceRead l sp k 4)
      let s1 := s.freshN 4
      let s2 := match g old with
        | some v => s1.spaceStore f sp k (natLE 4 v)
        | none => s1
      .ok s2 ((({ x with resv := none }).withTickets s2 f).setX rd old |>.adv len)

/-- R151: LR loads the aligned word and reserves it. -/
def State.loadReservedOp (s : State) (l : Launch) (f : Nat) (x : Finger) (rd rs1 len : Nat) : FngRes :=
  let a := x.getX rs1
  match fngPlace l f a with
  | none => .trap s 5 (some a)
  | some (sp, k, _) =>
    if sp = 4 then .trap s 5 (some a)
    else if a % 4 ≠ 0 then .trap s 4 (some a)
    else .ok (s.freshN 4) ((({ x with resv := some (sp, k) }).setX rd (leNat (s.spaceRead l sp k 4))).adv len)

/-- R151: SC stores and writes 0 if the reservation on the word holds, and writes 1 otherwise; either way it ends the
reservation. -/
def State.storeCondOp (s : State) (l : Launch) (f : Nat) (x : Finger) (rd rs1 rs2 len : Nat) : FngRes :=
  let a := x.getX rs1
  match fngPlace l f a with
  | none => .trap s 7 (some a)
  | some (sp, k, _) =>
    if sp = 4 then .trap s 7 (some a)
    else if a % 4 ≠ 0 then .trap s 6 (some a)
    else if x.resv = some (sp, k) then
      let s1 := s.spaceStore f sp k (natLE 4 (x.getX rs2))
      .ok s1 (((({ x with resv := none }).withTickets s1 f).setX rd 0).adv len)
    else .ok s ((({ x with resv := none }).setX rd 1).adv len)

/-- The standard AMOs on a word (PRESUMED, log entry 36). -/
def amoVal (op : AmoOp) (m r : Nat) : Nat :=
  match op with
  | .swap => r
  | .add => (m + r) % 2 ^ 32
  | .xor => m ^^^ r
  | .and => m &&& r
  | .or => m ||| r
  | .min => if signed 32 r < signed 32 m then r else m
  | .max => if signed 32 m < signed 32 r then r else m
  | .minu => if r < m then r else m
  | .maxu => if m < r then r else m

/-! ## Floating point: XF atomics (R152) -/

/-- Round-to-nearest-even FP32 sum. -/
def xfAddF (m r : Nat) : Nat := (rvAdd fp32 0 m r).1

/-- R152, R139: fmin.s or fmax.s. -/
def xfMinMax (wantMax : Bool) (m r : Nat) : Nat := (rvMinMax fp32 wantMax m r).1

/-- R152: the sums of the FP16 halves. -/
def xfAddH2 (m r : Nat) : Nat :=
  (rvAdd fp16 0 (m % 65536) (r % 65536)).1 + (rvAdd fp16 0 (m / 65536) (r / 65536)).1 * 65536

end Sys2Proof.Machine
end

