-- ==== Sys2Proof/Machine/RvBase.lean ====
section
/-! DEFINITION. The scalar instructions of a Finger (R138): RV32IMAFC, Zicsr, Zicntr and Zfh. The encodings and effects of the
standard instructions are the RISC-V standard's (PRESUMED, log entry 36); `len` is the length of the instruction in bytes. -/

namespace Sys2Proof.Machine

/-! ## Control and status registers -/

/-- What a control and status register reads as at the start of a launch: vtype has vill set (R148); misa, mstatus and vlenb as
the extensions of R138 make them (PRESUMED, log entry 36). -/
def csrReset (n : Nat) : Nat :=
  if n = 0x300 then 0x80007E00 else if n = 0x301 then 0x40801125 else if n = 0xC21 then 0x80000000
  else if n = 0xC22 then 16 else 0

/-- A control and status register's stored value. -/
def Finger.csrN (x : Finger) (n : Nat) : Nat := SMap.get csrReset x.csr n

/-- Store a control and status register. -/
def Finger.setCsr (x : Finger) (n v : Nat) : Finger := { x with csr := SMap.set csrReset x.csr n (v % 2 ^ 32) }

/-- Raise fflags. -/
def Finger.raise (x : Finger) (fl : Nat) : Finger := if fl = 0 then x else x.setCsr 1 (x.csrN 1 ||| fl)

/-- A free value of the Finger's own, a function of all that its program can see of it (R163). -/
def Finger.free (x : Finger) (i : Nat) : BitVec 64 :=
  Config.fngFree ([x.pc, x.retired] ++ x.x.map (·.toNat) ++ x.fr.map (·.toNat) ++ x.v.map (·.toNat) ++
    x.csr.flatMap (fun e => [e.1, e.2])) i

/-- The control and status registers that exist. -/
def csrExists (n : Nat) : Bool :=
  [0x001, 0x002, 0x003, 0x008, 0x009, 0x00A, 0x00F, 0x300, 0x301, 0x304, 0x305, 0x310, 0x320, 0x340, 0x341, 0x342, 0x343,
   0x344, 0xB00, 0xB02, 0xB80, 0xB82, 0xC00, 0xC01, 0xC02, 0xC20, 0xC21, 0xC22, 0xC80, 0xC81, 0xC82, 0xF11, 0xF12, 0xF13,
   0xF14, 0xF15].contains n

/-- Read a control and status register. cycle is a free value (log entry 40), time TB0 in nanoseconds, instret the
instructions retired (06_fingers_and_mittens.md, after R140). -/
def State.csrRead (s : State) (x : Finger) (n : Nat) : Nat :=
  if n = 3 then x.csrN 1 + x.csrN 2 * 32
  else if n = 0x00F then x.csrN 9 + x.csrN 0x00A * 2
  else if n = 0xC00 ∨ n = 0xB00 ∨ n = 0xC80 ∨ n = 0xB80 then (Config.freeWord s.fresh).toNat % 2 ^ 32
  else if n = 0xC01 then s.now % 2 ^ 32
  else if n = 0xC81 then s.now / 2 ^ 32
  else if n = 0xC02 ∨ n = 0xB02 then x.retired % 2 ^ 32
  else if n = 0xC82 ∨ n = 0xB82 then x.retired / 2 ^ 32 % 2 ^ 32
  else x.csrN n

/-- Write a control and status register; fields that are fixed keep their value. -/
def Finger.csrWrite (x : Finger) (n v : Nat) : Finger :=
  if n = 1 then x.setCsr 1 (v % 32)
  else if n = 2 then x.setCsr 2 (v % 8)
  else if n = 3 then (x.setCsr 1 (v % 32)).setCsr 2 (bits v 5 3)
  else if n = 8 then x.setCsr 8 (v % 128)
  else if n = 9 then x.setCsr 9 (v % 2)
  else if n = 0x00A then x.setCsr 0x00A (v % 4)
  else if n = 0x00F then (x.setCsr 9 (v % 2)).setCsr 0x00A (bits v 1 2)
  else if n = 0x300 then x.setCsr 0x300 (0x80007E00 ||| (v &&& 0x88))
  else if n = 0x301 ∨ n = 0x310 ∨ n = 0xB00 ∨ n = 0xB80 then x
  else if n = 0x341 then x.setCsr 0x341 (v - v % 2)
  else if n = 0xB02 then { x with retired := putBits x.retired 0 32 v }
  else if n = 0xB82 then { x with retired := putBits x.retired 32 32 v }
  else x.setCsr n v

/-- CSRRW, CSRRS, CSRRC and their immediate forms. -/
def State.rvCsr (s : State) (x : Finger) (w : Nat) : FngRes :=
  let n := bits w 20 12
  let f3 := bits w 12 3
  let rs1 := bits w 15 5
  let src := if f3 < 4 then x.getX rs1 else rs1
  let writes := f3 % 4 == 1 || rs1 != 0
  if !csrExists n || (writes && n / 1024 == 3) then .trap s 2 (some w)
  else
    let old := s.csrRead x n
    let new := if f3 % 4 = 1 then src else if f3 % 4 = 2 then old ||| src else old - (old &&& src)
    let x1 := if writes then x.csrWrite n new else x
    let cnt := writes && (n == 0xB02 || n == 0xB82)
    let x2 := x1.setX (bits w 7 5) old
    .ok (s.freshN 1) { x2 with pc := (x.pc + 4) % 2 ^ 32, retired := if cnt then x1.retired else x.retired + 1 }

/-! ## Integer instructions -/

/-- Immediates of the base formats. -/
def immI (w : Nat) : Int := signed 12 (w / 2 ^ 20)
/-- S-type immediate. -/
def immS (w : Nat) : Int := signed 12 (bits w 7 5 + bits w 25 7 * 32)
/-- B-type immediate. -/
def immB (w : Nat) : Int := signed 13 (bits w 8 4 * 2 + bits w 25 6 * 32 + bits w 7 1 * 2048 + bits w 31 1 * 4096)
/-- J-type immediate. -/
def immJ (w : Nat) : Int := signed 21 (bits w 21 10 * 2 + bits w 20 1 * 2048 + bits w 12 8 * 4096 + bits w 31 1 * 2 ^ 20)

/-- A 32-bit sum with a signed offset. -/
def addOff (a : Nat) (i : Int) : Nat := codeOf 32 ((a : Int) + i)

/-- OP and OP-IMM operations; `alt` selects SUB and SRA. -/
def aluOp (f3 : Nat) (alt : Bool) (a b : Nat) : Nat :=
  match f3 with
  | 0 => if alt then (a + 2 ^ 32 - b) % 2 ^ 32 else (a + b) % 2 ^ 32
  | 1 => (a <<< (b % 32)) % 2 ^ 32
  | 2 => b2n (decide (signed 32 a < signed 32 b))
  | 3 => b2n (decide (a < b))
  | 4 => a ^^^ b
  | 5 => if alt then codeOf 32 (signed 32 a / ((2 ^ (b % 32) : Nat) : Int)) else a >>> (b % 32)
  | 6 => a ||| b
  | _ => a &&& b

/-- The M extension. -/
def mulOp (f3 a b : Nat) : Nat :=
  let sa := signed 32 a
  let sb := signed 32 b
  match f3 with
  | 0 => codeOf 32 (sa * sb)
  | 1 => codeOf 32 (sa * sb / ((2 ^ 32 : Nat) : Int))
  | 2 => codeOf 32 (sa * (b : Int) / ((2 ^ 32 : Nat) : Int))
  | 3 => a * b / 2 ^ 32
  | 4 => if b = 0 then 2 ^ 32 - 1 else codeOf 32 (Int.tdiv sa sb)
  | 5 => if b = 0 then 2 ^ 32 - 1 else a / b
  | 6 => if b = 0 then a else codeOf 32 (Int.tmod sa sb)
  | _ => if b = 0 then a else a % b

/-- Branch conditions; none for an unassigned code. -/
def branchTaken (f3 a b : Nat) : Option Bool :=
  match f3 with
  | 0 => some (a == b)
  | 1 => some (a != b)
  | 4 => some (decide (signed 32 a < signed 32 b))
  | 5 => some (decide (signed 32 b ≤ signed 32 a))
  | 6 => some (decide (a < b))
  | 7 => some (decide (b ≤ a))
  | _ => none

/-- Scalar loads. -/
def State.rvLoad (s : State) (l : Launch) (f : Nat) (x : Finger) (f3 rd a len w : Nat) : FngRes :=
  let n := if f3 % 4 = 0 then 1 else if f3 % 4 = 1 then 2 else 4
  if f3 = 3 ∨ 5 < f3 then .trap s 2 (some w)
  else match s.fload l f a n n with
    | .bad t c ad => .trap t c (some ad)
    | .val t v =>
      let r := if f3 < 4 then codeOf 32 (signed (8 * n) v) else v
      .ok t ((x.setX rd r).adv len)

/-- Scalar stores of the low `n` bytes of a value. -/
def State.rvStore (s : State) (l : Launch) (f : Nat) (x : Finger) (n a v len : Nat) : FngRes :=
  match s.fstore l f a n n v with
  | .bad t c ad => .trap t c (some ad)
  | .val t _ => .ok t ((x.withTickets t f).adv len)

/-! ## Floating point -/

/-- Register `i` as FP32. -/
def Finger.getF (x : Finger) (i : Nat) : Nat := (nth 0 x.fr i).toNat

/-- Write an FP32 code. -/
def Finger.setF (x : Finger) (i v : Nat) : Finger := { x with fr := x.fr.set i (BitVec.ofNat 32 v) }

/-- Register `i` as FP16: a value that is not NaN-boxed reads as the canonical NaN. -/
def Finger.getH (x : Finger) (i : Nat) : Nat :=
  let v := x.getF i
  if v / 65536 = 0xFFFF then v % 65536 else 0x7E00

/-- Write an FP16 code, NaN-boxed. -/
def Finger.setH (x : Finger) (i v : Nat) : Finger := x.setF i (0xFFFF0000 + v % 65536)

/-- Format of an fmt field: 0 FP32, 2 FP16. -/
def rvFmt (c : Nat) : Option FpFmt := if c = 0 then some fp32 else if c = 2 then some fp16 else none

/-- Read in a format. -/
def Finger.getFmt (x : Finger) (c i : Nat) : Nat := if c = 2 then x.getH i else x.getF i

/-- Write in a format. -/
def Finger.setFmt (x : Finger) (c i v : Nat) : Finger := if c = 2 then x.setH i v else x.setF i v

/-- R139: the rounding mode that the instruction or frm selects. -/
def Finger.rmOf (x : Finger) (rm : Nat) : Option Nat :=
  let m := if rm = 7 then x.csrN 2 else rm
  if m ≤ 4 then some m else none

/-- The fused multiply-adds: opcodes 0x43 FMADD, 0x47 FMSUB, 0x4B FNMSUB, 0x4F FNMADD. -/
def State.rvFused (s : State) (x : Finger) (w : Nat) : FngRes :=
  let c := bits w 25 2
  match rvFmt c, x.rmOf (bits w 12 3) with
  | some f, some rm =>
    let op := w % 128
    let a := x.getFmt c (bits w 15 5)
    let a1 := if op = 0x4B ∨ op = 0x4F then rvNeg f a else a
    let d := x.getFmt c (bits w 27 5)
    let d1 := if op = 0x47 ∨ op = 0x4F then rvNeg f d else d
    let r := rvFma f f rm a1 (x.getFmt c (bits w 20 5)) d1
    .ok s (((x.setFmt c (bits w 7 5) r.1).raise r.2).adv 4)
  | _, _ => .trap s 2 (some w)

/-- OP-FP in FP32 and FP16 (F and Zfh). -/
def State.rvOpFp (s : State) (x : Finger) (w : Nat) : FngRes :=
  let c := bits w 25 2
  let f5 := bits w 27 5
  let f3 := bits w 12 3
  let rs2 := bits w 20 5
  let rd := bits w 7 5
  let ill : FngRes := .trap s 2 (some w)
  match rvFmt c with
  | none => ill
  | some f =>
    let a := x.getFmt c (bits w 15 5)
    let b := x.getFmt c rs2
    let toF (r : Nat × Nat) : FngRes := .ok s (((x.setFmt c rd r.1).raise r.2).adv 4)
    let toX (r : Nat × Nat) : FngRes := .ok s (((x.setX rd r.1).raise r.2).adv 4)
    let rounded (g : Nat → FngRes) : FngRes := match x.rmOf f3 with
      | some m => g m
      | none => ill
    if f5 = 0 then rounded (fun m => toF (rvAdd f m a b))
    else if f5 = 1 then rounded (fun m => toF (rvSub f m a b))
    else if f5 = 2 then rounded (fun m => toF (rvMul f m a b))
    else if f5 = 3 then rounded (fun m => toF (rvDiv f m a b))
    else if f5 = 0x0B then (if rs2 = 0 then rounded (fun m => toF (rvSqrt f m a)) else ill)
    else if f5 = 4 then (if f3 < 3 then toF (rvSgnj f f3 a b, 0) else ill)
    else if f5 = 5 then (if f3 < 2 then toF (rvMinMax f (f3 == 1) a b) else ill)
    else if f5 = 0x14 then (if f3 < 3 then toX (rvCmp f f3 a b) else ill)
    else if f5 = 0x18 then (if rs2 < 2 then rounded (fun m => toX (rvToInt f m (rs2 == 0) 32 a)) else ill)
    else if f5 = 0x1A then
      (if rs2 < 2 then rounded (fun m =>
        let v := x.getX (bits w 15 5)
        toF (rvOfInt f m (if rs2 = 0 then signed 32 v else (v : Int)))) else ill)
    else if f5 = 8 then
      (if (c = 0 ∧ rs2 = 2) ∨ (c = 2 ∧ rs2 = 0) then
        let g := if c = 0 then fp16 else fp32
        rounded (fun m => toF (rvConvert g f m (x.getFmt rs2 (bits w 15 5))))
      else ill)
    else if f5 = 0x1C then
      (if rs2 ≠ 0 then ill
       else if f3 = 0 then toX (if c = 2 then codeOf 32 (signed 16 (x.getF (bits w 15 5))) else a, 0)
       else if f3 = 1 then toX (rvClass f a, 0)
       else ill)
    else if f5 = 0x1E then (if rs2 = 0 ∧ f3 = 0 then toF (x.getX (bits w 15 5), 0) else ill)
    else ill

/-! ## Compressed instructions (C) -/

/-- I-type word. -/
def encI (op f3 rd rs1 imm : Nat) : Nat := op + rd * 2 ^ 7 + f3 * 2 ^ 12 + rs1 * 2 ^ 15 + (imm % 2 ^ 12) * 2 ^ 20
/-- R-type word. -/
def encR (op f3 f7 rd rs1 rs2 : Nat) : Nat := op + rd * 2 ^ 7 + f3 * 2 ^ 12 + rs1 * 2 ^ 15 + rs2 * 2 ^ 20 + f7 * 2 ^ 25
/-- S-type word. -/
def encS (op f3 rs1 rs2 imm : Nat) : Nat :=
  op + (imm % 32) * 2 ^ 7 + f3 * 2 ^ 12 + rs1 * 2 ^ 15 + rs2 * 2 ^ 20 + bits imm 5 7 * 2 ^ 25
/-- B-type word. -/
def encB (f3 rs1 rs2 imm : Nat) : Nat :=
  0x63 + bits imm 11 1 * 2 ^ 7 + bits imm 1 4 * 2 ^ 8 + f3 * 2 ^ 12 + rs1 * 2 ^ 15 + rs2 * 2 ^ 20 + bits imm 5 6 * 2 ^ 25 +
  bits imm 12 1 * 2 ^ 31
/-- J-type word. -/
def encJ (rd imm : Nat) : Nat :=
  0x6F + rd * 2 ^ 7 + bits imm 12 8 * 2 ^ 12 + bits imm 11 1 * 2 ^ 20 + bits imm 1 10 * 2 ^ 21 + bits imm 20 1 * 2 ^ 31

/-- The 32-bit instruction that a 16-bit encoding stands for, none where it is unassigned or reserved. -/
def expand16 (h : Nat) : Option Nat :=
  let q := h % 4
  let f3 := bits h 13 3
  let rdp := 8 + bits h 2 3
  let rsp := 8 + bits h 7 3
  let rd := bits h 7 5
  let rs2 := bits h 2 5
  let imm6 := codeOf 32 (signed 6 (bits h 2 5 + bits h 12 1 * 32))
  let immW := bits h 10 3 * 8 + bits h 6 1 * 4 + bits h 5 1 * 64
  let jImm := codeOf 32 (signed 12 (bits h 3 3 * 2 + bits h 11 1 * 16 + bits h 2 1 * 32 + bits h 7 1 * 64 + bits h 6 1 * 128 +
    bits h 9 2 * 256 + bits h 8 1 * 1024 + bits h 12 1 * 2048))
  let bImm := codeOf 32 (signed 9 (bits h 3 2 * 2 + bits h 10 2 * 8 + bits h 2 1 * 32 + bits h 5 2 * 64 + bits h 12 1 * 256))
  if q = 0 then
    if f3 = 0 then
      let imm := bits h 11 2 * 16 + bits h 7 4 * 64 + bits h 6 1 * 4 + bits h 5 1 * 8
      if imm = 0 then none else some (encI 0x13 0 rdp 2 imm)
    else if f3 = 2 then some (encI 0x03 2 rdp rsp immW)
    else if f3 = 3 then some (encI 0x07 2 rdp rsp immW)
    else if f3 = 6 then some (encS 0x23 2 rsp rdp immW)
    else if f3 = 7 then some (encS 0x27 2 rsp rdp immW)
    else none
  else if q = 1 then
    if f3 = 0 then some (encI 0x13 0 rd rd imm6)
    else if f3 = 1 then some (encJ 1 jImm)
    else if f3 = 2 then some (encI 0x13 0 rd 0 imm6)
    else if f3 = 3 then
      if rd = 2 then
        let i := codeOf 32 (signed 10 (bits h 6 1 * 16 + bits h 2 1 * 32 + bits h 5 1 * 64 + bits h 3 2 * 128 + bits h 12 1 * 512))
        if i = 0 then none else some (encI 0x13 0 2 2 i)
      else if imm6 = 0 then none
      else some (0x37 + rd * 2 ^ 7 + (imm6 % 2 ^ 20) * 2 ^ 12)
    else if f3 = 4 then
      let k := bits h 10 2
      if k = 0 then (if h.testBit 12 then none else some (encI 0x13 5 rsp rsp (bits h 2 5)))
      else if k = 1 then (if h.testBit 12 then none else some (encI 0x13 5 rsp rsp (bits h 2 5 + 0x400)))
      else if k = 2 then some (encI 0x13 7 rsp rsp imm6)
      else if h.testBit 12 then none
      else
        let op := bits h 5 2
        some (if op = 0 then encR 0x33 0 0x20 rsp rsp rdp else if op = 1 then encR 0x33 4 0 rsp rsp rdp
              else if op = 2 then encR 0x33 6 0 rsp rsp rdp else encR 0x33 7 0 rsp rsp rdp)
    else if f3 = 5 then some (encJ 0 jImm)
    else if f3 = 6 then some (encB 0 rsp 0 bImm)
    else some (encB 1 rsp 0 bImm)
  else if q = 2 then
    let lw := bits h 4 3 * 4 + bits h 12 1 * 32 + bits h 2 2 * 64
    let sw := bits h 9 4 * 4 + bits h 7 2 * 64
    if f3 = 0 then (if h.testBit 12 then none else some (encI 0x13 1 rd rd (bits h 2 5)))
    else if f3 = 2 then (if rd = 0 then none else some (encI 0x03 2 rd 2 lw))
    else if f3 = 3 then some (encI 0x07 2 rd 2 lw)
    else if f3 = 4 then
      if h.testBit 12 then
        (if rs2 = 0 then (if rd = 0 then some 0x00100073 else some (encI 0x67 0 1 rd 0)) else some (encR 0x33 0 0 rd rd rs2))
      else if rs2 = 0 then (if rd = 0 then none else some (encI 0x67 0 0 rd 0))
      else some (encR 0x33 0 0 rd 0 rs2)
    else if f3 = 6 then some (encS 0x23 2 2 rs2 sw)
    else if f3 = 7 then some (encS 0x27 2 2 rs2 sw)
    else none
  else none

/-! ## Fetch -/

/-- One byte of instruction memory: the program, then bytes that the spec does not state (free values, log entry 41), the same
for the same program (R163). -/
def Launch.codeByte (l : Launch) (i : Nat) : Byte :=
  if i < l.code.length then nth 0 l.code i else (Config.fngFree (l.code.map (·.toNat)) i).setWidth 8

/-- R138, R141, R161: fetch at pc: a word and its length, or a trap's cause. A 16-bit encoding that stands for no
instruction is given as it is, which no opcode matches. -/
def Launch.fetchWord (l : Launch) (pc : Nat) : (Nat × Nat) ⊕ Nat :=
  if pc % 2 = 1 then .inr 0
  else if 0x4000 ≤ pc then .inr 1
  else
    let h := (l.codeByte pc).toNat + (l.codeByte (pc + 1)).toNat * 256
    if h % 4 ≠ 3 then .inl ((expand16 h).getD h, 2)
    else if 0x4000 ≤ pc + 2 then .inr 1
    else .inl (h + (l.codeByte (pc + 2)).toNat * 2 ^ 16 + (l.codeByte (pc + 3)).toNat * 2 ^ 24, 4)

/-- SYSTEM instructions other than Zicsr: ECALL and EBREAK trap (R161), MRET and WFI as machine mode has them. -/
def State.rvSystem (s : State) (x : Finger) (w : Nat) : FngRes :=
  if w = 0x00000073 then .trap s 0x0B none
  else if w = 0x00100073 then .trap s 3 (some x.pc)
  else if w = 0x30200073 then
    let st := x.csrN 0x300
    let x1 := x.setCsr 0x300 (putBits (putBits st 3 1 (bits st 7 1)) 7 1 1)
    .ok s { x1 with pc := x.csrN 0x341, retired := x.retired + 1 }
  else if w = 0x10500073 then .ok s (x.adv 4)
  else .trap s 2 (some w)

/-- The standard AMO of an AMO word, none for another one. -/
def amoOf (f5 : Nat) : Option AmoOp :=
  if f5 = 1 then some .swap else if f5 = 0 then some .add else if f5 = 4 then some .xor else if f5 = 0x0C then some .and
  else if f5 = 8 then some .or else if f5 = 0x10 then some .min else if f5 = 0x14 then some .max
  else if f5 = 0x18 then some .minu else if f5 = 0x1C then some .maxu else none

/-- The A extension. -/
def State.rvAmo (s : State) (l : Launch) (f : Nat) (x : Finger) (w : Nat) : FngRes :=
  let f5 := bits w 27 5
  let rd := bits w 7 5
  let rs1 := bits w 15 5
  let rs2 := bits w 20 5
  if bits w 12 3 ≠ 2 then .trap s 2 (some w)
  else if f5 = 2 then (if rs2 = 0 then s.loadReservedOp l f x rd rs1 4 else .trap s 2 (some w))
  else if f5 = 3 then s.storeCondOp l f x rd rs1 rs2 4
  else match amoOf f5 with
    | some op => s.fatomic l f x (x.getX rs1) rd 4 (fun m => some (amoVal op m (x.getX rs2)))
    | none => .trap s 2 (some w)

/-- Scalar instructions by major opcode; none for an opcode of another group. -/
def State.rvScalar (s : State) (l : Launch) (f : Nat) (x : Finger) (w len : Nat) : Option FngRes :=
  let op := w % 128
  let f3 := bits w 12 3
  let f7 := bits w 25 7
  let rd := bits w 7 5
  let a := x.getX (bits w 15 5)
  let b := x.getX (bits w 20 5)
  let ill : FngRes := .trap s 2 (some w)
  if op = 0x37 then some (.ok s ((x.setX rd (w - w % 4096)).adv len))
  else if op = 0x17 then some (.ok s ((x.setX rd ((x.pc + (w - w % 4096)) % 2 ^ 32)).adv len))
  else if op = 0x6F then
    some (.ok s { x.setX rd ((x.pc + len) % 2 ^ 32) with pc := addOff x.pc (immJ w), retired := x.retired + 1 })
  else if op = 0x67 then
    if f3 ≠ 0 then some ill
    else
      let t := addOff a (immI w)
      some (.ok s { x.setX rd ((x.pc + len) % 2 ^ 32) with pc := t - t % 2, retired := x.retired + 1 })
  else if op = 0x63 then
    match branchTaken f3 a b with
    | none => some ill
    | some t => some (.ok s (if t then { x with pc := addOff x.pc (immB w), retired := x.retired + 1 } else x.adv len))
  else if op = 0x03 then some (s.rvLoad l f x f3 rd (addOff a (immI w)) len w)
  else if op = 0x23 then
    if 2 < f3 then some ill else some (s.rvStore l f x (2 ^ f3) (addOff a (immS w)) b len)
  else if op = 0x13 then
    if (f3 = 1 ∧ f7 ≠ 0) ∨ (f3 = 5 ∧ f7 ≠ 0 ∧ f7 ≠ 0x20) then some ill
    else some (.ok s ((x.setX rd (aluOp f3 (f3 == 5 && f7 == 0x20) a (codeOf 32 (immI w)))).adv len))
  else if op = 0x33 then
    if f7 = 1 then some (.ok s ((x.setX rd (mulOp f3 a b)).adv len))
    else if f7 = 0 ∨ (f7 = 0x20 ∧ (f3 = 0 ∨ f3 = 5)) then some (.ok s ((x.setX rd (aluOp f3 (f7 == 0x20) a b)).adv len))
    else some ill
  else if op = 0x0F then some (if f3 < 2 then .ok s (x.adv len) else ill)
  else if op = 0x73 then some (if f3 = 0 then s.rvSystem x w else if f3 = 4 then ill else s.rvCsr x w)
  else if op = 0x2F then some (s.rvAmo l f x w)
  else if op = 0x43 ∨ op = 0x47 ∨ op = 0x4B ∨ op = 0x4F then some (s.rvFused x w)
  else if op = 0x53 then some (s.rvOpFp x w)
  else if op = 0x07 ∧ (f3 = 1 ∨ f3 = 2) then
    match s.fload l f (addOff a (immI w)) (2 * f3) (2 * f3) with
    | .bad t c ad => some (.trap t c (some ad))
    | .val t v => some (.ok t ((if f3 = 1 then x.setH rd v else x.setF rd v).adv len))
  else if op = 0x27 ∧ (f3 = 1 ∨ f3 = 2) then
    some (s.rvStore l f x (2 * f3) (addOff a (immS w)) (x.getF (bits w 20 5)) len)
  else none

end Sys2Proof.Machine
end

