-- ==== Sys2Proof/Machine/RvVector.lean ====
section
/-! DEFINITION. The vector instructions of a Finger (R138: Zve32f and Zvfh with VLEN = 128 and ELEN = 32), with the fixed
reduction order of R140. Encodings and effects are the RISC-V standard's (PRESUMED, log entry 36); an agnostic element keeps its
value or becomes all ones as a free value decides, a function of the Finger's own history (R163). -/

namespace Sys2Proof.Machine

/-! ## Elements -/

/-- Element `i` of width `w` bits in the group that starts at register `r`. -/
def Finger.getE (x : Finger) (r w i : Nat) : Nat :=
  bits (nth 0 x.v (r + i * w / 128)).toNat (i * w % 128) w

/-- Set one element. -/
def Finger.setE (x : Finger) (r w i val : Nat) : Finger :=
  let k := r + i * w / 128
  { x with v := x.v.set k (BitVec.ofNat 128 (putBits (nth 0 x.v k).toNat (i * w % 128) w val)) }

/-- Mask bit `i` of a register. -/
def Finger.maskAt (x : Finger) (r i : Nat) : Bool := (nth 0 x.v r).getLsbD i

/-- SEW of vtype. -/
def Finger.sew (x : Finger) : Nat := 8 * 2 ^ bits (x.csrN 0xC21) 3 3

/-- LMUL in eighths. -/
def lmul8 (c : Nat) : Nat := nth 0 [8, 16, 32, 64, 0, 1, 2, 4] c

/-- LMUL of vtype in eighths. -/
def Finger.lm8 (x : Finger) : Nat := lmul8 (bits (x.csrN 0xC21) 0 3)

/-- vl. -/
def Finger.vl (x : Finger) : Nat := x.csrN 0xC20

/-- Registers in a group of `m8` eighths. -/
def groupRegs (m8 : Nat) : Nat := if m8 ≤ 8 then 1 else m8 / 8

/-- A group of `m8` eighths may start at register `r`. -/
def groupOk (r m8 : Nat) : Bool := decide (1 ≤ m8) && decide (m8 ≤ 64) && decide (r % groupRegs m8 = 0)

/-- A group at `r` and one at `q` share a register. -/
def shareRegs (r m q n : Nat) : Bool := decide (r < q + groupRegs n) && decide (q < r + groupRegs m)

/-- A vector operand: first register, element width, group size in eighths. -/
structure VOperand where
  reg : Nat
  width : Nat
  m8 : Nat
  deriving DecidableEq, Repr

/-- A destination may overlap a source: not at all, with one element width, in the lowest registers of a wider source, or in its
own highest registers for a narrower whole-group source (the standard's rule, log entry 36). -/
def VOperand.overlapOk (d x : VOperand) : Bool :=
  !shareRegs d.reg d.m8 x.reg x.m8 || d.width == x.width || (decide (d.width < x.width) && d.reg == x.reg) ||
  (decide (x.width < d.width) && decide (8 ≤ x.m8) && d.reg + groupRegs d.m8 == x.reg + groupRegs x.m8)

/-- No register is read with two element widths. -/
def sourcesAgree (xs : List VOperand) : Bool :=
  xs.all (fun a => xs.all (fun b => a.width == b.width || !shareRegs a.reg a.m8 b.reg b.m8))

/-- The mask source of a masked instruction. -/
def maskSource (vm : Bool) : List VOperand := if vm then [] else [⟨0, 1, 8⟩]

/-- The overlap rules for a destination, sources and a mask. -/
def overlapsOk (vm : Bool) (d : VOperand) (xs : List VOperand) : Bool :=
  xs.all d.overlapOk && sourcesAgree (maskSource vm ++ xs)

/-- R138 by the standard: vtype after vset with a new value and application vector length; an unsupported vtype sets vill. -/
def vtypeLegal (t : Nat) : Bool :=
  let sew := 8 * 2 ^ bits t 3 3
  let m := lmul8 (bits t 0 3)
  t < 256 && decide (sew ≤ 32) && decide (1 ≤ m) && decide (sew ≤ 4 * m)

/-- vsetvli, vsetivli and vsetvl. Between VLMAX and 2 × VLMAX the standard leaves vl open, and it is a free value. -/
def State.rvVset (s : State) (x : Finger) (w : Nat) : FngRes :=
  let rd := bits w 7 5
  let rs1 := bits w 15 5
  let top := bits w 30 2
  let t := if top = 3 then bits w 20 10 else if w.testBit 31 then x.getX (bits w 20 5) else bits w 20 11
  if w.testBit 31 ∧ top ≠ 3 ∧ bits w 25 7 ≠ 0x40 then .trap s 2 (some w)
  else if !vtypeLegal t then
    .ok s (((((x.setCsr 0xC21 0x80000000).setCsr 0xC20 0).setCsr 8 0).setX rd 0).adv 4)
  else
    let vlmax := 16 * lmul8 (bits t 0 3) / (8 * 2 ^ bits t 3 3)
    let avl := if top = 3 then rs1 else if rs1 ≠ 0 then x.getX rs1 else if rd ≠ 0 then 2 ^ 32 - 1 else x.vl
    let lo := (avl + 1) / 2
    let vl := if avl ≤ vlmax then avl else if 2 * vlmax ≤ avl then vlmax
      else lo + (x.free 0).toNat % (vlmax + 1 - lo)
    .ok s (((((x.setCsr 0xC21 t).setCsr 0xC20 vl).setCsr 8 0).setX rd vl).adv 4)

/-- What element `i` of a destination becomes: 0 kept, 1 computed, 2 agnostic. -/
def Finger.role (x : Finger) (vm : Bool) (i : Nat) : Nat :=
  if i < x.csrN 8 then 0
  else if x.vl ≤ i then (if (x.csrN 0xC21).testBit 6 then 2 else 0)
  else if vm || x.maskAt 0 i then 1
  else if (x.csrN 0xC21).testBit 7 then 2 else 0

/-- Write a vector result of element width `wd`: element `i` becomes `g i` (value and flags; flag bit 5 is vxsat). Nothing is
written where vstart ≥ vl. -/
def State.vWrite (s : State) (x : Finger) (vd wd m8 : Nat) (vm : Bool) (g : Nat → Nat × Nat) : FngRes :=
  let n := Nat.max (16 * m8 / wd) (128 / wd)
  let x1 := if x.vl ≤ x.csrN 8 then x
    else (List.range n).foldl (fun y i =>
      let r := x.role vm i
      if r = 1 then
        let e := g i
        let y1 := (y.setE vd wd i e.1).raise (e.2 % 32)
        if 32 ≤ e.2 then y1.setCsr 9 1 else y1
      else if r = 2 ∧ (x.free i).getLsbD 0 then y.setE vd wd i (2 ^ wd - 1)
      else y) x
  .ok s ((x1.setCsr 8 0).adv 4)

/-- Write a mask result, whose tail is always agnostic. -/
def State.vWriteMask (s : State) (x : Finger) (vd : Nat) (vm : Bool) (g : Nat → Bool × Nat) : FngRes :=
  let x1 := if x.vl ≤ x.csrN 8 then x
    else (List.range 128).foldl (fun y i =>
      let r := if x.vl ≤ i then 2 else x.role vm i
      if r = 1 then
        let e := g i
        (y.setE vd 1 i (b2n e.1)).raise e.2
      else if r = 2 ∧ (x.free i).getLsbD 0 then y.setE vd 1 i 1
      else y) x
  .ok s ((x1.setCsr 8 0).adv 4)

/-- Write element 0 of a register, the rest being tail. -/
def State.vWrite0 (s : State) (x : Finger) (vd wd : Nat) (val : Nat × Nat) : FngRes :=
  let x1 := if x.vl ≤ x.csrN 8 then x
    else (List.range (128 / wd)).foldl (fun y i =>
      if i = 0 then (y.setE vd wd 0 val.1).raise val.2
      else if (x.csrN 0xC21).testBit 6 ∧ (x.free i).getLsbD 0 then y.setE vd wd i (2 ^ wd - 1)
      else y) x
  .ok s ((x1.setCsr 8 0).adv 4)

/-! ## Fixed-point rounding and saturation -/

/-- vxrm rounding of v ÷ 2^d. -/
def vxRound (rm : Nat) (v : Int) (d : Nat) : Int :=
  if d = 0 then v
  else
    let q := v / ((2 ^ d : Nat) : Int)
    let r := (v % ((2 ^ d : Nat) : Int)).toNat
    let half := r.testBit (d - 1)
    let low := r % 2 ^ (d - 1)
    let inc := if rm = 0 then half
      else if rm = 1 then half && (low != 0 || q % 2 != 0)
      else if rm = 2 then false
      else q % 2 == 0 && r != 0
    if inc then q + 1 else q

/-- Saturate to a width; flag bit 5 tells that it did. -/
def vSat (isSigned : Bool) (w : Nat) (v : Int) : Nat × Nat :=
  let lo : Int := if isSigned then -((2 ^ (w - 1) : Nat) : Int) else 0
  let hi : Int := if isSigned then ((2 ^ (w - 1) : Nat) : Int) - 1 else ((2 ^ w : Nat) : Int) - 1
  if v < lo then (codeOf w lo, 32) else if hi < v then (codeOf w hi, 32) else (codeOf w v, 0)

/-! ## Integer operations -/

/-- Lane operations of the OPI formats by funct6: `a` from vs2, `b` from vs1, rs1 or imm. -/
def viLane (f6 w rm a b : Nat) : Option (Nat × Nat) :=
  let sa := signed w a
  let sb := signed w b
  let sh := b % w
  if f6 = 0x00 then some (codeOf w (sa + sb), 0)
  else if f6 = 0x02 then some (codeOf w (sa - sb), 0)
  else if f6 = 0x03 then some (codeOf w (sb - sa), 0)
  else if f6 = 0x04 then some (Nat.min a b, 0)
  else if f6 = 0x05 then some (if sa < sb then a else b, 0)
  else if f6 = 0x06 then some (Nat.max a b, 0)
  else if f6 = 0x07 then some (if sa < sb then b else a, 0)
  else if f6 = 0x09 then some (a &&& b, 0)
  else if f6 = 0x0A then some (a ||| b, 0)
  else if f6 = 0x0B then some (a ^^^ b, 0)
  else if f6 = 0x20 then some (vSat false w ((a : Int) + b))
  else if f6 = 0x21 then some (vSat true w (sa + sb))
  else if f6 = 0x22 then some (vSat false w ((a : Int) - b))
  else if f6 = 0x23 then some (vSat true w (sa - sb))
  else if f6 = 0x25 then some (a <<< sh % 2 ^ w, 0)
  else if f6 = 0x27 then some (vSat true w (vxRound rm (sa * sb) (w - 1)))
  else if f6 = 0x28 then some (a >>> sh, 0)
  else if f6 = 0x29 then some (codeOf w (sa / ((2 ^ sh : Nat) : Int)), 0)
  else if f6 = 0x2A then some (codeOf w (vxRound rm (a : Int) sh), 0)
  else if f6 = 0x2B then some (codeOf w (vxRound rm sa sh), 0)
  else none

/-- Comparisons of the OPI formats. -/
def viCmp (f6 w a b : Nat) : Option Bool :=
  let sa := signed w a
  let sb := signed w b
  if f6 = 0x18 then some (a == b) else if f6 = 0x19 then some (a != b)
  else if f6 = 0x1A then some (decide (a < b)) else if f6 = 0x1B then some (decide (sa < sb))
  else if f6 = 0x1C then some (decide (a ≤ b)) else if f6 = 0x1D then some (decide (sa ≤ sb))
  else if f6 = 0x1E then some (decide (b < a)) else if f6 = 0x1F then some (decide (sb < sa)) else none

/-- Narrowing shifts and clips: `a` has width 2w. -/
def viNarrow (f6 w rm a b : Nat) : Option (Nat × Nat) :=
  let sa := signed (2 * w) a
  let sh := b % (2 * w)
  if f6 = 0x2C then some (a >>> sh % 2 ^ w, 0)
  else if f6 = 0x2D then some (codeOf w (sa / ((2 ^ sh : Nat) : Int)), 0)
  else if f6 = 0x2E then some (vSat false w (vxRound rm (a : Int) sh))
  else if f6 = 0x2F then some (vSat true w (vxRound rm sa sh))
  else none

/-- Lane operations of the OPM formats; `d` is the destination element. -/
def vmLane (f6 w rm d a b : Nat) : Option Nat :=
  let sa := signed w a
  let sb := signed w b
  let sd := signed w d
  if f6 = 0x08 then some (codeOf w (vxRound rm ((a : Int) + b) 1))
  else if f6 = 0x09 then some (codeOf w (vxRound rm (sa + sb) 1))
  else if f6 = 0x0A then some (codeOf w (vxRound rm ((a : Int) - b) 1))
  else if f6 = 0x0B then some (codeOf w (vxRound rm (sa - sb) 1))
  else if f6 = 0x20 then some (if b = 0 then 2 ^ w - 1 else a / b)
  else if f6 = 0x21 then some (if b = 0 then 2 ^ w - 1 else codeOf w (Int.tdiv sa sb))
  else if f6 = 0x22 then some (if b = 0 then a else a % b)
  else if f6 = 0x23 then some (if b = 0 then a else codeOf w (Int.tmod sa sb))
  else if f6 = 0x24 then some (a * b / 2 ^ w)
  else if f6 = 0x25 then some (codeOf w (sa * sb))
  else if f6 = 0x26 then some (codeOf w (sa * (b : Int) / ((2 ^ w : Nat) : Int)))
  else if f6 = 0x27 then some (codeOf w (sa * sb / ((2 ^ w : Nat) : Int)))
  else if f6 = 0x29 then some (codeOf w (sd * sb + sa))
  else if f6 = 0x2B then some (codeOf w (sa - sd * sb))
  else if f6 = 0x2D then some (codeOf w (sd + sa * sb))
  else if f6 = 0x2F then some (codeOf w (sd - sa * sb))
  else none

/-- Widening operations of the OPM formats from width `w` to 2w; `.w` forms (0x34 to 0x37) take `a` at 2w already. -/
def vmWiden (f6 w d a b : Nat) : Option Nat :=
  let w2 := 2 * w
  let sa := signed w a
  let sb := signed w b
  let sd := signed w2 d
  if f6 = 0x30 then some (codeOf w2 ((a : Int) + b))
  else if f6 = 0x31 then some (codeOf w2 (sa + sb))
  else if f6 = 0x32 then some (codeOf w2 ((a : Int) - b))
  else if f6 = 0x33 then some (codeOf w2 (sa - sb))
  else if f6 = 0x34 then some (codeOf w2 ((a : Int) + b))
  else if f6 = 0x35 then some (codeOf w2 (signed w2 a + sb))
  else if f6 = 0x36 then some (codeOf w2 ((a : Int) - b))
  else if f6 = 0x37 then some (codeOf w2 (signed w2 a - sb))
  else if f6 = 0x38 then some (a * b)
  else if f6 = 0x3A then some (codeOf w2 (sa * (b : Int)))
  else if f6 = 0x3B then some (codeOf w2 (sa * sb))
  else if f6 = 0x3C then some (codeOf w2 (sd + (a * b : Nat)))
  else if f6 = 0x3D then some (codeOf w2 (sd + sa * sb))
  else if f6 = 0x3E then some (codeOf w2 (sd + sa * (b : Int)))
  else if f6 = 0x3F then some (codeOf w2 (sd + (a : Int) * sb))
  else none

/-- Integer reductions. -/
def vRedOp (f6 w acc a : Nat) : Nat :=
  let sa := signed w a
  let sc := signed w acc
  match f6 with
  | 0 => (acc + a) % 2 ^ w
  | 1 => acc &&& a
  | 2 => acc ||| a
  | 3 => acc ^^^ a
  | 4 => Nat.min acc a
  | 5 => if sa < sc then a else acc
  | 6 => Nat.max acc a
  | _ => if sc < sa then a else acc

/-- The body elements that are active, in ascending order. -/
def Finger.active (x : Finger) (vm : Bool) : List Nat := (List.range x.vl).filter (fun i => vm || x.maskAt 0 i)

/-! ## The OPI formats -/

/-- A slide by `off` elements. -/
def State.vSlide (s : State) (x : Finger) (vd vs2 sew m8 : Nat) (vm up : Bool) (off : Nat) : FngRes :=
  let vlmax := 16 * m8 / sew
  if up then
    let x1 := if x.csrN 8 < off then x.setCsr 8 (Nat.min off x.vl) else x
    s.vWrite x1 vd sew m8 vm (fun i => (x.getE vs2 sew (i - off), 0))
  else s.vWrite x vd sew m8 vm (fun i => (if i + off < vlmax then x.getE vs2 sew (i + off) else 0, 0))

/-- OPIVV (form 0), OPIVI (3) and OPIVX (4). -/
def State.rvOpi (s : State) (x : Finger) (w form : Nat) : FngRes :=
  let f6 := bits w 26 6
  let vm := w.testBit 25
  let vs2 := bits w 20 5
  let s1 := bits w 15 5
  let vd := bits w 7 5
  let sew := x.sew
  let m8 := x.lm8
  let rm := x.csrN 0x00A
  let ill : FngRes := .trap s 2 (some w)
  let unsignedImm := f6 == 0x0C || f6 == 0x0E || f6 == 0x0F || f6 == 0x25 || (decide (0x28 ≤ f6) && decide (f6 ≤ 0x2F))
  let scalar := if form = 4 then x.getX s1 else if unsignedImm then s1 else codeOf 32 (signed 5 s1)
  let opB (i : Nat) : Nat := if form = 0 then x.getE s1 sew i else scalar % 2 ^ sew
  let vb : List VOperand := if form = 0 then [⟨s1, sew, m8⟩] else []
  let srcs : List VOperand := ⟨vs2, sew, m8⟩ :: vb
  let srcOk := groupOk vs2 m8 && (form != 0 || groupOk s1 m8) && sourcesAgree (maskSource vm ++ srcs)
  let dstOk := groupOk vd m8 && (vm || vd != 0)
  if f6 = 0x27 ∧ form = 3 then
    let nr := s1 + 1
    if vm ∧ (nr = 1 ∨ nr = 2 ∨ nr = 4 ∨ nr = 8) ∧ vd % nr = 0 ∧ vs2 % nr = 0 then
      let st := x.csrN 8
      let x1 := (List.range (nr * 16)).foldl (fun y i => if st ≤ i * 8 / sew then y.setE vd 8 i (x.getE vs2 8 i) else y) x
      .ok s ((x1.setCsr 8 0).adv 4)
    else ill
  else if 0x18 ≤ f6 ∧ f6 ≤ 0x1F then
    if !srcOk || (form == 3 && (f6 == 0x1A || f6 == 0x1B)) || (form == 0 && decide (0x1E ≤ f6)) ||
        !overlapsOk vm ⟨vd, 1, 8⟩ srcs then ill
    else s.vWriteMask x vd vm (fun i => ((viCmp f6 sew (x.getE vs2 sew i) (opB i)).getD false, 0))
  else if 0x10 ≤ f6 ∧ f6 ≤ 0x13 then
    if !srcOk || (form == 3 && decide (0x12 ≤ f6)) then ill
    else
      let carry (i : Nat) : Nat := if vm then 0 else b2n (x.maskAt 0 i)
      if f6 % 2 = 0 then
        if vm || !dstOk then ill
        else s.vWrite x vd sew m8 true (fun i =>
          let c := (carry i : Int)
          (codeOf sew (if f6 = 0x10 then (x.getE vs2 sew i : Int) + opB i + c else (x.getE vs2 sew i : Int) - opB i - c), 0))
      else if !overlapsOk vm ⟨vd, 1, 8⟩ srcs then ill
      else s.vWriteMask x vd true (fun i =>
        (if f6 = 0x11 then decide (2 ^ sew ≤ x.getE vs2 sew i + opB i + carry i)
         else decide (x.getE vs2 sew i < opB i + carry i), 0))
  else if f6 = 0x17 then
    if !dstOk || (form == 0 && !groupOk s1 m8) then ill
    else if vm then (if vs2 = 0 then s.vWrite x vd sew m8 true (fun i => (opB i, 0)) else ill)
    else if !srcOk then ill
    else s.vWrite x vd sew m8 true (fun i => (if x.maskAt 0 i then opB i else x.getE vs2 sew i, 0))
  else if f6 = 0x0C then
    if !srcOk || !dstOk || shareRegs vd m8 vs2 m8 || (form == 0 && shareRegs vd m8 s1 m8) then ill
    else s.vWrite x vd sew m8 vm (fun i =>
      let k := if form = 0 then x.getE s1 sew i else scalar
      (if k < 16 * m8 / sew then x.getE vs2 sew k else 0, 0))
  else if f6 = 0x0E ∧ form = 0 then
    let im8 := m8 * 16 / sew
    if !groupOk vs2 m8 || !dstOk || !groupOk s1 im8 || shareRegs vd m8 vs2 m8 || shareRegs vd m8 s1 im8 ||
        !sourcesAgree (maskSource vm ++ [⟨vs2, sew, m8⟩, ⟨s1, 16, im8⟩]) then ill
    else s.vWrite x vd sew m8 vm (fun i =>
      let k := x.getE s1 16 i
      (if k < 16 * m8 / sew then x.getE vs2 sew k else 0, 0))
  else if f6 = 0x0E ∨ f6 = 0x0F then
    if form = 0 ∨ !srcOk ∨ !dstOk ∨ (f6 = 0x0E ∧ shareRegs vd m8 vs2 m8) then ill
    else s.vSlide x vd vs2 sew m8 vm (f6 == 0x0E) scalar
  else if 0x2C ≤ f6 ∧ f6 ≤ 0x2F then
    if 16 < sew ∨ !groupOk vs2 (2 * m8) ∨ !dstOk ∨ (form = 0 ∧ !groupOk s1 m8) ∨
        !overlapsOk vm ⟨vd, sew, m8⟩ (⟨vs2, 2 * sew, 2 * m8⟩ :: vb) then ill
    else s.vWrite x vd sew m8 vm (fun i => (viNarrow f6 sew rm (x.getE vs2 (2 * sew) i) (opB i)).getD (0, 0))
  else if f6 = 0x30 ∨ f6 = 0x31 then
    if form ≠ 0 ∨ 16 < sew ∨ !groupOk vs2 m8 ∨ x.csrN 8 ≠ 0 ∨
        !sourcesAgree (maskSource vm ++ [⟨vs2, sew, m8⟩, ⟨s1, 2 * sew, 8⟩]) then ill
    else
      let v := (x.active vm).foldl (fun acc i =>
        let e := x.getE vs2 sew i
        codeOf (2 * sew) ((acc : Int) + (if f6 = 0x30 then (e : Int) else signed sew e))) (x.getE s1 (2 * sew) 0)
      s.vWrite0 x vd (2 * sew) (v, 0)
  else if (viLane f6 sew rm 0 0).isNone ∨ !srcOk ∨ !dstOk then ill
  else if form = 0 ∧ f6 = 3 then ill
  else if form = 3 ∧ (f6 = 2 ∨ (4 ≤ f6 ∧ f6 ≤ 7) ∨ f6 = 0x22 ∨ f6 = 0x23) then ill
  else s.vWrite x vd sew m8 vm (fun i => (viLane f6 sew rm (x.getE vs2 sew i) (opB i)).getD (0, 0))

/-! ## The OPM formats -/

/-- Mask-register logicals (0x18 to 0x1F). -/
def vMaskOp (f6 : Nat) (a b : Bool) : Bool :=
  match f6 with
  | 0x18 => a && !b
  | 0x19 => a && b
  | 0x1A => a || b
  | 0x1B => a != b
  | 0x1C => a || !b
  | 0x1D => !(a && b)
  | 0x1E => !(a || b)
  | _ => a == b

/-- VMUNARY0: vmsbf, vmsof, vmsif, viota and vid. -/
def State.rvMunary (s : State) (x : Finger) (w : Nat) : FngRes :=
  let vm := w.testBit 25
  let vs2 := bits w 20 5
  let code := bits w 15 5
  let vd := bits w 7 5
  let ill : FngRes := .trap s 2 (some w)
  let act := x.active vm
  let first := act.find? (fun i => x.maskAt vs2 i)
  let before (i : Nat) : Bool := match first with | some k => decide (i < k) | none => true
  let isFirst (i : Nat) : Bool := first == some i
  if code = 1 ∨ code = 2 ∨ code = 3 then
    if x.csrN 8 ≠ 0 ∨ vd = vs2 ∨ (vm = false ∧ vd = 0) then ill
    else s.vWriteMask x vd vm (fun i =>
      (if code = 1 then before i else if code = 2 then isFirst i else before i || isFirst i, 0))
  else if code = 16 then
    if x.csrN 8 ≠ 0 ∨ !groupOk vd x.lm8 ∨ shareRegs vd x.lm8 vs2 8 ∨ (vm = false ∧ vd = 0) then ill
    else s.vWrite x vd x.sew x.lm8 vm (fun i => ((act.filter (fun k => decide (k < i) && x.maskAt vs2 k)).length % 2 ^ x.sew, 0))
  else if code = 17 then
    if vs2 ≠ 0 ∨ !groupOk vd x.lm8 ∨ (vm = false ∧ vd = 0) then ill
    else s.vWrite x vd x.sew x.lm8 vm (fun i => (i % 2 ^ x.sew, 0))
  else ill

/-- OPMVV (form 2) and OPMVX (6). -/
def State.rvOpm (s : State) (x : Finger) (w form : Nat) : FngRes :=
  let f6 := bits w 26 6
  let vm := w.testBit 25
  let vs2 := bits w 20 5
  let s1 := bits w 15 5
  let vd := bits w 7 5
  let sew := x.sew
  let m8 := x.lm8
  let rm := x.csrN 0x00A
  let vv := form == 2
  let ill : FngRes := .trap s 2 (some w)
  let opB (i : Nat) : Nat := if vv then x.getE s1 sew i else x.getX s1 % 2 ^ sew
  let vb : List VOperand := if vv then [⟨s1, sew, m8⟩] else []
  let agree (xs : List VOperand) : Bool := sourcesAgree (maskSource vm ++ xs)
  let srcB := !vv || groupOk s1 m8
  let dstM := vm || vd != 0
  if f6 < 8 then
    if !vv || !groupOk vs2 m8 || x.csrN 8 != 0 || !agree [⟨vs2, sew, m8⟩, ⟨s1, sew, 8⟩] then ill
    else s.vWrite0 x vd sew ((x.active vm).foldl (fun acc i => vRedOp f6 sew acc (x.getE vs2 sew i)) (x.getE s1 sew 0), 0)
  else if f6 = 0x10 then
    if vv then
      if s1 = 0 then (if vm then .ok s (((x.setX vd (codeOf 32 (signed sew (x.getE vs2 sew 0)))).setCsr 8 0).adv 4) else ill)
      else if s1 = 16 ∧ x.csrN 8 = 0 then
        .ok s ((x.setX vd ((x.active vm).filter (fun i => x.maskAt vs2 i)).length).adv 4)
      else if s1 = 17 ∧ x.csrN 8 = 0 then
        .ok s ((x.setX vd (((x.active vm).find? (fun i => x.maskAt vs2 i)).getD (2 ^ 32 - 1))).adv 4)
      else ill
    else if vs2 = 0 ∧ vm then s.vWrite0 x vd sew (x.getX s1 % 2 ^ sew, 0)
    else ill
  else if f6 = 0x12 then
    let k := if s1 = 6 ∨ s1 = 7 then 2 else if s1 = 4 ∨ s1 = 5 then 4 else 0
    if !vv || k == 0 || decide (sew < 8 * k) || !groupOk vd m8 || decide (m8 % k ≠ 0) || !groupOk vs2 (m8 / k) || !dstM ||
        !overlapsOk vm ⟨vd, sew, m8⟩ [⟨vs2, sew / k, m8 / k⟩] then ill
    else s.vWrite x vd sew m8 vm (fun i =>
      let e := x.getE vs2 (sew / k) i
      (if s1 % 2 = 1 then codeOf sew (signed (sew / k) e) else e, 0))
  else if f6 = 0x14 then (if vv then s.rvMunary x w else ill)
  else if f6 = 0x17 then
    if !vv || !vm || x.csrN 8 != 0 || !groupOk vd m8 || !groupOk vs2 m8 || shareRegs vd m8 vs2 m8 || shareRegs vd m8 s1 8 ||
        !agree [⟨vs2, sew, m8⟩, ⟨s1, 1, 8⟩] then ill
    else
      let keep := (List.range x.vl).filter (fun i => x.maskAt s1 i)
      s.vWrite { x with csr := SMap.set csrReset x.csr 0xC20 keep.length } vd sew m8 true (fun i => (x.getE vs2 sew (nth 0 keep i), 0))
        |> fun r => match r with
          | .ok t y => .ok t (y.setCsr 0xC20 x.vl)
          | e => e
  else if 0x18 ≤ f6 ∧ f6 ≤ 0x1F then
    if !vv || !vm then ill
    else s.vWriteMask x vd true (fun i => (vMaskOp f6 (x.maskAt vs2 i) (x.maskAt s1 i), 0))
  else if (f6 = 0x0E ∨ f6 = 0x0F) ∧ vv = false then
    if !groupOk vd m8 || !groupOk vs2 m8 || !dstM || (f6 == 0x0E && shareRegs vd m8 vs2 m8) || !agree [⟨vs2, sew, m8⟩] then ill
    else s.vWrite x vd sew m8 vm (fun i =>
      (if f6 = 0x0E then (if i = 0 then x.getX s1 % 2 ^ sew else x.getE vs2 sew (i - 1))
       else if i + 1 = x.vl then x.getX s1 % 2 ^ sew else x.getE vs2 sew (i + 1), 0))
  else if 0x30 ≤ f6 then
    let wide := decide (0x34 ≤ f6) && decide (f6 ≤ 0x37)
    let d : VOperand := ⟨vd, 2 * sew, 2 * m8⟩
    let srcs : List VOperand := (if wide then ⟨vs2, 2 * sew, 2 * m8⟩ else ⟨vs2, sew, m8⟩) :: vb
    if (vmWiden f6 sew 0 0 0).isNone || (f6 == 0x3E && vv) || decide (16 < sew) || !groupOk vd (2 * m8) || !dstM || !srcB ||
        !(if wide then groupOk vs2 (2 * m8) else groupOk vs2 m8) || !overlapsOk vm d srcs ||
        (decide (0x3C ≤ f6) && !agree (d :: srcs)) then ill
    else s.vWrite x vd (2 * sew) (2 * m8) vm (fun i =>
      ((vmWiden f6 sew (x.getE vd (2 * sew) i) (x.getE vs2 (if wide then 2 * sew else sew) i) (opB i)).getD 0, 0))
  else if (vmLane f6 sew rm 0 0 0).isNone || !groupOk vd m8 || !groupOk vs2 m8 || !srcB || !dstM ||
      !agree (⟨vs2, sew, m8⟩ :: vb) then ill
  else s.vWrite x vd sew m8 vm (fun i => ((vmLane f6 sew rm (x.getE vd sew i) (x.getE vs2 sew i) (opB i)).getD 0, 0))

/-! ## The OPF formats -/

/-- Floating-point format of an element width. -/
def vFmt (sew : Nat) : Option FpFmt := if sew = 16 then some fp16 else if sew = 32 then some fp32 else none

/-- Lane operations of the OPF formats; `d` is the destination element. -/
def vfLane (f : FpFmt) (f6 rm d a b : Nat) : Option (Nat × Nat) :=
  if f6 = 0x00 then some (rvAdd f rm a b) else if f6 = 0x02 then some (rvSub f rm a b)
  else if f6 = 0x04 then some (rvMinMax f false a b) else if f6 = 0x06 then some (rvMinMax f true a b)
  else if f6 = 0x08 then some (rvSgnj f 0 a b, 0) else if f6 = 0x09 then some (rvSgnj f 1 a b, 0)
  else if f6 = 0x0A then some (rvSgnj f 2 a b, 0)
  else if f6 = 0x20 then some (rvDiv f rm a b) else if f6 = 0x21 then some (rvDiv f rm b a)
  else if f6 = 0x24 then some (rvMul f rm a b) else if f6 = 0x27 then some (rvSub f rm b a)
  else if f6 = 0x28 then some (rvFma f f rm b d a) else if f6 = 0x29 then some (rvFma f f rm (rvNeg f b) d (rvNeg f a))
  else if f6 = 0x2A then some (rvFma f f rm b d (rvNeg f a)) else if f6 = 0x2B then some (rvFma f f rm (rvNeg f b) d a)
  else if f6 = 0x2C then some (rvFma f f rm b a d) else if f6 = 0x2D then some (rvFma f f rm (rvNeg f b) a (rvNeg f d))
  else if f6 = 0x2E then some (rvFma f f rm b a (rvNeg f d)) else if f6 = 0x2F then some (rvFma f f rm (rvNeg f b) a d)
  else none

/-- Widening operations of the OPF formats, FP16 to FP32; `.w` forms (0x34, 0x36) take `a` in FP32. -/
def vfWiden (f6 rm d a b : Nat) : Option (Nat × Nat) :=
  let up (v : Nat) : Nat := (rvConvert fp16 fp32 0 v).1
  let nv := nvOf fp16 [a, b]
  let nb := nvOf fp16 [b]
  let two (r : Nat × Nat) (n : Nat) : Option (Nat × Nat) := some (r.1, r.2 ||| n)
  if f6 = 0x30 then two (rvAdd fp32 rm (up a) (up b)) nv
  else if f6 = 0x32 then two (rvSub fp32 rm (up a) (up b)) nv
  else if f6 = 0x34 then two (rvAdd fp32 rm a (up b)) nb
  else if f6 = 0x36 then two (rvSub fp32 rm a (up b)) nb
  else if f6 = 0x38 then two (rvMul fp32 rm (up a) (up b)) nv
  else if f6 = 0x3C then some (rvFma fp16 fp32 rm b a d)
  else if f6 = 0x3D then some (rvFma fp16 fp32 rm (rvNeg fp16 b) a (rvNeg fp32 d))
  else if f6 = 0x3E then some (rvFma fp16 fp32 rm b a (rvNeg fp32 d))
  else if f6 = 0x3F then some (rvFma fp16 fp32 rm (rvNeg fp16 b) a d)
  else none

/-- Floating-point comparisons of the OPF formats. -/
def vfCmp (f : FpFmt) (f6 a b : Nat) : Option (Bool × Nat) :=
  let r (e : Nat × Nat) : Option (Bool × Nat) := some (e.1 == 1, e.2)
  if f6 = 0x18 then r (rvCmp f 2 a b) else if f6 = 0x19 then r (rvCmp f 0 a b) else if f6 = 0x1B then r (rvCmp f 1 a b)
  else if f6 = 0x1C then some ((rvCmp f 2 a b).1 == 0, (rvCmp f 2 a b).2)
  else if f6 = 0x1D then r (rvCmp f 1 b a) else if f6 = 0x1F then r (rvCmp f 0 b a) else none

/-- VFUNARY0: conversions within a width, to twice the width and to half of it. -/
def State.rvFcvt (s : State) (x : Finger) (w : Nat) : FngRes :=
  let vm := w.testBit 25
  let vs2 := bits w 20 5
  let c := bits w 15 5
  let vd := bits w 7 5
  let sew := x.sew
  let m8 := x.lm8
  let ill : FngRes := .trap s 2 (some w)
  match x.rmOf 7 with
  | none => ill
  | some rm0 =>
    let k := c % 8
    let rm := if k = 6 ∨ k = 7 then 1 else if k = 5 then 5 else rm0
    let ok := vm || vd != 0
    if c < 8 then
      match vFmt sew with
      | none => ill
      | some f =>
        if k = 4 ∨ k = 5 ∨ !groupOk vd m8 ∨ !groupOk vs2 m8 ∨ ok = false ∨ !overlapsOk vm ⟨vd, sew, m8⟩ [⟨vs2, sew, m8⟩] then ill
        else s.vWrite x vd sew m8 vm (fun i =>
          let e := x.getE vs2 sew i
          if k = 0 ∨ k = 6 then rvToInt f rm false sew e else if k = 1 ∨ k = 7 then rvToInt f rm true sew e
          else rvOfInt f rm (if k = 2 then (e : Int) else signed sew e))
    else if c < 16 then
      let okG := groupOk vd (2 * m8) && groupOk vs2 m8 && ok && decide (sew ≤ 16) &&
        overlapsOk vm ⟨vd, 2 * sew, 2 * m8⟩ [⟨vs2, sew, m8⟩]
      if !okG || k == 5 then ill
      else if k = 2 ∨ k = 3 then
        match vFmt (2 * sew) with
        | none => ill
        | some g => s.vWrite x vd (2 * sew) (2 * m8) vm (fun i =>
            let e := x.getE vs2 sew i
            rvOfInt g rm (if k = 2 then (e : Int) else signed sew e))
      else match vFmt sew with
        | none => ill
        | some f => s.vWrite x vd (2 * sew) (2 * m8) vm (fun i =>
            let e := x.getE vs2 sew i
            if k = 4 then rvConvert f fp32 rm e
            else rvToInt f rm (k == 1 || k == 7) (2 * sew) e)
    else if c < 24 then
      let okG := groupOk vd m8 && groupOk vs2 (2 * m8) && ok && decide (sew ≤ 16) &&
        overlapsOk vm ⟨vd, sew, m8⟩ [⟨vs2, 2 * sew, 2 * m8⟩]
      if !okG then ill
      else if k = 0 ∨ k = 1 ∨ k = 6 ∨ k = 7 then
        match vFmt (2 * sew) with
        | none => ill
        | some g => s.vWrite x vd sew m8 vm (fun i => rvToInt g rm (k == 1 || k == 7) sew (x.getE vs2 (2 * sew) i))
      else match vFmt sew with
        | none => ill
        | some f => s.vWrite x vd sew m8 vm (fun i =>
            let e := x.getE vs2 (2 * sew) i
            if k = 4 ∨ k = 5 then rvConvert fp32 f rm e
            else rvOfInt f rm (if k = 2 then (e : Int) else signed (2 * sew) e))
    else ill

/-- R140: a sum reduction: the start value first, then active elements 0 to vl − 1 in ascending order, rounding after each
addition. `f` is the format of the elements, `g` of the sum. -/
def vfSum (f g : FpFmt) (rm : Nat) (start : Nat) (xs : List Nat) : Nat × Nat :=
  xs.foldl (fun acc e =>
    let r := rvAdd g rm acc.1 (if f.mb = g.mb then e else (rvConvert f g rm e).1)
    (r.1, acc.2 ||| r.2 ||| nvOf f [e])) (start, 0)

/-- R140: vfredusum.vs, vfredosum.vs and their widening forms. -/
def State.vfRedSum (s : State) (x : Finger) (vd vs2 vs1 : Nat) (vm wide : Bool) (w : Nat) : FngRes :=
  let sew := x.sew
  let wd := if wide then 2 * sew else sew
  match vFmt sew, vFmt wd, x.rmOf 7 with
  | some f, some g, some rm =>
    if (x.csrN 0xC21).testBit 31 ∨ !groupOk vs2 x.lm8 ∨ x.csrN 8 ≠ 0 ∨
        !sourcesAgree (maskSource vm ++ [⟨vs2, sew, x.lm8⟩, ⟨vs1, wd, 8⟩]) then .trap s 2 (some w)
    else s.vWrite0 x vd wd (vfSum f g rm (x.getE vs1 wd 0) ((x.active vm).map (fun i => x.getE vs2 sew i)))
  | _, _, _ => .trap s 2 (some w)

/-- OPFVV (form 1) and OPFVF (5). -/
def State.rvOpf (s : State) (x : Finger) (w form : Nat) : FngRes :=
  let f6 := bits w 26 6
  let vm := w.testBit 25
  let vs2 := bits w 20 5
  let s1 := bits w 15 5
  let vd := bits w 7 5
  let sew := x.sew
  let m8 := x.lm8
  let vv := form == 1
  let ill : FngRes := .trap s 2 (some w)
  let dstM := vm || vd != 0
  if f6 = 0x12 then (if vv then s.rvFcvt x w else ill)
  else match vFmt sew, x.rmOf 7 with
  | some f, some rm =>
    let fs := if sew = 16 then x.getH s1 else x.getF s1
    let opB (i : Nat) : Nat := if vv then x.getE s1 sew i else fs
    let vb : List VOperand := if vv then [⟨s1, sew, m8⟩] else []
    let srcs : List VOperand := ⟨vs2, sew, m8⟩ :: vb
    let agree (xs : List VOperand) : Bool := sourcesAgree (maskSource vm ++ xs)
    let srcB := !vv || groupOk s1 m8
    if f6 = 1 ∨ f6 = 3 then (if vv then s.vfRedSum x vd vs2 s1 vm false w else ill)
    else if f6 = 0x31 ∨ f6 = 0x33 then (if vv then s.vfRedSum x vd vs2 s1 vm true w else ill)
    else if f6 = 5 ∨ f6 = 7 then
      if !vv || !groupOk vs2 m8 || x.csrN 8 != 0 || !agree [⟨vs2, sew, m8⟩, ⟨s1, sew, 8⟩] then ill
      else s.vWrite0 x vd sew ((x.active vm).foldl (fun acc i =>
        let r := rvMinMax f (f6 == 7) acc.1 (x.getE vs2 sew i)
        (r.1, acc.2 ||| r.2)) (x.getE s1 sew 0, 0))
    else if f6 = 0x10 then
      if vv then
        if s1 = 0 ∧ vm then
          let e := x.getE vs2 sew 0
          .ok s (((if sew = 16 then x.setH vd e else x.setF vd e).setCsr 8 0).adv 4)
        else ill
      else if vs2 = 0 ∧ vm then s.vWrite0 x vd sew (fs, 0)
      else ill
    else if f6 = 0x13 then
      if !vv || !groupOk vd m8 || !groupOk vs2 m8 || !dstM || !(s1 == 0 || s1 == 4 || s1 == 5 || s1 == 16) ||
          !agree [⟨vs2, sew, m8⟩] then ill
      else s.vWrite x vd sew m8 vm (fun i =>
        let e := x.getE vs2 sew i
        if s1 = 0 then rvSqrt f rm e else if s1 = 4 then rvRsqrt7 f e else if s1 = 5 then rvRec7 f rm e else (rvClass f e, 0))
    else if f6 = 0x17 then
      if vv || !groupOk vd m8 || !dstM then ill
      else if vm then (if vs2 = 0 then s.vWrite x vd sew m8 true (fun _ => (fs, 0)) else ill)
      else if !groupOk vs2 m8 || !agree [⟨vs2, sew, m8⟩] then ill
      else s.vWrite x vd sew m8 true (fun i => (if x.maskAt 0 i then fs else x.getE vs2 sew i, 0))
    else if 0x18 ≤ f6 ∧ f6 ≤ 0x1F then
      if (vfCmp f f6 0 0).isNone || (vv && (f6 == 0x1D || f6 == 0x1F)) || !groupOk vs2 m8 || !srcB ||
          !overlapsOk vm ⟨vd, 1, 8⟩ srcs then ill
      else s.vWriteMask x vd vm (fun i => (vfCmp f f6 (x.getE vs2 sew i) (opB i)).getD (false, 0))
    else if (f6 = 0x0E ∨ f6 = 0x0F) ∧ vv = false then
      if !groupOk vd m8 || !groupOk vs2 m8 || !dstM || (f6 == 0x0E && shareRegs vd m8 vs2 m8) || !agree [⟨vs2, sew, m8⟩] then ill
      else s.vWrite x vd sew m8 vm (fun i =>
        (if f6 = 0x0E then (if i = 0 then fs else x.getE vs2 sew (i - 1))
         else if i + 1 = x.vl then fs else x.getE vs2 sew (i + 1), 0))
    else if 0x30 ≤ f6 then
      let wide := f6 == 0x34 || f6 == 0x36
      let d : VOperand := ⟨vd, 32, 2 * m8⟩
      let wsrcs : List VOperand := if wide then ⟨vs2, 32, 2 * m8⟩ :: vb else srcs
      if (vfWiden f6 rm 0 0 0).isNone || sew != 16 || !groupOk vd (2 * m8) || !dstM || !srcB ||
          !(if wide then groupOk vs2 (2 * m8) else groupOk vs2 m8) || !overlapsOk vm d wsrcs ||
          (decide (0x3C ≤ f6) && !agree (d :: wsrcs)) then ill
      else s.vWrite x vd 32 (2 * m8) vm (fun i =>
        (vfWiden f6 rm (x.getE vd 32 i) (x.getE vs2 (if wide then 32 else 16) i) (opB i)).getD (0, 0))
    else if (vfLane f f6 rm 0 0 0).isNone || (vv && (f6 == 0x21 || f6 == 0x27)) || !groupOk vd m8 || !groupOk vs2 m8 || !srcB ||
        !dstM || !agree srcs then ill
    else s.vWrite x vd sew m8 vm (fun i => (vfLane f f6 rm (x.getE vd sew i) (x.getE vs2 sew i) (opB i)).getD (0, 0))
  | _, _ => ill

/-! ## Vector loads and stores -/

/-- One access of a vector load or store: element index in the group, destination register, address. -/
structure VAccess where
  idx : Nat
  reg : Nat
  addr : Nat
  deriving DecidableEq, Repr

/-- Run the accesses of a load of elements of `eew` bits in order; a fault on an element after the first ends a
fault-only-first load early. -/
def vLoadRun (l : Launch) (f eew : Nat) (ff : Bool) : List VAccess → State → Finger → FngRes
  | [], s, y => .ok s y
  | a :: as, s, y =>
    match s.fload l f a.addr (eew / 8) (eew / 8) with
    | .bad t c ad => if ff && a.idx != 0 then .ok t (y.setCsr 0xC20 a.idx) else .trap t c (some ad)
    | .val t v => vLoadRun l f eew ff as t (y.setE a.reg eew a.idx v)

/-- Run the accesses of a store. -/
def vStoreRun (l : Launch) (f eew : Nat) (x : Finger) : List VAccess → State → FngRes
  | [], s => .ok s (x.withTickets s f)
  | a :: as, s =>
    match s.fstore l f a.addr (eew / 8) (eew / 8) (x.getE a.reg eew a.idx) with
    | .bad t c ad => .trap t c (some ad)
    | .val t _ => vStoreRun l f eew x as t

/-- After a vector load: agnostic elements of the destination groups, vstart and pc. -/
def FngRes.finishV (r : FngRes) (old : Finger) (load vm : Bool) (eew m8 vd fields : Nat) : FngRes :=
  match r with
  | .trap t c v => .trap t c v
  | .ok t y =>
    let n := Nat.max (16 * m8 / eew) (128 / eew)
    let y1 := if !load || decide (old.vl ≤ old.csrN 8) then y
      else (List.range fields).foldl (fun z k => (List.range n).foldl (fun z i =>
        if old.role vm i = 2 ∧ (old.free (k * n + i)).getLsbD 0 then
          z.setE (vd + k * groupRegs m8) eew i (2 ^ eew - 1)
        else z) z) y
    .ok t ((y1.setCsr 8 0).adv 4)

/-- Vector loads (opcode 0x07) and stores (0x27): unit-stride, strided, indexed, segments, whole registers and masks. -/
def State.rvVmem (s : State) (l : Launch) (f : Nat) (x : Finger) (w : Nat) : FngRes :=
  let load := w % 128 == 0x07
  let width := bits w 12 3
  let eew := if width = 0 then 8 else if width = 5 then 16 else 32
  let nf := bits w 29 3 + 1
  let vm := w.testBit 25
  let mop := bits w 26 2
  let um := bits w 20 5
  let vd := bits w 7 5
  let base := x.getX (bits w 15 5)
  let ill : FngRes := .trap s 2 (some w)
  let run (as : List VAccess) (e : Nat) (ff : Bool) : FngRes :=
    if load then vLoadRun l f e ff as s x else vStoreRun l f e x as s
  if width = 7 ∨ (1 ≤ width ∧ width ≤ 4) ∨ w.testBit 28 then ill
  else if mop = 0 ∧ um = 8 then
    if vm = false ∨ !(nf == 1 || nf == 2 || nf == 4 || nf == 8) ∨ vd % nf ≠ 0 ∨ (load = false ∧ eew ≠ 8) then ill
    else
      let as := ((List.range (nf * 128 / eew)).filter (fun i => decide (x.csrN 8 ≤ i))).map (fun i =>
        (⟨i, vd, (base + i * eew / 8) % 2 ^ 32⟩ : VAccess))
      match run as eew false with
      | .trap t c v => .trap t c v
      | .ok t y => .ok t ((y.setCsr 8 0).adv 4)
  else if (x.csrN 0xC21).testBit 31 then ill
  else if mop = 0 ∧ um = 11 then
    if vm = false ∨ eew ≠ 8 ∨ nf ≠ 1 then ill
    else
      let n := (x.vl + 7) / 8
      let as := ((List.range n).filter (fun i => decide (x.csrN 8 ≤ i))).map (fun i => (⟨i, vd, (base + i) % 2 ^ 32⟩ : VAccess))
      match run as 8 false with
      | .trap t c v => .trap t c v
      | .ok t y =>
        let y1 := if load ∧ x.csrN 8 < n then (List.range 16).foldl (fun z i =>
            if n ≤ i ∧ (x.free i).getLsbD 0 then z.setE vd 8 i 255 else z) y else y
        .ok t ((y1.setCsr 8 0).adv 4)
  else
    let indexed := mop % 2 == 1
    let de := if indexed then x.sew else eew
    let m8 := if indexed then x.lm8 else eew * x.lm8 / x.sew
    let im8 := eew * x.lm8 / x.sew
    let ff := mop == 0 && um == 16
    if !groupOk vd m8 ∨ (load ∧ vm = false ∧ vd = 0) ∨ 64 < nf * Nat.max 8 m8 ∨ 32 < vd + nf * groupRegs m8 ∨
        (mop = 0 ∧ um ≠ 0 ∧ um ≠ 16) ∨ (ff ∧ load = false) ∨ (indexed ∧ !groupOk um im8) ∨
        (indexed ∧ load ∧ 1 < nf ∧ shareRegs vd (nf * Nat.max 8 m8) um im8) ∨
        (indexed ∧ load ∧ !overlapsOk vm ⟨vd, de, m8⟩ [⟨um, eew, im8⟩]) ∨
        (load = false ∧ !sourcesAgree (maskSource vm ++ ⟨vd, de, nf * Nat.max 8 m8⟩ :: (if indexed then [⟨um, eew, im8⟩] else []))) then ill
    else
      let els := (List.range x.vl).filter (fun i => decide (x.csrN 8 ≤ i) && (vm || x.maskAt 0 i))
      let as := els.flatMap (fun i => (List.range nf).map (fun k =>
        let off := if mop = 0 then i * nf * (de / 8) + k * (de / 8)
          else if mop = 2 then i * x.getX um + k * (de / 8)
          else x.getE um eew i + k * (de / 8)
        (⟨i, vd + k * groupRegs m8, (base + off) % 2 ^ 32⟩ : VAccess)))
      (run as de ff).finishV x load vm de m8 vd nf

/-- The vector opcodes: OP-V (0x57) and the vector widths of LOAD-FP and STORE-FP. -/
def State.rvVector (s : State) (l : Launch) (f : Nat) (x : Finger) (w : Nat) : FngRes :=
  let form := bits w 12 3
  if w % 128 ≠ 0x57 then s.rvVmem l f x w
  else if form = 7 then s.rvVset x w
  else if (x.csrN 0xC21).testBit 31 ∧ ¬ (form = 3 ∧ bits w 26 6 = 0x27) then .trap s 2 (some w)
  else if form = 0 ∨ form = 3 ∨ form = 4 then s.rvOpi x w form
  else if form = 2 ∨ form = 6 then s.rvOpm x w form
  else s.rvOpf x w form

end Sys2Proof.Machine
end

