-- ==== Sys2Proof/Machine/Xfng.lean ====
section
/-! DEFINITION. The Xfng instructions (R152 to R159) as operations on one Finger, and the dispatch of a fetched word to them and
to the standard instructions (R138, R152). -/

namespace Sys2Proof.Machine

/-! ## Sorted lists (R153) -/

/-- The six fields of a list block. -/
structure ListBlk where
  aB : Nat
  aL : Nat
  bB : Nat
  bL : Nat
  oB : Nat
  oC : Nat
  deriving DecidableEq, Repr

/-- How a list instruction's steps went. -/
inductive ListRes where
  | done (t : State) (b : ListBlk) (rd : Nat)
  | bad (t : State) (cause addr : Nat)

/-- R153: whether the instruction (0 MERGE, 1 UNION, 2 ISECT, 3 DIFF) is finished. -/
def listFinished (op : Nat) (b : ListBlk) : Bool :=
  if op < 2 then b.aL == 0 && b.bL == 0 else if op = 2 then b.aL == 0 || b.bL == 0 else b.aL == 0

/-- R153: what one step does with the keys: (take A, take B, drop A, drop B); Take X drops X too. -/
def listChoice (op : Nat) (b : ListBlk) (ka kb : Nat) : Bool × Bool × Bool × Bool :=
  let aLess := decide (ka < kb)
  let bLess := decide (kb < ka)
  if op = 0 then
    (if b.bL = 0 ∨ (0 < b.aL ∧ ka ≤ kb) then (true, false, true, false) else (false, true, false, true))
  else if op = 1 then
    (if b.bL = 0 ∨ (0 < b.aL ∧ aLess) then (true, false, true, false)
     else if b.aL = 0 ∨ bLess then (false, true, false, true) else (true, false, true, true))
  else if op = 2 then
    (if aLess then (false, false, true, false) else if bLess then (false, false, false, true) else (true, false, true, true))
  else
    (if b.bL = 0 ∨ aLess then (true, false, true, false) else if bLess then (false, false, false, true)
     else (false, false, true, true))

/-- The key at an element address, 0 where the list is empty and no key is read. -/
def State.listKey (s : State) (l : Launch) (f base len : Nat) : MemRes :=
  if len = 0 then .val s 0 else s.fload l f base 4 4

/-- Copy one element of `n` bytes, word by word. -/
def State.listCopy (s : State) (l : Launch) (f src dst n : Nat) : MemRes :=
  match s.fload l f src 4 4 with
  | .bad t c a => .bad t c a
  | .val t v =>
    if n = 4 then t.fstore l f dst 4 4 v
    else match t.fload l f ((src + 4) % 2 ^ 32) 4 4 with
      | .bad u c a => .bad u c a
      | .val u v2 => match u.fstore l f dst 4 4 v with
        | .bad z c a => .bad z c a
        | .val z _ => z.fstore l f ((dst + 4) % 2 ^ 32) 4 4 v2

/-- R153: the steps; `cap` is the output capacity, `n` the element size. -/
def listLoop (l : Launch) (f op n cap : Nat) : Nat → State → ListBlk → ListRes
  | 0, s, b => .done s b 1
  | fuel + 1, s, b =>
    if listFinished op b then .done s b 0
    else if b.oC = cap then .done s b 1
    else match s.listKey l f b.aB b.aL with
      | .bad t c a => .bad t c a
      | .val s1 ka => match s1.listKey l f b.bB b.bL with
        | .bad t c a => .bad t c a
        | .val s2 kb =>
          let (tA, tB, dA, dB) := listChoice op b ka kb
          let out := (b.oB + b.oC * n) % 2 ^ 32
          let m := if tA then s2.listCopy l f b.aB out n else if tB then s2.listCopy l f b.bB out n else .val s2 0
          match m with
          | .bad t c a => .bad t c a
          | .val s3 _ => listLoop l f op n cap fuel s3
              { b with aB := if dA then (b.aB + n) % 2 ^ 32 else b.aB, aL := if dA then b.aL - 1 else b.aL,
                       bB := if dB then (b.bB + n) % 2 ^ 32 else b.bB, bL := if dB then b.bL - 1 else b.bL,
                       oC := if tA || tB then (b.oC + 1) % 2 ^ 32 else b.oC }

/-- Load `n` words from `a` upwards. -/
def loadWords (l : Launch) (f : Nat) : Nat → State → Nat → List Nat → (State × List Nat) ⊕ (State × Nat × Nat)
  | 0, s, _, acc => .inl (s, acc)
  | n + 1, s, a, acc => match s.fload l f a 4 4 with
    | .bad t c ad => .inr (t, c, ad)
    | .val t v => loadWords l f n t ((a + 4) % 2 ^ 32) (acc ++ [v])

/-- Store words from `a` upwards. -/
def storeWords (l : Launch) (f : Nat) : List Nat → State → Nat → MemRes
  | [], s, _ => .val s 0
  | v :: vs, s, a => match s.fstore l f a 4 4 v with
    | .bad t c ad => .bad t c ad
    | .val t _ => storeWords l f vs t ((a + 4) % 2 ^ 32)

/-- R153: a list instruction. -/
def State.xfList (s : State) (l : Launch) (f : Nat) (x : Finger) (op : Nat) (kv : Bool) (rd rs1 rs2 : Nat) : FngRes :=
  let a := x.getX rs1
  if a % 4 ≠ 0 then .trap s 0x24 none
  else match loadWords l f 6 s a [] with
    | .inr (t, c, ad) => .trap t c (some ad)
    | .inl (t, ws) =>
      let b : ListBlk := ⟨nth 0 ws 0, nth 0 ws 1, nth 0 ws 2, nth 0 ws 3, nth 0 ws 4, nth 0 ws 5⟩
      match listLoop l f op (if kv then 8 else 4) (x.getX rs2) (b.aL + b.bL + 1) t b with
      | .bad t1 c ad => .trap t1 c (some ad)
      | .done t1 b1 r => match storeWords l f [b1.aB, b1.aL, b1.bB, b1.bL, b1.oB, b1.oC] t1 a with
        | .bad t2 c ad => .trap t2 c (some ad)
        | .val t2 _ => .ok t2 (((x.withTickets t2 f).setX rd r).adv 4)

/-! ## Hash tables (R154) -/

/-- First bucket of a key. -/
def hashBucket (k log2 : Nat) : Nat := if log2 = 0 then 0 else (k * 0x9E3779B1 % 2 ^ 32) >>> (32 - log2)

/-- What probing found: the key's slot, an empty slot, neither, or a trap. -/
inductive Probe where
  | found (t : State) (slot : Nat)
  | empty (t : State) (slot : Nat)
  | missing (t : State)
  | bad (t : State) (cause addr : Nat)

/-- R154: visit slots in probing order from slot number `i` of at most `n`. -/
def probeLoop (l : Launch) (f base log2 key b0 : Nat) : Nat → Nat → State → Probe
  | 0, _, s => .missing s
  | n + 1, i, s =>
    let bucket := (b0 + i / 8) % 2 ^ log2
    let slot := (base + bucket * 64 + (i % 8) * 8) % 2 ^ 32
    match s.fload l f slot 4 4 with
    | .bad t c a => .bad t c a
    | .val t k =>
      if k = key then .found t slot
      else if k = 0xFFFFFFFF then .empty t slot
      else probeLoop l f base log2 key b0 n (i + 1) t

/-- R154: read and check a table block, then probe for a key. -/
def State.xfProbe (s : State) (l : Launch) (f a key : Nat) : Probe :=
  match loadWords l f 4 s a [] with
  | .inr (t, c, ad) => .bad t c ad
  | .inl (t, ws) =>
    let log2 := nth 0 ws 1
    let probes := nth 0 ws 2
    if nth 0 ws 0 % 64 ≠ 0 ∨ 20 < log2 ∨ probes = 0 ∨ 2 ^ log2 < probes ∨ nth 0 ws 3 ≠ 0 then .bad t 0x24 a
    else if key = 0xFFFFFFFF then .missing t
    else probeLoop l f (nth 0 ws 0) log2 key (hashBucket key log2) (probes * 8) 0 t

/-- XF.HPROBE. -/
def State.xfHprobeOp (s : State) (l : Launch) (f : Nat) (x : Finger) (rd rs1 rs2 : Nat) : FngRes :=
  match s.xfProbe l f (x.getX rs1) (x.getX rs2) with
  | .bad t c a => .trap t c (if c = 0x24 then none else some a)
  | .found t slot => .ok t ((x.setX rd ((slot + 4) % 2 ^ 32)).adv 4)
  | .empty t _ => .ok t ((x.setX rd 0).adv 4)
  | .missing t => .ok t ((x.setX rd 0).adv 4)

/-- XF.HINSERT. -/
def State.xfHinsertOp (s : State) (l : Launch) (f : Nat) (x : Finger) (rd rs1 rs2 rs3 : Nat) : FngRes :=
  if x.getX rs2 = 0xFFFFFFFF then .trap s 0x24 none
  else match s.xfProbe l f (x.getX rs1) (x.getX rs2) with
    | .bad t c a => .trap t c (if c = 0x24 then none else some a)
    | .found t slot => .ok t ((x.setX rd ((slot + 5) % 2 ^ 32)).adv 4)
    | .missing t => .ok t ((x.setX rd 0).adv 4)
    | .empty t slot => match t.fstore l f slot 8 8 (x.getX rs2 + x.getX rs3 * 2 ^ 32) with
      | .bad u c a => .trap u c (some a)
      | .val u _ => .ok u (((x.withTickets u f).setX rd ((slot + 4) % 2 ^ 32)).adv 4)

/-! ## Neighbour messages (R149, R155, R156) -/

/-- Index of a Finger's Mitten in its launch (R148). -/
def Launch.groupOf (l : Launch) (m : Nat) : Nat := l.groups.idxOf m

/-- R149: mesh column and row of Finger `i` of group `g`. -/
def Launch.meshPos (l : Launch) (g i : Nat) : Nat × Nat :=
  if l.mesh = 0 then (i % 8, i / 8) else (8 * (g % l.mesh) + i % 8, 8 * (g / l.mesh) + i / 8)

/-- R149: the Finger next to `f` in direction `d`, if the launch has one there. -/
def Launch.neighbour (l : Launch) (f d : Nat) : Option Nat :=
  let g := l.groupOf (mittenOf f)
  let (x, y) := l.meshPos g (f % 64)
  let w := if l.mesh = 0 then 8 else 8 * l.mesh
  let h := if l.mesh = 0 then 8 else 8 * (l.groups.length / l.mesh)
  let x1 : Int := if d = 1 then x + 1 else if d = 3 then (x : Int) - 1 else x
  let y1 : Int := if d = 0 then (y : Int) - 1 else if d = 2 then y + 1 else y
  if x1 < 0 ∨ y1 < 0 ∨ (w : Int) ≤ x1 ∨ (h : Int) ≤ y1 then none
  else
    let xn := x1.toNat
    let yn := y1.toNat
    let g1 := if l.mesh = 0 then g else (yn / 8) * l.mesh + xn / 8
    some (nth 0 l.groups g1 * 64 + (yn % 8) * 8 + xn % 8)

/-- Direction from which a message sent in direction `d` arrives (DEDUCED from R155 and R163, log entry 42). -/
def opposite (d : Nat) : Nat := (d + 2) % 4

/-- Messages waiting in an inbox. -/
def Finger.inboxOf (x : Finger) (d : Nat) : List (BitVec 32) := nth [] x.inbox d

/-- Try to send: none where the neighbour's inbox is full. A message to a Finger that has exited is discarded (R156). -/
def State.trySend (s : State) (dst d v : Nat) : Option State :=
  let y := s.fngOf dst
  if y.run = 2 then some (s.bump (Reg.MTN_CNT_MSG_DROP (mittenOf dst)))
  else if (y.inboxOf (opposite d)).length < 8 then
    let y1 := { y with inbox := y.inbox.set (opposite d) (y.inboxOf (opposite d) ++ [BitVec.ofNat 32 v]) }
    some ((s.putFng dst y1).bump (Reg.MTN_CNT_MSG (mittenOf dst)))
  else none

/-- XF.SEND. -/
def State.xfSendOp (s : State) (l : Launch) (f : Nat) (x : Finger) (v d : Nat) : FngRes :=
  if 3 < d then .trap s 0x24 none
  else match l.neighbour f d with
    | none => .trap s 0x20 none
    | some dst => match s.trySend dst d v with
      | some t => .ok t ({ x with wait := .none }.adv 4)
      | none => .ok s { x with wait := .send v d }

/-- XF.TSEND. -/
def State.xfTsendOp (s : State) (l : Launch) (f : Nat) (x : Finger) (rd rs1 rs2 : Nat) : FngRes :=
  let d := x.getX rs2
  if 3 < d then .trap s 0x24 none
  else match l.neighbour f d with
    | none => .trap s 0x20 none
    | some dst => match s.trySend dst d (x.getX rs1) with
      | some t => .ok t ((x.setX rd 1).adv 4)
      | none => .ok s ((x.setX rd 0).adv 4)

/-- XF.RECV. -/
def State.xfRecvOp (s : State) (x : Finger) (rd d : Nat) : FngRes :=
  if 3 < d then .trap s 0x24 none
  else match x.inboxOf d with
    | [] => .ok s { x with wait := .recv rd d }
    | m :: ms => .ok s (({ x with inbox := x.inbox.set d ms, wait := .none }.setX rd m.toNat).adv 4)

/-- R155: XF.MSGSTAT's value. -/
def Finger.msgStat (x : Finger) : Nat :=
  (x.inboxOf 0).length + (x.inboxOf 1).length * 16 + (x.inboxOf 2).length * 256 + (x.inboxOf 3).length * 4096

/-- XF.WAITMSG. -/
def State.xfWaitmsgOp (s : State) (x : Finger) : FngRes :=
  if x.msgStat = 0 then .ok s { x with wait := .msg } else .ok s ({ x with wait := .none }.adv 4)

/-! ## Work queues (R157) -/

/-- Queue `q` of a Mitten. -/
def State.mqueue (s : State) (m q : Nat) : List (BitVec 32) := SMap.get (fun _ => []) s.mqueues (m * 16 + q)

/-- Replace a queue. -/
def State.setMqueue (s : State) (m q : Nat) (xs : List (BitVec 32)) : State :=
  { s with mqueues := SMap.set (fun _ => []) s.mqueues (m * 16 + q) xs }

/-- XF.QPUSH. -/
def State.xfQpushOp (s : State) (f : Nat) (x : Finger) (q v : Nat) : FngRes :=
  if 15 < q ∨ v = 0xFFFFFFFF then .trap s 0x24 none
  else
    let xs := s.mqueue (mittenOf f) q
    if xs.length < 256 then .ok (s.setMqueue (mittenOf f) q (xs ++ [BitVec.ofNat 32 v])) ({ x with wait := .none }.adv 4)
    else .ok s { x with wait := .push q v }

/-- XF.QPOP. -/
def State.xfQpopOp (s : State) (f : Nat) (x : Finger) (rd q : Nat) : FngRes :=
  if 15 < q then .trap s 0x24 none
  else match s.mqueue (mittenOf f) q with
    | [] => .ok s { x with wait := .pop rd q }
    | m :: ms => .ok (s.setMqueue (mittenOf f) q ms) (({ x with wait := .none }.setX rd m.toNat).adv 4)

/-! ## Transfers (R159) -/

/-- Tickets that are idle. -/
def Finger.idleTickets (x : Finger) : List Nat := (List.range 8).filter (fun t => (nth none x.tickets t).isNone)

/-- The idle ticket that a transfer takes: a free value where several are idle (log entry 43). -/
def Finger.pickTicket (x : Finger) (ts : List Nat) : Nat :=
  match ts with
  | [t] => t
  | _ => nth 0 ts ((x.free 0).toNat % ts.length)

/-- XF.XFER with its block at `a`. Which idle ticket it takes is a free value (log entry 43). -/
def State.xfXferOp (s : State) (l : Launch) (f : Nat) (x : Finger) (rd a : Nat) : FngRes :=
  if a % 8 ≠ 0 then .trap s 0x24 none
  else match loadWords l f 4 s a [] with
    | .inr (t, c, ad) => .trap t c (some ad)
    | .inl (t, ws) =>
      let off := nth 0 ws 0 + nth 0 ws 1 * 2 ^ 32
      let loc := nth 0 ws 2
      let ctrl := nth 0 ws 3
      let n := bits ctrl 0 21
      let out := ctrl.testBit 30
      let write := ctrl.testBit 31
      let place := fngPlace l f loc
      let locOk := match place with
        | some (sp, _, room) => sp != 4 && decide (n ≤ room)
        | none => false
      if n % 64 ≠ 0 ∨ n = 0 ∨ 1048576 < n ∨ bits ctrl 21 9 ≠ 0 ∨ (write ∧ out = false) ∨ loc % 64 ≠ 0 ∨ locOk = false then
        .trap t 0x24 none
      else
        let base := if out then l.outBase else l.inBase
        let size := if out then l.outBytes else l.inBytes
        if size < off + n then .trap t (if write then 7 else 5) (some (off % 2 ^ 32))
        else match x.idleTickets with
          | [] => .ok t { x with wait := .xfer rd a }
          | ts =>
            let k := x.pickTicket ts
            let (sp, key, _) := place.getD (1, 0, 0)
            let data := if write then t.spaceRead l sp key n else []
            let y : Transfer := ⟨false, write, sp, key, n, base + off, data⟩
            let t1 := ((t.freshN n).hold (base + off) n true)
            .ok t1 (({ x with wait := .none, tickets := x.tickets.set k (some y) }.setX rd k).adv 4)

/-- XF.XWAIT. -/
def State.xfXwaitOp (s : State) (x : Finger) (t : Nat) : FngRes :=
  if 7 < t then .trap s 0x24 none
  else if (nth none x.tickets t).isNone then .ok s ({ x with wait := .none }.adv 4)
  else .ok s { x with wait := .ticket t }

/-- XF.XTEST. -/
def State.xfXtestOp (s : State) (x : Finger) (rd t : Nat) : FngRes :=
  if 7 < t then .trap s 0x24 none
  else .ok s ((x.setX rd (b2n (nth none x.tickets t).isNone)).adv 4)

/-- XF.EXIT (R150, R151): the reservation ends; the Finger exits once its transfers have completed. -/
def State.xfExitOp (s : State) (x : Finger) : FngRes :=
  let x1 := { x with resv := none }
  if x.idleTickets.length = 8 then .ok s { x1 with run := 2, wait := .none, retired := x.retired + 1 }
  else .ok s { x1 with wait := .drain }

/-! ## Atomics (R152) -/

/-- A floating-point atomic counts in FNG_CNT_AMO_FP. -/
def FngRes.countFp (r : FngRes) (f : Nat) : FngRes :=
  match r with
  | .ok t x => .ok (t.bump (Reg.FNG_CNT_AMO_FP (palmOf f))) x
  | e => e

/-- Xfng atomics by funct7: 0 AMOADD.F, 1 AMOMIN.F, 2 AMOMAX.F, 3 AMOADD.H2, 4 AMOINCS. -/
def State.xfAtomic (s : State) (l : Launch) (f : Nat) (x : Finger) (op rd rs1 rs2 : Nat) : FngRes :=
  let v := x.getX rs2
  let run (g : Nat → Option Nat) : FngRes := s.fatomic l f x (x.getX rs1) rd 4 g
  if op = 0 then (run (fun m => some (xfAddF m v))).countFp f
  else if op = 1 then (run (fun m => some (xfMinMax false m v))).countFp f
  else if op = 2 then (run (fun m => some (xfMinMax true m v))).countFp f
  else if op = 3 then (run (fun m => some (xfAddH2 m v))).countFp f
  else run (fun m => if m < v then some (m + 1) else none)

/-- XF.AMOCAS. -/
def State.xfCas (s : State) (l : Launch) (f : Nat) (x : Finger) (rd rs1 rs2 rs3 : Nat) : FngRes :=
  s.fatomic l f x (x.getX rs1) rd 4 (fun m => if m = x.getX rs2 then some (x.getX rs3) else none)

/-! ## A fetched word (R138, R152) -/

/-- custom-0 instructions; a register field that is not used must hold x0. -/
def State.xfCustom0 (s : State) (l : Launch) (f : Nat) (x : Finger) (w : Nat) : FngRes :=
  let f7 := bits w 25 7
  let f3 := bits w 12 3
  let rd := bits w 7 5
  let rs1 := bits w 15 5
  let rs2 := bits w 20 5
  let ill : FngRes := .trap s 2 (some w)
  let need (ok : Bool) (r : FngRes) : FngRes := if ok then r else ill
  if f7 = 0 then s.xfList l f x (f3 % 4) (decide (4 ≤ f3)) rd rs1 rs2
  else if f7 = 1 then (if f3 = 0 then s.xfHprobeOp l f x rd rs1 rs2 else ill)
  else if f7 = 2 then
    if f3 = 0 then need (rd == 0) (s.xfSendOp l f x (x.getX rs1) (x.getX rs2))
    else if f3 = 1 then s.xfTsendOp l f x rd rs1 rs2
    else if f3 = 2 then need (rs2 == 0) (s.xfRecvOp x rd (x.getX rs1))
    else if f3 = 3 then need (rs1 == 0 && rs2 == 0) (.ok s ((x.setX rd x.msgStat).adv 4))
    else if f3 = 4 then need (rd == 0 && rs1 == 0 && rs2 == 0) (s.xfWaitmsgOp x)
    else ill
  else if f7 = 3 then
    if f3 = 0 then need (rd == 0 && rs1 == 0 && rs2 == 0) (.ok s { x with wait := .bar })
    else if f3 = 1 then need (rd == 0 && rs1 == 0 && rs2 == 0) (.ok s { x with wait := .gbar })
    else if f3 = 2 then need (rd == 0) (s.xfQpushOp f x (x.getX rs1) (x.getX rs2))
    else if f3 = 3 then need (rs2 == 0) (s.xfQpopOp f x rd (x.getX rs1))
    else if f3 = 7 then need (rd == 0 && rs1 == 0 && rs2 == 0) (s.xfExitOp x)
    else ill
  else if f7 = 4 then
    if f3 = 0 then need (rs2 == 0) (s.xfXferOp l f x rd (x.getX rs1))
    else if f3 = 1 then need (rd == 0 && rs2 == 0) (s.xfXwaitOp x (x.getX rs1))
    else if f3 = 2 then need (rs2 == 0) (s.xfXtestOp x rd (x.getX rs1))
    else ill
  else ill

/-- custom-1 instructions. -/
def State.xfCustom1 (s : State) (l : Launch) (f : Nat) (x : Finger) (w : Nat) : FngRes :=
  let f7 := bits w 25 7
  let f3 := bits w 12 3
  let rd := bits w 7 5
  let rs1 := bits w 15 5
  let rs2 := bits w 20 5
  if f3 = 2 ∧ f7 ≤ 4 then s.xfAtomic l f x f7 rd rs1 rs2
  else if f3 = 3 ∧ bits w 25 2 = 0 then s.xfCas l f x rd rs1 rs2 (bits w 27 5)
  else if f3 = 3 ∧ bits w 25 2 = 1 then s.xfHinsertOp l f x rd rs1 rs2 (bits w 27 5)
  else .trap s 2 (some w)

/-- R138: one fetched instruction. -/
def State.runWord (s : State) (l : Launch) (f : Nat) (x : Finger) (w len : Nat) : FngRes :=
  let op := w % 128
  if op = 0x0B then s.xfCustom0 l f x w
  else if op = 0x2B then s.xfCustom1 l f x w
  else match s.rvScalar l f x w len with
    | some r => r
    | none => if op = 0x57 ∨ op = 0x07 ∨ op = 0x27 then s.rvVector l f x w else .trap s 2 (some w)

end Sys2Proof.Machine
end

