-- ==== Sys2Proof/Machine/Finger.lean ====
section
/-! DEFINITION. Launches (R145 to R150), their faults (R161, R162), barriers, transfers, and the commands of the
Fingers. -/

namespace Sys2Proof.Machine

/-! ## Launch checks and placement (R146, R147) -/

/-- R223: the swap store's granules. -/
def State.inSwapStore (s : State) (g : Nat) : Bool :=
  let b := s.fld Reg.QUE_SWAP_GRAN 0 6
  decide (b ≤ g) && decide (g < b + 5)

/-- The 1 MiB granules of a launch's scratch region. -/
def scrGranules (off n : Nat) : List Nat := (List.range (n / 0x100000)).map (· + off / 0x100000)

/-- R146, R223: the FNG_REJECT bits of a descriptor that do not depend on where the launch is placed. -/
def State.launchMask (s : State) (q : Request) (d : Bytes) : Nat :=
  let mesh := (fieldLE d 1 1).testBit 0
  let groups := fieldLE d 2 1
  let mw := fieldLE d 3 1
  let code := fieldLE d 4 4
  let entry := fieldLE d 8 4
  let shared := fieldLE d 0x0C 4
  let inB := fieldLE d 0x28 8
  let inN := fieldLE d 0x30 8
  let outB := fieldLE d 0x38 8
  let outN := fieldLE d 0x40 8
  let so := fieldLE d 0x48 4
  let sn := fieldLE d 0x4C 4
  let outside (b n : Nat) : Bool := n != 0 && (decide (b < umBase) || decide (umEnd < b + n))
  let shapeOk := (if mesh then decide (1 ≤ groups) && decide (groups ≤ 16) && decide (1 ≤ mw) && decide (mw ≤ 4) &&
        decide (groups % mw = 0) && decide (groups / mw ≤ 4)
      else decide (1 ≤ groups) && decide (groups ≤ 64) && mw == 0) &&
    decide (code % 64 = 0) && decide (64 ≤ code) && decide (code ≤ 16384) && decide (entry % 2 = 0) && decide (entry < code) &&
    decide (shared % 65536 = 0) && decide (shared ≤ 2097152) && decide (fieldLE d 0x20 4 ≤ 4096) && decide (1 ≤ fieldLE d 0x24 4)
  let addrOk := [fieldLE d 0x10 8, fieldLE d 0x18 8, inB, outB, inN, outN].all (fun a => decide (a % 64 = 0))
  let windowBad := outside inB inN || outside outB outN ||
    (inN != 0 && outN != 0 && decide (inB < outB + outN) && decide (outB < inB + inN))
  let scrBad := decide (so % 0x100000 ≠ 0) || decide (sn % 0x100000 ≠ 0) || decide (0x3000000 < so + sn) ||
    (scrGranules so sn).any s.inSwapStore
  let part := s.ctxPart q.ctx
  let resNz := decide (4 ≤ fieldLE d 1 1) || ((d.drop 0x50).take 48).any (fun b => b != 0)
  if fieldLE d 0 1 ≠ 0x50 then 1
  else b2n (!shapeOk) * 2 + b2n (!addrOk) * 4 + b2n windowBad * 8 + b2n scrBad * 16 +
    b2n (decide (countIdx 64 (fun m => s.fld (Reg.MTN_PART m) 0 3 == part) < groups)) * 32 + b2n resNz * 64

/-- R147, R162, R447, R480: Mitten `m` may take a launch of context `c`. -/
def State.mittenFree (s : State) (c m : Nat) : Bool :=
  let t := s.selfTest (0x40 + m)
  s.fld (Reg.MTN_STATE m) 0 2 == 0 && s.fld (Reg.MTN_PART m) 0 3 == s.ctxPart c &&
  (!s.bit (Reg.MTN_PART m) 8 || s.ctxRt c) && !s.quarantined (0x40 + m) && s.gateOn (0x40 + m) && t.target == 0 && !t.running

/-- R214: candidate Palms in order of preference. -/
def State.palmOrder (s : State) (inputs : List (Nat × Nat)) : Nat → List Nat → List Nat
  | 0, _ => []
  | n + 1, cands => match s.choosePalm cands inputs with
    | none => []
    | some p => p :: s.palmOrder inputs n (cands.filter (fun x => !(x == p)))

/-- R147, R149: the free Mittens of Palm `p` for a mesh of `w` × `h`, in group order. -/
def State.meshRect (s : State) (c w h p : Nat) : Option (List Nat) :=
  let at_ (pos g : Nat) : Nat := p * 16 + (pos / 4 + g / w) * 4 + pos % 4 + g % w
  (firstIdx 16 (fun pos => decide (pos % 4 + w ≤ 4) && decide (pos / 4 + h ≤ 4) &&
    (List.range (w * h)).all (fun g => s.mittenFree c (at_ pos g)))).map (fun pos => (List.range (w * h)).map (at_ pos))

/-- The Mittens a launch is placed on, in group order: lowest numbers first on the Palms that R214 prefers (DESIGN CHOICE, log
entry 44). -/
def State.placeLaunch (s : State) (q : Request) (d : Bytes) : Option (List Nat) :=
  let groups := fieldLE d 2 1
  let mw := fieldLE d 3 1
  let ins := [(fieldLE d 0x10 8, fieldLE d 4 4), (fieldLE d 0x18 8, fieldLE d 0x20 4), (fieldLE d 0x28 8, fieldLE d 0x30 8)]
  let order := s.palmOrder ins 4 (s.candidatePalms q)
  if (fieldLE d 1 1).testBit 0 then order.findSome? (s.meshRect q.ctx mw (groups / mw))
  else
    let free (p : Nat) : List Nat := ((List.range 16).map (· + p * 16)).filter (s.mittenFree q.ctx)
    match order.find? (fun p => decide (groups ≤ (free p).length)) with
    | some p => some ((free p).take groups)
    | none =>
      let all := order.flatMap free
      if groups ≤ all.length then some (all.take groups) else none

/-- R146: every granule of the scratch region is owned by the context on every Palm the launch occupies. -/
def State.ownsScratch (s : State) (c so sn : Nat) (palms : List Nat) : Bool :=
  palms.all (fun p => (scrGranules so sn).all (fun g => s.regN (Reg.FNG_SCR_OWN p g) == c + 256))

/-- R145, R147: a launch whose Mittens are claimed and whose Fingers have not started. -/
def newLaunch (c : Nat) (d : Bytes) (ms : List Nat) : Launch :=
  ⟨c, ms, fieldLE d 3 1, (fieldLE d 1 1).testBit 1, fieldLE d 8 4, fieldLE d 0x0C 4, [], [],
    fieldLE d 0x28 8, fieldLE d 0x30 8, fieldLE d 0x38 8, fieldLE d 0x40 8, fieldLE d 0x48 4, fieldLE d 0x4C 4, false, false⟩

/-- R147: claim the Mittens. -/
def State.claimLaunch (s : State) (r : Nat) (q : Request) (d : Bytes) (ms : List Nat) : State :=
  let l := newLaunch q.ctx d ms
  let s1 := each ms (fun t m =>
    (t.setRegN (Reg.MTN_STATE m) (1 + q.ctx * 256 + (l.shared / 65536) * 2 ^ 16)).orReg (Reg.FNG_STATE (m / 16)) (2 ^ (m % 16))) s
  let q1 := l.palms.foldl (fun (x : Request) p => x.onPalm s p) q
  ({ s1 with launches := s1.launches.put r l }).putReq r { q1 with units := ms.map (0x40 + ·) }

/-- R146: the owners of the scratch granules as software last wrote them. -/
def State.applyScrOwn (s : State) : State :=
  iter 4 (fun t p => t.applyShadows (Reg.FNG_SCR_OWN p 0) (Reg.FNG_SCR_OWN p 48)) s

/-- R147: a launch leaves its ring when its Mittens are free, or to be refused; a dispatched launch that has not claimed its
Mittens yet goes before it. -/
def State.launchRoom (s : State) (q : Request) : Bool :=
  let d := s.peek q.cmdAddr 128
  q.kind != 5 || s.launchMask q d != 0 ||
  ((s.placeLaunch q d).isSome &&
    s.que.reqs.entries.all (fun e => !(e.2.kind == 5 && e.2.phase == .running) || (s.launches.find e.1).isSome))

/-- FINGER_LAUNCH (R146): check the descriptor and, where Mittens are free, claim them. -/
def State.fingerLaunch (s : State) (r : Nat) : State :=
  match s.engReq r [5] with
  | none => s
  | some q =>
    if (s.launches.find r).isSome then s
    else
      let d := s.peek q.cmdAddr 128
      let p0 := (s.candidatePalms q).headD 0
      let m := s.launchMask q d
      if m ≠ 0 then s.engineRefuse r q (Reg.FNG_REJECT p0) (Reg.FNG_REJECT_DESC p0) m
      else
        let s1 := s.applyScrOwn
        match s1.placeLaunch q d with
        | none => s1
        | some ms =>
          let palms := (newLaunch q.ctx d ms).palms
          if s1.ownsScratch q.ctx (fieldLE d 0x48 4) (fieldLE d 0x4C 4) palms then s1.claimLaunch r q d ms
          else s1.engineRefuse r q (Reg.FNG_REJECT (palms.headD 0)) (Reg.FNG_REJECT_DESC (palms.headD 0)) 16

/-- R148: the state in which a Finger starts. -/
def Launch.startFinger (l : Launch) (r g i : Nat) : Finger :=
  let (x, y) := l.meshPos g i
  let regs := (List.replicate 32 (0 : BitVec 32)).set 2 0x18000#32 |>.set 10 (BitVec.ofNat 32 (g * 64 + i))
    |>.set 11 (BitVec.ofNat 32 g) |>.set 12 (BitVec.ofNat 32 x) |>.set 13 (BitVec.ofNat 32 y)
  { launch := r, run := 1, pc := l.entry, x := regs, fr := List.replicate 32 0, v := List.replicate 32 0,
    csr := SMap.set csrReset [] 0xF14 (g * 64 + i), resv := none, inbox := [[], [], [], []],
    tickets := List.replicate 8 none, wait := .none, retired := 0 }

/-- The memory without the bytes from `lo` up to `hi`. -/
def Memory.clear (m : Memory) (lo hi : Nat) : Memory := m.filter (fun e => decide (e.1 < lo) || decide (hi ≤ e.1))

/-- R148: the Fingers of group `g` start, in an empty Mitten. -/
def State.startGroup (s : State) (r : Nat) (l : Launch) (g : Nat) : State :=
  let m := nth 0 l.groups g
  let t := { s with
    lmem := Memory.clear s.lmem (m * 64 * 0x8000) ((m + 1) * 64 * 0x8000),
    smem := Memory.clear s.smem (m * 0x200000) ((m + 1) * 0x200000),
    mqueues := s.mqueues.filter (fun e => !(e.1 / 16 == m)) }
  iter 64 (fun u i => u.putFng (m * 64 + i) (l.startFinger r g i)) (t.setFld (Reg.MTN_STATE m) 0 2 2)

/-- R147, R148: every Finger of the launch starts at ENTRY. -/
def State.startLaunch (s : State) (r : Nat) (q : Request) (l : Launch) (code arg : Bytes) : State :=
  let l1 := { l with code := code, arg := arg, started := true }
  let s1 := each l.palms (fun t p => t.applyShadow (Reg.FNG_STALL_LIMIT p)) s
  let s2 := iter l.groups.length (fun t g => t.startGroup r l1 g) s1
  (({ s2 with launches := s2.launches.put r l1 }).putReq r { q with outs := [(l.outBase, l.outBytes)] })

/-- LAUNCH_START (R147). -/
def State.launchStart (s : State) (r : Nat) : State :=
  let s0 := s.fingerLaunch r
  match s0.engReq r [5], s0.launches.find r with
  | some q, some l =>
    if l.started then s0
    else
      let d := s0.peek q.cmdAddr 128
      let code := (fieldLE d 0x10 8, fieldLE d 4 4)
      let arg := (fieldLE d 0x18 8, fieldLE d 0x20 4)
      let (s1, w) := s0.engineReads r q (nth 0 l.groups 0 / 16) [code, arg] []
      match w with
      | .regulated => s1
      | .pending => s1
      | .failed st => ((s1.havocOuts q [(l.outBase, l.outBytes)]).releaseReq r q).endReq r st 0 false
      | .ready => match s1.req r with
        | none => s1
        | some q1 => s1.startLaunch r q1 l (s1.peek code.1 code.2) (s1.peek arg.1 arg.2)
  | _, _ => s0

/-! ## Faults (R161) -/

/-- The first fault of a Palm's Finger block is recorded. -/
def State.noteFngFault (s : State) (p cause c m f : Nat) (pc tval : Nat) : State :=
  if s.bit (Reg.FNG_FAULT p) 63 then s
  else ((s.setRegN (Reg.FNG_FAULT p) (cause + c * 256 + (m % 16) * 2 ^ 16 + f * 2 ^ 20 + 2 ^ 63)).setRegN (Reg.FNG_FAULT_PC p)
    (pc % 2 ^ 32)).setRegN (Reg.FNG_FAULT_TVAL p) (tval % 2 ^ 32)

/-- A trap of Finger `f` ends its launch; a TVAL that the spec does not state is a free value (log entry 45). -/
def State.fngTrap (s : State) (f : Nat) (x : Finger) (l : Launch) (cause : Nat) (tval : Option Nat) : State :=
  let p := palmOf f
  let tv := match tval with | some v => v | none => (Config.freeWord s.fresh).toNat
  let s1 := (s.freshN 1).noteFngFault p cause l.ctx (mittenOf f) (f % 64) x.pc tv
  let s2 := s1.record 2 9 8 (0x18 + p) (some l.ctx) 0xFFFF 0
  let s3 := if cause = 0x23 then s2.startTest (0x40 + mittenOf f) else s2
  let s4 := match s3.req x.launch with
    | none => s3
    | some q => (s3.releaseReq x.launch q).endReq x.launch 8 0 false
  s4.setReg (Reg.FNG_CNT_FAULT p) (s.reg (Reg.FNG_CNT_FAULT p) + 1)

/-- A launch-wide event (STALL, BUDGET) ends a launch: recorded in the Palm of group 0, with free values for what the spec does
not state (log entry 45). -/
def State.launchTrap (s : State) (r : Nat) (l : Launch) (cause : Nat) : State :=
  let m := nth 0 l.groups 0
  let p := m / 16
  let free (i : Nat) : Nat := (Config.freeWord (s.fresh + i)).toNat
  let s1 := (s.freshN 4).noteFngFault p cause l.ctx (free 0 % 16) (free 1 % 64) (free 2) (free 3)
  let s2 := s1.record 2 9 8 (0x18 + p) (some l.ctx) 0xFFFF 0
  match s2.req r with
  | none => s2
  | some q => ((s2.releaseReq r q).endReq r 8 0 false).setReg (Reg.FNG_CNT_FAULT p) (s.reg (Reg.FNG_CNT_FAULT p) + 1)

/-! ## Running Fingers -/

/-- A Finger of a launch that has started and is not halted, which has not exited. -/
def State.fngLive (s : State) (f : Nat) : Option (Finger × Launch) :=
  match s.fingers.find f with
  | none => none
  | some x => match s.launches.find x.launch with
    | none => none
    | some l => if x.run = 1 ∧ l.started ∧ l.halted = false then some (x, l) else none

/-- A Finger that may execute its next instruction. -/
def State.fngReady (s : State) (f : Nat) : Option (Finger × Launch) :=
  match s.fngLive f with
  | none => none
  | some (x, l) => if x.wait = .none then some (x, l) else none

/-- Every Finger of a launch has exited. -/
def State.allExited (s : State) (r : Nat) : Bool :=
  s.fingers.entries.all (fun e => !(e.2.launch == r) || e.2.run == 2)

/-- R150: a launch ends with OK when every Finger has exited. -/
def State.endLaunch (s : State) (r : Nat) : State :=
  match s.launches.find r with
  | none => s
  | some l =>
    if s.allExited r then
      (each l.palms (fun t p => t.bump (Reg.FNG_CNT_LAUNCH p)) (s.freeLaunch r l)).endReq r 0 0 false
    else s

/-- R161: with DEBUG set a breakpoint halts every Finger; the Finger continues after it (DESIGN CHOICE, log entry 46). -/
def State.haltLaunch (s : State) (f : Nat) (x : Finger) (l : Launch) (len : Nat) : State :=
  ({ s with launches := s.launches.put x.launch { l with halted := true } }).putFng f (x.adv len)

/-- A launch ends with a tier status, and its context is not torn down (R160); an access that R168 refuses ends it with
CONTEXT_FAULT. -/
def State.launchFail (s : State) (r st : Nat) : State :=
  match s.req r with
  | none => s
  | some q => (s.releaseReq r q).endReq r st 0 false

/-- Run one operation of Finger `f`, `len` bytes long; a quarantined Mitten's launch ends (R480). -/
def State.fngRun (s : State) (f len : Nat) (op : Launch → Finger → FngRes) : State :=
  match s.fngReady f with
  | none => s
  | some (x, l) => if s.quarantined (0x40 + f / 64) then s.launchFail x.launch 0x0A else match op l x with
    | .ok t y => if y.run = 2 then (t.putFng f y).endLaunch x.launch else t.putFng f y
    | .trap t cause tval =>
      if cause = 3 ∧ l.debug then t.haltLaunch f x l len else t.fngTrap f x l cause tval

/-! ## Transfers (R159, R160) -/

/-- Identifies what a ticket waits for among the waits on tile blocks. -/
def ticketPart (f t : Nat) : Nat := 1000 + f * 8 + t

/-- Replace a ticket of Finger `f`. -/
def State.setTicket (s : State) (f t : Nat) (y : Option Transfer) : State :=
  let x := s.fngOf f
  s.putFng f { x with tickets := x.tickets.set t y }

/-- Make a transfer's unified-range access where the regulators allow it (R215); a write stores its data when its blocks are
ready (R177). -/
def State.beginTransfer (s : State) (f t r : Nat) (q : Request) (y : Transfer) : State :=
  let p := palmOf f
  let k := ticketPart f t
  if !s.mayAccess q.ctx p y.addr y.bytes y.write then s.regulate r k
  else
    let (s1, w) := if y.write then s.accessPrep q.ctx p y.addr y.bytes (some r) else s.accessRead q.ctx p y.addr y.bytes (some r)
    if w.status ≠ 0 then s1.launchFail r w.status
    else
      let s2 := (s.noteMigrate s1 r).newWaits w.waits r k 0
      if y.write ∧ w.ready = false then s2
      else
        let s3 := (s2.drawAll q.ctx p y.addr y.bytes y.write).unregulate r k
        let s4 := if y.write then (s3.accessWrite q.ctx p y.addr y.data (some r)).1 else s3
        s4.setTicket f t (some { y with begun := true })

/-- XF.XFER's read of the unified range begins at once, so that blocks start to migrate. -/
def State.beginReads (s : State) (f : Nat) : State :=
  iter 8 (fun u t =>
    let x := u.fngOf f
    match nth none x.tickets t, u.req x.launch with
    | some y, some q => if y.begun ∨ y.write then u else u.beginTransfer f t x.launch q y
    | _, _ => u) s

/-- A Finger that waits for a ticket that is idle, or for any idle ticket, goes on. -/
def State.ticketIdle (s : State) (f : Nat) : State :=
  match s.fngLive f with
  | none => s
  | some (x, l) => match x.wait with
    | .ticket k => if (nth none x.tickets k).isNone then s.putFng f ({ x with wait := .none }.adv 4) else s
    | .xfer rd a =>
      if x.idleTickets.isEmpty then s else
      let s1 := s.putFng f { x with wait := .none }
      (match s1.xfXferOp l f { x with wait := .none } rd a with
        | .ok u z => u.putFng f z
        | .trap u c v => u.fngTrap f x l c v).beginReads f
    | _ => s

/-- The data of a transfer lands and its ticket is idle. -/
def State.finishTransfer (s : State) (f t : Nat) (y : Transfer) : State :=
  let s1 := (s.setTicket f t none).hold y.addr y.bytes false
  let s2 := if y.write then s1
    else
      let bs := tab y.bytes (fun i =>
        if nth 0 y.data i = 0 then Memory.byte s.umem (y.addr + i) else Config.freeByte (s.fresh + i))
      (s1.freshN y.bytes).spaceStore f y.space y.key bs
  s2.ticketIdle f

/-- TRANSFER_DONE. -/
def State.transferDone (s : State) (f t : Nat) (res : MemRead) : State :=
  let x0 := s.fngOf f
  match nth none x0.tickets t, s.req x0.launch with
  | some y0, some q =>
    if s.umr.waits.any (fun w => w.req == x0.launch && w.part == ticketPart f t) then s
    else
      let s1 := if y0.begun then s else s.beginTransfer f t x0.launch q y0
      match nth none (s1.fngOf f).tickets t with
      | none => s1
      | some y =>
        if y.begun = false ∨ s1.umr.waits.any (fun w => w.req == x0.launch && w.part == ticketPart f t) then s1
        else
          let pg := pageOf y.addr
          let b := blockIn y.addr
          match res with
          | .uncorrectable =>
            let up := match s1.page pg with | some p => p.resident.testBit b | none => false
            (s1.uncorrectable pg b up).launchFail x0.launch 6
          | .corrected => (s1.corrected (s1.tierOf pg b)).finishTransfer f t y
          | .clean => s1.finishTransfer f t y
  | _, _ => s

/-! ## Stalls, queues and barriers -/

/-- STALL_RESUME: the stalled instruction is tried again. -/
def State.stallResume (s : State) (f : Nat) : State :=
  match s.fngLive f with
  | none => s
  | some (x, l) =>
    let go (r : FngRes) : State := match r with
      | .ok t y => t.putFng f y
      | .trap t c v => t.fngTrap f x l c v
    match x.wait with
    | .send v d => go (s.xfSendOp l f x v d)
    | .recv rd d => go (s.xfRecvOp x rd d)
    | .msg => go (s.xfWaitmsgOp x)
    | .push q v => go (s.xfQpushOp f x q v)
    | .pop rd q => go (s.xfQpopOp f x rd q)
    | _ => s

/-- Fingers that have not exited among those that `p` selects. -/
def State.liveFingers (s : State) (r : Nat) (p : Nat → Bool) : List (Nat × Finger) :=
  s.fingers.entries.filter (fun e => e.2.launch == r && e.2.run == 1 && p e.1)

/-- Every Finger of the launch that waits in barrier `b`, among those that `p` selects, goes on past it. -/
def State.goOn (s : State) (r : Nat) (b : FngWait) (p : Nat → Bool) : State :=
  s.mapFng (fun g y => if y.launch = r ∧ y.run = 1 ∧ y.wait = b ∧ p g then { y with wait := .none }.adv 4 else y)

/-- R158: barrier `b` of the Fingers that `p` selects may release: some Finger waits in it, and every one that has not exited has
arrived; an exiting Finger counts as arrived. -/
def State.allArrived (s : State) (r : Nat) (b : FngWait) (p : Nat → Bool) : Bool :=
  let fs := s.liveFingers r p
  fs.any (fun e => e.2.wait == b) && fs.all (fun e => e.2.wait == b || e.2.wait == .drain)

/-- R158: a Mitten barrier releases. -/
def State.barRelease (s : State) (r m : Nat) : State :=
  if s.allArrived r .bar (fun f => f / 64 == m) then
    (s.goOn r .bar (fun f => f / 64 == m)).setReg (Reg.MTN_CNT_BAR m) (s.reg (Reg.MTN_CNT_BAR m) + 1)
  else s

/-- R158: a launch-wide barrier releases, in each of its Mittens. -/
def State.gbarRelease (s : State) (r : Nat) (l : Launch) : State :=
  if s.allArrived r .gbar (fun _ => true) then each l.groups (fun t m => t.bump (Reg.MTN_CNT_BAR m)) (s.goOn r .gbar (fun _ => true))
  else s

/-- BARRIER_RELEASE. -/
def State.barrierRelease (s : State) (r : Nat) (m : Option (Fin 64)) : State :=
  match s.launches.find r with
  | none => s
  | some l =>
    if l.halted then s
    else match m with
      | some k => if l.groups.contains k.val then s.barRelease r k.val else s
      | none => s.gbarRelease r l

/-- R157: queue `q` of a Mitten is drained, by Fingers that no breakpoint halts (R161). -/
def State.queueDry (s : State) (m q : Nat) : Bool :=
  let fs := s.fingers.entries.filter (fun e => e.1 / 64 == m && e.2.run == 1)
  s.mqueue m q == [] && !fs.isEmpty && fs.all (fun e => (s.fngLive e.1).isSome && match e.2.wait with | .pop _ k => k == q | _ => false)

/-- QUEUE_DRAINED: every waiting XF.QPOP returns 0xFFFF_FFFF. -/
def State.queueDrained (s : State) (m q : Nat) : State :=
  if s.queueDry m q then
    s.mapFng (fun g y => match y.wait with
      | .pop rd _ => if g / 64 = m ∧ y.run = 1 then ({ y with wait := .none }.setX rd 0xFFFFFFFF).adv 4 else y
      | _ => y)
  else s

/-- R161: a Finger is stalled in the sense of STALL. -/
def FngWait.stalled : FngWait → Bool
  | .send _ _ => true
  | .recv _ _ => true
  | .msg => true
  | .bar => true
  | .gbar => true
  | .push _ _ => true
  | .pop _ _ => true
  | _ => false

/-- STALL_LIMIT. -/
def State.stallLimit (s : State) (r : Nat) : State :=
  match s.launches.find r, s.req r with
  | some l, some _ =>
    let fs := s.liveFingers r (fun _ => true)
    let dry := l.groups.any (fun m => (List.range 16).any (fun q => s.queueDry m q))
    if l.started ∧ l.halted = false ∧ fs ≠ [] ∧ fs.all (fun e => e.2.wait.stalled) ∧ dry = false then s.launchTrap r l 0x21 else s
  | _, _ => s

/-- LAUNCH_BUDGET. -/
def State.launchBudget (s : State) (r : Nat) : State :=
  match s.launches.find r, s.req r with
  | some l, some _ => if l.started ∧ l.halted = false then s.launchTrap r l 0x22 else s
  | _, _ => s

/-- DEBUG_RESUME: the debug host lets a halted launch go on, or ends it as a breakpoint (R161). -/
def State.debugResume (s : State) (f : Nat) (resume : Bool) : State :=
  match s.fingers.find f with
  | none => s
  | some x => match s.launches.find x.launch with
    | none => s
    | some l =>
      if l.halted then
        (if resume then (s.liveFingers x.launch (fun _ => true)).foldl (fun t e => t.ticketIdle e.1)
            { s with launches := s.launches.put x.launch { l with halted := false } }
         else s.fngTrap f x l 3 none)
      else s

/-- EXIT_DRAIN_DONE (R150). -/
def State.exitDrained (s : State) (f : Nat) : State :=
  match s.fngLive f with
  | none => s
  | some (x, _) =>
    if x.wait = .drain ∧ x.idleTickets.length = 8 then
      (s.putFng f { x with run := 2, wait := .none, retired := x.retired + 1 }).endLaunch x.launch
    else s

/-- Fetch the word at pc and run it (R138). -/
def State.fetchRun (s : State) (f : Nat) (x : Finger) (l : Launch) : State :=
  match l.fetchWord x.pc with
  | .inr c => s.fngTrap f x l c (some x.pc)
  | .inl (w, len) => (s.fngRun f len (fun l x => s.runWord l f x w len)).beginReads f

/-- FINGER_INSTRUCTION (R138, R143): fetch and execute; a corrected memory error counts, an uncorrectable one is a fault. -/
def State.fingerInstruction (s : State) (f : Nat) (res : MemRead) : State :=
  match s.fngReady f with
  | none => s
  | some (x, l) => match res with
    | .uncorrectable => s.fngTrap f x l 0x23 none
    | .corrected => (s.fetchRun f x l).bump (Reg.FNG_CNT_ECC_CORR (palmOf f))
    | .clean => s.fetchRun f x l

/-! ## The commands -/

/-- REQUEST_DISPATCH (R147, R201): a launch waits in its ring for its Mittens. -/
def execRequestDispatch (r : Nat) (s : State) : Host.Outcome State Fault Refusal :=
  done s (s.work (fun u => u.requestDispatch r State.launchRoom))

/-- FINGER_LAUNCH (R146). -/
def execFingerLaunch (r : Nat) (s : State) : Host.Outcome State Fault Refusal := done s (s.work (fun u => u.fingerLaunch r))

/-- LAUNCH_START (R147). -/
def execLaunchStart (r : Nat) (s : State) : Host.Outcome State Fault Refusal := done s (s.work (fun u => u.launchStart r))

/-- FINGER_INSTRUCTION (R138). -/
def execFingerInstruction (f : Fin 4096) (res : MemRead) (s : State) : Host.Outcome State Fault Refusal :=
  done s (s.work (fun u => u.fingerInstruction f.val res))

/-- One Finger runs an instruction named by a command: the operands stand for those of the word at pc (log entry 47). -/
def State.fngCommand (s : State) (f : Nat) (op : Launch → Finger → FngRes) : Host.Outcome State Fault Refusal :=
  done s (s.work (fun u => u.fngRun f 4 op))

/-- VFREDUSUM (R140). -/
def execVfredusum (f : Fin 4096) (vd vs2 vs1 : Fin 32) (vm : Bool) (s : State) : Host.Outcome State Fault Refusal :=
  s.fngCommand f (fun _ x => s.vfRedSum x vd vs2 vs1 vm false
    (0x57 + vd.val * 2 ^ 7 + 2 ^ 12 + vs1.val * 2 ^ 15 + vs2.val * 2 ^ 20 + b2n vm * 2 ^ 25 + 2 ^ 26))

/-- LOAD_RESERVED (R151). -/
def execLoadReserved (f : Fin 4096) (rd rs1 : Fin 32) (s : State) : Host.Outcome State Fault Refusal :=
  s.fngCommand f (fun l x => s.loadReservedOp l f x rd rs1 4)

/-- STORE_CONDITIONAL (R151). -/
def execStoreConditional (f : Fin 4096) (rd rs1 rs2 : Fin 32) (s : State) : Host.Outcome State Fault Refusal :=
  s.fngCommand f (fun l x => s.storeCondOp l f x rd rs1 rs2 4)

/-- ATOMIC_MEMORY_OP (R151). -/
def execAtomicMemoryOp (f : Fin 4096) (op : AmoOp) (rd rs1 rs2 : Fin 32) (s : State) : Host.Outcome State Fault Refusal :=
  s.fngCommand f (fun l x => s.fatomic l f x (x.getX rs1) rd 4 (fun m => some (amoVal op m (x.getX rs2))))

/-- FENCE (R151): stores are visible at once in this model (log entry 48), so a fence only retires. -/
def execFence (f : Fin 4096) (_pred _succ : Fin 16) (s : State) : Host.Outcome State Fault Refusal :=
  s.fngCommand f (fun _ x => .ok s (x.adv 4))

/-- FENCE_I (R142): no effect. -/
def execFenceI (f : Fin 4096) (s : State) : Host.Outcome State Fault Refusal := s.fngCommand f (fun _ x => .ok s (x.adv 4))

/-- XF_MERGE_W (R153). -/
def execXfMergeW (f : Fin 4096) (rd rs1 rs2 : Fin 32) (s : State) : Host.Outcome State Fault Refusal :=
  s.fngCommand f (fun l x => s.xfList l f x 0 false rd rs1 rs2)

/-- XF_UNION_W (R153). -/
def execXfUnionW (f : Fin 4096) (rd rs1 rs2 : Fin 32) (s : State) : Host.Outcome State Fault Refusal :=
  s.fngCommand f (fun l x => s.xfList l f x 1 false rd rs1 rs2)

/-- XF_ISECT_W (R153). -/
def execXfIsectW (f : Fin 4096) (rd rs1 rs2 : Fin 32) (s : State) : Host.Outcome State Fault Refusal :=
  s.fngCommand f (fun l x => s.xfList l f x 2 false rd rs1 rs2)

/-- XF_DIFF_W (R153). -/
def execXfDiffW (f : Fin 4096) (rd rs1 rs2 : Fin 32) (s : State) : Host.Outcome State Fault Refusal :=
  s.fngCommand f (fun l x => s.xfList l f x 3 false rd rs1 rs2)

/-- XF_MERGE_KV (R153). -/
def execXfMergeKv (f : Fin 4096) (rd rs1 rs2 : Fin 32) (s : State) : Host.Outcome State Fault Refusal :=
  s.fngCommand f (fun l x => s.xfList l f x 0 true rd rs1 rs2)

/-- XF_UNION_KV (R153). -/
def execXfUnionKv (f : Fin 4096) (rd rs1 rs2 : Fin 32) (s : State) : Host.Outcome State Fault Refusal :=
  s.fngCommand f (fun l x => s.xfList l f x 1 true rd rs1 rs2)

/-- XF_ISECT_KV (R153). -/
def execXfIsectKv (f : Fin 4096) (rd rs1 rs2 : Fin 32) (s : State) : Host.Outcome State Fault Refusal :=
  s.fngCommand f (fun l x => s.xfList l f x 2 true rd rs1 rs2)

/-- XF_DIFF_KV (R153). -/
def execXfDiffKv (f : Fin 4096) (rd rs1 rs2 : Fin 32) (s : State) : Host.Outcome State Fault Refusal :=
  s.fngCommand f (fun l x => s.xfList l f x 3 true rd rs1 rs2)

/-- XF_HPROBE (R154). -/
def execXfHprobe (f : Fin 4096) (rd rs1 rs2 : Fin 32) (s : State) : Host.Outcome State Fault Refusal :=
  s.fngCommand f (fun l x => s.xfHprobeOp l f x rd rs1 rs2)

/-- XF_HINSERT (R154). -/
def execXfHinsert (f : Fin 4096) (rd rs1 rs2 rs3 : Fin 32) (s : State) : Host.Outcome State Fault Refusal :=
  s.fngCommand f (fun l x => s.xfHinsertOp l f x rd rs1 rs2 rs3)

/-- XF_SEND (R155). -/
def execXfSend (f : Fin 4096) (rs1 rs2 : Fin 32) (s : State) : Host.Outcome State Fault Refusal :=
  s.fngCommand f (fun l x => s.xfSendOp l f x (x.getX rs1) (x.getX rs2))

/-- XF_TSEND (R155). -/
def execXfTsend (f : Fin 4096) (rd rs1 rs2 : Fin 32) (s : State) : Host.Outcome State Fault Refusal :=
  s.fngCommand f (fun l x => s.xfTsendOp l f x rd rs1 rs2)

/-- XF_RECV (R155). -/
def execXfRecv (f : Fin 4096) (rd rs1 : Fin 32) (s : State) : Host.Outcome State Fault Refusal :=
  s.fngCommand f (fun _ x => s.xfRecvOp x rd (x.getX rs1))

/-- XF_MSGSTAT (R155). -/
def execXfMsgstat (f : Fin 4096) (rd : Fin 32) (s : State) : Host.Outcome State Fault Refusal :=
  s.fngCommand f (fun _ x => .ok s ((x.setX rd x.msgStat).adv 4))

/-- XF_WAITMSG (R152). -/
def execXfWaitmsg (f : Fin 4096) (s : State) : Host.Outcome State Fault Refusal := s.fngCommand f (fun _ x => s.xfWaitmsgOp x)

/-- XF_BAR (R158): the Finger arrives and waits. -/
def execXfBar (f : Fin 4096) (s : State) : Host.Outcome State Fault Refusal :=
  s.fngCommand f (fun _ x => .ok s { x with wait := .bar })

/-- XF_GBAR (R158): the Finger arrives and waits. -/
def execXfGbar (f : Fin 4096) (s : State) : Host.Outcome State Fault Refusal :=
  s.fngCommand f (fun _ x => .ok s { x with wait := .gbar })

/-- XF_QPUSH (R157). -/
def execXfQpush (f : Fin 4096) (rs1 rs2 : Fin 32) (s : State) : Host.Outcome State Fault Refusal :=
  s.fngCommand f (fun _ x => s.xfQpushOp f x (x.getX rs1) (x.getX rs2))

/-- XF_QPOP (R157). -/
def execXfQpop (f : Fin 4096) (rd rs1 : Fin 32) (s : State) : Host.Outcome State Fault Refusal :=
  s.fngCommand f (fun _ x => s.xfQpopOp f x rd (x.getX rs1))

/-- XF_EXIT (R150). -/
def execXfExit (f : Fin 4096) (s : State) : Host.Outcome State Fault Refusal := s.fngCommand f (fun _ x => s.xfExitOp x)

/-- XF_XFER (R159): a read of the unified range begins at once. -/
def execXfXfer (f : Fin 4096) (rd rs1 : Fin 32) (s : State) : Host.Outcome State Fault Refusal :=
  done s (s.work (fun u => (u.fngRun f 4 (fun l x => u.xfXferOp l f x rd (x.getX rs1))).beginReads f))

/-- XF_XWAIT (R159). -/
def execXfXwait (f : Fin 4096) (rs1 : Fin 32) (s : State) : Host.Outcome State Fault Refusal :=
  s.fngCommand f (fun _ x => s.xfXwaitOp x (x.getX rs1))

/-- XF_XTEST (R159). -/
def execXfXtest (f : Fin 4096) (rd rs1 : Fin 32) (s : State) : Host.Outcome State Fault Refusal :=
  s.fngCommand f (fun _ x => s.xfXtestOp x rd (x.getX rs1))

/-- XF_AMOADD_F (R152). -/
def execXfAmoaddF (f : Fin 4096) (rd rs1 rs2 : Fin 32) (s : State) : Host.Outcome State Fault Refusal :=
  s.fngCommand f (fun l x => s.xfAtomic l f x 0 rd rs1 rs2)

/-- XF_AMOMIN_F (R152). -/
def execXfAmominF (f : Fin 4096) (rd rs1 rs2 : Fin 32) (s : State) : Host.Outcome State Fault Refusal :=
  s.fngCommand f (fun l x => s.xfAtomic l f x 1 rd rs1 rs2)

/-- XF_AMOMAX_F (R152). -/
def execXfAmomaxF (f : Fin 4096) (rd rs1 rs2 : Fin 32) (s : State) : Host.Outcome State Fault Refusal :=
  s.fngCommand f (fun l x => s.xfAtomic l f x 2 rd rs1 rs2)

/-- XF_AMOADD_H2 (R152). -/
def execXfAmoaddH2 (f : Fin 4096) (rd rs1 rs2 : Fin 32) (s : State) : Host.Outcome State Fault Refusal :=
  s.fngCommand f (fun l x => s.xfAtomic l f x 3 rd rs1 rs2)

/-- XF_AMOINCS (R152). -/
def execXfAmoincs (f : Fin 4096) (rd rs1 rs2 : Fin 32) (s : State) : Host.Outcome State Fault Refusal :=
  s.fngCommand f (fun l x => s.xfAtomic l f x 4 rd rs1 rs2)

/-- XF_AMOCAS (R152). -/
def execXfAmocas (f : Fin 4096) (rd rs1 rs2 rs3 : Fin 32) (s : State) : Host.Outcome State Fault Refusal :=
  s.fngCommand f (fun l x => s.xfCas l f x rd rs1 rs2 rs3)

/-- STALL_RESUME (R155, R157). -/
def execStallResume (f : Fin 4096) (s : State) : Host.Outcome State Fault Refusal :=
  done s (s.work (fun u => u.stallResume f.val))

/-- BARRIER_RELEASE (R158). -/
def execBarrierRelease (r : Nat) (m : Option (Fin 64)) (s : State) : Host.Outcome State Fault Refusal :=
  done s (s.work (fun u => u.barrierRelease r m))

/-- QUEUE_DRAINED (R157). -/
def execQueueDrained (m : Fin 64) (q : Fin 16) (s : State) : Host.Outcome State Fault Refusal :=
  done s (s.work (fun u => u.queueDrained m q))

/-- TRANSFER_DONE (R160). -/
def execTransferDone (f : Fin 4096) (t : Fin 8) (res : MemRead) (s : State) : Host.Outcome State Fault Refusal :=
  done s (s.work (fun u => u.transferDone f t res))

/-- EXIT_DRAIN_DONE (R150). -/
def execExitDrainDone (f : Fin 4096) (s : State) : Host.Outcome State Fault Refusal :=
  done s (s.work (fun u => u.exitDrained f.val))

/-- STALL_LIMIT (R161). -/
def execStallLimit (r : Nat) (s : State) : Host.Outcome State Fault Refusal := done s (s.work (fun u => u.stallLimit r))

/-- LAUNCH_BUDGET (R161). -/
def execLaunchBudget (r : Nat) (s : State) : Host.Outcome State Fault Refusal := done s (s.work (fun u => u.launchBudget r))

/-- DEBUG_RESUME (R161). -/
def execDebugResume (f : Fin 4096) (resume : Bool) (s : State) : Host.Outcome State Fault Refusal :=
  done s (s.work (fun u => u.debugResume f.val resume))

end Sys2Proof.Machine
end

