-- ==== Sys2Proof/Machine/Track.lean ====
section
/-! DEFINITION. The track table: prediction, gating, association, update, births, deletions and contradictions (R281 to
R286). The order of the FP32 operations inside each matrix expression is the model's (DESIGN CHOICE, log entry 57): every
product chain runs over ascending indexes with fused multiply-adds from +0, and sums are taken left to right as written. -/

namespace Sys2Proof.Machine

/-! ## FP32 vectors and matrices -/

/-- An inner product. -/
def dotF (a b : List Nat) : Nat := (a.zip b).foldl (fun acc p => f32Fma p.1 p.2 acc) 0

/-- Entry (i, j) of a matrix. -/
def entryF (m : List (List Nat)) (i j : Nat) : Nat := nth 0 (nth [] m i) j

/-- A matrix from its entries. -/
def matF (r c : Nat) (f : Nat → Nat → Nat) : List (List Nat) := tab r (fun i => tab c (fun j => f i j))

/-- Transpose of an r × c matrix. -/
def transF (c : Nat) (m : List (List Nat)) : List (List Nat) := tab c (fun j => m.map (fun row => nth 0 row j))

/-- Product with a matrix of `c` columns. -/
def mulF (c : Nat) (a b : List (List Nat)) : List (List Nat) :=
  let bt := transF c b
  a.map (fun row => bt.map (fun col => dotF row col))

/-- Elementwise sum. -/
def addF (a b : List (List Nat)) : List (List Nat) := List.zipWith (fun x y => List.zipWith f32Add x y) a b

/-- Identity minus a matrix. -/
def eyeMinus (n : Nat) (a : List (List Nat)) : List (List Nat) :=
  matF n n (fun i j => f32Sub (if i = j then f32One else 0) (entryF a i j))

/-- Cholesky factor of a symmetric n × n matrix, row by row; none when it is not positive definite. -/
def cholesky (n : Nat) (a : List (List Nat)) : Option (List (List Nat)) :=
  (List.range n).foldl (fun acc i => acc.bind (fun l =>
    let row := (List.range i).foldl (fun (r : List Nat) j =>
      let s := (List.range j).foldl (fun v k => f32Fma (f32Neg (nth 0 r k)) (entryF l j k) v) (entryF a i j)
      r ++ [f32Div s (entryF l j j)]) []
    let d := row.foldl (fun v x => f32Fma (f32Neg x) x v) (entryF a i i)
    if f32Lt 0 d ∧ f32Fin d then some (l ++ [row ++ [f32Sqrt d]]) else none)) (some [])

/-- Inverse of a lower triangular matrix. -/
def lowerInv (n : Nat) (l : List (List Nat)) : List (List Nat) :=
  transF n (tab n (fun c => (List.range n).foldl (fun (col : List Nat) i =>
    let s := (List.range i).foldl (fun v k => f32Fma (f32Neg (entryF l i k)) (nth 0 col k) v) (if i = c then f32One else 0)
    col ++ [f32Div s (entryF l i i)]) []))

/-- Inverse of a symmetric positive definite matrix by its Cholesky factorisation. -/
def symInv (n : Nat) (a : List (List Nat)) : Option (List (List Nat)) :=
  (cholesky n a).map (fun l =>
    let m := lowerInv n l
    mulF n (transF n m) m)

/-! ## Model and prediction (R281) -/

/-- Blocks of the state: 2 for CV, 3 for CA. -/
def State.trkBlocks (s : State) : Nat := 2 + s.fld Reg.ATU_TRK_MODE 0 1

/-- Axes. -/
def State.trkDims (s : State) : Nat := s.fld Reg.ATU_TRK_MODE 1 2

/-- dt^k ÷ k! style factors of F: entry of block row `i`, block column `j`. -/
def transition (i j dt : Nat) : Nat :=
  if j < i then 0 else if i = j then f32One else if j = i + 1 then dt else f32Mul (f32Mul dt dt) 0x3F000000

/-- R281: Q of one axis without q: block entry (i, j) for `b` blocks. -/
def noiseAxis (b i j dt : Nat) : Nat :=
  let pow (k : Nat) : Nat := (List.range (k - 1)).foldl (fun v _ => f32Mul v dt) dt
  let frac (k d : Nat) : Nat := f32Div (pow k) (f32OfInt (d : Int))
  let lo := Nat.min i j
  let hi := Nat.max i j
  if b = 2 then (if hi = 0 then frac 3 3 else if lo = 0 then frac 2 2 else dt)
  else if hi = 0 then frac 5 20
  else if hi = 1 then (if lo = 0 then frac 4 8 else frac 3 3)
  else if lo = 0 then frac 3 6 else if lo = 1 then frac 2 2 else dt

/-- R281: a track predicted to the instant `t` (2⁻¹⁶ ns). -/
def State.predict (s : State) (t : Nat) (x : Track) : Track :=
  if t ≤ x.at_ then x
  else
    let b := s.trkBlocks
    let dims := s.trkDims
    let n := b * dims
    let q := s.fld Reg.ATU_TRK_NOISE 0 32
    let dt := f32Ratio ((t - x.at_ : Nat) : Int) (-16) 1000000000
    let fm := matF n n (fun i j => if i % dims = j % dims then transition (i / dims) (j / dims) dt else 0)
    let qm := matF n n (fun i j => if i % dims = j % dims then f32Mul q (noiseAxis b (i / dims) (j / dims) dt) else 0)
    { x with
      at_ := t,
      x := fm.map (fun row => dotF row x.x),
      p := addF (mulF n (mulF n fm x.p) (transF n fm)) qm }

/-! ## Detections, gating and association (R282) -/

/-- A detection: position, covariance, class. -/
structure Detection where
  z : List Nat
  r : List (List Nat)
  cls : Nat
  deriving DecidableEq, Repr

/-- Place of entry (i, j) in the upper triangle of an n × n matrix, row by row. -/
def triIndex (n i j : Nat) : Nat :=
  let lo := Nat.min i j
  let hi := Nat.max i j
  lo * n - lo * (lo + 1) / 2 + hi

/-- R286: a detection record; with two axes the covariance is that of the first two (DEDUCED, log entry 57). -/
def detection (dims : Nat) (b : Bytes) : Detection :=
  { z := tab dims (fun i => fieldLE b (4 * i) 4),
    r := matF dims dims (fun i j => fieldLE b (12 + 4 * triIndex 3 i j) 4),
    cls := fieldLE b 0x24 2 }

/-- The inverse of S := H·P·Hᵀ + R, if S is positive definite. -/
def Track.sInv (x : Track) (dims : Nat) (z : Detection) : Option (List (List Nat)) :=
  symInv dims (addF ((x.p.take dims).map (fun row => row.take dims)) z.r)

/-- The innovation ν := z − H·x. -/
def Track.innov (x : Track) (z : Detection) : List Nat := List.zipWith f32Sub z.z x.x

/-- R282: d² of a pair; none when S is not positive definite. -/
def Track.dist (x : Track) (dims : Nat) (z : Detection) : Option Nat :=
  (x.sInv dims z).map (fun si =>
    let v := x.innov z
    dotF v (si.map (fun row => dotF row v)))

/-- R282: a taken pair updates the track in Joseph form. -/
def Track.joined (x : Track) (dims : Nat) (z : Detection) : Track :=
  match x.sInv dims z with
  | none => x
  | some si =>
    let n := x.x.length
    let k := mulF dims (x.p.map (fun row => row.take dims)) si
    let a := eyeMinus n (k.map (fun row => row ++ List.replicate (n - dims) 0))
    { x with
      x := List.zipWith (fun xi row => f32Add xi (dotF row (x.innov z))) x.x k,
      p := addF (mulF n (mulF n a x.p) (transF n a)) (mulF n (mulF dims k z.r) (transF dims k)),
      cls := z.cls }

/-- A gated pair: its distance, slot and detection. -/
structure GatePair where
  d2 : Nat
  slot : Nat
  det : Nat
  deriving DecidableEq, Repr

/-- R282: the order in which pairs are taken. -/
def GatePair.before (a b : GatePair) : Bool :=
  if f32Lt a.d2 b.d2 then true else if f32Lt b.d2 a.d2 then false
  else if a.slot ≠ b.slot then decide (a.slot < b.slot) else decide (a.det < b.det)

/-- Insert a pair in order. -/
def insertPair (a : GatePair) : List GatePair → List GatePair
  | [] => [a]
  | b :: bs => if a.before b then a :: b :: bs else b :: insertPair a bs

/-- R282: each pair is taken when neither its track nor its detection is already taken: the (slot, detection) pairs. -/
def takePairs (ps : List GatePair) : List (Nat × Nat) :=
  (ps.foldr insertPair []).foldl (fun (acc : List (Nat × Nat)) p =>
    if acc.any (fun x => x.1 == p.slot || x.2 == p.det) then acc else acc ++ [(p.slot, p.det)]) []

/-- The pairs within GATE and the number of pairs whose S is not positive definite. -/
def gatePairs (dims gate : Nat) (trs : List (Nat × Track)) (zs : List Detection) : List GatePair × Nat :=
  trs.foldl (fun acc e => (List.range zs.length).foldl (fun (acc : List GatePair × Nat) j => match zs[j]? with
    | none => acc
    | some z => match e.2.dist dims z with
      | none => (acc.1, acc.2 + 1)
      | some d => if f32Le d gate then (acc.1 ++ [⟨d, e.1, j⟩], acc.2) else acc) acc) ([], 0)

/-! ## Rules of the tracks (R283, R284) -/

/-- R283: the predicted position lies within the view box (minimum x, y, z then maximum); no box sees everything. -/
def inView (dims : Nat) (box : Option (List Nat)) (x : Track) : Bool :=
  match box with
  | none => true
  | some b => (List.range dims).all (fun i => f32Le (nth 0 b i) (nth 0 x.x i) && f32Le (nth 0 x.x i) (nth 0 b (3 + i)))

/-- Bits set in a hit history. -/
def hitCount (h : Nat) : Nat := countIdx 8 (fun i => h.testBit i)

/-- R283: an in-view update with a hit. -/
def Track.hit (x : Track) (sensor t : Nat) : Track :=
  { x with hits := (2 * x.hits + 1) % 256, misses := 0, inViews := x.inViews + 1, touched := t, sensor := sensor }

/-- R283: an in-view update with a miss. -/
def Track.miss (x : Track) (sensor t : Nat) : Track :=
  { x with
    hits := (2 * x.hits) % 256, misses := x.misses + 1, inViews := x.inViews + 1, touched := t, agree := 0,
    missed := SMap.set (fun _ => none) x.missed sensor (some (t, some (x.inViews + 1))) }

/-- R284: the miss of an authoritative sensor is not counted: it leaves the history. -/
def Track.uncount (x : Track) (sensor : Nat) : Track :=
  match SMap.get (fun _ => none) x.missed sensor with
  | some (t, some n) =>
    let d := x.inViews - n
    { x with
      hits := if d < 8 then bits x.hits 0 d + bits x.hits (d + 1) 8 * 2 ^ d else x.hits,
      misses := if d < x.misses then x.misses - 1 else x.misses,
      inViews := x.inViews - 1,
      missed := SMap.set (fun _ => none) x.missed sensor (some (t, none)) }
  | _ => x

/-- Two instants are within CONTRA_WINDOW_US of each other. -/
def State.inWindowUs (s : State) (a b : Nat) : Bool :=
  decide ((((a : Int) - b).natAbs : Nat) ≤ s.fld Reg.ATU_TRK_GATE 32 32 * 1000 * 2 ^ 16)

/-- R284: the (detecting, authoritative) sensors of the contradictions that this update raises on a track. -/
def State.contradictions (s : State) (x : Track) (sensor t : Nat) (took missed : Bool) : List (Nat × Nat) :=
  let auth (k : Nat) : Bool := s.bit Reg.ATU_SENSOR_AUTH k
  if took then
    ((List.range 16).filter (fun k => k != sensor && auth k && (match SMap.get (fun _ => none) x.missed k with
      | some m => s.inWindowUs m.1 t
      | none => false))).map (fun k => (sensor, k))
  else if missed && auth sensor then
    ((List.range 16).filter (fun k => k != sensor && (match SMap.get (fun _ => none) x.takes k with
      | some m => s.inWindowUs m t
      | none => false))).map (fun k => (k, sensor))
  else []

/-- R283, R284: one track after association, with the events it writes; none when it is deleted. -/
def State.afterAssoc (s : State) (x : Track) (sensor t : Nat) (took view : Bool) :
    Option Track × List (Nat × Nat × Nat) × Nat :=
  let r := s.regN Reg.ATU_TRK_RULES
  let took1 := if took then { x with takes := SMap.set (fun _ => none) x.takes sensor (some t), sensor := sensor } else x
  let y := { (if view then (if took then took1.hit sensor t else took1.miss sensor t) else took1) with coasted := !took }
  let cs := s.contradictions y sensor t took (view && !took)
  if cs ≠ [] then
    let z := cs.foldl (fun (z : Track) c => z.uncount c.2) y
    (some { z with st := 3, agree := 0 }, cs.map (fun c => (1, c.1, c.2)), cs.length)
  else if !view then
    if (bits r 32 16) * 1000000 * 2 ^ 16 ≤ t - y.touched then (none, [], 0) else (some y, [], 0)
  else if y.st = 3 then
    let a := if took then y.agree + 1 else 0
    if took ∧ bits r 16 4 ≤ a then (some { y with st := 2, agree := a }, [(4, sensor, 0xFF)], 0)
    else if !took ∧ bits r 8 6 ≤ y.misses then (none, [], 0)
    else (some { y with agree := a }, [], 0)
  else if y.st = 1 then
    if bits r 0 4 ≤ hitCount y.hits then (some { y with st := 2 }, [], 0)
    else if bits r 4 4 ≤ y.inViews then (none, [], 0)
    else (some y, [], 0)
  else if !took ∧ bits r 8 6 ≤ y.misses then (none, [], 0)
  else (some y, [], 0)

/-- R283: a new TENTATIVE track. -/
def State.birth (s : State) (z : Detection) (id sensor t : Nat) : Track :=
  let n := s.trkBlocks * s.trkDims
  { id := id, st := 1, coasted := false, hits := 0, misses := 0, agree := 0, sensor := sensor, at_ := t,
    x := padTo32 n z.z,
    p := matF n n (fun i j =>
      if i < s.trkDims ∧ j < s.trkDims then entryF z.r i j
      else if i = j then s.fld Reg.ATU_TRK_NOISE 32 32 else 0),
    cls := z.cls, birth := t, inViews := 0, touched := t, takes := [], missed := [] }
where
  /-- A vector filled up with +0. -/
  padTo32 (n : Nat) (z : List Nat) : List Nat := tab n (fun i => nth 0 z i)

/-! ## TRACK_UPDATE -/

/-- Input ranges of a TRACK_UPDATE. -/
def trackIns (d : Bytes) : List (Nat × Nat) :=
  [(fieldLE d 0x18 8, 48 * fieldLE d 0x10 2)] ++ (if fieldLE d 0x20 8 = 0 then [] else [(fieldLE d 0x20 8, 24)])

/-- An update in progress: the table, the next TRACK_ID, the slot of each detection, births, births dropped, deletions,
contradictions, and the events (TRACK_ID, KIND, two sensors). -/
structure TrackRun where
  tracks : OMap Track
  nextId : Nat
  slots : List (Option Nat)
  births : Nat
  full : Nat
  deletes : Nat
  contras : Nat
  events : List (Nat × Nat × Nat × Nat)
  deriving DecidableEq, Repr

/-- R283: births, in ascending detection index, each in the lowest free slot. -/
def State.bearAll (s : State) (u : TrackRun) (zs : List Detection) (sensor t : Nat) : TrackRun :=
  (List.range zs.length).foldl (fun (u : TrackRun) j => match zs[j]?, u.slots[j]? with
    | some z, some none => match firstIdx 1024 (fun k => (u.tracks.find k).isNone) with
      | none => { u with full := u.full + 1 }
      | some k =>
        { u with
          tracks := u.tracks.put k (s.birth z u.nextId sensor t),
          nextId := if u.nextId + 1 = 2 ^ 32 then 1 else u.nextId + 1,
          slots := u.slots.set j (some k), births := u.births + 1 }
    | _, _ => u) u

/-- R281 to R284: the whole update, over the table predicted to `t`; the pairs not positive definite are counted too. -/
def State.trackCompute (s : State) (zs : List Detection) (box : Option (List Nat)) (sensor t : Nat) : TrackRun × Nat :=
  let dims := s.trkDims
  let trs := s.atu.tracks.entries.map (fun e => (e.1, s.predict t e.2))
  let gp := gatePairs dims (s.fld Reg.ATU_TRK_GATE 0 32) trs zs
  let pairs := takePairs gp.1
  let after := trs.map (fun e =>
    let det := (pairs.find? (fun p => p.1 == e.1)).bind (fun p => zs[p.2]?)
    let upd := match det with
      | some z => e.2.joined dims z
      | none => e.2
    (e.1, upd, det.isSome, inView dims box e.2))
  let u0 : TrackRun :=
    { tracks := trs.foldl (fun m e => m.put e.1 e.2) [], nextId := s.atu.nextId,
      slots := tab zs.length (fun j => (pairs.find? (fun p => p.2 == j)).map (·.1)),
      births := 0, full := 0, deletes := 0, contras := 0, events := [] }
  let u1 := s.bearAll u0 zs sensor t
  let u2 := after.foldl (fun (u : TrackRun) e =>
    let res := s.afterAssoc e.2.1 sensor t e.2.2.1 e.2.2.2
    let evs := res.2.1.map (fun v => (e.2.1.id, v))
    match res.1 with
    | none => { u with tracks := u.tracks.drop e.1, deletes := u.deletes + 1, events := u.events ++ evs }
    | some y => { u with tracks := u.tracks.put e.1 y, contras := u.contras + res.2.2, events := u.events ++ evs }) u1
  (u2, gp.2)

/-- The number of tracks held is shown. -/
def State.setTracks (s : State) (m : OMap Track) (nextId : Nat) : State :=
  ({ s with atu := { s.atu with tracks := m, nextId := nextId } }).setFld Reg.ATU_STATE 0 11 m.entries.length

/-- ASSOC: one U16 per detection. -/
def assocBytes (slots : List (Option Nat)) : Bytes := slots.flatMap (fun x => natLE 2 (x.getD 0xFFFF))

/-- The registers that apply at the next update (R289). -/
def State.trackShadows (s : State) : State :=
  (((s.applyShadow Reg.ATU_TRK_RULES).applyShadow Reg.ATU_TRK_NOISE).applyShadow Reg.ATU_TRK_GATE).applyShadow Reg.ATU_SENSOR_AUTH

/-- R282 to R284: what the update of a command computes from its detections and its view box. -/
def State.trackResult (s : State) (d : Bytes) : TrackRun × Nat :=
  let n := fieldLE d 0x10 2
  let bs := s.peek (fieldLE d 0x18 8) (48 * n)
  let zs := tab n (fun j => detection s.trkDims ((bs.drop (48 * j)).take 48))
  let box := if fieldLE d 0x20 8 = 0 then none
    else some (tab 6 (fun i => s.peekN (fieldLE d 0x20 8 + 4 * i) 4))
  s.trackCompute zs box (fieldLE d 2 1) (time96Frac (fieldLE d 4 12))

/-- R285: the instant of the last accepted update. -/
def State.setLast (s : State) (t : Nat) : State := { s with atu := { s.atu with last := some t } }

/-- R282 to R285: an update commits, or leaves the table as it was. -/
def State.trackRun (s : State) (r : Nat) (q : Request) (d : Bytes) : State :=
  let n := fieldLE d 0x10 2
  let ch := fieldLE d 3 1
  let assoc := fieldLE d 0x28 8
  let t := time96Frac (fieldLE d 4 12)
  if ch ≠ 0xFF ∧ (s.chan ch).desync then
    let w := State.engineWrite (s, 0) r q 4 assoc (assocBytes (List.replicate n none))
    w.1.atuEnd r q (if w.2 ≠ 0 then w.2 else 0x15) (trackOuts d)
  else
    let s1 := s.trackShadows
    let u := s1.trackResult d
    let w := State.engineWrite (s1, 0) r q 4 assoc (assocBytes u.1.slots)
    if w.2 ≠ 0 then w.1.atuEnd r q w.2 (trackOuts d)
    else
      let s2 := w.1.setTracks u.1.tracks u.1.nextId
      let s3 := s2.setLast t
      let s4 := ((((s3.add Reg.ATU_CNT_BIRTH u.1.births).add Reg.ATU_CNT_BIRTH_FULL u.1.full).add Reg.ATU_CNT_DELETE
        u.1.deletes).add Reg.ATU_CNT_CONTRA u.1.contras).add Reg.ATU_CNT_NUMERIC u.2
      (each u.1.events (fun v e => v.atuEvent (fieldLE d 4 12) e.1 e.2.1 e.2.2.1 e.2.2.2) s4).atuEnd r q 0 []

/-- TRACK_UPDATE. -/
def State.trackUpdate (s : State) (r : Nat) : State :=
  s.atuCommand r 0x9A [] trackIns trackOuts (fun t q d => t.trackRun r q d)

/-- TRACK_UPDATE (R282, R285). -/
def execTrackUpdate (r : Nat) (s : State) : Host.Outcome State Fault Refusal := done s (s.work (fun u => u.trackUpdate r))

/-! ## TRACK_READ and RESET (R286) -/

/-- The record of a track: unused entries of X and P are +0, the covariance fills P from its start (log entry 57). -/
def State.trackRecord (s : State) (x : Track) : Bytes :=
  let n := x.x.length
  let tri := (List.range n).flatMap (fun i => (List.range (n - i)).map (fun j => entryF x.p i (i + j)))
  natLE 4 x.id ++ natLE 1 x.st ++ natLE 1 (s.trkBlocks - 2) ++ natLE 1 s.trkDims ++ natLE 1 (1 + 2 * b2n x.coasted) ++
  natLE 1 x.hits ++ natLE 1 x.misses ++ natLE 1 x.agree ++ natLE 1 x.sensor ++ natLE 12 (time96Of x.at_) ++
  ((List.range 9).flatMap (fun i => natLE 4 (nth 0 x.x i))) ++ ((List.range 45).flatMap (fun i => natLE 4 (nth 0 tri i))) ++
  natLE 2 x.cls ++ [0, 0] ++ natLE 12 (time96Of x.birth)

/-- TRACK_READ output: a header with the count, then the record of each slot that is not free. -/
def State.tableBytes (s : State) : Bytes :=
  natLE 2 s.atu.tracks.entries.length ++ List.replicate 14 0 ++ s.atu.tracks.entries.flatMap (fun e => s.trackRecord e.2)

/-- TRACK_READ. -/
def State.trackRead (s : State) (r : Nat) : State :=
  let outs := snapshotOuts s.atu.tracks.entries.length
  s.atuCommand r 0x9B [] (fun _ => []) outs (fun t q d =>
    let w := State.engineWrite (t, 0) r q 4 (fieldLE d 8 8) t.tableBytes
    w.1.atuEnd r q w.2 (outs d))

/-- TRACK_READ (R286). -/
def execTrackRead (r : Nat) (s : State) : Host.Outcome State Fault Refusal := done s (s.work (fun u => u.trackRead r))

/-- RESET with OP 1. -/
def State.trackTableClear (s : State) (r : Nat) : State :=
  s.atuCommand r 0x9C [1] (fun _ => []) (fun _ => []) (fun t q _ => (t.setTracks [] t.atu.nextId).atuEnd r q 0 [])

/-- TRACK_TABLE_CLEAR (R286). -/
def execTrackTableClear (r : Nat) (s : State) : Host.Outcome State Fault Refusal :=
  done s (s.work (fun u => u.trackTableClear r))

end Sys2Proof.Machine
end

