-- ==== Sys2Proof/Machine/Gusset.lean ====
section
/-! DEFINITION. The Gusset units (12_gusset_solver.md): the checks of a job, the assembler, factoring, refinement, the ADMM
sequencer, deadlines and the result record. The order of operations inside an elimination that R317 leaves open is the
model's (DESIGN CHOICE, log entry 63). -/

namespace Sys2Proof.Machine

/-! ## Checks (R312 to R315) -/

/-- Words of the user area (R313). -/
def gusUser : Nat := 786432

/-- A positive finite FP32. -/
def f32Pos (x : Nat) : Bool := f32Lt 0 x && f32Fin x

/-- A matrix region: first word, rows, columns and leading dimension. -/
def wordRows (a rows cols ld : Nat) : List (Nat × Nat) := tab rows (fun i => (a + i * ld, cols))

/-- Two sets of rows share a word. -/
def rowsMeet (xs ys : List (Nat × Nat)) : Bool := xs.any (fun x => ys.any (fun y => overlaps x y))

/-- Every row lies in the user area. -/
def rowsInside (xs : List (Nat × Nat)) : Bool := xs.all (fun x => decide (x.1 + x.2 ≤ gusUser))

/-- Words of the system matrix. -/
def gusMatrixWords (d : Bytes) : Nat :=
  if gusBlocked d && !gusQp d then 2 * fieldLE d 8 1 * fieldLE d 9 1 ^ 2 else gusN d ^ 2

/-- R312: a size, FACT or STRUCT is refused. -/
def gusShapeBad (d : Bytes) : Bool :=
  let n := gusN d
  let f := fieldLE d 1 1
  if gusQp d then f != 1 || fieldLE d 2 1 != 0 || n == 0 || gusM d == 0 || decide (768 < n + gusM d)
  else if gusBlocked d then
    decide (1 < f) || !(decide (1 ≤ fieldLE d 8 1) && decide (fieldLE d 8 1 ≤ 64)) ||
    !(decide (1 ≤ fieldLE d 9 1) && decide (fieldLE d 9 1 ≤ 48)) || n != fieldLE d 8 1 * fieldLE d 9 1
  else decide (2 < f) || fieldLE d 2 1 != 0 || n == 0 || decide (768 < n)

/-- A parameter lies out of range. -/
def gusParamBad (d : Bytes) : Bool :=
  let inR (o w lo hi : Nat) : Bool := decide (lo ≤ fieldLE d o w) && decide (fieldLE d o w ≤ hi)
  !(inR 0x0B 1 8 40) || !(inR 0x0C 1 4 30) ||
  (if gusQp d then
    !(inR 0x0D 1 1 255) || !(inR 0x0E 2 1 4096) || !f32Lt 0 (fieldLE d 0x28 4) || !f32Lt 0 (fieldLE d 0x2C 4) ||
    !f32Lt 0 (fieldLE d 0x30 4) || !(f32Lt 0 (fieldLE d 0x34 4) && f32Lt (fieldLE d 0x34 4) 0x40000000) ||
    !f32Pos (fieldLE d 0x38 4) || !((f32 (fieldLE d 0x3C 4)).isZero || f32Pos (fieldLE d 0x3C 4))
   else !(inR 0x0A 1 0 15) || !f32Pos (fieldLE d 0x24 4))

/-- R314: a region of the job leaves the user area, or two regions overlap that must not. -/
def gusRangeBad (d : Bytes) : Bool :=
  let n := gusN d
  let m := gusM d
  let k := (fieldLE d 0x14 4, gusMatrixWords d)
  let b := (fieldLE d 0x18 4, n)
  let a := (fieldLE d 0x1C 4, m * n)
  let l := (fieldLE d 0x20 4, 2 * m)
  !rowsInside [k, b] || overlaps k b ||
  (gusQp d && (!rowsInside [a, l] || overlaps a k || overlaps a b || overlaps a l))

/-- R314: a reserved byte, or a field that the OPCODE does not use, is non-zero. -/
def gusReservedBad (d : Bytes) : Bool :=
  let nz (o n : Nat) : Bool := fieldLE d o n != 0
  nz 3 1 || nz 0x68 24 ||
  (if gusQp d then nz 8 3 || nz 0x24 4
   else nz 6 2 || nz 0x0D 3 || nz 0x1C 8 || nz 0x28 24 || (!gusBlocked d && nz 8 2))

/-- Mask of a descriptor without its program. -/
def gusDescMask (addr : Nat) (d : Bytes) : Nat :=
  let op := fieldLE d 0 1
  let ops := fieldLE d 0x10 4
  if op ≠ 0x70 ∧ op ≠ 0x71 then 1
  else
    b2n (gusShapeBad d) * 2 + b2n (gusParamBad d) * 4 + b2n (gusRangeBad d) * 8 +
    b2n (ops == 0 || decide (4096 < ops)) * 16 +
    b2n (addr % 128 != 0 || fieldLE d 0x40 8 % 64 != 0 || fieldLE d 0x58 8 % 64 != 0) * 32 + b2n (gusReservedBad d) * 128

/-- Rows of a micro-op's source. -/
def microSrc (op : Bytes) : List (Nat × Nat) :=
  wordRows (fieldLE op 8 4) (fieldLE op 4 2) (fieldLE op 6 2) (fieldLE op 0x0C 4)

/-- Rows of the second operand of ADD. -/
def microSrc2 (op : Bytes) : List (Nat × Nat) :=
  wordRows (fieldLE op 0x1C 4) (fieldLE op 4 2) (fieldLE op 6 2) (fieldLE op 0x0C 4)

/-- Rows of a micro-op's destination. -/
def microDst (op : Bytes) : List (Nat × Nat) :=
  if fieldLE op 0 1 = 4 then wordRows (fieldLE op 0x10 4) (fieldLE op 6 2) (fieldLE op 4 2) (fieldLE op 0x14 4)
  else wordRows (fieldLE op 0x10 4) (fieldLE op 4 2) (fieldLE op 6 2) (fieldLE op 0x14 4)

/-- Mask of one micro-op (R315). -/
def microMask (op : Bytes) : Nat :=
  let o := fieldLE op 0 1
  let f := fieldLE op 1 1
  let inR (v : Nat) : Bool := decide (1 ≤ v) && decide (v ≤ 768)
  let bad := o == 0 || decide (4 < o) || decide (7 < f) || decide (15 < fieldLE op 2 1) || (o == 3 && f.testBit 1) ||
    !inR (fieldLE op 4 2) || !inR (fieldLE op 6 2)
  let srcs := (if f.testBit 0 then [] else microSrc op) ++ (if o = 3 then microSrc2 op else [])
  let same := (o == 1 || o == 2) && fieldLE op 8 4 == fieldLE op 0x10 4 && fieldLE op 0x0C 4 == fieldLE op 0x14 4
  let alpha := (o == 2 || o == 3) && f.testBit 2 && decide (gusUser ≤ fieldLE op 0x18 4)
  b2n (!bad && (!rowsInside srcs || !rowsInside (microDst op) || alpha || (!same && rowsMeet srcs (microDst op)))) * 8 +
    b2n bad * 16 + b2n (fieldLE op 3 1 != 0) * 128

/-- Mask of a program and its base table. -/
def gusProgMask (prog base : Bytes) : Nat :=
  (List.range (prog.length / 32)).foldl (fun a i => a ||| microMask (microAt prog i)) 0 |||
    b2n ((List.range 16).any (fun i => fieldLE base (8 * i) 8 % 64 != 0)) * 32

/-! ## Start of a job -/

/-- R323: the structure signature. -/
def gusSignature (d prog : Bytes) : Nat := crc32c (d.take 16 ++ prog)

/-- Set the job of a unit. -/
def State.setGus (s : State) (u : Nat) (j : GusJob) : State := { s with gus := { s.gus with jobs := s.gus.jobs.put u j } }

/-- A word of a unit's user area. -/
def State.gusWord (s : State) (u i : Nat) : Nat := SMap.get (fun _ => 0) s.gus.store (u * 2 ^ 20 + i)

/-- Write a word of a unit's user area. -/
def State.setGusWord (s : State) (u i v : Nat) : State :=
  { s with gus := { s.gus with store := SMap.set (fun _ => 0) s.gus.store (u * 2 ^ 20 + i) (v % 2 ^ 32) } }

/-- R313: a job of another context than the unit's last finds the user area zeroed. -/
def State.gusClaim (s : State) (u c : Nat) : State :=
  if s.gus.owner.find u = some c then s
  else { s with gus := { s.gus with
    owner := s.gus.owner.put u c, store := s.gus.store.filter (fun e => !(e.1 / 2 ^ 20 == u)) } }

/-- A job that ends without a result (R328, R329). -/
def State.gusFail (s : State) (u r : Nat) (q : Request) (st : Nat) : State :=
  ((((s.havocOuts q q.outs).gusSpent u).endReq r st 0 false)).gusIdle u

/-- R324: the vectors of an accepted warm-start record. -/
def gusWarm (d prog w : Bytes) : Option Bytes :=
  if fieldLE w 4 1 = 1 ∧ fieldLE w 0 4 = gusSignature d prog ∧ fieldLE w 8 2 = gusN d ∧ fieldLE w 10 2 = gusM d
  then some ((w.drop 0x40).take (4 * gusN d + 8 * gusM d)) else none

/-- A job starts on unit `u`; `rej` says that its warm start was rejected (R324). -/
def State.gusBegin (s : State) (u r : Nat) (q : Request) (j : GusJob) (out : Nat × Nat) (rej : Bool) : State :=
  let s0 := (s.gusClaim u q.ctx).setGus u j
  let s1 := ({ s0 with gusNotes := s0.gusNotes.put u [] }).putReq r { q with outs := [out] }
  let s2 := if rej then (s1.orReg (Reg.GUS_FLAGS u) 2).bump (Reg.GUS_CNT_WARM_REJ u) else s1
  s2.setRegN (Reg.GUS_STATE u) (1 + q.ctx * 256)

/-- R314, R324, R328: a job on unit `u` whose descriptor passes reads its program, base table and warm start, is predicted
and starts. -/
def State.gusStart (s : State) (u r : Nat) (q : Request) (d : Bytes) : State :=
  let ops := fieldLE d 0x10 4
  let warmAt := fieldLE d 0x50 8
  let out := (fieldLE d 0x58 8, gusResultBytes d)
  let ins := [(fieldLE d 0x40 8, 32 * ops), (fieldLE d 0x48 8, 128)] ++ (if warmAt = 0 then [] else [(warmAt, gusResultBytes d)])
  let (s1, rd) := s.engineReads r q 5 ins [out]
  match rd with
  | .ready =>
    let prog := s1.peek (fieldLE d 0x40 8) (32 * ops)
    let base := s1.peek (fieldLE d 0x48 8) 128
    let warm := if warmAt = 0 then none else gusWarm d prog (s1.peek warmAt (gusResultBytes d))
    let dl := s1.gusDeadline q.ctx u d
    if gusProgMask prog base ≠ 0 then
      s1.engineRefuse r q (Reg.GUS_REJECT u) (Reg.GUS_REJECT_DESC u) (gusProgMask prog base)
    else if (match dl with
        | some t => decide (t < s1.now + s1.gusNs (gusMinCost d prog))
        | none => false) then
      (s1.endReq r 4 0 false).setReg (Reg.GUS_CNT_PREDICTED u) (s1.reg (Reg.GUS_CNT_PREDICTED u) + 1)
    else
      let rej := warmAt != 0 && warm.isNone
      let j : GusJob := { req := r, ctx := q.ctx, desc := d, prog := prog, base := tab 16 (fun i => fieldLE base (8 * i) 8), next := 0, warm := warm, warmRej := rej, deadline := dl }
      s1.gusBegin u r q j out rej
  | .failed st => s1.engineFail r q st
  | _ => s1

/-- The unit that a dispatched Gusset request holds. -/
def Request.gusUnit (q : Request) : Nat := q.units.headD 0x88 - 0x88

/-- R314: a job whose descriptor breaks a rule is refused; where its program can be read, what the program breaks counts too. -/
def State.gusRefused (s : State) (u r : Nat) (q : Request) (d : Bytes) (m : Nat) : State :=
  if m.testBit 0 ∨ m.testBit 4 ∨ m.testBit 5 then s.engineRefuse r q (Reg.GUS_REJECT u) (Reg.GUS_REJECT_DESC u) m
  else
    let ops := fieldLE d 0x10 4
    match s.engineReads r q 5 [(fieldLE d 0x40 8, 32 * ops), (fieldLE d 0x48 8, 128)] [] with
    | (t, .ready) => t.engineRefuse r q (Reg.GUS_REJECT u) (Reg.GUS_REJECT_DESC u)
        (m ||| gusProgMask (t.peek (fieldLE d 0x40 8) (32 * ops)) (t.peek (fieldLE d 0x48 8) 128))
    | (t, .failed st) => t.engineFail r q st
    | (t, _) => t

/-- A Gusset job is checked on its unit; a descriptor of neither opcode is refused whichever command meets it. -/
def State.gusJob (s : State) (r op : Nat) : State :=
  match s.engReq r [0x10] with
  | none => s
  | some q =>
    let d := s.peek q.cmdAddr 128
    let u := q.gusUnit
    let o := fieldLE d 0 1
    if (s.gus.jobs.find u).isSome ∨ (o ≠ op ∧ (o = 0x70 ∨ o = 0x71)) then s
    else if s.quarantined (0x88 + u) then s.gusFail u r q 0x0A
    else if gusDescMask q.cmdAddr d ≠ 0 then s.gusRefused u r q d (gusDescMask q.cmdAddr d)
    else s.gusStart u r q d

/-- GUSSET_LINEAR (R312, R314). -/
def execGussetLinear (r : Nat) (s : State) : Host.Outcome State Fault Refusal := done s (s.work (fun t => t.gusJob r 0x70))

/-- GUSSET_QP (R312, R314). -/
def execGussetQp (r : Nat) (s : State) : Host.Outcome State Fault Refusal := done s (s.work (fun t => t.gusJob r 0x71))

/-! ## Assembly (R315, R316) -/

/-- The unified range as a unit's job reads it: the words that others wrote while it runs are unspecified (R316). -/
def State.gusView (s : State) (u : Nat) : State :=
  each ((s.gusNotes.find u).getD []) (fun t w => t.havoc (w.1 / 4 * 4) (alignUp (w.1 + w.2) 4 - w.1 / 4 * 4)) s

/-- Source element (i, j) of a micro-op. -/
def State.microElem (s : State) (u : Nat) (base : List Nat) (op : Bytes) (i j : Nat) : Nat :=
  let w := fieldLE op 8 4 + i * fieldLE op 0x0C 4 + j
  if (fieldLE op 1 1).testBit 0 then s.peekN (nth 0 base (fieldLE op 2 1) + 4 * w) 4 else s.gusWord u w

/-- α of a micro-op: the field itself, or the store word it names. -/
def State.microAlpha (s : State) (u : Nat) (op : Bytes) : Nat :=
  if (fieldLE op 1 1).testBit 2 then s.gusWord u (fieldLE op 0x18 4) else fieldLE op 0x18 4

/-- The value formed for a destination element that holds `d`, from the source `v` and the second operand `v2`. -/
def microValue (o : Nat) (acc : Bool) (alpha d v v2 : Nat) : Nat :=
  if o = 2 then (if acc then f32Fma alpha v d else f32Mul alpha v)
  else if o = 3 then f32Fma alpha v2 v
  else if acc then f32Add d v else v

/-- Run one micro-op on a unit's store. -/
def State.microRun (s : State) (u : Nat) (base : List Nat) (op : Bytes) : State :=
  let o := fieldLE op 0 1
  let rows := fieldLE op 4 2
  let cols := fieldLE op 6 2
  let alpha := s.microAlpha u op
  let view := s.gusView u
  iter rows (fun t i => iter cols (fun t' j =>
    let dst := if o = 4 then fieldLE op 0x10 4 + j * fieldLE op 0x14 4 + i else fieldLE op 0x10 4 + i * fieldLE op 0x14 4 + j
    let v2 := t'.gusWord u (fieldLE op 0x1C 4 + i * fieldLE op 0x0C 4 + j)
    let v := if (fieldLE op 1 1).testBit 0 then view.microElem u base op i j else t'.microElem u base op i j
    t'.setGusWord u dst (microValue o ((fieldLE op 1 1).testBit 1) alpha (t'.gusWord u dst) v v2)) t) { s with fresh := view.fresh }

/-- Unified-range words that a micro-op reads, row by row. -/
def microReads (base : List Nat) (op : Bytes) : List (Nat × Nat) :=
  if (fieldLE op 1 1).testBit 0 then
    (microSrc op).map (fun x => (nth 0 base (fieldLE op 2 1) + 4 * x.1, 4 * x.2))
  else []

/-- The job that runs on unit `u`, with its request. -/
def State.gusRunning (s : State) (u : Nat) : Option (GusJob × Request) :=
  match s.gus.jobs.find u with
  | none => none
  | some j => match s.req j.req with
    | none => none
    | some q => some (j, q)

/-- The next micro-op of a unit's job runs; after the last one the unit factors. -/
def State.micro (s : State) (u o : Nat) : State :=
  match s.gusRunning u with
  | none => s
  | some (j, q) =>
    let op := microAt j.prog j.next
    if j.prog.length ≤ 32 * j.next ∨ fieldLE op 0 1 ≠ o then s
    else if s.quarantined (0x88 + u) then s.gusFail u j.req q 0x0A
    else
      let (s1, rd) := s.engineReads j.req q 5 (microReads j.base op) []
      match rd with
      | .ready =>
        let s2 := (s1.microRun u j.base op).setGus u { j with next := j.next + 1 }
        if j.prog.length ≤ 32 * (j.next + 1) then s2.setFld (Reg.GUS_STATE u) 0 2 2 else s2
      | .failed st => s1.gusFail u j.req q st
      | _ => s1

/-- MICROOP_COPY (R315). -/
def execMicroopCopy (u : Fin 2) (s : State) : Host.Outcome State Fault Refusal := done s (s.work (fun t => t.micro u.val 1))

/-- MICROOP_SCALE (R315). -/
def execMicroopScale (u : Fin 2) (s : State) : Host.Outcome State Fault Refusal := done s (s.work (fun t => t.micro u.val 2))

/-- MICROOP_ADD (R315). -/
def execMicroopAdd (u : Fin 2) (s : State) : Host.Outcome State Fault Refusal := done s (s.work (fun t => t.micro u.val 3))

/-- MICROOP_TRANSPOSE (R315). -/
def execMicroopTranspose (u : Fin 2) (s : State) : Host.Outcome State Fault Refusal :=
  done s (s.work (fun t => t.micro u.val 4))

/-! ## Factoring (R317, R318) -/

/-- ∞-norm of a vector. -/
def normF (xs : List Nat) : Nat := xs.foldl (fun m x => f32Max m (f32Abs x)) 0

/-- ‖K‖∞: the largest row sum of absolute values. -/
def normMat (k : List (List Nat)) : Nat := normF (k.map (fun row => row.foldl (fun a x => f32Add a (f32Abs x)) 0))

/-- d_ref (R317). -/
def dRef (k : List (List Nat)) : Nat :=
  let diag := normF (tab k.length (fun i => entryF k i i))
  let all := normF (k.map normF)
  if diag ≠ 0 then diag else if all ≠ 0 then all else f32One

/-- 2^−e as FP32. -/
def twoPow (e : Nat) : Nat := (127 - e) * 2 ^ 23

/-- How a matrix is factored: 0 Cholesky, 1 LDLᵀ, 2 LU; rows below `sep` of an LDLᵀ of a QP take +1; τ × d_ref and δ. -/
structure FactorRule where
  fact : Nat
  qpRows : Option Nat
  tiny : Nat
  delta : Nat

/-- Sign that replaces a tiny pivot `p` of row `i` with original diagonal entry `kii` (R318). -/
def FactorRule.sign (f : FactorRule) (i kii p : Nat) : Bool :=
  if f.fact = 0 then false
  else if f.fact = 1 then (match f.qpRows with
    | some n => decide (n ≤ i)
    | none => (f32 kii).isNeg && !(f32 kii).isZero)
  else (f32 p).isNeg && !(f32 p).isZero

/-- R318: the pivot used, and whether it was replaced. -/
def FactorRule.pivot (f : FactorRule) (i kii p : Nat) : Nat × Bool :=
  if f32Lt (f32Abs p) f.tiny then
    let v := f32Add (f32Abs p) f.delta
    (if f.sign i kii p then f32Neg v else v, true)
  else (p, false)

/-- A factorisation: rows of L below the diagonal (for LU, of L and U), the pivots, the order of rows, and the rows whose
pivots were replaced, in elimination order. -/
structure Factors where
  l : List (List Nat)
  d : List Nat
  order : List Nat
  reg : List Nat

/-- v − Σ aₖ bₖ by fma in ascending k. -/
def subDot (v : Nat) (a b : List Nat) : Nat := (a.zip b).foldl (fun w p => f32Fma (f32Neg p.1) p.2 w) v

/-- One column of a Cholesky or LDLᵀ factorisation; `acc.l` holds the rows of L found so far, each up to this column. -/
def symColumn (f : FactorRule) (k : List (List Nat)) (acc : Factors) (j : Nat) : Factors :=
  let rowJ := nth [] acc.l j
  let scaledJ := if f.fact = 0 then rowJ else (rowJ.zip acc.d).map (fun p => f32Mul p.1 p.2)
  let vals := tab k.length (fun i => if i < j then 0 else subDot (entryF k i j) (nth [] acc.l i) scaledJ)
  let (p, rep) := f.pivot j (entryF k j j) (nth 0 vals j)
  let piv := if f.fact = 0 then f32Sqrt p else p
  { l := tab k.length (fun i => if i < j then nth [] acc.l i
      else nth [] acc.l i ++ [if i = j then (if f.fact = 0 then piv else f32One) else f32Div (nth 0 vals i) piv]),
    d := acc.d ++ [piv], order := acc.order, reg := if rep then acc.reg ++ [j] else acc.reg }

/-- One column of an LU factorisation with partial pivoting; rows of `acc.l` hold L left of and U from the diagonal. -/
def luColumn (f : FactorRule) (k : List (List Nat)) (acc : Factors) (j : Nat) : Factors :=
  let n := k.length
  let col := (List.range n).foldl (fun (us : List Nat) i =>
    let row := nth [] acc.l i
    let m := Nat.min i j
    us ++ [subDot (entryF k (nth 0 acc.order i) j) (row.take m) (us.take m)]) []
  let best := (List.range (n - j)).foldl (fun b x => if f32Lt (f32Abs (nth 0 col b)) (f32Abs (nth 0 col (j + x))) then j + x else b) j
  let swap {α : Type} (dflt : α) (xs : List α) : List α := (xs.set j (nth dflt xs best)).set best (nth dflt xs j)
  let col1 := swap 0 col
  let order := swap 0 acc.order
  let rows := swap [] acc.l
  let (p, rep) := f.pivot j 0 (nth 0 col1 j)
  { l := tab n (fun i => nth [] rows i ++ [if i < j then nth 0 col1 i else if i = j then p else f32Div (nth 0 col1 i) p]),
    d := acc.d ++ [p], order := order, reg := if rep then acc.reg ++ [nth 0 order j] else acc.reg }

/-- R317: factor K. -/
def factorize (f : FactorRule) (k : List (List Nat)) : Factors :=
  (List.range k.length).foldl (fun acc j => if f.fact = 2 then luColumn f k acc j else symColumn f k acc j)
    { l := k.map (fun _ => []), d := [], order := List.range k.length, reg := [] }

/-- Every factor is finite. -/
def Factors.finite (f : Factors) : Bool := f.d.all f32Fin && f.l.all (fun row => row.all f32Fin)

/-- Solve from the factors. -/
def Factors.solve (f : Factors) (fact : Nat) (b : List Nat) : List Nat :=
  let n := f.d.length
  let y := (List.range n).foldl (fun (ys : List Nat) i =>
    let v := subDot (nth 0 b (nth 0 f.order i)) ((nth [] f.l i).take i) ys
    ys ++ [if fact = 0 then f32Div v (nth 0 f.d i) else v]) []
  let z := if fact = 1 then (y.zip f.d).map (fun p => f32Div p.1 p.2) else y
  let above (i : Nat) : List Nat := tab (n - 1 - i) (fun x =>
    if fact = 2 then entryF f.l i (i + 1 + x) else entryF f.l (i + 1 + x) i)
  (List.range n).foldl (fun (xs : List Nat) x =>
    let i := n - 1 - x
    let v := subDot (nth 0 z i) (above i) xs
    (if fact = 1 then v else f32Div v (nth 0 f.d i)) :: xs) []

/-! ## Residuals and refinement (R319, R320) -/

/-- R319: one residual. -/
def residualOf (row x : List Nat) (b : Nat) : Nat :=
  let e := (row.zip x).foldl (fun (sc : Nat × Nat) kx =>
    let s := sc.1
    let p := f32Mul kx.1 kx.2
    let e := f32Fma kx.1 kx.2 (f32Neg p)
    let t := f32Sub s p
    let z := f32Sub t s
    (t, f32Sub (f32Add sc.2 (f32Sub (f32Sub s (f32Sub t z)) (f32Add p z))) e)) (b, 0)
  f32Add e.1 e.2

/-- b − K·x. -/
def residual (k : List (List Nat)) (x b : List Nat) : List Nat := (k.zip b).map (fun p => residualOf p.1 x p.2)

/-- What a job's iterations come to: outcome, steps completed, the two residuals and the vectors; none where a non-finite
value arose. -/
structure GusEnd where
  outcome : Nat
  steps : Nat
  resP : Nat
  resD : Nat
  vecs : List Nat
  deriving DecidableEq, Repr

/-- The present iterate of a refinement: x, steps completed, and the iterate before with its residual norm. -/
structure Refine where
  x : List Nat
  steps : Nat
  prev : Option (List Nat × Nat)
  stop : Option GusEnd

/-- The system of a linear job: K, b, TOL, ‖K‖∞, its factors and their kind. -/
structure LinSys where
  k : List (List Nat)
  b : List Nat
  tol : Nat
  normK : Nat
  f : Factors
  fact : Nat

/-- R320: thr for an iterate. -/
def LinSys.thr (a : LinSys) (x : List Nat) : Nat :=
  f32Mul a.tol (f32Add (f32Mul a.normK (normF x)) (normF a.b))

/-- R320: one step of the refinement loop; `cap` is REF_MAX, or the number of steps that a deadline leaves. -/
def LinSys.step (a : LinSys) (cap : Nat) (late : Bool) (s : Refine) : Option Refine :=
  match s.stop with
  | some _ => some s
  | none =>
    let r := residual a.k s.x a.b
    let nr := normF r
    let thr := a.thr s.x
    if !(f32Fin nr && f32Fin thr && r.all f32Fin) then none
    else if f32Le nr thr then some { s with stop := some ⟨0, s.steps, nr, thr, s.x⟩ }
    else if s.steps = cap then some { s with stop := some ⟨if late then 3 else 1, s.steps, nr, thr, s.x⟩ }
    else
      let stalled := match s.prev with
        | some p => f32Lt (f32Mul 0x3F000000 p.2) nr
        | none => false
      if stalled then
        match s.prev with
        | some p =>
          let keep := if f32Lt nr p.2 then (s.x, nr) else p
          some { s with stop := some ⟨2, s.steps, keep.2, a.thr keep.1, keep.1⟩ }
        | none => some s
      else
        let x' := List.zipWith f32Add s.x (a.f.solve a.fact r)
        if x'.all f32Fin then some { x := x', steps := s.steps + 1, prev := some (s.x, nr), stop := none } else none

/-- R320: first solve and refinement. -/
def LinSys.run (a : LinSys) (cap : Nat) (late : Bool) : Option GusEnd :=
  let x0 := a.f.solve a.fact a.b
  if !(x0.all f32Fin) then none
  else match iter (cap + 1) (fun (o : Option Refine) _ => o.bind (a.step cap late)) (some ⟨x0, 0, none, none⟩) with
    | none => none
    | some s => s.stop

/-! ## ADMM (R321, R322) -/

/-- A QP: P (symmetric, from its upper triangle), A by rows, q, l, u, ρ by row, α, σ, EPS_ABS, EPS_REL and the factors. -/
structure QpSys where
  p : List (List Nat)
  a : List (List Nat)
  q : List Nat
  l : List Nat
  u : List Nat
  rho : List Nat
  alpha : Nat
  sigma : Nat
  epsAbs : Nat
  epsRel : Nat
  f : Factors

/-- x, z and y. -/
structure Iterate where
  x : List Nat
  z : List Nat
  y : List Nat

/-- Every entry is finite. -/
def Iterate.finite (t : Iterate) : Bool := t.x.all f32Fin && t.z.all f32Fin && t.y.all f32Fin

/-- Aᵀ·y. -/
def QpSys.aty (g : QpSys) (y : List Nat) : List Nat := (transF g.q.length g.a).map (fun col => dotF col y)

/-- R321: one iteration. -/
def QpSys.step (g : QpSys) (t : Iterate) : Iterate :=
  let n := g.q.length
  let top := List.zipWith (fun x q => f32Sub (f32Mul g.sigma x) q) t.x g.q
  let yr := List.zipWith f32Div t.y g.rho
  let sol := g.f.solve 1 (top ++ List.zipWith f32Sub t.z yr)
  let xt := sol.take n
  let v := sol.drop n
  let zt := List.zipWith f32Add t.z (List.zipWith f32Div (List.zipWith f32Sub v t.y) g.rho)
  let beta := f32Sub f32One g.alpha
  let mix (a b : List Nat) : List Nat := List.zipWith (fun s w => f32Add (f32Mul g.alpha s) (f32Mul beta w)) a b
  let xh := mix xt t.x
  let zh := mix zt t.z
  let zn := List.zipWith f32Min (List.zipWith f32Max (List.zipWith f32Add zh yr) g.l) g.u
  let y' := List.zipWith f32Add t.y (List.zipWith f32Mul g.rho (List.zipWith f32Sub zh zn))
  { x := xh, z := zn, y := y' }

/-- R322: r_p and r_d of an iterate, and whether both stop tests hold. -/
def QpSys.residuals (g : QpSys) (t : Iterate) : Nat × Nat × Bool :=
  let ax := g.a.map (fun row => dotF row t.x)
  let px := g.p.map (fun row => dotF row t.x)
  let aty := g.aty t.y
  let rp := normF (List.zipWith f32Sub ax t.z)
  let rd := normF (List.zipWith f32Add (List.zipWith f32Add px g.q) aty)
  let tol (m : Nat) : Nat := f32Add g.epsAbs (f32Mul g.epsRel m)
  (rp, rd, f32Le rp (tol (f32Max (normF ax) (normF t.z))) &&
    f32Le rd (tol (f32Max (f32Max (normF px) (normF aty)) (normF g.q))))

/-- The iterations of a QP so far: iterate, count, and whether the stop tests held. -/
structure Admm where
  it : Iterate
  steps : Nat
  conv : Bool

/-- R321, R322: iterations up to `cap` of them; none where a non-finite value arose. -/
def QpSys.run (g : QpSys) (cap : Nat) (late : Bool) (t0 : Iterate) : Option GusEnd :=
  let out := iter cap (fun (o : Option Admm) _ => o.bind (fun s =>
    if s.conv then some s
    else
      let t := g.step s.it
      let r := g.residuals t
      if t.finite && f32Fin r.1 && f32Fin r.2.1 then some ⟨t, s.steps + 1, r.2.2⟩ else none)) (some ⟨t0, 0, false⟩)
  out.bind (fun s =>
    let r := g.residuals s.it
    if f32Fin r.1 && f32Fin r.2.1 then
      some ⟨if s.conv then 0 else if late then 3 else 1, s.steps, r.1, r.2.1, s.it.x ++ s.it.z ++ s.it.y⟩
    else none)

/-! ## The system in the store -/

/-- A matrix of the user area. -/
def State.gusMat (s : State) (u off rows cols : Nat) : List (List Nat) :=
  matF rows cols (fun i j => s.gusWord u (off + i * cols + j))

/-- A vector of the user area. -/
def State.gusVec (s : State) (u off n : Nat) : List Nat := tab n (fun i => s.gusWord u (off + i))

/-- K of a linear job: dense as stored, or block-tridiagonal with the blocks above the diagonal taken as the transposes of
the coupling blocks (R312). -/
def State.gusK (s : State) (u : Nat) (d : Bytes) : List (List Nat) :=
  let off := fieldLE d 0x14 4
  let n := gusN d
  if gusBlocked d then
    let b := Nat.max 1 (fieldLE d 9 1)
    let at_ (blk i j : Nat) : Nat := s.gusWord u (off + blk * b ^ 2 + i * b + j)
    matF n n (fun i j =>
      let bi := i / b
      let bj := j / b
      if bi = bj then at_ (2 * bi) (i % b) (j % b)
      else if bi = bj + 1 then at_ (2 * bi + 1) (i % b) (j % b)
      else if bj = bi + 1 then at_ (2 * bj + 1) (j % b) (i % b)
      else 0)
  else s.gusMat u off n n

/-- Every entry of a matrix is finite. -/
def finiteMat (m : List (List Nat)) : Bool := m.all (fun row => row.all f32Fin)

/-- τ and δ of a job for a matrix (R317, R318). -/
def gusRule (d : Bytes) (k : List (List Nat)) : FactorRule :=
  let r := dRef k
  { fact := fieldLE d 1 1, qpRows := if gusQp d then some (gusN d) else none,
    tiny := f32Mul (twoPow (fieldLE d 0x0B 1)) r, delta := f32Mul (twoPow (fieldLE d 0x0C 1)) r }

/-- What a job comes to with at most `cap` refinement steps or iterations: its end and the rows whose pivots were replaced;
none where a non-finite value or a bad bound ends it (R329). `warm` holds the vectors to start a QP from. -/
def State.gusSolve (s : State) (u : Nat) (d : Bytes) (warm : Option Bytes) (cap : Nat) (late : Bool) :
    Option (GusEnd × List Nat) :=
  let n := gusN d
  let m := gusM d
  let b := s.gusVec u (fieldLE d 0x18 4) n
  if gusQp d then
    let p0 := s.gusMat u (fieldLE d 0x14 4) n n
    let p := matF n n (fun i j => if i ≤ j then entryF p0 i j else entryF p0 j i)
    let a := s.gusMat u (fieldLE d 0x1C 4) m n
    let l := s.gusVec u (fieldLE d 0x20 4) m
    let h := s.gusVec u (fieldLE d 0x20 4 + m) m
    let bad := (l.zip h).any (fun x => f32Nan x.1 || f32Nan x.2 || f32Lt x.2 x.1)
    if !(finiteMat p && finiteMat a && b.all f32Fin) || bad then none
    else
      let rho := (l.zip h).map (fun x => if f32Le x.1 x.2 && f32Le x.2 x.1 then fieldLE d 0x30 4 else fieldLE d 0x2C 4)
      let sigma := fieldLE d 0x28 4
      let k := matF (n + m) (n + m) (fun i j =>
        if i < n then (if j < n then (if i = j then f32Add (entryF p i j) sigma else entryF p i j) else entryF a (j - n) i)
        else if j < n then entryF a (i - n) j
        else if i = j then f32Neg (f32Div f32One (nth 0 rho (i - n))) else 0)
      let f := factorize (gusRule d k) k
      if !(finiteMat k) || !f.finite then none
      else
        let g : QpSys := { p := p, a := a, q := b, l := l, u := h, rho := rho, alpha := fieldLE d 0x34 4, sigma := sigma, epsAbs := fieldLE d 0x38 4, epsRel := fieldLE d 0x3C 4, f := f }
        let w (i : Nat) : Nat := match warm with | some bs => fieldLE bs (4 * i) 4 | none => 0
        let t0 : Iterate := { x := tab n w, z := tab m (fun i => w (n + i)), y := tab m (fun i => w (n + m + i)) }
        if !t0.finite then none else (g.run cap late t0).map (fun e => (e, f.reg))
  else
    let k := s.gusK u d
    if !(finiteMat k && b.all f32Fin) then none
    else
      let f := factorize (gusRule d k) k
      let sys : LinSys := { k := k, b := b, tol := fieldLE d 0x24 4, normK := normMat k, f := f, fact := fieldLE d 1 1 }
      if !f.finite then none else (sys.run cap late).map (fun e => (e, f.reg))

/-! ## End of a job (R324 to R329) -/

/-- R325: the status of a job with this outcome. -/
def gusStatus (outcome pivots : Nat) (warmRej : Bool) : Nat :=
  if outcome = 4 then 3 else if outcome = 3 then 2 else if 0 < pivots then 0x14 else if warmRej then 0x13 else 0

/-- R326: the result record. -/
def gusRecord (j : GusJob) (valid : Bool) (e : GusEnd) (reg : List Nat) : Bytes × Nat :=
  let d := j.desc
  let body := natLE 4 e.resP ++ natLE 4 e.resD ++ (tab 8 (fun i => natLE 2 (nth 0xFFFF reg i))).flatten
  let vecs := e.vecs.flatMap (natLE 4)
  let cost := gusFullCost d j.prog
  let cycles := Config.gussetCycles (d.take 0x40) (body ++ vecs) (e.steps * 16 + e.outcome) % (cost + 1)
  (natLE 4 (gusSignature d j.prog) ++ natLE 1 (b2n valid) ++ natLE 1 e.outcome ++ natLE 1 (clampNat 0 255 reg.length) ++
    natLE 1 (b2n j.warm.isSome + b2n j.warmRej * 2) ++ natLE 2 (gusN d) ++ natLE 2 (gusM d) ++ natLE 2 e.steps ++ natLE 2 0 ++
    body ++ natLE 4 cycles ++ natLE 4 cost ++ List.replicate 16 0 ++ vecs, cycles)

/-- A job ends with a result: the record is written, counters and flags follow, and the request ends. -/
def State.gusResult (s : State) (u : Nat) (j : GusJob) (q : Request) (valid : Bool) (e : GusEnd) (reg : List Nat) : State :=
  s.withOuts j.req q 5 [(fieldLE j.desc 0x58 8, gusResultBytes j.desc)] (fun t st => t.gusFail u j.req q st) (fun s0 =>
  let (rec, cycles) := gusRecord j valid e reg
  let w := State.engineWrite (s0, 0) j.req q 5 (fieldLE j.desc 0x58 8) rec
  if w.2 ≠ 0 then w.1.gusFail u j.req q w.2
  else
    let s1 := w.1.gusIdle u
    let fl := b2n (decide (0 < reg.length)) + b2n (e.outcome == 1) * 4 + b2n (e.outcome == 2) * 8
    let s2 := (s1.orReg (Reg.GUS_FLAGS u) fl).add (Reg.GUS_CNT_PIVOT_REG u) reg.length
    let s3 := (s2.add (Reg.GUS_CNT_ITER u) e.steps).add (Reg.GUS_CNT_BUSY u) cycles
    let s4 := if e.outcome = 3 then s3.bump (Reg.GUS_CNT_DEADLINE u)
      else if e.outcome = 4 then s3.bump (Reg.GUS_CNT_DEADLINE_FACTOR u) else s3
    let s5 := s4.endReq j.req (gusStatus e.outcome reg.length j.warmRej) (e.outcome + clampNat 0 255 reg.length * 256) true
    s5.setReg (Reg.GUS_CNT_JOBS u) (s0.reg (Reg.GUS_CNT_JOBS u) + 1))

/-- R329: a non-finite value ends the job; NONFINITE is set. -/
def State.gusNonFinite (s : State) (u : Nat) (j : GusJob) (q : Request) : State :=
  (s.gusFail u j.req q 9).reject (Reg.GUS_REJECT u) (Reg.GUS_REJECT_DESC u) 64 q.cmdAddr

/-- The vectors that a factorisation deadline returns: the warm start bit for bit, or zeros. -/
def gusHeld (j : GusJob) : List Nat :=
  tab (gusN j.desc + 2 * gusM j.desc) (fun i => match j.warm with | some bs => fieldLE bs (4 * i) 4 | none => 0)

/-- A job reaches its outcome. -/
def State.gusJobEnd (s : State) (u : Nat) : State :=
  match s.gusRunning u with
  | none => s
  | some (j, q) =>
    if j.prog.length ≠ 32 * j.next then s
    else if s.quarantined (0x88 + u) then s.gusFail u j.req q 0x0A
    else match s.gusSolve u j.desc j.warm (gusCap j.desc) false with
      | none => s.gusNonFinite u j q
      | some (e, reg) => s.gusResult u j q true e reg

/-- GUSSET_JOB_END (R320 to R326). -/
def execGussetJobEnd (u : Fin 2) (s : State) : Host.Outcome State Fault Refusal :=
  done s (s.work (fun t => t.gusJobEnd u.val))

/-- A job that has completed `k` steps or iterations, and comes to `e` with them, has not reached its outcome: a refinement may be
forming its residual, a QP has met neither its stop tests nor its cap. -/
def gusOpen (d : Bytes) (k : Nat) (e : GusEnd) : Bool :=
  e.steps == k && (!gusQp d || (e.outcome == 3 && decide (k < gusCap d)))

/-- R328: the effective deadline arrives. `steps` is none up to the first linear solve or the first iteration's
factorisation, else the steps or iterations completed; a deadline after the job has reached its outcome changes nothing. -/
def State.gusDeadlineHit (s : State) (u : Nat) (steps : Option Nat) : State :=
  match s.gusRunning u with
  | none => s
  | some (j, q) =>
    if !(match j.deadline with | some t => due s.now t | none => false) then s
    else if s.quarantined (0x88 + u) then s.gusFail u j.req q 0x0A
    else match steps with
      | none => s.gusResult u j q j.warm.isSome ⟨4, 0, 0x7F800000, 0x7F800000, gusHeld j⟩ []
      | some k =>
        if j.prog.length ≠ 32 * j.next then s
        else match s.gusSolve u j.desc j.warm (Nat.min k (gusCap j.desc)) true with
          | none => s.gusNonFinite u j q
          | some (e, reg) => if gusOpen j.desc k e then s.gusResult u j q true { e with outcome := 3 } reg else s

/-- GUSSET_DEADLINE (R328). -/
def execGussetDeadline (u : Fin 2) (steps : Option Nat) (s : State) : Host.Outcome State Fault Refusal :=
  done s (s.work (fun t => t.gusDeadlineHit u.val steps))

/-- R329: a phase that runs 256 cycles beyond its cost is stopped. -/
def State.gusOverrun (s : State) (u : Nat) : State :=
  match s.gusRunning u with
  | none => s
  | some (j, q) =>
    let s1 := s.record 2 6 8 (0x6C + u) (some j.ctx) (0x88 + u) 0
    (s1.gusFail u j.req q 8).setReg (Reg.GUS_CNT_OVERRUN u) (s.reg (Reg.GUS_CNT_OVERRUN u) + 1)

/-- GUSSET_OVERRUN (R329). -/
def execGussetOverrun (u : Fin 2) (s : State) : Host.Outcome State Fault Refusal :=
  done s (s.work (fun t => t.gusOverrun u.val))

end Sys2Proof.Machine
end

