-- ==== Sys2Proof/Machine/Route.lean ====
section
/-! DEFINITION. Expert dispatch (R86 to R92): ROUTE, COMBINE and expert lookahead. -/

namespace Sys2Proof.Machine

/-- A ROUTE or COMBINE call runs on the Palm of an attention unit (R214). -/
def State.routePlace (s : State) (q : Request) (ins : List (Nat × Nat)) : Option Nat :=
  s.choosePalm ((s.candidatePalms q).filter (fun p => (s.att.find p).isNone && s.gateOn (0x24 + p) && !s.quarantined (0x24 + p))) ins

/-- A request that ends at once marks the Palm it ran on. -/
def State.ranOn (s : State) (r p : Nat) (units : List Nat) : State :=
  match s.req r with
  | none => s
  | some q => s.putReq r { q.onPalm s p with units := units }

/-- R93: a ROUTE or COMBINE call completes on Palm `p`. -/
def State.callDone (s : State) (r p : Nat) : State :=
  ((s.ranOn r p [0x24 + p]).endReq r 0 0 false).setReg (Reg.ATT_CNT_CALLS p) (s.reg (Reg.ATT_CNT_CALLS p) + 1)

/-! ## ROUTE (R86 to R88) -/

/-- R86: the checks of a ROUTE descriptor at `addr`, as ATT_REJECT bits. -/
def routeMask (addr : Nat) (d : Bytes) : Nat :=
  let fmt := fieldLE d 1 1
  let topk := fieldLE d 2 1
  let flags := fieldLE d 3 1
  let ex := fieldLE d 4 2
  let tok := fieldLE d 8 4
  let addrs := [fieldLE d 0x10 8, fieldLE d 0x18 8, fieldLE d 0x20 8, fieldLE d 0x28 4, fieldLE d 0x2C 4, fieldLE d 0x30 8,
    fieldLE d 0x38 8, fieldLE d 0x40 8, fieldLE d 0x48 8]
  b2n (decide (ex < 1) || decide (256 < ex) || decide (topk < 1) || decide (8 < topk) || decide (ex < topk) ||
    decide (tok < 1) || decide (16384 < tok) || decide (16 < fieldLE d 6 1)) * 2 +
  b2n (addr % 128 != 0 || addrs.any (fun a => a % 64 != 0)) * 64 +
  b2n (bits flags 4 4 != 0 || fieldLE d 7 1 != 0 || fieldLE d 0x50 48 != 0) * 128 +
  b2n (bits flags 0 2 == 3 || decide (1 < fmt)) * 256

/-- Bytes of one router logit. -/
def routeLogitBytes (d : Bytes) : Nat := if fieldLE d 1 1 = 0 then 4 else 2

/-- The FP32 logits of a token. -/
def State.routeLogits (s : State) (d : Bytes) (t : Nat) : List Nat :=
  let n := fieldLE d 4 2
  (s.fmtVec (fieldLE d 1 1) (fieldLE d 0x10 8 + t * n * routeLogitBytes d) n).map toF32

/-- R87: whether expert `a` ranks before expert `b` by its score; NaN below every number, ties to the lower index. -/
def routeBefore (sc : List Nat) (a b : Nat) : Bool :=
  let x := nth 0 sc a
  let y := nth 0 sc b
  if f32Nan x then (f32Nan y && decide (a < b))
  else if f32Nan y then true
  else if f32Lt y x then true
  else if f32Lt x y then false
  else decide (a < b)

/-- The first `k` of `n` indices by an order, best first. -/
def topBy (before : Nat → Nat → Bool) (n : Nat) : Nat → List Nat → List Nat
  | 0, _ => []
  | k + 1, taken =>
    let best := (List.range n).foldl (fun (b : Option Nat) i =>
      if taken.contains i then b
      else match b with
        | none => some i
        | some j => if before i j then some i else some j) none
    match best with
    | none => []
    | some i => i :: topBy before n k (taken ++ [i])

/-- The exact sum of FP32 codes, rounded once (R87). -/
def f32Sum (xs : List Nat) : Nat := toF32 (xs.foldl (fun a w => a.put (f32 w)) Acc.zero).value

/-- R87: the experts of a token, best first, with their gates, and whether a NaN logit was ranked. -/
def State.routeToken (s : State) (d : Bytes) (t : Nat) : List (Nat × Nat) × Bool :=
  let n := fieldLE d 4 2
  let topk := fieldLE d 2 1
  let flags := fieldLE d 3 1
  let lg := s.routeLogits d t
  let bias := fieldLE d 0x18 8
  let sc := if bias = 0 then lg else tab n (fun e => f32Add (nth 0 lg e) (s.peekN (bias + 4 * e) 4))
  let sel := topBy (routeBefore sc) n topk []
  let mx := lg.foldl f32Max f32NegInf
  let ex (e : Nat) : Nat := f32Exp (f32Sub (nth 0 lg e) mx)
  let mode := bits flags 0 2
  let den := if mode = 0 then f32Sum (tab n ex) else f32Sum (sel.map ex)
  let g := sel.map (fun e =>
    if mode = 2 then f32Div f32One (f32Add f32One (f32Exp (f32Neg (nth 0 lg e)))) else f32Div (ex e) den)
  let total := f32Sum g
  let g2 := if flags.testBit 2 then g.map (fun w => f32Div w total) else g
  (sel.zip g2, lg.any f32Nan)

/-- R88: the place of token `t` among the tokens routed to expert `e`. -/
def routePlaceOf (all : List (List (Nat × Nat))) (t e : Nat) : Nat :=
  ((all.take t).filter (fun l => l.any (fun x => x.1 == e))).length

/-- R88: tokens routed to each expert. -/
def routeCounts (n : Nat) (all : List (List (Nat × Nat))) : List Nat :=
  tab n (fun e => routePlaceOf all all.length e)

/-- Σ COUNT[0..e − 1] (R88). -/
def routeOffset (counts : List Nat) (e : Nat) : Nat := (counts.take e).foldl (· + ·) 0

/-- R88: the dispatch table. -/
def routeTable (n : Nat) (all : List (List (Nat × Nat))) : Bytes :=
  let counts := routeCounts n all
  counts.flatMap (fun c => natLE 4 c) ++ (List.range n).flatMap (fun e => natLE 4 (routeOffset counts e)) ++
  all.flatMap (fun l => l.flatMap (fun x => natLE 2 x.1 ++ natLE 2 0 ++ natLE 4 x.2))

/-- Ranges that ROUTE reads. -/
def routeIns (d : Bytes) : List (Nat × Nat) :=
  let n := fieldLE d 4 2
  let tok := fieldLE d 8 4
  let look := (fieldLE d 3 1).testBit 3
  (fieldLE d 0x10 8, tok * n * routeLogitBytes d) ::
  ((if fieldLE d 0x18 8 = 0 then [] else [(fieldLE d 0x18 8, 4 * n)]) ++
   tab tok (fun t => (fieldLE d 0x20 8 + t * fieldLE d 0x28 4, fieldLE d 0x2C 4)) ++
   (if look then [(fieldLE d 0x40 8, 16 * n)] else []))

/-! ## Lookahead (R90, R91) -/

/-- Blocks of a weight range that are resident in HBM3 (R91). -/
def State.blockInHbm (s : State) (n b : Nat) : Bool :=
  match s.page n with
  | none => false
  | some p => p.home == 0 || ((p.upper == 1 || p.upper == 2) && p.resident.testBit b)

/-- R91: a weight range is resident when every tile block of it is. -/
def State.rangeResident (s : State) (a n : Nat) : Bool := (blocksOf a n).all (fun w => s.blockInHbm w.1 w.2)

/-- R91: a fetch of any of its tile blocks is in flight. -/
def State.rangeInFlight (s : State) (a n : Nat) : Bool :=
  (blocksOf a n).any (fun w => match s.page w.1 with
    | none => false
    | some p => p.inflight.testBit w.2)

/-- R90: a lookahead prefetch of a range through the attention unit's translation cache (R515); one that its context may not read
counts as failed (R92). -/
def State.lookahead (s : State) (palm c a n : Nat) : State :=
  if n = 0 ∨ s.rangeResident a n then s
  else if (s.accessFault c a n false).isSome then s.bump (Reg.ATT_CNT_LA_FETCH_ERR palm)
  else
    let bl := blocksOf a n
    each (pagesOf a n) (fun t pg =>
      (t.prefetchPage palm pg ((bl.filter (fun w => w.1 == pg)).map (·.2)) (s.ctxRt c) 5 none (some palm)).1) s

/-- R90: predicted scores Σ gate × w, exact, by expert of LAYER_NEXT: as many as this layer has, and every other one that the
affinity table names (log entry 35). -/
def State.lookScores (s : State) (d : Bytes) (all : List (List (Nat × Nat))) : List (Nat × FV) :=
  let tblA := fieldLE d 0x40 8
  all.foldl (fun acc l => l.foldl (fun acc x => (List.range 4).foldl (fun (acc : List (Nat × FV)) i =>
    let f := s.peekN (tblA + 16 * x.1 + 4 * i) 2
    let w := s.peekN (tblA + 16 * x.1 + 4 * i + 2) 2
    let v := (f32 x.2).mul (FV.fin false w (-16))
    match acc.find? (fun e => e.1 == f) with
    | some _ => acc.map (fun e => if e.1 = f then (f, e.2.add v) else e)
    | none => acc ++ [(f, v)]) acc) acc) (tab (fieldLE d 4 2) (fun f => (f, FV.fin false 0 0)))

/-- R90: the LA_MAX highest predicted scores, ties to the lower index. -/
def lookPick (n : Nat) (sc : List (Nat × FV)) : List Nat :=
  let key (i : Nat) : Nat × FV := nth (0, FV.fin false 0 0) sc i
  let before (a b : Nat) : Bool :=
    let x := key a
    let y := key b
    if FV.lt y.2 x.2 then true else if FV.lt x.2 y.2 then false else decide (x.1 < y.1)
  (topBy before sc.length n []).map (fun i => (key i).1)

/-- R91: key of a predicted set. -/
def lookKey (c layer : Nat) : Nat := c * 65536 + layer

/-- R91: the experts that a later ROUTE selects are counted against the recorded set, which is then spent (DEDUCED, log
entry 35). -/
def State.lookCount (s : State) (palm c : Nat) (d : Bytes) (counts : List Nat) : State :=
  let key := lookKey c (fieldLE d 0x0C 2)
  match s.look.find key with
  | none => s
  | some l =>
    let sel := (List.range counts.length).filter (fun e => decide (0 < nth 0 counts e))
    let s1 := each sel (fun t e =>
      let a := t.peekN (l.ranges + 16 * e) 8
      let n := t.peekN (l.ranges + 16 * e + 8) 8
      let there := t.rangeResident a n
      let flying := t.rangeInFlight a n
      let pred := l.experts.contains e
      t.bump (if pred && there then Reg.ATT_CNT_LA_HIT palm else if pred && flying then Reg.ATT_CNT_LA_LATE palm
        else if !pred && there then Reg.ATT_CNT_LA_NATIVE palm else Reg.ATT_CNT_LA_MISS palm)) s
    let waste := (l.experts.filter (fun e => !sel.contains e)).length
    let s2 := s1.add (Reg.ATT_CNT_LA_WASTE palm) waste
    { s2 with look := s2.look.drop key }

/-- R90, R91: the predicted set is recorded and its ranges are prefetched. -/
def State.lookStart (s : State) (palm c : Nat) (d : Bytes) (all : List (List (Nat × Nat))) : State :=
  let picks := lookPick (fieldLE d 6 1) (s.lookScores d all)
  let m := fieldLE d 0x48 8
  let s1 := { s with look := s.look.put (lookKey c (fieldLE d 0x0E 2)) ⟨picks, m⟩ }
  each picks (fun t f =>
    match t.accessRead c palm (m + 16 * f) 16 none with
    | (u, w) =>
      if w.status ≠ 0 then u.bump (Reg.ATT_CNT_LA_FETCH_ERR palm)
      else u.lookahead palm c (u.peekN (m + 16 * f) 8) (u.peekN (m + 16 * f + 8) 8)) s1

/-- R87, R88, R90, R91: ROUTE computes, writes its table and rows, and completes. -/
def State.routeWrites (s : State) (r : Nat) (q : Request) (palm : Nat) (d : Bytes) : State × Nat :=
  let n := fieldLE d 4 2
  let tok := fieldLE d 8 4
  let res := tab tok (fun t => s.routeToken d t)
  let all := res.map (·.1)
  let counts := routeCounts n all
  let s1 := s.lookCount palm q.ctx d counts
  let s2 := if res.any (·.2) then s1.orReg (Reg.ATT_FLAGS palm) 8 else s1
  let w1 := State.engineWrite (s2, 0) r q palm (fieldLE d 0x38 8) (routeTable n all)
  let rb := fieldLE d 0x2C 4
  (List.range tok).foldl (fun acc t => (nth [] all t).foldl (fun (acc : State × Nat) x =>
    State.engineWrite acc r q palm (fieldLE d 0x30 8 + (routeOffset counts x.1 + routePlaceOf all t x.1) * rb)
      (s.peek (fieldLE d 0x20 8 + t * fieldLE d 0x28 4) rb)) acc) w1

/-- R86, R90: a ROUTE that has its inputs writes its outputs, starts its lookahead and ends. -/
def State.routeRun (s : State) (r : Nat) (q : Request) (palm : Nat) (d : Bytes) : State :=
  let w := s.routeWrites r q palm d
  if w.2 ≠ 0 then (w.1.havocOuts q (routeOuts d)).endReq r w.2 0 false
  else
    let all := (tab (fieldLE d 8 4) (fun t => s.routeToken d t)).map (·.1)
    let s3 := if (fieldLE d 3 1).testBit 3 then w.1.lookStart palm q.ctx d all else w.1
    s3.callDone r palm

/-- ROUTE: checked, its inputs read, and run once they are resident (R15). -/
def State.route (s : State) (r : Nat) : State :=
  s.attCommand r 0x22 (fun t q =>
    let d := t.peek q.cmdAddr 128
    match t.routePlace q [(fieldLE d 0x10 8, Nat.min 16777216 (fieldLE d 8 4 * fieldLE d 4 2 * 4))] with
    | none => t
    | some palm =>
      let m := routeMask q.cmdAddr d
      if m ≠ 0 then t.engineRefuse r q (Reg.ATT_REJECT palm) (Reg.ATT_REJECT_DESC palm) m
      else match t.engineReads r q palm (routeIns d) (routeOuts d) true with
        | (t1, .failed st) => (t1.havocOuts q (routeOuts d)).endReq r st 0 false
        | (t1, .ready) => t1.routeRun r q palm d
        | (t1, _) => t1)

/-! ## COMBINE (R89) -/

/-- R89: the checks of a COMBINE descriptor at `addr`, as ATT_REJECT bits. -/
def combineMask (addr : Nat) (d : Bytes) : Nat :=
  let topk := fieldLE d 2 1
  let flags := fieldLE d 3 1
  let ex := fieldLE d 4 2
  let tok := fieldLE d 8 4
  let wid := fieldLE d 0x0C 2
  let res := flags.testBit 3
  let addrs := [fieldLE d 0x10 8, fieldLE d 0x18 8, fieldLE d 0x20 8, fieldLE d 0x28 4, fieldLE d 0x2C 4, fieldLE d 0x30 4,
    fieldLE d 0x38 8]
  b2n (decide (ex < 1) || decide (256 < ex) || decide (topk < 1) || decide (8 < topk) || decide (ex < topk) ||
    decide (tok < 1) || decide (16384 < tok) || decide (wid < 1) || decide (16384 < wid)) * 2 +
  b2n (addr % 128 != 0 || addrs.any (fun a => a % 64 != 0)) * 64 +
  b2n (bits flags 4 4 != 0 || fieldLE d 0x0E 2 != 0 || fieldLE d 0x40 64 != 0 ||
    (!res && (fieldLE d 7 1 != 0 || fieldLE d 0x18 8 != 0 || fieldLE d 0x30 4 != 0))) * 128 +
  b2n (bits flags 0 2 == 3 || decide (2 < fieldLE d 1 1) || decide (4 < fieldLE d 6 1) ||
    (res && decide (2 < fieldLE d 7 1))) * 256

/-- Gathered row of token `t` and rank `r` by the dispatch table: its expert, gate and slot. -/
def State.combineEntry (s : State) (d : Bytes) (t r : Nat) : Nat × Nat × Nat :=
  let n := fieldLE d 4 2
  let k := fieldLE d 2 1
  let base := fieldLE d 0x38 8
  let ent (t r : Nat) : Nat := base + 8 * n + 8 * (t * k + r)
  let e := s.peekN (ent t r) 2
  let i := countIdx t (fun u => (List.range k).any (fun v => s.peekN (ent u v) 2 == e))
  (e, s.peekN (ent t r + 4) 4, s.peekN (base + 4 * n + 4 * e) 4 + i)

/-- Ranges that COMBINE reads besides the dispatch table. -/
def State.combineIns (s : State) (d : Bytes) : List (Nat × Nat) :=
  let k := fieldLE d 2 1
  let tok := fieldLE d 8 4
  let w := fieldLE d 0x0C 2
  let b := fmtBytes (fieldLE d 1 1)
  (List.range tok).flatMap (fun t => (List.range k).map (fun r =>
    (fieldLE d 0x10 8 + (s.combineEntry d t r).2.2 * fieldLE d 0x28 4, w * b))) ++
  (if (fieldLE d 3 1).testBit 3 then
    tab tok (fun t => (fieldLE d 0x18 8 + t * fieldLE d 0x30 4, w * fmtBytes (fieldLE d 7 1))) else [])

/-- The dispatch table of a COMBINE. -/
def combineTab (d : Bytes) : List (Nat × Nat) :=
  [(fieldLE d 0x38 8, 8 * fieldLE d 4 2 + 8 * fieldLE d 8 4 * fieldLE d 2 1)]

/-- R89: the output row of a token and whether an element was saturated. -/
def State.combineRow (s : State) (d : Bytes) (t : Nat) : List Nat × Bool :=
  let k := fieldLE d 2 1
  let w := fieldLE d 0x0C 2
  let fi := fieldLE d 1 1
  let flags := fieldLE d 3 1
  let f := (fmtFloat (fieldLE d 6 1)).getD fp32
  let rows := tab k (fun r =>
    let e := s.combineEntry d t r
    (e.2.1, (s.fmtVec fi (fieldLE d 0x10 8 + e.2.2 * fieldLE d 0x28 4) w).map toF32))
  let resRow := if flags.testBit 3 then
      (s.fmtVec (fieldLE d 7 1) (fieldLE d 0x18 8 + t * fieldLE d 0x30 4) w).map toF32 else []
  let outs := tab w (fun j =>
    let y := rows.foldl (fun y e => f32Fma e.1 (nth 0 e.2 j) y) 0
    let z := if flags.testBit 3 then f32Add y (nth 0 resRow j) else y
    f.enc (rndAt (if fieldLE d 6 1 = 0 then 0 else bits flags 0 2) (fieldLE d 0x34 4) t j) (flags.testBit 2) false (f32 z))
  (outs.map (·.1), outs.any (fun e => e.2 &&& flagSat != 0))

/-- COMBINE computes, writes and completes. -/
def State.combineWrites (s : State) (r : Nat) (q : Request) (palm : Nat) (d : Bytes) : State × Nat :=
  let wb := fmtBits (fieldLE d 6 1)
  let res := (List.range (fieldLE d 8 4)).foldl (fun (acc : (State × Nat) × Bool) t =>
    let o := s.combineRow d t
    (State.engineWrite acc.1 r q palm (fieldLE d 0x20 8 + t * fieldLE d 0x2C 4) (packElems wb o.1 0), acc.2 || o.2)) ((s, 0), false)
  (if res.2 then res.1.1.orReg (Reg.ATT_FLAGS palm) 4 else res.1.1, res.1.2)

/-- R89: a COMBINE that has its inputs writes its output rows and ends. -/
def State.combineRun (s : State) (r : Nat) (q : Request) (palm : Nat) (d : Bytes) : State :=
  let w := s.combineWrites r q palm d
  if w.2 ≠ 0 then (w.1.havocOuts q (combineOuts d)).endReq r w.2 0 false
  else w.1.callDone r palm

/-- R89: whether some entry names an expert out of range. -/
def State.combineStray (s : State) (d : Bytes) : Bool :=
  (List.range (fieldLE d 8 4)).any (fun t => (List.range (fieldLE d 2 1)).any (fun k =>
    decide (fieldLE d 4 2 ≤ (s.combineEntry d t k).1)))

/-- COMBINE: checked, its table and rows read, and run once they are resident. An entry whose expert is out of range ends it
with BAD_DESCRIPTOR and SHAPE. -/
def State.combine (s : State) (r : Nat) : State :=
  s.attCommand r 0x23 (fun t q =>
    let d := t.peek q.cmdAddr 128
    match t.routePlace q [(fieldLE d 0x10 8, Nat.min 16777216 (fieldLE d 8 4 * fieldLE d 0x28 4))] with
    | none => t
    | some palm =>
      let m := combineMask q.cmdAddr d
      if m ≠ 0 then t.engineRefuse r q (Reg.ATT_REJECT palm) (Reg.ATT_REJECT_DESC palm) m
      else match t.engineReads r q palm (combineTab d) (combineOuts d) with
        | (t1, .failed st) => (t1.havocOuts q (combineOuts d)).endReq r st 0 false
        | (t1, .ready) =>
          if t1.combineStray d then
            (t1.havocOuts q (combineOuts d)).engineRefuse r q (Reg.ATT_REJECT palm) (Reg.ATT_REJECT_DESC palm) 2
          else match t1.engineReads r q palm (t1.combineIns d) (combineOuts d) true with
            | (t2, .failed st) => (t2.havocOuts q (combineOuts d)).endReq r st 0 false
            | (t2, .ready) => t2.combineRun r q palm d
            | (t2, _) => t2
        | (t1, _) => t1)

/-- ROUTE (R87). -/
def execRoute (r : Nat) (s : State) : Host.Outcome State Fault Refusal := done s (s.work (fun u => u.route r))

/-- COMBINE (R89). -/
def execCombine (r : Nat) (s : State) : Host.Outcome State Fault Refusal := done s (s.work (fun u => u.combine r))

end Sys2Proof.Machine
end

