-- ==== Sys2Proof/Machine/Crop.lean ====
section
/-! DEFINITION. Crop-and-resize on the sampler front (R109 to R116). -/

namespace Sys2Proof.Machine

/-- R109: the checks of a descriptor at `addr`, as VIS_CR_REJECT bits. -/
def cropMask (addr : Nat) (d : Bytes) : Nat :=
  let fi := fieldLE d 1 1
  let fo := fieldLE d 2 1
  let fl := fieldLE d 3 1
  let box := fieldLE d 4 2
  let oh := fieldLE d 6 1
  let ow := fieldLE d 7 1
  let h := fieldLE d 8 2
  let w := fieldLE d 0x0A 2
  let c := fieldLE d 0x0C 2
  let im := fieldLE d 0x0E 2
  let out (x lo hi : Nat) : Bool := decide (x < lo) || decide (hi < x)
  let addrs := [fieldLE d 0x10 8, fieldLE d 0x18 8, fieldLE d 0x20 8, fieldLE d 0x28 4, fieldLE d 0x2C 4, fieldLE d 0x30 8,
    fieldLE d 0x38 4, fieldLE d 0x3C 4, fieldLE d 0x40 8]
  b2n (!([1, 2, 3, 4, 5, 6, 0x0A].contains fi) || decide (4 < fo)) +
  b2n (out box 1 1024 || out oh 1 64 || out ow 1 64 || out c 1 1024 || out h 1 16384 || out w 1 16384 || out im 1 256) * 2 +
  b2n (addr % 128 != 0 || addrs.any (fun a => a % 64 != 0)) * 4 + b2n (decide (1 < bits fl 1 2) || bits fl 4 2 == 3) * 8 +
  b2n (fl.testBit 7 || fieldLE d 0x50 48 != 0) * 16

/-- A coordinate of a box along one axis: sample point of output index `i`, each operation rounded (R111). -/
def cropPoint (coord a b size n i : Nat) : Nat :=
  let k (x : Nat) : Nat := f32OfInt (x : Int)
  if coord = 0 then
    if 1 < n then
      let step := f32Div (f32Mul (f32Sub b a) (k (size - 1))) (k (n - 1))
      f32Fma (k i) step (f32Mul a (k (size - 1)))
    else f32Mul (f32Mul 0x3F000000 (f32Add a b)) (k (size - 1))
  else
    let step := f32Div (f32Sub b a) (k n)
    let half := FV.fin false 1 (-1)
    let c := (FV.ofInt i 0).add half
    toF32 ((f32 (toF32 ((c.mul (f32 step)).add (f32 a)))).add half.neg)

/-- R112: whether a sample point lies inside along one axis. -/
def cropInside (y size : Nat) : Bool := f32Le 0 y && f32Le y (f32OfInt ((size : Int) - 1))

/-- R112: a sample point clamped along one axis. -/
def cropClamp (y size : Nat) : Nat := f32Min (f32Max 0 y) (f32OfInt ((size : Int) - 1))

/-- Entry `k` of the box list: the coordinates Y1, X1, Y2, X2 and IMAGE (R110). -/
def State.cropBox (s : State) (d : Bytes) (k : Nat) : List Nat × Nat :=
  let a := fieldLE d 0x18 8 + 32 * k
  (tab 4 (fun i => s.peekN (a + 4 * i) 4), s.peekN (a + 16) 4)

/-- R114: a box that is written in full with FILL. -/
def cropBad (d : Bytes) (b : List Nat × Nat) : Bool :=
  b.1.any (fun w => !f32Fin w) || decide (fieldLE d 0x0E 2 ≤ b.2)

/-- Sample point of output position (i, j), clamped where CLAMP is set, and whether it samples the image. -/
def cropSample (d : Bytes) (b : List Nat × Nat) (i j : Nat) : Nat × Nat × Bool :=
  let fl := fieldLE d 3 1
  let y := cropPoint (bits fl 1 2) (nth 0 b.1 0) (nth 0 b.1 2) (fieldLE d 8 2) (fieldLE d 6 1) i
  let x := cropPoint (bits fl 1 2) (nth 0 b.1 1) (nth 0 b.1 3) (fieldLE d 0x0A 2) (fieldLE d 7 1) j
  if fl.testBit 3 then (cropClamp y (fieldLE d 8 2), cropClamp x (fieldLE d 0x0A 2), true)
  else (y, x, cropInside y (fieldLE d 8 2) && cropInside x (fieldLE d 0x0A 2))

/-- R112: with CLAMP set and a point that is not a number, the spec gives no clamped point: the outputs are free. -/
def cropFree (d : Bytes) (b : List Nat × Nat) (i j : Nat) : Bool :=
  let fl := fieldLE d 3 1
  fl.testBit 3 && (f32Nan (cropPoint (bits fl 1 2) (nth 0 b.1 0) (nth 0 b.1 2) (fieldLE d 8 2) (fieldLE d 6 1) i) ||
    f32Nan (cropPoint (bits fl 1 2) (nth 0 b.1 1) (nth 0 b.1 3) (fieldLE d 0x0A 2) (fieldLE d 7 1) j))

/-- Address of an image row (R94). -/
def cropRowAddr (d : Bytes) (img blk y : Nat) : Nat :=
  fieldLE d 0x10 8 + img * fieldLE d 0x30 8 + blk * fieldLE d 0x2C 4 + y * fieldLE d 0x28 4

/-- Value of channel `c` at (y, x) of an image. -/
def State.cropPixel (s : State) (d : Bytes) (img y x c : Nat) : FV :=
  let f := fieldLE d 1 1
  let b := blockChans f
  let w := fieldLE d 0x0A 2
  layoutValue f w (s.peek (cropRowAddr d img (c / b) y) (layoutRowBytes f w)) x (c % b)

/-- R113: the rows that interpolation at `y` uses. -/
def cropLines (near : Bool) (y size : Nat) : List Nat :=
  if near then [Nat.min ((f32 y).add (FV.fin false 1 (-1))).floor.toNat (size - 1)]
  else
    let y0 := (f32 y).floor.toNat
    [y0, Nat.min (y0 + 1) (size - 1)]

/-- R113: the interpolated value before its rounding. -/
def State.cropValue (s : State) (d : Bytes) (img y x c : Nat) : FV :=
  let near := (fieldLE d 3 1).testBit 0
  let ys := cropLines near y (fieldLE d 8 2)
  let xs := cropLines near x (fieldLE d 0x0A 2)
  let p (i j : Nat) : FV := s.cropPixel d img (nth 0 ys i) (nth 0 xs j) c
  if near then p 0 0
  else
    let fy := toF32 ((f32 y).add (FV.ofInt ((nth 0 ys 0 : Nat) : Int) 0).neg)
    let fx := toF32 ((f32 x).add (FV.ofInt ((nth 0 xs 0 : Nat) : Int) 0).neg)
    let gy := f32Sub f32One fy
    let gx := f32Sub f32One fx
    ((((Acc.zero.putMul (f32 (f32Mul gy gx)) (p 0 0)).putMul (f32 (f32Mul gy fx)) (p 0 1)).putMul (f32 (f32Mul fy gx)) (p 1 0)).putMul
      (f32 (f32Mul fy fx)) (p 1 1)).value

/-- R24, R113: an output element and its conversion events. -/
def cropConvert (d : Bytes) (k i j c : Nat) (v : FV) : Nat × Nat :=
  let fl := fieldLE d 3 1
  let fo := fieldLE d 2 1
  let rd := rndAt (bits fl 4 2) (fieldLE d 0x4C 4) (k * 64 + i) (j * 1024 + c)
  if fo = 0 then fp32.enc rd (fl.testBit 6) false v
  else
    let x := fp32.enc rne (fl.testBit 6) false v
    let y := ((fmtFloat fo).getD fp32).enc rd (fl.testBit 6) false (f32 x.1)
    (y.1, y.2 ||| (x.2 &&& flagSat))

/-- Image ranges that a box reads. -/
def State.cropIns (s : State) (d : Bytes) (k : Nat) : List (Nat × Nat) :=
  let b := s.cropBox d k
  if cropBad d b then []
  else
    let near := (fieldLE d 3 1).testBit 0
    let ys := ((List.range (fieldLE d 6 1)).flatMap (fun i => (List.range (fieldLE d 7 1)).flatMap (fun j =>
      let p := cropSample d b i j
      if p.2.2 then cropLines near p.1 (fieldLE d 8 2) else []))).eraseDups
    (List.range (ceilDiv (fieldLE d 0x0C 2) (blockChans (fieldLE d 1 1)))).flatMap (fun blk =>
      ys.map (fun y => (cropRowAddr d b.2 blk y, layoutRowBytes (fieldLE d 1 1) (fieldLE d 0x0A 2))))

/-- The image as a call reads it: what others wrote while it runs is unspecified (R115). -/
def State.cropView (s : State) (ws : List (Nat × Nat)) : State := each ws (fun t w => t.havoc w.1 w.2) s

/-- Output element and events of box `k` at (i, j, c); the image is read in `v`. -/
def State.cropElem (s v : State) (d : Bytes) (k i j c : Nat) : Nat × Nat :=
  let b := s.cropBox d k
  let p := cropSample d b i j
  if cropBad d b then cropConvert d k i j c (f32 (fieldLE d 0x48 4))
  else if cropFree d b i j then
    ((Config.freeWord (v.fresh + (i * 64 + j) * 1024 + c)).toNat % 2 ^ fmtBits (fieldLE d 2 1), 0)
  else if !p.2.2 then cropConvert d k i j c (f32 (fieldLE d 0x48 4))
  else cropConvert d k i j c (v.cropValue d b.2 p.1 p.2.1 c)

/-- Address of row `i` of channel block `blk` of box `k`'s output (R94, R110). -/
def cropOutAddr (d : Bytes) (k blk i : Nat) : Nat :=
  fieldLE d 0x20 8 + k * fieldLE d 0x40 8 + blk * fieldLE d 0x3C 4 + i * fieldLE d 0x38 4

/-- The rows that box `k` writes. -/
def cropBoxOuts (d : Bytes) (k : Nat) : List (Nat × Nat) :=
  (List.range (ceilDiv (fieldLE d 0x0C 2) (blockChans (fieldLE d 2 1)))).flatMap (fun blk =>
    (List.range (fieldLE d 6 1)).map (fun i => (cropOutAddr d k blk i, layoutRowBytes (fieldLE d 2 1) (fieldLE d 7 1))))

/-- R110, R113: box `k` is written, the image being read in `v`; the status met and the conversion events. -/
def State.cropWrite (s v : State) (r : Nat) (q : Request) (d : Bytes) (k : Nat) : (State × Nat) × Nat :=
  let fo := fieldLE d 2 1
  let lanes := blockChans fo
  let ch := fieldLE d 0x0C 2
  let ow := fieldLE d 7 1
  (List.range (ceilDiv ch lanes)).foldl (fun acc blk => (List.range (fieldLE d 6 1)).foldl (fun (acc : (State × Nat) × Nat) i =>
    let el (j l : Nat) : Nat × Nat := if blk * lanes + l < ch then s.cropElem v d k i j (blk * lanes + l) else (0, 0)
    let row := layoutRow fo ow (fun j l => (el j l).1) (fun _ => 127)
    let ev := (List.range ow).foldl (fun e j => (List.range lanes).foldl (fun e l => e ||| (el j l).2) e) 0
    (State.engineWrite acc.1 r q 4 (cropOutAddr d k blk i) row, acc.2 ||| ev)) acc) ((s, 0), 0)

/-- CROP_AND_RESIZE: a call is checked and starts on the sampler front. -/
def State.cropAndResize (s : State) (r : Nat) : State :=
  match s.engReq r [4] with
  | none => s
  | some q =>
    let d := s.peek q.cmdAddr 128
    if fieldLE d 0 1 ≠ 0x35 then s.engineRefuse r q Reg.VIS_CR_REJECT Reg.VIS_CR_REJECT_DESC 32
    else if s.crop.isSome ∨ !s.gateOn 0x92 then s
    else
      let m := cropMask q.cmdAddr d
      if m ≠ 0 then s.engineRefuse r q Reg.VIS_CR_REJECT Reg.VIS_CR_REJECT_DESC m
      else match s.engineReads r q 4 [(fieldLE d 0x18 8, 32 * fieldLE d 4 2)] [] with
        | (t, .failed st) => (t.havocOuts q (cropOuts d)).endReq r st 0 false
        | (t, .ready) =>
          let t1 := match t.req r with
            | none => t
            | some q1 => t.putReq r { q1 with outs := cropOuts d, units := [0x92] }
          { (t1.setRegN Reg.VIS_CR_STATE (1 + q.ctx * 2 ^ 8)) with crop := some ⟨r, 0, []⟩ }
        | (t, _) => t

/-- A call ends. -/
def State.cropEnd (s : State) (r : Nat) (q : Request) (st : Nat) : State :=
  let s1 := ({ s with crop := none }).setRegN Reg.VIS_CR_STATE 0
  if st = 0 then (s1.endReq r 0 0 false).bump Reg.VIS_CR_CNT_CALLS
  else ((s1.havocOuts q q.outs).endReq r st 0 false).bump Reg.VIS_CR_CNT_CALLS

/-- CROP_BOX_DONE: the box in progress is written and the next one follows. -/
def State.cropBoxDone (s : State) : State :=
  match s.crop with
  | none => s
  | some x => match s.req x.req with
    | none => s
    | some q =>
      let d := s.peek q.cmdAddr 128
      match s.engineReads x.req q 4 (s.cropIns d x.box) (cropBoxOuts d x.box) true with
      | (t, .failed st) => t.cropEnd x.req q st
      | (t, .ready) =>
        let b := t.cropBox d x.box
        let bad := cropBad d b
        let filled := if bad then 0 else countIdx (fieldLE d 6 1 * fieldLE d 7 1) (fun m =>
          !(cropSample d b (m / fieldLE d 7 1) (m % fieldLE d 7 1)).2.2)
        let v := t.cropView x.written
        let res := t.cropWrite v x.req q d x.box
        let t1 := { res.1.1 with fresh := v.fresh + 4194304 }
        let fl := b2n bad + b2n (decide (0 < filled)) * 2 + b2n (res.2 &&& flagNan != 0) * 4 + b2n (res.2 &&& flagSat != 0) * 8
        let t2 := (t1.orReg Reg.VIS_CR_FLAGS fl).add Reg.VIS_CR_CNT_FILLED filled
        let t3 := if bad then t2.bump Reg.VIS_CR_CNT_BAD_BOX else t2
        if res.1.2 ≠ 0 then t3.cropEnd x.req q res.1.2
        else
          (if x.box + 1 = fieldLE d 4 2 then t3.cropEnd x.req q 0
           else ({ t3 with crop := some ⟨x.req, x.box + 1, x.written⟩ }).setFld Reg.VIS_CR_STATE 16 16 (x.box + 1)).setReg
            Reg.VIS_CR_CNT_BOXES (s.reg Reg.VIS_CR_CNT_BOXES + 1)
      | (t, _) => t

/-- CROP_AND_RESIZE (R109). -/
def execCropAndResize (r : Nat) (s : State) : Host.Outcome State Fault Refusal :=
  done s (s.work (fun u => u.cropAndResize r))

/-- CROP_BOX_DONE (R115). -/
def execCropBoxDone (s : State) : Host.Outcome State Fault Refusal := done s (s.work State.cropBoxDone)

end Sys2Proof.Machine
end

