-- ==== Sys2Proof/Machine/VisorData.lean ====
section
/-! DEFINITION. What the Visor does with data: the pixels of pictures as packed items hold them (R241, R251), ROI boxes
and their crops (R245), the tokenizer and its dictionary images (R247 to R249), and items (R250). -/

namespace Sys2Proof.Machine

/-! ## Pixels (R251) -/

/-- Horizontal and vertical chroma subsampling by SensorData.chroma. -/
def chromaSub (c : Nat) : Nat × Nat :=
  if c = 1 then (2, 2) else if c = 2 then (2, 1) else if c = 4 then (1, 2) else (1, 1)

/-- Luma and chroma samples of a picture (R243). -/
def pictureSamples (c w h : Nat) : Nat :=
  let k := chromaSub c
  if c = 0 then w * h else w * h + 2 * (ceilDiv w k.1 * ceilDiv h k.2)

/-- Sample (y, x) of plane `i` (0 Y, 1 Cb, 2 Cr) of a picture of w × h samples, planar at the coded sampling (R241). -/
def planarAt (d : SensorData) (w h : Nat) (bs : Bytes) (i y x : Nat) : Nat :=
  let n := if d.deep then 2 else 1
  let k := chromaSub d.chroma
  let cw := ceilDiv w k.1
  let at_ := if i = 0 then y * w + x else w * h + (i - 1) * (cw * ceilDiv h k.2) + y * cw + x
  fieldLE bs (at_ * n) n

/-- Width and height of a plane. -/
def planeDims (d : SensorData) (w h i : Nat) : Nat × Nat :=
  let k := chromaSub d.chroma
  if i = 0 then (w, h) else (ceilDiv w k.1, ceilDiv h k.2)

/-- The samples of block (y, x) of k × k of a plane of w × h: those that lie in the picture (DESIGN CHOICE, log entry 59). -/
def blockOf2 (k w h y x : Nat) : List (Nat × Nat) :=
  (List.range (k * k)).filterMap (fun m =>
    let p := (y * k + m / k, x * k + m % k)
    if p.1 < h ∧ p.2 < w then some p else none)

/-- R241, R107: the exact sum of a block's samples divided by their number. -/
def blockMean (ps : List (Nat × Nat)) (v : Nat × Nat → FV) : FV :=
  (ps.foldl (fun acc p => acc.add (v p)) (FV.fin false 0 0)).div (.fin false ps.length 0)

/-- R241: sample (y, x) of plane `i` of the picture reduced by `k` in OUT_MODE 0. -/
def planarReduced (d : SensorData) (k : Nat) (bs : Bytes) (i y x : Nat) : Nat :=
  let wh := planeDims d d.width d.height i
  (blockMean (blockOf2 k wh.1 wh.2 y x) (fun p => FV.ofInt ((planarAt d d.width d.height bs i p.1 p.2 : Nat) : Int) 0)).toIntRne.toNat

/-- R251: pixel (y, x) of a planar picture given by its planes: Y, and the chroma values of the chroma sample that covers it; a
picture of one component has no chroma, and its chroma values are free (log entry 59). -/
def planarPixel (d : SensorData) (fresh : Nat) (plane : Nat → Nat → Nat → Nat) (y x : Nat) : Bytes :=
  let n := if d.deep then 2 else 1
  let k := chromaSub d.chroma
  if d.chroma = 0 then natLE n (plane 0 y x) ++ tab (2 * n) (fun i => Config.freeByte (fresh + i))
  else natLE n (plane 0 y x) ++ natLE n (plane 1 (y / k.2) (x / k.1)) ++ natLE n (plane 2 (y / k.2) (x / k.1))

/-- The two chroma positions of `n` along one axis that a sample at `x` lies between, and the weights (of four) that bilinear
upsampling gives them, with chroma samples at the centres of the samples they cover (PRESUMED, log entry 59). -/
def upTaps (sub n x : Nat) : List (Nat × Int) :=
  if sub = 1 then [(x, 4)]
  else
    let c := x / 2
    [(c, 3), (if x % 2 = 0 then c - 1 else Nat.min (c + 1) (n - 1), 1)]

/-- Sixteen times the chroma value of plane `i` at sample (y, x), upsampled bilinearly. -/
def chromaUp (d : SensorData) (bs : Bytes) (i y x : Nat) : Int :=
  let k := chromaSub d.chroma
  let wh := planeDims d d.width d.height i
  (upTaps k.2 wh.2 y).foldl (fun acc ty => (upTaps k.1 wh.1 x).foldl (fun acc tx =>
    acc + ty.2 * tx.2 * (planarAt d d.width d.height bs i ty.1 tx.1 : Nat)) acc) 0

/-- Kr and Kb of a colour matrix in units of 10⁻⁴: BT.601 for JPEG, and for H.265 the matrix of its VUI, BT.709 when absent
(R241; the coefficients are those of the standards that it names, log entry 59). -/
def colourK (jpeg : Bool) (colour : Nat) : Int × Int :=
  if jpeg || colour == 1 then (2990, 1140) else if colour = 3 then (2627, 593) else (2126, 722)

/-- R241: channel `c` (0 R, 1 G, 2 B) of pixel (y, x): (x − OFFSET) × SCALE of the exact colour value, rounded once to BF16. JPEG
is full range; H.265 is as its VUI signals (PRESUMED, log entry 59). -/
def rgbChannel (jpeg : Bool) (d : SensorData) (pic : DecodedPicture) (scale y x c : Nat) : Nat :=
  let depth := if d.deep then 10 else 8
  let s : Int := 2 ^ (depth - 8)
  let top : Int := 2 ^ depth - 1
  let full := jpeg || pic.full
  let lo : Int := if full then 0 else 16 * s
  let (ln, cn, den) : Int × Int × Int := if full then (1, 1, 1) else (224 * top, 219 * top, 219 * 224 * s)
  let k := colourK jpeg pic.colour
  let kg := 10000 - k.1 - k.2
  let lum := 16 * ((planarAt d d.width d.height pic.picture 0 y x : Nat) - lo) * ln
  let chr (i : Nat) : Int := if d.chroma = 0 then 0 else (chromaUp d pic.picture i y x - 16 * 2 ^ (depth - 1)) * cn
  let num : Int :=
    if c = 0 then kg * (10000 * lum + 2 * (10000 - k.1) * chr 2)
    else if c = 1 then kg * 10000 * lum - 2 * k.2 * (10000 - k.2) * chr 1 - 2 * k.1 * (10000 - k.1) * chr 2
    else kg * (10000 * lum + 2 * (10000 - k.2) * chr 1)
  let all := FV.ofInt (16 * 10000 * kg * den) 0
  (bf16.enc rne false false
    ((((FV.ofInt num 0).add ((f32 (bits scale 32 32)).mul all).neg).mul (f32 (bits scale 0 32))).div all)).1

/-- R241: channel `c` of pixel (y, x) of the picture reduced by `k` in OUT_MODE 1. -/
def rgbReduced (d : SensorData) (k : Nat) (rgb : Nat → Nat → Nat → Nat) (y x c : Nat) : Nat :=
  (bf16.enc rne false false (blockMean (blockOf2 k d.width d.height y x) (fun p => bf16.dec (rgb p.1 p.2 c)))).1

/-- R251: pixel (y, x) of a picture of OUT_MODE 1 given by its channels. -/
def rgbPixel (rgb : Nat → Nat → Nat → Nat) (y x : Nat) : Bytes := (List.range 3).flatMap (fun c => natLE 2 (rgb y x c))

/-- R94, R241: the rows of a picture of OUT_MODE 1 in the C16 layout with BF16 elements. -/
def rgbRows (w h : Nat) (rgb : Nat → Nat → Nat → Nat) : Bytes :=
  (List.range h).flatMap (fun y => layoutRow 1 w (fun x c => if c < 3 then rgb y x c else 0) (fun _ => 127))

/-- CSI-2 data types (PRESUMED from the MIPI standard, log entry 59): 0 RAW8, 1 RAW10 or RAW12, 2 YUV422, 3 RGB888. -/
def csiKind (dt : Nat) : Option Nat :=
  if dt = 0x2A then some 0 else if dt = 0x2B ∨ dt = 0x2C then some 1 else if dt = 0x1E then some 2
  else if dt = 0x24 then some 3 else none

/-- A byte of received data. -/
def byteAt (bs : Bytes) (i : Nat) : Nat := (nth 0 bs i).toNat

/-- R251: pixel (y, x) of a received CSI frame (packing PRESUMED from the MIPI standard, log entry 59). -/
def csiPixel (dt w : Nat) (bs : Bytes) (y x : Nat) : Bytes :=
  if dt = 0x2A then natLE 1 (byteAt bs (y * w + x))
  else if dt = 0x2B then
    let o := y * ceilDiv (10 * w) 8 + 5 * (x / 4)
    natLE 2 (byteAt bs (o + x % 4) * 4 + bits (byteAt bs (o + 4)) (2 * (x % 4)) 2)
  else if dt = 0x2C then
    let o := y * ceilDiv (12 * w) 8 + 3 * (x / 2)
    natLE 2 (byteAt bs (o + x % 2) * 16 + bits (byteAt bs (o + 2)) (4 * (x % 2)) 4)
  else if dt = 0x1E then
    let o := y * (2 * w) + 4 * (x / 2)
    natLE 1 (byteAt bs (o + 1 + 2 * (x % 2))) ++ natLE 1 (byteAt bs o) ++ natLE 1 (byteAt bs (o + 2))
  else
    let o := y * (3 * w) + 3 * x
    natLE 1 (byteAt bs (o + 2)) ++ natLE 1 (byteAt bs (o + 1)) ++ natLE 1 (byteAt bs o)

/-- Pixel sizes in bytes that a stream's pictures may have (R251), from its VIS_STR_CFG; none for what is packed raw. With
H.265 in OUT_MODE 0 the sample depth is known only from the coded data. -/
def pixelSizes (cfg : Nat) : List Nat :=
  let ty := bits cfg 1 3
  let codec := bits cfg 32 2
  if codec ≠ 0 ∧ (ty = 0 ∨ ty = 3) then
    (if cfg.testBit 34 then [6] else if codec = 1 then [3] else [3, 6])
  else if ty = 0 then
    match csiKind (bits cfg 10 6) with
    | some 0 => [1]
    | some 1 => [2]
    | some _ => [3]
    | none => []
  else []

/-! ## Items (R250) -/

/-- Items of a picture cut into patches. -/
def patchCount (p w h : Nat) : Nat := if p = 0 then 0 else ceilDiv w p * ceilDiv h p

/-- R250: the bytes of the first `n` patches in row-major order, the picture zero-padded on the right and bottom. -/
def patchItems (p item w h n : Nat) (px : Nat → Nat → Bytes) (size : Nat) : Bytes :=
  let cols := ceilDiv w p
  (List.range n).flatMap (fun k => padTo item ((List.range (p * p)).flatMap (fun m =>
    let y := (k / cols) * p + m / p
    let x := (k % cols) * p + m % p
    if y < h ∧ x < w then px y x else List.replicate size 0)))

/-- R250: raw data cut into items, the last one zero-padded. -/
def rawItems (item n : Nat) (bs : Bytes) : Bytes := padTo (item * n) bs

/-- R250: token items. -/
def textItems (item : Nat) (ids : List Nat) : Bytes := ids.flatMap (fun i => padTo item (natLE 4 i))

/-! ## ROI boxes (R245) -/

/-- R245: a box of the list (Y1, X1, Y2, X2, VY, VX) grown for `dt` seconds with margins: Y1, X1, Y2, X2. -/
def growBox (b : List Nat) (dt px frac : Nat) : List Nat :=
  let y1 := nth 0 b 0
  let x1 := nth 0 b 1
  let y2 := nth 0 b 2
  let x2 := nth 0 b 3
  let gy := f32Add px (f32Mul frac (f32Abs (f32Sub y2 y1)))
  let gx := f32Add px (f32Mul frac (f32Abs (f32Sub x2 x1)))
  let my := f32Mul (nth 0 b 4) dt
  let mx := f32Mul (nth 0 b 5) dt
  [f32Sub (f32Add y1 my) gy, f32Sub (f32Add x1 mx) gx, f32Add (f32Add y2 my) gy, f32Add (f32Add x2 mx) gx]

/-- R245: the crop-and-resize descriptor of a box over a picture of h × w in the C16 layout: BF16 to BF16, bilinear, COORD 1,
CLAMP. The picture and the box are placed at the addresses 0 and 2^40 of a memory of their own. R245 names no FILL: it is the
free value `fill` (log entry 59). -/
def cropDesc (h w ch cw fill : Nat) : Bytes :=
  natLE 1 0x35 ++ natLE 1 1 ++ natLE 1 1 ++ natLE 1 (2 + 8) ++ natLE 2 1 ++ natLE 1 ch ++ natLE 1 cw ++ natLE 2 h ++ natLE 2 w ++
  natLE 2 3 ++ natLE 2 1 ++ natLE 8 0 ++ natLE 8 (2 ^ 40) ++ natLE 8 0 ++ natLE 4 (layoutRowBytes 1 w) ++ natLE 4 0 ++
  natLE 8 0 ++ natLE 4 0 ++ natLE 4 0 ++ natLE 8 0 ++ natLE 4 fill ++ natLE 4 0 ++ List.replicate 48 0

/-- The state that a crop of a decoded picture is computed in: its memory holds the picture and the box. -/
def State.cropScene (s : State) (pic : Bytes) (box : List Nat) : State :=
  { s with umem := Memory.write (Memory.write [] 0 pic) (2 ^ 40) (box.flatMap (natLE 4) ++ List.replicate 16 0) }

/-- R245: a pixel of a crop: R, G, B as BF16, by R111 to R115. -/
def cropPixelBytes (t : State) (d : Bytes) (y x : Nat) : Bytes := (List.range 3).flatMap (fun c => natLE 2 (t.cropElem t d 0 y x c).1)

/-- R24, R116: the conversion events of all of a crop's elements. -/
def cropEvents (t : State) (d : Bytes) : Nat :=
  (List.range (fieldLE d 6 1 * fieldLE d 7 1)).foldl (fun e m => (List.range 3).foldl (fun e c =>
    e ||| (t.cropElem t d 0 (m / fieldLE d 7 1) (m % fieldLE d 7 1) c).2) e) 0

/-! ## Tokenizer (R247 to R249) -/

/-- A byte in a range. -/
def byteIn (b lo hi : Nat) : Bool := decide (lo ≤ b) && decide (b ≤ hi)

/-- Length of the well-formed UTF-8 sequence that the bytes start with, 0 when none does. -/
def utf8Len (bs : Bytes) : Nat :=
  let b (i : Nat) : Nat := if i < bs.length then byteAt bs i else 0
  let c (i : Nat) : Bool := byteIn (b i) 0x80 0xBF
  if bs = [] then 0
  else if b 0 < 0x80 then 1
  else if byteIn (b 0) 0xC2 0xDF && c 1 then 2
  else if b 0 = 0xE0 ∧ byteIn (b 1) 0xA0 0xBF ∧ c 2 then 3
  else if (byteIn (b 0) 0xE1 0xEC || byteIn (b 0) 0xEE 0xEF) && c 1 && c 2 then 3
  else if b 0 = 0xED ∧ byteIn (b 1) 0x80 0x9F ∧ c 2 then 3
  else if b 0 = 0xF0 ∧ byteIn (b 1) 0x90 0xBF ∧ c 2 ∧ c 3 then 4
  else if byteIn (b 0) 0xF1 0xF3 && c 1 && c 2 && c 3 then 4
  else if b 0 = 0xF4 ∧ byteIn (b 1) 0x80 0x8F ∧ c 2 ∧ c 3 then 4
  else 0

/-- Well-formed UTF-8, with fuel. -/
def utf8Ok : Nat → Bytes → Bool
  | 0, bs => bs.isEmpty
  | n + 1, bs => if bs.isEmpty then true else
    let k := utf8Len bs
    k != 0 && utf8Ok n (bs.drop k)

/-- Unsigned bytewise order, a string before any longer string it prefixes. -/
def bytesLt : Bytes → Bytes → Bool
  | [], [] => false
  | [], _ :: _ => true
  | _ :: _, [] => false
  | a :: as, b :: bs => if a.toNat < b.toNat then true else if b.toNat < a.toNat then false else bytesLt as bs

/-- Entry `i` of an image: string offset, length, FLAGS, id, reserved. -/
def dictEntry (img : Bytes) (i : Nat) : Nat × Nat × Nat × Nat × Nat :=
  let e := (img.drop (fieldLE img 0x10 4 + 16 * i)).take 16
  (fieldLE e 0 4, fieldLE e 4 2, fieldLE e 6 2, fieldLE e 8 4, fieldLE e 12 4)

/-- String of entry `i`. -/
def dictString (img : Bytes) (i : Nat) : Bytes :=
  let e := dictEntry img i
  (img.drop (fieldLE img 0x14 4 + e.1)).take e.2.1

/-- R247: an entry is sound. -/
def dictEntryOk (img : Bytes) (i : Nat) : Bool :=
  let e := dictEntry img i
  byteIn e.2.1 1 (fieldLE img 5 1) && decide (e.2.2.1 ≤ 1) && e.2.2.2.2 == 0 && decide (e.1 + e.2.1 ≤ fieldLE img 0x18 4) &&
  (e.2.2.1 == 1 || utf8Ok e.2.1 (dictString img i)) && (i == 0 || bytesLt (dictString img (i - 1)) (dictString img i))

/-- R247: an image keeps every rule. -/
def dictOk (img : Bytes) : Bool :=
  let n := fieldLE img 8 4
  decide (64 ≤ img.length) && decide (img.length ≤ 12582912) && fieldLE img 0 4 == 0x544B4456 && fieldLE img 4 1 == 1 &&
  byteIn (fieldLE img 5 1) 1 64 && fieldLE img 6 2 == 0 && byteIn n 1 262144 && fieldLE img 0x10 4 % 64 == 0 &&
  fieldLE img 0x14 4 % 64 == 0 && fieldLE img 0x20 32 == 0 && decide (fieldLE img 0x10 4 + 16 * n ≤ img.length) &&
  decide (fieldLE img 0x14 4 + fieldLE img 0x18 4 ≤ img.length) &&
  fieldLE img 0x1C 4 == crc32c (setFieldLE img 0x1C 4 0) && (List.range n).all (fun i => dictEntryOk img i)

/-- The entries that match: strings with SPECIAL clear and their ids. -/
def dictWords (img : Bytes) : List (Bytes × Nat) :=
  ((List.range (fieldLE img 8 4)).filter (fun i => (dictEntry img i).2.2.1 == 0)).map (fun i =>
    (dictString img i, (dictEntry img i).2.2.2.1))

/-- The longest entry that the text starts with. -/
def longestWord (ws : List (Bytes × Nat)) (text : Bytes) : Option (Bytes × Nat) :=
  ws.foldl (fun acc w =>
    if w.1 ≠ [] ∧ text.take w.1.length = w.1 ∧ (match acc with | some a => a.1.length | none => 0) < w.1.length then some w
    else acc) none

/-- R249: the token ids of a text and how many were byte fallbacks. -/
def tokenize (ws : List (Bytes × Nat)) (byteBase : Nat) : Nat → Bytes → List Nat × Nat
  | 0, _ => ([], 0)
  | n + 1, text =>
    if text.isEmpty then ([], 0)
    else match longestWord ws text with
      | some w =>
        let r := tokenize ws byteBase n (text.drop w.1.length)
        (w.2 :: r.1, r.2)
      | none =>
        let c := Nat.max 1 (utf8Len text)
        let r := tokenize ws byteBase n (text.drop c)
        ((text.take c).map (fun b => (byteBase + b.toNat) % 2 ^ 32) ++ r.1, c + r.2)

end Sys2Proof.Machine
end

