-- ==== Sys2Proof/Machine/Visor.lean ====
section
/-! DEFINITION. Visor intake: streams, source stamps, samples and tags, decoding, the packer, stop and restart, and the
register writes that enable streams and pipelines (R233 to R261). The bytes of accepted samples are held in the model's own
state, not in the pool and work regions of the unified range, whose content no rule lays out (log entry 49). -/

namespace Sys2Proof.Machine

/-! ## Access -/

/-- A stream context that has taken nothing. -/
def VStream.idle : VStream := { stamp := none, lists := [], latched := none, skipping := false }

/-- R244: the ROI list in force for a stamp taken at the TB0 time `ns`: the newest that had been installed. -/
def VStream.listAt (x : VStream) (ns : Nat) : Option RoiList := (x.lists.find? (fun e => decide (e.1 ≤ ns))).map (·.2)

/-- Stream context `k`. -/
def State.vstr (s : State) (k : Nat) : VStream := (s.vis.streams.find k).getD VStream.idle

/-- Replace a stream context. -/
def State.setVstr (s : State) (k : Nat) (x : VStream) : State :=
  { s with vis := { s.vis with streams := s.vis.streams.put k x } }

/-- An empty batch. -/
def VBatch.fresh (seq rows : Nat) : VBatch :=
  { seq := seq, tags := [], fills := List.replicate rows 0, first := none, closed := false, flags := 0 }

/-- A pipeline that holds nothing. -/
def VPipe.idle : VPipe :=
  { samples := [], batches := [], cut := none, why := (0, 0, 0), replay := [], restart := none, stopReq := none, slot := 0 }

/-- Pipeline `p`. -/
def State.vpipe (s : State) (p : Nat) : VPipe := (s.vis.pipes.find p).getD VPipe.idle

/-- Replace a pipeline. -/
def State.setVpipe (s : State) (p : Nat) (x : VPipe) : State :=
  { s with vis := { s.vis with pipes := s.vis.pipes.put p x } }

/-- STATE of a pipeline: 0 disabled, 1 running, 2 stopping, 3 stopped. -/
def State.pipeState (s : State) (p : Nat) : Nat := s.fld (Reg.VIS_PIPE_STATE p) 0 2

/-- The pipeline a stream feeds. -/
def State.strPipe (s : State) (k : Nat) : Nat := s.fld (Reg.VIS_STR_CFG k) 24 4

/-- R237: a sample's tag. -/
def tagOf (stream seq : Nat) : Nat := stream * 2 ^ 26 + seq

/-- A sample's tag. -/
def VSample.tag (x : VSample) : Nat := tagOf x.stream x.seq

/-- ROW_LEN, BATCH_ROWS, ITEM_BYTES, PATCH and SLOTS of a pipeline. -/
def State.rowLen (s : State) (p : Nat) : Nat := s.fld (Reg.VIS_PIPE_SHAPE p) 0 17
/-- BATCH_ROWS. -/
def State.batchRows (s : State) (p : Nat) : Nat := s.fld (Reg.VIS_PIPE_SHAPE p) 17 9
/-- ITEM_BYTES. -/
def State.itemBytes (s : State) (p : Nat) : Nat := s.fld (Reg.VIS_PIPE_SHAPE p) 26 13
/-- PATCH. -/
def State.patchOf (s : State) (p : Nat) : Nat := s.fld (Reg.VIS_PIPE_SHAPE p) 40 6
/-- SLOTS. -/
def State.slotCount (s : State) (p : Nat) : Nat := s.fld (Reg.VIS_PIPE_SHAPE p) 48 8

/-- Codec of a sample's stream: a picture that a decoder must decode. -/
def State.coded (s : State) (x : VSample) : Bool :=
  s.fld (Reg.VIS_STR_CFG x.stream) 32 2 != 0 && x.kind != 0 && x.kind != 4

/-- Samples that share a picture: same stream and same first tag. -/
def VSample.mate (x y : VSample) : Bool := x.stream == y.stream && x.lead == y.lead

/-- Replace the samples of a pipeline. -/
def State.mapSamples (s : State) (p : Nat) (f : VSample → VSample) : State :=
  let x := s.vpipe p
  s.setVpipe p { x with samples := x.samples.map f }

/-! ## Stops (R256, R257) -/

/-- R256: the status of a stop by a cause of the table: cause TIER stops with the tier status. -/
def stopStatus (cause status : Nat) : Nat := if cause = 0x0A then (if status = 5 then 5 else 6) else 0x0D

/-- R257: the batches that are still emitted when row `c.2` of batch `c.1` is the cut. -/
def cutBatches (c : Nat × Nat) (bs : List VBatch) : List VBatch :=
  (bs.filter (fun b => decide (b.seq < c.1) || (b.seq == c.1 && c.2 != 0 && b.tags != []))).map (fun b =>
    { b with closed := true, flags := if b.seq = c.1 then b.flags ||| 1 else b.flags })

/-- R257: a pipeline begins to stop at the cut `c` with a stop record (STATUS, CAUSE, TAG). A RESTART in progress ends with
that status (DESIGN CHOICE, log entry 58). -/
def State.beginStop (s : State) (p : Nat) (c : Nat × Nat) (why : Nat × Nat × Nat) : State :=
  let x := s.vpipe p
  let s1 := (s.setVpipe p { x with
    batches := cutBatches c x.batches, cut := some c, why := why, replay := [], restart := none }).setFld
    (Reg.VIS_PIPE_STATE p) 0 2 2
  match x.restart with
  | some r => s1.endReq r why.1 0 false
  | none => s1

/-- Placements are open: the pipeline runs, or it replays. -/
def State.placing (s : State) (p : Nat) : Bool := s.pipeState p == 1 || (s.vpipe p).restart.isSome

/-- R257: a placed sample is found corrupt. -/
def State.corruptSample (s : State) (p : Nat) (x : VSample) (st cause : Nat) : State :=
  match x.pos with
  | none => s
  | some (b, row, _) =>
    if s.placing p then s.beginStop p (b, row) (st, cause, x.tag)
    else if s.pipeState p = 2 then
      let y := s.vpipe p
      match y.cut with
      | some c =>
        if b < c.1 ∨ (b = c.1 ∧ row < c.2) then
          s.setVpipe p { y with batches := cutBatches (b, row) y.batches, cut := some (b, row) }
        else s
      | none => s
    else s

/-- R257: placed samples, given by their tags in tag order, are found corrupt together: each is, where it lies. -/
def State.corruptSamples (s : State) (p : Nat) (tags : List Nat) (st cause : Nat) : State :=
  each tags (fun t tag => match (t.vpipe p).samples.find? (fun y => y.tag == tag) with
    | some y => t.corruptSample p y st cause
    | none => t) s

/-- R255: rows of a batch up to the last that holds an item. -/
def VBatch.rows (b : VBatch) : Nat :=
  b.fills.length - (b.fills.reverse.takeWhile (fun n => n == 0)).length

/-- R257: a stop without a corrupt sample: the open batch closes and the cut is after its last row. -/
def State.stopAfterOpen (s : State) (p : Nat) (why : Nat × Nat × Nat) : State :=
  let b := (s.vpipe p).batches.getLast?.getD (VBatch.fresh 0 0)
  s.beginStop p (b.seq, b.rows) why

/-! ## The packer (R250 to R253) -/

/-- R252, R253, R261: a batch opens, with the time-out that software wrote for the next batch. -/
def State.openBatch (s : State) (p seq : Nat) : State :=
  let s0 := s.applyShadow (Reg.VIS_PIPE_TIMEOUT p)
  let x := s0.vpipe p
  s0.setVpipe p { x with batches := x.batches ++ [VBatch.fresh seq (s.batchRows p)] }

/-- R252, R253: the open batch closes with flags and the next one opens. -/
def State.closeBatch (s : State) (p flags : Nat) : State :=
  let x := s.vpipe p
  match x.batches.getLast? with
  | none => s
  | some b => (s.setVpipe p { x with batches :=
      x.batches.dropLast ++ [{ b with closed := true, flags := b.flags ||| flags }] }).openBatch p (b.seq + 1)

/-- R252: the lowest row of a batch with `n` free items. -/
def VBatch.rowFor (b : VBatch) (rowLen n : Nat) : Option Nat :=
  if 4096 ≤ b.tags.length then none else firstIdx b.fills.length (fun i => decide (nth 0 b.fills i + n ≤ rowLen))

/-- R252: a sample of `items` items is placed. -/
def State.placeSample (s : State) (p tag items : Nat) : State :=
  let rl := s.rowLen p
  let n := Nat.min items rl
  let full := match (s.vpipe p).batches.getLast? with
    | some b => (b.rowFor rl n).isNone
    | none => false
  let s1 := if full then s.closeBatch p 0 else s
  let x := s1.vpipe p
  match x.batches.getLast? with
  | none => s1
  | some b => match b.rowFor rl n with
    | none => s1
    | some row =>
      let start := nth 0 b.fills row
      let rep := x.samples.any (fun y => y.tag == tag && y.replayed)
      let b1 := { b with
        tags := b.tags ++ [tag], fills := b.fills.set row (start + n),
        first := some (b.first.getD s1.now), flags := if rep then b.flags ||| 4 else b.flags }
      let s2 := s1.setVpipe p { x with
        batches := x.batches.dropLast ++ [b1],
        replay := x.replay.filter (fun t => t != tag),
        samples := x.samples.map (fun y =>
          if y.tag = tag then { y with items := n, trunc := decide (rl < items), pos := some (b.seq, row, start) } else y) }
      let s3 := if rep then s2.bump Reg.VIS_CNT_REPLAY else s2
      if s.bit (Reg.VIS_PIPE_CFG p) 1 then s3 else s3.closeBatch p 0

/-- Width and height of what a sample of stream `k` holds: the picture's, the reduced picture's (R241), or the crop's (R245). -/
def State.partDims (s : State) (k : Nat) (d : SensorData) (kind : Nat) : Nat × Nat :=
  let n := 2 ^ s.fld (Reg.VIS_STR_CFG k) 35 2
  if kind = 2 then (ceilDiv d.width n, ceilDiv d.height n)
  else if kind = 3 then (s.fld (Reg.VIS_STR_ROI k) 31 7, s.fld (Reg.VIS_STR_ROI k) 24 7)
  else (d.width, d.height)

/-- R250, R251: a sample whose items are patches of pixels. -/
def State.isPicture (s : State) (x : VSample) : Bool :=
  x.kind != 0 && x.kind != 4 && pixelSizes (s.regN (Reg.VIS_STR_CFG x.stream)) != []

/-- R250: the items of a sample other than text. -/
def State.itemCount (s : State) (p : Nat) (x : VSample) : Nat :=
  if s.isPicture x then patchCount (s.patchOf p) x.w x.h
  else ceilDiv x.data.bytes.length (s.itemBytes p)

/-- R250: the packed bytes of a sample that no decoder handles. -/
def State.rawOut (s : State) (p : Nat) (x : VSample) : Bytes :=
  let n := Nat.min (s.itemCount p x) (s.rowLen p)
  if s.isPicture x then
    let dt := s.fld (Reg.VIS_STR_CFG x.stream) 10 6
    patchItems (s.patchOf p) (s.itemBytes p) x.data.width x.data.height n (csiPixel dt x.data.width x.data.bytes)
      ((csiPixel dt x.data.width x.data.bytes 0 0).length)
  else rawItems (s.itemBytes p) n x.data.bytes

/-- R243: the declared size passes the limits in force. -/
def State.sizeOk (s : State) (p : Nat) (x : VSample) : Bool :=
  let l := s.regN (Reg.VIS_PIPE_LIMIT p)
  let d := pictureSamples x.data.chroma x.data.width x.data.height * (if x.data.deep then 2 else 1)
  let checked := s.fld (Reg.VIS_STR_CFG x.stream) 32 2 == 1 || x.data.irap
  !checked || (byteIn x.data.width 1 (bits l 0 16) && byteIn x.data.height 1 (bits l 16 16) &&
    decide (d ≤ bits l 32 16 * x.data.bytes.length))

/-- R256, R238, R239: the cause that makes a picture corrupt as its decoding starts: its port's, or UNSUPPORTED for a JPEG image
above 16,384 × 16,384 or of more than 8 bits, and an H.265 picture above 4,096 × 2,176 or not of 4:2:0 sampling. -/
def State.pictureCause (s : State) (x : VSample) : Nat :=
  let d := x.data
  if d.cause ≠ 0 then d.cause
  else if s.fld (Reg.VIS_STR_CFG x.stream) 32 2 = 1 then
    (if 16384 < d.width ∨ 16384 < d.height ∨ d.deep then 9 else 0)
  else if 4096 < d.width ∨ 2176 < d.height ∨ d.chroma ≠ 1 then 9 else 0

/-- R243, R252: decoding of a picture starts: its declared size is checked and all its samples are placed, in tag order; one
that is corrupt by then stops the pipeline (R256). -/
def State.startDecode (s : State) (p : Nat) (x : VSample) : State :=
  let s0 := s.applyShadow (Reg.VIS_PIPE_LIMIT p)
  if x.data.cause = 0 ∧ !(s0.sizeOk p x) then s0.stopAfterOpen p (0x0C, 0, x.tag)
  else
    let group := (s0.vpipe p).samples.filter (fun y => y.mate x && y.st == 0 && y.pos.isNone)
    let s1 := each group (fun t y => t.placeSample p y.tag (t.itemCount p y)) s0
    let cause := s0.pictureCause x
    let s2 := s1.mapSamples p (fun y =>
      if group.any (fun z => z.tag == y.tag) then { y with st := if cause = 0 then 1 else 3 } else y)
    if cause = 0 then s2 else s2.corruptSamples p (group.map (·.tag)) (stopStatus cause x.data.status) cause

/-- R252: a raw sample is placed and complete at once. -/
def State.startRaw (s : State) (p : Nat) (x : VSample) : State :=
  let s1 := s.placeSample p x.tag (s.itemCount p x)
  let s2 := s1.mapSamples p (fun y => if y.tag = x.tag then { y with st := if x.data.cause = 0 then 2 else 3, out := s.rawOut p x } else y)
  if x.data.cause = 0 then s2 else s2.corruptSamples p [x.tag] (stopStatus x.data.cause x.data.status) x.data.cause

/-- Pictures of a stream that its decoder may hold at a time: one of JPEG, and sixteen of H.265, which come out in output order
(PRESUMED, log entry 59: the largest decoded picture buffer of ITU-T H.265). -/
def decoderRoom (codec : Nat) : Nat := if codec = 2 then 16 else 1

/-- A sample can be placed now: raw data always, a picture when its stream's decoder has room, text only by the tokenizer. -/
def State.placeable (s : State) (p : Nat) (x : VSample) : Bool :=
  x.pos.isNone && x.st == 0 && x.kind != 0 &&
  (!(s.coded x) || decide ((((s.vpipe p).samples.filter (fun y => y.stream == x.stream && y.st == 1 && s.coded y)).map
    (·.lead)).eraseDups.length < decoderRoom (s.fld (Reg.VIS_STR_CFG x.stream) 32 2)))

/-- The next sample to start: the first of the replay set, or else the first accepted one that is placeable. -/
def State.nextStart (s : State) (p : Nat) : Option VSample :=
  let v := s.vpipe p
  if v.restart.isSome then
    match v.replay with
    | [] => none
    | t :: _ => v.samples.find? (fun y => y.tag == t && s.placeable p y)
  else if s.pipeState p = 1 then v.samples.find? (fun y => s.placeable p y)
  else none

/-- Samples are started until none can be. -/
def State.pump : Nat → Nat → State → State
  | 0, _, s => s
  | n + 1, p, s => match s.nextStart p with
    | none => s
    | some x => State.pump n p (if s.coded x then s.startDecode p x else s.startRaw p x)

/-- Start whatever can be started in pipeline `p`. -/
def State.pumped (s : State) (p : Nat) : State := State.pump ((s.vpipe p).samples.length + 1) p s

/-! ## Acceptance (R235 to R237, R242) -/

/-- Free bytes written by the device (R255: unspecified). -/
def State.devHavoc (s : State) (a n : Nat) : State :=
  (s.devWrite a (tab n (fun i => Config.freeByte (s.fresh + i)))).freshN n

/-- Bytes that unemitted samples take in the input pool: the data of a picture counts once. -/
def poolUsed (xs : List VSample) : Nat :=
  (xs.foldl (fun (acc : List VSample × Nat) x =>
    if acc.1.any (fun y => y.mate x) then acc else (x :: acc.1, acc.2 + x.data.bytes.length)) ([], 0)).2

/-- R237: the data finds room in the pool. -/
def State.poolRoom (s : State) (p n : Nat) : Bool :=
  decide (poolUsed (s.vpipe p).samples + n ≤ s.fld (Reg.VIS_PIPE_IN p) 48 16 * 2 ^ 20)

/-- R235: a stamp on the stream's base: the event minus LAT_NS; a value outside the base's range wraps (log entry 51). -/
def State.stampAt (s : State) (k : Nat) (event : Int) : Nat :=
  ((event - signed 32 (s.fld (Reg.VIS_STR_LAT k) 0 32) * 2 ^ 16) % ((timeSpan / 2 ^ 16 : Nat) : Int)).toNat

/-- Base of a stream's stamps. -/
def State.strTb (s : State) (k : Nat) : Nat := s.fld (Reg.VIS_STR_CFG k) 28 2

/-- R245: Δt exceeds MAX_AGE_MS, is negative, or the layout is planar. -/
def State.roiStale (s : State) (k : Nat) (l : RoiList) (stamp : Nat) : Bool :=
  decide (stamp < l.stamp) || decide (s.fld (Reg.VIS_STR_ROI k) 38 10 * 1000000 * 2 ^ 16 < stamp - l.stamp) ||
  !(s.bit (Reg.VIS_STR_CFG k) 34)

/-- R245: the grown boxes of a list for a picture stamped `stamp`. -/
def State.roiBoxes (s : State) (k : Nat) (l : RoiList) (stamp : Nat) : List (List Nat) :=
  let dt := f32Ratio ((stamp : Int) - l.stamp) (-16) 1000000000
  let px := f32OfInt ((s.fld (Reg.VIS_STR_ROI k) 8 8 : Nat) : Int)
  let fr := f32Ratio ((s.fld (Reg.VIS_STR_ROI k) 16 8 : Nat) : Int) 0 256
  l.boxes.map (fun b => growBox b dt px fr)

/-- R242: KIND, crop index and box of the samples of a picture, in tag order. -/
def pictureParts (roiEn : Bool) (reduce : Nat) (boxes : List (List Nat)) : List (Nat × Nat × List Nat) :=
  if roiEn then
    ((if reduce = 0 then 1 else 2), 0xFF, []) :: (List.range boxes.length).map (fun i => (3, i, nth [] boxes i))
  else if reduce = 0 then [(1, 0xFF, [])] else [(1, 0xFF, []), (2, 0xFF, [])]

/-- R237, R241: the Visor writes into a pipeline's input pool or work region, given by its register. No rule says where in it, so
every byte of the region is unspecified from then on (log entry 49). -/
def State.regionHavoc (s : State) (reg : Nat) : State := s.devHavoc (s.fld reg 0 48) (s.fld reg 48 16 * 2 ^ 20)

/-- R237, R242, R275: accepted data becomes samples of the stream, with consecutive tags, and align channels take it. -/
def State.addSamples (s : State) (k : Nat) (d : SensorData) (stamp epoch : Nat) (parts : List (Nat × Nat × List Nat)) : State :=
  let p := s.strPipe k
  let seq := s.fld (Reg.VIS_STR_SEQ k) 0 26
  let v := s.vpipe p
  let new := tab parts.length (fun i =>
    let e := nth (0, 0, []) parts i
    let wh := s.partDims k d e.1
    ({ stream := k, seq := (seq + i) % 2 ^ 26, kind := e.1, sub := e.2.1, stamp := stamp, tb := s.strTb k, epoch := epoch,
       data := d, lead := seq, box := e.2.2, items := 0, pos := none, st := 0, out := [], trunc := false, replayed := false,
       w := wh.1, h := wh.2 } : VSample))
  ((((s.setVpipe p { v with samples := v.samples ++ new }).regionHavoc (Reg.VIS_PIPE_IN p)).feedChannels k d.bytes stamp epoch).pumped
    p).setFld
    (Reg.VIS_STR_SEQ k) 0 26 ((seq + parts.length) % 2 ^ 26)

/-- The parts of accepted data, with the effect of a stale ROI list (R245). -/
def State.sampleParts (s : State) (k : Nat) (stamp : Nat) (list : Option RoiList) : State × List (Nat × Nat × List Nat) :=
  let cfg := s.regN (Reg.VIS_STR_CFG k)
  let ty := bits cfg 1 3
  if ty = 4 then (s, [(0, 0xFF, [])])
  else if ty = 1 ∨ ty = 2 then (s, [(4, 0xFF, [])])
  else if bits cfg 32 2 = 0 then (s, [(1, 0xFF, [])])
  else
    let s1 := s.applyShadow (Reg.VIS_STR_ROI k)
    let en := s1.bit (Reg.VIS_STR_ROI k) 0
    match list with
    | some l =>
      if en ∧ s1.roiStale k l stamp then
        ((s1.orReg Reg.VIS_FLAGS 2).bump Reg.VIS_CNT_STALE_ROI, pictureParts en (bits cfg 35 2) [])
      else (s1, pictureParts en (bits cfg 35 2) (s1.roiBoxes k l stamp))
    | none => (s1, pictureParts en (bits cfg 35 2) [])

/-- A stream of a port type is enabled and its pipeline is. -/
def State.strLive (s : State) (k ty : Nat) : Bool :=
  s.bit (Reg.VIS_STR_CFG k) 0 && s.fld (Reg.VIS_STR_CFG k) 1 3 == ty && s.pipeState (s.strPipe k) != 0

/-- R259: an H.265 picture before the next IRAP access unit is discarded; it takes its tag. -/
def State.skipPicture (s : State) (k n : Nat) : State :=
  (s.setFld (Reg.VIS_STR_SEQ k) 0 26 ((s.fld (Reg.VIS_STR_SEQ k) 0 26 + n) % 2 ^ 26)).bump Reg.VIS_CNT_NONIRAP

/-- R237: sample data with its stamp is accepted, or dropped when the pool is full. -/
def State.acceptData (s : State) (k : Nat) (d : SensorData) (stamp epoch : Nat) (list : Option RoiList) : State :=
  if !(s.poolRoom (s.strPipe k) d.bytes.length) then (s.orReg Reg.VIS_FLAGS 1).bump Reg.VIS_CNT_DROP
  else
    let (s1, parts) := s.sampleParts k stamp list
    if (s1.vstr k).skipping ∧ !d.irap then s1.skipPicture k parts.length
    else (s1.setVstr k { s1.vstr k with skipping := false }).addSamples k d stamp epoch parts

/-- R235: the value of an event's base (2⁻³² ns) as a stamp holds it, in 2⁻¹⁶ ns: at a resolution of `res` ns, rounded down
(DESIGN CHOICE, log entry 51). -/
def stampOf (v : Int) (res : Nat) : Int := v / (res * 2 ^ 32) * (res * 2 ^ 16)

/-- R235, R236: a stamp taken `ageNs` ago on the stream's base at a resolution of `res` ns, with the base's epoch then. -/
def State.stampNow (s : State) (k ageNs : Nat) (res : Nat := 1) : Nat × Nat :=
  let b := s.baseAt (s.strTb k) ageNs
  (s.stampAt k (stampOf b.1 res), b.2)

/-! ## Port events -/

/-- R256: a frame in progress whose end is missing when the next begins is corrupt. -/
def State.csiMissed (s : State) (k : Nat) : State :=
  let lost : SensorData := { SensorData.text [] with cause := 3, irap := false }
  match (s.vstr k).stamp with
  | some (st, e) => s.acceptData k lost st e (s.vstr k).latched
  | none => s

/-- R235: the stamp and the epoch of a frame that starts: the time of its edge source's last trigger where SYNC is set, the
present time otherwise. -/
def State.frameStamp (s : State) (k : Nat) : Nat × Nat :=
  let cfg := s.regN (Reg.VIS_STR_CFG k)
  let b := bits cfg 28 2
  if cfg.testBit 7 then
    match s.trig.find (32 + bits cfg 37 3) with
    | some t => (s.stampAt k (stampOf ((nth 0 t.vals b : Nat) : Int) 1), nth 0 t.epochs b)
    | none => (s.stampAt k (((Config.freeWord s.fresh).toNat * 2 ^ 16 : Nat) : Int), (s.time.get b).epoch)
  else s.stampNow k 0

/-- R235: the TB0 ns at which the stamp of a frame that starts is taken. -/
def State.frameInstant (s : State) (k : Nat) : Nat :=
  let cfg := s.regN (Reg.VIS_STR_CFG k)
  if cfg.testBit 7 then
    match s.trig.find (32 + bits cfg 37 3) with
    | some t => (nth 0 t.vals 0 / 2 ^ 32) % 2 ^ 64
    | none => s.now
  else s.now

/-- CSI_FRAME_START: the stamp is taken (R235); a frame end missing before it makes the frame in progress corrupt (R256). -/
def State.csiFrameStart (s : State) (k : Nat) : State :=
  if !(s.strLive k 0) then s
  else
    let s1 := (s.csiMissed k).applyShadow (Reg.VIS_STR_LAT k)
    let x := s1.vstr k
    (s1.freshN 1).setVstr k { x with stamp := some (s1.frameStamp k), latched := x.listAt (s1.frameInstant k) }

/-- The sample in progress of a stream ends with data: it is accepted with its stamp. -/
def State.endSample (s : State) (k ty : Nat) (d : SensorData) : State :=
  if !(s.strLive k ty) then s
  else match (s.vstr k).stamp with
    | none => s
    | some (st, e) =>
      let u := s.acceptData k d st e (s.vstr k).latched
      u.setVstr k { u.vstr k with stamp := none }

/-- SPI_DATA_READY: the stamp of a transaction is taken (R235). -/
def State.spiDataReady (s : State) (k : Nat) : State :=
  if !(s.strLive k 2) then s
  else
    let s1 := s.applyShadow (Reg.VIS_STR_LAT k)
    let x := s1.vstr k
    s1.setVstr k { x with stamp := some (s1.stampNow k 0), latched := none }

/-- AUDIO_BLOCK. -/
def State.audioBlock (s : State) (k : Nat) (d : SensorData) : State :=
  if !(s.strLive k 1) then s
  else
    let s1 := s.applyShadow (Reg.VIS_STR_LAT k)
    let t := s1.stampNow k d.age
    s1.acceptData k d t.1 t.2 none

/-- ETH_SENSOR_SAMPLE: stamped at ingress, or with the sensor's own stamp at EMBED_OFF (R235). -/
def State.ethSample (s : State) (k : Nat) (d : SensorData) : State :=
  if !(s.strLive k 3) then s
  else
    let s1 := s.applyShadow (Reg.VIS_STR_LAT k)
    let t := s1.stampNow k d.age 8
    let own := fieldLE d.bytes (s1.fld (Reg.VIS_STR_PORT k) 32 16) 8
    let st := if s1.bit (Reg.VIS_STR_CFG k) 30 then s1.stampAt k ((own * 2 ^ 16 : Nat) : Int) else t.1
    s1.acceptData k d st t.2 ((s1.vstr k).listAt (s1.now - d.age))

/-! ## Decoded pictures (R241, R245) -/

/-- Channels of a decoded picture of OUT_MODE 1, by row, column and channel (R241). -/
def State.rgbOf (s : State) (x : VSample) (pic : DecodedPicture) : Nat → Nat → Nat → Nat :=
  rgbChannel (s.fld (Reg.VIS_STR_CFG x.stream) 32 2 == 1) x.data pic (s.regN (Reg.VIS_STR_SCALE x.stream))

/-- R245: the sampler front's call for a crop: its descriptor, and the state that holds the picture and the box. -/
def State.cropCall (s : State) (x : VSample) (pic : DecodedPicture) : Bytes × State :=
  (cropDesc x.data.height x.data.width x.h x.w ((Config.freeWord s.fresh).toNat % 2 ^ 32),
    s.cropScene (rgbRows x.data.width x.data.height (s.rgbOf x pic)) x.box)

/-- R241, R251: the pixels of one sample of a decoded picture, by row and column. -/
def State.decodedPixel (s : State) (x : VSample) (pic : DecodedPicture) (y c : Nat) : Bytes :=
  let cfg := s.regN (Reg.VIS_STR_CFG x.stream)
  let k := 2 ^ bits cfg 35 2
  let rgb := s.rgbOf x pic
  if x.kind = 3 then cropPixelBytes (s.cropCall x pic).2 (s.cropCall x pic).1 y c
  else if cfg.testBit 34 then (if x.kind = 2 then rgbPixel (rgbReduced x.data k rgb) y c else rgbPixel rgb y c)
  else if x.kind = 2 then planarPixel x.data s.fresh (planarReduced x.data k pic.picture) y c
  else planarPixel x.data s.fresh (planarAt x.data x.data.width x.data.height pic.picture) y c

/-- The packed bytes of one sample of a decoded picture. -/
def State.decodedOut (s : State) (p : Nat) (x : VSample) (pic : DecodedPicture) : Bytes :=
  patchItems (s.patchOf p) (s.itemBytes p) x.w x.h x.items (s.decodedPixel x pic) ((s.decodedPixel x pic 0 0).length)

/-- R245, R116: the sampler front counts the call that made a picture's crops, and shows its events. -/
def State.countCrops (s : State) (xs : List VSample) (pic : DecodedPicture) : State :=
  let crops := xs.filter (fun y => y.kind == 3)
  if crops = [] then s
  else
    let call (y : VSample) : Bytes × State := s.cropCall y pic
    let bad := crops.filter (fun y => let c := call y; cropBad c.1 (c.2.cropBox c.1 0))
    let ev := crops.foldl (fun e y => e ||| cropEvents (call y).2 (call y).1) 0
    let fl := b2n (bad != []) + b2n (ev &&& flagNan != 0) * 4 + b2n (ev &&& flagSat != 0) * 8
    (((s.bump Reg.VIS_CR_CNT_CALLS).add Reg.VIS_CR_CNT_BOXES crops.length).add Reg.VIS_CR_CNT_BAD_BOX bad.length).orReg
      Reg.VIS_CR_FLAGS fl

/-- R239: of two pictures in a decoder, the one that leaves first: the earlier one in output order. -/
def VSample.leavesFirst (x y : VSample) : VSample := if y.data.order < x.data.order then y else x

/-- The picture that leaves the decoder of stream `k` next, by its first sample. -/
def State.leaving (s : State) (k : Nat) : Option VSample :=
  match (s.vpipe (s.strPipe k)).samples.filter (fun y => y.stream == k && y.st == 1) with
  | [] => none
  | x :: xs => some (xs.foldl VSample.leavesFirst x)

/-- PICTURE_DECODED: the next picture of the stream in output order is complete, or corrupt. -/
def State.pictureDecoded (s : State) (k : Nat) (pic : DecodedPicture) : State :=
  let p := s.strPipe k
  match s.leaving k with
  | none => s
  | some x =>
    let mine (y : VSample) : Bool := y.mate x && y.st == 1
    let xs := (s.vpipe p).samples.filter mine
    if pic.cause ≠ 0 then
      ((s.mapSamples p (fun y => if mine y then { y with st := 3 } else y)).corruptSamples p (xs.map (·.tag))
        (stopStatus pic.cause pic.status) pic.cause).pumped p
    else
      ((((s.mapSamples p (fun y => if mine y then { y with st := 2, out := s.decodedOut p y pic } else y)).countCrops xs pic).freshN
        4194304).regionHavoc (Reg.VIS_PIPE_WORK p)).pumped p

/-- R247, R249: the ids and the fallbacks of a text with the dictionary in force. -/
def State.tokensOf (s : State) (text : Bytes) : List Nat × Nat :=
  match s.vis.banks.find (s.fld Reg.VIS_TOK_CTRL 0 1) with
  | some b => tokenize (dictWords b) (fieldLE b 0x0C 4) text.length text
  | none => tokenize [] ((Config.freeWord s.fresh).toNat % 2 ^ 32) text.length text

/-- R250: the ids of a text sample with the pipeline's first and last id, where it has them. -/
def State.textIds (s : State) (p : Nat) (ids : List Nat) : List Nat :=
  let txt := s.regN (Reg.VIS_PIPE_TEXT p)
  let one (v : Nat) : List Nat := if v = 0xFFFFFFFF then [] else [v]
  one (bits txt 0 32) ++ ids ++ one (bits txt 32 32)

/-- TEXT_TOKENIZED: the oldest text sample of the stream that is not placed is tokenized and placed (R249, R250). One whose text
the pool does not give stops the pipeline with the tier status (R256); its items are not known, so it has no row, and the cut is
after the open batch's last row (DESIGN CHOICE, log entry 58). -/
def State.textTokenized (s : State) (k status : Nat) : State :=
  let p := s.strPipe k
  let v := s.vpipe p
  let mayGo (y : VSample) : Bool := if v.restart.isSome then v.replay.head? == some y.tag else s.pipeState p == 1
  match v.samples.find? (fun y => y.stream == k && y.kind == 0 && y.pos.isNone) with
  | none => s
  | some x =>
    if !(mayGo x) then s
    else if status ≠ 0 then
      (s.mapSamples p (fun y => if y.tag = x.tag then { y with st := 3 } else y)).stopAfterOpen p (stopStatus 0x0A status, 0x0A, x.tag)
    else
      let s0 := s.applyShadow Reg.VIS_TOK_CTRL
      let r := s0.tokensOf x.data.bytes
      let ids := s0.textIds p r.1
      let s1 := (s0.freshN 1).placeSample p x.tag ids.length
      let s2 := s1.mapSamples p (fun y =>
        if y.tag = x.tag then { y with st := 2, out := textItems (s.itemBytes p) (ids.take (s.rowLen p)) } else y)
      (s2.pumped p).setReg Reg.VIS_CNT_TOK_FALLBACK (s.reg Reg.VIS_CNT_TOK_FALLBACK + BitVec.ofNat 64 r.2)

/-! ## Emission (R253 to R255) -/

/-- R254: offsets of SEGS and POS and the size of a slot. -/
def State.slotLayout (s : State) (p : Nat) : Nat × Nat × Nat :=
  let n := s.batchRows p * s.rowLen p
  let segs := 0x40000 + alignUp (n * s.itemBytes p) 0x10000
  let pos := segs + alignUp (n * 2) 0x10000
  (segs, pos, pos + alignUp (n * 4) 0x10000)

/-- R254: a sample record. -/
def VSample.recordBytes (x : VSample) (row start : Nat) : Bytes :=
  natLE 4 x.tag ++ natLE 2 row ++ natLE 1 x.kind ++ natLE 1 (b2n x.trunc + 2 * b2n x.replayed) ++ natLE 4 start ++ natLE 4 x.items ++
  natLE 12 (time96Of x.stamp) ++ natLE 1 x.tb ++ natLE 1 x.epoch ++ natLE 1 x.sub ++ [0]

/-- The samples of a batch that a cut lets through, in placement order, with their row and first item. -/
def VPipe.emitted (v : VPipe) (b : VBatch) : List (VSample × Nat × Nat) :=
  b.tags.filterMap (fun t => (v.samples.find? (fun y => y.tag == t)).bind (fun y => match y.pos with
    | some (q, row, start) =>
      if q == b.seq && (match v.cut with | some c => b.seq != c.1 || decide (row < c.2) | none => true) then some (y, row, start)
      else none
    | none => none))

/-- R255: rows written. -/
def VPipe.rowsUsed (v : VPipe) (b : VBatch) : Nat :=
  let n := b.rows
  match v.cut with
  | some c => if b.seq = c.1 then Nat.min n c.2 else n
  | none => n

/-- R254, R255: a batch is written to slot address `a`. -/
def State.writeSlot (s : State) (p a : Nat) (b : VBatch) : State :=
  let v := s.vpipe p
  let lay := s.slotLayout p
  let xs := v.emitted b
  let rows := v.rowsUsed b
  let rl := s.rowLen p
  let ib := s.itemBytes p
  let head := natLE 4 b.seq ++ natLE 2 rows ++ natLE 2 xs.length ++ natLE 1 b.flags ++ List.replicate 7 0 ++
    natLE 12 (time96 (s.time.get (s.fld (Reg.VIS_PIPE_CFG p) 2 2)).val) ++ List.replicate 36 0 ++
    xs.flatMap (fun x => x.1.recordBytes x.2.1 x.2.2)
  let s1 := (s.devHavoc a lay.2.2).devWrite a head
  let s2 := each xs (fun t x =>
    let i := x.2.1 * rl + x.2.2
    let seg := countIdx xs.length (fun j => match xs[j]? with
      | some y => y.2.1 == x.2.1 && decide (y.2.2 < x.2.2)
      | none => false)
    ((t.devWrite (a + 0x40000 + i * ib) x.1.out).devWrite (a + lay.1 + 2 * i)
      ((List.replicate x.1.items (natLE 2 seg)).flatMap id)).devWrite (a + lay.2.1 + 4 * i)
      ((List.range x.1.items).flatMap (natLE 4))) s1
  iter rows (fun t r =>
    let f := nth 0 b.fills r
    let i := r * rl + f
    ((t.devWrite (a + 0x40000 + i * ib) (List.replicate ((rl - f) * ib) 0)).devWrite (a + lay.1 + 2 * i)
      (List.replicate ((rl - f) * 2) 0xFF)).devWrite (a + lay.2.1 + 4 * i) (List.replicate ((rl - f) * 4) 0)) s2

/-- R177: the device readies `n` bytes at `a` of its own for a write. -/
def State.devPrep (s : State) (a n : Nat) : State × AccessResult :=
  (pieces a n).foldl (fun (acc : State × AccessResult) pc =>
    let (t, x) := acc.1.prepWrite (pageOf pc.1) (blockIn pc.1) (pc.2 == 0x10000) false none
    (t, acc.2.join x (pageOf pc.1, blockIn pc.1))) (s, ⟨0, [], false⟩)

/-- R253 to R255: batch `b`, the oldest, whose samples `xs` are complete, is written at `a`, the next of `free` slots. -/
def State.emitBatch (s : State) (p a free : Nat) (b : VBatch) (xs : List (VSample × Nat × Nat)) : State :=
  let v := s.vpipe p
  let s1 := s.writeSlot p a b
  let s2 := s1.setVpipe p { v with
    batches := v.batches.tail, slot := (v.slot + 1) % Nat.max 1 (s.slotCount p),
    samples := v.samples.filter (fun y => !(xs.any (fun x => x.1.tag == y.tag))) }
  let s3 := (s2.signal ⟨s.fld (Reg.VIS_PIPE_SYNC p) 0 13, 2, 1⟩ []).setReg Reg.VIS_CNT_SAMPLES
    (s.reg Reg.VIS_CNT_SAMPLES + BitVec.ofNat 64 xs.length)
  (s3.setFld (Reg.VIS_PIPE_STATE p) 8 8 (free - 1)).setFld (Reg.VIS_PIPE_STATE p) 16 32 (b.seq + 1)

/-- BATCH_EMIT: the oldest closed batch, all of whose samples are complete, is written to the next free slot. A slot that the
tiers refuse makes the batch's first sample the failing one (R256; log entry 58); one that waits for its blocks is written when
the event comes again. -/
def State.batchEmit (s : State) (p : Nat) : State :=
  let v := s.vpipe p
  match v.batches with
  | [] => s
  | b :: _ =>
    let xs := v.emitted b
    let free := s.fld (Reg.VIS_PIPE_STATE p) 8 8
    if s.pipeState p = 0 ∨ !b.closed ∨ free = 0 ∨ !(xs.all (fun x => x.1.st == 2)) then s
    else
      let a := s.fld (Reg.VIS_PIPE_OUT p) 0 48 + v.slot * (s.slotLayout p).2.2
      let (t, w) := s.devPrep a (s.slotLayout p).2.2
      if w.status ≠ 0 then t.corruptSamples p ((xs.map (fun x => x.1.tag)).take 1) (stopStatus 0x0A w.status) 0x0A
      else if !w.ready then t
      else t.emitBatch p a free b xs

/-- BATCH_TIMEOUT (R253). -/
def State.batchTimeout (s : State) (p : Nat) : State :=
  let us := s.fld (Reg.VIS_PIPE_TIMEOUT p) 0 20
  match (s.vpipe p).batches.getLast? with
  | none => s
  | some b => match b.first with
    | none => s
    | some t => if us ≠ 0 ∧ s.placing p ∧ !b.closed ∧ us * 1000 ≤ s.now - t then s.closeBatch p 2 else s

/-- PIPELINE_STOPPED: the batches before the cut have been emitted (R257). -/
def State.pipelineStopped (s : State) (p : Nat) : State :=
  let v := s.vpipe p
  if s.pipeState p ≠ 2 ∨ v.batches ≠ [] then s
  else
    let row := match v.cut with | some c => c.2 | none => 0
    let s1 := s.signal ⟨s.fld (Reg.VIS_PIPE_SYNC p) 32 13, 2, 1⟩ []
    let s2 := s1.setVpipe p { v with cut := none, stopReq := none }
    let s3 := if v.why.1 = 0x0C then s2.bump Reg.VIS_CNT_BOUNDS else s2
    let s4 := s3.record 1 23 v.why.1 0x64 none 0xFFFF 0
    let s5 := match v.stopReq with
      | some r => s4.endReq r 0 0 false
      | none => s4
    ((s5.setReg Reg.VIS_CNT_STOP (s.reg Reg.VIS_CNT_STOP + 1)).setFld (Reg.VIS_PIPE_STATE p) 0 2 3).setRegN
      (Reg.VIS_PIPE_STOP p) (v.why.1 + v.why.2.1 * 2 ^ 8 + v.why.2.2 * 2 ^ 16 + row * 2 ^ 48)

/-- RESTART_REPLAY_DONE: the last replayed sample has been placed (R259). -/
def State.replayDone (s : State) (p : Nat) : State :=
  let v := s.vpipe p
  match v.restart with
  | none => s
  | some r =>
    if v.replay ≠ [] then s
    else (((s.endReq r 0 0 false).setVpipe p { v with restart := none }).setFld (Reg.VIS_PIPE_STATE p) 0 2 1).pumped p

/-! ## Register writes (R234, R240, R251, R261) -/

/-- VIS_STR_CFG fields of enabled contexts other than `k`. -/
def State.otherStreams (s : State) (k : Nat) : List Nat :=
  ((List.range 48).filter (fun j => j != k && s.bit (Reg.VIS_STR_CFG j) 0)).map (fun j => s.regN (Reg.VIS_STR_CFG j))

/-- The part of SUB that a port type uses (R233). -/
def subOf (cfg : Nat) : Nat :=
  let ty := bits cfg 1 3
  if ty = 0 then bits cfg 8 8 else if ty = 2 then bits cfg 8 2 else if ty = 3 then bits cfg 8 12 else bits cfg 8 16

/-- Ports of a type. -/
def portCount (ty : Nat) : Nat := if ty = 1 then 4 else 8

/-- R250, R251: ITEM_BYTES fits the pictures of a stream. -/
def State.itemFits (s : State) (p cfg : Nat) : Bool :=
  let sz := pixelSizes cfg
  sz == [] || sz.any (fun n => s.itemBytes p == s.patchOf p * s.patchOf p * n)

/-- R234, R240, R251: why enabling a stream context is refused, as VIS_REJECT bits. -/
def State.streamMask (s : State) (k v : Nat) : Nat :=
  let os := s.otherStreams k
  let ty := bits v 1 3
  let same (o : Nat) : Bool := bits o 1 6 == bits v 1 6
  let coded (o : Nat) : Nat := if bits o 32 2 = 0 then 0 else bits o 40 10
  let rate := (v :: os).foldl (fun n o => n + coded o) 0
  b2n (os.any (fun o => same o && subOf o == subOf v) || decide (8 ≤ (os.filter (fun o => bits o 24 4 == bits v 24 4)).length) ||
    s.pipeState (bits v 24 4) == 0 || (ty == 0 && decide (4 ≤ (os.filter same).length)) ||
    (ty == 1 && os.any (fun o => same o && (bits o 8 16 &&& bits v 8 16) != 0)) ||
    decide (4 < ty) || decide (portCount ty ≤ bits v 4 3)) +
  b2n (bits v 32 2 != 0 && decide (497 < rate)) * 2 +
  b2n (!(s.itemFits (bits v 24 4) v)) * 4

/-- A batch without the samples of stream `k`; each row is then full up to the last item of its remaining samples `xs` (R255). -/
def VBatch.without (b : VBatch) (k : Nat) (xs : List VSample) : VBatch :=
  { b with
    tags := b.tags.filter (fun t => t / 2 ^ 26 != k),
    fills := tab b.fills.length (fun r => xs.foldl (fun n y => match y.pos with
      | some (q, row, start) => if q = b.seq ∧ row = r then Nat.max n (start + y.items) else n
      | none => n) 0) }

/-- R261: clearing ENABLE discards the unemitted samples of a stream context. -/
def State.dropStream (s : State) (k : Nat) : State :=
  let p := s.strPipe k
  let v := s.vpipe p
  let kept := v.samples.filter (fun y => y.stream != k)
  let s1 := s.setVpipe p { v with
    samples := kept, batches := v.batches.map (fun b => b.without k kept), replay := v.replay.filter (fun t => t / 2 ^ 26 != k) }
  (s1.setVstr k VStream.idle).setFld Reg.VIS_STATE k 1 0

/-- R234: a write of VIS_STR_CFG. -/
def State.writeStream (s : State) (ag : Agent) (k v : Nat) : State :=
  let a := Reg.VIS_STR_CFG k
  if s.bit a 0 then
    if v.testBit 0 then s.refuseBusy ag a else (s.dropStream k).clearEnable a v
  else if !(v.testBit 0) then s.storeReg a v
  else if s.streamMask k v ≠ 0 then (s.orReg Reg.VIS_REJECT (s.streamMask k v)).refuseRule ag a
  else (((s.setVstr k VStream.idle).setRegN (Reg.VIS_STR_SEQ k) 0).setFld Reg.VIS_STATE k 1 1).storeReg a v

/-- R261: VIS_PIPE_SHAPE in range, the regions not in flash, ITEM_BYTES right for every stream that feeds the pipeline. -/
def State.pipeSound (s : State) (p : Nat) : Bool :=
  let size := (s.slotLayout p).2.2
  let base := s.fld (Reg.VIS_PIPE_OUT p) 0 48
  let pool := s.regN (Reg.VIS_PIPE_IN p)
  let work := s.regN (Reg.VIS_PIPE_WORK p)
  let region (w : Nat) : Nat × Nat := (bits w 0 48, bits w 48 16 * 2 ^ 20)
  let inFlash (x : Nat × Nat) : Bool := x.1 % 0x10000 != 0 || (x.2 != 0 && s.flashHomed x.1 x.2)
  byteIn (s.rowLen p) 64 65536 && byteIn (s.batchRows p) 1 256 && byteIn (s.itemBytes p) 4 4096 && s.itemBytes p % 4 == 0 &&
  [8, 14, 16, 32].contains (s.patchOf p) && byteIn (s.slotCount p) 2 64 &&
  !(inFlash (region pool)) && !(inFlash (region work)) && !(inFlash (base, size * s.slotCount p)) &&
  (List.range 48).all (fun j =>
    let c := s.regN (Reg.VIS_STR_CFG j)
    !(c.testBit 0) || bits c 24 4 != p || s.itemFits p c)

/-- R261: a pipeline is enabled: it runs with batch 0 open and every slot free. -/
def State.startPipe (s : State) (p : Nat) : State :=
  ((s.setVpipe p VPipe.idle).openBatch p 0).setRegN (Reg.VIS_PIPE_STATE p)
    (1 + s.slotCount p * 2 ^ 8)

/-- R261: clearing ENABLE of a pipeline discards its samples and writes no stop record; a RESTART or STOP in progress ends
CANCELLED (DESIGN CHOICE, log entry 58). -/
def State.stopPipe (s : State) (p : Nat) : State :=
  let v := s.vpipe p
  let s1 := (s.setVpipe p VPipe.idle).setFld (Reg.VIS_PIPE_STATE p) 0 2 0
  let s2 := match v.restart with
    | some r => s1.endReq r 7 0 false
    | none => s1
  match v.stopReq with
  | some r => s2.endReq r 7 0 false
  | none => s2

/-- R261: a write of VIS_PIPE_CFG. -/
def State.writePipe (s : State) (ag : Agent) (p v : Nat) : State :=
  let a := Reg.VIS_PIPE_CFG p
  if s.bit a 0 then
    if v.testBit 0 then s.refuseBusy ag a else (s.stopPipe p).clearEnable a v
  else if !(v.testBit 0) then s.storeReg a v
  else if !(s.pipeSound p) then (s.orReg Reg.VIS_REJECT 4).refuseRule ag a
  else (s.startPipe p).storeReg a v

/-- R253: slots are returned. -/
def State.pipeRelease (s : State) (p n : Nat) : State :=
  s.setFld (Reg.VIS_PIPE_STATE p) 8 8 (Nat.min (s.fld (Reg.VIS_PIPE_STATE p) 8 8 + n) (s.slotCount p))

/-! ## The commands of this chapter that are no requests -/

/-- CSI_FRAME_START (R235). -/
def execCsiFrameStart (k : Fin 48) (s : State) : Host.Outcome State Fault Refusal :=
  done s (s.work (fun u => u.csiFrameStart k.val))

/-- CSI_FRAME_END (R242). -/
def execCsiFrameEnd (k : Fin 48) (d : SensorData) (s : State) : Host.Outcome State Fault Refusal :=
  done s (s.work (fun u => u.endSample k.val 0 d))

/-- AUDIO_BLOCK (R235). -/
def execAudioBlock (k : Fin 48) (d : SensorData) (s : State) : Host.Outcome State Fault Refusal :=
  done s (s.work (fun u => u.audioBlock k.val d))

/-- SPI_DATA_READY (R235). -/
def execSpiDataReady (k : Fin 48) (s : State) : Host.Outcome State Fault Refusal :=
  done s (s.work (fun u => u.spiDataReady k.val))

/-- SPI_TRANSACTION_DONE (R237). -/
def execSpiTransactionDone (k : Fin 48) (d : SensorData) (s : State) : Host.Outcome State Fault Refusal :=
  done s (s.work (fun u => u.endSample k.val 2 d))

/-- ETH_SENSOR_SAMPLE (R235). -/
def execEthSensorSample (k : Fin 48) (d : SensorData) (s : State) : Host.Outcome State Fault Refusal :=
  done s (s.work (fun u => u.ethSample k.val d))

/-- PICTURE_DECODED (R241). -/
def execPictureDecoded (k : Fin 48) (pic : DecodedPicture) (s : State) : Host.Outcome State Fault Refusal :=
  done s (s.work (fun u => u.pictureDecoded k.val pic))

/-- TEXT_TOKENIZED (R249). -/
def execTextTokenized (x : TextRead) (s : State) : Host.Outcome State Fault Refusal :=
  done s (s.work (fun u => u.textTokenized x.stream.val x.status))

/-- BATCH_TIMEOUT (R253). -/
def execBatchTimeout (p : Fin 16) (s : State) : Host.Outcome State Fault Refusal :=
  done s (s.work (fun u => u.batchTimeout p.val))

/-- BATCH_EMIT (R253). -/
def execBatchEmit (p : Fin 16) (s : State) : Host.Outcome State Fault Refusal := done s (s.work (fun u => u.batchEmit p.val))

/-- PIPELINE_STOPPED (R257). -/
def execPipelineStopped (p : Fin 16) (s : State) : Host.Outcome State Fault Refusal :=
  done s (s.work (fun u => u.pipelineStopped p.val))

/-- RESTART_REPLAY_DONE (R259). -/
def execRestartReplayDone (p : Fin 16) (s : State) : Host.Outcome State Fault Refusal :=
  done s (s.work (fun u => u.replayDone p.val))

/-- VIS_PIPE_RELEASE (R253). -/
def execVisPipeRelease (p : Fin 16) (n : BitVec 8) (s : State) : Host.Outcome State Fault Refusal :=
  done s (s.pipeRelease p.val n.toNat)

/-- STREAM_ENABLE (R234): a write of VIS_STR_CFG. -/
def execStreamEnable (k : Fin 48) (v : BitVec 64) (s : State) : Host.Outcome State Fault Refusal :=
  done s (s.writeStream software k.val v.toNat)

/-- PIPELINE_ENABLE (R261): a write of VIS_PIPE_CFG. -/
def execPipelineEnable (p : Fin 16) (v : BitVec 64) (s : State) : Host.Outcome State Fault Refusal :=
  done s (s.writePipe software p.val v.toNat)

end Sys2Proof.Machine
end

