-- ==== Sys2Proof/Machine/Intake.lean ====
section
/-! DEFINITION. Intake requests: PIPE_CTL, ROI_SET, TEXT and DICT_LOAD (R244, R248, R258 to R260). -/

namespace Sys2Proof.Machine

/-- The bytes of a command that its OPCODE does not use (R260). -/
def visUnused (op : Nat) : List (Nat × Nat) :=
  if op = 0x90 then [(3, 1), (8, 24)] else if op = 0x91 then [(3, 1), (5, 3), (0x1C, 4)]
  else if op = 0x92 then [(2, 2), (0x18, 8)] else [(2, 2), (0x10, 16)]

/-- A field out of range, an invalid TIME96, or a command for a stream or pipeline in the wrong state (R262, R261). -/
def State.visBad (s : State) (d : Bytes) : Bool :=
  let op := fieldLE d 0 1
  let k := fieldLE d 1 1
  let cfg := s.regN (Reg.VIS_STR_CFG k)
  if op = 0x90 then !([1, 2, 3].contains k) || decide (15 < fieldLE d 2 1) || (k != 1 && s.pipeState (fieldLE d 2 1) != 1)
  else if op = 0x91 then
    decide (47 < k) || decide (64 < fieldLE d 2 1) || decide (3 < fieldLE d 4 1) || !time96Valid (fieldLE d 0x10 12) ||
    !(cfg.testBit 0) || !([0, 3].contains (bits cfg 1 3))
  else if op = 0x92 then
    decide (47 < k) || !(byteIn (fieldLE d 4 4) 1 1048576) || !(s.strLive k 4)
  else decide (1 < k)

/-- R258: the skip tag of a RESTART is refused. -/
def State.skipBad (s : State) (d : Bytes) : Bool :=
  let p := fieldLE d 2 1
  let tag := fieldLE d 4 4
  let k := tag / 2 ^ 26
  let seq := tag % 2 ^ 26
  let stop := s.regN (Reg.VIS_PIPE_STOP p)
  let bad := bits stop 16 32
  let next := s.fld (Reg.VIS_STR_SEQ k) 0 26
  let dist (a b : Nat) : Nat := (b + 2 ^ 26 - a) % 2 ^ 26
  s.pipeState p != 3 || (s.vpipe p).restart.isSome ||
  (if bits stop 0 8 = 0 then
    let first := match (s.vpipe p).samples.find? (fun y => y.stream == k) with
      | some y => y.seq
      | none => next
    decide (47 < k) || s.strPipe k != p || !(s.bit (Reg.VIS_STR_CFG k) 0) || (seq + 1) % 2 ^ 26 != first
  else k != bad / 2 ^ 26 || decide (dist (bad % 2 ^ 26) next ≤ dist (bad % 2 ^ 26) seq))

/-- The refusals of a command, as VIS_REJECT bits. -/
def State.visMask (s : State) (q : Request) (d : Bytes) : Nat :=
  let op := fieldLE d 0 1
  b2n (op == 0x93 && ((s.regN Reg.VIS_TOK_CTRL) % 2 == fieldLE d 1 1 || fieldLE d 8 8 % 64 != 0 ||
    !(byteIn (fieldLE d 4 4) 64 12582912))) * 8 +
  b2n (op == 0x90 && fieldLE d 1 1 == 1 && decide (fieldLE d 2 1 ≤ 15) && s.skipBad d) * 16 +
  b2n (q.tag != 0) * 32 + b2n (s.visBad d) * 64 + b2n ((visUnused op).any (fun x => fieldLE d x.1 x.2 != 0)) * 128

/-- A command whose OPCODE is `op` (with one OP where the OPCODE has one): checked, its inputs read, then `f`. An unknown
OPCODE or OP is refused by whichever event takes the request up. -/
def State.visCommand (s : State) (r op : Nat) (act : Option Nat) (ins outs : Bytes → List (Nat × Nat))
    (f : State → Request → Bytes → State) : State :=
  match s.engReq r [0x12] with
  | none => s
  | some q =>
    let d := s.peek q.cmdAddr 32
    let o := fieldLE d 0 1
    if !(s.gateOn 0x90) ∨ q.units = [0x90] then s
    else if o < 0x90 ∨ 0x93 < o then s.engineRefuse r q Reg.VIS_REJECT Reg.VIS_REJECT_DESC (64 + b2n (q.tag != 0) * 32)
    else if o != op || (match act with | some a => byteIn (fieldLE d 1 1) 1 3 && fieldLE d 1 1 != a | none => false) then s
    else if s.visMask q d ≠ 0 then s.engineRefuse r q Reg.VIS_REJECT Reg.VIS_REJECT_DESC (s.visMask q d)
    else match s.engineReads r q 4 (ins d) (outs d) true with
      | (t, .failed st) => t.engineFail r q st
      | (t, .ready) => f t q d
      | (t, _) => t

/-- A command stays in progress until an event ends it. -/
def State.visTake (s : State) (r : Nat) (q : Request) : State := s.putReq r { q with units := [0x90] }

/-! ## PIPE_CTL -/

/-- STOP: the pipeline stops with cause 0x00; the command ends when it has stopped (R259). -/
def State.pipeStopRun (s : State) (r : Nat) (q : Request) (d : Bytes) : State :=
  let p := fieldLE d 2 1
  let s1 := (s.visTake r q).stopAfterOpen p (0, 0, 0)
  s1.setVpipe p { s1.vpipe p with stopReq := some r }

/-- PIPE_STOP. -/
def State.pipeStop (s : State) (r : Nat) : State :=
  s.visCommand r 0x90 (some 2) (fun _ => []) (fun _ => []) (fun t q d => t.pipeStopRun r q d)

/-- PIPE_FLUSH: the open batch closes (R253). -/
def State.pipeFlush (s : State) (r : Nat) : State :=
  s.visCommand r 0x90 (some 3) (fun _ => []) (fun _ => []) (fun t _ d =>
    let p := fieldLE d 2 1
    let open_ := match (t.vpipe p).batches.getLast? with
      | some b => b.tags != []
      | none => false
    (if open_ then t.closeBatch p 8 else t).endReq r 0 0 false)

/-- R259: order of replay: ascending stamp, then stream, then sequence number (modulo 2²⁶). -/
def replayBefore (a b : VSample) : Bool :=
  if a.stamp ≠ b.stamp then decide (a.stamp < b.stamp)
  else if a.stream ≠ b.stream then decide (a.stream < b.stream) else decide (0 < (b.seq + 2 ^ 26 - a.seq) % 2 ^ 26 ∧ (b.seq + 2 ^ 26 - a.seq) % 2 ^ 26 < 2 ^ 25)

/-- Insert in replay order. -/
def insertReplay (x : VSample) : List VSample → List VSample
  | [] => [x]
  | y :: ys => if replayBefore x y then x :: y :: ys else y :: insertReplay x ys

/-- R259 step 1: the samples of stream `k` from `c` through `q` are discarded; for H.265 every later picture before the next
IRAP access unit too. Answers the samples kept, the pictures counted in VIS_CNT_NONIRAP, and whether the next IRAP access unit
is still to come. -/
def discardRange (xs : List VSample) (k c q : Nat) (h265 : Bool) : List VSample × Nat × Bool :=
  let dist (x : Nat) : Nat := (x + 2 ^ 26 - c) % 2 ^ 26
  let inRange (y : VSample) : Bool := y.stream == k && decide (dist y.seq ≤ dist q)
  let kept := xs.filter (fun y => !(inRange y))
  if !h265 then (kept, 0, false)
  else
    let later := kept.filter (fun y => y.stream == k && decide (dist q < dist y.seq) && decide (dist y.seq < 2 ^ 25))
    let skip := later.takeWhile (fun y => !y.data.irap)
    (kept.filter (fun y => !(skip.any (fun z => z.tag == y.tag))), ((skip.map (·.lead)).eraseDups).length,
      decide (skip.length = later.length))

/-- A sample that is to be placed and decoded again. -/
def VSample.again (y : VSample) : VSample :=
  { y with pos := none, st := 0, out := [], items := 0, trunc := false, replayed := true }

/-- What a RESTART of pipeline `p` with a skip tag discards: nothing after a STOP. -/
def State.restartRange (s : State) (p tag : Nat) : List VSample × Nat × Bool :=
  let k := tag / 2 ^ 26
  let v := s.vpipe p
  let stop := s.regN (Reg.VIS_PIPE_STOP p)
  if bits stop 0 8 = 0 then (v.samples, 0, false)
  else discardRange v.samples k (bits stop 16 26) (tag % 2 ^ 26) (s.fld (Reg.VIS_STR_CFG k) 32 2 == 2)

/-- RESTART: what R259 discards goes, batch BATCH_SEQ + 1 opens, and the replay begins. -/
def State.pipeRestartRun (s : State) (r : Nat) (q : Request) (d : Bytes) : State :=
  let p := fieldLE d 2 1
  let k := fieldLE d 4 4 / 2 ^ 26
  let v := s.vpipe p
  let res := s.restartRange p (fieldLE d 4 4)
  let again := res.1.map VSample.again
  let s1 := (s.visTake r q).add Reg.VIS_CNT_NONIRAP res.2.1
  let s2 := if res.2.2 then s1.setVstr k { s1.vstr k with skipping := true } else s1
  ((s2.setVpipe p { v with
    samples := again, batches := [], cut := none,
    replay := (again.foldr insertReplay []).map (·.tag), restart := some r }).openBatch p (s.fld (Reg.VIS_PIPE_STATE p) 16 32)).pumped p

/-- PIPE_RESTART. -/
def State.pipeRestart (s : State) (r : Nat) : State :=
  s.visCommand r 0x90 (some 1) (fun _ => []) (fun _ => []) (fun t q d => t.pipeRestartRun r q d)

/-! ## ROI_SET, TEXT, DICT_LOAD -/

/-- ROI_SET: a list is installed (R244). -/
def State.roiSetRun (s : State) (r : Nat) (q : Request) (d : Bytes) : State :=
  let n := fieldLE d 2 1
  let bs := s.peek (fieldLE d 8 8) (32 * n)
  let k := fieldLE d 1 1
  if (List.range n).any (fun i => fieldLE bs (32 * i + 24) 8 != 0) then
    s.engineRefuse r q Reg.VIS_REJECT Reg.VIS_REJECT_DESC 128
  else
    let boxes := tab n (fun i => tab 6 (fun j => fieldLE bs (32 * i + 4 * j) 4))
    let list : RoiList := ⟨fieldLE d 4 1, time96Frac (fieldLE d 0x10 12), boxes⟩
    (s.setVstr k { s.vstr k with lists := (s.now, list) :: (s.vstr k).lists }).endReq r 0 0 false

/-- ROI_SET. -/
def State.roiSet (s : State) (r : Nat) : State :=
  s.visCommand r 0x91 none (fun d => [(fieldLE d 8 8, 32 * fieldLE d 2 1)]) (fun _ => []) (fun t q d => t.roiSetRun r q d)

/-- TEXT: the sample is accepted with the stamp of its dispatch and its tag is written; a full pool makes it wait. -/
def State.textRun (s : State) (r : Nat) (q : Request) (d : Bytes) : State :=
  let k := fieldLE d 1 1
  let n := fieldLE d 4 4
  if !(s.poolRoom (s.strPipe k) n) then s
  else
    let w := State.engineWrite (s, 0) r q 4 (fieldLE d 0x10 8) (natLE 4 (tagOf k (s.fld (Reg.VIS_STR_SEQ k) 0 26)))
    if w.2 ≠ 0 then w.1.engineFail r q w.2
    else
      let bs := s.peek (fieldLE d 8 8) n
      let s1 := w.1.applyShadow (Reg.VIS_STR_LAT k)
      let t := s1.stampNow k (if q.started then s.now - q.startNs else 0)
      (s1.endReq r 0 0 false).addSamples k (SensorData.text bs) t.1 t.2 [(0, 0xFF, [])]

/-- TEXT. -/
def State.text (s : State) (r : Nat) : State :=
  s.visCommand r 0x92 none (fun d => [(fieldLE d 8 8, fieldLE d 4 4)]) (fun d => [(fieldLE d 0x10 8, 4)])
    (fun t q d => t.textRun r q d)

/-- DICT_LOAD: a sound image goes into its bank (R248). -/
def State.dictLoadRun (s : State) (r : Nat) (q : Request) (d : Bytes) : State :=
  let img := s.peek (fieldLE d 8 8) (fieldLE d 4 4)
  let b := fieldLE d 1 1
  if !(dictOk img) then s.engineRefuse r q Reg.VIS_REJECT Reg.VIS_REJECT_DESC 8
  else
    let s1 := { s with vis := { s.vis with banks := s.vis.banks.put b img } }
    let s2 := match s1.shadow.find Reg.VIS_TOK_CTRL with
      | some w => { s1 with shadow := s1.shadow.put Reg.VIS_TOK_CTRL (w ||| BitVec.ofNat 64 (2 ^ (1 + b))) }
      | none => s1
    (s2.endReq r 0 0 false).orReg Reg.VIS_TOK_CTRL (2 ^ (1 + b))

/-- DICT_LOAD. -/
def State.dictLoad (s : State) (r : Nat) : State :=
  s.visCommand r 0x93 none (fun d => [(fieldLE d 8 8, fieldLE d 4 4)]) (fun _ => []) (fun t q d => t.dictLoadRun r q d)

/-! ## Meanings -/

/-- PIPE_RESTART (R259). -/
def execPipeRestart (r : Nat) (s : State) : Host.Outcome State Fault Refusal := done s (s.work (fun u => u.pipeRestart r))

/-- PIPE_STOP (R257). -/
def execPipeStop (r : Nat) (s : State) : Host.Outcome State Fault Refusal := done s (s.work (fun u => u.pipeStop r))

/-- PIPE_FLUSH (R253). -/
def execPipeFlush (r : Nat) (s : State) : Host.Outcome State Fault Refusal := done s (s.work (fun u => u.pipeFlush r))

/-- ROI_SET (R244). -/
def execRoiSet (r : Nat) (s : State) : Host.Outcome State Fault Refusal := done s (s.work (fun u => u.roiSet r))

/-- TEXT (R260). -/
def execText (r : Nat) (s : State) : Host.Outcome State Fault Refusal := done s (s.work (fun u => u.text r))

/-- DICT_LOAD (R248). -/
def execDictLoad (r : Nat) (s : State) : Host.Outcome State Fault Refusal := done s (s.work (fun u => u.dictLoad r))

end Sys2Proof.Machine
end

