-- ==== Sys2Proof/Machine/PlanBase.lean ====
section
/-! DEFINITION. The planner's arithmetic (13_planner_collision.md): model images, forward kinematics, motion primitives,
slice sets, edge and configuration checks, random draws and steering. What the rules leave open (the order of FP32
operations in the kinematics, the placing of instants, the geometry tests) is in Config or in log entry 64. -/

namespace Sys2Proof.Machine

/-! ## FP32 helpers -/

/-- The cube root to 70 bits and a sticky bit, of a value that is not negative. -/
def FV.cbrt : FV → FV
  | .nan => .nan
  | .inf n => .inf n
  | .fin n m e =>
    if m = 0 then .fin n 0 0
    else
      let s := 210 + ((e - 210) % 3).toNat
      let x := m <<< s
      let r := icbrt x
      .fin n (2 * r + (if r * r * r = x then 0 else 1)) ((e - s) / 3 - 1)

/-- Correctly rounded cube root. -/
def f32Cbrt (a : Nat) : Nat := toF32 (f32 a).cbrt

/-- Whole microseconds of a time in seconds, rounded up; a value that is not finite counts as 2^40. -/
def ceilMicros (t : Nat) : Nat :=
  match f32 t with
  | .fin _ m e => if 0 ≤ e then m * 2 ^ e.toNat * 1000000 else ceilDiv (m * 1000000) (2 ^ (-e).toNat)
  | _ => 2 ^ 40

/-- Length of a vector of three. -/
def len3 (v : List Nat) : Nat :=
  f32Sqrt (f32Add (f32Add (f32Mul (nth 0 v 0) (nth 0 v 0)) (f32Mul (nth 0 v 1) (nth 0 v 1))) (f32Mul (nth 0 v 2) (nth 0 v 2)))

/-! ## Model images (R334, R335) -/

/-- Joints. -/
def modelDof (im : Bytes) : Nat := fieldLE im 0 1

/-- Volumes. -/
def modelVols (im : Bytes) : Nat := fieldLE im 2 2

/-- Bytes of an image with this header. -/
def modelBytes (im : Bytes) : Nat := 64 + 96 * modelDof im + 32 * modelVols im + 512

/-- Offset of joint `j`. -/
def jointAt (j : Nat) : Nat := 64 + 96 * j

/-- Offset of volume `v`. -/
def volAt (im : Bytes) (v : Nat) : Nat := 64 + 96 * modelDof im + 32 * v

/-- An FP32 field of joint `j`. -/
def jointF (im : Bytes) (j o : Nat) : Nat := fieldLE im (jointAt j + o) 4

/-- Three FP32 values at an offset. -/
def vec3At (im : Bytes) (o : Nat) : List Nat := tab 3 (fun i => fieldLE im (o + 4 * i) 4)

/-- Four FP32 values at an offset. -/
def vec4At (im : Bytes) (o : Nat) : List Nat := tab 4 (fun i => fieldLE im (o + 4 * i) 4)

/-- Whether groups `g` and `h` are tested against each other. -/
def groupBit (im : Bytes) (g h : Nat) : Bool :=
  (fieldLE im (64 + 96 * modelDof im + 32 * modelVols im + 8 * g) 8).testBit h

/-- A norm within 10⁻³ of 1. -/
def unitNorm (v : List Nat) : Bool :=
  let s := v.foldl (fun a x => a.add ((f32 x).mul (f32 x))) (FV.fin false 0 0)
  let lo := FV.div (.fin false 998001 0) (.fin false 1000000 0)
  let hi := FV.div (.fin false 1002001 0) (.fin false 1000000 0)
  FV.le lo s && FV.le s hi

/-- R334, R335: the rules of an image. -/
def modelOk (im : Bytes) : Bool :=
  let dof := modelDof im
  let vols := modelVols im
  let fin (o n : Nat) : Bool := (List.range n).all (fun i => f32Fin (fieldLE im (o + 4 * i) 4))
  let zero (o n : Nat) : Bool := fieldLE im o n == 0
  let pos (x : Nat) : Bool := f32Lt 0 x
  let nonneg (x : Nat) : Bool := f32Le 0 x
  decide (1 ≤ dof) && decide (dof ≤ 48) && decide (1 ≤ vols) && decide (vols ≤ 256) && zero 1 1 && zero 0x24 28 &&
  fin 4 8 && unitNorm (vec4At im 0x10) && nonneg (fieldLE im 0x20 4) && f32Le (fieldLE im 0x20 4) 0x3F000000 &&
  (List.range dof).all (fun j =>
    let o := jointAt j
    let par := fieldLE im o 1
    (par == 0xFF || decide (par < j)) && decide (fieldLE im (o + 1) 1 ≤ 1) && zero (o + 2) 2 && zero (o + 0x4C) 20 &&
    fin (o + 4) 18 && unitNorm (vec4At im (o + 0x10)) && unitNorm (vec3At im (o + 0x20)) &&
    f32Lt (jointF im j 0x2C) (jointF im j 0x30) && pos (jointF im j 0x34) && pos (jointF im j 0x38) &&
    pos (jointF im j 0x3C) && f32Lt (jointF im j 0x48) (jointF im j 0x40) && pos (jointF im j 0x44) &&
    nonneg (jointF im j 0x48)) &&
  (List.range vols).all (fun v =>
    let o := volAt im v
    let link := fieldLE im o 1
    (link == 0xFF || decide (link < dof)) && decide (fieldLE im (o + 1) 1 ≤ 1) && decide (fieldLE im (o + 2) 1 < 64) &&
    zero (o + 3) 1 && fin (o + 4) 7 && nonneg (fieldLE im (o + 0x1C) 4) &&
    (fieldLE im (o + 1) 1 == 1 || (vec3At im (o + 0x10)).all (fun x => x == 0))) &&
  (List.range 64).all (fun g => (List.range 64).all (fun h => groupBit im g h == groupBit im h g))

/-- The joints from the base to link `l`, in joint order. -/
def chainTo (im : Bytes) : Nat → Nat → List Nat
  | 0, _ => []
  | fuel + 1, l => if l = 0xFF then [] else chainTo im fuel (fieldLE im (jointAt l) 1) ++ [l]

/-- R335: the effective acceleration limit. -/
def accLimit (im : Bytes) (j : Nat) : Nat :=
  f32Min (jointF im j 0x38) (f32Div (f32Sub (jointF im j 0x40) (jointF im j 0x48)) (jointF im j 0x44))

/-- R335: REACH of a joint. -/
def reach (im : Bytes) (j : Nat) : Nat :=
  if fieldLE im (jointAt j + 1) 1 = 1 then f32One
  else (List.range (modelVols im)).foldl (fun best v =>
    let o := volAt im v
    let chain := chainTo im 49 (fieldLE im o 1)
    if chain.contains j then
      let below := (chain.dropWhile (fun x => !(x == j))).drop 1
      let sum := below.foldl (fun a k => f32Add a (len3 (vec3At im (jointAt k + 4)))) 0
      let ends := f32Max (len3 (vec3At im (o + 4))) (len3 (vec3At im (o + 0x10)))
      f32Max best (f32Add sum (f32Add (f32Add ends (fieldLE im (o + 0x1C) 4)) (fieldLE im 0x20 4)))
    else best) 0

/-! ## Motion primitives (R342) -/

/-- R342: the minimum time of a joint for a distance. -/
def jointTime (v a k d : Nat) : Nat :=
  let two := 0x40000000
  let four := 0x40800000
  let aa := f32Mul a a
  if (f32 d).isZero then 0
  else
    let ta := if f32Lt v (f32Div aa k) then f32Mul two (f32Sqrt (f32Div v k)) else f32Add (f32Div v a) (f32Div a k)
    if f32Le (f32Mul v ta) d then f32Add ta (f32Div d v)
    else if f32Le (f32Div (f32Mul (f32Mul (f32Mul two a) a) a) (f32Mul k k)) d then
      let r := f32Sqrt (f32Add (f32Div (f32Mul (f32Mul aa a) a) (f32Mul k k)) (f32Mul (f32Mul four a) d))
      let vp := f32Div (f32Sub r (f32Div aa k)) two
      f32Mul two (f32Add (f32Div vp a) (f32Div a k))
    else f32Mul four (f32Cbrt (f32Div d (f32Mul two k)))

/-- R342: duration of an edge in whole µs. -/
def edgeMicros (im : Bytes) (p q : List Nat) : Nat :=
  ceilMicros ((List.range (modelDof im)).foldl (fun t j =>
    f32Max t (jointTime (jointF im j 0x34) (accLimit im j) (jointF im j 0x3C) (f32Abs (f32Sub (nth 0 q j) (nth 0 p j))))) 0)

/-! ## Forward kinematics (R344) -/

/-- Product of two quaternions. -/
def quatMul (a b : List Nat) : List Nat :=
  let m (i j : Nat) : Nat := f32Mul (nth 0 a i) (nth 0 b j)
  [f32Sub (f32Sub (f32Sub (m 0 0) (m 1 1)) (m 2 2)) (m 3 3), f32Sub (f32Add (f32Add (m 0 1) (m 1 0)) (m 2 3)) (m 3 2),
   f32Add (f32Add (f32Sub (m 0 2) (m 1 3)) (m 2 0)) (m 3 1), f32Add (f32Sub (f32Add (m 0 3) (m 1 2)) (m 2 1)) (m 3 0)]

/-- A vector rotated by a quaternion. -/
def quatRotate (q v : List Nat) : List Nat :=
  (quatMul (quatMul q (0 :: v)) [nth 0 q 0, f32Neg (nth 0 q 1), f32Neg (nth 0 q 2), f32Neg (nth 0 q 3)]).drop 1

/-- A frame: rotation and position. -/
abbrev Frame := List Nat × List Nat

/-- The frame at a translation and rotation of another. -/
def Frame.at_ (f : Frame) (t r : List Nat) : Frame :=
  (quatMul f.1 r, List.zipWith f32Add f.2 (quatRotate f.1 t))

/-- R344: a joint's own motion. -/
def jointMotion (im : Bytes) (j q : Nat) : List Nat × List Nat :=
  let axis := vec3At im (jointAt j + 0x20)
  if fieldLE im (jointAt j + 1) 1 = 1 then (axis.map (fun x => f32Mul x q), [f32One, 0, 0, 0])
  else
    let h := f32Mul q 0x3F000000
    let sn := (Config.sinF32 (BitVec.ofNat 32 h)).toNat
    ([0, 0, 0], (Config.cosF32 (BitVec.ofNat 32 h)).toNat :: axis.map (fun x => f32Mul x sn))

/-- Frames of all links at a configuration, in joint order. -/
def linkFrames (im : Bytes) (q : List Nat) : List Frame :=
  let base : Frame := (vec4At im 0x10, vec3At im 4)
  (List.range (modelDof im)).foldl (fun (fs : List Frame) j =>
    let par := fieldLE im (jointAt j) 1
    let f0 := if par = 0xFF then base else nth base fs par
    let f1 := f0.at_ (vec3At im (jointAt j + 4)) (vec4At im (jointAt j + 0x10))
    let m := jointMotion im j (nth 0 q j)
    fs ++ [f1.at_ m.1 m.2]) []

/-- Axis ends of volume `v` at a configuration. -/
def volumeEnds (im : Bytes) (fs : List Frame) (v : Nat) : List Nat :=
  let o := volAt im v
  let link := fieldLE im o 1
  let f := if link = 0xFF then (vec4At im 0x10, vec3At im 4) else nth (vec4At im 0x10, vec3At im 4) fs link
  let p0 := List.zipWith f32Add f.2 (quatRotate f.1 (vec3At im (o + 4)))
  let p1 := List.zipWith f32Add f.2 (quatRotate f.1 (vec3At im (o + 0x10)))
  if fieldLE im (o + 1) 1 = 0 then p0 ++ p0 else p0 ++ p1

/-! ## Checks (R343, R344) -/

/-- Slice of an epoch that covers a time in 2⁻¹⁶ ns (R338). -/
def PEpoch.sliceAt (ep : PEpoch) (t : Nat) : Nat :=
  Nat.min (ep.slices - 1) ((t - ep.t0) / (Nat.max 1 ep.dtUs * 1000 * 2 ^ 16))

/-- The slice set of one slice. -/
def PEpoch.only (ep : PEpoch) (t : Nat) : Nat := 2 ^ ep.sliceAt t

/-- The slice set from the slice that covers a time to the last. -/
def PEpoch.from_ (ep : PEpoch) (t : Nat) : Nat := 2 ^ ep.slices - 2 ^ ep.sliceAt t

/-- Radius of volume `v` grown by MARGIN and half a leaf. -/
def grown (im : Bytes) (ep : PEpoch) (v : Nat) : Nat :=
  f32Add (fieldLE im (volAt im v + 0x1C) 4) (f32Add (fieldLE im 0x20 4) (f32Ratio ep.leafMm 0 2000))

/-- R343: the first collision of a configuration for a slice set: a volume with an occupied leaf (other volume 0xFFFF), or with
a volume that the group matrix pairs with it. -/
def poseHit (im : Bytes) (ep : PEpoch) (set : Nat) (q : List Nat) : Option (Nat × Nat) :=
  let fs := linkFrames im q
  let vols := List.range (modelVols im)
  let world := vols.find? (fun v => ep.leaves.any (fun l => (l.2 &&& set) != 0 &&
    Config.leafHit (volumeEnds im fs v) (grown im ep v) [l.1 / 2 ^ 28, (l.1 / 2 ^ 14) % 2 ^ 14, l.1 % 2 ^ 14] ep.leafMm ep.origin))
  match world with
  | some v => some (v, 0xFFFF)
  | none => vols.findSome? (fun v => (vols.find? (fun w =>
      let ov := volAt im v
      let ow := volAt im w
      decide (v < w) && fieldLE im ov 1 != fieldLE im ow 1 && groupBit im (fieldLE im (ov + 2) 1) (fieldLE im (ow + 2) 1) &&
      Config.volumeHit (volumeEnds im fs v) (grown im ep v) (volumeEnds im fs w) (grown im ep w))).map (fun w => (v, w)))

/-- R343: intervals between instants, so that Σ |δq| × REACH is at most half a leaf in each (DEDUCED from the worked
example). -/
def edgeIntervals (im : Bytes) (ep : PEpoch) (p q : List Nat) : Nat :=
  let sum := (List.range (modelDof im)).foldl (fun (a : FV) j =>
    a.add ((f32 (f32Abs (f32Sub (nth 0 q j) (nth 0 p j)))).mul (f32 (reach im j)))) (.fin false 0 0)
  match sum with
  | .fin _ m e => if 0 ≤ e then ceilDiv (m * 2 ^ e.toNat * 2000) (Nat.max 1 ep.leafMm)
    else ceilDiv (m * 2000) (Nat.max 1 ep.leafMm * 2 ^ (-e).toNat)
  | _ => 0

/-- Instant `k` of an edge: its offset in 2⁻¹⁶ ns and the configuration; the ends are exact. -/
def instantAt (im : Bytes) (p q : List Nat) (n k : Nat) : Nat × List Nat :=
  if k = 0 then (0, p) else if k = n then (edgeMicros im p q * 1000 * 2 ^ 16, q) else Config.edgeInstant im p q n k

/-- R343, R344: an edge passes; `exact` gives the time at its start when it is known, else `set` is the slice set. -/
def edgeClear (im : Bytes) (ep : PEpoch) (p q : List Nat) (exact : Option Nat) (set : Nat) : Bool :=
  let n := edgeIntervals im ep p q
  (List.range (n + 1)).all (fun k =>
    let x := instantAt im p q n k
    let sl := match exact with
      | some t => ep.only (t + x.1)
      | none => set
    (poseHit im ep sl x.2).isNone)

/-! ## Random draws and steering (R347) -/

/-- One step of the generator: its new state and the draw. -/
def splitMix (st : Nat) : Nat × Nat :=
  let w := 2 ^ 64
  let s := (st + 0x9E3779B97F4A7C15) % w
  let z1 := ((s ^^^ (s >>> 30)) * 0xBF58476D1CE4E5B9) % w
  let z2 := ((z1 ^^^ (z1 >>> 27)) * 0x94D049BB133111EB) % w
  (s, z2 ^^^ (z2 >>> 31))

/-- A uniform sample: one draw per joint. -/
def uniformQ (im : Bytes) (st : Nat) : Nat × List Nat :=
  (List.range (modelDof im)).foldl (fun (acc : Nat × List Nat) j =>
    let d := splitMix acc.1
    let u := f32Ratio (bits d.2 40 24 : Nat) (-24) 1
    let lo := jointF im j 0x2C
    (d.1, acc.2 ++ [f32Fma u (f32Sub (jointF im j 0x30) lo) lo])) (st, [])

/-- n + f × (q − n) per joint. -/
def towards (f : Nat) (n q : List Nat) : List Nat := List.zipWith (fun a b => f32Add a (f32Mul f (f32Sub b a))) n q

/-- Halve the step until the edge is short enough. -/
def steerLoop (im : Bytes) (step : Nat) (n q : List Nat) : Nat → Nat → List Nat
  | 0, _ => n
  | fuel + 1, f =>
    let c := towards f n q
    if step < edgeMicros im n c then steerLoop im step n q fuel (f32Mul f 0x3F000000) else c

/-- R347: steering from `n` towards `q`. -/
def steer (im : Bytes) (step : Nat) (n q : List Nat) : List Nat :=
  let d := edgeMicros im n q
  if d ≤ step then q else steerLoop im step n q 320 (f32Div (f32OfInt (step : Int)) (f32OfInt (d : Int)))

/-- The index of the least key, the lowest index among equals. -/
def leastBy (xs : List Nat) (key : Nat → Nat) : Option Nat :=
  xs.foldl (fun b x => match b with
    | none => some x
    | some y => if key x < key y then some x else some y) none

end Sys2Proof.Machine
end

