-- ==== Sys2Proof/Machine/Planner.lean ====
section
/-! DEFINITION. The planner and collision unit (13_planner_collision.md): PLAN with its growth, search, shortcuts, release
and result; MODEL_LOAD; MAP_UPDATE and epochs. One EDGE_CHECK_DONE finishes one edge check; what needs no check happens in
the same step. -/

namespace Sys2Proof.Machine

/-! ## Fields of a PLAN -/

/-- MODE: roadmap. -/
def Plan.roadmap (p : Plan) : Bool := fieldLE p.desc 1 1 == 1
/-- FOLLOW. -/
def Plan.follow (p : Plan) : Bool := (fieldLE p.desc 3 1).testBit 0
/-- SHORTCUT. -/
def Plan.shortcut (p : Plan) : Bool := (fieldLE p.desc 3 1).testBit 1
/-- STEP_US. -/
def Plan.step (p : Plan) : Nat := fieldLE p.desc 0x14 4
/-- NODE_MAX. -/
def Plan.nodeMax (p : Plan) : Nat := fieldLE p.desc 0x4C 4
/-- T_START in 2⁻¹⁶ ns. -/
def Plan.tStart (p : Plan) : Nat := time96Frac (fieldLE p.desc 0x20 12)
/-- Duration of an edge in µs. -/
def Plan.micros (p : Plan) (a b : List Nat) : Nat := edgeMicros p.model a b

/-! ## Trees -/

/-- Configuration of tree node `i`. -/
def Plan.nodeQ (p : Plan) (i : Nat) : List Nat := match p.nodes[i]? with | some n => n.q | none => []

/-- R347: the node of a tree nearest to a configuration. -/
def Plan.nearest (p : Plan) (goal : Bool) (q : List Nat) : Nat :=
  let own := (List.range p.nodes.length).filter (fun i => match p.nodes[i]? with | some n => n.goal == goal | none => false)
  (leastBy own (fun i => p.micros (p.nodeQ i) q)).getD 0

/-- The path from the root of its tree to node `i`; each waypoint carries the epoch of the edge from its parent. -/
def Plan.rootPath (p : Plan) : Nat → Nat → PPath
  | 0, _ => []
  | fuel + 1, i => match p.nodes[i]? with
    | none => []
    | some n => (match n.parent with
        | none => []
        | some k => p.rootPath fuel k) ++ [(n.q, n.epoch)]

/-- The tree that grows in this iteration: the start tree when it is even. -/
def Plan.growsGoal (p : Plan) : Bool := p.iter % 2 == 1

/-- R348: the start-tree path to the node that both trees reached, joined with the goal-tree path from it. -/
def Plan.joined (p : Plan) (a b : Nat) : PPath :=
  let s := if p.growsGoal then b else a
  let g := if p.growsGoal then a else b
  let up := p.rootPath p.nodes.length s
  let down := (p.rootPath p.nodes.length g).reverse
  up ++ (down.drop 1).map (fun w => (w.1, 0))

/-- Add a tree node; none when NODE_MAX nodes are held. -/
def Plan.addNode (p : Plan) (goal : Bool) (parent : Nat) (q : List Nat) : Option Plan :=
  if p.nodeMax ≤ p.nodes.length then none
  else some { p with nodes := p.nodes ++ [{ q := q, goal := goal, parent := some parent, epoch := p.snap }] }

/-! ## Roadmap (R349) -/

/-- Node `i` of the roadmap. -/
def Plan.mapQ (p : Plan) (i : Nat) : List Nat := nth [] p.map.nodes i

/-- Start and goal nodes: the first two that this request added. -/
def Plan.startNode (p : Plan) : Nat := p.iter

/-- Edges of a node, in order. -/
def Roadmap.edgesOf (m : Roadmap) (i : Nat) : List Nat :=
  (List.range m.edges.length).filter (fun k => match m.edges[k]? with | some e => e.a == i || e.b == i | none => false)

/-- The longest edge of a node. -/
def Roadmap.longest (m : Roadmap) (i : Nat) : Option Nat :=
  let d (k : Nat) : Nat := match m.edges[k]? with | some e => e.dur | none => 0
  (m.edgesOf i).foldl (fun b k => match b with
    | none => some k
    | some x => if d x < d k then some k else some x) none

/-- Drop edge `k`. -/
def Roadmap.dropEdge (m : Roadmap) (k : Nat) : Roadmap := { m with edges := m.edges.take k ++ m.edges.drop (k + 1) }

/-- Make room for an edge of this duration at a full node; none when it is not shorter than the longest. -/
def Roadmap.roomFor (m : Roadmap) (i dur : Nat) : Option Roadmap :=
  if (m.edgesOf i).length < 16 then some m
  else match m.longest i with
    | none => some m
    | some k => match m.edges[k]? with
      | none => some m
      | some e => if dur < e.dur then some (m.dropEdge k) else none

/-- Add an edge that passed its check. -/
def Roadmap.addEdge (m : Roadmap) (e : REdge) : Roadmap :=
  match (m.roomFor e.a e.dur).bind (fun x => x.roomFor e.b e.dur) with
  | none => m
  | some x => { x with edges := x.edges ++ [e] }

/-- The other end of an edge. -/
def REdge.other (e : REdge) (i : Nat) : Nat := if e.a = i then e.b else e.a

/-- The K nearest nodes among the first `n`. -/
def Plan.neighbours (p : Plan) (n k : Nat) (q : List Nat) : List Nat :=
  (Sys2Proof.Machine.iter k (fun (acc : List Nat) _ =>
    match leastBy ((List.range n).filter (fun i => !acc.contains i)) (fun i => p.micros (p.mapQ i) q) with
    | none => acc
    | some i => acc ++ [i]) [])

/-- An A* search that has reached nothing but its start. -/
def AStar.begin (start : Nat) : AStar :=
  { g := OMap.put [] start 0, back := [], closed := [], cur := none, expanded := 0 }

/-- The open node of least cost plus heuristic, the lowest index among equals. -/
def Plan.bestOpen (p : Plan) : Option Nat :=
  leastBy ((p.search.g.entries.filter (fun e => !p.search.closed.contains e.1)).map (fun e => e.1))
    (fun i => (p.search.g.find i).getD 0 + p.micros (p.mapQ i) p.goal)

/-- A search relaxes an edge out of node `n`. -/
def AStar.relax (a : AStar) (n : Nat) (e : REdge) : AStar :=
  let o := e.other n
  let c := (a.g.find n).getD 0 + e.dur
  let better := match a.g.find o with
    | none => true
    | some old => decide (c < old)
  if better then { a with g := a.g.put o c, back := a.back.put o n, closed := a.closed.filter (fun x => !(x == o)) } else a

/-- The nodes from the search's start to node `i`. -/
def AStar.trail (a : AStar) : Nat → Nat → List Nat
  | 0, i => [i]
  | fuel + 1, i => match a.back.find i with
    | none => [i]
    | some k => a.trail fuel k ++ [i]

/-- A path along roadmap nodes, each waypoint with the epoch of the edge that arrives there. -/
def Plan.alongNodes (p : Plan) (ns : List Nat) : PPath :=
  (List.range ns.length).map (fun i =>
    let n := nth 0 ns i
    if i = 0 then (p.mapQ n, 0)
    else
      let m := nth 0 ns (i - 1)
      let e := p.map.edges.find? (fun e => (e.a == n && e.b == m) || (e.a == m && e.b == n))
      (p.mapQ n, match e with | some x => x.epoch | none => 0))

/-- Nodes reachable from the start over edges that are not blocked, with their least cost and predecessor. -/
def Plan.reachable (p : Plan) : AStar :=
  let open_ := p.map.edges.filter (fun e => !e.blocked)
  Sys2Proof.Machine.iter p.map.nodes.length (fun (a : AStar) _ =>
    each open_ (fun (b : AStar) e =>
      let b1 := if (b.g.find e.a).isSome then b.relax e.a e else b
      if (b1.g.find e.b).isSome then b1.relax e.b e else b1) a) (AStar.begin p.startNode)

/-! ## Paths -/

/-- µs from the start at which each waypoint of a path is reached. -/
def Plan.times (p : Plan) (path : PPath) : List Nat :=
  (List.range path.length).foldl (fun (ts : List Nat) i =>
    if i = 0 then [0]
    else ts ++ [ts.getLast?.getD 0 + p.micros (nth ([], 0) path (i - 1)).1 (nth ([], 0) path i).1]) []

/-- Edge `i` of a path carries an epoch. -/
def stampEdge (path : PPath) (i ep : Nat) : PPath := path.set (i + 1) ((nth ([], 0) path (i + 1)).1, ep)

/-- R353: the best partial path. -/
def Plan.partialPath (p : Plan) : PPath :=
  if p.roadmap then
    let r := p.reachable
    match leastBy (sortAsc (r.g.entries.map (fun e => e.1))) (fun i => p.micros (p.mapQ i) p.goal) with
    | none => [(p.start, 0)]
    | some i => if p.map.nodes.length ≤ p.startNode then [(p.start, 0)] else p.alongNodes (r.trail r.g.length i)
  else p.rootPath p.nodes.length (p.nearest false p.goal)

/-! ## Edge checks -/

/-- The check that a phase waits for: ends, the time at its start when it is exactly known, and the lower bound L otherwise, both
in µs from T_START. -/
def Plan.pending (p : Plan) : Option (List Nat × List Nat × Bool × Nat) :=
  let lower (a b : List Nat) : Nat := Nat.min (p.micros p.start a) (p.micros p.start b)
  let tree (goal : Bool) (n : Nat) (q : List Nat) : List Nat × List Nat × Bool × Nat :=
    let t := (p.times (p.rootPath p.nodes.length n)).getLast?.getD 0
    if goal then (p.nodeQ n, q, false, lower (p.nodeQ n) q) else (p.nodeQ n, q, true, t)
  let along (path : PPath) (i : Nat) : List Nat × List Nat × Bool × Nat :=
    ((nth ([], 0) path i).1, (nth ([], 0) path (i + 1)).1, true, nth 0 (p.times path) i)
  match p.phase with
  | .extend n qn => some (tree p.growsGoal n qn)
  | .connect _ m qm => some (tree (!p.growsGoal) m qm)
  | .join path i => some (along path i)
  | .link node (k :: _) => some (p.mapQ k, p.mapQ node, false, lower (p.mapQ k) (p.mapQ node))
  | .recheck e => match p.map.edges[e]? with
    | some x => some (p.mapQ x.a, p.mapQ x.b, false, lower (p.mapQ x.a) (p.mapQ x.b))
    | none => none
  | .cut _ cand _ at_ => some (along cand at_)
  | .validate i _ => some (along p.path i)
  | _ => none

/-- Whether the check that a phase waits for passes on an epoch. -/
def Plan.verdict (p : Plan) (ep : PEpoch) : Bool :=
  match p.pending with
  | none => true
  | some (a, b, exact, t) =>
    let at_ := p.tStart + t * 1000 * 2 ^ 16
    edgeClear p.model ep a b (if exact then some at_ else none) (ep.from_ at_)

/-! ## Growth, search, shortcuts and release -/

/-- A full path is found: shortcuts follow, then the release validation (R350, R352). -/
def Plan.found (p : Plan) (path : PPath) : Plan :=
  { p with path := path, phase := if p.shortcut then .shortcut 0 else .release }

/-- Growth ends without a full path (R353). -/
def Plan.giveUp (p : Plan) (st : Nat) : Plan := { p with path := p.partialPath, phase := .ended st }

/-- Iteration `iter` ends (R348). -/
def Plan.nextIter (p : Plan) : Plan := { p with iter := p.iter + 1, phase := .grow }

/-- R348: an iteration begins: the bias draw, a sample, the nearest node, and steering. -/
def Plan.beginIter (p : Plan) : Plan :=
  if fieldLE p.desc 0x10 4 ≤ p.iter then p.giveUp 0x0E
  else
    let d := splitMix p.rng
    let bias := bits d.2 56 8 < fieldLE p.desc 4 1
    let u := if bias then (d.1, if p.growsGoal then p.start else p.goal) else uniformQ p.model d.1
    let n := p.nearest p.growsGoal u.2
    { p with rng := u.1, phase := .extend n (steer p.model p.step (p.nodeQ n) u.2) }

/-- R349: node `k` of a request joins the roadmap. -/
def Plan.placeNode (p : Plan) (k : Nat) : Plan :=
  if 2 + fieldLE p.desc 0x60 4 ≤ k then { p with phase := .search, search := AStar.begin p.startNode }
  else if p.nodeMax ≤ p.map.nodes.length then p.giveUp 0x0E
  else
    let u := if k < 2 then (p.rng, if k = 0 then p.start else p.goal) else uniformQ p.model p.rng
    let n := p.map.nodes.length
    let near := p.neighbours n (fieldLE p.desc 5 1) u.2
    { p with rng := u.1, map := { p.map with nodes := p.map.nodes ++ [u.2] }, phase := .link n near }

/-- R349: the search goes on until it must check an edge or ends. -/
def Plan.searchStep (p : Plan) : Plan :=
  match p.search.cur with
  | some (n, e :: es) => (match p.map.edges[e]? with
    | none => { p with search := { p.search with cur := some (n, es) } }
    | some x =>
      if x.epoch < p.snap then { p with phase := .recheck e }
      else if x.blocked then { p with search := { p.search with cur := some (n, es) } }
      else { p with search := { (p.search.relax n x) with cur := some (n, es) } })
  | _ => match p.bestOpen with
    | none => p.giveUp 0x0E
    | some i =>
      if i = p.startNode + 1 then p.found (p.alongNodes (p.search.trail p.search.g.length i))
      else
        { p with search := { p.search with
          closed := p.search.closed ++ [i], cur := some (i, p.map.edgesOf i), expanded := p.search.expanded + 1 } }

/-- R350: a shortcut pass begins: two indices are drawn. -/
def Plan.beginPass (p : Plan) (k : Nat) : Plan :=
  if fieldLE p.desc 6 2 ≤ k then { p with phase := .release }
  else
    let n := Nat.max 1 p.path.length
    let d1 := splitMix p.rng
    let d2 := splitMix d1.1
    let i := d1.2 % 2 ^ 32 % n
    let j := d2.2 % 2 ^ 32 % n
    let lo := Nat.min i j
    let hi := Nat.max i j
    let p1 := { p with rng := d2.1 }
    if lo + 1 < hi then { p1 with phase := .cut k (p.path.take (lo + 1) ++ p.path.drop hi) lo lo }
    else { p1 with phase := .shortcut (k + 1) }

/-- R352: release validation at edge `i` of the path on the epoch held; `newest` is the newest epoch. -/
def Plan.validateStep (p : Plan) (newest i reps : Nat) : Plan :=
  if p.path.length ≤ i + 1 then
    if p.snap < newest ∧ reps < 3 then { p with snap := newest, phase := .validate 0 (reps + 1) }
    else { p with released := some p.snap, newer := decide (p.snap < newest), phase := .ended 0 }
  else if p.snap ≤ (nth ([], 0) p.path (i + 1)).2 then { p with phase := .validate (i + 1) reps }
  else p

/-- Whether a phase waits for a check. -/
def Plan.waits (p : Plan) : Bool :=
  match p.phase with
  | .extend _ _ | .connect _ _ _ | .join _ _ | .recheck _ | .cut _ _ _ _ => true
  | .link _ (_ :: _) => true
  | .validate i _ => decide (i + 1 < p.path.length) && decide ((nth ([], 0) p.path (i + 1)).2 < p.snap)
  | _ => false

/-- What a PLAN does without a check, until it waits for one or ends. -/
def Plan.advance (newest : Nat) : Nat → Plan → Plan
  | 0, p => p
  | fuel + 1, p =>
    if p.waits then p
    else match p.phase with
      | .grow => (p.beginIter).advance newest fuel
      | .place k => (p.placeNode k).advance newest fuel
      | .link node [] => ({ p with phase := .place (node + 1 - p.startNode) }).advance newest fuel
      | .search => (p.searchStep).advance newest fuel
      | .shortcut k => (p.beginPass k).advance newest fuel
      | .release => ({ p with snap := newest, phase := .validate 0 0 }).advance newest fuel
      | .validate i reps => (p.validateStep newest i reps).advance newest fuel
      | _ => p

/-- Fuel that covers every run between two checks: sampling, a search of the whole roadmap, all passes. -/
def planFuel : Nat := 2 ^ 24

/-- R348: the tree that did not grow steers towards the new node. -/
def Plan.beginConnect (p : Plan) (a m : Nat) : Plan :=
  { p with phase := .connect a m (steer p.model p.step (p.nodeQ m) (p.nodeQ a)) }

/-- The check that the phase waited for has ended with a verdict. -/
def Plan.take (p : Plan) (ok : Bool) : Plan :=
  match p.phase with
  | .extend n qn =>
    if !ok then p.nextIter
    else (match p.addNode p.growsGoal n qn with
      | none => { p with iter := p.iter + 1 }.giveUp 0x0E
      | some q => q.beginConnect (q.nodes.length - 1) (q.nearest (!q.growsGoal) qn))
  | .connect a m qm =>
    if !ok then p.nextIter
    else (match p.addNode (!p.growsGoal) m qm with
      | none => { p with iter := p.iter + 1 }.giveUp 0x0E
      | some q =>
        let b := q.nodes.length - 1
        if qm = q.nodeQ a then
          let path := q.joined a b
          if 1024 < path.length then ({ q with joinFails := q.joinFails + 1 }).nextIter else { q with phase := .join path 0 }
        else q.beginConnect a b)
  | .join path i =>
    if !ok then ({ p with joinFails := p.joinFails + 1 }).nextIter
    else
      let path' := stampEdge path i p.snap
      if path'.length ≤ i + 2 then ({ p with iter := p.iter + 1 }).found path' else { p with phase := .join path' (i + 1) }
  | .link node (k :: ks) =>
    let p1 := { p with phase := .link node ks }
    if ok then { p1 with map := p.map.addEdge ⟨k, node, p.micros (p.mapQ k) (p.mapQ node), p.snap, false⟩ } else p1
  | .recheck e => (match p.map.edges[e]? with
    | none => { p with phase := .search }
    | some x => { p with phase := .search, map := { p.map with edges := p.map.edges.set e { x with epoch := p.snap, blocked := !ok } } })
  | .cut pass cand i at_ =>
    if !ok then { p with phase := .shortcut (pass + 1) }
    else
      let cand' := stampEdge cand at_ p.snap
      if cand'.length ≤ at_ + 2 then { p with path := cand', cutTaken := true, phase := .shortcut (pass + 1) }
      else { p with phase := .cut pass cand' i (at_ + 1) }
  | .validate i reps =>
    if ok then { p with path := stampEdge p.path i p.snap, phase := .validate (i + 1) reps }
    else { p with stale := some i, released := some p.snap, phase := .ended 0x10 }
  | _ => p

/-! ## The result (R353, R354) -/

/-- Seconds of whole microseconds, in FP32. -/
def secondsF (us : Nat) : Nat := f32Ratio us 0 1000000

/-- R354: the record and the waypoints, of which it holds the first 1,024 (DESIGN CHOICE, log entry 90: no rule shortens a
path that is longer). -/
def Plan.result (p : Plan) (st : Nat) : Bytes :=
  let part := st == 0x0E || st == 0x0F
  let path := if st = 0x11 ∨ st = 0x12 then [] else p.path
  let n := Nat.min 1024 path.length
  let ts := p.times path
  let togo := if part then (match path.getLast? with | some w => secondsF (p.micros w.1 p.goal) | none => 0) else 0
  let nodes := if p.roadmap then p.map.nodes.length else p.nodes.length
  natLE 1 st ++ natLE 1 (b2n part + b2n p.cutTaken * 2 + b2n p.newer * 4 + b2n p.fresh * 8) ++ natLE 2 n ++
    natLE 4 p.first ++ natLE 4 (p.released.getD p.snap) ++ natLE 4 (if p.roadmap then p.search.expanded else p.iter) ++ natLE 4 nodes ++
    natLE 4 (p.stale.getD 0xFFFFFFFF) ++ natLE 4 (secondsF (ts.getLast?.getD 0)) ++ natLE 4 togo ++ natLE 8 p.tests ++
    natLE 4 p.checks ++ natLE 2 p.hit.1 ++ natLE 2 p.hit.2 ++ List.replicate 16 0 ++
    (List.range n).flatMap (fun i =>
      let w := nth ([], 0) path i
      natLE 4 (nth 0 ts i) ++ natLE 4 w.2 ++ w.1.flatMap (natLE 4))

/-- A PLAN ends without a result (R355). -/
def State.planFail (s : State) (r : Nat) (q : Request) (st : Nat) : State :=
  ((s.havocOuts q (planRequestOuts (s.peek q.cmdAddr 128))).releasePcu r).endReq r st 0 false

/-- The roadmap of a request is left in its work region: its bytes are the device's own, the first 64 not all zero. -/
def State.saveRoadmap (s : State) (p : Plan) : State :=
  let w := fieldLE p.desc 0x50 8
  let head := (1 : Byte) :: tab 63 (fun i => Config.freeByte (s.fresh + i))
  let s1 := { s with umem := Memory.write s.umem w head, fresh := s.fresh + 63 }
  { s1 with pcu := { s1.pcu with maps := s1.pcu.maps.put w { p.map with header := head } } }

/-- A PLAN ends with a result: the work region becomes the device's, the record and the waypoints are written, counters and
flags follow. -/
def State.planEnd (s : State) (r : Nat) (p : Plan) (q : Request) (st : Nat) : State :=
  let s1 := s.havocOuts q (planOuts p.desc)
  let w := State.engineWrite (s1, 0) r q 5 (fieldLE p.desc 0x40 8) (p.result st)
  if w.2 ≠ 0 then s.planFail r q w.2
  else
    let s2 := if p.roadmap then w.1.saveRoadmap p else w.1
    let s3 := s2.orReg Reg.PCU_FLAGS (b2n (st == 0x10) + b2n p.newer * 2 + b2n (decide (0 < p.joinFails)) * 4)
    let s4 := if st = 0x10 then s3.bump Reg.PCU_CNT_STALE else if st = 0x0F then s3.bump Reg.PCU_CNT_TIMEOUT
      else if st = 0x0E then s3.bump Reg.PCU_CNT_NO_PATH else s3
    let s5 := ((s4.add Reg.PCU_CNT_JOIN_FAIL p.joinFails).dropPlan r).endReq r st (p.stale.getD 0) true
    s5.setReg Reg.PCU_CNT_PLAN (s.reg Reg.PCU_CNT_PLAN + 1)

/-- Hold a PLAN. -/
def State.holdPlan (s : State) (r : Nat) (p : Plan) : State := { s with pcu := { s.pcu with held := s.pcu.held.put r p } }

/-- Store a held PLAN, or end it when it has ended. -/
def State.putPlan (s : State) (r : Nat) (p : Plan) : State :=
  match s.req r with
  | none => s
  | some q => match p.phase with
    | .ended st => s.planEnd r p q st
    | _ => (s.holdPlan r p).trimEpochs

/-! ## PLAN (R345, R346) -/

/-- Bits that refuse a PLAN before its start and goal are read. -/
def State.planMask (s : State) (q : Request) (d : Bytes) : Nat :=
  let mode := fieldLE d 1 1
  let m := fieldLE d 2 1
  let im := (s.pcu.models.find m).getD []
  let dof := modelDof im
  let inR (v lo hi : Nat) : Bool := decide (lo ≤ v) && decide (v ≤ hi)
  let k := if mode = 0 then 0 else fieldLE d 5 1
  let shape := decide (3 < m) || !inR (fieldLE d 0x10 4) 1 1048576 || !inR (fieldLE d 0x14 4) 1000 10000000 ||
    !inR (fieldLE d 0x18 4) 100 60000000 || decide (1024 < fieldLE d 6 2) || !inR (fieldLE d 0x4C 4) 2 65536 ||
    decide (65536 < fieldLE d 0x60 4) ||
    (if mode = 0 then fieldLE d 5 1 != 0 || fieldLE d 0x60 4 != 0 else !inR (fieldLE d 5 1) 1 16) ||
    !time96Valid (fieldLE d 0x20 12) || decide (fieldLE d 0x48 4 < 64 + 1024 * (8 + 4 * dof)) ||
    decide (fieldLE d 0x58 8 < 4096 + fieldLE d 0x4C 4 * (64 + 4 * dof + 8 * k))
  let flash := s.ctxRt q.ctx && (pagesOf (fieldLE d 0x50 8) (fieldLE d 0x58 8)).any (fun n => match s.page n with
    | some p => p.home == 2
    | none => false)
  let e := fieldLE d 0x1C 4
  let live := if e = 0 then (s.pcu.epochs.find s.pcu.newest).isSome else (s.pcu.epochs.find e).isSome
  b2n shape + b2n (im == []) * 2 + b2n (!live) * 8 + b2n flash * 256 +
    b2n (decide (1 < mode) || q.cmdAddr % 128 != 0 || fieldLE d 0x30 8 % 64 != 0 || fieldLE d 0x38 8 % 64 != 0 ||
      fieldLE d 0x40 8 % 64 != 0 || fieldLE d 0x50 8 % 4096 != 0) * 1024 +
    b2n (decide (3 < fieldLE d 3 1) || fieldLE d 0x2C 4 != 0 || fieldLE d 0x64 28 != 0) * 2048

/-- LIMITS: an element of the start or the goal is non-finite or outside the joint's range. -/
def outOfLimits (im : Bytes) (q : List Nat) : Bool :=
  (List.range (modelDof im)).any (fun j =>
    !(f32Le (jointF im j 0x2C) (nth 0 q j) && f32Le (nth 0 q j) (jointF im j 0x30)))

/-- A planner command that its KIND does not accept is refused. -/
def State.pcuRefuse (s : State) (r : Nat) (q : Request) (mask : Nat) : State :=
  s.engineRefuse r q Reg.PCU_REJECT Reg.PCU_REJECT_DESC mask

/-- A dispatched planner request whose command has this OPCODE, when the unit may work (R447, R480). -/
def State.pcuReq (s : State) (r op : Nat) : Option Request :=
  match s.engReq r [0x11] with
  | none => none
  | some q => if fieldLE (s.peek q.cmdAddr 1) 0 1 = op ∧ s.gateOn 0x8A ∧ !s.quarantined 0x8A ∧ !(s.selfTest 0x8A).running then some q else none

/-- A PLAN waits for a place. -/
def State.queuePlan (s : State) (r : Nat) : State := { s with pcu := { s.pcu with waiting := s.pcu.waiting ++ [r] } }

/-- A PLAN waits no longer. -/
def State.unqueuePlan (s : State) (r : Nat) : State :=
  { s with pcu := { s.pcu with waiting := s.pcu.waiting.filter (fun x => !(x == r)) } }

/-- PLAN: the checks at dispatch; a PLAN that passes waits for a place. -/
def State.plan (s : State) (r : Nat) : State :=
  match s.engReq r [0x11] with
  | none => s
  | some q =>
    let d := s.peek q.cmdAddr 128
    let o := fieldLE d 0 1
    if !s.gateOn 0x8A ∨ s.pcu.waiting.contains r ∨ (s.pcu.held.find r).isSome ∨ o = 0x81 ∨ o = 0x82 then s
    else if s.quarantined 0x8A then s.engineFail r q 0x0A
    else if o ≠ 0x80 then s.pcuRefuse r q 1024
    else if s.planMask q d ≠ 0 then s.pcuRefuse r q (s.planMask q d)
    else
      let im := (s.pcu.models.find (fieldLE d 2 1)).getD []
      let n := 4 * modelDof im
      let (s1, rd) := s.engineReads r q 5 [(fieldLE d 0x30 8, n), (fieldLE d 0x38 8, n)] (planOuts d) true
      match rd with
      | .ready =>
        let vec (a : Nat) : List Nat := tab (modelDof im) (fun j => s1.peekN (a + 4 * j) 4)
        if outOfLimits im (vec (fieldLE d 0x30 8)) ∨ outOfLimits im (vec (fieldLE d 0x38 8)) then s1.pcuRefuse r q 4
        else s1.queuePlan r
      | .failed st => s1.engineFail r q st
      | _ => s1

/-- PLAN (R345). -/
def execPlan (r : Nat) (s : State) : Host.Outcome State Fault Refusal := done s (s.work (fun u => u.plan r))

/-! ## Taking a place, quanta and checks (R333, R341, R346) -/

/-- The waiting PLAN that takes a free place: a real-time one first; a best-effort one only while fewer than 3 are held. -/
def State.nextPlan (s : State) : Option Nat :=
  let rt (r : Nat) : Bool := match s.req r with | some q => s.ctxRt q.ctx | none => false
  if 4 ≤ s.pcu.order.length then none
  else match s.pcu.waiting.find? rt with
    | some r => some r
    | none => if 3 ≤ s.pcu.order.length then none else s.pcu.waiting.head?

/-- The roadmap that a PLAN begins with, and whether it is a new one (R349). -/
def State.openRoadmap (s : State) (w crc : Nat) : Roadmap × Bool :=
  let head := s.peek w 64
  match s.pcu.maps.find w with
  | some m => if m.crc = crc ∧ m.header = head then (m, false) else ({ crc := crc, header := [], nodes := [], edges := [] }, true)
  | none => ({ crc := crc, header := [], nodes := [], edges := [] }, true)

/-- A PLAN as it becomes held on an epoch. -/
def State.newPlan (s : State) (r : Nat) (q : Request) (d im : Bytes) (ep : PEpoch) : Plan :=
  let n := modelDof im
  let vec (a : Nat) : List Nat := tab n (fun j => s.peekN (a + 4 * j) 4)
  let start := vec (fieldLE d 0x30 8)
  let goal := vec (fieldLE d 0x38 8)
  let rm := s.openRoadmap (fieldLE d 0x50 8) (crc32c im)
  let road := fieldLE d 1 1 = 1
  { req := r, ctx := q.ctx, desc := d, model := im, start := start, goal := goal,
    budget := s.now + fieldLE d 0x18 4 * 1000, first := ep.num, snap := ep.num, rng := fieldLE d 8 8,
    iter := if road then rm.1.nodes.length else 0,
    nodes := if road then [] else [⟨start, false, none, 0⟩, ⟨goal, true, none, 0⟩],
    map := rm.1, fresh := decide road && rm.2, search := AStar.begin 0, path := [],
    phase := if road then .place 0 else .grow, cutTaken := false, newer := false, released := none, stale := none,
    joinFails := 0, tests := 0, checks := 0, hit := (0xFFFF, 0xFFFF) }

/-- Count the checks of a PLAN, their leaf tests and the cycles they ran; the tests and cycles are free values (R343). -/
def State.countCheck (s : State) (p : Plan) (n : Nat) : State × Plan :=
  let t := (Config.freeWord s.fresh).toNat
  let s1 := (s.add Reg.PCU_CNT_CHECK n).add Reg.PCU_CNT_LEAF_TEST t
  (((s1.add Reg.PCU_CNT_BUSY (Config.freeWord (s.fresh + 1)).toNat).freshN 2),
    { p with checks := p.checks + n, tests := (p.tests + t) % 2 ^ 64 })

/-- A PLAN takes a place; a real-time one ends the quantum of a best-effort one. -/
def State.seatPlan (s : State) (r : Nat) (q : Request) (p : Plan) : State :=
  let turn := match s.pcu.turn with | some t => some t | none => some r
  let preempt := s.ctxRt q.ctx && (match s.pcu.turn with
    | some t => (match s.pcu.held.find t with | some x => !s.ctxRt x.ctx | none => false)
    | none => false)
  let s1 := s.putReq r { q with outs := planRequestOuts p.desc }
  { s1 with pcu := { s1.pcu with
      order := s1.pcu.order ++ [r], turn := turn, yield := s1.pcu.yield || preempt, held := s1.pcu.held.put r p } }

/-- PLAN_HELD: a waiting PLAN takes a place and its start and goal are checked (R346). -/
def State.planHeld (s : State) : State :=
  match s.nextPlan with
  | none => s
  | some r =>
    let s0 := s.unqueuePlan r
    match s0.req r with
    | none => s0
    | some q =>
      let d := s0.peek q.cmdAddr 128
      let im := (s0.pcu.models.find (fieldLE d 2 1)).getD []
      let e := if fieldLE d 0x1C 4 = 0 then s0.pcu.newest else fieldLE d 0x1C 4
      if s0.quarantined 0x8A then s0.engineFail r q 0x0A
      else match s0.pcu.epochs.find e with
        | none => s0.pcuRefuse r q 8
        | some ep =>
          let p0 := s0.newPlan r q d im ep
          let s2 := (s0.seatPlan r q p0).showPcu
          if outOfLimits im p0.start ∨ outOfLimits im p0.goal then s0.pcuRefuse r q 4
          else match poseHit im ep (ep.only p0.tStart) p0.start with
          | some h =>
            let c := s2.countCheck p0 1
            c.1.putPlan r { c.2 with hit := h, phase := .ended 0x11 }
          | none => match poseHit im ep (2 ^ (ep.slices - 1)) p0.goal with
            | some h =>
              let c := s2.countCheck p0 2
              c.1.putPlan r { c.2 with hit := h, phase := .ended 0x12 }
            | none =>
              let c := s2.countCheck p0 2
              c.1.putPlan r (c.2.advance s2.pcu.newest planFuel)

/-- PLAN_HELD (R333, R346). -/
def execPlanHeld (s : State) : Host.Outcome State Fault Refusal := done s (s.work State.planHeld)

/-- Give the quantum to the next held request (R333). -/
def State.passTurn (s : State) : State :=
  match s.pcu.turn with
  | none => ({ s with pcu := { s.pcu with turn := s.pcu.order.head?, yield := false } }).showPcu
  | some r => ({ s with pcu := { s.pcu with turn := s.nextTurn r, yield := false } }).showPcu

/-- QUANTUM_END (R333). -/
def execQuantumEnd (s : State) : Host.Outcome State Fault Refusal := done s (s.work State.passTurn)

/-- A PLAN after a check with a verdict, up to the next check or its end; FOLLOW takes the newest epoch until the release. -/
def Plan.afterCheck (p : Plan) (ok : Bool) (newest : Nat) : Plan :=
  let p1 := p.take ok
  let validating := match p1.phase with
    | .validate _ _ | .ended _ => true
    | _ => false
  (if p.follow ∧ !validating then { p1 with snap := newest } else p1).advance newest planFuel

/-- R341, R343: the running check of the request in its quantum ends on its epoch; growth, search, shortcutting or validation
goes on until the next check. -/
def State.edgeCheckDone (s : State) (r : Nat) : State :=
  match s.pcu.held.find r, s.req r with
  | some p, some q =>
    if s.pcu.turn ≠ some r ∨ !p.waits ∨ (s.selfTest 0x8A).running then s
    else if s.quarantined 0x8A then s.planFail r q 0x0A
    else match s.pcu.epochs.find p.snap with
      | none => s
      | some ep =>
        let c := s.countCheck p 1
        let s1 := c.1.putPlan r (c.2.afterCheck (p.verdict ep) s.pcu.newest)
        let s2 := if s.pcu.yield ∧ s1.pcu.turn = some r then s1.passTurn else s1
        s2.setReg Reg.PCU_CNT_CHECK (s.reg Reg.PCU_CNT_CHECK + 1)
  | _, _ => s

/-- EDGE_CHECK_DONE (R343). -/
def execEdgeCheckDone (r : Nat) (s : State) : Host.Outcome State Fault Refusal :=
  done s (s.work (fun u => u.edgeCheckDone r))

/-- R353: the budget of a held PLAN runs out; shortcutting stops and the release validation always runs to its end. -/
def State.planBudget (s : State) (r : Nat) : State :=
  match s.pcu.held.find r with
  | none => s
  | some p =>
    if !(due s.now p.budget) then s
    else match p.phase with
      | .validate _ _ | .release | .ended _ => s
      | .shortcut _ | .cut _ _ _ _ => s.putPlan r (({ p with phase := .release }).advance s.pcu.newest planFuel)
      | _ => s.putPlan r (p.giveUp 0x0F)

/-- PLAN_BUDGET_EXPIRED (R353). -/
def execPlanBudgetExpired (r : Nat) (s : State) : Host.Outcome State Fault Refusal :=
  done s (s.work (fun u => u.planBudget r))

/-! ## MODEL_LOAD (R336) -/

/-- The map engine runs MODEL_LOAD and MAP_UPDATE one at a time in acceptance order (R333). -/
def State.mapEngineFor (s : State) (r : Nat) : Bool :=
  (match s.pcu.update with | some u => u.1 == r | none => true) &&
  s.que.reqs.entries.all (fun e => !(decide (e.1 < r)) || e.2.kind != 0x11 || e.2.phase != .running ||
    fieldLE (s.peek e.2.cmdAddr 1) 0 1 == 0x80)

/-- Whether a PLAN that is held, or that was dispatched and waits for a place, names a model slot. A PLAN that still waits for its
sync objects is neither (DEDUCED, log entry 90: it may wait for this very load). -/
def State.slotNamed (s : State) (m : Nat) : Bool :=
  s.que.reqs.entries.any (fun e => e.2.kind == 0x11 && e.2.phase == .running && fieldLE (s.peek e.2.cmdAddr 1) 0 1 == 0x80 &&
    fieldLE (s.peek (e.2.cmdAddr + 2) 1) 0 1 == m)

/-- R336: bits that refuse a MODEL_LOAD before its image is read. -/
def State.modelMask (s : State) (q : Request) (d : Bytes) : Nat :=
  b2n (decide (3 < fieldLE d 1 1) || decide (fieldLE d 4 4 < 64)) * 2 + b2n (s.slotNamed (fieldLE d 1 1)) * 16 +
    b2n (q.tag != 0) * 512 + b2n (fieldLE d 8 8 % 64 != 0) * 1024 + b2n (fieldLE d 2 2 != 0 || fieldLE d 0x10 16 != 0) * 2048

/-- Hold a model image in a slot. -/
def State.setModel (s : State) (m : Nat) (im : Bytes) : State := { s with pcu := { s.pcu with models := s.pcu.models.put m im } }

/-- MODEL_LOAD. -/
def State.modelLoad (s : State) (r : Nat) : State :=
  match s.pcuReq r 0x81 with
  | none => s
  | some q =>
    let d := s.peek q.cmdAddr 32
    let m := fieldLE d 1 1
    if !s.mapEngineFor r then s
    else if s.modelMask q d ≠ 0 then s.pcuRefuse r q (s.modelMask q d)
    else
      let n := fieldLE d 4 4
      let (s1, rd) := s.engineReads r q 5 [(fieldLE d 8 8, n)] []
      match rd with
      | .ready =>
        let im := s1.peek (fieldLE d 8 8) n
        if n = modelBytes im ∧ modelOk im then
          let w := crc32c im + modelDof im * 2 ^ 32 + (modelVols im - 1) * 2 ^ 40 + 2 ^ 63
          ((s1.setModel m im).endReq r 0 0 false).setReg (Reg.PCU_MODEL m)
            (BitVec.ofNat 64 w)
        else s1.pcuRefuse r q 2
      | .failed st => s1.endReq r st 0 false
      | _ => s1

/-- MODEL_LOAD (R336). -/
def execModelLoad (r : Nat) (s : State) : Host.Outcome State Fault Refusal := done s (s.work (fun u => u.modelLoad r))

/-! ## MAP_UPDATE and epochs (R337 to R340) -/

/-- Geometry and pool that a RESET reads from the registers, with T0. -/
def State.resetEpoch (s : State) (t0 : Nat) : PEpoch :=
  let cfg := (s.shown Reg.PCU_MAP_CFG).toNat
  let xy := (s.shown Reg.PCU_MAP_ORIGIN_XY).toNat
  let z := (s.shown Reg.PCU_MAP_ORIGIN_Z).toNat
  let pool := (s.shown Reg.PCU_MAP_BASE).toNat
  { num := s.pcu.newest + 1, t0 := t0, leafMm := bits cfg 0 6, depth := bits cfg 8 4, slices := bits cfg 16 5, dtUs := bits cfg 32 32,
    tb := bits cfg 22 2, origin := [bits xy 0 32, bits xy 32 32, bits z 0 32], base := bits pool 0 48, mib := bits pool 48 16,
    leaves := [], made := [] }

/-- The epoch that a MAP_UPDATE builds on: the newest one, or an empty map with the registers' geometry; none where there is
no map to merge into. -/
def State.baseEpoch (s : State) (op t0 : Nat) : Option PEpoch :=
  if op = 1 then some (s.resetEpoch t0)
  else (s.pcu.epochs.find s.pcu.newest).map (fun e => { e with num := s.pcu.newest + 1, t0 := t0 })

/-- Key of a leaf. -/
def leafKey (x y z : Nat) : Nat := (x * 2 ^ 14 + y) * 2 ^ 14 + z

/-- Apply one leaf record: the mask is replaced, and the nodes above the leaf are copied (R339). -/
def PEpoch.applyLeaf (ep : PEpoch) (x y z mask : Nat) : PEpoch :=
  { ep with
    leaves := SMap.set (fun _ => 0) ep.leaves (leafKey x y z) mask,
    made := iter ep.depth (fun m l =>
      let k := ep.depth - l
      SMap.set (fun _ => 0) m (l * 2 ^ 42 + leafKey (x >>> k) (y >>> k) (z >>> k)) ep.num) ep.made }

/-- Nodes with no occupied leaf below them are not kept. -/
def PEpoch.prune (ep : PEpoch) : PEpoch :=
  { ep with made := ep.made.filter (fun n =>
      let l := n.1 / 2 ^ 42
      let k := ep.depth - l
      ep.leaves.any (fun f => leafKey ((f.1 / 2 ^ 28) >>> k) (((f.1 / 2 ^ 14) % 2 ^ 14) >>> k) ((f.1 % 2 ^ 14) >>> k) == n.1 % 2 ^ 42)) }

/-- Free nodes of an epoch's pool. -/
def State.freeNodes (s : State) (ep : PEpoch) : Nat :=
  let used := (s.pcu.epochs.entries.filter (fun (e : Nat × PEpoch) => e.2.base == ep.base)).flatMap (fun e => e.2.made)
  ep.mib * 16384 - used.eraseDups.length

/-- R339: bits that refuse a MAP_UPDATE before its list is read. -/
def State.mapMask (s : State) (q : Request) (d : Bytes) (ep : Option PEpoch) : Nat :=
  let pool := match ep with
    | none => true
    | some e => decide (s.freeNodes e < fieldLE d 4 4 * e.depth)
  let flash : Bool := fieldLE d 1 1 == 1 && (match ep with
    | none => false
    | some e => e.mib == 0 || (pagesOf e.base (e.mib * 2 ^ 20)).any (fun n => match s.page n with
        | some p => p.home == 2
        | none => true))
  b2n pool * 64 + b2n flash * 256 + b2n (q.tag != 0) * 512 +
    b2n (decide (1 < fieldLE d 1 1) || decide (65536 < fieldLE d 4 4) || fieldLE d 8 8 % 64 != 0 || fieldLE d 0x20 8 % 8 != 0 ||
      !time96Valid (fieldLE d 0x10 12)) * 1024 +
    b2n (fieldLE d 2 2 != 0 || fieldLE d 0x1C 4 != 0 || fieldLE d 0x28 24 != 0) * 2048

/-- The leaf records of a list. -/
def leafRecords (bs : Bytes) (n : Nat) : List (Nat × Nat × Nat × Nat) :=
  tab n (fun i => (fieldLE bs (8 * i) 2, fieldLE bs (8 * i + 2) 2, fieldLE bs (8 * i + 4) 2, fieldLE bs (8 * i + 6) 2))

/-- The update in progress. -/
def State.setUpdate (s : State) (u : Option (Nat × PEpoch)) : State := { s with pcu := { s.pcu with update := u } }

/-- An epoch becomes the newest. -/
def State.pushEpoch (s : State) (ep : PEpoch) : State :=
  { s with pcu := { s.pcu with newest := ep.num, epochs := s.pcu.epochs.put ep.num ep } }

/-- MAP_UPDATE: the checks, the list, and the epoch that is built. -/
def State.mapUpdate (s : State) (r : Nat) : State :=
  match s.pcuReq r 0x82 with
  | none => s
  | some q =>
    let d := s.peek q.cmdAddr 64
    let n := fieldLE d 4 4
    let op := fieldLE d 1 1
    let ep := s.baseEpoch op (time96Frac (fieldLE d 0x10 12))
    if s.pcu.update.isSome ∨ !s.mapEngineFor r then s
    else if s.mapMask q d ep ≠ 0 then s.pcuRefuse r q (s.mapMask q d ep)
    else
      let (s1, rd) := s.engineReads r q 5 [(fieldLE d 8 8, 8 * n)] [(fieldLE d 0x20 8, 4)]
      match rd, ep with
      | .ready, some e =>
        let ls := leafRecords (s1.peek (fieldLE d 8 8) (8 * n)) n
        let top := 2 ^ e.depth
        if ls.any (fun l => decide (top ≤ l.1) || decide (top ≤ l.2.1) || decide (top ≤ l.2.2.1) || decide (2 ^ e.slices ≤ l.2.2.2)) then
          s1.pcuRefuse r q 32
        else
          let e1 := (each ls (fun (t : PEpoch) l => t.applyLeaf l.1 l.2.1 l.2.2.1 l.2.2.2) e).prune
          let s2 := if op = 1 then s1.applyShadows Reg.PCU_MAP_CFG Reg.PCU_MAP_EPOCH else s1
          (s2.setUpdate (some (r, e1))).setReg Reg.PCU_STATE
            (s.reg Reg.PCU_STATE ||| 8)
      | .failed st, _ => s1.engineFail r q st
      | _, _ => s1

/-- MAP_UPDATE (R339). -/
def execMapUpdate (r : Nat) (s : State) : Host.Outcome State Fault Refusal := done s (s.work (fun u => u.mapUpdate r))

/-- EPOCH_COMMIT: the last record is applied; the epoch becomes the newest unless it holds too many leaves (R339, R340). -/
def State.epochCommit (s : State) : State :=
  match s.pcu.update with
  | none => s
  | some (r, ep) => match s.req r with
    | none => s
    | some q =>
      let d := s.peek q.cmdAddr 64
      let s0 := s.setUpdate none
      if s.quarantined 0x8A then s0.showPcu.engineFail r q 0x0A
      else if 2 ^ 20 < ep.leaves.length then s0.showPcu.pcuRefuse r q 128
      else s.withOuts r q 5 [(fieldLE d 0x20 8, 4)] (fun t st => (t.setUpdate none).showPcu.engineFail r q st) (fun t =>
        let w := State.engineWrite (t.setUpdate none, 0) r q 5 (fieldLE d 0x20 8) (natLE 4 ep.num)
        if w.2 ≠ 0 then w.1.showPcu.engineFail r q w.2
        else
          ((w.1.pushEpoch ep).trimEpochs.showPcu.endReq r 0 0 false).setReg Reg.PCU_CNT_UPDATE (t.reg Reg.PCU_CNT_UPDATE + 1))

/-- EPOCH_COMMIT (R339, R340). -/
def execEpochCommit (s : State) : Host.Outcome State Fault Refusal := done s (s.work State.epochCommit)

end Sys2Proof.Machine
end

