-- ==== Sys2Proof/Machine/RegFile.lean ====
section
/-! DEFINITION. The register space (15_dictionary_and_registers.md): what a read answers, what a write of any register does,
the bit-alias window, configuration signatures and snapshots. -/

namespace Sys2Proof.Machine

/-! ## What exists (R389, R390) -/

/-- R389, R390: whether a register stands at a device address: a row of a map, unless the address is reserved there. -/
def regExists (a : Nat) : Bool :=
  match regDef a with
  | none => false
  | some d =>
    let i := ((d.index a).getD []).headD 0
    let j := ((d.index a).getD []).getD 1 0
    if d.base = 0 then decide (a / 8 < (capWords 0 0).length)
    else if 0x10000 ≤ a ∧ a < 0x18000 then blockAssigned i
    else if d.base = Reg.HOLD 0 0 then blockAssigned i && decide (j < (blockCounters i).length)
    else if 0x40000 ≤ a ∧ a < 0xC0000 then blockAssigned i
    else if d.base = Reg.BRM_GATE 0 then gateNamed i
    else true

/-! ## Signatures (R400 to R404) -/

/-- R400: the signature of a block: the CRC-32C over its signed registers' values in force, RW fields only. -/
def State.signature (s : State) (k : Nat) : Nat :=
  crc32c ((blockRegs k (·.signed)).flatMap (fun a => match regDef a with
    | none => natLE 8 0
    | some d => natLE 8 (d.contrib (s.regN a))))

/-- R402: a reference for block `k` is set; it holds for every later complete sweep. -/
def State.setReference (s : State) (k v : Nat) : State :=
  let s1 := s.setRegN (Reg.CFG_SIG_REF k) v
  let st := s1.regN (Reg.CFG_STATUS k)
  let s2 := s1.setRegN (Reg.CFG_STATUS k) (putBits (putBits (putBits st 2 1 0) 3 1 1) 4 1 0)
  { s2 with sys := { s2.sys with drifted := s2.sys.drifted.filter (fun b => b != k) } }

/-- R401 to R403: a sweep of block `k` completes: a pending commit takes it as the reference; else, compared with the
reference, a difference counts as drift, and the first one after a match or a commit sends a record. -/
def State.sweepEnd (s : State) (k : Nat) : State :=
  let sig := s.signature k
  let sweeps := (s.fld (Reg.CFG_SIG_NOW k) 32 32 + 1) % 2 ^ 32
  let s1 := (s.setRegN (Reg.CFG_SIG_NOW k) (sig + sweeps * 2 ^ 32)).orReg (Reg.CFG_STATUS k) 32
  let st := s.regN (Reg.CFG_STATUS k)
  if st.testBit 4 then s1.setReference k sig
  else if !st.testBit 3 || st.testBit 2 then s1
  else if sig = s.fld (Reg.CFG_SIG_REF k) 0 32 then
    { s1 with sys := { s1.sys with drifted := s1.sys.drifted.filter (fun b => b != k) } }
  else
    let s2 := (s1.orReg (Reg.CFG_STATUS k) 2).bump (Reg.CFG_CNT_DRIFT k)
    if s.sys.drifted.contains k then s2
    else ({ s2 with sys := { s2.sys with drifted := insertAsc k s2.sys.drifted } }).record 2 21 0 k none 0xFFFF 0

/-- R404: the device signature: [31:0] over the references of the assigned blocks, [32] VALID. -/
def State.devSig (s : State) : Nat :=
  let crc := crc32c (allBlocks.flatMap (fun k => natLE 4 (s.fld (Reg.CFG_SIG_REF k) 0 32)))
  crc + b2n (allBlocks.all (fun k => s.bit (Reg.CFG_STATUS k) 3 && !s.bit (Reg.CFG_STATUS k) 2)) * 2 ^ 32

/-- R402: COMMIT. -/
def State.commitBlock (s : State) (k : Nat) : State := if blockAssigned k then s.orReg (Reg.CFG_STATUS k) 16 else s

/-- R406: SNAP. -/
def State.snapOne (s : State) (k : Nat) : State := if blockAssigned k then s.snapBlock k else s

/-! ## Reads (R393, R394, R398) -/

/-- R407: a register of the capability list. -/
def State.capWord (s : State) (i : Nat) : Nat := nth 0 (capWords (b2n Config.gradeX) (s.fld Reg.SEC_STATE 3 1)) i

/-- TB_NOW_A's value. -/
def State.tbNow (s : State) (b : Nat) : Nat := bits (time96 (s.time.get b).val) 0 48 + (s.time.get b).epoch * 2 ^ 48

/-- R93: ATT_STATE: a unit that is idle shows a call that waits for the tile blocks it reads there as staging (log entry 88). -/
def State.attState (s : State) (palm : Nat) : Nat :=
  let w := s.regN (Reg.ATT_STATE palm)
  if w % 4 ≠ 0 then w
  else match s.attWait.find? (fun r => s.stillWaits r && (match s.engReq r [2] with
      | some q => s.attPlace q (s.peek q.cmdAddr 128) == some palm
      | none => false)) with
    | some r => 1 + (match s.req r with | some q => q.ctx | none => 0) * 256
    | none => w

/-- TB_EDGE_A's value for an entry. -/
def EdgeEntry.word (e : EdgeEntry) : Nat :=
  e.ns + e.epoch * 2 ^ 32 + e.gpio * 2 ^ 40 + b2n e.rising * 2 ^ 45 + e.tb * 2 ^ 46 + 2 ^ 48

/-- What a read of an existing register answers, without its side effect: registers that show state held elsewhere, command
registers as zero, an RWL register by its shadow (R394). -/
def State.peekReg (s : State) (a : Nat) : Nat :=
  match regDef a with
  | none => 0
  | some d =>
    let i := ((d.index a).getD []).headD 0
    let j := ((d.index a).getD []).getD 1 0
    if d.cls = .wo then 0
    else if d.base = 0 then s.capWord (a / 8)
    else if d.base = Reg.TB_NOW_A 0 then s.tbNow i
    else if d.base = Reg.TB_INCR 0 then (s.time.get i).incr
    else if d.base = Reg.TB_STATE 0 then
      let x := s.time.get i
      b2n x.isSet + b2n x.allowJump * 2 + x.epoch * 256
    else if d.base = Reg.TB_EDGE_A then
      match s.edges with
      | [] => (Config.freeWord s.fresh).toNat % 2 ^ 48
      | e :: _ => e.word
    else if d.base = Reg.QUE_CTX_EVENT 0 then (SMap.get (fun _ => []) s.que.events i).headD 0
    else if d.base = Reg.QUE_STATE then putBits (s.shown a).toNat 18 1 (b2n s.oversub)
    else if d.base = Reg.ATT_STATE 0 then s.attState i
    else if d.base = Reg.CFG_DEV_SIG then s.devSig
    else if d.base = Reg.CUF_ERQ_STATE 0 then s.erqState i
    else if d.base = Reg.CUF_ERQ_REC 0 0 then s.erqWord i j
    else if d.base = Reg.CUF_CHK_STATE 0 then s.chkState i
    else if d.base = Reg.CUF_AGE_STATE 0 then s.ageState i
    else (s.shown a).toNat

/-- R393: the side effect of a read: TB_NOW_A latches its seconds, TB_EDGE_A and QUE_CTX_EVENT remove their entry. -/
def State.readEffect (s : State) (a : Nat) : State :=
  match regDef a with
  | none => s
  | some d =>
    let i := ((d.index a).getD []).headD 0
    if d.base = Reg.TB_NOW_A 0 then s.setRegN (Reg.TB_NOW_B i) (bits (time96 (s.time.get i).val) 48 48)
    else if d.base = Reg.TB_EDGE_A then
      match s.edges with
      | [] => s.freshN 1
      | e :: es => ({ s with edges := es }).setRegN Reg.TB_EDGE_B e.sec
    else if d.base = Reg.QUE_CTX_EVENT 0 then s.ctxEventRead i
    else s

/-- The alias window's register and bit for an address in it (R397). -/
def aliasTarget (a : Nat) : Nat × Nat := ((a - 0x20000000) / 512 * 8, (a - 0x20000000) % 512 / 8)

/-- An address in the alias window. -/
def inAlias (a : Nat) : Bool := decide (0x20000000 ≤ a) && decide (a < 0x30000000)

/-- R390, R398: a read by an agent: the state after it and the value, none on a bus error. -/
def State.softRead (s : State) (ag : Agent) (a size : Nat) : State × Option Nat :=
  if size ≠ 8 ∨ a % 8 ≠ 0 then (s.busError ag false 2 a, none)
  else if inAlias a then
    let t := aliasTarget a
    if regExists t.1 then (s, some (b2n ((s.peekReg t.1).testBit t.2))) else (s.busError ag false 1 a, none)
  else if regExists a then (s.readEffect a, some (s.peekReg a))
  else (s.busError ag false 1 a, none)

/-! ## Quiescence of the blocks' RWQ registers (R395 and the chapters) -/

/-- A context is IDLE or FAULTED and has nothing in flight (R232). -/
def State.ctxQuiet (s : State) (c : Nat) : Bool :=
  (s.fld (Reg.QUE_CTX_STATE c) 0 2 == 0 || s.fld (Reg.QUE_CTX_STATE c) 0 2 == 3) && s.inflightOf c == 0

/-- Whether the part of a block that an RWQ register of a plain kind belongs to is quiescent, by the register's first address
and indices. -/
def State.rwqQuiet (s : State) (base i j : Nat) : Bool :=
  if Reg.KVR_SEQ_BASE 0 ≤ base ∧ base ≤ Reg.KVR_PAGE_BYTES 0 then
    s.kvr.entries.all (fun (e : Nat × SeqRec) => e.1 % 4 != i || e.2.st != 1)
  else if base = Reg.MTN_PART 0 then s.fld (Reg.MTN_STATE i) 0 2 == 0
  else if base = Reg.QUE_MODE ∨ base = Reg.QUE_BUF_SPLIT ∨ base = Reg.QUE_SWAP_GRAN ∨ base = Reg.QUE_PART_CFG 0 then s.inflight == 0
  else if base = Reg.QUE_CTX_CFG 0 then s.ctxQuiet i
  else if base = Reg.QUE_RING_BASE 0 ∨ base = Reg.QUE_RING_CPL 0 ∨ base = Reg.QUE_RING_CFG 0 then
    !s.bit (Reg.QUE_RING_CFG i) 8 && s.ctxQuiet (i / 64)
  else if base = Reg.CAD_FRAME0 then s.cadTable == 1
  else if base = Reg.CAD_FRAME1 then s.cadTable == 0
  else if base = Reg.CAD_SLOT_LO 0 0 ∨ base = Reg.CAD_SLOT_HI 0 0 then !(s.cadTable == i)
  else if base = Reg.CAD_EPOCH then !s.bit Reg.CAD_CTRL 0
  else if base = Reg.VIS_STR_PORT 0 ∨ base = Reg.VIS_STR_SCALE 0 then !s.bit (Reg.VIS_STR_CFG i) 0
  else if Reg.VIS_PIPE_SHAPE 0 ≤ base ∧ base ≤ Reg.VIS_PIPE_SYNC 0 then !s.bit (Reg.VIS_PIPE_CFG i) 0
  else if base = Reg.TB_OUT_START 0 then !s.bit (Reg.TB_OUT_CFG i) 0
  else if base = Reg.ATU_TRK_MODE ∨ base = Reg.ATU_EVT_BASE then s.unitQuiet 0x93
  else if base = Reg.ATU_CH_SCALE 0 then !s.bit (Reg.ATU_CH_CFG i) 0
  else if base = Reg.KNK_TRC_BASE 0 then !s.bit (Reg.KNK_TRC_CTRL i) 0
  else if Reg.KNK_LOOP_DIM 0 0 ≤ base ∧ base ≤ Reg.KNK_LOOP_YMAP 0 0 0 then !s.bit (Reg.KNK_LOOP_CFG i j) 0
  else if base = Reg.BRM_PLL_AUD then
    (List.range 48).all (fun k => !s.bit (Reg.VIS_STR_CFG k) 0 || s.fld (Reg.VIS_STR_CFG k) 1 3 != 1)
  else s.cuffQuiet

/-! ## Writes with rules of their own -/

/-- R266, R267: a write of TB_INCR; that of TB0 is RO. -/
def State.writeIncr (s : State) (b v : Nat) : State :=
  if b = 0 then s else s.putBase b { s.time.get b with incr := clampIncr (bits v 0 35) }

/-- R267: a write of TB_CMD: SET wins over STEP; ALLOW_JUMP alone holds until the next accepted step. -/
def State.writeTbCmd (s : State) (b v : Nat) : State :=
  if b = 0 then s
  else if v.testBit 1 then s.tbSet b (v.testBit 2)
  else if v.testBit 0 then s.tbStep b (v.testBit 2)
  else if v.testBit 2 then s.putBase b { s.time.get b with allowJump := true }
  else s

/-- R271, R288: a write of TB_OUT_CFG. Clearing EN is accepted at any time (DEDUCED, log entry 74). -/
def State.writeOutCfg (s : State) (ag : Agent) (o v : Nat) : State :=
  let a := Reg.TB_OUT_CFG o
  if s.bit a 0 then (if v.testBit 0 then s.refuseBusy ag a else s.clearEnable a v)
  else
    let s1 := s.storeReg a v
    if v.testBit 0 then s1.enableOutput o else s1

/-- R227, R395: QUE_RING_CFG: clearing ENABLE is accepted at any time. -/
def State.writeRingCfg (s : State) (ag : Agent) (r v : Nat) : State :=
  let a := Reg.QUE_RING_CFG r
  if s.rwqQuiet (Reg.QUE_RING_CFG 0) r 0 then s.storeReg a v
  else if !v.testBit 8 && s.bit a 8 then s.clearBit a 8 v
  else s.refuseBusy ag a

/-- R180, R227: QUE_PART_CFG: RT is refused while the partition owns a flash-homed page. -/
def State.writePartCfg (s : State) (ag : Agent) (p v : Nat) : State :=
  let a := Reg.QUE_PART_CFG p
  if s.inflight ≠ 0 then s.refuseBusy ag a
  else if v.testBit 8 && s.umr.pages.entries.any (fun (e : Nat × Page) => e.2.part == p && e.2.home == 2) then
    (s.orReg Reg.QUE_REJECT 256).refuseRule ag a
  else s.storeReg a v

/-- R232: QUE_CTX_CFG: RT is refused in a partition without RT. -/
def State.writeCtxCfg (s : State) (ag : Agent) (c v : Nat) : State :=
  let a := Reg.QUE_CTX_CFG c
  if !s.ctxQuiet c then s.refuseBusy ag a
  else if v.testBit 3 && !s.bit (Reg.QUE_PART_CFG (v % 8)) 8 then s.refuseRule ag a
  else s.storeReg a v

/-- R218, R394: CAD_CTRL: TB may change only while ENABLE is clear. -/
def State.writeCadCtrl (s : State) (ag : Agent) (v : Nat) : State :=
  if s.bit Reg.CAD_CTRL 0 && bits v 4 2 != s.fld Reg.CAD_CTRL 4 2 then s.refuseBusy ag Reg.CAD_CTRL else s.storeReg Reg.CAD_CTRL v

/-- A write of a command register (R393): its fields trigger. -/
def State.writeCommand (s : State) (ag : Agent) (base a i j v : Nat) : State :=
  if base = Reg.QUE_CTX_CTRL 0 then (if v.testBit 0 then s.contextReset i else s)
  else if base = Reg.QUE_DOORBELL 0 0 then s.doorbell (i * 64 + j) (v % 2 ^ 32)
  else if base = Reg.VIS_PIPE_RELEASE 0 then s.pipeRelease i (v % 256)
  else if base = Reg.TB_CMD 0 then s.writeTbCmd i v
  else if base = Reg.KNK_LOOP_CTRL 0 0 then (if v.testBit 0 then s.commitLoop ag i j else s)
  else if base = Reg.CFG_CTRL 0 then
    let s1 := if v.testBit 0 then s.snapOne i else s
    if v.testBit 1 then s1.commitBlock i else s1
  else if base = Reg.CFG_GLOBAL_CTRL then
    let s1 := if v.testBit 0 then each allBlocks (fun t k => t.snapBlock k) s else s
    if v.testBit 1 then each allBlocks (fun t k => t.commitBlock k) s1 else s1
  else if base = Reg.CUF_CTRL then s.writeCufCtrl ag v
  else if base = Reg.CUF_STOP_CTRL then s.writeStopCtrl ag v
  else if base = Reg.CUF_RETEST then (if v.testBit 8 then s.retest (v % 256) else s)
  else if base = Reg.CUF_ERQ_POP 0 then (if v.testBit 0 then s.popRecord i else s)
  else s.refuseRule ag a

/-- A write of an RWQ register: those with rules of their own, and the plain ones (R395). -/
def State.writeQuiet (s : State) (ag : Agent) (base a i j v : Nat) : State :=
  if base = Reg.VIS_STR_CFG 0 then s.writeStream ag i v
  else if base = Reg.VIS_PIPE_CFG 0 then s.writePipe ag i v
  else if base = Reg.TB_OUT_CFG 0 then s.writeOutCfg ag i v
  else if base = Reg.ATU_CH_CFG 0 then s.writeAtuCh ag i v
  else if base = Reg.KNK_LOOP_CFG 0 0 then s.writeLoopCfg ag i j v
  else if base = Reg.QUE_RING_CFG 0 then s.writeRingCfg ag i v
  else if base = Reg.QUE_PART_CFG 0 then s.writePartCfg ag i v
  else if base = Reg.QUE_CTX_CFG 0 then s.writeCtxCfg ag i v
  else if base = Reg.CUF_CFG then s.writeCufCfg ag v
  else if base = Reg.CUF_AGE_CFG 0 then s.writeAgeCfg ag i v
  else if base = Reg.CUF_CHK_CFG 0 then s.writeChkCfg ag i v
  else if base = Reg.CUF_ACT 1 then s.writeAct ag (i + 1) v
  else if !s.rwqQuiet base i j then s.refuseBusy ag a
  else if base = Reg.KVR_POOL_PAGES 0 then
    let s1 := s.storeReg a v
    s1.setKvUsed i (s1.kvUsed i)
  else s.storeReg a v

/-- A write of an RWL register (R394). -/
def State.writeLive (s : State) (ag : Agent) (base a i j v : Nat) : State :=
  if base = Reg.SYN_VALUE 0 then s.synWrite i v
  else if base = Reg.CAD_CTRL then s.writeCadCtrl ag v
  else if base = Reg.TB_INCR 0 then s.writeIncr i v
  else if base = Reg.TB_STEP_ADJ 0 ∨ base = Reg.TB_SET_A 0 ∨ base = Reg.TB_SET_B 0 then (if i = 0 then s else s.storeReg a v)
  else if base = Reg.TB_CMP_CFG 0 then s.writeCmpCfg i v
  else if base = Reg.TB_CMP_TARGET 0 then s.writeCmpTarget i v
  else if base = Reg.KNK_LATCH 0 0 then (s.latchWrite i j v).nextOrder
  else if base = Reg.KNK_COEFF 0 0 then s.writeCoeff ag i j v
  else if base = Reg.KNK_TRC_CTRL 0 then s.writeTrcCtrl ag i v
  else if base = Reg.CFG_SIG_REF 0 then s.setReference i (v % 2 ^ 32)
  else if base = Reg.BRM_GATE 0 then s.writeGate ag i v
  else if base = Reg.UMR_FAULT then (if v.testBit 63 then (s.setRegN a 0).setRegN Reg.UMR_FAULT_ADDR 0 else s)
  else s.storeReg a v

/-- R393: a write of an existing register by its class. CUF_STOP is RO but for its W1C RELEASE_REFUSED (DEDUCED from its field
map, log entry 70). -/
def State.writeReg (s : State) (ag : Agent) (a v : Nat) : State :=
  match regDef a with
  | none => s.busError ag true 1 a
  | some d =>
    let i := ((d.index a).getD []).headD 0
    let j := ((d.index a).getD []).getD 1 0
    if !regExists a then s.busError ag true 1 a
    else match d.cls with
      | .ro => if a = Reg.CUF_STOP ∧ v.testBit 5 then s.setFld a 5 1 0 else s
      | .rc => s
      | .wo => s.writeCommand ag d.base a i j v
      | .rwq => s.writeQuiet ag d.base a i j v
      | .rwl _ => s.writeLive ag d.base a i j v

/-- R399: the register write that an alias write of bit `b` acts as. -/
def State.aliasValue (s : State) (a b data : Nat) : Nat :=
  match regDef a with
  | none => 0
  | some d =>
    let keep := d.fields.foldl (fun acc f => match f.access with
      | .rw => putBits acc f.lo f.width (bits (s.peekReg a) f.lo f.width)
      | _ => acc) 0
    putBits keep b 1 (data % 2)

/-- R390, R399: a write by an agent to a device address. -/
def State.softWrite (s : State) (ag : Agent) (a size v : Nat) : State :=
  if size ≠ 8 ∨ a % 8 ≠ 0 then s.busError ag true 2 a
  else if inAlias a then
    let t := aliasTarget a
    if regExists t.1 then s.writeReg ag t.1 (s.aliasValue t.1 t.2 v) else s.busError ag true 1 a
  else s.writeReg ag a v

/-! ## The commands -/

/-- REGISTER_WRITE (R393). -/
def execRegisterWrite (agent : Agent) (addr size : Nat) (value : BitVec 64) (s : State) : Host.Outcome State Fault Refusal :=
  doneT s (s.powered (fun u => u.softWrite agent addr size value.toNat))

/-- BIT_ALIAS_WRITE (R399). -/
def execBitAliasWrite (agent : Agent) (addr : Nat) (value : BitVec 64) (s : State) : Host.Outcome State Fault Refusal :=
  doneT s (s.powered (fun u => if inAlias addr then u.softWrite agent addr 8 value.toNat else u.busError agent true 1 addr))

/-- SIGNATURE_SWEEP_END (R401). -/
def execSignatureSweepEnd (k : Fin 117) (s : State) : Host.Outcome State Fault Refusal :=
  done s (s.powered (fun u => if blockAssigned k.val then u.sweepEnd k.val else u))

/-- SNAP (R406). -/
def execSnap (k : Fin 117) (s : State) : Host.Outcome State Fault Refusal := done s (s.powered (fun u => u.snapOne k.val))

/-- COMMIT (R402). -/
def execCommit (k : Fin 117) (s : State) : Host.Outcome State Fault Refusal := done s (s.powered (fun u => u.commitBlock k.val))

/-- SNAP_ALL (R406). -/
def execSnapAll (s : State) : Host.Outcome State Fault Refusal :=
  done s (s.powered (fun u => each allBlocks (fun t k => t.snapBlock k) u))

/-- COMMIT_ALL (R402). -/
def execCommitAll (s : State) : Host.Outcome State Fault Refusal :=
  done s (s.powered (fun u => each allBlocks (fun t k => t.commitBlock k) u))

/-- CFG_SIG_REF_WRITE (R402). -/
def execCfgSigRefWrite (k : Fin 117) (value : BitVec 32) (s : State) : Host.Outcome State Fault Refusal :=
  done s (s.powered (fun u => if blockAssigned k.val then u.setReference k.val value.toNat else u))

end Sys2Proof.Machine
end

