-- ==== Sys2Proof/Machine/BootBase.lean ====
section
/-! DEFINITION. Firmware images, updates in service, owner key, attestation, calibration and the lifetime log
(16_boot_and_identity.md): the operations that the object dictionary's entries and the boot sequence share. Abort codes are
those of R387. -/

namespace Sys2Proof.Machine

/-! ## ODS host entries (R374, R382, R414, R431) -/

/-- A host entry that has exchanged nothing. -/
def OdsHost.idle : OdsHost :=
  { kept := [], capture := none, write := none, target := 0, dbgAddr := 0, nonce := [], report := [], att := 0 }

/-- ODS host entry `h` (0 to 7). -/
def State.host (s : State) (h : Nat) : OdsHost := (s.sys.hosts.find h).getD OdsHost.idle

/-- Replace an ODS host entry. -/
def State.setHost (s : State) (h : Nat) (x : OdsHost) : State := { s with sys := { s.sys with hosts := s.sys.hosts.put h x } }

/-- R373: the bytes of a block write so far with one more piece, none when the piece leaves a gap. -/
def OdsHost.withPiece (x : OdsHost) (key off : Nat) (data : Bytes) : Option Bytes :=
  if off = 0 then some data
  else match x.write with
    | none => none
    | some (i, sub, buf) => if dictKey i sub = key ∧ buf.length = off then some (buf ++ data) else none

/-! ## Constants of the part -/

/-- A constant of the part: its bytes. -/
def partConst (n : Nat) : Bytes := tab (Config.partLen n) (Config.partByte n)

/-- SERIAL, at most 16 characters (R432). -/
def serial : Bytes := (partConst 0x103).take 16

/-! ## Firmware images (R420, R421) -/

/-- Whether every byte is zero. -/
def allZero (bs : Bytes) : Bool := bs.all (fun b => b == 0)

/-- `n` bytes of an image from offset `o`. -/
def imgPart (img : Bytes) (o n : Nat) : Bytes := (img.drop o).take n

/-- OFFSET of stage `k` (0 to 3). -/
def stageOffset (img : Bytes) (k : Nat) : Nat := fieldLE img (0x14 + 64 * k) 4

/-- LENGTH of stage `k`. -/
def stageLength (img : Bytes) (k : Nat) : Nat := fieldLE img (0x18 + 64 * k) 4

/-- DIGEST of stage `k`. -/
def stageDigest (img : Bytes) (k : Nat) : Bytes := imgPart img (0x20 + 64 * k) 48

/-- SEC_VERSION. -/
def imgSecVersion (img : Bytes) : Nat := fieldLE img 6 1

/-- R420: a stage entry: KIND order, zero bytes, an aligned place inside the image, at most the kind's length. -/
def stageOk (img : Bytes) (k : Nat) : Bool :=
  let o := stageOffset img k
  let n := stageLength img k
  fieldLE img (0x10 + 64 * k) 1 == k + 1 && allZero (imgPart img (0x11 + 64 * k) 3) && allZero (imgPart img (0x1C + 64 * k) 4) &&
  o % 4096 == 0 && decide (0x400 ≤ o) && decide (o + n ≤ fieldLE img 8 4) &&
  decide (n ≤ nth 0 [12582912, 524288, 4194304, 2097152] k)

/-- R420: two stages do not overlap. -/
def stagesApart (img : Bytes) (a b : Nat) : Bool :=
  decide (stageOffset img a + stageLength img a ≤ stageOffset img b) ||
  decide (stageOffset img b + stageLength img b ≤ stageOffset img a)

/-- R421 step 2: the header and every stage entry obey R420. -/
def headerOk (img : Bytes) : Bool :=
  decide (1024 ≤ img.length) && decide (img.length ≤ 16777216) && fieldLE img 0 4 == 0x4D494255 && fieldLE img 4 1 == 1 &&
  fieldLE img 5 1 == 4 && decide (fieldLE img 6 1 ≤ 63) && decide (fieldLE img 7 1 ≤ 3) && fieldLE img 8 4 == img.length &&
  allZero (imgPart img 0x0C 4) && allZero (imgPart img 0x171 3) && allZero (imgPart img 0x235 3) && allZero (imgPart img 0x298 360) &&
  (List.range 4).all (stageOk img) &&
  (List.range 4).all (fun a => (List.range a).all (fun b => stagesApart img a b))

/-- R421 step 3: the vendor key's hash and its signature. -/
def vendorOk (img : Bytes) : Bool :=
  sha384 (imgPart img 0x110 97) == Config.vendorHash &&
  Config.sigValid (imgPart img 0 0x174) (imgPart img 0x174 96) (imgPart img 0x110 97)

/-- R421 step 4: the owner key's hash and its signature. -/
def ownerOk (hash img : Bytes) : Bool :=
  (fieldLE img 7 1).testBit 1 && sha384 (imgPart img 0x1D4 97) == hash &&
  Config.sigValid (imgPart img 0 0x238) (imgPart img 0x238 96) (imgPart img 0x1D4 97)

/-- R421 steps 2 to 5: the failure code of an image's header, 0 when it passes. An owner key hash counts from the boot after
it was fused (R423). -/
def State.headerCode (s : State) (img : Bytes) : Nat :=
  if !headerOk img then 2
  else if !vendorOk img then 3
  else if s.bit Reg.SEC_STATE 3 && !ownerOk s.boot.ownerHash img then 4
  else if imgSecVersion img < s.boot.secFused then 5
  else 0

/-- R421 step 6: a stage's bytes have its DIGEST. -/
def stageMatches (img : Bytes) (k : Nat) : Bool := sha384 (imgPart img (stageOffset img k) (stageLength img k)) == stageDigest img k

/-- R421 steps 2 to 6 over a whole image. -/
def State.imageCode (s : State) (img : Bytes) : Nat :=
  let c := s.headerCode img
  if c = 0 then (if (List.range 4).all (stageMatches img) then 0 else 6) else c

/-! ## Updates in service (R427) -/

/-- FW_STATE (0x3201:03). -/
def State.fwState (s : State) : Nat := s.dictN 0x3201 3

/-- R427: the image is being verified or written. -/
def State.fwBusy (s : State) : Bool := s.fwState == 1 || s.fwState == 2

/-- R427: the first piece of a staging takes 8 LPDDR5X frames, unless it still holds those of an earlier one; FW_STATE returns
to 0. None when there are too few. -/
def State.stageBegin (s : State) : Option State :=
  if s.boot.staged.isNone && decide (s.freeFrames 3 < 8) then none
  else
    let s1 := if s.boot.staged.isNone then s.setFree 3 (s.freeFrames 3 - 8) else s
    some ({ s1 with boot := { s1.boot with staged := some [] } }.setDictN 0x3201 3 0)

/-- R373, R427: one piece of a block write to FW_STAGE by host entry `h`. -/
def State.stagePiece (s : State) (h off : Nat) (data : Bytes) (last : Bool) : State × Nat :=
  if s.fwBusy then (s, 5)
  else match (if off = 0 then s.stageBegin else some s) with
    | none => (s, 5)
    | some s1 =>
      let x := s1.host h
      match x.withPiece (dictKey 0x3201 1) off data with
      | none => (s1.setHost h { x with write := none }, 7)
      | some buf =>
        if 16777216 < buf.length then (s1.setHost h { x with write := none }, 3)
        else if last then
          let s2 := s1.setHost h { x with write := none }
          ({ s2 with boot := { s2.boot with staged := some buf } }, 0)
        else (s1.setHost h { x with write := some (0x3201, 1, buf) }, 0)

/-- R427: a write to FW_APPLY; 1 starts the check of the staged image. -/
def State.fwApply (s : State) (v : Nat) : State × Nat :=
  if s.fwBusy then (s, 5) else if v = 1 then (s.setDictN 0x3201 3 1, 0) else (s, 0)

/-- R427: the check of the staged image ends. While the image is written, its header area is erased: flash holds no valid image
until the header is back (R437). -/
def State.fwVerified (s : State) : State :=
  if s.fwState ≠ 1 then s
  else
    let code := s.imageCode (s.boot.staged.getD [])
    let s1 := s.setDictN 0x3201 4 code
    if code = 0 then { s1 with boot := { s1.boot with image := [] } }.setDictN 0x3201 3 2
    else (s1.bump Reg.SEC_CNT_VERIFY_FAIL).setDictN 0x3201 3 3

/-- R427: the image is in flash, its header last. -/
def State.fwWritten (s : State) : State :=
  if s.fwState ≠ 2 then s
  else
    let s1 := { s with boot := { s.boot with image := s.boot.staged.getD [] } }
    (s1.dictAddSat 0x5100 5 1 32).setDictN 0x3201 3 4

/-! ## Owner key and reset command (R417, R423) -/

/-- R423, R437: a write to OWNER_FUSE. -/
def State.ownerFuse (s : State) (hash : Bytes) : State × Nat :=
  if s.fwBusy then (s, 5)
  else if !s.boot.ownerHash.isEmpty || allZero hash || hash.length != 48 then (s, 6)
  else ({ s with boot := { s.boot with ownerHash := hash } }, 0)

/-- R417, R437, R438: a write to RESET_CMD; a warm reset follows 10 ms after the response. -/
def State.resetCmd (s : State) (v : Nat) : State × Nat :=
  if v ≠ 0x5752 then (s, 4)
  else if s.fwBusy then (s, 5)
  else ({ s with boot := { s.boot with resetAt := some s.now } }, 0)

/-! ## Calibration (R433, R434) -/

/-- R433: CAL_DIGEST. -/
def State.calDigest (s : State) : Bytes := sha384 (s.boot.cal.entries.flatMap (fun (e : Nat × Bytes) => e.2))

/-- R433, R434: an accepted write to a calibration entry (0x4010 to 0x4FFF). -/
def State.calWrite (s : State) (i sub : Nat) (data : Bytes) : State :=
  if 0x4010 ≤ i ∧ i < 0x5000 ∧ sub < 256 then
    let s1 := { s with boot := { s.boot with cal := s.boot.cal.put (dictKey i sub) data } }
    (s1.setDictN 0x4000 1 0).setDictN 0x4000 2 ((s.dictN 0x4000 2 + 1) % 2 ^ 32)
  else s

/-! ## Attestation (R431, R432) -/

/-- R431: a write to NONCE starts a report, or restarts the one being built. -/
def State.writeNonce (s : State) (h : Nat) (nonce : Bytes) : State × Nat :=
  if nonce.length ≠ 48 then (s, 6)
  else (s.setHost h { (s.host h) with nonce := nonce, att := 1 }, 0)

/-- R410: the DEVICE body. -/
def State.deviceBody (s : State) : Nat := s.capWord 1

/-- R432: the part of the report that is signed. -/
def State.reportBody (s : State) (nonce : Bytes) : Bytes :=
  let sig := s.devSig
  let flags := b2n (sig.testBit 32) + b2n (s.bit Reg.SEC_STATE 3) * 2 + b2n (s.bit Reg.SEC_STATE 4) * 4 + s.dictN 0x4000 1 * 8
  natLE 4 0x41545352 ++ natLE 1 1 ++ natLE 1 flags ++ [0, 0] ++ natLE 8 s.deviceBody ++ padTo 16 serial ++
  natLE 4 (s.dictN 0x3200 3) ++ natLE 1 (s.fld Reg.SEC_STATE 16 8) ++ natLE 1 s.boot.secFused ++ natLE 1 (s.dictN 0x3200 1) ++
  [0] ++ natLE 12 s.now96 ++ natLE 4 (sig % 2 ^ 32) ++ padTo 48 nonce ++ padTo 240 s.boot.digests ++ s.calDigest ++
  padTo 48 s.boot.ownerHash ++ sha384 (Config.attPublic s.boot.digests) ++ List.replicate 8 0

/-- R431, R432: the report of host entry `h` is captured and signed. -/
def State.reportReady (s : State) (h : Nat) : State :=
  let x := s.host h
  if x.att ≠ 1 then s
  else
    let body := s.reportBody x.nonce
    let t := s.setHost h { x with report := body ++ padTo 96 (Config.attSign s.boot.digests body), att := 2 }
    t.setReg Reg.SEC_CNT_ATTEST (s.reg Reg.SEC_CNT_ATTEST + 1)

/-! ## The lifetime log (R435, R436) -/

/-- The entries of the lifetime log (0x5100 to 0x51FF). -/
def State.lifetime (s : State) : List (Nat × Nat) := s.dict.filter (fun e => e.1 / 65536 == 0x51)

/-- R435: the bin of a temperature in 1/16 °C. -/
def tempBin (t : Int) : Nat := if t < -480 then 0 else if 1760 ≤ t then 15 else 1 + ((t + 480) / 160).toNat

/-- R435: the bin of an input voltage in mV. -/
def voltBin (mv : Nat) : Nat := if mv < 20000 then 0 else if 62000 ≤ mv then 15 else 1 + (mv - 20000) / 3000

/-- R513: the measured input voltage. -/
def State.measureVin (s : State) (mv : Nat) : State :=
  let low := s.dictN 0x2E10 2
  (s.setDictN 0x2E10 1 mv).setDictN 0x2E10 2 (if low = 0 then mv else Nat.min low mv)

/-- R435: one powered second: the bins of the hottest sensor and of the input voltage. -/
def State.lifetimeSecond (s : State) (mv : Nat) : State :=
  let temps := (List.range 64).map (fun k => signed 16 (s.fld (Reg.BRM_THERM k) 0 16))
  let s1 := (s.measureVin mv).dictAddSat 0x5110 (tempBin (hottest temps (List.range 64)) + 1) 1 32
  (s1.dictAddSat 0x5111 (voltBin mv + 1) 1 32).dictAddSat 0x5100 1 1 64

/-- Sequence number of a copy of the log, 0 when it is not valid. -/
def logSeq (c : Option (Nat × List (Nat × Nat))) : Nat :=
  match c with
  | none => 0
  | some x => x.1

/-- R436: the log is written to one of its copies every 600 powered seconds, alternately; a copy that fails to write is lost and
the other stands. -/
def State.logWrite (s : State) (ok : Bool) : State :=
  if s.dictN 0x5100 1 < s.dictN 0x5150 2 + 600 then s
  else
    let a := logSeq s.boot.logA
    let b := logSeq s.boot.logB
    let s1 := if ok then (s.setDictN 0x5150 1 0).setDictN 0x5150 2 (s.dictN 0x5100 1) else s.setDictN 0x5150 1 1
    let copy := if ok then some (Nat.max a b + 1, s1.lifetime) else none
    { s1 with boot := if a ≤ b then { s1.boot with logA := copy } else { s1.boot with logB := copy } }

end Sys2Proof.Machine
end

