-- ==== Sys2Proof/Machine/Ods.lean ====
section
/-! DEFINITION. The object dictionary (R379 to R388, R396, R414) and its transport ODS (R372 to R374): what an entry holds and
where, what a read answers, the checks and the effect of a write, the stored set, and one request after another. Abort codes
are those of R387. -/

namespace Sys2Proof.Machine

/-! ## Entries -/

/-- The description of an entry: a row of the dictionary, subindex 0 of an implemented index (R379), or a calibration entry
that the set holds (R433; its type is the model's choice, log entry 75). -/
def State.entryDef (s : State) (i sub : Nat) : Option DictDef :=
  match dictDef i sub with
  | some d => some d
  | none =>
    if sub = 0 then (dictTop i).map (fun t => ⟨i, 1, 0, 1, 1, 2, 0, t, false, none⟩)
    else if 0x4010 ≤ i ∧ i < 0x5000 then (s.boot.cal.find (dictKey i sub)).map (fun _ => ⟨i, 1, sub, 1, 1, 14, 3, 0, true, none⟩)
    else none

/-- Register and field that hold an entry's value, when a register does (R462, R490). -/
def entryField (i sub : Nat) : Option (Nat × Nat × Nat) :=
  if i = 0x2E00 then
    nth none [none, some (Reg.BRM_CAP, 0, 12), some (Reg.BRM_CAP, 12, 1), some (Reg.BRM_OPPT, 0, 3), some (Reg.BRM_OPPT, 4, 3),
      some (Reg.BRM_OPPT, 8, 3), some (Reg.BRM_DROOP, 0, 8), some (Reg.BRM_PLL_AUD, 0, 1)] sub
  else if i = 0x3000 then
    nth none [none, some (Reg.CUF_CFG, 0, 7), some (Reg.CUF_CFG, 16, 16), some (Reg.CUF_CFG, 8, 7), none, none,
      some (Reg.CUF_STATE, 0, 2)] sub
  else none

/-- The value of a fixed-size entry for host entry `h` (R381); a register's field shows its shadow (R394). DBG_DATA, whose
read is a register access, has its own operation. -/
def State.entryNum (s : State) (h i sub : Nat) : Nat :=
  match entryField i sub with
  | some (a, lo, w) => bits (s.shown a).toNat lo w
  | none =>
    if sub = 0 then (dictTop i).getD 0
    else if i = 0x1000 ∧ sub = 4 then s.devSig % 2 ^ 32
    else if i = 0x0300 ∧ sub = 1 then (s.host h).target
    else if i = 0xF000 ∧ sub = 1 then (s.host h).dbgAddr
    else if i = 0x3210 ∧ sub = 3 then (s.host h).att
    else s.dictN i sub

/-- R411: header and body of the capability entry `n` (from 1) as little-endian registers. -/
def State.capEntryBytes (s : State) (n : Nat) : Bytes :=
  if n = 1 then natLE 8 (s.capWord 0) ++ natLE 8 (s.capWord 1)
  else (List.range 3).flatMap (fun j => natLE 8 (s.capWord (2 + 3 * (n - 2) + j)))

/-- R382: a value of a type widened to 8 bytes. -/
def widened (t v : Nat) : Nat := if 6 ≤ t ∧ t ≤ 9 then codeOf 64 (signed (8 * typeSize t) v) else v

/-- R382: the description record of an entry. -/
def State.description (s : State) (key : Nat) : Bytes :=
  match s.entryDef (key / 256 % 65536) (key % 256) with
  | none => [0, 255] ++ List.replicate 30 0
  | some d =>
    let dflt := if typeVariable d.type then 0 else if key % 256 = 0 then d.default else widened d.type (dictReset (key % 2 ^ 24))
    natLE 1 d.type ++ natLE 1 d.access ++ natLE 1 (b2n d.persist + b2n d.range.isSome * 2) ++ [0] ++ natLE 4 (typeSize d.type) ++
    natLE 8 dflt ++ (match d.range with
      | none => List.replicate 16 0
      | some (lo, hi) => natLE 8 lo ++ natLE 8 hi)

/-- The value of a variable-size entry for host entry `h`. -/
def State.entryBytes (s : State) (h i sub : Nat) : Bytes :=
  if i = 0x0100 then
    (if sub = 1 then asciiBytes "Rodiotte Microsystems" else if sub = 2 then asciiBytes "Ubast Melulo"
     else if sub = 3 then asciiBytes (if Config.gradeX then "UBM-880-X" else "UBM-880-C") else serial)
  else if i = 0x0110 ∧ sub ≤ 3 then partConst (0x110 + sub)
  else if i = 0x0200 then s.capEntryBytes sub
  else if i = 0x0300 then s.description (s.host h).target
  else if i = 0x3201 then s.boot.staged.getD []
  else if i = 0x3202 ∧ sub = 1 then padTo 48 s.boot.ownerHash
  else if i = 0x3210 then (if sub = 1 then (s.host h).nonce else (s.host h).report)
  else if i = 0x4000 then s.calDigest
  else if 0x4010 ≤ i ∧ i < 0x5000 then (s.boot.cal.find (dictKey i sub)).getD []
  else s.octetsOf i sub

/-- The value a READ_BLOCK captures: REPORT is refused until it is ready (R431); ERR_POP takes the oldest record (R491). -/
def State.captureValue (s : State) (h i sub : Nat) : State × Nat × Bytes :=
  if i = 0x3210 ∧ sub = 2 ∧ (s.host h).att ≠ 2 then (s, 5, [])
  else if i = 0x3001 then
    let t := s.errPop (sub - 1)
    (t, 0, t.octetsOf i sub)
  else (s, 0, s.entryBytes h i sub)

/-! ## Debug access (R414) -/

/-- R414: a read of DBG_DATA: one register read at DBG_ADDR; none on a bus error. -/
def State.debugRead (s : State) (h : Nat) : State × Option Nat := s.softRead .odsDebug (s.host h).dbgAddr 8

/-- R414: a write of DBG_DATA: one register write at DBG_ADDR, HW_ERROR on a bus error. -/
def State.debugWrite (s : State) (h v : Nat) : State × Nat :=
  let t := s.softWrite .odsDebug (s.host h).dbgAddr 8 v
  (t, if t.reg Reg.CFG_CNT_BUS_ERR = s.reg Reg.CFG_CNT_BUS_ERR then 0 else 8)

/-! ## Writes: checks and effects (R385, R396) -/

/-- R385 step 4: a value in its entry's range. -/
def DictDef.accepts (d : DictDef) (v : Nat) : Bool :=
  !(d.type == 1 && decide (1 < v)) && (match d.range with
    | none => true
    | some (lo, hi) =>
      if 6 ≤ d.type ∧ d.type ≤ 9 then
        let x := signed (8 * typeSize d.type) v
        decide (signed 64 lo ≤ x) && decide (x ≤ signed 64 hi)
      else decide (lo ≤ v) && decide (v ≤ hi))

/-- R396: the block whose CFG_STATUS records a refused write of an RWQ entry. -/
def entryBlock (i : Nat) : Nat :=
  if i < 0x1C00 then 0x6F else if i < 0x1E00 then 0x67 else if i < 0x2000 then 0x70 else if i < 0x2E00 then 0x71
  else if i < 0x3000 then 0x72 else if i < 0x3200 then 0x73 else if i < 0x4000 then 0x74 else 0x6F

/-- R377: a roster entry that a TX_MAP value names is quiescent. -/
def State.mapQuiet (s : State) (e : Nat) : Bool := !(e.testBit 63) || s.roster (bits e 0 10) 1 == 0

/-- R274, R377, R440, R490: whether the block, or the part of it that a RWQ entry belongs to, is quiescent for a write of `v`.
PORT_ENABLE, SEG_ENABLE and GPTP_ENABLE, which make their parts quiescent, are written at any time, and so are entries
without a condition of their own (DEDUCED, log entry 76). -/
def State.entryQuiet (s : State) (i sub v : Nat) : Bool :=
  if 0x1A00 ≤ i ∧ i < 0x1A06 then sub == 1 || s.dictN i 1 == 0
  else if i = 0x1C00 then sub % 16 == 1 || s.dictN i (sub / 16 * 16 + 1) == 0
  else if 0x1E00 ≤ i ∧ i < 0x1E04 then sub == 1 || s.dictN i 1 == 0
  else if i = 0x2E00 then s.rwqQuiet Reg.BRM_PLL_AUD 0 0
  else if i = 0x3000 then s.cuffQuiet
  else if 0x8000 ≤ i ∧ i < 0x8400 then s.roster (i - 0x8000) 1 == 0
  else if 0x8400 ≤ i ∧ i < 0x8800 then s.roster (i - 0x8400) 1 == 0
  else if 0x8800 ≤ i ∧ i < 0x8C00 then s.mapQuiet (s.dictN i 1) && s.mapQuiet v
  else true

/-- A write to an entry whose value a register's field holds: the register takes it as R393 to R395 state. A value too large for
one of the numbers, whose writes clamp, is the field's largest. -/
def State.putField (s : State) (a lo w v : Nat) : State × Nat :=
  let new := putBits (s.shown a).toNat lo w (if 7 ≤ w ∧ 2 ^ w ≤ v then 2 ^ w - 1 else v)
  if a = Reg.CUF_CFG ∧ s.cufCfgBad new then (s.orReg Reg.CUF_FLAGS 16, 6) else (s.storeReg a new, 0)

/-- SEG_ENABLE: NET_STATE and T1S_STATE show the segment; what it held is discarded when it goes down. -/
def State.enableSeg (s : State) (k v : Nat) : State :=
  let s1 := ((s.setDictN (0x1E00 + k) 1 v).setFld Reg.NET_STATE (16 + k) 1 v).setRegN (Reg.T1S_STATE k) v
  if v = 0 then s1.setSeg k Seg.idle else s1

/-- R388: every persistent entry's value that may differ from its default. -/
def State.captureSet (s : State) : List (Nat × Bytes) :=
  let persists (d : Option DictDef) : Bool := match d with
    | none => false
    | some d => d.persist
  let nums := s.dict.filterMap (fun e => match dictDef (e.1 / 256) (e.1 % 256) with
    | none => none
    | some d => if d.persist then some (e.1, natLE (typeSize d.type) e.2) else none)
  let octs := s.octets.filter (fun e => persists (dictDef (e.1 / 256) (e.1 % 256)))
  let flds := ([(0x2E00, 1), (0x2E00, 2), (0x2E00, 3), (0x2E00, 4), (0x2E00, 5), (0x2E00, 6), (0x2E00, 7), (0x3000, 1), (0x3000, 2),
    (0x3000, 3)] : List (Nat × Nat)).map (fun e => (dictKey e.1 e.2, natLE (match dictDef e.1 e.2 with
      | none => 0
      | some d => typeSize d.type) (s.entryNum 0 e.1 e.2)))
  nums ++ octs ++ flds

/-- R388: a write to STORE_CMD: 1 captures every persistent entry, 2 erases the stored set. -/
def State.storeCmd (s : State) (v : Nat) : State × Nat :=
  if v ≠ 1 ∧ v ≠ 2 then (s, 6)
  else if s.sys.storing.isSome then (s, 5)
  else
    let what := if v = 1 then some s.captureSet else none
    ({ s with sys := { s.sys with storing := some what } }.setDictN 0x1000 2 1, 0)

/-- R374, R377: a write to an ODS_HOST entry drops that host entry's kept responses. -/
def State.putHost (s : State) (sub v : Nat) : State :=
  (s.setHost (sub - 1) { (s.host (sub - 1)) with kept := [] }).setDictN 0x1A41 sub v

/-- The effect of an accepted write of a fixed-size entry by host entry `h`, with R385 step 6. -/
def State.putNum (s : State) (h i sub v : Nat) : State × Nat :=
  match entryField i sub with
  | some (a, lo, w) => s.putField a lo w v
  | none =>
    if i = 0x1000 ∧ sub = 1 then s.storeCmd v
    else if i = 0x1000 ∧ sub = 3 then (if v = 1 then each allBlocks (fun t k => t.commitBlock k) s else s, 0)
    else if i = 0x0300 then (s.setHost h { (s.host h) with target := v }, 0)
    else if i = 0xF000 ∧ sub = 1 then (s.setHost h { (s.host h) with dbgAddr := v }, 0)
    else if i = 0xF000 then s.debugWrite h v
    else if i = 0x3000 ∧ sub = 4 then (if v = 1 then s.capture 1 s.now else s, 0)
    else if i = 0x3000 then
      (if v = 0x524C then
        let r := s.releasePairs 3
        (r.1, if r.2 then 0 else 6)
       else (s, 6))
    else if i = 0x3200 then s.resetCmd v
    else if i = 0x3201 then s.fwApply v
    else if i = 0x1A41 then (s.putHost sub v, 0)
    else if 0x1E00 ≤ i ∧ i < 0x1E04 ∧ sub = 1 then (s.enableSeg (i - 0x1E00) v, 0)
    else if 0x1E00 ≤ i ∧ i < 0x1E04 ∧ sub = 8 then (s.writeNoiseLimit (i - 0x1E00) v, 0)
    else if 0x8000 ≤ i ∧ i < 0x8400 ∧ sub = 1 then
      let r := s.writeNodeEnable (i - 0x8000) (v == 1)
      (r.1, if r.2 then 6 else 0)
    else (s.setDictN i sub v, 0)

/-- The effect of an accepted write of a variable-size entry by host entry `h`. -/
def State.putBytes (s : State) (h i sub : Nat) (bs : Bytes) : State × Nat :=
  if i = 0x3202 then
    let r := s.ownerFuse bs
    (if r.2 = 0 then r.1.setOctets i sub bs else r.1, r.2)
  else if i = 0x3210 then s.writeNonce h bs
  else if 0x4010 ≤ i ∧ i < 0x5000 then (s.calWrite i sub bs, 0)
  else (s.setOctets i sub bs, 0)

/-- R385 steps 4 to 6 for a fixed-size entry. -/
def State.writeNum (s : State) (h : Nat) (d : DictDef) (i sub v : Nat) : State × Nat :=
  if !d.accepts v then (s, 4)
  else if d.access == 4 && !s.entryQuiet i sub v then (s.cfgReject (entryBlock i), 5)
  else s.putNum h i sub v

/-- R386: a write to an unimplemented entry. -/
def State.ignoreWrite (s : State) (i sub : Nat) : State :=
  (s.setDictN 0x5000 1 ((s.dictN 0x5000 1 + 1) % 2 ^ 64)).setDictN 0x5000 2 (i + sub * 65536)

/-! ## Block transfers (R373, R384) -/

/-- The result of an operation: the state, the abort code, the data of the response and its LAST flag. -/
structure OdsResult where
  st : State
  abort : Nat
  data : Bytes
  last : Bool

/-- One second in ns. -/
def second : Nat := 1000000000

/-- The pieces of a captured value: `n` bytes wanted from `off` (0 asks for up to 1,400). -/
def State.servePiece (s : State) (h key : Nat) (v : Bytes) (off n : Nat) : OdsResult :=
  let len := if n = 0 then 1400 else Nat.min n 1400
  let piece := imgPart v off len
  let next := off + piece.length
  let last := decide (v.length ≤ next)
  let x := s.host h
  ⟨s.setHost h { x with capture := if last then none else some (key, v, next, s.now) }, 0, piece, last⟩

/-- R373, R384, R385: a READ_BLOCK that no live capture serves: nothing at the end of an entry, LENGTH past it, BLOCK_SEQUENCE for a
piece within it. -/
def State.uncaptured (s : State) (size off : Nat) : OdsResult :=
  if size < off then ⟨s, 3, [], false⟩ else if off = size then ⟨s, 0, [], true⟩ else ⟨s, 7, [], false⟩

/-- R384, R385: READ_BLOCK of a variable-size entry. At an OFFSET equal to the entry's size there is no piece to serve, and R373's
answer stands whether or not a capture is live (DEDUCED, log entry 90). -/
def State.readOdsBlock (s : State) (h i sub off n : Nat) : OdsResult :=
  let key := dictKey i sub
  if off = 0 then
    let r := s.captureValue h i sub
    if r.2.1 = 0 then r.1.servePiece h key r.2.2 0 n else ⟨r.1, r.2.1, [], false⟩
  else match (s.host h).capture with
    | some (k, v, next, t) =>
      if k = key ∧ s.now < t + second then
        (if off = next then s.servePiece h key v off n
         else if off = v.length then (s.setHost h { (s.host h) with capture := none }).uncaptured v.length off
         else s.uncaptured v.length off)
      else s.uncaptured (s.entryBytes h i sub).length off
    | none => s.uncaptured (s.entryBytes h i sub).length off

/-- R373: WRITE_BLOCK: one piece; the entry takes its value with the last. -/
def State.writeBlock (s : State) (h : Nat) (d : DictDef) (i sub off : Nat) (data : Bytes) (last : Bool) : State × Nat :=
  if i = 0x3201 then s.stagePiece h off data last
  else
    let x := s.host h
    match x.withPiece (dictKey i sub) off data with
    | none => (s.setHost h { x with write := none }, 7)
    | some buf =>
      if typeSize d.type < buf.length then (s.setHost h { x with write := none }, 3)
      else if !last then (s.setHost h { x with write := some (i, sub, buf) }, 0)
      else if d.access == 4 && !s.entryQuiet i sub 0 then
        ((s.setHost h { x with write := none }).cfgReject (entryBlock i), 5)
      else (s.setHost h { x with write := none }).putBytes h i sub buf

/-! ## Requests (R372 to R374) -/

/-- A request's header fields (R373). -/
structure OdsReq where
  op : Nat
  seq : Nat
  index : Nat
  sub : Nat
  flags : Nat
  off : Nat
  len : Nat
  data : Bytes
  bad : Bool
  deriving DecidableEq, Repr

/-- R373, R387: a request as its datagram spells it. A response, an ABORT that is not zero, and a write with fewer data bytes
than LENGTH are bad headers too (DEDUCED, log entry 77). -/
def odsReq (g : Bytes) : OdsReq :=
  let op := fieldLE g 3 1
  let flags := fieldLE g 0x0B 1
  let len := fieldLE g 0x10 4
  let bad := fieldLE g 0 2 != 0x4F44 || fieldLE g 2 1 != 1 || decide (op < 1) || decide (4 < op) || flags % 2 != 0 ||
    decide (3 < flags) || decide (1400 < len) || fieldLE g 0x14 2 != 0 || fieldLE g 0x16 2 != 0 ||
    (decide (op % 2 = 0) && decide (g.length < 24 + len))
  ⟨op, fieldLE g 4 4, fieldLE g 8 2, fieldLE g 0x0A 1, flags, fieldLE g 0x0C 4, len, imgPart g 24 len, bad⟩

/-- R373: the response datagram. -/
def OdsReq.response (q : OdsReq) (abort : Nat) (data : Bytes) (last : Bool) : Bytes :=
  natLE 2 0x4F44 ++ natLE 1 1 ++ natLE 1 q.op ++ natLE 4 q.seq ++ natLE 2 q.index ++ natLE 1 q.sub ++ natLE 1 (1 + 2 * b2n last) ++
  natLE 4 q.off ++ natLE 4 data.length ++ natLE 2 abort ++ [0, 0] ++ data

/-- R385: a READ of an implemented entry. -/
def State.readEntry (s : State) (h : Nat) (d : DictDef) (i sub : Nat) : OdsResult :=
  if typeVariable d.type then ⟨s, 3, [], false⟩
  else if i = 0xF000 ∧ sub = 2 then
    match s.debugRead h with
    | (t, none) => ⟨t, 8, [], false⟩
    | (t, some v) => ⟨t, 0, natLE 8 v, false⟩
  else ⟨s, 0, natLE (typeSize d.type) (s.entryNum h i sub), false⟩

/-- R385, R386, R414: a request of host entry `h` is executed. -/
def State.execute (s : State) (h : Nat) (q : OdsReq) : OdsResult :=
  if q.bad then ⟨s, 1, [], false⟩
  else if 0xF000 ≤ q.index ∧ s.dictN 0x1000 5 = 0 then ⟨s, 9, [], false⟩
  else match s.entryDef q.index q.sub with
    | none =>
      if q.op = 1 then ⟨s, 0, List.replicate 8 0, false⟩
      else if q.op = 3 then ⟨s, 0, [], true⟩
      else ⟨s.ignoreWrite q.index q.sub, 0, [], false⟩
    | some d =>
      if q.op = 1 then s.readEntry h d q.index q.sub
      else if q.op = 3 then
        (if typeVariable d.type then s.readOdsBlock h q.index q.sub q.off q.len else ⟨s, 3, [], false⟩)
      else if d.access < 2 then ⟨s, 2, [], false⟩
      else if q.op = 2 then
        (if typeVariable d.type || q.len != typeSize d.type then ⟨s, 3, [], false⟩
         else
          let r := s.writeNum h d q.index q.sub (leNat q.data)
          ⟨r.1, r.2, [], false⟩)
      else if typeVariable d.type then
        let r := s.writeBlock h d q.index q.sub q.off q.data (q.flags.testBit 1)
        ⟨r.1, r.2, [], false⟩
      else ⟨s, 3, [], false⟩

/-- R372: the enabled host entry of an address that grants the access. -/
def State.hostOf (s : State) (src : Nat) (write : Bool) : Option Nat :=
  firstIdx 8 (fun h =>
    let v := s.dictN 0x1A41 (h + 1)
    bits v 0 32 == src && v.testBit 32 && (!write || v.testBit 33))

/-- R374: the responses that are still kept. -/
def State.keptOf (s : State) (h : Nat) : List (Nat × Nat × Bytes) :=
  (s.host h).kept.filter (fun k => decide (s.now < k.2.1 + 5 * second))

/-- R374: whether `a` lies below `b` as a signed 32-bit difference. -/
def seqBelow (a b : Nat) : Bool := decide (signed 32 ((a + 2 ^ 32 - b % 2 ^ 32) % 2 ^ 32) < 0)

/-- A response leaves through port `p`. -/
def State.odsSend (s : State) (p : Nat) (dgram : Bytes) : State :=
  ({ s with sys := { s.sys with reply := dgram } }).bump (Reg.NET_CNT_TX p)

/-- R374: a request that is served: its response is kept with at most 15 earlier ones. -/
def State.serveFresh (s : State) (p h : Nat) (q : OdsReq) : State :=
  let r := s.execute h q
  let dgram := q.response r.abort r.data r.last
  let t := r.st.aborted r.abort
  let kept := t.keptOf h ++ [(q.seq, t.now, dgram)]
  (t.setHost h { (t.host h) with kept := kept.drop (kept.length - 16) }).odsSend p dgram

/-- R374: a request of host entry `h`: a repeated one gets its kept response, one below the lowest kept is dropped. -/
def State.odsRequest (s : State) (p h : Nat) (q : OdsReq) : State :=
  let kept := s.keptOf h
  match kept.find? (fun k => k.1 == q.seq) with
  | some k => (s.bump Reg.NET_CNT_ODS_DUP).odsSend p k.2.2
  | none =>
    if !kept.isEmpty && kept.all (fun k => seqBelow q.seq k.1) then s.bump Reg.NET_CNT_ODS_OLD
    else s.serveFresh p h q

/-- R372, R373: an ODS datagram arrives at port `p` (6 is the Crown's own); a command of the table serves its own OP, and every
datagram whose OP is none of them is a bad header for each. -/
def State.odsArrive (s : State) (op p src : Nat) (g : Bytes) : State :=
  let q := odsReq g
  if decide (1 ≤ q.op) && decide (q.op ≤ 4) && q.op != op && decide (24 ≤ g.length) then s
  else if decide (p < 6) && !s.portUp p then s
  else
    let s1 := s.bump (Reg.NET_CNT_RX p)
    if g.length < 24 then s1
    else if p < 6 ∧ s.dictN (0x1A00 + p) 5 = 0 then s1
    else
      let s2 := s1.bump Reg.NET_CNT_ODS_REQ
      match s2.hostOf src (q.op == 2 || q.op == 4) with
      | none => s2.bump Reg.NET_CNT_ODS_DENY
      | some h => s2.odsRequest p h q

/-! ## The commands -/

/-- ODS_READ (R384). -/
def execOdsRead (port : Fin 7) (src : Nat) (dgram : Bytes) (s : State) : Host.Outcome State Fault Refusal :=
  doneT s (s.serve (fun u => u.odsArrive 1 port.val src dgram))

/-- ODS_WRITE (R385). -/
def execOdsWrite (port : Fin 7) (src : Nat) (dgram : Bytes) (s : State) : Host.Outcome State Fault Refusal :=
  doneT s (s.serve (fun u => u.odsArrive 2 port.val src dgram))

/-- ODS_READ_BLOCK (R384). -/
def execOdsReadBlock (port : Fin 7) (src : Nat) (dgram : Bytes) (s : State) : Host.Outcome State Fault Refusal :=
  doneT s (s.serve (fun u => u.odsArrive 3 port.val src dgram))

/-- ODS_WRITE_BLOCK (R373). -/
def execOdsWriteBlock (port : Fin 7) (src : Nat) (dgram : Bytes) (s : State) : Host.Outcome State Fault Refusal :=
  doneT s (s.serve (fun u => u.odsArrive 4 port.val src dgram))

/-- R384: a capture is released 1 s after the last piece served. -/
def State.captureRelease (s : State) (h : Nat) : State :=
  match (s.host h).capture with
  | some (_, _, _, t) => if s.now < t + second then s else s.setHost h { (s.host h) with capture := none }
  | none => s

/-- ODS_CAPTURE_RELEASE (R384). -/
def execOdsCaptureRelease (host : Fin 8) (s : State) : Host.Outcome State Fault Refusal :=
  done s (s.serve (fun u => u.captureRelease host.val))

/-- ODS_RESPONSE_EXPIRY (R374). -/
def execOdsResponseExpiry (host : Fin 8) (s : State) : Host.Outcome State Fault Refusal :=
  done s (s.serve (fun u => u.setHost host.val { (u.host host.val) with kept := u.keptOf host.val }))

/-- STORE (R388). -/
def execStore (s : State) : Host.Outcome State Fault Refusal :=
  done s (s.serve (fun u => let r := u.storeCmd 1; r.1.aborted r.2))

/-- STORE_ERASE (R388). -/
def execStoreErase (s : State) : Host.Outcome State Fault Refusal :=
  done s (s.serve (fun u => let r := u.storeCmd 2; r.1.aborted r.2))

/-- R388: the store or erase in progress ends; a failed one leaves the previous set in force. -/
def State.storeDone (s : State) (ok : Bool) : State :=
  match s.sys.storing with
  | none => s
  | some what =>
    let next : Sys := { s.sys with storing := none, stored := if ok then what else s.sys.stored }
    { s with sys := next }.setDictN 0x1000 2 (if ok then 0 else 3)

/-- STORE_DONE (R388). -/
def execStoreDone (ok : Bool) (s : State) : Host.Outcome State Fault Refusal := done s (s.serve (fun u => u.storeDone ok))

/-- DBG_DATA_READ (R414). -/
def execDbgDataRead (host : Fin 8) (s : State) : Host.Outcome State Fault Refusal :=
  done s (s.serve (fun u =>
    if u.dictN 0x1000 5 = 0 then u.aborted 9
    else match u.debugRead host.val with
      | (t, none) => t.aborted 8
      | (t, some v) => { t with readVal := BitVec.ofNat 64 v }))

/-- DBG_DATA_WRITE (R414). -/
def execDbgDataWrite (host : Fin 8) (value : BitVec 64) (s : State) : Host.Outcome State Fault Refusal :=
  doneT s (s.serve (fun u =>
    if u.dictN 0x1000 5 = 0 then u.aborted 9
    else
      let r := u.debugWrite host.val value.toNat
      r.1.aborted r.2))

/-! ## Loading the stored set (R388) -/

/-- R388: one stored value is loaded: an entry that is not implemented or not persistent is dropped, a value outside the range
leaves the default. -/
def State.loadEntry (s : State) (key : Nat) (bs : Bytes) : State :=
  let i := key / 256
  let sub := key % 256
  match dictDef i sub with
  | none => s
  | some d =>
    if !d.persist then s
    else if typeVariable d.type then s.setOctets i sub bs
    else if !d.accepts (leNat bs) then s
    else match entryField i sub with
      | some (a, lo, w) => ((s.putField a lo w (leNat bs)).1).applyShadow a
      | none =>
        if 0x8000 ≤ i ∧ i < 0x8400 ∧ sub = 1 then s
        else if 0x1E00 ≤ i ∧ i < 0x1E04 ∧ sub = 1 then s.enableSeg (i - 0x1E00) (leNat bs)
        else s.setDictN i sub (leNat bs)

/-- R388: the stored set is loaded; roster entries are enabled after everything they rest on. -/
def State.loadStored (s : State) (set : List (Nat × Bytes)) : State :=
  let s1 := each set (fun t e => t.loadEntry e.1 e.2) s
  each set (fun t e =>
    if 0x800000 ≤ e.1 ∧ e.1 < 0x840000 ∧ e.1 % 256 = 1 ∧ leNat e.2 = 1 then (t.writeNodeEnable (e.1 / 256 - 0x8000) true).1 else t) s1

end Sys2Proof.Machine
end

