-- ==== Sys2Proof/Machine/Boot.lean ====
section
/-! DEFINITION. Resets, the boot sequence, recovery and the commands of updates, identity and the lifetime log
(16_boot_and_identity.md). -/

namespace Sys2Proof.Machine

/-! ## Resets (R175, R264, R415 to R418) -/

/-- R175: whether page `n` is homed in flash. -/
def Umr.inFlash (u : Umr) (n : Nat) : Bool :=
  match u.pages.find n with
  | none => false
  | some p => p.home == 2

/-- R175: a flash-homed page after a restart: mapped, with no command in progress. -/
def Page.restarted (p : Page) : Page :=
  { p with st := 1, upper := 0, resident := 0, dirty := 0, inflight := 0, holds := 0, age := 0, moveTo := 0, dest := 0, copied := 0 }

/-- R175: the last written-back content of the flash-homed pages. -/
def Umr.flashContent (u : Umr) : Memory := u.home.filter (fun e => decide (umBase ≤ e.1) && u.inFlash (pageOf e.1))

/-- R190: the translation layer after a restart: what was copied for a page that is not homed in flash is nowhere. -/
def Umr.keptFlash (u : Umr) : Flash :=
  { u.flash with blocks := u.flash.blocks.map (fun e =>
      (e.1, { e.2 with tiles := e.2.tiles.filter (fun t => u.inFlash (t / 32)) })) }

/-- R175, R188: the unified range unit after a power-on or warm reset: flash-homed pages, retired frames and the flash's wear. -/
def Umr.restarted (u : Umr) : Umr :=
  { Umr.reset with
    pages := (u.pages.filter (fun e => u.inFlash e.1)).map (fun e => (e.1, e.2.map Page.restarted)),
    home := u.flashContent, retired := u.retired, flashBytes := u.flashBytes,
    flash := u.keptFlash }

/-- Listed retired frames of a pool. -/
def Umr.retiredIn (u : Umr) (pool : Nat) : Nat := (u.retired.filter (fun c => c == pool)).length

/-- R188, R191: what the unified range's registers show of flash and retired frames after a reset. -/
def State.showFlash (s : State) (old : State) : State :=
  let u := s.umr
  let s1 := (s.setFree 1 (s.freeFrames 1 - u.retiredIn 1)).setFree 2 (s.freeFrames 2 - u.retiredIn 2)
  let s2 := (s1.setFree 3 (s1.freeFrames 3 - u.retiredIn 3)).setFree 4 (s1.freeFrames 4 - u.pages.entries.length)
  let s3 := (s2.setReg Reg.UMR_FLASH_STATE (old.reg Reg.UMR_FLASH_STATE)).setFld Reg.UMR_FLASH_STATE 1 1 0
  s3.setRegN Reg.UMR_RETIRED (u.retiredIn 1 + u.retiredIn 2 + u.retiredIn 3 * 2 ^ 16 + old.fld Reg.UMR_RETIRED 32 32 * 2 ^ 32)

/-- R415, R465: registers that a warm reset keeps: the time-base block's and CUF_HW_CAUSE. -/
def warmKeeps (a : Nat) : Bool := blockOf a == 0x67 || a == Reg.CUF_HW_CAUSE

/-- R264, R415, R465: the time bases with their block, and the kept registers, of another state. -/
def State.withTimeOf (t s : State) : State :=
  { t with
    time := s.time, regs := s.regs.filter (fun e => warmKeeps e.1), shadow := s.shadow.filter (fun e => warmKeeps e.1),
    timePast := s.timePast, edges := s.edges, outNext := s.outNext, pulse := s.pulse, cmpArmed := s.cmpArmed }

/-- R436: the entries of the newest valid copy of the lifetime log. -/
def Boot.newestLog (b : Boot) : List (Nat × Nat) :=
  match (if logSeq b.logA < logSeq b.logB then b.logB else b.logA) with
  | none => []
  | some x => x.2

/-- R415, R416, R433 to R436: the numeric dictionary entries that a reset keeps: the lifetime log, of which a power-on reset loads
the newest copy, the boot count, the calibration set's counts, and on a warm reset PCIE_MODE and what counts from power-on
(R463, R513). -/
def State.keptDict (s : State) (warm : Bool) : SMap Nat :=
  let kept := s.dict.filter (fun e => e.1 == dictKey 0x3200 3 || e.1 == dictKey 0x4000 1 || e.1 == dictKey 0x4000 2 ||
    (warm && (e.1 / 65536 == 0x51 || e.1 == dictKey 0x2000 1 || e.1 == dictKey 0x2E00 9 || e.1 == dictKey 0x2E10 2 ||
      e.1 == dictKey 0x2E10 3)))
  if warm then kept else each s.boot.newestLog (fun m e => SMap.set dictReset m e.1 e.2) kept

/-- R415, R416: PCIE_INBOUND keeps its running value through a warm reset. -/
def State.keptOctets (s : State) (warm : Bool) : SMap Bytes :=
  if warm then s.octets.filter (fun e => e.1 == dictKey 0x2001 1) else []

/-- What a reset keeps of boot and identity: fuses, image, calibration set and lifetime log. -/
def Boot.restarted (b : Boot) (cause : Nat) : Boot :=
  { Boot.reset with
    held := b.held, inReset := true, cause := cause, image := b.image, secFused := b.secFused, ownerHash := b.ownerHash,
    hwPending := b.hwPending, logA := b.logA, logB := b.logB, cal := b.cal }

/-- What a reset keeps of the safety island: the SAFE_IN levels, which stand outside it, and on a warm reset the record number
(R472: from power-on). -/
def Cuff.restarted (c : Cuff) (warm : Bool) : Cuff :=
  { Cuff.reset with
    inA := c.inA, inB := c.inB, seq := if warm then c.seq else 0 }

/-- What a reset leaves of `s`, but for the registers that show it. -/
def State.resetBase (s : State) (warm : Bool) (cause : Nat) : State :=
  let cuff := s.cuff.restarted warm
  let sys : Sys := { Sys.reset with stored := s.sys.stored }
  let boot := s.boot.restarted cause
  let base : State := { State.reset with
    fresh := s.fresh, umr := s.umr.restarted, umem := s.umr.flashContent, dict := s.keptDict warm, octets := s.keptOctets warm,
    cuff := cuff, sys := sys, boot := boot, mdl := s.mdl }
  if warm then base.withTimeOf s else base

/-- R419: ROOT, MEM, NET and TIME keep running through a warm reset, and BRM_STATE shows their locks. -/
def State.keepLocks (t s : State) (warm : Bool) : State := if warm then t.setFld Reg.BRM_STATE 4 4 (s.fld Reg.BRM_STATE 4 4) else t

/-- R415: a power-on or warm reset begins, with its BOOT_CAUSE code; the SAFE_STOP pairs are in their stop state (R418), and each
entry into it counts (R467). -/
def State.resetTo (s0 : State) (warm : Bool) (cause : Nat) : State :=
  let s := s0.stopPairs 3
  let t := ((s.resetBase warm cause).showFlash s).keepLocks s warm
  (t.setFld Reg.CUF_STOP 2 1 (b2n s.cuff.inA)).setFld Reg.CUF_STOP 3 1 (b2n s.cuff.inB)

/-! ## Recovery begins (R424) -/

/-- Phase of SEC_STATE. -/
def State.phase (s : State) : Nat := s.fld Reg.SEC_STATE 0 3

/-- R421, R424: the ROM enters recovery with a failure code and releases ETH_PHY_RST_N. -/
def State.enterRecovery (s : State) (code stage : Nat) : State :=
  let s0 := { s with boot := { s.boot with phyOut := true } }
  let s1 := (s0.setFld Reg.SEC_STATE 0 3 3).setDictN 0x3200 2 code
  (s1.setFld Reg.SEC_BOOT 8 4 code).setFld Reg.SEC_BOOT 12 3 stage

/-- The reset has been released. -/
def Boot.released (b : Boot) : Boot := { b with inReset := false, held := 0, hwPending := false }

/-- R417, R422, R435, R465: the boot counts, with its cause, the fused value and a hardware cause that waited for it. -/
def State.countBoot (s : State) : State :=
  let c := s.boot.cause
  let t := (s.setDictN 0x3200 3 ((s.dictN 0x3200 3 + 1) % 2 ^ 32)).setDictN 0x3200 1 c
  let u := (t.setDictN 0x3200 5 s.boot.secFused).dictAddSat 0x5100 (if c ≤ 2 then 2 else 3) 1 32
  if s.boot.hwPending then u.dictAddSat 0x5140 5 1 32 else u

/-- R417: what SEC_STATE and SEC_BOOT show of a boot that starts with cause `c` as number `n`. -/
def State.showBoot (s : State) (c n : Nat) : State :=
  (s.setRegN Reg.SEC_STATE (1 + b2n (!s.boot.ownerHash.isEmpty) * 8 + b2n (c == 5) * 16 + s.boot.secFused * 256)).setRegN
    Reg.SEC_BOOT (c + n * 2 ^ 32)

/-- The boot state of a machine replaced. -/
def State.setBoot (s : State) (b : Boot) : State := { s with boot := b }

/-- R417: boot starts when the reset source is released: RECOV_N is sampled, the fuses are read, the boot counts. -/
def State.startBoot (s : State) (recov : Bool) : State :=
  let t := (s.countBoot.setBoot s.boot.released).showBoot s.boot.cause ((s.dictN 0x3200 3 + 1) % 2 ^ 32)
  if recov then t.enterRecovery 7 0 else t

/-- A reset whose source is released at once: boot starts unless a reset pin is low. -/
def State.resetAndBoot (s : State) (warm : Bool) (cause : Nat) (recov : Bool) : State :=
  let t := s.resetTo warm cause
  if t.boot.held = 0 then t.startBoot recov else t

/-- POWER_GOOD (R417). -/
def execPowerGood (recov : Bool) (s : State) : Host.Outcome State Fault Refusal :=
  doneT s (if s.mdl.off = 0 then s.resetAndBoot false 1 recov else s)

/-- R503, R506: PORST_N has been low for 10 µs; no effect while the input is below its threshold. -/
def State.porst (s : State) : State :=
  if s.mdl.off ≠ 0 then s
  else ({ s with boot := { s.boot with held := s.boot.held ||| 1 } }).resetTo false 2

/-- PORST (R503). -/
def execPorst (s : State) : Host.Outcome State Fault Refusal := doneT s s.porst

/-- R503, R506: WARM_RST_N has been low for 1 µs; with PORST_N low it has no further effect. -/
def State.warmRst (s : State) : State :=
  if s.brm.off then s
  else
    let t := { s with boot := { s.boot with held := s.boot.held ||| 2 } }
    if s.boot.held.testBit 0 then t else t.resetTo true 3

/-- WARM_RST (R503). -/
def execWarmRst (s : State) : Host.Outcome State Fault Refusal := doneT s s.warmRst

/-- RESET_RELEASE (R503): the reset ends when its pins are high. -/
def execResetRelease (recov : Bool) (s : State) : Host.Outcome State Fault Refusal :=
  doneT s (if s.boot.inReset && s.boot.held != 0 then s.startBoot recov else s)

/-- RESET_CMD (R417). -/
def execResetCmd (value : BitVec 16) (s : State) : Host.Outcome State Fault Refusal :=
  done s (s.serve (fun u => let r := u.resetCmd value.toNat; r.1.aborted r.2))

/-- Ten milliseconds in ns. -/
def tenMs : Nat := 10000000

/-- Whether ten milliseconds have passed since a recorded instant. -/
def State.passed (s : State) (t : Option Nat) : Bool :=
  match t with
  | none => false
  | some x => decide (x + tenMs ≤ s.now)

/-- RESET_CMD_DELAY (R417). -/
def execResetCmdDelay (recov : Bool) (s : State) : Host.Outcome State Fault Refusal :=
  doneT s (s.serve (fun u => if u.passed u.boot.resetAt then u.resetAndBoot true 4 recov else u))

/-! ## The boot sequence (R419 to R422, R430) -/

/-- R459: the ROM holds the boot at its fuse read until every sensor reads below 100 °C. -/
def State.tooHot (s : State) : Bool := decide (1600 ≤ hottest ((List.range 64).map (fun k => signed 16 (s.fld (Reg.BRM_THERM k) 0 16))) (List.range 64))

/-- R421 steps 1 to 5: the header has been read, or could not be. -/
def State.headerLoaded (s : State) (readOk : Bool) : State :=
  let code := if readOk then s.headerCode s.boot.image else 1
  if code = 0 then
    let s1 := { s with boot := { s.boot with stage := 1, digests := sha384 (s.boot.image.take 1024) } }
    s1.setFld Reg.SEC_STATE 0 3 2
  else s.enterRecovery code 0

/-- R376, R388, R416, R505: the stored set is applied, the blocks start and Crown firmware releases ETH_PHY_RST_N. On a warm reset
the running PCIe entries stand. -/
def State.blocksStart (s : State) : State :=
  let warm := decide (3 ≤ s.boot.cause)
  let set := (s.sys.stored.getD []).filter (fun e => !(warm && (e.1 == dictKey 0x2000 1 || e.1 == dictKey 0x2001 1)))
  let s1 := s.loadStored set
  let s2 := s1.setRegN Reg.PCIE_STATE (s1.dictN 0x2000 1 * 64)
  let adv := (fieldLE s.boot.image 7 1).testBit 0 && decide (s.boot.secFused < imgSecVersion s.boot.image)
  { s2 with boot := { s2.boot with advance := adv, phyOut := true } }

/-- R430: after the last stage: the measurements are fixed, the attestation key's certificate is signed, the ROM ends. Where both
memories were trained before, the blocks start. -/
def State.romEnds (s : State) : State :=
  let v := imgSecVersion s.boot.image
  let s1 := (s.setFld Reg.SEC_STATE 16 8 v).setDictN 0x3200 4 v
  let s2 := s1.setOctets 0x0110 4 (Config.akCert s.boot.digests (s.dictN 0x3200 3))
  (if s.boot.trained = 3 then s2.blocksStart else s2).setFld Reg.SEC_STATE 0 3 4

/-- R421 step 6, R486: stage `k` (1 to 4) has been read: a good one is started (stage 2 is Cuff's firmware), a bad one never is. A safe
state entered before then stays (R470). -/
def State.stageIn (s : State) (k : Nat) (readOk : Bool) : State :=
  if !readOk then s.enterRecovery 1 0
  else if !stageMatches s.boot.image (k - 1) then s.enterRecovery 6 k
  else
    let s1 := { s with boot := { s.boot with stage := k + 1, digests := s.boot.digests ++ stageDigest s.boot.image (k - 1) } }
    let s2 := if k = 2 ∧ s.inSafe = false then s1.setFld Reg.CUF_STATE 0 2 1 else s1
    if k = 4 then s2.romEnds else s2

/-- R421: the ROM has read the header (stage 0) or a stage (1 to 4), each in its turn. -/
def State.stageLoaded (s : State) (k : Nat) (readOk : Bool) : State :=
  if s.boot.stage ≠ k then s
  else if k = 0 then (if s.phase = 1 ∧ s.tooHot = false then s.headerLoaded readOk else s)
  else if s.phase = 2 then s.stageIn k readOk else s

/-- STAGE_LOADED (R421). -/
def execStageLoaded (stage : Fin 5) (readOk : Bool) (s : State) : Host.Outcome State Fault Refusal :=
  done s (s.serve (fun u => u.stageLoaded stage.val readOk))

/-- R424: the mode of port `p` in recovery: the one that the stored set gives, if it gives one, or the fixed one when there is no
set. -/
def State.recoveryMode (s : State) (p : Nat) : Option Nat :=
  match s.sys.stored with
  | none => some (if p < 2 then 0 else 1)
  | some l => (l.find? (fun e => e.1 == dictKey (0x1A00 + p) 2)).map (fun e => leNat e.2)

/-- R424: the ports in recovery, with the stored set's address or the fixed one. -/
def State.recoveryPorts (s : State) : State :=
  let s1 := iter 6 (fun t p => match s.recoveryMode p with
    | none => t
    | some m => (t.setDictN (0x1A00 + p) 2 m).setDictN (0x1A00 + p) 1 1) s
  match s.sys.stored with
  | none => s1
  | some l => each (l.filter (fun e => e.1 / 256 == 0x1A40)) (fun t e => t.loadEntry e.1 e.2) s1

/-- R424: a memory is trained: in recovery the ports come up with LPDDR5X; else Crown firmware, once it has been started, trains
both, and the blocks start once the ROM has ended too. -/
def State.memoryTrained (s : State) (lpddr : Bool) : State :=
  let bit := if lpddr then 1 else 2
  let s1 := { s with boot := { s.boot with trained := s.boot.trained ||| bit } }
  if s.boot.inReset || s.boot.trained &&& bit != 0 then s
  else if s.phase = 3 then (if lpddr then s1.recoveryPorts else s)
  else if s.phase = 4 then (if s1.boot.trained = 3 then s1.blocksStart else s1)
  else if s.phase = 2 ∧ 2 ≤ s.boot.stage then s1
  else s

/-- MEMORY_TRAINED (R424). -/
def execMemoryTrained (lpddr : Bool) (s : State) : Host.Outcome State Fault Refusal :=
  done s (s.powered (fun u => u.memoryTrained lpddr))

/-- R422: the fused value is raised once ODS answers. -/
def State.advanceVersion (s : State) : State :=
  if s.boot.advance then
    let v := s.fld Reg.SEC_STATE 16 8
    let s1 := { s with boot := { s.boot with advance := false, secFused := Nat.max s.boot.secFused v } }
    (s1.setDictN 0x3200 5 s1.boot.secFused).setFld Reg.SEC_STATE 8 8 s1.boot.secFused
  else s

/-- SEC_VERSION_ADVANCE (R422). -/
def execSecVersionAdvance (s : State) : Host.Outcome State Fault Refusal := done s (s.serve State.advanceVersion)

/-! ## The recovery exchange (R425, R426) -/

/-- R425: a recovery message. The spec does not say what SEQ holds, nor OFFSET and LENGTH of messages without a range, so they are
free there (log entry 78). -/
def State.recMsg (s : State) (type : Nat) (range : Option (Nat × Nat)) (body : Bytes) : State × Bytes :=
  let free (k : Nat) : Nat := (Config.freeWord (s.fresh + k)).toNat % 2 ^ 32
  let o := match range with
    | none => free 1
    | some r => r.1
  let n := match range with
    | none => free 2
    | some r => r.2
  (s.freshN 3, natLE 2 0x5243 ++ natLE 1 1 ++ natLE 1 type ++ natLE 4 (free 0) ++ natLE 4 o ++ natLE 4 n ++ body)

/-- Messages of recovery leave through a port. -/
def State.recSend (s : State) (p : Nat) (msgs : List Bytes) : State :=
  ({ s with boot := { s.boot with sent := msgs } }).add (Reg.NET_CNT_TX p) msgs.length

/-- R424, R425: the ROM is in recovery with its ports enabled. -/
def State.recovering (s : State) : Bool := s.phase == 3 && s.boot.trained.testBit 0

/-- R425: HELLO, broadcast on every port with a link. -/
def State.hello (s : State) : State :=
  if !s.recovering || s.boot.recovery.isSome || s.boot.doneAt.isSome then s
  else
    let body := padTo 16 serial ++ natLE 8 s.deviceBody ++ natLE 1 (s.dictN 0x3200 2) ++ natLE 1 s.boot.secFused ++ [0, 0] ++
      natLE 4 16777216
    let m := s.recMsg 1 none body
    each ((List.range 6).filter s.portUp) (fun t p => t.recSend p [m.2]) { m.1 with boot := { m.1.boot with sent := [m.2] } }

/-- HELLO (R425). -/
def execHello (s : State) : Host.Outcome State Fault Refusal := done s (s.powered State.hello)

/-- R425: length of the GET at an offset. -/
def Recovery.pieceLen (r : Recovery) (off : Nat) : Nat := Nat.min 1024 (r.total - off)

/-- R425: GETs are sent until 16 are outstanding or the image is asked for; the offsets of the new ones. -/
def Recovery.fill (r : Recovery) (now : Nat) : Recovery × List Nat :=
  iter 16 (fun (acc : Recovery × List Nat) _ =>
    let x := acc.1
    if 16 ≤ x.gets.entries.length ∨ x.total ≤ x.next then acc
    else ({ x with gets := x.gets.put x.next (1, now), next := x.next + 1024 }, acc.2 ++ [x.next])) (r, [])

/-- The GET messages for some offsets are sent. -/
def State.sendGets (s : State) (r : Recovery) (offs : List Nat) : State :=
  let m := each offs (fun (acc : State × List Bytes) o =>
    let g := acc.1.recMsg 3 (some (o, r.pieceLen o)) []
    (g.1, acc.2 ++ [g.2])) (s, [])
  ({ m.1 with boot := { m.1.boot with recovery := some r } }).recSend r.port m.2

/-- R425: a message of a type with the header's fixed fields. -/
def recOk (msg : Bytes) (type : Nat) : Bool :=
  decide (16 ≤ msg.length) && fieldLE msg 0 2 == 0x5243 && fieldLE msg 2 1 == 1 && fieldLE msg 3 1 == type

/-- R425: the first valid OFFER. -/
def State.offer (s : State) (p src : Nat) (msg : Bytes) : State :=
  let n := fieldLE msg 12 4
  if !s.recovering || s.boot.recovery.isSome || s.boot.doneAt.isSome || !s.portUp p || !recOk msg 2 || decide (n < 1024) ||
    decide (16777216 < n) then s
  else
    let r : Recovery := ⟨p, src, n, [], [], 0⟩
    let f := r.fill s.now
    s.sendGets f.1 f.2

/-- OFFER (R425). -/
def execOffer (port : Fin 6) (src : Nat) (msg : Bytes) (s : State) : Host.Outcome State Fault Refusal :=
  done s (s.powered (fun u => u.offer port.val src msg))

/-- R426: every byte has arrived: the image is checked; a good one is written to flash, and the warm reset follows DONE. -/
def State.received (s : State) (r : Recovery) : State :=
  let img := Memory.read r.data 0 r.total
  let code := s.imageCode img
  let m := s.recMsg 5 none (natLE 1 code)
  let boot : Boot := { m.1.boot with recovery := none }
  let s1 := { m.1 with boot := boot }
  let s2 := if code = 0 then
      let b : Boot := { boot with image := img, doneAt := some s.now }
      ({ s1 with boot := b }.dictAddSat 0x5100 4 1 32).dictAddSat 0x5100 5 1 32
    else s1.bump Reg.SEC_CNT_VERIFY_FAIL
  s2.recSend r.port [m.2]

/-- R425: DATA that answers an outstanding GET of the exchange's host. -/
def State.dataIn (s : State) (p src : Nat) (msg : Bytes) : State :=
  match s.boot.recovery with
  | none => s
  | some r =>
    let o := fieldLE msg 8 4
    let n := r.pieceLen o
    if !s.recovering || r.port != p || r.host != src || !recOk msg 4 || fieldLE msg 12 4 != n || decide (msg.length < 16 + n) ||
      (r.gets.find o).isNone then s
    else
      let r1 : Recovery := { r with data := Memory.write r.data o (imgPart msg 16 n), gets := r.gets.drop o }
      if r1.gets.entries.isEmpty && decide (r1.total ≤ r1.next) then s.received r1
      else
        let f := r1.fill s.now
        s.sendGets f.1 f.2

/-- DATA (R425). -/
def execData (port : Fin 6) (src : Nat) (msg : Bytes) (s : State) : Host.Outcome State Fault Refusal :=
  done s (s.powered (fun u => u.dataIn port.val src msg))

/-- R425: GETs that have had no answer for 100 ms are sent again; the exchange is abandoned after 50 sends of one. -/
def State.getResend (s : State) : State :=
  match s.boot.recovery with
  | none => s
  | some r =>
    let late := r.gets.entries.filter (fun (e : Nat × Nat × Nat) => decide (e.2.2 + 100000000 ≤ s.now))
    if late.any (fun e => decide (50 ≤ e.2.1)) then { s with boot := { s.boot with recovery := none } }
    else if late.isEmpty then s
    else
      let r1 : Recovery := { r with gets := each late (fun g e => g.put e.1 (e.2.1 + 1, s.now)) r.gets }
      s.sendGets r1 (late.map (·.1))

/-- GET_RESEND (R425). -/
def execGetResend (s : State) : Host.Outcome State Fault Refusal := done s (s.powered State.getResend)

/-- RECOVERY_RESET (R426). -/
def execRecoveryReset (recov : Bool) (s : State) : Host.Outcome State Fault Refusal :=
  doneT s (s.powered (fun u => if u.passed u.boot.doneAt then u.resetAndBoot true 5 recov else u))

/-! ## Updates, identity and the lifetime log: the commands -/

/-- FW_STAGE (R427). -/
def execFwStage (host : Fin 8) (offset : Nat) (data : Bytes) (last : Bool) (s : State) : Host.Outcome State Fault Refusal :=
  done s (s.serve (fun u => let r := u.stagePiece host.val offset data last; r.1.aborted r.2))

/-- FW_APPLY (R427). -/
def execFwApply (s : State) : Host.Outcome State Fault Refusal :=
  done s (s.serve (fun u => let r := u.fwApply 1; r.1.aborted r.2))

/-- FW_VERIFY_DONE (R427). -/
def execFwVerifyDone (s : State) : Host.Outcome State Fault Refusal := done s (s.serve State.fwVerified)

/-- FW_WRITE_DONE (R427). -/
def execFwWriteDone (s : State) : Host.Outcome State Fault Refusal := done s (s.serve State.fwWritten)

/-- OWNER_FUSE (R423). -/
def execOwnerFuse (hash : Bytes) (s : State) : Host.Outcome State Fault Refusal :=
  done s (s.serve (fun u => let r := u.putBytes 0 0x3202 2 hash; r.1.aborted r.2))

/-- NONCE (R431). -/
def execNonce (host : Fin 8) (nonce : Bytes) (s : State) : Host.Outcome State Fault Refusal :=
  done s (s.serve (fun u => let r := u.writeNonce host.val nonce; r.1.aborted r.2))

/-- REPORT_READY (R432). -/
def execReportReady (host : Fin 8) (s : State) : Host.Outcome State Fault Refusal := done s (s.serve (fun u => u.reportReady host.val))

/-- CAL_WRITE (R434). -/
def execCalWrite (index sub : Nat) (data : Bytes) (s : State) : Host.Outcome State Fault Refusal :=
  done s (s.serve (fun u => u.calWrite index sub data))

/-- LIFETIME_SECOND (R435). -/
def execLifetimeSecond (mv : Nat) (s : State) : Host.Outcome State Fault Refusal := done s (s.powered (fun u => u.lifetimeSecond mv))

/-- LOG_WRITE (R436). -/
def execLogWrite (ok : Bool) (s : State) : Host.Outcome State Fault Refusal := done s (s.powered (fun u => u.logWrite ok))

end Sys2Proof.Machine
end

