-- ==== Sys2Proof/Machine/Module.lean ====
section
/-! DEFINITION. The module's input supply, auxiliary supply, safety outputs and I²C management (19_module_hardware.md), and the
Seam links (01_melulo_at_a_glance.md). -/

namespace Sys2Proof.Machine

/-! ## Input supply (R495 to R498) -/

/-- R496: a power loss: PWR_GOOD goes low, every SAFE_STOP switch opens, the rails turn off. -/
def State.powerLoss (s : State) (why : Nat) : State :=
  if s.mdl.off ≠ 0 then s
  else
    let t := s.stopPairs 3
    { t with
      brm := { t.brm with off := true, offAt := none }, mdl := { t.mdl with off := why } }

/-- VIN_UNDERVOLTAGE (R495, R496): below 18.0 V for 50 µs. -/
def execVinUndervoltage (mv : Nat) (s : State) : Host.Outcome State Fault Refusal :=
  done s (if mv < 18000 then s.powerLoss 1 else s)

/-- VIN_OVERVOLTAGE (R495, R496): above 63.0 V for 50 µs. -/
def execVinOvervoltage (mv : Nat) (s : State) : Host.Outcome State Fault Refusal :=
  done s (if 63000 < mv then s.powerLoss 2 else s)

/-- VIN_DIP (R496): a dip below 18.0 V that is ridden through is counted and changes nothing else. -/
def execVinDip (mv : Nat) (s : State) : Host.Outcome State Fault Refusal :=
  done s (s.powered (fun u => if mv < 18000 then u.setDictN 0x2E10 3 ((u.dictN 0x2E10 3 + 1) % 2 ^ 32) else u))

/-- R498: the input is back: the standby supply and the rails ramp up; POWER_GOOD follows (log entry 79). -/
def State.supplyBack (s : State) (why : Nat) : State :=
  if s.mdl.off = why then { s with mdl := { s.mdl with off := 0 } } else s

/-- VIN_RISE (R496, R498): the input rises through 19.0 V. -/
def execVinRise (mv : Nat) (s : State) : Host.Outcome State Fault Refusal :=
  done s (if 19000 ≤ mv then s.supplyBack 1 else s)

/-- VIN_OV_RECOVER (R496): the input falls below 61.0 V after an overvoltage. -/
def execVinOvRecover (mv : Nat) (s : State) : Host.Outcome State Fault Refusal :=
  done s (if mv < 61000 then s.supplyBack 2 else s)

/-! ## Auxiliary supply (R499, R513) -/

/-- AUX_OVERLOAD (R499): above 400 mA the supply folds back to 50 mA and AUX_FAULT is set. -/
def execAuxOverload (ma : Nat) (s : State) : Host.Outcome State Fault Refusal :=
  done s (s.powered (fun u => if 400 < ma then (u.setDictN 0x2E10 6 50).setDictN 0x2E10 5 1 else u))

/-- AUX_RECOVER (R499): below 300 mA the supply recovers; AUX_FAULT, which nothing else clears, clears (DEDUCED, log entry 80). -/
def execAuxRecover (ma : Nat) (s : State) : Host.Outcome State Fault Refusal :=
  done s (s.powered (fun u => if ma < 300 then (u.setDictN 0x2E10 6 ma).setDictN 0x2E10 5 0 else u))

/-! ## Safety outputs (R501, R506) -/

/-- R468, R501: channels of a mask that are commanded to run fall to the stop level; their read-back then differs. -/
def State.openChannels (s : State) (mask : Nat) : State :=
  { s with cuff := { s.cuff with openCh := s.cuff.openCh ||| (mask &&& s.cuff.cmdLevel) } }

/-- SAFE_STOP_CURRENT_LIMIT (R501): channel 0 is 0A, 1 is 0B, 2 is 1A, 3 is 1B. -/
def execSafeStopCurrentLimit (ch : Fin 4) (s : State) : Host.Outcome State Fault Refusal :=
  done s (s.powered (fun u => u.openChannels (2 ^ ch.val)))

/-- SAFE_VEXT_LOSS (R506): below 10 V the A channels fall to the stop level. -/
def execSafeVextLoss (mv : Nat) (s : State) : Host.Outcome State Fault Refusal :=
  done s (s.powered (fun u => if mv < 10000 then (u.openChannels 5).setDictN 0x2E10 4 mv else u))

/-! ## I²C management (R507) -/

/-- R507: the eight bytes at a management offset, zero outside the table. -/
def State.i2cValue (s : State) (o : Nat) : Nat :=
  if o = 0x00 then s.deviceBody
  else if o = 0x08 then s.regN Reg.CUF_STATE
  else if o = 0x10 then s.regN Reg.CUF_STOP
  else if o = 0x18 then s.regN Reg.BRM_POWER
  else if o = 0x20 then s.dictN 0x2E10 1 + s.dictN 0x2E10 4 * 2 ^ 32
  else if o = 0x28 then s.regN Reg.SEC_STATE
  else 0

/-- I2C_OFFSET_WRITE (R507). -/
def execI2cOffsetWrite (offset : BitVec 8) (s : State) : Host.Outcome State Fault Refusal :=
  done s (if s.mdl.off = 0 then { s with mdl := { s.mdl with offset := offset.toNat } } else s)

/-- R507: a read answers with the value at the offset; one that goes on continues with the next eight bytes' offset. -/
def State.i2cRead (s : State) : State :=
  { s with
    readVal := BitVec.ofNat 64 (s.i2cValue s.mdl.offset), mdl := { s.mdl with offset := (s.mdl.offset + 8) % 256 } }

/-- I2C_READ (R507). -/
def execI2cRead (s : State) : Host.Outcome State Fault Refusal := done s (if s.mdl.off = 0 then s.i2cRead else s)

/-! ## Pins (R505, R507) -/

/-- The output pins of R505 and I2C_ALERT_N of R507. -/
inductive Pin where
  | safeStop (ch : Fin 4) | gpio (n : Fin 32) | camTrig (n : Fin 8) | spi (k : Fin 8) | uartTxd (k : Fin 2) | tdmOut (k : Fin 4)
  | ethPhyRst | pciePerst | ethLane (p : Fin 6) | pcieLane | segment (k : Fin 4) | pwrGood | jtagTdo | i2cAlert
  deriving DecidableEq, Repr

/-- What a pin does: `quiet` is CS high with SCLK and MOSI low on SPI and electrical idle on a lane; `active` is what its port sends,
which the time, the stream or the link decides. -/
inductive PinLevel where
  | floating | stop | run | pulled | low | high | quiet | active
  deriving DecidableEq, Repr

/-- R505: the level that an output channel gives its pin, `off` where no write has enabled it. -/
def PinLevel.ofChannel (off : PinLevel) : Option Bool → PinLevel
  | none => off
  | some b => if b then .high else .low

/-- R505: a stream context of a port type (1 AUDIO, 2 SPI) and port is enabled. -/
def State.portStreams (s : State) (type port : Nat) : Bool :=
  (List.range 48).any (fun k =>
    let cfg := s.regN (Reg.VIS_STR_CFG k)
    cfg.testBit 0 && bits cfg 1 3 == type && bits cfg 4 3 == port)

/-- R505: a pin of the powered module. After a reset no pin is configured, so a warm reset's column is the one from PWR_GOOD to
configuration. -/
def State.poweredPin (s : State) : Pin → PinLevel
  | .safeStop ch => if s.cuff.cmdLevel.testBit ch.val && !s.cuff.openCh.testBit ch.val then .run else .stop
  | .gpio n => .ofChannel .pulled (s.pinLevel n.val)
  | .camTrig n => if s.inSafe then .low else .ofChannel .low (s.pinLevel (32 + n.val))
  | .spi k => if s.portStreams 2 k.val && !s.inSafe then .active else .quiet
  | .uartTxd _ => .high
  | .tdmOut k => if s.portStreams 1 k.val && !s.inSafe then .active else .low
  | .ethPhyRst => if s.boot.phyOut then .high else .low
  | .pciePerst => if s.fld Reg.PCIE_STATE 6 2 = 2 ∧ s.inSafe = false then .high else .low
  | .ethLane p => if s.dictN (0x1A00 + p.val) 1 = 0 then .quiet else .active
  | .pcieLane => if s.fld Reg.PCIE_STATE 6 2 = 0 then .quiet else .active
  | .segment k => if s.dictN (0x1E00 + k.val) 1 = 0 then .quiet else .active
  | .pwrGood => .high
  | .jtagTdo => .floating
  | .i2cAlert => if s.inSafe || s.phase == 3 then .low else .floating

/-- R505, R507: what a pin does: without power every pin floats, SAFE_STOP is open and PWR_GOOD is low. -/
def State.pin (s : State) (p : Pin) : PinLevel :=
  if s.mdl.off = 0 ∧ s.brm.off = false then s.poweredPin p
  else match p with
    | .safeStop _ => .stop
    | .pwrGood => .low
    | _ => .floating

/-! ## Seam links (R9 to R11) -/

/-- R10: flits of link `k` failed their CRC and a replay resent some, delaying those behind by `ns`, which
SEAM_REPLAY_MAX_NS holds up to its 32 bits (DESIGN CHOICE, log entry 81: R10 does not say what a longer delay stores). -/
def State.seamReplay (s : State) (k : Nat) (flits : SeamFlits) (ns : Nat) : State :=
  let s1 := s.setDictN (0x5200 + k) 1 ((s.dictN (0x5200 + k) 1 + flits.failed) % 2 ^ 64)
  let s2 := s1.setDictN (0x5200 + k) 2 ((s.dictN (0x5200 + k) 2 + 1) % 2 ^ 64)
  let s3 := s2.setDictN (0x5200 + k) 3 ((s.dictN (0x5200 + k) 3 + flits.resent) % 2 ^ 64)
  s3.setDictN (0x5200 + k) 4 (Nat.max (s.dictN (0x5200 + k) 4) (Nat.min ns (2 ^ 32 - 1)))

/-- SEAM_REPLAY (R10). -/
def execSeamReplay (link : Fin 11) (flits : SeamFlits) (delayNs : Nat) (s : State) : Host.Outcome State Fault Refusal :=
  done s (s.powered (fun u => u.seamReplay link.val flits delayNs))

/-- SEAM_LINK_FAILURE (R11, R473): a fatal record of class SEAM takes the package to the safe state. -/
def execSeamLinkFailure (_ : Fin 11) (s : State) : Host.Outcome State Fault Refusal :=
  done s (s.powered (fun u => u.record 3 1 0 0xFF none 0xFFFF 0))

end Sys2Proof.Machine
end

