-- ==== Sys2Proof/Machine/Dispatch.lean ====
section
/-! DEFINITION. What each command does: one arm per command, each a direct call of its meaning. -/

namespace Sys2Proof.Machine

/-- The effect of one command on everything but the queue. -/
def exec (i : Instr) (s : State) : Host.Outcome State Fault Refusal :=
  match i with
  | .seamReplay link flits delayNs => Sys2Proof.Machine.execSeamReplay link flits delayNs s
  | .seamLinkFailure link => Sys2Proof.Machine.execSeamLinkFailure link s
  | .matrixTile r part => Sys2Proof.Machine.execMatrixTile r part s
  | .tileComplete g => Sys2Proof.Machine.execTileComplete g s
  | .tileOverrun g => Sys2Proof.Machine.execTileOverrun g s
  | .convolutionTile r part => Sys2Proof.Machine.execConvolutionTile r part s
  | .poolingTile r part => Sys2Proof.Machine.execPoolingTile r part s
  | .scanTile r part => Sys2Proof.Machine.execScanTile r part s
  | .slotSwapOutDone slot => Sys2Proof.Machine.execSlotSwapOutDone slot s
  | .slotRestoreDone slot res => Sys2Proof.Machine.execSlotRestoreDone slot res s
  | .attentionCall r => Sys2Proof.Machine.execAttentionCall r s
  | .attWorkItemDone p => Sys2Proof.Machine.execAttWorkItemDone p s
  | .attentionCallEnd p => Sys2Proof.Machine.execAttentionCallEnd p s
  | .seqCallReleased r => Sys2Proof.Machine.execSeqCallReleased r s
  | .kvInit r => Sys2Proof.Machine.execKvInit r s
  | .kvCommit r => Sys2Proof.Machine.execKvCommit r s
  | .kvRollback r => Sys2Proof.Machine.execKvRollback r s
  | .kvTruncate r => Sys2Proof.Machine.execKvTruncate r s
  | .kvFree r => Sys2Proof.Machine.execKvFree r s
  | .route r => Sys2Proof.Machine.execRoute r s
  | .combine r => Sys2Proof.Machine.execCombine r s
  | .cropAndResize r => Sys2Proof.Machine.execCropAndResize r s
  | .cropBoxDone => Sys2Proof.Machine.execCropBoxDone s
  | .fingerLaunch r => Sys2Proof.Machine.execFingerLaunch r s
  | .launchStart r => Sys2Proof.Machine.execLaunchStart r s
  | .fingerInstruction f res => Sys2Proof.Machine.execFingerInstruction f res s
  | .vfredusum f vd vs2 vs1 vm => Sys2Proof.Machine.execVfredusum f vd vs2 vs1 vm s
  | .loadReserved f rd rs1 => Sys2Proof.Machine.execLoadReserved f rd rs1 s
  | .storeConditional f rd rs1 rs2 => Sys2Proof.Machine.execStoreConditional f rd rs1 rs2 s
  | .atomicMemoryOp f op rd rs1 rs2 => Sys2Proof.Machine.execAtomicMemoryOp f op rd rs1 rs2 s
  | .fence f pred succ => Sys2Proof.Machine.execFence f pred succ s
  | .fenceI f => Sys2Proof.Machine.execFenceI f s
  | .xfMergeW f rd rs1 rs2 => Sys2Proof.Machine.execXfMergeW f rd rs1 rs2 s
  | .xfUnionW f rd rs1 rs2 => Sys2Proof.Machine.execXfUnionW f rd rs1 rs2 s
  | .xfIsectW f rd rs1 rs2 => Sys2Proof.Machine.execXfIsectW f rd rs1 rs2 s
  | .xfDiffW f rd rs1 rs2 => Sys2Proof.Machine.execXfDiffW f rd rs1 rs2 s
  | .xfMergeKv f rd rs1 rs2 => Sys2Proof.Machine.execXfMergeKv f rd rs1 rs2 s
  | .xfUnionKv f rd rs1 rs2 => Sys2Proof.Machine.execXfUnionKv f rd rs1 rs2 s
  | .xfIsectKv f rd rs1 rs2 => Sys2Proof.Machine.execXfIsectKv f rd rs1 rs2 s
  | .xfDiffKv f rd rs1 rs2 => Sys2Proof.Machine.execXfDiffKv f rd rs1 rs2 s
  | .xfHprobe f rd rs1 rs2 => Sys2Proof.Machine.execXfHprobe f rd rs1 rs2 s
  | .xfHinsert f rd rs1 rs2 rs3 => Sys2Proof.Machine.execXfHinsert f rd rs1 rs2 rs3 s
  | .xfSend f rs1 rs2 => Sys2Proof.Machine.execXfSend f rs1 rs2 s
  | .xfTsend f rd rs1 rs2 => Sys2Proof.Machine.execXfTsend f rd rs1 rs2 s
  | .xfRecv f rd rs1 => Sys2Proof.Machine.execXfRecv f rd rs1 s
  | .xfMsgstat f rd => Sys2Proof.Machine.execXfMsgstat f rd s
  | .xfWaitmsg f => Sys2Proof.Machine.execXfWaitmsg f s
  | .xfBar f => Sys2Proof.Machine.execXfBar f s
  | .xfGbar f => Sys2Proof.Machine.execXfGbar f s
  | .xfQpush f rs1 rs2 => Sys2Proof.Machine.execXfQpush f rs1 rs2 s
  | .xfQpop f rd rs1 => Sys2Proof.Machine.execXfQpop f rd rs1 s
  | .xfExit f => Sys2Proof.Machine.execXfExit f s
  | .xfXfer f rd rs1 => Sys2Proof.Machine.execXfXfer f rd rs1 s
  | .xfXwait f rs1 => Sys2Proof.Machine.execXfXwait f rs1 s
  | .xfXtest f rd rs1 => Sys2Proof.Machine.execXfXtest f rd rs1 s
  | .xfAmoaddF f rd rs1 rs2 => Sys2Proof.Machine.execXfAmoaddF f rd rs1 rs2 s
  | .xfAmominF f rd rs1 rs2 => Sys2Proof.Machine.execXfAmominF f rd rs1 rs2 s
  | .xfAmomaxF f rd rs1 rs2 => Sys2Proof.Machine.execXfAmomaxF f rd rs1 rs2 s
  | .xfAmoaddH2 f rd rs1 rs2 => Sys2Proof.Machine.execXfAmoaddH2 f rd rs1 rs2 s
  | .xfAmoincs f rd rs1 rs2 => Sys2Proof.Machine.execXfAmoincs f rd rs1 rs2 s
  | .xfAmocas f rd rs1 rs2 rs3 => Sys2Proof.Machine.execXfAmocas f rd rs1 rs2 rs3 s
  | .stallResume f => Sys2Proof.Machine.execStallResume f s
  | .barrierRelease r m => Sys2Proof.Machine.execBarrierRelease r m s
  | .queueDrained m q => Sys2Proof.Machine.execQueueDrained m q s
  | .transferDone f ticket res => Sys2Proof.Machine.execTransferDone f ticket res s
  | .exitDrainDone f => Sys2Proof.Machine.execExitDrainDone f s
  | .stallLimit r => Sys2Proof.Machine.execStallLimit r s
  | .launchBudget r => Sys2Proof.Machine.execLaunchBudget r s
  | .umrMap r => Sys2Proof.Machine.execUmrMap r s
  | .umrUnmap r => Sys2Proof.Machine.execUmrUnmap r s
  | .unmapFramesFreed r => Sys2Proof.Machine.execUnmapFramesFreed r s
  | .umrRehome r => Sys2Proof.Machine.execUmrRehome r s
  | .rehomeCopyDone r page => Sys2Proof.Machine.execRehomeCopyDone r page s
  | .umrPrefetch r => Sys2Proof.Machine.execUmrPrefetch r s
  | .umrEvict r => Sys2Proof.Machine.execUmrEvict r s
  | .umrFlush r => Sys2Proof.Machine.execUmrFlush r s
  | .umrQuery r => Sys2Proof.Machine.execUmrQuery r s
  | .blockFetchDone page block res => Sys2Proof.Machine.execBlockFetchDone page block res s
  | .fetchTimeout page block => Sys2Proof.Machine.execFetchTimeout page block s
  | .accessTimeout r part page block => Sys2Proof.Machine.execAccessTimeout r part page block s
  | .writebackDone page block ok => Sys2Proof.Machine.execWritebackDone page block ok s
  | .patrolScrub page block upper res => Sys2Proof.Machine.execPatrolScrub page block upper res s
  | .flashRelocate eraseFails => Sys2Proof.Machine.execFlashRelocate eraseFails s
  | .mappingTableLoaded => Sys2Proof.Machine.execMappingTableLoaded s
  | .doorbell ring tail => Sys2Proof.Machine.execDoorbell ring tail s
  | .requestAccept => Sys2Proof.Machine.execRequestAccept s
  | .requestDispatch r => Sys2Proof.Machine.execRequestDispatch r s
  | .stage r part res => Sys2Proof.Machine.execStage r part res s
  | .stageDone r part idx => Sys2Proof.Machine.execStageDone r part idx s
  | .copy r part res => Sys2Proof.Machine.execCopy r part res s
  | .schedCancel r => Sys2Proof.Machine.execSchedCancel r s
  | .schedNoop r => Sys2Proof.Machine.execSchedNoop r s
  | .synValueWrite n value => Sys2Proof.Machine.execSynValueWrite n value s
  | .slotLead n => Sys2Proof.Machine.execSlotLead n s
  | .slotStart n => Sys2Proof.Machine.execSlotStart n s
  | .slotEnd n => Sys2Proof.Machine.execSlotEnd n s
  | .frameBoundary => Sys2Proof.Machine.execFrameBoundary s
  | .cadSwitch => Sys2Proof.Machine.execCadSwitch s
  | .bankParkDone g => Sys2Proof.Machine.execBankParkDone g s
  | .partResume g => Sys2Proof.Machine.execPartResume g s
  | .bankRestoreDone g => Sys2Proof.Machine.execBankRestoreDone g s
  | .teardownDone c => Sys2Proof.Machine.execTeardownDone c s
  | .contextReset c => Sys2Proof.Machine.execContextReset c s
  | .ctxEventRead c => Sys2Proof.Machine.execCtxEventRead c s
  | .csiFrameStart str => Sys2Proof.Machine.execCsiFrameStart str s
  | .csiFrameEnd str sample => Sys2Proof.Machine.execCsiFrameEnd str sample s
  | .audioBlock str sample => Sys2Proof.Machine.execAudioBlock str sample s
  | .spiDataReady str => Sys2Proof.Machine.execSpiDataReady str s
  | .spiTransactionDone str sample => Sys2Proof.Machine.execSpiTransactionDone str sample s
  | .ethSensorSample str sample => Sys2Proof.Machine.execEthSensorSample str sample s
  | .pictureDecoded str pic => Sys2Proof.Machine.execPictureDecoded str pic s
  | .textTokenized str => Sys2Proof.Machine.execTextTokenized str s
  | .batchTimeout p => Sys2Proof.Machine.execBatchTimeout p s
  | .batchEmit p => Sys2Proof.Machine.execBatchEmit p s
  | .pipelineStopped p => Sys2Proof.Machine.execPipelineStopped p s
  | .pipeRestart r => Sys2Proof.Machine.execPipeRestart r s
  | .restartReplayDone p => Sys2Proof.Machine.execRestartReplayDone p s
  | .pipeStop r => Sys2Proof.Machine.execPipeStop r s
  | .pipeFlush r => Sys2Proof.Machine.execPipeFlush r s
  | .roiSet r => Sys2Proof.Machine.execRoiSet r s
  | .text r => Sys2Proof.Machine.execText r s
  | .dictLoad r => Sys2Proof.Machine.execDictLoad r s
  | .visPipeRelease p count => Sys2Proof.Machine.execVisPipeRelease p count s
  | .streamEnable str value => Sys2Proof.Machine.execStreamEnable str value s
  | .pipelineEnable p value => Sys2Proof.Machine.execPipelineEnable p value s
  | .edgeStamp gpio rising => Sys2Proof.Machine.execEdgeStamp gpio rising s
  | .tbEdgeRead => Sys2Proof.Machine.execTbEdgeRead s
  | .tbNowRead b => Sys2Proof.Machine.execTbNowRead b s
  | .outputEdge ch => Sys2Proof.Machine.execOutputEdge ch s
  | .compareFire k => Sys2Proof.Machine.execCompareFire k s
  | .compareArm k value => Sys2Proof.Machine.execCompareArm k value s
  | .compareTargetWrite k value => Sys2Proof.Machine.execCompareTargetWrite k value s
  | .tbStep b allowJump => Sys2Proof.Machine.execTbStep b allowJump s
  | .tbSet b allowJump => Sys2Proof.Machine.execTbSet b allowJump s
  | .tbAllowJump b => Sys2Proof.Machine.execTbAllowJump b s
  | .gptpSyncRx inst offsetNs rate step => Sys2Proof.Machine.execGptpSyncRx inst offsetNs rate step s
  | .gptpAnnounceRx inst port msg => Sys2Proof.Machine.execGptpAnnounceRx inst port msg s
  | .gptpPdelay port t1 t2 t3 t4 => Sys2Proof.Machine.execGptpPdelay port t1 t2 t3 t4 s
  | .gptpSyncTx inst => Sys2Proof.Machine.execGptpSyncTx inst s
  | .align r => Sys2Proof.Machine.execAlign r s
  | .push r => Sys2Proof.Machine.execPush r s
  | .trackUpdate r => Sys2Proof.Machine.execTrackUpdate r s
  | .trackRead r => Sys2Proof.Machine.execTrackRead r s
  | .trackTableClear r => Sys2Proof.Machine.execTrackTableClear r s
  | .rebase r => Sys2Proof.Machine.execRebase r s
  | .atuChannelEnable ch value => Sys2Proof.Machine.execAtuChannelEnable ch value s
  | .knkLatchWrite e latch value => Sys2Proof.Machine.execKnkLatchWrite e latch value s
  | .sampleBoundary e l => Sys2Proof.Machine.execSampleBoundary e l s
  | .loopComputeStart e => Sys2Proof.Machine.execLoopComputeStart e s
  | .loopComputeDone e l => Sys2Proof.Machine.execLoopComputeDone e l s
  | .sampleMiss e l => Sys2Proof.Machine.execSampleMiss e l s
  | .knkCommit e l => Sys2Proof.Machine.execKnkCommit e l s
  | .knkLoad r => Sys2Proof.Machine.execKnkLoad r s
  | .knkRead r => Sys2Proof.Machine.execKnkRead r s
  | .coeffWordWrite e n value => Sys2Proof.Machine.execCoeffWordWrite e n value s
  | .loopEnable e l value => Sys2Proof.Machine.execLoopEnable e l value s
  | .traceTrigger e => Sys2Proof.Machine.execTraceTrigger e s
  | .traceWriteFail e => Sys2Proof.Machine.execTraceWriteFail e s
  | .gussetLinear r => Sys2Proof.Machine.execGussetLinear r s
  | .gussetQp r => Sys2Proof.Machine.execGussetQp r s
  | .microopCopy u => Sys2Proof.Machine.execMicroopCopy u s
  | .microopScale u => Sys2Proof.Machine.execMicroopScale u s
  | .microopAdd u => Sys2Proof.Machine.execMicroopAdd u s
  | .microopTranspose u => Sys2Proof.Machine.execMicroopTranspose u s
  | .gussetDeadline u steps => Sys2Proof.Machine.execGussetDeadline u steps s
  | .gussetOverrun u => Sys2Proof.Machine.execGussetOverrun u s
  | .gussetJobEnd u => Sys2Proof.Machine.execGussetJobEnd u s
  | .plan r => Sys2Proof.Machine.execPlan r s
  | .planHeld => Sys2Proof.Machine.execPlanHeld s
  | .quantumEnd => Sys2Proof.Machine.execQuantumEnd s
  | .edgeCheckDone r => Sys2Proof.Machine.execEdgeCheckDone r s
  | .planBudgetExpired r => Sys2Proof.Machine.execPlanBudgetExpired r s
  | .modelLoad r => Sys2Proof.Machine.execModelLoad r s
  | .mapUpdate r => Sys2Proof.Machine.execMapUpdate r s
  | .epochCommit => Sys2Proof.Machine.execEpochCommit s
  | .frameRx port frame => Sys2Proof.Machine.execFrameRx port frame s
  | .pdInputFrame port frame => Sys2Proof.Machine.execPdInputFrame port frame s
  | .outHoldExpiry n => Sys2Proof.Machine.execOutHoldExpiry n s
  | .nodeTimeout n => Sys2Proof.Machine.execNodeTimeout n s
  | .nodeEnable n enable => Sys2Proof.Machine.execNodeEnable n enable s
  | .gclCycleStart port => Sys2Proof.Machine.execGclCycleStart port s
  | .gclEntryExpiry port => Sys2Proof.Machine.execGclEntryExpiry port s
  | .plcaBeacon seg => Sys2Proof.Machine.execPlcaBeacon seg s
  | .plcaOpportunity seg => Sys2Proof.Machine.execPlcaOpportunity seg s
  | .plcaCollision seg => Sys2Proof.Machine.execPlcaCollision seg s
  | .outOfSlot seg => Sys2Proof.Machine.execOutOfSlot seg s
  | .beaconConflict seg => Sys2Proof.Machine.execBeaconConflict seg s
  | .segmentNoise seg => Sys2Proof.Machine.execSegmentNoise seg s
  | .fcsError seg => Sys2Proof.Machine.execFcsError seg s
  | .rxJabber seg => Sys2Proof.Machine.execRxJabber seg s
  | .txJabberCut seg => Sys2Proof.Machine.execTxJabberCut seg s
  | .txReenable seg => Sys2Proof.Machine.execTxReenable seg s
  | .tsyncFrame seg => Sys2Proof.Machine.execTsyncFrame seg s
  | .odsRead port src dgram => Sys2Proof.Machine.execOdsRead port src dgram s
  | .odsWrite port src dgram => Sys2Proof.Machine.execOdsWrite port src dgram s
  | .odsReadBlock port src dgram => Sys2Proof.Machine.execOdsReadBlock port src dgram s
  | .odsWriteBlock port src dgram => Sys2Proof.Machine.execOdsWriteBlock port src dgram s
  | .odsCaptureRelease host => Sys2Proof.Machine.execOdsCaptureRelease host s
  | .odsResponseExpiry host => Sys2Proof.Machine.execOdsResponseExpiry host s
  | .arpRequest port frame => Sys2Proof.Machine.execArpRequest port frame s
  | .icmpEcho port frame => Sys2Proof.Machine.execIcmpEcho port frame s
  | .pcieInboundAccess window offset write data => Sys2Proof.Machine.execPcieInboundAccess window offset write data s
  | .store => Sys2Proof.Machine.execStore s
  | .storeErase => Sys2Proof.Machine.execStoreErase s
  | .storeDone ok => Sys2Proof.Machine.execStoreDone ok s
  | .dbgDataRead host => Sys2Proof.Machine.execDbgDataRead host s
  | .dbgDataWrite host value => Sys2Proof.Machine.execDbgDataWrite host value s
  | .registerWrite agent addr size value => Sys2Proof.Machine.execRegisterWrite agent addr size value s
  | .bitAliasWrite agent addr value => Sys2Proof.Machine.execBitAliasWrite agent addr value s
  | .signatureSweepEnd k => Sys2Proof.Machine.execSignatureSweepEnd k s
  | .snap k => Sys2Proof.Machine.execSnap k s
  | .commit k => Sys2Proof.Machine.execCommit k s
  | .snapAll => Sys2Proof.Machine.execSnapAll s
  | .commitAll => Sys2Proof.Machine.execCommitAll s
  | .cfgSigRefWrite k value => Sys2Proof.Machine.execCfgSigRefWrite k value s
  | .powerGood recov => Sys2Proof.Machine.execPowerGood recov s
  | .porst => Sys2Proof.Machine.execPorst s
  | .warmRst => Sys2Proof.Machine.execWarmRst s
  | .resetCmd value => Sys2Proof.Machine.execResetCmd value s
  | .resetCmdDelay recov => Sys2Proof.Machine.execResetCmdDelay recov s
  | .stageLoaded stage readOk => Sys2Proof.Machine.execStageLoaded stage readOk s
  | .secVersionAdvance => Sys2Proof.Machine.execSecVersionAdvance s
  | .hello => Sys2Proof.Machine.execHello s
  | .offer port src msg => Sys2Proof.Machine.execOffer port src msg s
  | .data port src msg => Sys2Proof.Machine.execData port src msg s
  | .getResend => Sys2Proof.Machine.execGetResend s
  | .recoveryReset recov => Sys2Proof.Machine.execRecoveryReset recov s
  | .fwStage host offset data last => Sys2Proof.Machine.execFwStage host offset data last s
  | .fwApply => Sys2Proof.Machine.execFwApply s
  | .fwVerifyDone => Sys2Proof.Machine.execFwVerifyDone s
  | .fwWriteDone => Sys2Proof.Machine.execFwWriteDone s
  | .ownerFuse hash => Sys2Proof.Machine.execOwnerFuse hash s
  | .nonce host nonce => Sys2Proof.Machine.execNonce host nonce s
  | .reportReady host => Sys2Proof.Machine.execReportReady host s
  | .calWrite index sub data => Sys2Proof.Machine.execCalWrite index sub data s
  | .lifetimeSecond mv => Sys2Proof.Machine.execLifetimeSecond mv s
  | .logWrite ok => Sys2Proof.Machine.execLogWrite ok s
  | .capPeriod measured acts => Sys2Proof.Machine.execCapPeriod measured acts s
  | .dividerStep domain => Sys2Proof.Machine.execDividerStep domain s
  | .railSlewDone p => Sys2Proof.Machine.execRailSlewDone p s
  | .droopDetect p => Sys2Proof.Machine.execDroopDetect p s
  | .droopClear p => Sys2Proof.Machine.execDroopClear p s
  | .droopLong p => Sys2Proof.Machine.execDroopLong p s
  | .thermalSample temps => Sys2Proof.Machine.execThermalSample temps s
  | .throttleStep p => Sys2Proof.Machine.execThrottleStep p s
  | .railsOff => Sys2Proof.Machine.execRailsOff s
  | .clockFault pll => Sys2Proof.Machine.execClockFault pll s
  | .pllRelock pll => Sys2Proof.Machine.execPllRelock pll s
  | .gateWrite n value => Sys2Proof.Machine.execGateWrite n value s
  | .idleClockStop n => Sys2Proof.Machine.execIdleClockStop n s
  | .errorRecord rec => Sys2Proof.Machine.execErrorRecord rec s
  | .recordHandle => Sys2Proof.Machine.execRecordHandle s
  | .lockstepMismatch => Sys2Proof.Machine.execLockstepMismatch s
  | .cuffSupplyFault => Sys2Proof.Machine.execCuffSupplyFault s
  | .watchdogExpiry => Sys2Proof.Machine.execWatchdogExpiry s
  | .safeInTrip ch => Sys2Proof.Machine.execSafeInTrip ch s
  | .safeInDiscrepant => Sys2Proof.Machine.execSafeInDiscrepant s
  | .stopReadback ch => Sys2Proof.Machine.execStopReadback ch s
  | .stop value => Sys2Proof.Machine.execStop value s
  | .release value => Sys2Proof.Machine.execRelease value s
  | .stopRelease value => Sys2Proof.Machine.execStopRelease value s
  | .lock key => Sys2Proof.Machine.execLock key s
  | .captureNow => Sys2Proof.Machine.execCaptureNow s
  | .capArm => Sys2Proof.Machine.execCapArm s
  | .cufRetest unit => Sys2Proof.Machine.execCufRetest unit s
  | .erqPop sev => Sys2Proof.Machine.execErqPop sev s
  | .errPop sev => Sys2Proof.Machine.execErrPop sev s
  | .checkCompareDone n => Sys2Proof.Machine.execCheckCompareDone n s
  | .checkSkew n => Sys2Proof.Machine.execCheckSkew n s
  | .checkAbsent n => Sys2Proof.Machine.execCheckAbsent n s
  | .ageExpiry m => Sys2Proof.Machine.execAgeExpiry m s
  | .selftestSlice unit => Sys2Proof.Machine.execSelftestSlice unit s
  | .selftestSliceDone unit pass => Sys2Proof.Machine.execSelftestSliceDone unit pass s
  | .coverageWarning unit => Sys2Proof.Machine.execCoverageWarning unit s
  | .coverageExpiry unit => Sys2Proof.Machine.execCoverageExpiry unit s
  | .startupTestDone failed => Sys2Proof.Machine.execStartupTestDone failed s
  | .checkerTest => Sys2Proof.Machine.execCheckerTest s
  | .checkerResult detected => Sys2Proof.Machine.execCheckerResult detected s
  | .vinUndervoltage mv => Sys2Proof.Machine.execVinUndervoltage mv s
  | .vinOvervoltage mv => Sys2Proof.Machine.execVinOvervoltage mv s
  | .vinDip mv => Sys2Proof.Machine.execVinDip mv s
  | .vinRise mv => Sys2Proof.Machine.execVinRise mv s
  | .auxOverload ma => Sys2Proof.Machine.execAuxOverload ma s
  | .auxRecover ma => Sys2Proof.Machine.execAuxRecover ma s
  | .safeStopCurrentLimit ch => Sys2Proof.Machine.execSafeStopCurrentLimit ch s
  | .i2cOffsetWrite offset => Sys2Proof.Machine.execI2cOffsetWrite offset s
  | .i2cRead => Sys2Proof.Machine.execI2cRead s
  | .resetRelease recov => Sys2Proof.Machine.execResetRelease recov s
  | .requestDeadline r => Sys2Proof.Machine.execRequestDeadline r s
  | .safeInRun ch => Sys2Proof.Machine.execSafeInRun ch s
  | .safeVextLoss mv => Sys2Proof.Machine.execSafeVextLoss mv s
  | .vinOvRecover mv => Sys2Proof.Machine.execVinOvRecover mv s
  | .portLinkChange port up preempt => Sys2Proof.Machine.execPortLinkChange port up preempt s
  | .pcieLinkChange up width rate => Sys2Proof.Machine.execPcieLinkChange up width rate s
  | .flashGarbageCollection start => Sys2Proof.Machine.execFlashGarbageCollection start s
  | .debugResume f resume => Sys2Proof.Machine.execDebugResume f resume s
  | .memoryTrained lpddr => Sys2Proof.Machine.execMemoryTrained lpddr s
  | .teardownTimeout c => Sys2Proof.Machine.execTeardownTimeout c s
  | .pllLock pll => Sys2Proof.Machine.execPllLock pll s

end Sys2Proof.Machine
end

