-- ==== Sys2Proof/Machine/Step.lean ====
section
/-! DEFINITION. One step: the command at the front of the queue runs; on an empty queue the module idles for one tick of
its time bases (R263). -/

namespace Sys2Proof.Machine

/-- R263: a time base adds its increment, with the value as TIME96 can hold it. -/
def TimeBase.tick (b : TimeBase) : TimeBase :=
  { b with val := (b.val + b.incr) % (2 ^ 48 * 1000000000 * 2 ^ 32) }

/-- R263: every time base ticks. -/
def TimeBases.tick (t : TimeBases) : TimeBases := ⟨t.tb0.tick, t.tb1.tick, t.tb2.tick, t.tb3.tick⟩

/-- Take the command at the front of the queue and run it with the queue's rest. With no command waiting, the time bases
advance by one 4 ns tick (DESIGN CHOICE, log entry 3). -/
def step (s : State) : Host.Outcome State Fault Refusal :=
  match s.pending with
  | [] => .next { s with time := s.time.tick }
  | c :: rest => exec c { s with pending := rest }

/-- The command that a word spells, put at the front of the queue; the table gives no row any bits, so no word spells
one (log entry 4). -/
def State.withFetchWord (s : State) (nbits w : Nat) : State :=
  match Sys2Proof.decodeTableWord nbits w with
  | none => s
  | some c => { s with pending := c :: s.pending }

end Sys2Proof.Machine
end

