-- ==== Sys2Proof/Safety.lean ====
section
/-! DEFINITION. What counts as a safe run: a machine whose tables keep their canonical form and whose time bases keep the
limits of 10_time_and_tracks.md. -/

namespace Sys2Proof.Machine

/-- The memories keep their canonical form. -/
def State.memOk (s : State) : Prop := Memory.wf s.umem = true ∧ Memory.wf s.gbuf = true

/-- R264, R267: the limits of one time base that software can reach: its increment within 500 ppm or as reset, the jump
limit in its range, the epoch one byte, the value one that TIME96 holds. -/
def TimeBase.ok (b : TimeBase) : Prop :=
  b.val < 2 ^ 48 * 1000000000 * 2 ^ 32 ∧ 0x3FF7CED91 ≤ b.incr ∧ b.incr ≤ 0x40083126F ∧ b.epoch < 256 ∧
  1000 ≤ b.jumpLimit ∧ b.jumpLimit ≤ 1000000000

/-- R262 to R264: the four bases keep their limits, and TB0 stays free-running: set, never stepped, epoch 0, with its
nominal increment. -/
def TimeBases.ok (t : TimeBases) : Prop :=
  t.tb0.ok ∧ t.tb1.ok ∧ t.tb2.ok ∧ t.tb3.ok ∧
  t.tb0.incr = 2 ^ 34 ∧ t.tb0.isSet = true ∧ t.tb0.allowJump = false ∧ t.tb0.epoch = 0

/-- R470: the engines run: the device runs and is not in its safe state. -/
def State.running (s : State) : Bool := !s.inSafe && s.live

/-- R168, R176, R515: from `s` to `u` an access of context `c` to `n` bytes at `a` through translation cache `k`, for request `r`, is
made: it meets no error and waits for nothing. -/
def State.readMade (s u : State) (c k a n : Nat) (r : Nat) : Prop := s.accessRead c k a n (some r) = (u, ⟨0, [], false⟩)

/-- R201, R517: part `p` of request `r` may dispatch its next command on Gauntlet `g`; from `s` to `u` it has read the command from the
list, and its OPCODE is `op`. -/
def State.cmdAt (s u : State) (r p op : Nat) (besideTile : Bool) (q : Request) (x : Part) (g : Nat) : Prop :=
  s.running = true ∧ s.readyPart r p besideTile = some (q, x, g) ∧ s.peekN x.addr 1 = op ∧
  s.readMade u q.ctx 5 x.addr ((cmdSize 1 op).getD 32) r ∧ u.readyPart r p besideTile = some (q, x, g) ∧ u.peekN x.addr 1 = op

/-- R201, R480, R483: the next command of part `p` of request `r` is a tile of OPCODE `op` on Gauntlet `g`, which is not quarantined and
runs no self-test; `d` is its descriptor and `v` the machine at its dispatch. -/
def State.tileAt (s v : State) (r p op : Nat) (q : Request) (x : Part) (g : Nat) (d : Bytes) : Prop :=
  (s.selfTest (0x10 + g)).running = false ∧ s.quarantined (0x10 + g) = false ∧
  ∃ u, s.cmdAt u r p op false q x g ∧ v = u.tileBoundary g ∧ d = v.peek x.addr 128

/-- R177: from `s` to `u` the ranges `outs` that request `r` is about to write from `loc` are readied: they wait for nothing. -/
def State.outsReady (s u : State) (r : Nat) (q : Request) (loc : Nat) (outs : List (Nat × Nat)) : Prop :=
  s.stillWaits r = false ∧ s.engineAccess r q loc (asWrites outs) = (u, .ready)

/-- R56, R60: in `t` a tile of part `p` of request `r` runs on Gauntlet `g`, with its estimate and cost shown. -/
def State.tileRuns (t : State) (r p g est cost : Nat) : Prop :=
  (t.gntOf g).tile.map (fun y => (y.req, y.part)) = some (r, p) ∧ t.reg (Reg.GNT_TILE_EST g) = BitVec.ofNat 64 (est + cost * 2 ^ 32)

/-- R82, R84, R517: the next command of KV request `r` is operation `op` on sequence `id`, on which no earlier work waits or runs; `u` is
the machine when the command has been read, `q` the request and `x` the part that holds the place in the list. -/
def State.kvReady (s u : State) (r op : Nat) (q : Request) (x : Part) (id : Nat) : Prop :=
  s.running = true ∧ s.engReq r [3] = some q ∧ q.parts.head? = some x ∧ s.stillWaits r = false ∧ s.readMade u q.ctx 5 x.addr 32 r ∧
  fieldLE (u.peek x.addr 32) 0 1 = 0x21 ∧ fieldLE (u.peek x.addr 32) 1 1 = op ∧ fieldLE (u.peek x.addr 32) 4 4 = id ∧
  id ≤ 65535 ∧ (u.earlierSeqs r).contains id = false

/-- R82 to R85: from `s` to `t` sequence `id` has taken the record `z`, none where it is free; every other sequence is as it was. -/
def State.seqBecomes (s t : State) (id : Nat) (z : Option SeqRec) : Prop := t.seq id = z ∧ ∀ j, j ≠ id → t.seq j = s.seq j

/-- Finger `f` executes its next instruction as Finger state `x` of launch `l`, on a Mitten that is not quarantined. -/
def State.fngAt (s : State) (f : Nat) (x : Finger) (l : Launch) : Prop :=
  s.running = true ∧ s.fngReady f = some (x, l) ∧ s.quarantined (0x40 + f / 64) = false

/-- R141, R142, R151: an atomic access may go to address `a`: it is the word at place `k` of store `sp`. -/
def atomicPlace (l : Launch) (f a sp k : Nat) : Prop :=
  (∃ room, fngPlace l f a = some (sp, k, room)) ∧ sp ≠ 4 ∧ a % 4 = 0

/-- R151, R152: from `s` to `t` Finger `f` has taken the word at place `k` of store `sp` into rd, lost its reservation and
retired; the word holds `v` where one is stored, and every other byte of every store is as before. -/
def State.atomicDone (s t : State) (f : Nat) (x : Finger) (l : Launch) (rd sp k : Nat) (v : Option Nat) : Prop :=
  (t.fngOf f).x = (x.setX rd (leNat (s.spaceRead l sp k 4))).x ∧ (t.fngOf f).pc = (x.pc + 4) % 2 ^ 32 ∧
  (t.fngOf f).resv = none ∧
  (∀ i w, i < 4 → v = some w → t.spaceByte l sp (k + i) = nth 0 (natLE 4 w) i) ∧
  ∀ sp' k', v = none ∨ sp' ≠ sp ∨ k' < k ∨ k + 4 ≤ k' → t.spaceByte l sp' k' = s.spaceByte l sp' k'

/-- R153: the list instruction `op` on elements of `n` bytes runs to its end: its block is read, its steps are taken and its
block is written back; `t` is the machine then and `r` the value for rd. -/
def State.listRun (s : State) (l : Launch) (f : Nat) (x : Finger) (op n rs1 rs2 : Nat) (t : State) (r : Nat) : Prop :=
  x.getX rs1 % 4 = 0 ∧ ∃ (u u1 : State) (ws : List Nat) (b1 : ListBlk),
    loadWords l f 6 s (x.getX rs1) [] = .inl (u, ws) ∧
    listLoop l f op n (x.getX rs2) (nth 0 ws 1 + nth 0 ws 3 + 1) u
      ⟨nth 0 ws 0, nth 0 ws 1, nth 0 ws 2, nth 0 ws 3, nth 0 ws 4, nth 0 ws 5⟩ = .done u1 b1 r ∧
    storeWords l f [b1.aB, b1.aL, b1.bB, b1.bL, b1.oB, b1.oC] u1 (x.getX rs1) = .val t 0

/-- Finger `f` has the state `y`, and the local, shared and scratch stores are those of `u`. -/
def State.fngIs (t : State) (f : Nat) (y : Finger) (u : State) : Prop :=
  t.fingers.find f = some y ∧ t.lmem = u.lmem ∧ t.smem = u.smem ∧ t.scr = u.scr

/-- R172, R173: a UMR request's command has operation `op` and passes its checks; `d` is its record. -/
def State.umrAt (s : State) (r op : Nat) (q : Request) (d : Bytes) : Prop :=
  s.running = true ∧ s.umrReady r = some q ∧ d = s.peek q.cmdAddr 32 ∧ fieldLE d 0 1 = 0x60 ∧ fieldLE d 1 1 = op ∧
  s.umrMask q d = 0

/-- R237, R242, R259: from `s` to `t` stream `k` has accepted data with a stamp, as so many samples with consecutive tags; a
picture that waits for the next IRAP access unit is counted and discarded; data that finds no room is dropped and counted. -/
def State.takesData (s t : State) (k : Nat) (d : SensorData) (stamp : Nat) (list : Option RoiList) : Prop :=
  if s.poolRoom (s.strPipe k) d.bytes.length then
    t.fld (Reg.VIS_STR_SEQ k) 0 26 = (s.fld (Reg.VIS_STR_SEQ k) 0 26 + (s.sampleParts k stamp list).2.length) % 2 ^ 26 ∧
    ((s.vstr k).skipping = true → d.irap = false → t.reg Reg.VIS_CNT_NONIRAP = s.reg Reg.VIS_CNT_NONIRAP + 1)
  else t.reg Reg.VIS_CNT_DROP = s.reg Reg.VIS_CNT_DROP + 1 ∧ t.bit Reg.VIS_FLAGS 0 = true

/-- R4, R394: what register `a` holds when a write of `v` over `old` is accepted and applies: the writable fields from `v`, the
others from `old`, with the limits of its field map. -/
def writtenTo (a old v : Nat) : Nat :=
  match regDef a with
  | some d => clampReg d.base (d.merge old v)
  | none => old

/-- R200, R517: the one command of a request `r` of KIND `kind` may be taken up by unit `u`, which is gated on and has not taken it;
`d` is its record. -/
def State.unitAt (s : State) (r kind u : Nat) (q : Request) (d : Bytes) : Prop :=
  s.running = true ∧ s.engReq r [kind] = some q ∧ s.gateOn u = true ∧ q.units ≠ [u] ∧ d = s.peek q.cmdAddr 32

/-- R260: request `r` holds the intake command `d` with OPCODE `op`, which passes the checks of its chapter. -/
def State.visAt (s : State) (r op : Nat) (q : Request) (d : Bytes) : Prop :=
  s.unitAt r 0x12 0x90 q d ∧ fieldLE d 0 1 = op ∧ s.visMask q d = 0

/-- R286: request `r` holds the Align and Track command `d` with OPCODE `op`, which passes the checks of its chapter; the unit is
gated on and no other request has it; `u` is the machine when the command's inputs have been read. -/
def State.atuAt (s : State) (r op : Nat) (q : Request) (d : Bytes) (ins outs : List (Nat × Nat)) (u : State) : Prop :=
  s.running = true ∧ s.engReq r [0x13] = some q ∧ s.gateOn 0x93 = true ∧ s.atuFree r = true ∧
  d = s.peek q.cmdAddr 64 ∧ fieldLE d 0 1 = op ∧ (q.units = [0x93] ∨ s.atuMask q d = 0) ∧
  (s.atuTake r q).engineReads r q 4 ins outs true = (u, .ready)

/-- R372, R378: the counters of an ODS datagram that arrives at port `p` and is looked at. -/
def State.odsSeen (s : State) (p : Nat) : State := (s.bump (Reg.NET_CNT_RX p)).bump Reg.NET_CNT_ODS_REQ

/-- R372 to R374, R414: the datagram `g` holds a well-formed request `q` of operation `op`, arrives at port `p` from an address of
host entry `h`, and is served anew. -/
def State.odsTaken (s : State) (op p src : Nat) (g : Bytes) (h : Nat) (q : OdsReq) : Prop :=
  s.live = true ∧ (p < 6 → s.portUp p = true ∧ s.dictN (0x1A00 + p) 5 ≠ 0) ∧ 24 ≤ g.length ∧ odsReq g = q ∧ q.bad = false ∧
  q.op = op ∧ s.hostOf src (op == 2 || op == 4) = some h ∧ (∀ k ∈ s.keptOf h, k.1 ≠ q.seq) ∧
  (s.keptOf h = [] ∨ ∃ k ∈ s.keptOf h, seqBelow q.seq k.1 = false) ∧ (0xF000 ≤ q.index → s.dictN 0x1000 5 ≠ 0)

/-- R373, R374: in `t` request `q` has its answer, which is the newest kept response of host entry `h`. -/
def State.odsAnswered (t : State) (h : Nat) (q : OdsReq) (abort : Nat) (data : Bytes) (last : Bool) : Prop :=
  t.sys.reply = q.response abort data last ∧ (t.host h).kept.getLast? = some (q.seq, t.now, q.response abort data last)

/-- R389, R397, R399, R414: command `c` is an aligned write of `v` by agent `ag` to the register at `a`: by itself, through the
alias word of one of its bits, or as host entry `h`'s write of DBG_DATA. -/
def State.writes (s : State) (c : Instr) (ag : Agent) (a v : Nat) : Prop :=
  regExists a = true ∧ a % 8 = 0 ∧ s.brm.off = false ∧
  ((∃ x : BitVec 64, c = .registerWrite ag a 8 x ∧ x.toNat = v ∧ inAlias a = false) ∨
   (∃ (addr b : Nat) (x : BitVec 64), c = .bitAliasWrite ag addr x ∧ inAlias addr = true ∧ addr % 8 = 0 ∧
      aliasTarget addr = (a, b) ∧ s.aliasValue a b x.toNat = v) ∨
   (∃ (h : Fin 8) (x : BitVec 64), c = .dbgDataWrite h x ∧ ag = .odsDebug ∧ (s.host h).dbgAddr = a ∧ x.toNat = v ∧
      inAlias a = false ∧ s.live = true ∧ s.dictN 0x1000 5 ≠ 0))

/-- RWL registers whose writes have no rule of their own beyond R394 (by first address). -/
def plainLive (base : Nat) : Bool :=
  !([Reg.SYN_VALUE 0, Reg.CAD_CTRL, Reg.TB_INCR 0, Reg.TB_STEP_ADJ 0, Reg.TB_SET_A 0, Reg.TB_SET_B 0, Reg.TB_CMP_CFG 0,
    Reg.TB_CMP_TARGET 0, Reg.KNK_LATCH 0 0, Reg.KNK_COEFF 0 0, Reg.KNK_TRC_CTRL 0, Reg.CFG_SIG_REF 0, Reg.BRM_GATE 0,
    Reg.UMR_FAULT].contains base)

/-- RWQ registers whose writes have no rule of their own beyond R395 (by first address). -/
def plainQuiet (base : Nat) : Bool :=
  !([Reg.VIS_STR_CFG 0, Reg.VIS_PIPE_CFG 0, Reg.TB_OUT_CFG 0, Reg.ATU_CH_CFG 0, Reg.KNK_LOOP_CFG 0 0, Reg.QUE_RING_CFG 0,
    Reg.QUE_PART_CFG 0, Reg.QUE_CTX_CFG 0, Reg.CUF_CFG, Reg.CUF_AGE_CFG 0, Reg.CUF_CHK_CFG 0, Reg.CUF_ACT 1,
    Reg.KVR_POOL_PAGES 0].contains base)

/-- The outermost index of a register of row `d`. -/
def RegDef.ix0 (d : RegDef) (a : Nat) : Nat := ((d.index a).getD []).headD 0

/-- The second index of a register of row `d`. -/
def RegDef.ix1 (d : RegDef) (a : Nat) : Nat := ((d.index a).getD []).getD 1 0

/-- R478: from `s` to `t` check channel `n` has decided its frames up to `last`: it goes on with the next one, an open disagreement
is `opened` unless it closes, and the done object has reached `last`. -/
def State.framesDone (s t : State) (n last : Nat) (opened : Option Nat) : Prop :=
  (∃ c, t.cuff.checks.find n = some c ∧ c.v = last + 1 ∧
    c.opened = opened.filter (fun o => decide (last < o + 1000))) ∧
  last ≤ t.regN (Reg.SYN_VALUE (s.fld (Reg.CUF_CHK_SYNC n) 48 13))

/-- R479: from `s` to `t` check channel `n`, whose state is `c`, has found a disagreement in its frame: it counts and is decided; the
first opens one, a second quarantines the units of both sides. -/
def State.disagreed (s t : State) (n : Nat) (c : CheckCh) : Prop :=
  t.reg (Reg.CUF_CHK_CNT_DISAGREE n) = s.reg (Reg.CUF_CHK_CNT_DISAGREE n) + 1 ∧
  (c.opened = none → s.framesDone t n c.v (some c.v)) ∧
  (c.opened ≠ none → s.framesDone t n c.v c.opened ∧
    ∀ u ∈ unitsOf c.seenA c.v ++ unitsOf c.seenB c.v, u ≤ 255 → t.quarantined u = true)

end Sys2Proof.Machine
end

