-- ==== Sys2Proof/WellFormed.lean ====
section
/-! DEFINITION. Which commands are well formed: the relations between operands, and the limits on them, that the types of
Sys2Proof/Syntax.lean do not carry. A command that is not well formed is none that the world outside the block can send; the
machine's step does not rest on this. -/

namespace Sys2Proof

/-- A number of `w` bits. -/
def fits (w n : Nat) : Bool := decide (n < 2 ^ w)

/-- R165: the unified range has 4,194,304 pages of 2 MiB. -/
def pageNumber (n : Nat) : Bool := decide (n < 4194304)

/-- PARTS of a descriptor: a request has at most 32 parts (08_queues_and_scheduler.md). -/
def partNumber (n : Nat) : Bool := decide (n < 32)

/-- R256: a cause of the table or none, cause TIER with TIER_TIMEOUT or TIER_ERROR. -/
def causeOk (cause status : Nat) : Bool := decide (cause ≤ 10) && (cause != 10 || status == 5 || status == 6)

/-- R256: the port's verdict is a cause, and a picture's sampling is one of the five. -/
def sampleOk (x : SensorData) : Bool := causeOk x.cause x.status && decide (x.chroma ≤ 4)

/-- R241, R256: a decoder's cause and the tier status with it, and the colour matrix that the VUI signals. -/
def pictureOk (x : DecodedPicture) : Bool := causeOk x.cause x.status && decide (x.colour ≤ 3)

/-- R273: the fields of an announce have their widths in IEEE 802.1AS. -/
def announceOk (a : Announce) : Bool :=
  fits 8 a.priority1 && fits 8 a.clockClass && fits 8 a.accuracy && fits 16 a.variance && fits 8 a.priority2 && fits 64 a.identity &&
  fits 16 a.steps

/-- R358: a frame holds its header and at most 9,216 bytes. -/
def frameOk (f : Bytes) : Bool := decide (14 ≤ f.length) && decide (f.length ≤ 9216)

/-- R372, R425: an IPv4 source address, and a payload that one unfragmented UDP datagram holds. -/
def udpOk (src : Nat) (g : Bytes) : Bool := fits 32 src && decide (g.length ≤ 1472)

/-- R373: a piece of a block write has at most 1,400 bytes. -/
def pieceOk (bs : Bytes) : Bool := decide (bs.length ≤ 1400)

/-- R375: one bus transaction moves between 1 and 4,096 bytes. -/
def busOk (bs : Bytes) : Bool := decide (1 ≤ bs.length) && decide (bs.length ≤ 4096)

/-- R380: an OCTETS value has at most 4,096 bytes. -/
def octetsOk (bs : Bytes) : Bool := decide (bs.length ≤ 4096)

/-- R389, R390: an access to a device address, of 1, 2, 4 or 8 bytes. -/
def accessOk (addr size : Nat) : Bool := fits 48 addr && [1, 2, 4, 8].contains size

/-- R397: an address in the bit-alias window. -/
def aliasOk (addr : Nat) : Bool := decide (0x20000000 ≤ addr) && decide (addr < 0x30000000)

/-- R383, R433: an entry of the calibration area, with a value of at most 4,096 bytes. -/
def calOk (i sub : Nat) (bs : Bytes) : Bool := decide (0x4010 ≤ i) && decide (i ≤ 0x4FFF) && decide (sub < 256) && octetsOk bs

/-- R452: measured power, and fourteen activities as shares of one in 1/65,536. -/
def powerOk (measured : Nat) (acts : List Nat) : Bool :=
  fits 16 measured && acts.length == 14 && acts.all (fun a => decide (a ≤ 65536))

/-- R458: 64 readings of 16 bits. -/
def tempsOk (ts : List Int) : Bool := ts.length == 64 && ts.all (fun t => decide (-32768 ≤ t) && decide (t < 32768))

/-- R472: the fields of a record as its sender names them. -/
def recordOk (r : RecordIn) : Bool :=
  decide (1 ≤ r.cls) && decide (r.cls ≤ 32) && fits 8 r.status && fits 8 r.block && fits 16 r.unit && fits 32 r.detail

/-- Whether a command is well formed. -/
def Instr.wf (i : Instr) : Bool :=
  match i with
  | .seamReplay _ flits _ => decide (0 < flits.failed)
  | .seamLinkFailure _ => true
  | .matrixTile _ part => partNumber part
  | .tileComplete _ => true
  | .tileOverrun _ => true
  | .convolutionTile _ part => partNumber part
  | .poolingTile _ part => partNumber part
  | .scanTile _ part => partNumber part
  | .slotSwapOutDone _ => true
  | .slotRestoreDone _ _ => true
  | .attentionCall _ => true
  | .attWorkItemDone _ => true
  | .attentionCallEnd _ => true
  | .seqCallReleased _ => true
  | .kvInit _ => true
  | .kvCommit _ => true
  | .kvRollback _ => true
  | .kvTruncate _ => true
  | .kvFree _ => true
  | .route _ => true
  | .combine _ => true
  | .cropAndResize _ => true
  | .cropBoxDone => true
  | .fingerLaunch _ => true
  | .launchStart _ => true
  | .fingerInstruction _ _ => true
  | .vfredusum _ _ _ _ _ => true
  | .loadReserved _ _ _ => true
  | .storeConditional _ _ _ _ => true
  | .atomicMemoryOp _ _ _ _ _ => true
  | .fence _ _ _ => true
  | .fenceI _ => true
  | .xfMergeW _ _ _ _ => true
  | .xfUnionW _ _ _ _ => true
  | .xfIsectW _ _ _ _ => true
  | .xfDiffW _ _ _ _ => true
  | .xfMergeKv _ _ _ _ => true
  | .xfUnionKv _ _ _ _ => true
  | .xfIsectKv _ _ _ _ => true
  | .xfDiffKv _ _ _ _ => true
  | .xfHprobe _ _ _ _ => true
  | .xfHinsert _ _ _ _ _ => true
  | .xfSend _ _ _ => true
  | .xfTsend _ _ _ _ => true
  | .xfRecv _ _ _ => true
  | .xfMsgstat _ _ => true
  | .xfWaitmsg _ => true
  | .xfBar _ => true
  | .xfGbar _ => true
  | .xfQpush _ _ _ => true
  | .xfQpop _ _ _ => true
  | .xfExit _ => true
  | .xfXfer _ _ _ => true
  | .xfXwait _ _ => true
  | .xfXtest _ _ _ => true
  | .xfAmoaddF _ _ _ _ => true
  | .xfAmominF _ _ _ _ => true
  | .xfAmomaxF _ _ _ _ => true
  | .xfAmoaddH2 _ _ _ _ => true
  | .xfAmoincs _ _ _ _ => true
  | .xfAmocas _ _ _ _ _ => true
  | .stallResume _ => true
  | .barrierRelease _ _ => true
  | .queueDrained _ _ => true
  | .transferDone _ _ _ => true
  | .exitDrainDone _ => true
  | .stallLimit _ => true
  | .launchBudget _ => true
  | .umrMap _ => true
  | .umrUnmap _ => true
  | .unmapFramesFreed _ => true
  | .umrRehome _ => true
  | .rehomeCopyDone _ page => pageNumber page
  | .umrPrefetch _ => true
  | .umrEvict _ => true
  | .umrFlush _ => true
  | .umrQuery _ => true
  | .blockFetchDone page _ _ => pageNumber page
  | .fetchTimeout page _ => pageNumber page
  | .accessTimeout _ part page _ => pageNumber page && partNumber part
  | .writebackDone page _ _ => pageNumber page
  | .patrolScrub page _ _ _ => pageNumber page
  | .flashRelocate _ => true
  | .mappingTableLoaded => true
  | .doorbell _ _ => true
  | .requestAccept => true
  | .requestDispatch _ => true
  | .stage _ part _ => partNumber part
  | .stageDone _ part _ => partNumber part
  | .copy _ part _ => partNumber part
  | .schedCancel _ => true
  | .schedNoop _ => true
  | .synValueWrite _ _ => true
  | .slotLead _ => true
  | .slotStart _ => true
  | .slotEnd _ => true
  | .frameBoundary => true
  | .cadSwitch => true
  | .bankParkDone _ => true
  | .partResume _ => true
  | .bankRestoreDone _ => true
  | .teardownDone _ => true
  | .contextReset _ => true
  | .ctxEventRead _ => true
  | .csiFrameStart _ => true
  | .csiFrameEnd _ sample => sampleOk sample
  | .audioBlock _ sample => sampleOk sample
  | .spiDataReady _ => true
  | .spiTransactionDone _ sample => sampleOk sample
  | .ethSensorSample _ sample => sampleOk sample
  | .pictureDecoded _ pic => pictureOk pic
  | .textTokenized x => [0, 5, 6].contains x.status
  | .batchTimeout _ => true
  | .batchEmit _ => true
  | .pipelineStopped _ => true
  | .pipeRestart _ => true
  | .restartReplayDone _ => true
  | .pipeStop _ => true
  | .pipeFlush _ => true
  | .roiSet _ => true
  | .text _ => true
  | .dictLoad _ => true
  | .visPipeRelease _ _ => true
  | .streamEnable _ _ => true
  | .pipelineEnable _ _ => true
  | .edgeStamp _ _ => true
  | .tbEdgeRead => true
  | .tbNowRead _ => true
  | .outputEdge _ => true
  | .compareFire _ => true
  | .compareArm _ _ => true
  | .compareTargetWrite _ _ => true
  | .tbStep _ _ => true
  | .tbSet _ _ => true
  | .tbAllowJump _ => true
  | .gptpSyncRx _ _ rate _ => fits 35 rate
  | .gptpAnnounceRx _ _ msg => announceOk msg
  | .gptpPdelay _ _ _ _ _ => true
  | .gptpSyncTx _ => true
  | .align _ => true
  | .push _ => true
  | .trackUpdate _ => true
  | .trackRead _ => true
  | .trackTableClear _ => true
  | .rebase _ => true
  | .atuChannelEnable _ _ => true
  | .knkLatchWrite _ _ _ => true
  | .sampleBoundary _ _ => true
  | .loopComputeStart _ => true
  | .loopComputeDone _ _ => true
  | .sampleMiss _ _ => true
  | .knkCommit _ _ => true
  | .knkLoad _ => true
  | .knkRead _ => true
  | .coeffWordWrite _ _ _ => true
  | .loopEnable _ _ _ => true
  | .traceTrigger _ => true
  | .traceWriteFail _ => true
  | .gussetLinear _ => true
  | .gussetQp _ => true
  | .microopCopy _ => true
  | .microopScale _ => true
  | .microopAdd _ => true
  | .microopTranspose _ => true
  | .gussetDeadline _ _ => true
  | .gussetOverrun _ => true
  | .gussetJobEnd _ => true
  | .plan _ => true
  | .planHeld => true
  | .quantumEnd => true
  | .edgeCheckDone _ => true
  | .planBudgetExpired _ => true
  | .modelLoad _ => true
  | .mapUpdate _ => true
  | .epochCommit => true
  | .frameRx _ frame => frameOk frame
  | .pdInputFrame _ frame => frameOk frame
  | .outHoldExpiry _ => true
  | .nodeTimeout _ => true
  | .nodeEnable _ _ => true
  | .gclCycleStart _ => true
  | .gclEntryExpiry _ => true
  | .plcaBeacon _ => true
  | .plcaOpportunity _ => true
  | .plcaCollision _ => true
  | .outOfSlot _ => true
  | .beaconConflict _ => true
  | .segmentNoise _ => true
  | .fcsError _ => true
  | .rxJabber _ => true
  | .txJabberCut _ => true
  | .txReenable _ => true
  | .tsyncFrame _ => true
  | .odsRead _ src dgram => udpOk src dgram
  | .odsWrite _ src dgram => udpOk src dgram
  | .odsReadBlock _ src dgram => udpOk src dgram
  | .odsWriteBlock _ src dgram => udpOk src dgram
  | .odsCaptureRelease _ => true
  | .odsResponseExpiry _ => true
  | .arpRequest _ frame => frameOk frame
  | .icmpEcho _ frame => frameOk frame
  | .pcieInboundAccess _ _ _ bs => busOk bs
  | .store => true
  | .storeErase => true
  | .storeDone _ => true
  | .dbgDataRead _ => true
  | .dbgDataWrite _ _ => true
  | .registerWrite _ addr size _ => accessOk addr size
  | .bitAliasWrite _ addr _ => aliasOk addr
  | .signatureSweepEnd _ => true
  | .snap _ => true
  | .commit _ => true
  | .snapAll => true
  | .commitAll => true
  | .cfgSigRefWrite _ _ => true
  | .powerGood _ => true
  | .porst => true
  | .warmRst => true
  | .resetCmd _ => true
  | .resetCmdDelay _ => true
  | .stageLoaded _ _ => true
  | .secVersionAdvance => true
  | .hello => true
  | .offer _ src msg => udpOk src msg
  | .data _ src msg => udpOk src msg
  | .getResend => true
  | .recoveryReset _ => true
  | .fwStage _ _ bs _ => pieceOk bs
  | .fwApply => true
  | .fwVerifyDone => true
  | .fwWriteDone => true
  | .ownerFuse hash => octetsOk hash
  | .nonce _ bs => octetsOk bs
  | .reportReady _ => true
  | .calWrite index sub bs => calOk index sub bs
  | .lifetimeSecond mv => fits 32 mv
  | .logWrite _ => true
  | .capPeriod measured acts => powerOk measured acts
  | .dividerStep _ => true
  | .railSlewDone _ => true
  | .droopDetect _ => true
  | .droopClear _ => true
  | .droopLong _ => true
  | .thermalSample temps => tempsOk temps
  | .throttleStep _ => true
  | .railsOff => true
  | .clockFault _ => true
  | .pllRelock _ => true
  | .gateWrite _ _ => true
  | .idleClockStop _ => true
  | .errorRecord rec => recordOk rec
  | .recordHandle => true
  | .lockstepMismatch => true
  | .cuffSupplyFault => true
  | .watchdogExpiry => true
  | .safeInTrip _ => true
  | .safeInDiscrepant => true
  | .stopReadback _ => true
  | .stop _ => true
  | .release _ => true
  | .stopRelease _ => true
  | .lock _ => true
  | .captureNow => true
  | .capArm => true
  | .cufRetest _ => true
  | .erqPop _ => true
  | .errPop _ => true
  | .checkCompareDone _ => true
  | .checkSkew _ => true
  | .checkAbsent _ => true
  | .ageExpiry _ => true
  | .selftestSlice _ => true
  | .selftestSliceDone _ _ => true
  | .coverageWarning _ => true
  | .coverageExpiry _ => true
  | .startupTestDone _ => true
  | .checkerTest => true
  | .checkerResult _ => true
  | .vinUndervoltage mv => fits 32 mv
  | .vinOvervoltage mv => fits 32 mv
  | .vinDip mv => fits 32 mv
  | .vinRise mv => fits 32 mv
  | .auxOverload ma => fits 16 ma
  | .auxRecover ma => fits 16 ma
  | .safeStopCurrentLimit _ => true
  | .i2cOffsetWrite _ => true
  | .i2cRead => true
  | .resetRelease _ => true
  | .requestDeadline _ => true
  | .safeInRun _ => true
  | .safeVextLoss mv => fits 32 mv
  | .vinOvRecover mv => fits 32 mv
  | .portLinkChange _ _ _ => true
  | .pcieLinkChange _ _ _ => true
  | .flashGarbageCollection _ => true
  | .debugResume _ _ => true
  | .memoryTrained _ => true
  | .teardownTimeout _ => true
  | .pllLock _ => true

end Sys2Proof
end

