-- ==== Sys2Proof/Certificates/Slice0/Obligations.lean ====
section
/-! DEFINITION. The statements about the model, each from the rules that its entry of OBLIGATIONS.json cites. -/

open Sys2Proof Sys2Proof.Machine

/-- A step runs the command at the front of the queue on the machine with the rest of it. With commands waiting, a step is
the execution of the first one on the same machine, whose queue is the rest; nothing else happens in that step. -/
def Obligations.StepRunsTheFrontCommand : Prop :=
  ∀ (s : State) (c : Instr) (rest : List Instr), step { s with pending := c :: rest } = exec c { s with pending := rest }

/-- With no command waiting a step is one tick of the four time bases. An idle step adds each base's INCR to its value,
with the value as TIME96 can hold it, and changes nothing else of a base or of the machine. That a tick happens in an
idle step, and the wrap at the end of TIME96's range, are the model's choices (log entries 3 and 51); R263 gives the
addition. -/
def Obligations.IdleStepTicksTheTimeBases : Prop :=
  ∀ s : State, s.pending = [] → ∃ t, step s = .next t ∧
    (∀ b : Fin 4, t.time.get b = { s.time.get b with val := ((s.time.get b).val + (s.time.get b).incr) % timeSpan }) ∧
    { t with time := s.time } = s

/-- Every command, in every state, is answered with a next state, and leaves the queue as it found it. No command faults
or is refused by the machine, and none adds, drops or reorders waiting commands: an error that the manual names is a
record, a status or a counter of the next state. -/
def Obligations.EveryCommandCompletes : Prop :=
  ∀ (c : Instr) (s : State), ∃ t, exec c s = .next t ∧ t.pending = s.pending

/-- After reset every time base is zero with INCR 4 ns, only TB0 is SET, and the limits of the bases hold. The reset
state's four bases hold 0, tick by 2^34 units of 2^-32 ns, have epoch 0 and no jump allowed; TB0 is SET and TB1 to TB3
are UNSET; no command waits; and the invariant of the time bases holds. -/
def Obligations.ResetMeetsTheTimeLimits : Prop :=
  State.reset.time.ok ∧ State.reset.pending = [] ∧
  ∀ b : Fin 4, State.reset.time.get b = { val := 0, incr := 2 ^ 34, isSet := b == 0, allowJump := false, epoch := 0, jumpLimit := 1000000 }

/-- Every step keeps the limits of the time bases. From any state in which each base's value is one that TIME96 holds, its
INCR is within 500 ppm of 4 ns, its epoch is a byte and its jump limit is in its range, and in which TB0 is SET with
epoch 0, its nominal INCR and no jump allowed, a step that answers a next state leaves a state of which the same is
true, whatever command it runs. -/
def Obligations.TimeBasesKeepTheirLimits : Prop :=
  ∀ s t : State, s.time.ok → step s = .next t → t.time.ok

/-- Nothing but a power-on or warm reset leaves the safe state. From any state in which CUF_STATE reads SAFE, a command
that is none of POWER_GOOD, PORST, WARM_RST, RESET_CMD_DELAY and RECOVERY_RESET leaves a state in which it reads SAFE,
and so does an idle step. -/
def Obligations.SafeStateEndsOnlyByReset : Prop :=
  ∀ (s t : State), s.inSafe = true →
    (∀ c : Instr, exec c s = .next t →
      t.inSafe = true ∨ (∃ r, c = .powerGood r) ∨ c = .porst ∨ c = .warmRst ∨ (∃ r, c = .resetCmdDelay r) ∨ ∃ r, c = .recoveryReset r) ∧
    (s.pending = [] → step s = .next t → t.inSafe = true)

/-- A write of TB_INCR of TB1, TB2 or TB3 sets the clamped rate for the next tick and changes nothing else. A write of v
to TB_INCR of base b, by a register write, an alias write or DBG_DATA, gives the base the INCR of v clamped to 4 ns ±
500 ppm; its value, state, STEP_EPOCH and the other bases stay, no register changes (so no log entry is made), and the
next tick adds exactly that INCR, in units of 2^-32 ns, to the value. -/
def Obligations.IncrWritesClamp : Prop :=
  ∀ (s : State) (c : Instr) (ag : Agent) (b : Fin 4) (v : Nat), b ≠ 0 → s.writes c ag (Reg.TB_INCR b) v →
    ∃ t, exec c s = .next t ∧
      t.time.get b = { s.time.get b with incr := clampNat 0x3FF7CED91 0x40083126F (bits v 0 35) } ∧
      (∀ b' : Fin 4, b' ≠ b → t.time.get b' = s.time.get b') ∧ t.regs = s.regs ∧
      ∀ u, step { t with pending := [] } = .next u →
        (u.time.get b).val = ((s.time.get b).val + clampNat 0x3FF7CED91 0x40083126F (bits v 0 35)) % timeSpan

/-- A Seam replay changes nothing but the Seam counters of its link. SEAM_REPLAY of any link completes in every state, and
every part of the machine but the numeric dictionary is as before; of the dictionary at most the four Seam counters of
that link differ. No request, register, result or memory changes, so no result or status does. -/
def Obligations.ReplaysAreInvisible : Prop :=
  ∀ (s : State) (k : Fin 11) (flits : SeamFlits) (ns : Nat), ∃ t, exec (.seamReplay k flits ns) s = .next t ∧ { t with dict := s.dict } = s ∧
    ∀ e, (∀ j, 1 ≤ j → j ≤ 4 → e ≠ dictKey (0x5200 + k) j) →
      SMap.get dictReset t.dict e = SMap.get dictReset s.dict e

/-- A store to the unified range reads back, leaves every other byte and keeps the memory's canonical form. After bytes
are stored from an address on, a read of as many bytes there gives them, every byte outside reads as before, no other
part of the machine changes, and a memory in its canonical form keeps it. What a byte that nothing has written reads
as is the model's choice (log entry 2). -/
def Obligations.StoredBytesReadBack : Prop :=
  ∀ (s : State) (a : Nat) (bs : Bytes),
    (s.poke a bs).peek a bs.length = bs ∧
    (∀ j n, j + n ≤ a ∨ a + bs.length ≤ j → (s.poke a bs).peek j n = s.peek j n) ∧
    { s.poke a bs with umem := s.umem } = s ∧
    (Memory.wf s.umem = true → Memory.wf (s.poke a bs).umem = true)

/-- A Gauntlet tile that passes its checks starts on the Gauntlet of its part. For MATRIX_TILE, CONVOLUTION_TILE,
POOLING_TILE and SCAN_TILE: where the engines run, the part may dispatch its next command, that command is read and has
the tile's OPCODE, no self-test or quarantine holds the Gauntlet, the dispatch checks name no error, a scan tile's slot
is granted to the part and no state slot stands in the way, the command completes with the tile of that request and
part running on the Gauntlet, GNT_TILE_EST holding its estimate and cost, and every byte of the unified range as before;
a matrix, convolution or pooling tile leaves every Gauntlet buffer as it was at its dispatch too.
Completion: this states that exec answers a next state with the effect of its own, under conditions on the state and
the operands alone, for each of matrixTile, convolutionTile, poolingTile, scanTile. -/
def Obligations.TilesStartAtDispatch : Prop :=
  (∀ (s v : State) (r p g : Nat) (q : Request) (x : Part) (d : Bytes), s.tileAt v r p 0x10 q x g d → v.matrixMask g q.ctx d = 0 →
    (v.guardSlots g (writeParts (matrixRegions d).1) none).2 = true →
    ∃ t, exec (.matrixTile r p) s = .next t ∧ t.tileRuns r p g (fieldLE d 0x10 4) (matrixCost d) ∧
      (∀ a, Memory.byte t.umem a = Memory.byte s.umem a) ∧ ∀ a, Memory.byte t.gbuf a = Memory.byte s.gbuf a) ∧
  (∀ (s v : State) (r p g : Nat) (q : Request) (x : Part) (d : Bytes), s.tileAt v r p 0x30 q x g d → v.winMask g q.ctx d = 0 →
    (v.guardSlots g (writeParts (winRegions d).1) none).2 = true →
    ∃ t, exec (.convolutionTile r p) s = .next t ∧ t.tileRuns r p g (fieldLE d 0x10 4) (winCost d) ∧
      (∀ a, Memory.byte t.umem a = Memory.byte s.umem a) ∧ ∀ a, Memory.byte t.gbuf a = Memory.byte s.gbuf a) ∧
  (∀ (s v : State) (r p g : Nat) (q : Request) (x : Part) (d : Bytes), s.tileAt v r p 0x34 q x g d → v.winMask g q.ctx d = 0 →
    (v.guardSlots g (writeParts (winRegions d).1) none).2 = true →
    ∃ t, exec (.poolingTile r p) s = .next t ∧ t.tileRuns r p g (fieldLE d 0x10 4) (winCost d) ∧
      (∀ a, Memory.byte t.umem a = Memory.byte s.umem a) ∧ ∀ a, Memory.byte t.gbuf a = Memory.byte s.gbuf a) ∧
  (∀ (s v w : State) (r p g : Nat) (q : Request) (x : Part) (d : Bytes), s.tileAt v r p 0x40 q x g d →
    v.scanMask g q.ctx q.tag d (v.scanHeader g d) = 0 →
    v.guardSlots g (writeParts (scanRegions d (v.scanHeader g d)).1) (some ((scanOf d).slot, fieldLE d 0x34 4)) = (w, true) →
    (w.scanGrant q g r p d).2 = true →
    ∃ t, exec (.scanTile r p) s = .next t ∧ t.tileRuns r p g (fieldLE d 0x10 4) (scanCost d) ∧
      ∀ a, Memory.byte t.umem a = Memory.byte s.umem a)

/-- Tiles complete or overrun and state slots swap out or are restored. Where the engines run: TILE_COMPLETE of a running
tile adds one to GNT_CNT_TILES and its cost to GNT_CNT_BUSY, and GNT_TILE_CYC reads its cost; TILE_OVERRUN of a
running tile adds one to GNT_CNT_OVERRUN; SLOT_SWAP_OUT_DONE of a slot that swaps out leaves the slot in phase 0 (home
only), or 3 (its restore has started) where a chunk waits for it; SLOT_RESTORE_DONE of a slot whose home copy is there and
passes its check, with the buffer place free, puts the slot in the buffer named, still meant for the chunk that waits, with
its step and stagnation counts at zero.
Completion: this states that exec answers a next state with the effect of its own, under conditions on the state and
the operands alone, for each of tileComplete, tileOverrun, slotSwapOutDone, slotRestoreDone. -/
def Obligations.TilesAndSlotsEnd : Prop :=
  (∀ (s : State) (g : Fin 16) (tl : Tile), s.running = true → (s.gntOf g).tile = some tl →
    ∃ t, exec (.tileComplete g) s = .next t ∧
      t.reg (Reg.GNT_CNT_TILES g) = s.reg (Reg.GNT_CNT_TILES g) + 1 ∧
      t.reg (Reg.GNT_CNT_BUSY g) = s.reg (Reg.GNT_CNT_BUSY g) + BitVec.ofNat 64 tl.cost ∧
      t.reg (Reg.GNT_TILE_CYC g) = BitVec.ofNat 64 tl.cost) ∧
  (∀ (s : State) (g : Fin 16) (tl : Tile), s.running = true → (s.gntOf g).tile = some tl →
    ∃ t, exec (.tileOverrun g) s = .next t ∧
      t.reg (Reg.GNT_CNT_OVERRUN g) = s.reg (Reg.GNT_CNT_OVERRUN g) + 1) ∧
  (∀ (s : State) (a : Nat) (y : Slot), s.running = true → s.slotAt a = some y → y.phase = 2 →
    ∃ t, exec (.slotSwapOutDone a) s = .next t ∧
      t.slotAt a = some (if y.target.isSome then { y with phase := 3, chunk := none } else { y with phase := 0 })) ∧
  (∀ (s : State) (a r p : Nat) (y : Slot), s.running = true → s.slotAt a = some y → y.phase = 3 →
    y.target = some (r, p) → s.fetching a (64 + slotStateBytes (s.peek a 64)) = false → s.restoreCause a .read = none →
    (s.guardSlots y.tg [(y.toff, slotCopyBytes (s.peek a 64))] none).2 = true →
    ∃ t, exec (.slotRestoreDone a .read) s = .next t ∧
      t.slotAt a = some { y with g := y.tg, off := y.toff, phase := 1, chunk := none, steps := 0, stag := 0, chunkLen := 0 })

/-- Attention calls start, count their work items and end. Where the engines run: ATTENTION_CALL of a call that passes its
checks, and SEQ_CALL_RELEASED of such a call that waits at the manager, give the call to the attention unit of the
Palm chosen, ATT_STATE reading busy with the context; ATT_WORK_ITEM_DONE on a unit with items left, one of which some
Gauntlet runs, adds one to ATT_CNT_ITEMS; ATTENTION_CALL_END of a call with no item left, whose output ranges wait for
nothing, adds one to ATT_CNT_CALLS.
Completion: this states that exec answers a next state with the effect of its own, under conditions on the state and
the operands alone, for each of attentionCall, seqCallReleased, attWorkItemDone, attentionCallEnd. -/
def Obligations.AttentionCallsProgress : Prop :=
  (∀ (s s1 : State) (r : Nat) (q : Request) (palm : Nat) (rows : List AttRow), s.running = true →
    s.engReq r [2] = some q → s.peekN q.cmdAddr 1 = 0x20 → s.attPalm r = none →
    s.attCheck r q = (s1, some (palm, rows)) →
    ∃ t, exec (.attentionCall r) s = .next t ∧
      t.reg (Reg.ATT_STATE palm) = BitVec.ofNat 64 (2 + q.ctx * 2 ^ 8) ∧
      (t.att.find palm).map (·.req) = some r) ∧
  (∀ (s s1 : State) (r : Nat) (q : Request) (palm : Nat) (rows : List AttRow), s.running = true →
    s.attWait.contains r = true → s.engReq r [2] = some q → s.peekN q.cmdAddr 1 = 0x20 → s.attPalm r = none →
    s.attCheck r q = (s1, some (palm, rows)) →
    ∃ t, exec (.seqCallReleased r) s = .next t ∧
      t.reg (Reg.ATT_STATE palm) = BitVec.ofNat 64 (2 + q.ctx * 2 ^ 8) ∧
      (t.att.find palm).map (·.req) = some r) ∧
  (∀ (s : State) (p : Fin 4) (x : AttCall) (q : Request), s.running = true → s.att.find p = some x →
    s.req x.req = some q → x.items ≠ 0 → s.attGnts q p ≠ [] ∨ x.gnts ≠ [] ∨ x.draining ≠ 0 →
    ∃ t, exec (.attWorkItemDone p) s = .next t ∧
      t.reg (Reg.ATT_CNT_ITEMS p) = s.reg (Reg.ATT_CNT_ITEMS p) + 1) ∧
  (∀ (s u : State) (p : Fin 4) (x : AttCall) (q : Request), s.running = true → s.att.find p = some x →
    s.req x.req = some q → x.items = 0 → s.stillWaits x.req = false →
    s.engineAccess x.req q p (asWrites (s.callOuts x)) = (u, .ready) →
    ∃ t, exec (.attentionCallEnd p) s = .next t ∧
      t.reg (Reg.ATT_CNT_CALLS p) = u.reg (Reg.ATT_CNT_CALLS p) + 1)

/-- KV commands change the record of the sequence they name. Where the engines run, the next command of a KV request is
read and no earlier work holds its sequence: INIT of a sequence that is not active, with its template read and pages
enough, makes its record the template's with the sequence active, both counts zero, its pages held and the context
noted; COMMIT of a value from COMMIT to TENT sets COMMIT and adds the difference to KVR_CNT_TOK_COMMIT; ROLLBACK of an
active sequence sets TENT to COMMIT, clears the pending layers and the tag, and breaks the sequence where R83 says so;
TRUNCATE of a value up to COMMIT sets both counts to it; FREE leaves no record. Records of other sequences stay as they
were.
Completion: this states that exec answers a next state with the effect of its own, under conditions on the state and
the operands alone, for each of kvInit, kvCommit, kvRollback, kvTruncate, kvFree. -/
def Obligations.KvCommandsChangeTheirSequence : Prop :=
  ∀ (s u : State) (r id : Nat) (q : Request) (x : Part),
    (∀ v : State, s.kvReady u r 1 q x id → (u.seq id).map (·.st) ≠ some 1 → u.stillWaits r = false →
      u.readMade v q.ctx (id % 4) (fieldLE (u.peek x.addr 32) 0x10 8) 64 r →
      (let tpl := SeqRec.ofBytes (v.peek (fieldLE (u.peek x.addr 32) 0x10 8) 64)
       let need := if tpl.mode = 1 then tpl.layers * tpl.ring else 0
       need ≤ (v.returnPages id).kvFree (id % 4) → ∃ t, exec (.kvInit r) s = .next t ∧
         s.seqBecomes t id (some { tpl with st := 1, commit := 0, tent := 0, held := need, ctx := q.ctx }))) ∧
    (∀ (v : Nat) (z : SeqRec), s.kvReady u r 2 q x id → u.seq id = some z → z.st ≠ 0 →
      v = fieldLE (u.peek x.addr 32) 8 4 → z.commit ≤ v → v ≤ z.tent →
      ∃ t, exec (.kvCommit r) s = .next t ∧
        s.seqBecomes t id (some { z with commit := v, tag := if v = z.tent then 0 else z.tag }) ∧
        t.reg (Reg.KVR_CNT_TOK_COMMIT (id % 4)) =
          u.reg (Reg.KVR_CNT_TOK_COMMIT (id % 4)) + BitVec.ofNat 64 (v - z.commit)) ∧
    (∀ z : SeqRec, s.kvReady u r 3 q x id → u.seq id = some z → z.st = 1 →
      ∃ t h, exec (.kvRollback r) s = .next t ∧
        s.seqBecomes t id (some { z with st := if z.breaks then 2 else 1, nextLayer := 0, pend := 0, tent := z.commit, tag := 0,
                                         held := h })) ∧
    (∀ (v : Nat) (z : SeqRec), s.kvReady u r 4 q x id → u.seq id = some z → z.st ≠ 0 →
      v = fieldLE (u.peek x.addr 32) 8 4 → v ≤ z.commit → (z.mode = 1 → v = 0) →
      ∃ t z1, exec (.kvTruncate r) s = .next t ∧ s.seqBecomes t id (some z1) ∧ z1.commit = v ∧ z1.tent = v ∧ z1.pend = 0) ∧
    (s.kvReady u r 5 q x id → ∃ t, exec (.kvFree r) s = .next t ∧ s.seqBecomes t id none)

/-- ROUTE and COMBINE end their request; CROP_AND_RESIZE starts and CROP_BOX_DONE counts its box. Where the engines run:
ROUTE and COMBINE whose descriptor passes its checks, whose inputs are resident, whose outputs wait for nothing and are
all written are no longer in flight afterwards; CROP_AND_RESIZE that passes its checks takes the sampler front, VIS_CR_STATE reading
busy with the context; CROP_BOX_DONE whose inputs are resident and whose box is written adds one to VIS_CR_CNT_BOXES.
Completion: this states that exec answers a next state with the effect of its own, under conditions on the state and
the operands alone, for each of route, combine, cropAndResize, cropBoxDone. -/
def Obligations.RouteCombineAndCropComplete : Prop :=
  (∀ (s s1 : State) (r palm : Nat) (q : Request) (d : Bytes), s.running = true → s.engReq r [2] = some q →
    d = s.peek q.cmdAddr 128 → s.peekN q.cmdAddr 1 = 0x22 → s.attPalm r = none →
    s.routePlace q [(fieldLE d 0x10 8, Nat.min 16777216 (fieldLE d 8 4 * fieldLE d 4 2 * 4))] = some palm →
    routeMask q.cmdAddr d = 0 → s.engineReads r q palm (routeIns d) (routeOuts d) true = (s1, .ready) →
    (s1.routeWrites r q palm d).2 = 0 →
    ∃ t, exec (.route r) s = .next t ∧ t.req r = none) ∧
  (∀ (s s1 s2 : State) (r palm : Nat) (q : Request) (d : Bytes), s.running = true → s.engReq r [2] = some q →
    d = s.peek q.cmdAddr 128 → s.peekN q.cmdAddr 1 = 0x23 → s.attPalm r = none →
    s.routePlace q [(fieldLE d 0x10 8, Nat.min 16777216 (fieldLE d 8 4 * fieldLE d 0x28 4))] = some palm →
    combineMask q.cmdAddr d = 0 → s.engineReads r q palm (combineTab d) (combineOuts d) = (s1, .ready) →
    s1.combineStray d = false →
    s1.engineReads r q palm (s1.combineIns d) (combineOuts d) true = (s2, .ready) →
    (s2.combineWrites r q palm d).2 = 0 →
    ∃ t, exec (.combine r) s = .next t ∧ t.req r = none) ∧
  (∀ (s s1 : State) (r : Nat) (q : Request) (d : Bytes), s.running = true → s.engReq r [4] = some q →
    d = s.peek q.cmdAddr 128 → fieldLE d 0 1 = 0x35 → s.crop = none → s.gateOn 0x92 = true → cropMask q.cmdAddr d = 0 →
    s.engineReads r q 4 [(fieldLE d 0x18 8, 32 * fieldLE d 4 2)] [] = (s1, .ready) →
    ∃ t, exec (.cropAndResize r) s = .next t ∧ t.crop = some ⟨r, 0, []⟩ ∧
      t.reg Reg.VIS_CR_STATE = BitVec.ofNat 64 (1 + q.ctx * 2 ^ 8)) ∧
  (∀ (s s1 : State) (x : Crop) (q : Request) (d : Bytes), s.running = true → s.crop = some x → s.req x.req = some q →
    d = s.peek q.cmdAddr 128 → s.engineReads x.req q 4 (s.cropIns d x.box) (cropBoxOuts d x.box) true = (s1, .ready) →
    (s1.cropWrite (s1.cropView x.written) x.req q d x.box).1.2 = 0 →
    ∃ t, exec .cropBoxDone s = .next t ∧ t.reg Reg.VIS_CR_CNT_BOXES = s.reg Reg.VIS_CR_CNT_BOXES + 1)

/-- Finger instructions that only touch the Finger, and nothing else in the device. A Finger that executes, on a Mitten
that is not quarantined: FENCE and FENCE.I only advance pc and the retired count; XF.MSGSTAT puts the four inbox
counts into rd; XF.XTEST of ticket 0 to 7 puts 1 into rd where the ticket is idle, else 0; XF.XWAIT of an idle ticket,
and XF.WAITMSG with a message waiting, retire; XF.BAR and XF.GBAR arrive and wait; XF.EXIT with every ticket idle and
another Finger of the launch running ends the Finger and its reservation; XF.RECV takes the oldest message of its
inbox into rd. The next state is the entry state but for this Finger: every register, memory, queue and other Finger
is unchanged.
Completion: this states that exec answers a next state with the effect of its own, under conditions on the state and
the operands alone, for each of fence, fenceI, xfMsgstat, xfXtest, xfXwait, xfWaitmsg, xfBar, xfGbar, xfExit, xfRecv. -/
def Obligations.FingerRegisterInstructionsRetire : Prop :=
  ∀ (s : State) (f : Fin 4096) (x : Finger) (l : Launch), s.fngAt f x l →
    (∀ p q, exec (.fence f p q) s = .next (s.putFng f (x.adv 4))) ∧
    exec (.fenceI f) s = .next (s.putFng f (x.adv 4)) ∧
    (∀ rd, exec (.xfMsgstat f rd) s = .next (s.putFng f ((x.setX rd ((x.inboxOf 0).length + (x.inboxOf 1).length * 16 +
      (x.inboxOf 2).length * 256 + (x.inboxOf 3).length * 4096)).adv 4))) ∧
    (∀ rd rs1 : Fin 32, x.getX rs1 ≤ 7 → exec (.xfXtest f rd rs1) s =
      .next (s.putFng f ((x.setX rd (if nth none x.tickets (x.getX rs1) = none then 1 else 0)).adv 4))) ∧
    (∀ rs1 : Fin 32, x.getX rs1 ≤ 7 → nth none x.tickets (x.getX rs1) = none →
      exec (.xfXwait f rs1) s = .next (s.putFng f (x.adv 4))) ∧
    (x.inboxOf 0 ≠ [] ∨ x.inboxOf 1 ≠ [] ∨ x.inboxOf 2 ≠ [] ∨ x.inboxOf 3 ≠ [] →
      exec (.xfWaitmsg f) s = .next (s.putFng f (x.adv 4))) ∧
    exec (.xfBar f) s = .next (s.putFng f { x with wait := .bar }) ∧
    exec (.xfGbar f) s = .next (s.putFng f { x with wait := .gbar }) ∧
    ((∀ k, k < 8 → nth none x.tickets k = none) →
      (∃ k y, k ≠ f.val ∧ (k, y) ∈ (s.putFng f { x with resv := none, run := 2, retired := x.retired + 1 }).fingers.entries ∧
        y.launch = x.launch ∧ y.run = 1) →
      exec (.xfExit f) s = .next (s.putFng f { x with resv := none, run := 2, retired := x.retired + 1 })) ∧
    (∀ (rd rs1 : Fin 32) m ms, x.getX rs1 ≤ 3 → x.inboxOf (x.getX rs1) = m :: ms → exec (.xfRecv f rd rs1) s =
      .next (s.putFng f (({ x with inbox := x.inbox.set (x.getX rs1) ms }.setX rd m.toNat).adv 4)))

/-- XF.SEND, XF.TSEND, the work queues, resumed stalls, barriers and drained queues. XF.SEND and XF.TSEND to a Finger that
runs and has fewer than 8 messages in the opposite inbox append the value there, count it in that Mitten's MTN_CNT_MSG
and retire, TSEND with 1 in rd. XF.QPUSH of a value other than 0xFFFF_FFFF to a queue with fewer than 256 entries
appends it; XF.QPOP of a queue with entries takes the oldest into rd. STALL_RESUME of a Finger that waits in XF.RECV
takes the message that has come. BARRIER_RELEASE with every Finger of the Mitten that has not exited waiting in XF.BAR
counts in MTN_CNT_BAR and lets each of them go on; QUEUE_DRAINED gives 0xFFFF_FFFF to each Finger of the Mitten that
waits in XF.QPOP.
Completion: this states that exec answers a next state with the effect of its own, under conditions on the state and
the operands alone, for each of xfSend, xfTsend, xfQpush, xfQpop, stallResume, barrierRelease, queueDrained. -/
def Obligations.FingerMessagesQueuesAndBarriers : Prop :=
  (∀ (s : State) (f : Fin 4096) (x : Finger) (l : Launch) (rd rs1 rs2 : Fin 32) (n : Nat), s.fngAt f x l →
    x.getX rs2 ≤ 3 → l.neighbour f (x.getX rs2) = some n → (s.fngOf n).run ≠ 2 →
    ((s.fngOf n).inboxOf ((x.getX rs2 + 2) % 4)).length < 8 →
    (let inb := (x.getX rs2 + 2) % 4
     let msgs := (s.fngOf n).inboxOf inb ++ [BitVec.ofNat 32 (x.getX rs1)]
     let u := (s.putFng n { s.fngOf n with inbox := (s.fngOf n).inbox.set inb msgs }).bump (Reg.MTN_CNT_MSG (n / 64))
     exec (.xfSend f rs1 rs2) s = .next (u.putFng f (x.adv 4)) ∧
     exec (.xfTsend f rd rs1 rs2) s = .next (u.putFng f ((x.setX rd 1).adv 4)))) ∧
  (∀ (s : State) (f : Fin 4096) (x : Finger) (l : Launch) (rs1 rs2 : Fin 32), s.fngAt f x l → x.getX rs1 ≤ 15 →
    x.getX rs2 ≠ 0xFFFFFFFF → (s.mqueue (f / 64) (x.getX rs1)).length < 256 →
    exec (.xfQpush f rs1 rs2) s = .next ((s.setMqueue (f / 64) (x.getX rs1)
      (s.mqueue (f / 64) (x.getX rs1) ++ [BitVec.ofNat 32 (x.getX rs2)])).putFng f (x.adv 4))) ∧
  (∀ (s : State) (f : Fin 4096) (x : Finger) (l : Launch) (rd rs1 : Fin 32) (m : BitVec 32) (ms : List (BitVec 32)),
    s.fngAt f x l → x.getX rs1 ≤ 15 → s.mqueue (f / 64) (x.getX rs1) = m :: ms →
    exec (.xfQpop f rd rs1) s = .next ((s.setMqueue (f / 64) (x.getX rs1) ms).putFng f ((x.setX rd m.toNat).adv 4))) ∧
  (∀ (s : State) (f : Fin 4096) (x : Finger) (l : Launch) (rd d : Nat) (m : BitVec 32) (ms : List (BitVec 32)),
    s.running = true → s.fngLive f = some (x, l) → x.wait = .recv rd d → d ≤ 3 → x.inboxOf d = m :: ms →
    exec (.stallResume f) s =
      .next (s.putFng f (({ x with inbox := x.inbox.set d ms, wait := .none }.setX rd m.toNat).adv 4))) ∧
  (∀ (s : State) (r : Nat) (k : Fin 64) (l : Launch), s.running = true → s.launches.find r = some l → l.halted = false →
    l.groups.contains k.val = true → s.liveFingers r (fun g => g / 64 == k.val) ≠ [] →
    (∀ e ∈ s.liveFingers r (fun g => g / 64 == k.val), e.2.wait = .bar) →
    ∃ t, exec (.barrierRelease r (some k)) s = .next t ∧
      t.reg (Reg.MTN_CNT_BAR k) = s.reg (Reg.MTN_CNT_BAR k) + 1 ∧
      ∀ g y, s.fingers.find g = some y → y.launch = r → y.run = 1 → g / 64 = k.val →
        t.fingers.find g = some ({ y with wait := .none }.adv 4)) ∧
  (∀ (s : State) (m : Fin 64) (q : Fin 16), s.running = true → s.queueDry m q = true →
    ∃ t, exec (.queueDrained m q) s = .next t ∧ t.regs = s.regs ∧
      ∀ g y rd k, s.fingers.find g = some y → g / 64 = m.val → y.run = 1 → y.wait = .pop rd k →
        t.fingers.find g = some (({ y with wait := .none }.setX rd 0xFFFFFFFF).adv 4))

/-- Load-reserved, store-conditional, the AMOs and the Xfng atomics on a word; XF.AMOADD.F and its kin count. A Finger
that executes, with the address in rs1 a multiple of 4 in its data, shared or scratch region: LR.W loads the word,
reserves it and changes nothing else but the number of free values; SC.W with the reservation on that word stores rs2
and writes 0 to rd, and without it stores nothing and writes 1; each AMO and each Xfng atomic loads the old word into
rd and stores what its rule gives (AMOINCS only where the old word is below rs2, AMOCAS only where it equals rs2),
ends the reservation and changes no other byte; the four floating-point atomics add one to FNG_CNT_AMO_FP.
vfredusum.vs with legal operands writes element 0 with the sum of vs1's element 0 and the active elements in order,
and retires.
Completion: this states that exec answers a next state with the effect of its own, under conditions on the state and
the operands alone, for each of loadReserved, storeConditional, atomicMemoryOp, xfAmoaddF, xfAmominF, xfAmomaxF,
xfAmoaddH2, xfAmoincs, xfAmocas, vfredusum. -/
def Obligations.FingerAtomicsOnAWord : Prop :=
  (∀ (s : State) (f : Fin 4096) (x : Finger) (l : Launch) (rd rs1 rs2 rs3 : Fin 32) (sp k : Nat), s.fngAt f x l →
    atomicPlace l f (x.getX rs1) sp k →
    (let old := leNat (s.spaceRead l sp k 4)
     let v := x.getX rs2
     exec (.loadReserved f rd rs1) s =
       .next ((s.freshN 4).putFng f (({ x with resv := some (sp, k) }.setX rd old).adv 4)) ∧
     (x.resv ≠ some (sp, k) →
       exec (.storeConditional f rd rs1 rs2) s = .next (s.putFng f (({ x with resv := none }.setX rd 1).adv 4))) ∧
     (x.resv = some (sp, k) → ∃ t, exec (.storeConditional f rd rs1 rs2) s = .next t ∧ (t.fngOf f).resv = none ∧
       (t.fngOf f).x = (x.setX rd 0).x ∧ ∀ i, i < 4 → t.spaceByte l sp (k + i) = nth 0 (natLE 4 v) i) ∧
     (∀ op, ∃ t, exec (.atomicMemoryOp f op rd rs1 rs2) s = .next t ∧ s.atomicDone t f x l rd sp k (some (amoVal op old v))) ∧
     (∃ t, exec (.xfAmoaddF f rd rs1 rs2) s = .next t ∧ s.atomicDone t f x l rd sp k (some (rvAdd fp32 0 old v).1) ∧
       t.reg (Reg.FNG_CNT_AMO_FP (f / 1024)) = s.reg (Reg.FNG_CNT_AMO_FP (f / 1024)) + 1) ∧
     (∃ t, exec (.xfAmominF f rd rs1 rs2) s = .next t ∧ s.atomicDone t f x l rd sp k (some (rvMinMax fp32 false old v).1) ∧
       t.reg (Reg.FNG_CNT_AMO_FP (f / 1024)) = s.reg (Reg.FNG_CNT_AMO_FP (f / 1024)) + 1) ∧
     (∃ t, exec (.xfAmomaxF f rd rs1 rs2) s = .next t ∧ s.atomicDone t f x l rd sp k (some (rvMinMax fp32 true old v).1) ∧
       t.reg (Reg.FNG_CNT_AMO_FP (f / 1024)) = s.reg (Reg.FNG_CNT_AMO_FP (f / 1024)) + 1) ∧
     (∃ t, exec (.xfAmoaddH2 f rd rs1 rs2) s = .next t ∧ s.atomicDone t f x l rd sp k (some
         ((rvAdd fp16 0 (old % 65536) (v % 65536)).1 + (rvAdd fp16 0 (old / 65536) (v / 65536)).1 * 65536)) ∧
       t.reg (Reg.FNG_CNT_AMO_FP (f / 1024)) = s.reg (Reg.FNG_CNT_AMO_FP (f / 1024)) + 1) ∧
     (∃ t, exec (.xfAmoincs f rd rs1 rs2) s = .next t ∧
       s.atomicDone t f x l rd sp k (if old < v then some (old + 1) else none)) ∧
     (∃ t, exec (.xfAmocas f rd rs1 rs2 rs3) s = .next t ∧
       s.atomicDone t f x l rd sp k (if old = v then some (x.getX rs3) else none)))) ∧
  (∀ (s : State) (f : Fin 4096) (x : Finger) (l : Launch) (vd vs2 vs1 : Fin 32) (vm : Bool) (fm : FpFmt) (rm : Nat),
    s.fngAt f x l → vFmt x.sew = some fm → x.rmOf 7 = some rm → (x.csrN 0xC21).testBit 31 = false →
    groupOk vs2 x.lm8 = true → x.csrN 8 = 0 →
    ∃ (t u : State) (y : Finger), exec (.vfredusum f vd vs2 vs1 vm) s = .next t ∧ t.fingers.find f = some y ∧
      s.vWrite0 x vd x.sew (vfSum fm fm rm (x.getE vs1 x.sew 0) ((x.active vm).map (fun i => x.getE vs2 x.sew i))) = .ok u y ∧
      t.regs = s.regs ∧ t.lmem = s.lmem ∧ t.smem = s.smem ∧ t.scr = s.scr)

/-- The sorted-list instructions and the hash-table instructions retire with their result in rd. A Finger that executes a
list instruction whose block, elements and output lie where it may load and store retires with the stop code of the
steps in rd and the stores as the steps and the block's write-back left them. XF.HPROBE of a legal table puts the
address of the value of the slot found into rd, or 0; XF.HINSERT of a key other than 0xFFFF_FFFF puts that address
plus 1 where the key was there, 0 where there is no slot, and where it claims an empty slot stores the key and rs3
there and gives the address of the value.
Completion: this states that exec answers a next state with the effect of its own, under conditions on the state and
the operands alone, for each of xfMergeW, xfUnionW, xfIsectW, xfDiffW, xfMergeKv, xfUnionKv, xfIsectKv, xfDiffKv,
xfHprobe, xfHinsert. -/
def Obligations.FingerListAndHashInstructions : Prop :=
  (∀ (s u : State) (f : Fin 4096) (x : Finger) (l : Launch) (rd rs1 rs2 : Fin 32) (r : Nat), s.fngAt f x l →
    (s.listRun l f x 0 4 rs1 rs2 u r → ∃ t, exec (.xfMergeW f rd rs1 rs2) s = .next t ∧
      t.fngIs f (((x.withTickets u f).setX rd r).adv 4) u) ∧
    (s.listRun l f x 1 4 rs1 rs2 u r → ∃ t, exec (.xfUnionW f rd rs1 rs2) s = .next t ∧
      t.fngIs f (((x.withTickets u f).setX rd r).adv 4) u) ∧
    (s.listRun l f x 2 4 rs1 rs2 u r → ∃ t, exec (.xfIsectW f rd rs1 rs2) s = .next t ∧
      t.fngIs f (((x.withTickets u f).setX rd r).adv 4) u) ∧
    (s.listRun l f x 3 4 rs1 rs2 u r → ∃ t, exec (.xfDiffW f rd rs1 rs2) s = .next t ∧
      t.fngIs f (((x.withTickets u f).setX rd r).adv 4) u) ∧
    (s.listRun l f x 0 8 rs1 rs2 u r → ∃ t, exec (.xfMergeKv f rd rs1 rs2) s = .next t ∧
      t.fngIs f (((x.withTickets u f).setX rd r).adv 4) u) ∧
    (s.listRun l f x 1 8 rs1 rs2 u r → ∃ t, exec (.xfUnionKv f rd rs1 rs2) s = .next t ∧
      t.fngIs f (((x.withTickets u f).setX rd r).adv 4) u) ∧
    (s.listRun l f x 2 8 rs1 rs2 u r → ∃ t, exec (.xfIsectKv f rd rs1 rs2) s = .next t ∧
      t.fngIs f (((x.withTickets u f).setX rd r).adv 4) u) ∧
    (s.listRun l f x 3 8 rs1 rs2 u r → ∃ t, exec (.xfDiffKv f rd rs1 rs2) s = .next t ∧
      t.fngIs f (((x.withTickets u f).setX rd r).adv 4) u)) ∧
  (∀ (s u : State) (f : Fin 4096) (x : Finger) (l : Launch) (rd rs1 rs2 rs3 : Fin 32) (a : Nat), s.fngAt f x l →
    (s.xfProbe l f (x.getX rs1) (x.getX rs2) = .found u a →
      (∃ t, exec (.xfHprobe f rd rs1 rs2) s = .next t ∧ t.fngIs f ((x.setX rd ((a + 4) % 2 ^ 32)).adv 4) u) ∧
      (x.getX rs2 ≠ 0xFFFFFFFF → ∃ t, exec (.xfHinsert f rd rs1 rs2 rs3) s = .next t ∧
        t.fngIs f ((x.setX rd ((a + 5) % 2 ^ 32)).adv 4) u)) ∧
    (s.xfProbe l f (x.getX rs1) (x.getX rs2) = .missing u →
      (∃ t, exec (.xfHprobe f rd rs1 rs2) s = .next t ∧ t.fngIs f ((x.setX rd 0).adv 4) u) ∧
      (x.getX rs2 ≠ 0xFFFFFFFF → ∃ t, exec (.xfHinsert f rd rs1 rs2 rs3) s = .next t ∧
        t.fngIs f ((x.setX rd 0).adv 4) u)) ∧
    (s.xfProbe l f (x.getX rs1) (x.getX rs2) = .empty u a →
      (∃ t, exec (.xfHprobe f rd rs1 rs2) s = .next t ∧ t.fngIs f ((x.setX rd 0).adv 4) u) ∧
      ∀ v w, u.fstore l f a 8 8 (x.getX rs2 + x.getX rs3 * 2 ^ 32) = .val v w → x.getX rs2 ≠ 0xFFFFFFFF →
        ∃ t, exec (.xfHinsert f rd rs1 rs2 rs3) s = .next t ∧
          t.fngIs f (((x.withTickets v f).setX rd ((a + 4) % 2 ^ 32)).adv 4) v))

/-- Launches are claimed and started; Fingers fetch, transfer and exit; stalls, budgets and the debug host stop a launch.
Where the engines run: FINGER_LAUNCH of a descriptor that passes its checks with Mittens free claims them;
LAUNCH_START with its inputs resident starts the launch, each Finger as R148 says; FINGER_INSTRUCTION runs the word at
pc; XF.XFER and its like retire as their operation gives; TRANSFER_DONE of a transfer whose access is made ends its
ticket; EXIT_DRAIN_DONE ends a Finger that waits to exit with every ticket idle; an uncorrectable fetch, STALL_LIMIT,
LAUNCH_BUDGET and a debug host that lets a breakpoint stand add one to FNG_CNT_FAULT; a debug host that resumes clears
the halt, and a Finger whose ticket went idle meanwhile goes on.
Completion: this states that exec answers a next state with the effect of its own, under conditions on the state and
the operands alone, for each of fingerLaunch, launchStart, fingerInstruction, xfXfer, transferDone, exitDrainDone,
launchBudget, stallLimit, debugResume. -/
def Obligations.LaunchesStartRunTransferAndStop : Prop :=
  (∀ (s : State) (r : Nat) (q : Request) (d : Bytes) (ms : List Nat), s.running = true → s.engReq r [5] = some q →
    s.launches.find r = none → d = s.peek q.cmdAddr 128 → s.launchMask q d = 0 →
    s.applyScrOwn.placeLaunch q d = some ms →
    s.applyScrOwn.ownsScratch q.ctx (fieldLE d 0x48 4) (fieldLE d 0x4C 4) (newLaunch q.ctx d ms).palms = true →
    ∃ t, exec (.fingerLaunch r) s = .next t ∧ t.launches.find r = some (newLaunch q.ctx d ms)) ∧
  (∀ (s s1 : State) (r : Nat) (q q1 : Request) (l : Launch) (d : Bytes), s.running = true → s.engReq r [5] = some q →
    s.launches.find r = some l → l.started = false → d = s.peek q.cmdAddr 128 →
    s.engineReads r q (nth 0 l.groups 0 / 16) [(fieldLE d 0x10 8, fieldLE d 4 4), (fieldLE d 0x18 8, fieldLE d 0x20 4)] [] =
      (s1, .ready) → s1.req r = some q1 →
    (let l1 := { l with code := s1.peek (fieldLE d 0x10 8) (fieldLE d 4 4), arg := s1.peek (fieldLE d 0x18 8) (fieldLE d 0x20 4),
                        started := true }
     ∃ t, exec (.launchStart r) s = .next t ∧ t.launches.find r = some l1 ∧
       (l.groups.Nodup → ∀ g i, g < l.groups.length → i < 64 →
         t.fingers.find (nth 0 l.groups g * 64 + i) = some (l1.startFinger r g i)))) ∧
  (∀ (s u : State) (f : Fin 4096) (x y : Finger) (l : Launch) (w len : Nat), s.fngAt f x l →
    l.fetchWord x.pc = .inl (w, len) → s.runWord l f x w len = .ok u y → y.run ≠ 2 →
    (∀ k z, nth none y.tickets k = some z → z.begun = true ∨ z.write = true) →
    ∃ t, exec (.fingerInstruction f .clean) s = .next t ∧ t.fngIs f y u ∧ t.regs = u.regs) ∧
  (∀ (s : State) (f : Fin 4096) (x : Finger) (l : Launch), s.running = true → s.fngReady f = some (x, l) →
    ∃ t, exec (.fingerInstruction f .uncorrectable) s = .next t ∧
      t.reg (Reg.FNG_CNT_FAULT (f / 1024)) = s.reg (Reg.FNG_CNT_FAULT (f / 1024)) + 1) ∧
  (∀ (s u : State) (f : Fin 4096) (x y : Finger) (l : Launch) (rd rs1 : Fin 32), s.fngAt f x l →
    s.xfXferOp l f x rd (x.getX rs1) = .ok u y → y.run ≠ 2 →
    (∀ k z, nth none y.tickets k = some z → z.begun = true ∨ z.write = true) →
    ∃ t, exec (.xfXfer f rd rs1) s = .next t ∧ t.fngIs f y u ∧ t.regs = u.regs) ∧
  (∀ (s : State) (f : Fin 4096) (k : Fin 8) (x : Finger) (q : Request) (y : Transfer), s.running = true →
    s.fingers.find f = some x → nth none x.tickets k = some y → s.req x.launch = some q → y.begun = true → x.wait = .none →
    (s.umr.waits.any (fun w => w.req == x.launch && w.part == ticketPart f k)) = false →
    ∃ t, exec (.transferDone f k .clean) s = .next t ∧ nth none (t.fngOf f).tickets k = none ∧
      (y.write = true → t.lmem = s.lmem ∧ t.smem = s.smem ∧ t.scr = s.scr)) ∧
  (∀ (s : State) (f : Fin 4096) (x : Finger) (l : Launch), s.running = true → s.fngLive f = some (x, l) → x.wait = .drain →
    (∀ k, k < 8 → nth none x.tickets k = none) →
    (∃ k y, k ≠ f.val ∧ y.launch = x.launch ∧ y.run = 1 ∧
      (k, y) ∈ (s.putFng f { x with run := 2, wait := .none, retired := x.retired + 1 }).fingers.entries) →
    exec (.exitDrainDone f) s = .next (s.putFng f { x with run := 2, wait := .none, retired := x.retired + 1 })) ∧
  (∀ (s : State) (r : Nat) (l : Launch) (q : Request), s.running = true → s.launches.find r = some l → s.req r = some q →
    l.started = true → l.halted = false →
    (let a := Reg.FNG_CNT_FAULT (nth 0 l.groups 0 / 16)
     (∃ t, exec (.launchBudget r) s = .next t ∧ t.reg a = s.reg a + 1) ∧
     (s.liveFingers r (fun _ => true) ≠ [] → (∀ e ∈ s.liveFingers r (fun _ => true), e.2.wait.stalled = true) →
       (∀ m ∈ l.groups, ∀ k, k < 16 → s.queueDry m k = false) →
       ∃ t, exec (.stallLimit r) s = .next t ∧ t.reg a = s.reg a + 1))) ∧
  (∀ (s : State) (f : Fin 4096) (x : Finger) (l : Launch), s.running = true → s.fingers.find f = some x →
    s.launches.find x.launch = some l → l.halted = true →
    (l.started = true → (∀ e ∈ s.liveFingers x.launch (fun _ => true), ∀ rd a, e.2.wait ≠ .xfer rd a) →
      ∃ t, exec (.debugResume f true) s = .next t ∧ t.launches.find x.launch = some { l with halted := false } ∧
        ∀ g y, s.fingers.find g = some y → y.launch = x.launch → y.run = 1 → t.fingers.find g = some (match y.wait with
          | .ticket k => if nth none y.tickets k = none then { y with wait := .none }.adv 4 else y
          | _ => y)) ∧
    ∃ t, exec (.debugResume f false) s = .next t ∧
      t.reg (Reg.FNG_CNT_FAULT (f / 1024)) = s.reg (Reg.FNG_CNT_FAULT (f / 1024)) + 1)

/-- The seven UMR commands do their work at once or enter the commands in progress. Where the engines run and a UMR
command passes its checks: MAP ends when every page has its frame, else it stays in progress with the pages left;
UNMAP sets STATE 3 in every page of the range that is mapped and waits; REHOME of a range that flash does not refuse,
with no other command waiting for blocks, is in progress with its pages and its new hint; PREFETCH, EVICT and FLUSH end
at once where there is nothing to wait for, else they are in progress with the blocks they wait for; QUERY whose record
write waits for nothing ends. UNMAP_FRAMES_FREED with no transfer of its pages in progress ends the UNMAP;
REHOME_COPY_DONE copies one more block of a page that has its new frame, and the last block of the last page ends the
REHOME.
Completion: this states that exec answers a next state with the effect of its own, under conditions on the state and
the operands alone, for each of umrMap, umrUnmap, umrRehome, umrPrefetch, umrEvict, umrFlush, umrQuery,
unmapFramesFreed, rehomeCopyDone. -/
def Obligations.UmrCommandsRunAndEnd : Prop :=
  (∀ (s : State) (r : Nat) (q : Request) (d : Bytes), s.umrAt r 1 q d →
    (let j : UmrJob := ⟨1, pagesOf (fieldLE d 8 8) (fieldLE d 0x10 8), [], fieldLE d 2 1, fieldLE d 3 1, fieldLE d 4 1⟩
     let rest := (s.mapPages j j.pages).2
     ∃ t, exec (.umrMap r) s = .next t ∧
       (if rest = [] then t.req r = none else t.umrJob r = some { j with pages := rest }))) ∧
  (∀ (s : State) (r : Nat) (q : Request) (d : Bytes), s.umrAt r 2 q d →
    (let pgs := pagesOf (fieldLE d 8 8) (fieldLE d 0x10 8)
     ∃ t, exec (.umrUnmap r) s = .next t ∧ t.umrJob r = some ⟨2, pgs, [], 0, 0, 0⟩ ∧
       ∀ n ∈ pgs, ∀ p, s.page n = some p → t.page n = some { p with st := 3 })) ∧
  (∀ (s : State) (r : Nat) (q : Request) (d : Bytes), s.umrAt r 3 q d →
    (let pgs := pagesOf (fieldLE d 8 8) (fieldLE d 0x10 8)
     s.flashRefuses (pgs.flatMap (fun n => (List.range 32).map (fun b => (n, b)))) = false →
     (∀ e ∈ s.umr.jobs.entries, e.2.wait = []) →
     ∃ t, exec (.umrRehome r) s = .next t ∧ t.umrJob r = some ⟨3, pgs, [], fieldLE d 2 1, 0, 0⟩)) ∧
  (∀ (s : State) (r : Nat) (q : Request) (d : Bytes), s.umrAt r 4 q d →
    (let w := (s.prefetchRange r q d).2
     ∃ t, exec (.umrPrefetch r) s = .next t ∧
       (if w = [] then t.req r = none
        else t.umrJob r = some ⟨4, pagesOf (fieldLE d 8 8) (fieldLE d 0x10 8), w, 0, 0, 0⟩))) ∧
  (∀ (s : State) (r : Nat) (q : Request) (d : Bytes), s.umrAt r 5 q d →
    (let w := s.dirtyOf (blocksOf (fieldLE d 8 8) (fieldLE d 0x10 8))
     s.flashRefuses (blocksOf (fieldLE d 8 8) (fieldLE d 0x10 8)) = false →
     ∃ t, exec (.umrEvict r) s = .next t ∧
       (if w = [] then t.req r = none else t.umrJob r = some ⟨5, [], w, 0, 0, 0⟩))) ∧
  (∀ (s : State) (r : Nat) (q : Request) (d : Bytes), s.umrAt r 6 q d →
    (let w := s.dirtyOf (blocksOf (fieldLE d 8 8) (fieldLE d 0x10 8))
     s.flashRefuses (blocksOf (fieldLE d 8 8) (fieldLE d 0x10 8)) = false →
     ∃ t, exec (.umrFlush r) s = .next t ∧
       (if w = [] then t.req r = none else t.umrJob r = some ⟨6, [], w, 0, 0, 0⟩))) ∧
  (∀ (s : State) (r : Nat) (q : Request) (d : Bytes), s.umrAt r 7 q d →
    s.mayAccess q.ctx 5 (fieldLE d 0x18 8) (s.queryRecords d).length true = true →
    (s.accessPrep q.ctx 5 (fieldLE d 0x18 8) (s.queryRecords d).length (some r)).2 = ⟨0, [], false⟩ →
    ∃ t, exec (.umrQuery r) s = .next t ∧ t.req r = none) ∧
  (∀ (s : State) (r : Nat) (j : UmrJob), s.running = true → s.umrJob r = some j → j.op = 2 →
    (∀ n ∈ j.pages, ∀ p, s.page n = some p →
      p.holds = 0 ∧ p.inflight = 0 ∧ s.umr.wbs.any (fun w => w.page == n) = false) →
    (∀ q, s.req r = some q → q.ending = none) → ∃ t, exec (.unmapFramesFreed r) s = .next t ∧ t.req r = none) ∧
  (∀ (s : State) (r n : Nat) (j : UmrJob) (p : Page), s.running = true → s.umrJob r = some j → j.op = 3 →
    j.pages.contains n = true → s.page n = some p → p.dest ≠ 0 →
    (p.copied < 31 → ∃ t, exec (.rehomeCopyDone r n) s = .next t ∧ t.umrJob r = some j ∧
      t.page n = some { p with copied := p.copied + 1 }) ∧
    (p.copied = 31 → j.pages = [n] → ∃ t, exec (.rehomeCopyDone r n) s = .next t ∧ t.req r = none))

/-- Fetches, timeouts, write-backs, scrubs and flash events have their effect and count. Where the engines run:
BLOCK_FETCH_DONE of a fetch that a channel runs, not uncorrectable, counts in UMR_CNT_FETCH_FLASH or
UMR_CNT_FETCH_LPDDR by its source; FETCH_TIMEOUT of a fetch that has run for its limit and ACCESS_TIMEOUT of an access
that has waited for longer than its limit count in UMR_CNT_TIMEOUT; WRITEBACK_DONE of one in progress counts in
UMR_CNT_WRITEBACK; PATROL_SCRUB of a copy that is there changes nothing where the read is clean and counts in the tier's
corrected count where it is corrected; FLASH_RELOCATE with an erase block due counts in UMR_CNT_DISTURB_REFRESH, and
changes nothing with none due. FLASH_GARBAGE_COLLECTION sets or clears GC_ACTIVE and MAPPING_TABLE_LOADED makes
UMR_STATE's low field 0, and nothing else changes.
Completion: this states that exec answers a next state with the effect of its own, under conditions on the state and
the operands alone, for each of blockFetchDone, fetchTimeout, accessTimeout, writebackDone, patrolScrub,
flashRelocate, flashGarbageCollection, mappingTableLoaded. -/
def Obligations.UnifiedRangeEventsCount : Prop :=
  (∀ (s : State) (n : Nat) (b : Fin 32) (f : Fetch) (p : Page) (res : MemRead), s.running = true →
    s.runningFetch n b = some (f, p) → res ≠ .uncorrectable →
    (let c := if f.src = 2 then Reg.UMR_CNT_FETCH_FLASH else Reg.UMR_CNT_FETCH_LPDDR
     ∃ t, exec (.blockFetchDone n b res) s = .next t ∧ t.reg c = s.reg c + 1)) ∧
  (∀ (s : State) (n : Nat) (b : Fin 32) (f : Fetch) (p : Page), s.running = true → s.runningFetch n b = some (f, p) →
    f.limit ≤ s.since (f.start.getD 0) → ∃ t, exec (.fetchTimeout n b) s = .next t ∧
      t.reg Reg.UMR_CNT_TIMEOUT = s.reg Reg.UMR_CNT_TIMEOUT + 1) ∧
  (∀ (s : State) (r k n : Nat) (b : Fin 32) (w : BlockWait), s.running = true →
    s.umr.waits.find? (fun w => w.req == r && w.part == k && w.page == n && w.block == b.val) = some w →
    w.limit < s.since w.since →
    ∃ t, exec (.accessTimeout r k n b) s = .next t ∧ t.reg Reg.UMR_CNT_TIMEOUT = s.reg Reg.UMR_CNT_TIMEOUT + 1) ∧
  (∀ (s : State) (n : Nat) (b : Fin 32) (w : Writeback) (p : Page), s.running = true →
    s.umr.wbs.find? (fun w => w.page == n && w.block == b.val) = some w → s.page n = some p →
    ∃ t, exec (.writebackDone n b true) s = .next t ∧ t.reg Reg.UMR_CNT_WRITEBACK = s.reg Reg.UMR_CNT_WRITEBACK + 1) ∧
  (∀ (s : State) (n : Nat) (b : Fin 32) (up : Bool) (p : Page), s.running = true → s.page n = some p →
    (if up then p.resident.testBit b = true else p.home ≠ 2) →
    exec (.patrolScrub n b up .clean) s = .next s ∧
    (let tier := if up then p.upperTier else p.homeTier
     let c := if tier ≤ 1 then Reg.UMR_CNT_CORR_HBM else if tier = 2 then Reg.UMR_CNT_CORR_LPDDR else Reg.UMR_CNT_CORR_FLASH
     ∃ t, exec (.patrolScrub n b up .corrected) s = .next t ∧ t.reg c = s.reg c + 1 ∧ t.umem = s.umem ∧ t.umr = s.umr)) ∧
  (∀ (s : State) (e : Bool), s.running = true →
    (s.umr.flash.firstDue s.hours = none → exec (.flashRelocate e) s = .next s) ∧
    ∀ k, s.umr.flash.firstDue s.hours = some k → ∃ t, exec (.flashRelocate e) s = .next t ∧
      t.reg Reg.UMR_CNT_DISTURB_REFRESH = s.reg Reg.UMR_CNT_DISTURB_REFRESH + 1) ∧
  (∀ (s : State) (on : Bool), s.running = true →
    exec (.flashGarbageCollection on) s = .next (s.setFld Reg.UMR_FLASH_STATE 1 1 (if on then 1 else 0))) ∧
  (∀ s : State, exec .mappingTableLoaded s = .next (s.setFld Reg.UMR_STATE 0 2 0))

/-- Which doorbell writes are discarded, and what a discarded and a taken one do. A doorbell write is discarded exactly
where its ring is disabled, where the tail written minus the current tail modulo 2^32, as a signed 32-bit number, is
negative, or where the tail written minus the head modulo 2^32 exceeds the ring size: every ring stays as it was,
DOORBELL is set in QUE_REJECT, QUE_CNT_DB_BAD increments, and no other register changes. Otherwise the tail is the
value written, the head stays, and no other register changes.
Completion: this states that exec answers a next state with the effect of its own, under conditions on the state and
the operands alone, for each of doorbell. -/
def Obligations.DoorbellDiscards : Prop :=
  ∀ (s : State) (r : Fin 16384) (v : BitVec 32),
    (let ptr := s.reg (Reg.QUE_RING_PTR r)
     let head := ptr.extractLsb' 0 32
     let tail := ptr.extractLsb' 32 32
     let cfg := s.reg (Reg.QUE_RING_CFG r)
     if cfg.getLsbD 8 = false ∨ (v - tail).toInt < 0 ∨ 2 ^ (cfg.extractLsb' 0 5).toNat < (v - head).toNat then
       ∃ t, exec (.doorbell r v) s = .next t ∧ t.que = s.que ∧
         t.reg Reg.QUE_REJECT = s.reg Reg.QUE_REJECT ||| 64 ∧
         t.reg Reg.QUE_CNT_DB_BAD = s.reg Reg.QUE_CNT_DB_BAD + 1 ∧
         ∀ a, a ≠ Reg.QUE_REJECT → a ≠ Reg.QUE_CNT_DB_BAD → t.reg a = s.reg a
     else
       ∃ t, exec (.doorbell r v) s = .next t ∧
         (t.reg (Reg.QUE_RING_PTR r)).extractLsb' 32 32 = v ∧ (t.reg (Reg.QUE_RING_PTR r)).extractLsb' 0 32 = head ∧
         ∀ a, a ≠ Reg.QUE_RING_PTR r → t.reg a = s.reg a)

/-- Requests are accepted or refused, dispatched, staged, copied, cancelled and ended. Where the engines run:
REQUEST_ACCEPT of a descriptor that is read, with its lists, counts it in QUE_CNT_ACCEPT where it is accepted and in
QUE_CNT_REFUSED where it is refused; REQUEST_DISPATCH of a waiting request whose waits and fence are clear, whose
DEADLINE has not passed and whose command is read marks it running, with its Gusset unit for a job, or ends it where its
KIND has no commands; REQUEST_DEADLINE ends a waiting one whose DEADLINE has passed. STAGE and COPY whose checks pass and
whose accesses are made add the transfer to the part, and the next command follows; STAGE_DONE of a transfer whose bytes
moved removes it from its part; a no-operation ends; a cancel ends the requests it covers that wait. A write of SYN_VALUE
counts in SYN_CNT_SIGNAL.
Completion: this states that exec answers a next state with the effect of its own, under conditions on the state and
the operands alone, for each of requestAccept, requestDispatch, requestDeadline, stage, copy, stageDone, schedNoop,
schedCancel, synValueWrite. -/
def Obligations.RequestsAreAcceptedRunAndEnd : Prop :=
  (∀ (s u v w : State) (r : Nat) (d : Bytes), s.running = true → u = s.applyShadow Reg.QUE_RT_RESERVE → u.chooseRing = some r →
    u.accessRead (r / 64) 5 (u.headAddr r) 64 none = (v, ⟨0, [], false⟩) → d = v.peek (u.headAddr r) 64 →
    (if v.descMask (r / 64) d = 0 then v.readLists (r / 64) d else (v, ⟨0, [], false⟩)) = (w, ⟨0, [], false⟩) →
    (let c := if w.acceptMask (r / 64) d = 0 then Reg.QUE_CNT_ACCEPT else Reg.QUE_CNT_REFUSED
     ∃ t, exec .requestAccept s = .next t ∧ t.reg c = w.reg c + 1)) ∧
  (∀ (s u : State) (r : Nat) (q : Request), s.running = true → s.req r = some q → s.dispatchable r q = true →
    s.stillWaits r = false → s.deadlinePassed q = false → s.readBlock r q = (u, ⟨0, [], false⟩) →
    (q.kind < 0x15 → q.kind ≠ 0x10 → (q.kind = 5 → u.launchRoom q = true) →
      exec (.requestDispatch r) s = .next (u.putReq r (q.started_ u.now))) ∧
    (∀ k, q.kind = 0x10 → u.gusUnit q = some k →
      exec (.requestDispatch r) s = .next (u.putReq r { q.started_ u.now with units := [0x88 + k] })) ∧
    (0x15 ≤ q.kind → ∃ t, exec (.requestDispatch r) s = .next t ∧ t.req r = none)) ∧
  (∀ (s : State) (r : Nat) (q : Request), s.running = true → s.req r = some q → q.phase = .waiting →
    s.deadlinePassed q = true → ∃ t, exec (.requestDeadline r) s = .next t ∧ t.req r = none) ∧
  (∀ (s u v w : State) (r p g : Nat) (q : Request) (x : Part) (d : Bytes) (ws : List (Nat × Nat)) (l : Bool) (res : MemRead),
    s.cmdAt u r p 8 true q x g → d = u.peek x.addr 32 → u.stageMask q.ctx d = 0 → stageMayStart (u.gntOf g) x d = true →
    (let dir := fieldLE d 1 1
     let a := fieldLE d 8 8
     let n := fieldLE d 0x18 4
     (if dir = 0 then u.guardSlots g [(fieldLE d 4 4, n)] none else (u, true)) = (v, true) →
     v.mayAccess q.ctx (g / 4) a n (dir == 1) = true →
     (v.drawAll q.ctx (g / 4) a n (dir == 1)).stageAccess q g r dir a n res = (w, ⟨0, ws, l⟩) → w.req r = some q →
     ∃ t q1, exec (.stage r p res) s = .next t ∧ t.req r = some q1 ∧ q1.parts[p]? =
       some { x with stages := x.stages ++ [⟨x.next, dir, fieldLE d 4 4, a, 0, n, u.now⟩], next := x.next + 1,
                     addr := x.addr + 32 })) ∧
  (∀ (s u w : State) (r p : Nat) (q : Request) (x : Part) (d : Bytes) (ws : List (Nat × Nat)) (l : Bool) (res : MemRead),
    s.running = true → s.copyReady r p = some (q, x) → s.readMade u q.ctx 5 x.addr 32 r → u.copyReady r p = some (q, x) →
    d = u.peek x.addr 32 → fieldLE d 0 1 = 8 → copyBad d = false →
    (let a := fieldLE d 8 8
     let b := fieldLE d 0x10 8
     let n := fieldLE d 0x18 4
     u.mayAccess q.ctx 5 a n false = true → u.mayAccess q.ctx 5 b n true = true →
     ((u.drawAll q.ctx 5 a n false).drawAll q.ctx 5 b n true).copyAccess q r a b n res = (w, ⟨0, ws, l⟩) → w.req r = some q →
     ∃ t q1, exec (.copy r p res) s = .next t ∧ t.req r = some q1 ∧ q1.parts[p]? =
       some { x with stages := [⟨x.next, 2, 0, a, b, n, u.now⟩], next := x.next + 1, addr := x.addr + 32 })) ∧
  (∀ (s u v : State) (r p i : Nat) (q : Request) (x : Part) (j : StageJob), s.running = true → s.req r = some q →
    q.parts[p]? = some x → x.stages.find? (fun j => j.idx == i) = some j → q.ending = none → x.next < x.stop →
    s.umr.waits.any (fun w => w.req == r && w.part == p && w.idx == i) = false →
    s.movePrep q x r j = (u, ⟨0, [], false⟩) → u.moveBytes q x r j = (v, 0) → v.req r = some q →
    (∀ g, x.unit = some g → v.quarantined (0x10 + g) = false) →
    ∃ t q1, exec (.stageDone r p i) s = .next t ∧ t.req r = some q1 ∧
      q1.parts[p]? = some { x with stages := x.stages.filter (fun k => !(k.idx == i)) }) ∧
  (∀ (s : State) (r : Nat) (q : Request), s.running = true → s.req r = some q → q.kind = 8 → q.schedOp = 0x0D →
    q.phase = .running → ∃ t, exec (.schedNoop r) s = .next t ∧ t.req r = none) ∧
  (∀ (s : State) (r : Nat) (q : Request), s.running = true → s.req r = some q → q.kind = 8 → q.schedOp = 0x0C →
    q.phase = .running → q.covers = [] → (∀ e ∈ s.cancelCovers r q, s.req e.1 = some e.2 ∧ e.2.phase = .waiting) →
    ∃ t, exec (.schedCancel r) s = .next t ∧ ∀ e ∈ s.cancelCovers r q, t.req e.1 = none) ∧
  (∀ (s : State) (n : Fin 8192) (v : BitVec 64), ∃ t, exec (.synValueWrite n v) s = .next t ∧
    t.reg Reg.SYN_CNT_SIGNAL = s.reg Reg.SYN_CNT_SIGNAL + 1)

/-- Cadence slots open and close, frames advance, banks park and come back, contexts are torn down, reset and read. Where
the engines run: SLOT_LEAD and SLOT_START of a live slot that is due enter it among the leads and the open slots,
SLOT_END of a slot whose time is over takes it out; FRAME_BOUNDARY of a running table whose next frame is due, with no
switch requested, adds one to CAD_FRAME_CNT; BANK_PARK_DONE releases the Gauntlet and BANK_RESTORE_DONE, with no slot
claiming the Gauntlet, gives back its bank, both counting in QUE_CNT_SWAP; PART_RESUME on a free Gauntlet that the cadence
allows gives back its parked part; TEARDOWN_TIMEOUT of a context tearing down sends one record. CAD_SWITCH sets SWITCH, in
a write of CAD_CTRL that waits too; TEARDOWN_DONE of a context with no request left makes it FAULTED, CONTEXT_RESET of a
FAULTED one clears its state, and CTX_EVENT_READ answers with the oldest event and removes it, or with 0.
Completion: this states that exec answers a next state with the effect of its own, under conditions on the state and
the operands alone, for each of slotLead, slotStart, slotEnd, frameBoundary, bankParkDone, bankRestoreDone,
partResume, teardownTimeout, cadSwitch, teardownDone, contextReset, ctxEventRead. -/
def Obligations.SlotsPreemptionAndContexts : Prop :=
  (∀ (s : State) (n : Fin 256), s.running = true → s.slotLive n = true → n.val ∉ s.que.open_ →
    (s.leadDue n = true → n.val ∉ s.que.lead → ∃ t, exec (.slotLead n) s = .next t ∧ t.que.lead = s.que.lead ++ [n.val]) ∧
    (s.slotDue n = true → ∃ t, exec (.slotStart n) s = .next t ∧ t.que.open_ = s.que.open_ ++ [n.val] ∧
      t.que.lead = s.que.lead.filter (fun x => !(x == n.val)))) ∧
  (∀ (s : State) (n : Fin 256), s.running = true → n.val ∈ s.que.open_ → s.slotLive n = false ∨ s.slotDue n = false →
    ∃ t, exec (.slotEnd n) s = .next t ∧ t.que.open_ = s.que.open_.filter (fun x => !(x == n.val))) ∧
  (∀ s u : State, s.running = true → u = s.applyShadows 0xA800000 0xA803000 → s.bit Reg.CAD_CTRL 0 = true →
    s.boundaryDue = true → u.bit Reg.CAD_CTRL 0 = true → u.bit Reg.CAD_CTRL 2 = false → u.que.cadResync = false →
    u.que.cadFirst = false → u.que.cadNext = none → u.que.cadShift = 0 → 0 ≤ u.sinceFrame (u.regN Reg.CAD_FRAME_CNT + 1) →
    ∃ t, exec .frameBoundary s = .next t ∧ t.reg Reg.CAD_FRAME_CNT = u.reg Reg.CAD_FRAME_CNT + 1) ∧
  (∀ (s : State) (g : Fin 16), s.running = true →
    ((s.gntOf g).phase = 2 → ∃ t, exec (.bankParkDone g) s = .next t ∧
      t.reg Reg.QUE_CNT_SWAP = s.reg Reg.QUE_CNT_SWAP + 1 ∧ (t.gntOf g) = { s.gntOf g with owner := none, phase := 0 }) ∧
    ((s.gntOf g).phase = 3 → s.claimer g = none → ∃ t, exec (.bankRestoreDone g) s = .next t ∧
      t.reg Reg.QUE_CNT_SWAP = s.reg Reg.QUE_CNT_SWAP + 1 ∧
      (t.gntOf g) = { s.gntOf g with parked := none, parkedBank := none, phase := 0, bank := (s.gntOf g).parkedBank }) ∧
    ∀ rp q, (s.gntOf g).parked = some rp → s.req rp.1 = some q → (s.gntOf g).owner = none → (s.gntOf g).tile = none →
      (s.gntOf g).phase = 0 → s.cadAllows q.ctx g = true →
      ∃ t, exec (.partResume g) s = .next t ∧ (t.gntOf g).owner = some rp ∧
        (t.gntOf g).phase = if (s.gntOf g).parkedBank.isSome then 3 else 0) ∧
  (∀ (s : State) (c : Fin 256), s.running = true → s.fld (Reg.QUE_CTX_STATE c) 0 2 = 2 →
    ∃ t, exec (.teardownTimeout c) s = .next t ∧ t.regs = (s.record 3 26 0 0x73 (some c.val) 0xFFFF 1).regs ∧
      t.cuff = (s.record 3 26 0 0x73 (some c.val) 0xFFFF 1).cuff) ∧
  (∀ s : State, ∃ t, exec .cadSwitch s = .next t ∧ t.reg Reg.CAD_CTRL = s.reg Reg.CAD_CTRL ||| 4 ∧
    (s.shadow.find Reg.CAD_CTRL = none → t = s.orReg Reg.CAD_CTRL 4) ∧
    ∀ w, s.shadow.find Reg.CAD_CTRL = some w → t.shadow.find Reg.CAD_CTRL = some (w ||| 4)) ∧
  (∀ (s : State) (c : Fin 256), s.fld (Reg.QUE_CTX_STATE c) 0 2 = 2 → s.inflightOf c = 0 →
    exec (.teardownDone c) s = .next (s.setFld (Reg.QUE_CTX_STATE c) 0 2 3)) ∧
  (∀ (s : State) (c : Fin 256), s.fld (Reg.QUE_CTX_STATE c) 0 2 = 3 →
    ∃ t, exec (.contextReset c) s = .next t ∧ t.reg (Reg.QUE_CTX_STATE c) = 0) ∧
  (∀ (s : State) (c : Fin 256),
    (SMap.get (fun _ => []) s.que.events c = [] → exec (.ctxEventRead c) s = .next { s with readVal := 0 }) ∧
    ∀ e es, SMap.get (fun _ => []) s.que.events c = e :: es → ∃ t, exec (.ctxEventRead c) s = .next t ∧
      t.readVal = BitVec.ofNat 64 e ∧ SMap.get (fun _ => []) t.que.events c = es ∧
      (es.length < 65536 → t.fld (Reg.QUE_CTX_STATE c) 48 16 = es.length))

/-- What the six port events of a live stream context do. In a running device, on an enabled stream of the event's port
type whose pipeline is enabled: CSI_FRAME_START leaves the frame's stamp in the stream, that of its edge source's last
trigger where SYNC is set and the present time otherwise, and latches the ROI list in force then; a frame whose end is missing is
first accepted as corrupt data. SPI_DATA_READY leaves the present stamp. CSI_FRAME_END and SPI_TRANSACTION_DONE hand
the data over with the stamp taken at the beginning, AUDIO_BLOCK and ETH_SENSOR_SAMPLE with the stamp of their own
age, ETH with EMBED set with the sensor's own time: with room in the pool the data becomes as many samples with
consecutive tags as R242 and R245 say, where a stream that skips to its next IRAP picture counts a picture in
VIS_CNT_NONIRAP instead; without room it is dropped and counted.
Completion: this states that exec answers a next state with the effect of its own, under conditions on the state and
the operands alone, for each of csiFrameStart, csiFrameEnd, audioBlock, spiDataReady, spiTransactionDone,
ethSensorSample. -/
def Obligations.SensorDataBecomesSamples : Prop :=
  ∀ (s : State) (k : Fin 48) (d : SensorData), s.running = true →
    ((s.strLive k 0 = true →
      (∃ t, exec (.csiFrameStart k) s = .next t ∧
        (let u := (s.csiMissed k).applyShadow (Reg.VIS_STR_LAT k)
         (t.vstr k).stamp = some (u.frameStamp k) ∧ (t.vstr k).latched = (u.vstr k).listAt (u.frameInstant k)) ∧
        ((s.vstr k).stamp = none → s.csiMissed k = s)) ∧
      (∀ st e, (s.vstr k).stamp = some (st, e) →
        ∃ t, exec (.csiFrameEnd k d) s = .next t ∧ (t.vstr k).stamp = none ∧ s.takesData t k d st (s.vstr k).latched)) ∧
     (s.strLive k 1 = true →
      ∃ t, exec (.audioBlock k d) s = .next t ∧
        (let u := s.applyShadow (Reg.VIS_STR_LAT k)
         u.takesData t k d (u.stampNow k d.age).1 none)) ∧
     (s.strLive k 2 = true →
      (∃ t, exec (.spiDataReady k) s = .next t ∧
        (t.vstr k).stamp = some ((s.applyShadow (Reg.VIS_STR_LAT k)).stampNow k 0)) ∧
      (∀ st e, (s.vstr k).stamp = some (st, e) →
        ∃ t, exec (.spiTransactionDone k d) s = .next t ∧ (t.vstr k).stamp = none ∧ s.takesData t k d st (s.vstr k).latched)) ∧
     (s.strLive k 3 = true →
      ∃ t, exec (.ethSensorSample k d) s = .next t ∧
        (let u := s.applyShadow (Reg.VIS_STR_LAT k)
         let own := fieldLE d.bytes (u.fld (Reg.VIS_STR_PORT k) 32 16) 8
         u.takesData t k d (if u.bit (Reg.VIS_STR_CFG k) 30 then u.stampAt k ((own * 2 ^ 16 : Nat) : Int)
           else (u.stampNow k d.age 8).1) ((u.vstr k).listAt (u.now - d.age)))))

/-- What the seven pipeline events do: decoded pictures, texts, time-outs, emission, release, stop and replay end.
PICTURE_DECODED without a cause completes every sample of the picture that leaves the stream's decoder next, packed from the
picture, and adds its crops to VIS_CR_CNT_BOXES and their call to VIS_CR_CNT_CALLS; with a cause of R256, of a picture with
one sample, it stops a running pipeline at the sample's row. TEXT_TOKENIZED of a text that is read completes the stream's
oldest waiting text with the items of its ids and counts the fallbacks. BATCH_TIMEOUT closes the open batch with flag 2 and
opens the next. BATCH_EMIT with its slot ready takes the oldest batch out, moves the slot on, and sets the free slots, the
next batch and VIS_CNT_SAMPLES. VIS_PIPE_RELEASE returns slots, never above SLOTS. PIPELINE_STOPPED writes the stop record
and becomes STOPPED. RESTART_REPLAY_DONE ends the RESTART and becomes RUNNING. After a decoded picture, a text and a replay,
u is the state before the pipeline starts what it then can.
Completion: this states that exec answers a next state with the effect of its own, under conditions on the state and
the operands alone, for each of pictureDecoded, textTokenized, batchTimeout, batchEmit, pipelineStopped,
restartReplayDone, visPipeRelease. -/
def Obligations.PipelinesTakePlaceEmitAndStop : Prop :=
  ∀ (s : State) (k : Fin 48) (p : Fin 16), s.running = true →
    ((∀ (pic : DecodedPicture) (x : VSample), s.leaving k = some x →
      (pic.cause = 0 →
        ∃ (u t : State), exec (.pictureDecoded k pic) s = .next t ∧ t.vis = (u.pumped (s.strPipe k)).vis ∧
          t.regs = (u.pumped (s.strPipe k)).regs ∧
          (u.vpipe (s.strPipe k)).samples = (s.vpipe (s.strPipe k)).samples.map (fun y =>
            if y.mate x && y.st == 1 then { y with st := 2, out := s.decodedOut (s.strPipe k) y pic } else y) ∧
          (let crops := ((s.vpipe (s.strPipe k)).samples.filter (fun y => (y.mate x && y.st == 1) && y.kind == 3)).length
           u.reg Reg.VIS_CR_CNT_CALLS = s.reg Reg.VIS_CR_CNT_CALLS + BitVec.ofNat 64 (Nat.min crops 1) ∧
           u.reg Reg.VIS_CR_CNT_BOXES = s.reg Reg.VIS_CR_CNT_BOXES + BitVec.ofNat 64 crops)) ∧
      (∀ b row start, pic.cause ≠ 0 → x.pos = some (b, row, start) → s.pipeState (s.strPipe k) = 1 →
        (s.vpipe (s.strPipe k)).restart = none →
        (s.vpipe (s.strPipe k)).samples.filter (fun y => y.mate x && y.st == 1) = [x] →
        (s.vpipe (s.strPipe k)).samples.find? (fun y => y.tag == x.tag) = some x →
        ∃ t, exec (.pictureDecoded k pic) s = .next t ∧ t.pipeState (s.strPipe k) = 2 ∧
          (t.vpipe (s.strPipe k)).cut = some (b, row) ∧
          (t.vpipe (s.strPipe k)).why = (stopStatus pic.cause pic.status, pic.cause, x.tag) ∧
          (t.vpipe (s.strPipe k)).batches = cutBatches (b, row) (s.vpipe (s.strPipe k)).batches)) ∧
     (∀ x : VSample,
      (s.vpipe (s.strPipe k)).samples.find? (fun y => y.stream == k.val && y.kind == 0 && y.pos.isNone) = some x →
      (if (s.vpipe (s.strPipe k)).restart.isSome then (s.vpipe (s.strPipe k)).replay.head? = some x.tag
        else s.pipeState (s.strPipe k) = 1) →
      ∃ (u t : State), exec (.textTokenized ⟨k, 0⟩) s = .next t ∧ t.vis = (u.pumped (s.strPipe k)).vis ∧
        (let v := s.applyShadow Reg.VIS_TOK_CTRL
         let r := v.tokensOf x.data.bytes
         let ids := v.textIds (s.strPipe k) r.1
         t.reg Reg.VIS_CNT_TOK_FALLBACK = s.reg Reg.VIS_CNT_TOK_FALLBACK + BitVec.ofNat 64 r.2 ∧
         ∀ y ∈ (u.vpipe (s.strPipe k)).samples, y.tag = x.tag →
           y.st = 2 ∧ y.out = textItems (s.itemBytes (s.strPipe k)) (ids.take (s.rowLen (s.strPipe k))))) ∧
     (∀ (b : VBatch) (first : Nat), (s.vpipe p).batches.getLast? = some b → b.first = some first →
      s.fld (Reg.VIS_PIPE_TIMEOUT p) 0 20 ≠ 0 → s.placing p = true → b.closed = false →
      s.fld (Reg.VIS_PIPE_TIMEOUT p) 0 20 * 1000 ≤ s.now - first →
      ∃ t, exec (.batchTimeout p) s = .next t ∧
        (t.vpipe p).batches = (s.vpipe p).batches.dropLast ++
          [{ b with closed := true, flags := b.flags ||| 2 }, VBatch.fresh (b.seq + 1) (s.batchRows p)]) ∧
     (∀ (u : State) (b : VBatch) (bs : List VBatch), (s.vpipe p).batches = b :: bs → s.pipeState p ≠ 0 → b.closed = true →
      s.fld (Reg.VIS_PIPE_STATE p) 8 8 ≠ 0 → ((s.vpipe p).emitted b).all (fun x => x.1.st == 2) = true →
      s.devPrep (s.fld (Reg.VIS_PIPE_OUT p) 0 48 + (s.vpipe p).slot * (s.slotLayout p).2.2) (s.slotLayout p).2.2 =
        (u, ⟨0, [], false⟩) →
      ∃ t, exec (.batchEmit p) s = .next t ∧ (t.vpipe p).batches = bs ∧
        (t.vpipe p).slot = ((s.vpipe p).slot + 1) % Nat.max 1 (s.slotCount p) ∧
        (t.vpipe p).samples =
          (s.vpipe p).samples.filter (fun y => !(((s.vpipe p).emitted b).any (fun x => x.1.tag == y.tag))) ∧
        t.fld (Reg.VIS_PIPE_STATE p) 8 8 = s.fld (Reg.VIS_PIPE_STATE p) 8 8 - 1 ∧
        t.fld (Reg.VIS_PIPE_STATE p) 16 32 = (b.seq + 1) % 2 ^ 32 ∧
        t.reg Reg.VIS_CNT_SAMPLES = u.reg Reg.VIS_CNT_SAMPLES + BitVec.ofNat 64 ((s.vpipe p).emitted b).length) ∧
     (s.pipeState p = 2 → (s.vpipe p).batches = [] →
      ∃ t, exec (.pipelineStopped p) s = .next t ∧ t.pipeState p = 3 ∧
        t.reg Reg.VIS_CNT_STOP = s.reg Reg.VIS_CNT_STOP + 1 ∧
        (let w := (s.vpipe p).why
         let row := match (s.vpipe p).cut with | some c => c.2 | none => 0
         t.reg (Reg.VIS_PIPE_STOP p) = BitVec.ofNat 64 (w.1 + w.2.1 * 2 ^ 8 + w.2.2 * 2 ^ 16 + row * 2 ^ 48))) ∧
     (∀ r : Nat, (s.vpipe p).restart = some r → (s.vpipe p).replay = [] →
      ∃ (u t : State), exec (.restartReplayDone p) s = .next t ∧ t.vis = (u.pumped p).vis ∧ t.que = (u.pumped p).que ∧
        u.req r = none ∧ u.pipeState p = 1 ∧ (u.vpipe p).restart = none) ∧
     (∀ n : BitVec 8, ∃ t, exec (.visPipeRelease p n) s = .next t ∧
        t.fld (Reg.VIS_PIPE_STATE p) 8 8 = Nat.min (s.fld (Reg.VIS_PIPE_STATE p) 8 8 + n.toNat) (s.slotCount p) ∧
        ∀ a, a ≠ Reg.VIS_PIPE_STATE p → t.reg a = s.reg a))

/-- What writing ENABLE of a stream context or a pipeline does, both ways. Setting ENABLE of a disabled stream context
with a sound configuration stores the register, empties the context, sets its sequence number to 0 and its VIS_STATE
bit to 1; a bad one is refused: the mask is ORed into VIS_REJECT and nothing is stored. Clearing ENABLE of an enabled
one empties the context, discards its samples and clears its bit. Setting ENABLE of a disabled pipeline whose shape,
regions and items are sound stores the register and makes it RUNNING with batch 0 open and every slot free; an unsound
one is refused with bit 2 of VIS_REJECT. Clearing ENABLE of a pipeline with no RESTART or STOP in progress empties it
and makes it DISABLED.
Completion: this states that exec answers a next state with the effect of its own, under conditions on the state and
the operands alone, for each of streamEnable, pipelineEnable. -/
def Obligations.StreamsAndPipelinesAreEnabled : Prop :=
  ∀ (s : State) (k : Fin 48) (p : Fin 16) (v : BitVec 64),
    (s.bit (Reg.VIS_STR_CFG k) 0 = false → v.getLsbD 0 = true →
      (s.streamMask k v.toNat = 0 →
        ∃ t, exec (.streamEnable k v) s = .next t ∧ t.vstr k = VStream.idle ∧ t.reg (Reg.VIS_STR_SEQ k) = 0 ∧
          t.bit Reg.VIS_STATE k = true ∧
          t.reg (Reg.VIS_STR_CFG k) =
            BitVec.ofNat 64 (writtenTo (Reg.VIS_STR_CFG k) (s.shown (Reg.VIS_STR_CFG k)).toNat v.toNat)) ∧
      (s.streamMask k v.toNat ≠ 0 →
        ∃ t, exec (.streamEnable k v) s = .next t ∧ t.vis = s.vis ∧
          t.reg Reg.VIS_REJECT = s.reg Reg.VIS_REJECT ||| BitVec.ofNat 64 (s.streamMask k v.toNat) ∧
          t.reg (Reg.VIS_STR_CFG k) = s.reg (Reg.VIS_STR_CFG k))) ∧
    (s.bit (Reg.VIS_STR_CFG k) 0 = true → v.getLsbD 0 = false →
      ∃ t, exec (.streamEnable k v) s = .next t ∧ t.vstr k = VStream.idle ∧ t.bit Reg.VIS_STATE k = false ∧
        t.bit (Reg.VIS_STR_CFG k) 0 = false ∧
        (t.vpipe (s.strPipe k)).samples =
          (s.vpipe (s.strPipe k)).samples.filter (fun y => y.stream != k.val)) ∧
    (s.bit (Reg.VIS_PIPE_CFG p) 0 = false → v.getLsbD 0 = true →
      (s.pipeSound p = true →
        ∃ t, exec (.pipelineEnable p v) s = .next t ∧
          t.vpipe p = { VPipe.idle with batches := [VBatch.fresh 0 (s.batchRows p)] } ∧
          t.reg (Reg.VIS_PIPE_STATE p) = BitVec.ofNat 64 (1 + s.slotCount p * 2 ^ 8) ∧
          t.reg (Reg.VIS_PIPE_CFG p) =
            BitVec.ofNat 64 (writtenTo (Reg.VIS_PIPE_CFG p) (s.shown (Reg.VIS_PIPE_CFG p)).toNat v.toNat)) ∧
      (s.pipeSound p = false →
        ∃ t, exec (.pipelineEnable p v) s = .next t ∧ t.vis = s.vis ∧
          t.reg Reg.VIS_REJECT = s.reg Reg.VIS_REJECT ||| 4 ∧ t.reg (Reg.VIS_PIPE_CFG p) = s.reg (Reg.VIS_PIPE_CFG p))) ∧
    (s.bit (Reg.VIS_PIPE_CFG p) 0 = true → v.getLsbD 0 = false → (s.vpipe p).restart = none → (s.vpipe p).stopReq = none →
      ∃ t, exec (.pipelineEnable p v) s = .next t ∧ t.vpipe p = VPipe.idle ∧ t.pipeState p = 0 ∧
        t.bit (Reg.VIS_PIPE_CFG p) 0 = false)

/-- What the six intake commands do when they pass their checks. u is the machine when the command's inputs have been
read. STOP leaves the command waiting for its pipeline, whose stop record is to be cause 0; with no RESTART in
progress the pipeline is STOPPING. FLUSH ends, and closes an open batch that holds a sample with flag 8. RESTART
leaves the command waiting, discards what R259 says, and prepares batch BATCH_SEQ + 1 and the replay set in replay
order, before the pipeline starts what it then can. ROI_SET ends and installs the list: base, stamp and boxes. TEXT,
with room in the pool and its tag written, ends, and its text becomes one sample of the stream with the stamp of its
dispatch. DICT_LOAD of a sound image ends, puts the image into its bank and marks the bank valid.
Completion: this states that exec answers a next state with the effect of its own, under conditions on the state and
the operands alone, for each of pipeStop, pipeFlush, pipeRestart, roiSet, text, dictLoad. -/
def Obligations.IntakeCommandsComplete : Prop :=
  (∀ (s u : State) (r : Nat) (q : Request) (d : Bytes), s.visAt r 0x90 q d → s.engineReads r q 4 [] [] true = (u, .ready) →
    (fieldLE d 1 1 = 2 →
      ∃ t, exec (.pipeStop r) s = .next t ∧ (t.vpipe (fieldLE d 2 1)).stopReq = some r ∧
        (t.vpipe (fieldLE d 2 1)).why = (0, 0, 0) ∧ (t.vpipe (fieldLE d 2 1)).replay = [] ∧
        ((u.vpipe (fieldLE d 2 1)).restart = none →
          t.pipeState (fieldLE d 2 1) = 2 ∧ t.req r = some { q with units := [0x90] })) ∧
    (fieldLE d 1 1 = 3 →
      ∃ t, exec (.pipeFlush r) s = .next t ∧ t.req r = none ∧
        ∀ b, (u.vpipe (fieldLE d 2 1)).batches.getLast? = some b →
          (t.vpipe (fieldLE d 2 1)).batches =
            if b.tags = [] then (u.vpipe (fieldLE d 2 1)).batches
            else (u.vpipe (fieldLE d 2 1)).batches.dropLast ++ [{ b with closed := true, flags := b.flags ||| 8 },
              VBatch.fresh (b.seq + 1) (u.batchRows (fieldLE d 2 1))]) ∧
    (fieldLE d 1 1 = 1 →
      ∃ (w t : State), exec (.pipeRestart r) s = .next t ∧ t.vis = (w.pumped (fieldLE d 2 1)).vis ∧
        w.req r = some { q with units := [0x90] } ∧
        (let x := w.vpipe (fieldLE d 2 1)
         let kept := (u.restartRange (fieldLE d 2 1) (fieldLE d 4 4)).1.map VSample.again
         x.samples = kept ∧ x.replay = (kept.foldr insertReplay []).map (·.tag) ∧ x.restart = some r ∧ x.cut = none ∧
         x.batches = [VBatch.fresh (u.fld (Reg.VIS_PIPE_STATE (fieldLE d 2 1)) 16 32) (u.batchRows (fieldLE d 2 1))]) ∧
        w.reg Reg.VIS_CNT_NONIRAP = u.reg Reg.VIS_CNT_NONIRAP +
          BitVec.ofNat 64 (u.restartRange (fieldLE d 2 1) (fieldLE d 4 4)).2.1)) ∧
  (∀ (s u : State) (r : Nat) (q : Request) (d : Bytes), s.visAt r 0x91 q d →
    s.engineReads r q 4 [(fieldLE d 8 8, 32 * fieldLE d 2 1)] [] true = (u, .ready) →
    (∀ i, i < fieldLE d 2 1 → fieldLE (u.peek (fieldLE d 8 8) (32 * fieldLE d 2 1)) (32 * i + 24) 8 = 0) →
    ∃ t, exec (.roiSet r) s = .next t ∧ t.req r = none ∧
      (t.vstr (fieldLE d 1 1)).lists = (u.now, ⟨fieldLE d 4 1, time96Frac (fieldLE d 0x10 12),
        tab (fieldLE d 2 1) (fun i => tab 6 (fun j =>
          fieldLE (u.peek (fieldLE d 8 8) (32 * fieldLE d 2 1)) (32 * i + 4 * j) 4))⟩) :: (u.vstr (fieldLE d 1 1)).lists) ∧
  (∀ (s u : State) (r : Nat) (q : Request) (d : Bytes), s.visAt r 0x92 q d →
    s.engineReads r q 4 [(fieldLE d 8 8, fieldLE d 4 4)] [(fieldLE d 0x10 8, 4)] true = (u, .ready) →
    u.poolRoom (u.strPipe (fieldLE d 1 1)) (fieldLE d 4 4) = true →
    (State.engineWrite (u, 0) r q 4 (fieldLE d 0x10 8)
      (natLE 4 (tagOf (fieldLE d 1 1) (u.fld (Reg.VIS_STR_SEQ (fieldLE d 1 1)) 0 26)))).2 = 0 →
    ∃ (w t : State), exec (.text r) s = .next t ∧ w.req r = none ∧
      (let v := (State.engineWrite (u, 0) r q 4 (fieldLE d 0x10 8)
        (natLE 4 (tagOf (fieldLE d 1 1) (u.fld (Reg.VIS_STR_SEQ (fieldLE d 1 1)) 0 26)))).1.applyShadow
          (Reg.VIS_STR_LAT (fieldLE d 1 1))
       let st := v.stampNow (fieldLE d 1 1) (if q.started then u.now - q.startNs else 0)
       w.vis = v.vis ∧
       t.vis = (w.addSamples (fieldLE d 1 1) (SensorData.text (u.peek (fieldLE d 8 8) (fieldLE d 4 4))) st.1 st.2 [(0, 0xFF, [])]).vis ∧
       t.fld (Reg.VIS_STR_SEQ (fieldLE d 1 1)) 0 26 = (w.fld (Reg.VIS_STR_SEQ (fieldLE d 1 1)) 0 26 + 1) % 2 ^ 26)) ∧
  (∀ (s u : State) (r : Nat) (q : Request) (d : Bytes), s.visAt r 0x93 q d →
    s.engineReads r q 4 [(fieldLE d 8 8, fieldLE d 4 4)] [] true = (u, .ready) →
    dictOk (u.peek (fieldLE d 8 8) (fieldLE d 4 4)) = true →
    ∃ t, exec (.dictLoad r) s = .next t ∧ t.req r = none ∧
      t.vis.banks.find (fieldLE d 1 1) = some (u.peek (fieldLE d 8 8) (fieldLE d 4 4)) ∧
      t.bit Reg.VIS_TOK_CTRL (1 + fieldLE d 1 1) = true)

/-- What TB_STEP, TB_SET, TB_ALLOW_JUMP, TB_NOW_READ, TB_EDGE_READ and GPTP_SYNC_RX do. On TB1 to TB3, u has the written
jump limit in force and x is the base with ALLOW_JUMP of the same write. A step of TB_STEP_ADJ, or a set to the value
of TB_SET_A and TB_SET_B, is refused for NEGATIVE (1), JUMP (2) or, a set whose NS reaches 10^9, INVALID (3): the flag
and reason are set, the refusal counted, and the value, epoch and state stay. Otherwise the base takes the new value,
its epoch advances, it is SET, ALLOW_JUMP clears and TB_CNT_STEP increments. No other base changes either way; on TB0
nothing changes at all. TB_ALLOW_JUMP sets ALLOW_JUMP. TB_NOW_READ answers FRAC, NS and epoch and latches SEC.
TB_EDGE_READ takes the oldest edge out and answers it, or answers VALID 0. The servo of a slave instance holds the
rate and sets SYNC_HOLD when the offset exceeds the jump limit of a SET base without ALLOW_JUMP, and otherwise, with
no hold, sets INCR within its range.
Completion: this states that exec answers a next state with the effect of its own, under conditions on the state and
the operands alone, for each of tbStep, tbSet, tbAllowJump, tbNowRead, tbEdgeRead, gptpSyncRx. -/
def Obligations.TimeBasesStepSetAndRead : Prop :=
  (∀ (s : State) (b : Fin 4) (allow : Bool), b ≠ 0 →
    (let u := s.stepLimit b
     let x := u.baseFor b allow
     let step := (x.val : Int) + signed 64 (u.regN (Reg.TB_STEP_ADJ b)) * 2 ^ 16
     let time := bits (u.regN (Reg.TB_SET_A b)) 0 48 + bits (u.regN (Reg.TB_SET_B b)) 0 48 * 2 ^ 48
     let set := ((time96Frac time * 2 ^ 16 : Nat) : Int)
     let kept (t : State) (why : Nat) : Prop :=
       t.time.get b = x ∧ t.bit (Reg.TB_FLAGS b) 0 = true ∧ t.fld (Reg.TB_FLAGS b) 1 2 = why ∧
       t.reg (Reg.TB_CNT_STEP_REFUSED b) = s.reg (Reg.TB_CNT_STEP_REFUSED b) + 1
     let taken (t : State) (new : Int) : Prop :=
       t.time.get b = { x with val := new.toNat % timeSpan, epoch := (x.epoch + 1) % 256, isSet := true, allowJump := false } ∧
       t.reg (Reg.TB_CNT_STEP b) = s.reg (Reg.TB_CNT_STEP b) + 1
     (∃ t, exec (.tbStep b allow) s = .next t ∧ (∀ b' : Fin 4, b' ≠ b → t.time.get b' = s.time.get b') ∧
       (if x.refusal step = 0 then taken t step else kept t (x.refusal step))) ∧
     (∃ t, exec (.tbSet b allow) s = .next t ∧ (∀ b' : Fin 4, b' ≠ b → t.time.get b' = s.time.get b') ∧
       (if 1000000000 ≤ bits time 16 32 then kept t 3
        else if x.refusal set = 0 then taken t set else kept t (x.refusal set))) ∧
     (∃ t, exec (.tbAllowJump b) s = .next t ∧ t.time.get b = { s.time.get b with allowJump := true } ∧
       (∀ b' : Fin 4, b' ≠ b → t.time.get b' = s.time.get b') ∧ t.regs = s.regs))) ∧
  (∀ (s : State) (allow : Bool), exec (.tbStep 0 allow) s = .next s ∧ exec (.tbSet 0 allow) s = .next s ∧
    exec (.tbAllowJump 0) s = .next s) ∧
  (∀ (s : State) (b : Fin 4), ∃ t, exec (.tbNowRead b) s = .next t ∧
    (let x := s.time.get b
     t.readVal = BitVec.ofNat 64 (bits (time96 x.val) 0 48 + x.epoch * 2 ^ 48) ∧
     t.reg (Reg.TB_NOW_B b) = BitVec.ofNat 64 (bits (time96 x.val) 48 48)) ∧ t.time = s.time) ∧
  (∀ s : State, (s.edges = [] → ∃ t, exec .tbEdgeRead s = .next t ∧ t.edges = [] ∧ t.readVal.getLsbD 48 = false) ∧
    (∀ e es, s.edges = e :: es → ∃ t, exec .tbEdgeRead s = .next t ∧ t.edges = es ∧
      t.readVal = BitVec.ofNat 64 (e.ns + e.epoch * 2 ^ 32 + e.gpio * 2 ^ 40 + b2n e.rising * 2 ^ 45 + e.tb * 2 ^ 46 + 2 ^ 48) ∧
      t.reg Reg.TB_EDGE_B = BitVec.ofNat 64 e.sec)) ∧
  (∀ (s : State) (i : Fin 2) (late : Int) (rate : Nat) (step : Bool), s.running = true → s.gptpEntry i 1 ≠ 0 →
    (s.gptpRole i).contains 2 = true → 1 ≤ s.gptpEntry i 3 → s.gptpEntry i 3 ≤ 3 →
    (let b := s.gptpEntry i 3
     let off := s.gptpOffset i late
     let u := s.stepLimit b
     let x := u.time.get b
     ∃ t, exec (.gptpSyncRx i late rate step) s = .next t ∧
       (if x.isSet = true ∧ x.allowJump = false ∧ (x.jumpLimit : Int) < off.natAbs then
          t.bit (Reg.TB_FLAGS b) 3 = true ∧ t.gptpHold.testBit b = true ∧ t.time.get b = x
        else x.allowJump = true ∨ u.gptpHold.testBit b = false →
          (t.time.get b).incr = clampNat 0x3FF7CED91 0x40083126F rate)))

/-- What the eight time-triggered commands do: edges, outputs, compares and gPTP messages. With u the state whose
TB_IN_CFG is in force: an enabled edge of a GPIO enters the FIFO with its stamp on the pin's base, or is lost and
counted when the FIFO holds 256. OUTPUT_EDGE of an enabled channel whose next edge is due advances it to the next k,
begins the pulse of its width at the edge, and keeps the instant on every base; ONESHOT drives k = 0 only. COMPARE_FIRE
of an armed, enabled unit whose target has been reached disarms it and sets FIRED. COMPARE_ARM arms and clears FIRED when EN goes from 0 to 1, and disarms
when EN is clear. COMPARE_TARGET_WRITE stores the target and re-arms an enabled unit. GPTP_ANNOUNCE_RX on a port that
is not disabled keeps the message and chooses the roles again; GPTP_PDELAY measures a port's delay; GPTP_SYNC_TX of a
master advances its sequence number and sends on its master ports.
Completion: this states that exec answers a next state with the effect of its own, under conditions on the state and
the operands alone, for each of edgeStamp, outputEdge, compareFire, compareArm, compareTargetWrite, gptpAnnounceRx,
gptpPdelay, gptpSyncTx. -/
def Obligations.EdgesOutputsComparesAndGptp : Prop :=
  ∀ (s : State), s.running = true →
    ((∀ (g : Fin 32) (rising : Bool),
      (let u := s.applyShadow (Reg.TB_IN_CFG g)
       let b := u.fld (Reg.TB_IN_CFG g) 2 2
       let now := time96 (s.time.get b).val
       u.bit (Reg.TB_IN_CFG g) (if rising then 0 else 1) = true →
       ∃ t, exec (.edgeStamp g rising) s = .next t ∧
         (if s.edges.length < 256 then
            t.edges = s.edges ++ [⟨g, rising, b, bits now 48 48, bits now 16 32, (s.time.get b).epoch⟩]
          else t.edges = s.edges ∧ t.reg Reg.TB_CNT_EDGE_DROP = s.reg Reg.TB_CNT_EDGE_DROP + 1))) ∧
     (∀ o : Fin 40,
      (let u := s.applyShadow (Reg.TB_OUT_PERIOD o)
       let cfg := u.regN (Reg.TB_OUT_CFG o)
       let k := SMap.get (fun _ => 0) u.outNext o
       cfg.testBit 0 = true → (cfg.testBit 3 = true → k = 0) →
       due (s.nowOf (bits cfg 1 2)) (u.regN (Reg.TB_OUT_START o) + k * u.fld (Reg.TB_OUT_PERIOD o) 0 32) = true →
       ∃ t, exec (.outputEdge o) s = .next t ∧ SMap.get (fun _ => 0) t.outNext o = k + 1 ∧
         t.pulse.find o = some ((u.regN (Reg.TB_OUT_START o) + k * u.fld (Reg.TB_OUT_PERIOD o) 0 32) % 2 ^ 64, u.outWidth o) ∧
         t.trig.find o = some ⟨[s.time.tb0.val, s.time.tb1.val, s.time.tb2.val, s.time.tb3.val],
           [s.time.tb0.epoch, s.time.tb1.epoch, s.time.tb2.epoch, s.time.tb3.epoch]⟩)) ∧
     (∀ k : Fin 16, s.cmpArmed.testBit k = true → s.bit (Reg.TB_CMP_CFG k) 0 = true →
      due (s.nowOf (s.fld (Reg.TB_CMP_CFG k) 1 2)) (s.regN (Reg.TB_CMP_TARGET k)) = true →
      ∃ t, exec (.compareFire k) s = .next t ∧ t.cmpArmed = s.cmpArmed - 2 ^ k.val ∧
        t.reg (Reg.TB_CMP_CFG k) = s.reg (Reg.TB_CMP_CFG k) ||| 32) ∧
     (∀ (k : Fin 16) (v : BitVec 64), ∃ t, exec (.compareArm k v) s = .next t ∧
        (v.getLsbD 0 = true → s.bit (Reg.TB_CMP_CFG k) 0 = false →
          t.cmpArmed.testBit k = true ∧ t.bit (Reg.TB_CMP_CFG k) 5 = false) ∧
        (v.getLsbD 0 = true → s.bit (Reg.TB_CMP_CFG k) 0 = true → t.cmpArmed = s.cmpArmed) ∧
        (v.getLsbD 0 = false → t.cmpArmed = if s.cmpArmed.testBit k then s.cmpArmed - 2 ^ k.val else s.cmpArmed)) ∧
     (∀ (k : Fin 16) (v : BitVec 64), ∃ t, exec (.compareTargetWrite k v) s = .next t ∧ t.reg (Reg.TB_CMP_TARGET k) = v ∧
        (if s.bit (Reg.TB_CMP_CFG k) 0 then t.cmpArmed.testBit k = true ∧ t.bit (Reg.TB_CMP_CFG k) 5 = false
         else t.cmpArmed = s.cmpArmed)) ∧
     (∀ (i : Fin 2) (p : Fin 6) (m : Announce), s.gptpEntry i 1 ≠ 0 → bits (s.gptpEntry i 6) (2 * p.val) 2 ≠ 3 →
      ∃ t, exec (.gptpAnnounceRx i p m) s = .next t ∧ (t.gptpOf i).anns = (s.gptpOf i).anns.set p (some m) ∧
        t.gptpRole i = gptpRoles (s.ownAnnounce i) ((s.gptpOf i).anns.set p (some m)) (s.gptpEntry i 6)) ∧
     (∀ (p : Fin 6) (t1 t2 t3 t4 : Nat), (s.gptpEntry 0 1 ≠ 0 ∨ s.gptpEntry 1 1 ≠ 0) →
      ∃ t, exec (.gptpPdelay p t1 t2 t3 t4) s = .next t ∧
        SMap.get (fun _ => (0 : Int)) t.pdelay p = (((t4 : Int) - t1) - ((t3 : Int) - t2)) / 2) ∧
     (∀ i : Fin 2, s.gptpEntry i 1 ≠ 0 → (s.gptpRole i).contains 1 = true →
      ∃ t, exec (.gptpSyncTx i) s = .next t ∧ (t.gptpOf i).syncSeq = ((s.gptpOf i).syncSeq + 1) % 65536 ∧
        (t.gptpOf i).ports = (List.range 6).filter (fun p => nth 0 (s.gptpRole i) p == 1)))

/-- What the six Align and Track commands and the enable of a channel do. u is the machine when the inputs of a checked
command have been read; each command ends: its request is gone and the unit is free. PUSH of sound samples gives them
to the channel in order. ALIGN carries the kept samples of the selected channels, counts, and with its output written
ends. REBASE forgets the channel's baseline and the block in progress. TRACK_UPDATE whose channel is not DESYNC, with
its associations written, commits the tracks, the next TRACK_ID and its instant; TRACK_UPDATE whose channel is DESYNC
changes no track. TRACK_READ changes no track. RESET of the table leaves no track and keeps the next TRACK_ID.
ATU_CHANNEL_ENABLE of a disabled channel stores the register and empties the channel; where a stream-fed channel's
base is not its stream's, BIND is set and nothing stored.
Completion: this states that exec answers a next state with the effect of its own, under conditions on the state and
the operands alone, for each of push, align, rebase, trackTableClear, trackUpdate, trackRead, atuChannelEnable. -/
def Obligations.AlignAndTrackCommandsRun : Prop :=
  (∀ (s u : State) (r : Nat) (q : Request) (d : Bytes),
    (s.atuAt r 0x99 q d [(fieldLE d 8 8, 80 * fieldLE d 2 1)] [] u →
      (let xs := pushSamples (fieldLE d 2 1) (u.peek (fieldLE d 8 8) (80 * fieldLE d 2 1))
       xs.any (fun x => !time96Valid x.1) = false → xs.any (fun x => x.2.2.1 != 0) = false →
       ∃ t, exec (.push r) s = .next t ∧ t.req r = none ∧ t.bit Reg.ATU_STATE 16 = false ∧
         t.atu = (each xs (fun v x => v.takeSample (fieldLE d 1 1) (time96Frac x.1) x.2.1
           (x.2.2.2.take (v.chanElems (fieldLE d 1 1)))) u).atu)) ∧
    (s.atuAt r 0x98 q d [] (alignOuts d) u →
      (let v := each (maskChans (fieldLE d 0x10 8)) (fun x c => x.carryChan c) u
       (State.engineWrite (v, 0) r q 4 (fieldLE d 0x20 8) (v.alignOut d)).2 = 0 →
       ∃ t, exec (.align r) s = .next t ∧ t.req r = none ∧ t.bit Reg.ATU_STATE 16 = false ∧ t.atu = v.atu ∧
         t.reg Reg.ATU_CNT_ALIGN = u.reg Reg.ATU_CNT_ALIGN + 1)) ∧
    (s.atuAt r 0x9C q d [] [] u → fieldLE d 1 1 = 2 →
      ∃ t, exec (.rebase r) s = .next t ∧ t.req r = none ∧ t.bit Reg.ATU_STATE 16 = false ∧
        t.chan (fieldLE d 2 1) = { u.chan (fieldLE d 2 1) with blockN := 0, blockMin := 0, baseline := none }) ∧
    (s.atuAt r 0x9C q d [] [] u → fieldLE d 1 1 = 1 →
      ∃ t, exec (.trackTableClear r) s = .next t ∧ t.req r = none ∧ t.bit Reg.ATU_STATE 16 = false ∧
        t.atu = { u.atu with tracks := [] }) ∧
    (s.atuAt r 0x9A q d (trackIns d) (trackOuts d) u →
      (¬ (fieldLE d 3 1 ≠ 0xFF ∧ (u.chan (fieldLE d 3 1)).desync = true) →
       (let w := u.trackShadows
        let res := (w.trackResult d).1
        (State.engineWrite (w, 0) r q 4 (fieldLE d 0x28 8) (assocBytes res.slots)).2 = 0 →
        ∃ t, exec (.trackUpdate r) s = .next t ∧ t.req r = none ∧ t.bit Reg.ATU_STATE 16 = false ∧
          t.atu = { u.atu with tracks := res.tracks, nextId := res.nextId, last := some (time96Frac (fieldLE d 4 12)) })) ∧
      (fieldLE d 3 1 ≠ 0xFF → (u.chan (fieldLE d 3 1)).desync = true →
       (State.engineWrite (u, 0) r q 4 (fieldLE d 0x28 8) (assocBytes (List.replicate (fieldLE d 0x10 2) none))).2 = 0 →
        ∃ t, exec (.trackUpdate r) s = .next t ∧ t.req r = none ∧ t.bit Reg.ATU_STATE 16 = false ∧ t.atu = u.atu)) ∧
    (s.atuAt r 0x9B q d [] (snapshotOuts s.atu.tracks.entries.length d) u →
      (State.engineWrite (u, 0) r q 4 (fieldLE d 8 8) u.tableBytes).2 = 0 →
      ∃ t, exec (.trackRead r) s = .next t ∧ t.req r = none ∧ t.bit Reg.ATU_STATE 16 = false ∧ t.atu = u.atu)) ∧
  (∀ (s : State) (c : Fin 64) (v : BitVec 64), s.bit (Reg.ATU_CH_CFG c) 0 = false → v.getLsbD 0 = true →
    (if v.getLsbD 1 = true ∧ bits v.toNat 8 2 ≠ s.fld (Reg.VIS_STR_CFG (bits v.toNat 2 6)) 28 2 then
      ∃ t, exec (.atuChannelEnable c v) s = .next t ∧ t.reg Reg.ATU_REJECT = s.reg Reg.ATU_REJECT ||| 1 ∧
        t.reg (Reg.ATU_CH_CFG c) = s.reg (Reg.ATU_CH_CFG c) ∧ t.atu = s.atu
     else
      ∃ t, exec (.atuChannelEnable c v) s = .next t ∧ t.chan c = AtuChan.idle ∧ t.reg (Reg.ATU_CH_STATE c) = 0 ∧
        t.reg (Reg.ATU_CH_CFG c) = BitVec.ofNat 64 (writtenTo (Reg.ATU_CH_CFG c) (s.shown (Reg.ATU_CH_CFG c)).toNat v.toNat)))

/-- What latch writes, sample boundaries, misses, computes and trace events do. KNK_LATCH_WRITE stores the value in the
latch. SAMPLE_BOUNDARY of a running loop whose next window has begun takes a boundary that has come, ends the open window (u)
and, unless that put the loop in FAULT, opens the window of sample k and moves on to k+1; before that window it takes only
the boundary that has come. SAMPLE_MISS of an open window that ended without readiness closes it; a loop without a pair
and a late compute, whose misses stay below MISS_LIMIT, counts one miss, consecutive ones to 255. LOOP_COMPUTE_START of
an idle engine starts the chosen loop: highest PRIORITY, then readiest, then lowest slot. LOOP_COMPUTE_DONE frees the
engine and counts; where the loop has no pair, no cascade, is not in FAULT and has not been stopped since, its next state
and region are the control law's. TRACE_TRIGGER of a running trace that waits for no capture marks it triggered and keeps its index. TRACE_WRITE_FAIL
stops a running trace and sets its flag.
Completion: this states that exec answers a next state with the effect of its own, under conditions on the state and
the operands alone, for each of knkLatchWrite, sampleBoundary, sampleMiss, loopComputeStart, loopComputeDone,
traceTrigger, traceWriteFail. -/
def Obligations.ControlLoopsSampleAndCompute : Prop :=
  ∀ (s : State) (e : Fin 4), s.running = true →
    ((∀ (i : Fin 1024) (v : BitVec 32), ∃ t, exec (.knkLatchWrite e i v) s = .next t ∧
        t.reg (Reg.KNK_LATCH e i) = BitVec.ofNat 64 v.toNat) ∧
     (∀ l : Fin 64, s.loopRuns e l = true →
      due (s.nowOf (s.loopTb e l)) (s.windowAt e l (s.loopAt e l).next) = true →
      ∃ t, exec (.sampleBoundary e l) s = .next t ∧
        (let u := (s.passBoundary e l).nextOrder.endWindow e l
         let k := (s.loopAt e l).next
         (t.loopAt e l).next = k + 1 ∧
         (u.loopState e l ≠ 3 → (t.loopAt e l).win = some k ∧ (t.loopAt e l).begun = false) ∧
         (u.loopState e l = 3 → (t.loopAt e l).win = (u.loopAt e l).win))) ∧
     (∀ l : Fin 64, s.loopRuns e l = true →
      due (s.nowOf (s.loopTb e l)) (s.windowAt e l (s.loopAt e l).next) = false →
      exec (.sampleBoundary e l) s = .next (s.passBoundary e l)) ∧
     (∀ l : Fin 64, s.loopRuns e l = true → (s.loopAt e l).win ≠ none → (s.loopAt e l).begun = false →
      (s.loopAt e l).ready = none → s.mate e l = none → (s.loopAt e l).late = none →
      due (s.nowOf (s.loopTb e l)) (s.windowAt e l (s.loopAt e l).next) = true →
      Nat.min 255 (s.fld (Reg.KNK_LOOP_STATE e l) 16 8 + 1) < s.fld (Reg.KNK_LOOP_MISS e l) 0 8 →
      ∃ t, exec (.sampleMiss e l) s = .next t ∧ (t.loopAt e l).win = none ∧
        t.reg (Reg.KNK_LOOP_CNT_MISS e l) = s.reg (Reg.KNK_LOOP_CNT_MISS e l) + 1 ∧
        t.fld (Reg.KNK_LOOP_STATE e l) 16 8 = Nat.min 255 (s.fld (Reg.KNK_LOOP_STATE e l) 16 8 + 1)) ∧
     (∀ l sample ready, s.knk.runs.find e = none → (s.selfTest (0x84 + e)).running = false → s.quarantined (0x84 + e) = false →
      chooseLoop (s.readyLoops e) = some l → (s.loopAt e l).when.map (fun w => (w.2.2, w.2.1)) = some (sample, ready) →
      ∃ t, exec (.loopComputeStart e) s = .next t ∧ t.loopState e l = 2 ∧
        (let u := s.passBoundary e l
         t.knk.runs.find e = some ⟨l, sample, u.loopVector e l (u.loopAt e l), ready, s.now, (s.loopAt e l).late.isSome, false⟩)) ∧
     (∀ (l : Fin 64) (run : KnkRun), s.knk.runs.find e = some run → run.slot = l.val →
      ∃ t, exec (.loopComputeDone e l) s = .next t ∧ t.knk.runs.find e = none ∧
        t.reg (Reg.KNK_CNT_COMPUTE e) = s.reg (Reg.KNK_CNT_COMPUTE e) + 1 ∧
        (run.stopped = false → s.loopState e l ≠ 3 → s.mate e l = none → s.bit (Reg.KNK_LOOP_CFG e l) 13 = false →
          (t.loopAt e l).x = (s.control e l run.vec (s.loopAt e l)).x ∧ (t.loopAt e l).region = s.nextRegion e l run.vec ∧
          (t.loopAt e l).d = (s.control e l run.vec (s.loopAt e l)).d)) ∧
     (s.bit (Reg.KNK_TRC_CTRL e) 0 = true → s.bit (Reg.KNK_TRC_CTRL e) 2 = false → s.bit (Reg.KNK_TRC_CTRL e) 3 = false →
      ∃ t, exec (.traceTrigger e) s = .next t ∧ t.bit (Reg.KNK_TRC_CTRL e) 3 = true ∧
        t.fld (Reg.KNK_TRC_POS e) 32 16 = s.fld (Reg.KNK_TRC_POS e) 0 16) ∧
     (s.bit (Reg.KNK_TRC_CTRL e) 0 = true → s.bit (Reg.KNK_TRC_POS e) 17 = false →
      ∃ t, exec (.traceWriteFail e) s = .next t ∧ t.bit (Reg.KNK_TRC_POS e) 17 = true ∧
        t.bit (Reg.KNK_FLAGS e) 3 = true))

/-- What KNK_COMMIT, KNK_LOAD, KNK_READ, COEFF_WORD_WRITE and LOOP_ENABLE do. COMMIT of a sound set, once a boundary that has
come has taken the set before it, leaves it pending for the next sample boundary and shows PENDING; an unsound one sets its bits in KNK_REJECT and leaves nothing pending.
LOAD of words below 2^37 to words that no enabled loop uses ends, and the words are stored. READ, with the words
written, ends. A coefficient word that no enabled loop uses is stored with bits [63:37] zero; one in use is refused
with its bit. Enabling a disabled slot that is sound and has no pair stores the configuration and starts the loop:
state and offsets zero, region 0, at the first sample whose window starts from now on; a bad configuration sets its
bits and stores nothing. Disabling an enabled slot stops its loop.
Completion: this states that exec answers a next state with the effect of its own, under conditions on the state and
the operands alone, for each of knkCommit, knkLoad, knkRead, coeffWordWrite, loopEnable. -/
def Obligations.ControlLoopsAreConfigured : Prop :=
  ∀ (s : State) (e : Fin 4),
    ((∀ l : Fin 64,
      (s.commitMask e l = 0 → ∃ t, exec (.knkCommit e l) s = .next t ∧ t.bit (Reg.KNK_LOOP_STATE e l) 2 = true ∧
        (t.loopAt e l).pending = some ((loopRegs e l).filterMap (fun a =>
          ((if s.loopRuns e l then s.passBoundary e l else s).shadow.find a).map (fun w => (a, w))))) ∧
      (s.commitMask e l ≠ 0 → ∃ t, exec (.knkCommit e l) s = .next t ∧ t.knk = s.knk ∧
        t.reg (Reg.KNK_REJECT e) = s.reg (Reg.KNK_REJECT e) ||| BitVec.ofNat 64 (s.commitMask e l))) ∧
     (∀ (u : State) (r : Nat) (q : Request) (d : Bytes), s.running = true → s.engReq r [0x14] = some q →
      d = s.peek q.cmdAddr 32 → fieldLE d 1 1 = e.val → s.knkMask q d = 0 →
      (fieldLE d 0 1 = 0xA0 → s.engineReads r q 5 [(fieldLE d 8 8, 8 * fieldLE d 0x10 4)] [] true = (u, .ready) →
        (∀ i, i < fieldLE d 0x10 4 → fieldLE (u.peek (fieldLE d 8 8) (8 * fieldLE d 0x10 4)) (8 * i) 8 < 2 ^ 37) →
        ∃ t, exec (.knkLoad r) s = .next t ∧ t.req r = none ∧ ∀ i, i < fieldLE d 0x10 4 →
          t.regN (Reg.KNK_COEFF e (fieldLE d 4 4 + i)) =
            fieldLE (u.peek (fieldLE d 8 8) (8 * fieldLE d 0x10 4)) (8 * i) 8) ∧
      (fieldLE d 0 1 = 0xA1 → s.engineReads r q 5 [] (knkReadOuts d) true = (u, .ready) →
        (State.engineWrite (u, 0) r q 5 (fieldLE d 8 8)
          ((List.range (fieldLE d 0x10 4)).flatMap (fun i => natLE 8 (u.coeff e (fieldLE d 4 4 + i))))).2 = 0 →
        ∃ t, exec (.knkRead r) s = .next t ∧ t.req r = none)) ∧
     (∀ (n : Fin 65536) (v : BitVec 64),
      (s.coeffInUse e n (n + 1) = false → ∃ t, exec (.coeffWordWrite e n v) s = .next t ∧
        t.regN (Reg.KNK_COEFF e n) = v.toNat % 2 ^ 37) ∧
      (s.coeffInUse e n (n + 1) = true → ∃ t, exec (.coeffWordWrite e n v) s = .next t ∧
        t.reg (Reg.KNK_COEFF e n) = s.reg (Reg.KNK_COEFF e n) ∧ t.bit (Reg.KNK_REJECT e) 6 = true)) ∧
     (∀ (l : Fin 64) (v : BitVec 64),
      (s.bit (Reg.KNK_LOOP_CFG e l) 0 = false → v.getLsbD 0 = true →
        (s.loopMask e l v.toNat = 0 → v.getLsbD 11 = false →
          ∃ t, exec (.loopEnable e l v) s = .next t ∧ t.loopState e l = 1 ∧ t.bit (Reg.KNK_STATE e) l = true ∧
            t.reg (Reg.KNK_LOOP_CFG e l) =
              BitVec.ofNat 64 (writtenTo (Reg.KNK_LOOP_CFG e l) (s.shown (Reg.KNK_LOOP_CFG e l)).toNat v.toNat) ∧
            (let x := t.loopAt e l
             x.x = List.replicate (s.loopNx e l) 0 ∧ x.d = List.replicate (s.loopNu e l) 0 ∧ x.region = 0 ∧ x.win = none ∧
             x.waiting = false)) ∧
        (s.loopMask e l v.toNat ≠ 0 →
          ∃ t, exec (.loopEnable e l v) s = .next t ∧ t.knk = s.knk ∧
            t.reg (Reg.KNK_LOOP_CFG e l) = s.reg (Reg.KNK_LOOP_CFG e l) ∧
            t.reg (Reg.KNK_REJECT e) = s.reg (Reg.KNK_REJECT e) ||| BitVec.ofNat 64 (s.loopMask e l v.toNat))) ∧
      (s.bit (Reg.KNK_LOOP_CFG e l) 0 = true → v.getLsbD 0 = false →
        ∃ t, exec (.loopEnable e l v) s = .next t ∧ t.bit (Reg.KNK_LOOP_CFG e l) 0 = false ∧
          t.bit (Reg.KNK_STATE e) l = false ∧
          t.loopAt e l = { KnkLoop.idle with pending := (s.loopAt e l).pending })))

/-- A sound GUSSET_LINEAR or GUSSET_QP job starts on its unit. A job whose descriptor passes the checks, on a unit that
runs none and is not quarantined, whose program, base table and warm start are read and pass, and whose minimum cost
ends by its deadline, starts: the unit holds the job at its first micro-op with its program, bases and an accepted
warm start, GUS_STATE shows ASSEMBLING and the context, and the user area is the one that the unit's last job left, or
zeros where that job was of another context. A rejected warm start sets WARM_REJECTED and is counted. A job that
cannot end by its deadline fails with DEADLINE_MISSED and is counted as predicted.
Completion: this states that exec answers a next state with the effect of its own, under conditions on the state and
the operands alone, for each of gussetLinear, gussetQp. -/
def Obligations.GussetJobsStart : Prop :=
  ∀ (s u : State) (r op : Nat) (q : Request) (d : Bytes), s.running = true → s.engReq r [0x10] = some q → d = s.peek q.cmdAddr 128 →
    fieldLE d 0 1 = op → gusDescMask q.cmdAddr d = 0 → (s.gus.jobs.find q.gusUnit) = none → s.quarantined (0x88 + q.gusUnit) = false →
    s.engineReads r q 5 ([(fieldLE d 0x40 8, 32 * fieldLE d 0x10 4), (fieldLE d 0x48 8, 128)] ++
      (if fieldLE d 0x50 8 = 0 then [] else [(fieldLE d 0x50 8, gusResultBytes d)])) [(fieldLE d 0x58 8, gusResultBytes d)] = (u, .ready) →
    gusProgMask (u.peek (fieldLE d 0x40 8) (32 * fieldLE d 0x10 4)) (u.peek (fieldLE d 0x48 8) 128) = 0 →
    (let g := q.gusUnit
     let prog := u.peek (fieldLE d 0x40 8) (32 * fieldLE d 0x10 4)
     let warm := if fieldLE d 0x50 8 = 0 then none else gusWarm d prog (u.peek (fieldLE d 0x50 8) (gusResultBytes d))
     let rej := fieldLE d 0x50 8 ≠ 0 ∧ warm = none
     let starts (t : State) : Prop :=
       (∃ j : GusJob, t.gus.jobs.find g = some j ∧ j.req = r ∧ j.ctx = q.ctx ∧ j.desc = d ∧ j.prog = prog ∧ j.next = 0 ∧
         j.base = tab 16 (fun i => fieldLE (u.peek (fieldLE d 0x48 8) 128) (8 * i) 8) ∧ j.warm = warm ∧
         j.deadline = u.gusDeadline q.ctx g d ∧ (j.warmRej = true ↔ rej)) ∧
       t.regN (Reg.GUS_STATE g) = (1 + q.ctx * 256) % 2 ^ 64 ∧ t.gus.owner.find g = some q.ctx ∧
       (u.gus.owner.find g = some q.ctx → t.gus.store = u.gus.store) ∧
       (u.gus.owner.find g ≠ some q.ctx →
         t.gus.store = u.gus.store.filter (fun e => !(e.1 / 2 ^ 20 == g))) ∧
       (rej → t.bit (Reg.GUS_FLAGS g) 1 = true ∧ t.reg (Reg.GUS_CNT_WARM_REJ g) = u.reg (Reg.GUS_CNT_WARM_REJ g) + 1)
     let late (t : State) : Prop := t.req r = none ∧ t.gus = u.gus ∧
       t.reg (Reg.GUS_CNT_PREDICTED g) = u.reg (Reg.GUS_CNT_PREDICTED g) + 1
     ((∀ x, u.gusDeadline q.ctx g d = some x → u.now + u.gusNs (gusMinCost d prog) ≤ x) →
       (op = 0x70 → ∃ t, exec (.gussetLinear r) s = .next t ∧ starts t) ∧
       (op = 0x71 → ∃ t, exec (.gussetQp r) s = .next t ∧ starts t)) ∧
     (∀ x, u.gusDeadline q.ctx g d = some x → x < u.now + u.gusNs (gusMinCost d prog) →
       (op = 0x70 → ∃ t, exec (.gussetLinear r) s = .next t ∧ late t) ∧
       (op = 0x71 → ∃ t, exec (.gussetQp r) s = .next t ∧ late t)))

/-- Micro-ops assemble a job's system, and jobs end with a result, at their deadline or by an overrun. The next micro-op
of a job, if it is of the event's opcode and its operands are read, runs on the unit's user area: it forms its
elements row by row, only destination words change, and the job moves on; after the last one GUS_STATE shows
FACTORING. GUSSET_JOB_END of an assembled job whose outcome is finite and whose record's range is ready and written frees the unit, ends
the request and counts the job. GUSSET_DEADLINE at the deadline does the same with outcome 4 before the first solve,
or with outcome 3 after some steps that have not brought it to its outcome. GUSSET_OVERRUN frees the unit, records the error and counts it.
Completion: this states that exec answers a next state with the effect of its own, under conditions on the state and
the operands alone, for each of microopCopy, microopScale, microopAdd, microopTranspose, gussetJobEnd, gussetDeadline,
gussetOverrun. -/
def Obligations.GussetMicroOpsAndEnds : Prop :=
  ∀ (s : State) (g : Fin 2) (j : GusJob) (q : Request), s.running = true → s.gusRunning g = some (j, q) →
    ((∀ (u : State) (op : Bytes), op = microAt j.prog j.next → 32 * j.next < j.prog.length → s.quarantined (0x88 + g) = false →
      s.engineReads j.req q 5 (microReads j.base op) [] = (u, .ready) →
      (let ran (t : State) : Prop :=
         t.gus.jobs.find g = some { j with next := j.next + 1 } ∧ t.gus.store = (u.microRun g j.base op).gus.store ∧
         (∀ w, (∀ a b, a < fieldLE op 4 2 → b < fieldLE op 6 2 → w ≠ (if fieldLE op 0 1 = 4 then
             fieldLE op 0x10 4 + b * fieldLE op 0x14 4 + a else fieldLE op 0x10 4 + a * fieldLE op 0x14 4 + b)) →
           t.gusWord g w = u.gusWord g w) ∧
         (j.prog.length ≤ 32 * (j.next + 1) → t.fld (Reg.GUS_STATE g) 0 2 = 2)
       (fieldLE op 0 1 = 1 → ∃ t, exec (.microopCopy g) s = .next t ∧ ran t) ∧
       (fieldLE op 0 1 = 2 → ∃ t, exec (.microopScale g) s = .next t ∧ ran t) ∧
       (fieldLE op 0 1 = 3 → ∃ t, exec (.microopAdd g) s = .next t ∧ ran t) ∧
       (fieldLE op 0 1 = 4 → ∃ t, exec (.microopTranspose g) s = .next t ∧ ran t))) ∧
     (∀ (u : State) (e : GusEnd) (reg : List Nat), s.outsReady u j.req q 5 [(fieldLE j.desc 0x58 8, gusResultBytes j.desc)] →
      (let ends (valid : Bool) (e : GusEnd) (reg : List Nat) (t : State) : Prop :=
         (State.engineWrite (u, 0) j.req q 5 (fieldLE j.desc 0x58 8) (gusRecord j valid e reg).1).2 = 0 →
         t.req j.req = none ∧ t.gus.jobs.find g = none ∧ t.reg (Reg.GUS_CNT_JOBS g) = u.reg (Reg.GUS_CNT_JOBS g) + 1
       (j.prog.length = 32 * j.next → s.quarantined (0x88 + g) = false →
         s.gusSolve g j.desc j.warm (gusCap j.desc) false = some (e, reg) →
         ∃ t, exec (.gussetJobEnd g) s = .next t ∧ ends true e reg t) ∧
       (∀ x, j.deadline = some x → due s.now x = true → s.quarantined (0x88 + g) = false →
         (∃ t, exec (.gussetDeadline g none) s = .next t ∧
           ends j.warm.isSome ⟨4, 0, 0x7F800000, 0x7F800000, gusHeld j⟩ [] t) ∧
         (∀ k, j.prog.length = 32 * j.next → s.gusSolve g j.desc j.warm (Nat.min k (gusCap j.desc)) true = some (e, reg) →
           gusOpen j.desc k e = true → ∃ t, exec (.gussetDeadline g (some k)) s = .next t ∧ ends true { e with outcome := 3 } reg t)))) ∧
     (∃ t, exec (.gussetOverrun g) s = .next t ∧ t.gus.jobs.find g = none ∧ t.regN (Reg.GUS_STATE g) = 0 ∧
       t.reg (Reg.GUS_CNT_OVERRUN g) = s.reg (Reg.GUS_CNT_OVERRUN g) + 1))

/-- A PLAN is accepted, takes a place, grows by edge checks and stops at its budget. A PLAN that passes its checks and
whose start and goal lie in limits waits for a place. PLAN_HELD gives a free place to the waiting PLAN that is next:
where start and goal lie in limits and are clear and the PLAN does not end at once it is held, and the two pose checks are counted.
QUANTUM_END gives the quantum to the next held PLAN, real-time ones first. EDGE_CHECK_DONE in the quantum of a PLAN
that waits for a check counts it, and the PLAN goes on with the verdict until its next check. PLAN_BUDGET_EXPIRED at
the budget ends growth with TIMEOUT and the best partial path, where the result can be written; shortcutting stops and
the release begins. (The leaf tests of a check are free values.)
Completion: this states that exec answers a next state with the effect of its own, under conditions on the state and
the operands alone, for each of plan, planHeld, quantumEnd, edgeCheckDone, planBudgetExpired. -/
def Obligations.PlansAreHeldAndGrow : Prop :=
  ∀ (s : State), s.running = true →
    ((∀ (u : State) (r : Nat) (q : Request) (d im : Bytes), s.engReq r [0x11] = some q → d = s.peek q.cmdAddr 128 →
      fieldLE d 0 1 = 0x80 → s.gateOn 0x8A = true → s.quarantined 0x8A = false → s.pcu.waiting.contains r = false →
      s.pcu.held.find r = none → s.planMask q d = 0 → im = (s.pcu.models.find (fieldLE d 2 1)).getD [] →
      s.engineReads r q 5 [(fieldLE d 0x30 8, 4 * modelDof im), (fieldLE d 0x38 8, 4 * modelDof im)] (planOuts d) true = (u, .ready) →
      outOfLimits im (tab (modelDof im) (fun j => u.peekN (fieldLE d 0x30 8 + 4 * j) 4)) = false →
      outOfLimits im (tab (modelDof im) (fun j => u.peekN (fieldLE d 0x38 8 + 4 * j) 4)) = false →
      ∃ t, exec (.plan r) s = .next t ∧ t.pcu.waiting = u.pcu.waiting ++ [r] ∧ t.pcu.held = u.pcu.held) ∧
     (∀ (v u : State) (r : Nat) (q : Request) (d im : Bytes) (ep : PEpoch) (p0 : Plan), s.nextPlan = some r → v = s.unqueuePlan r →
      v.req r = some q → d = v.peek q.cmdAddr 128 → im = (v.pcu.models.find (fieldLE d 2 1)).getD [] → v.quarantined 0x8A = false →
      v.pcu.epochs.find (if fieldLE d 0x1C 4 = 0 then v.pcu.newest else fieldLE d 0x1C 4) = some ep → p0 = v.newPlan r q d im ep →
      outOfLimits im p0.start = false → outOfLimits im p0.goal = false →
      poseHit im ep (ep.only p0.tStart) p0.start = none → poseHit im ep (2 ^ (ep.slices - 1)) p0.goal = none →
      u = (v.seatPlan r q p0).showPcu →
      (let p := (u.countCheck p0 2).2.advance u.pcu.newest planFuel
       (∀ st, p.phase ≠ .ended st) →
       ∃ t, exec .planHeld s = .next t ∧ t.pcu.held.find r = some p ∧ t.pcu.order = s.pcu.order ++ [r] ∧
         t.pcu.waiting = s.pcu.waiting.filter (fun x => !(x == r)) ∧
         t.reg Reg.PCU_CNT_CHECK = s.reg Reg.PCU_CNT_CHECK + 2)) ∧
     (∃ t, exec .quantumEnd s = .next t ∧ t.pcu.yield = false ∧
       t.pcu.turn = (match s.pcu.turn with | none => s.pcu.order.head? | some r => s.nextTurn r)) ∧
     (∀ (r : Nat) (q : Request) (p : Plan) (ep : PEpoch), s.pcu.held.find r = some p → s.req r = some q → s.pcu.turn = some r →
      p.waits = true → (s.selfTest 0x8A).running = false → s.quarantined 0x8A = false → s.pcu.epochs.find p.snap = some ep →
      (let p' := (s.countCheck p 1).2.afterCheck (p.verdict ep) s.pcu.newest
       ∃ t, exec (.edgeCheckDone r) s = .next t ∧ t.reg Reg.PCU_CNT_CHECK = s.reg Reg.PCU_CNT_CHECK + 1 ∧
         ((∀ st, p'.phase ≠ .ended st) → t.pcu.held.find r = some p'))) ∧
     (∀ (r : Nat) (q : Request) (p : Plan), s.pcu.held.find r = some p → s.req r = some q → due s.now p.budget = true →
      ((match p.phase with
        | .validate _ _ | .release | .ended _ | .shortcut _ | .cut _ _ _ _ => false
        | _ => true) = true →
       (State.engineWrite (s.havocOuts q (planOuts p.desc), 0) r q 5 (fieldLE p.desc 0x40 8) ((p.giveUp 0x0F).result 0x0F)).2 = 0 →
       ∃ t, exec (.planBudgetExpired r) s = .next t ∧ t.req r = none ∧ t.pcu.held.find r = none ∧
         t.reg Reg.PCU_CNT_PLAN = s.reg Reg.PCU_CNT_PLAN + 1) ∧
      ((match p.phase with | .shortcut _ | .cut _ _ _ _ => true | _ => false) = true →
       (let p' := ({ p with phase := .release } : Plan).advance s.pcu.newest planFuel
        (∀ st, p'.phase ≠ .ended st) →
        ∃ t, exec (.planBudgetExpired r) s = .next t ∧ t.pcu.held.find r = some p'))))

/-- What MODEL_LOAD, MAP_UPDATE and EPOCH_COMMIT do. A MODEL_LOAD whose image is read and sound, in a slot that no PLAN
names, holds the image in that slot, shows its signature in PCU_MODEL and ends. A MAP_UPDATE that passes its checks,
with leaf records inside the map, starts the next epoch from the newest one, or from an empty map: its leaves are
those of its base with the listed masks replaced. EPOCH_COMMIT of a started update with at most 2^20 occupied leaves,
whose number's place is readied and written, makes it the newest epoch, ends the request and counts it.
Completion: this states that exec answers a next state with the effect of its own, under conditions on the state and
the operands alone, for each of modelLoad, mapUpdate, epochCommit. -/
def Obligations.ModelsAndEpochsAreBuilt : Prop :=
  ∀ (s u : State) (r : Nat) (q : Request), s.running = true →
    ((∀ (d im : Bytes), s.pcuReq r 0x81 = some q → d = s.peek q.cmdAddr 32 → s.mapEngineFor r = true → s.modelMask q d = 0 →
      s.engineReads r q 5 [(fieldLE d 8 8, fieldLE d 4 4)] [] = (u, .ready) → im = u.peek (fieldLE d 8 8) (fieldLE d 4 4) →
      fieldLE d 4 4 = modelBytes im → modelOk im = true →
      ∃ t, exec (.modelLoad r) s = .next t ∧ t.req r = none ∧ t.pcu.models.find (fieldLE d 1 1) = some im ∧
        t.reg (Reg.PCU_MODEL (fieldLE d 1 1)) =
          BitVec.ofNat 64 (crc32c im + modelDof im * 2 ^ 32 + (modelVols im - 1) * 2 ^ 40 + 2 ^ 63)) ∧
     (∀ (d : Bytes) (ep : PEpoch) (ls : List (Nat × Nat × Nat × Nat)), s.pcuReq r 0x82 = some q → d = s.peek q.cmdAddr 64 →
      s.pcu.update = none → s.mapEngineFor r = true → s.baseEpoch (fieldLE d 1 1) (time96Frac (fieldLE d 0x10 12)) = some ep →
      s.mapMask q d (some ep) = 0 →
      s.engineReads r q 5 [(fieldLE d 8 8, 8 * fieldLE d 4 4)] [(fieldLE d 0x20 8, 4)] = (u, .ready) →
      ls = leafRecords (u.peek (fieldLE d 8 8) (8 * fieldLE d 4 4)) (fieldLE d 4 4) →
      ls.all (fun l => decide (l.1 < 2 ^ ep.depth) && decide (l.2.1 < 2 ^ ep.depth) && decide (l.2.2.1 < 2 ^ ep.depth) &&
        decide (l.2.2.2 < 2 ^ ep.slices)) = true →
      ∃ t ep', exec (.mapUpdate r) s = .next t ∧ t.pcu.update = some (r, ep') ∧ ep'.num = ep.num ∧ t.bit Reg.PCU_STATE 3 = true ∧
        ∀ k, SMap.get (fun _ => 0) ep'.leaves k =
          ls.foldl (fun v l => if k = leafKey l.1 l.2.1 l.2.2.1 then l.2.2.2 else v) (SMap.get (fun _ => 0) ep.leaves k)) ∧
     (∀ (d : Bytes) (ep : PEpoch), s.outsReady u r q 5 [(fieldLE d 0x20 8, 4)] → s.pcu.update = some (r, ep) → s.req r = some q → d = s.peek q.cmdAddr 64 →
      s.quarantined 0x8A = false → ep.leaves.length ≤ 2 ^ 20 →
      (State.engineWrite (u.setUpdate none, 0) r q 5 (fieldLE d 0x20 8) (natLE 4 ep.num)).2 = 0 →
      ∃ t, exec .epochCommit s = .next t ∧ t.req r = none ∧ t.pcu.newest = ep.num ∧ t.pcu.epochs.find ep.num = some ep ∧
        t.pcu.update = none ∧
        t.reg Reg.PCU_CNT_UPDATE = u.reg Reg.PCU_CNT_UPDATE + 1))

/-- What the eleven events of a field segment do. A PLCA_BEACON shows the beacon and PLCA active in T1S_STATE. A
PLCA_OPPORTUNITY sends at most 1 + MAX_BC ready frames, output frames first, and counts the output frames it defers.
The other events of an enabled segment each increment their counter: a collision with PLCA on sets MISCONFIG and makes
the last frame ready again, as the first; OUT_OF_SLOT sets MISCONFIG, a beacon conflict and RX_JABBER their flags;
more than NOISE_LIMIT symbol errors in one TB0 millisecond set NOISY; a cut transmission switches the transmitter off.
TX_REENABLE 1 ms later switches it on, and with PLCA off sends the frames that waited. TSYNC_FRAME sends a time frame where TSYNC_MS have passed since the last.
Completion: this states that exec answers a next state with the effect of its own, under conditions on the state and
the operands alone, for each of plcaBeacon, plcaOpportunity, plcaCollision, outOfSlot, beaconConflict, segmentNoise,
fcsError, rxJabber, txJabberCut, tsyncFrame, txReenable. -/
def Obligations.FieldSegmentsRunPlca : Prop :=
  ∀ (s : State) (k : Fin 4), s.running = true →
    ((s.plcaOn k = true → ∃ t, exec (.plcaBeacon k) s = .next t ∧ t.bit (Reg.T1S_STATE k) 0 = true ∧
        t.bit (Reg.T1S_STATE k) 1 = true ∧ (t.seg k).beaconMs = s.now / 1000000) ∧
     (let order := (s.seg k).ready.filter (·.1) ++ (s.seg k).ready.filter (fun f => !f.1)
      let n := 1 + s.segCfg k 5
      s.plcaOn k = true → ∃ t, exec (.plcaOpportunity k) s = .next t ∧ (t.seg k).ready = order.drop n ∧
        t.reg (Reg.NET_CNT_TX (9 + k)) = s.reg (Reg.NET_CNT_TX (9 + k)) + BitVec.ofNat 64 (order.take n).length ∧
        t.reg (Reg.T1S_CNT_DEFER k) = s.reg (Reg.T1S_CNT_DEFER k) + BitVec.ofNat 64 ((order.drop n).filter (·.1)).length) ∧
     (s.segOn k = true →
      (∃ t, exec (.plcaCollision k) s = .next t ∧
        t.reg (Reg.T1S_CNT_COLLISION k) = s.reg (Reg.T1S_CNT_COLLISION k) + 1 ∧
        (s.segCfg k 2 ≠ 0 → t.bit (Reg.T1S_FLAGS k) 0 = true ∧
          ∀ f, SMap.get (fun _ => []) s.net.lastTx (9 + k) = f → f ≠ [] →
            (t.seg k).ready = (frType f == 0x88B5, f) :: (s.seg k).ready)) ∧
      (∃ t, exec (.outOfSlot k) s = .next t ∧ t.reg (Reg.T1S_CNT_OUT_OF_SLOT k) = s.reg (Reg.T1S_CNT_OUT_OF_SLOT k) + 1 ∧
        t.bit (Reg.T1S_FLAGS k) 0 = true) ∧
      (∃ t, exec (.beaconConflict k) s = .next t ∧
        t.reg (Reg.T1S_CNT_BEACON_CONFLICT k) = s.reg (Reg.T1S_CNT_BEACON_CONFLICT k) + 1 ∧
        t.bit (Reg.T1S_FLAGS k) 1 = true) ∧
      (let n := if (s.seg k).noiseMs = s.now / 1000000 then (s.seg k).noise + 1 else 1
       ∃ t, exec (.segmentNoise k) s = .next t ∧ t.reg (Reg.T1S_CNT_NOISE k) = s.reg (Reg.T1S_CNT_NOISE k) + 1 ∧
        (t.seg k).noise = n ∧ (n = s.noiseLimit k + 1 → t.bit (Reg.T1S_FLAGS k) 2 = true)) ∧
      (∃ t, exec (.fcsError k) s = .next t ∧ t.reg (Reg.T1S_CNT_FCS k) = s.reg (Reg.T1S_CNT_FCS k) + 1) ∧
      (∃ t, exec (.rxJabber k) s = .next t ∧ t.reg (Reg.T1S_CNT_JABBER k) = s.reg (Reg.T1S_CNT_JABBER k) + 1 ∧
        t.bit (Reg.T1S_FLAGS k) 3 = true) ∧
      (∃ t, exec (.txJabberCut k) s = .next t ∧ t.reg (Reg.T1S_CNT_JABBER k) = s.reg (Reg.T1S_CNT_JABBER k) + 1 ∧
        (t.seg k).off = some s.now) ∧
      (s.segCfg k 9 ≠ 0 → (s.seg k).off = none → s.syncDue k = true → ∃ t, exec (.tsyncFrame k) s = .next t ∧
        (t.seg k).tsync = ((s.seg k).tsync + 1) % 2 ^ 32 ∧ (t.seg k).synced = some s.now ∧
        SMap.get (fun _ => []) t.net.lastTx (9 + k) = s.timeFrame k ∧
        t.reg (Reg.NET_CNT_TX (9 + k)) = s.reg (Reg.NET_CNT_TX (9 + k)) + 1)) ∧
     (∀ x, (s.seg k).off = some x → x + 1000000 ≤ s.now → ∃ t, exec (.txReenable k) s = .next t ∧ (t.seg k).off = none ∧
        (s.segCfg k 2 ≠ 0 → (t.seg k).ready = (s.seg k).ready) ∧
        (s.segCfg k 2 = 0 → (t.seg k).ready = [] ∧
          t.reg (Reg.NET_CNT_TX (9 + k)) = s.reg (Reg.NET_CNT_TX (9 + k)) + BitVec.ofNat 64 (s.seg k).ready.length)))

/-- How roster nodes are enabled, time out, send input and get output. NODE_ENABLE of a disabled entry that breaks no rule
of the roster makes it enabled and ACTIVE with an empty exchange from now on; one that breaks a rule sets ROSTER in
NET_REJECT and stays disabled; disabling clears both. NODE_TIMEOUT of an ACTIVE node that was silent for TIMEOUT_US
makes it LOST and sets NODE_LOST. PD_INPUT_FRAME with a valid newer input frame is counted, makes its node ACTIVE and
records its sequence and time; an old one is counted as old, an invalid one as bad. OUT_HOLD_EXPIRY at the hold time
sends the node's frame: the sequence moves on, and PD_STALE is counted.
Completion: this states that exec answers a next state with the effect of its own, under conditions on the state and
the operands alone, for each of nodeEnable, nodeTimeout, pdInputFrame, outHoldExpiry. -/
def Obligations.NodesExchangeProcessData : Prop :=
  ∀ (s : State) (n : Fin 1024), s.running = true →
    ((s.roster n 1 = 0 → s.rosterBad n = false →
      ∃ t, exec (.nodeEnable n true) s = .next t ∧ t.roster n 1 = 1 ∧ t.roster n 0x0B = 1 ∧
        t.node n = { NetNode.idle with since := s.now }) ∧
     (s.roster n 1 = 0 → s.rosterBad n = true →
      ∃ t, exec (.nodeEnable n true) s = .next t ∧ t.roster n 1 = 0 ∧ t.net = s.net ∧ t.bit Reg.NET_REJECT 0 = true) ∧
     (∃ t, exec (.nodeEnable n false) s = .next t ∧ t.roster n 1 = 0 ∧ t.roster n 0x0B = 0 ∧ t.node n = NetNode.idle) ∧
     (s.roster n 1 ≠ 0 → s.roster n 0x0B = 1 → (s.node n).since + s.roster n 8 * 1000 ≤ s.now →
      ∃ t, exec (.nodeTimeout n) s = .next t ∧ t.roster n 0x0B = 2 ∧ t.bit Reg.NET_FLAGS 0 = true) ∧
     (∀ (u : State) (p : Fin 10) (f : Bytes), s.receive p f = (u, true) →
      (let b := frBody f
       let n := fieldLE b 2 2
       let old := u.roster n 0x0B = 1 ∧ ∃ q, (u.node n).lastSeq = some q ∧ signed 32 (fieldLE b 4 4 + 2 ^ 32 - q) ≤ 0
       (u.pdValid p f = true → ¬ old →
         ∃ t, exec (.pdInputFrame p f) s = .next t ∧ t.reg Reg.NET_CNT_PD_RX = u.reg Reg.NET_CNT_PD_RX + 1 ∧
           (t.node n).lastSeq = some (fieldLE b 4 4) ∧ (t.node n).since = u.now ∧ t.roster n 0x0B = 1) ∧
       (u.pdValid p f = true → old →
         ∃ t, exec (.pdInputFrame p f) s = .next t ∧ t.reg Reg.NET_CNT_PD_OLD = u.reg Reg.NET_CNT_PD_OLD + 1 ∧ t.net = u.net) ∧
       (u.pdValid p f = false →
         ∃ t, exec (.pdInputFrame p f) s = .next t ∧ t.reg Reg.NET_CNT_PD_BAD = u.reg Reg.NET_CNT_PD_BAD + 1 ∧ t.net = u.net))) ∧
     (∀ x, (s.node n).first = some x → x + s.roster n 0x0A ≤ s.now →
      ∃ t, exec (.outHoldExpiry n) s = .next t ∧ (t.node n).first = none ∧ (t.node n).written = [] ∧
        (t.node n).seq = ((s.node n).seq + 1) % 2 ^ 32 ∧
        t.reg Reg.NET_CNT_PD_STALE = s.reg Reg.NET_CNT_PD_STALE + 1))

/-- Received frames are learned, forwarded and answered; gates, links and the PCIe port follow their events. A received
frame that passes is counted, its unicast source is learned on ports 0 to 5, and it leaves by its one destination
where that is the Crown, or a port whose gate for its class is open. ARP and ICMP echo requests for the Crown's
address are answered by the port they came from. Where no cycle of its list goes on, a gate cycle starts with the operational
list's first interval, a pending list whose base time has come taking over, and passed-over cycles are counted; a list's next
interval takes effect when the interval in force has ended. Link events show in NET_STATE and PCIE_STATE. An inbound PCIe access within a window reads what the range
holds or stores its bytes; one outside every inbound window is counted. (Bridging beyond R358 is the model's: log
entry 65.)
Completion: this states that exec answers a next state with the effect of its own, under conditions on the state and
the operands alone, for each of frameRx, arpRequest, icmpEcho, gclCycleStart, gclEntryExpiry, portLinkChange,
pcieLinkChange, pcieInboundAccess. -/
def Obligations.FramesAreForwardedAndAnswered : Prop :=
  ∀ (s : State), s.running = true →
    ((∀ (u : State) (p : Fin 10) (f : Bytes) (v : Nat), s.receive p f = (u, true) → s.vlanOf p f = v → v ≠ 0 → v ≠ 4095 →
      ∃ t, exec (.frameRx p f) s = .next t ∧
        t.reg (Reg.NET_CNT_RX (switchPort p)) = s.reg (Reg.NET_CNT_RX (switchPort p)) + 1 ∧
        (p.val < 6 → (frSrc f >>> 40).testBit 0 = false → u.net.fdb.length < 8192 →
          t.net.fdb.find (v * 2 ^ 48 + frSrc f) = some p.val) ∧
        (∀ q, u.destinations p v f = [q] → ((6 ≤ q ∧ q < 9) ∨
            (q < 6 ∧ u.dictN (0x1A00 + q) 1 ≠ 0 ∧ u.bit Reg.NET_STATE q = true ∧ u.gateOpen q (frClass f) = true)) →
          SMap.get (fun _ => []) t.net.lastTx q = f)) ∧
     (∀ (u : State) (p : Fin 6) (f : Bytes), s.receive p f = (u, true) → u.dictN (0x1A00 + p) 1 ≠ 0 →
      u.bit Reg.NET_STATE p = true →
      (let b := frBody f
       let sent (t : State) (a : Bytes) : Prop := SMap.get (fun _ => []) t.net.lastTx p = a ∧
         t.reg (Reg.NET_CNT_TX p) = u.reg (Reg.NET_CNT_TX p) + 1
       (frType f = 0x0806 → 28 ≤ b.length → fieldBE b 6 2 = 1 → fieldBE b 24 4 = s.ownIp →
        u.gateOpen p (frClass (s.arpAnswer f)) = true → ∃ t, exec (.arpRequest p f) s = .next t ∧ sent t (s.arpAnswer f)) ∧
       (frType f = 0x0800 → 28 ≤ fieldBE b 2 2 → fieldBE b 2 2 ≤ b.length → fieldLE b 0 1 = 0x45 → fieldLE b 9 1 = 1 →
        fieldBE b 16 4 = s.ownIp → fieldLE b 20 1 = 8 → fieldBE b 6 2 % 0x4000 = 0 →
        u.gateOpen p (frClass (s.icmpAnswer f)) = true → ∃ t, exec (.icmpEcho p f) s = .next t ∧ sent t (s.icmpAnswer f)))) ∧
     (∀ (p : Fin 6), let admin := s.octetsOf (0x1A10 + p) 1
      let ready : Bool := admin != [] && decide (Config.gclBase admin ≤ s.gclNow admin)
      let list := if ready then some admin else if admin = [] then none else (s.net.gcl.find p).map (·.list)
      ((∀ l, list = some l → s.gclRuns p l = false) → ∃ t, exec (.gclCycleStart p) s = .next t ∧
        t.net.gcl.find p = list.map (fun l => ⟨l, 0, gclStart l (s.gclNow l)⟩) ∧
        (∀ g, s.net.gcl.find p = some g → list = some g.list → t.reg (Reg.NET_CNT_GCL_SKIP p) = s.reg (Reg.NET_CNT_GCL_SKIP p) +
            BitVec.ofNat 64 (gclIndex g.list (s.gclNow g.list) - gclIndex g.list g.start - 1))) ∧
      (∀ g, s.net.gcl.find p = some g → g.start + gclEnd g.list g.idx ≤ s.gclNow g.list → ∃ t, exec (.gclEntryExpiry p) s = .next t ∧
        t.net.gcl.find p = some (if g.idx + 1 < Config.gclLen g.list then { g with idx := g.idx + 1 } else g))) ∧
     (∀ (p : Fin 6) (up preempt : Bool), ∃ t, exec (.portLinkChange p up preempt) s = .next t ∧
        t.bit Reg.NET_STATE p = up ∧ t.bit Reg.NET_STATE (6 + p) = (up && preempt)) ∧
     (∀ (up : Bool) (width rate : Fin 8), ∃ t, exec (.pcieLinkChange up width rate) s = .next t ∧
        t.bit Reg.PCIE_STATE 8 = (up && s.pcieMode != 0) ∧ t.pcieMode = s.pcieMode ∧
        (up = true → s.pcieMode ≠ 0 → t.fld Reg.PCIE_STATE 0 3 = width.val ∧ t.fld Reg.PCIE_STATE 3 3 = rate.val)) ∧
     (∀ (w : Fin 9) (off : Nat) (wr : Bool) (data : Bytes), s.bit Reg.PCIE_STATE 8 = true →
      (s.pcieMode = 2 → s.pcieAddr w off = none →
        ∃ t, exec (.pcieInboundAccess w off wr data) s = .next t ∧
          t.reg Reg.PCIE_CNT_INBOUND_BAD = s.reg Reg.PCIE_CNT_INBOUND_BAD + 1) ∧
      (∀ a, s.pcieAddr w off = some a → s.pcieReach a data.length = true →
        ((s.pcieTouch a data.length).2 = 0 → ∃ t, exec (.pcieInboundAccess w off false data) s = .next t ∧
          t.readVal = BitVec.ofNat 64 (leNat (s.peek a data.length))) ∧
        ((pagesOf a data.length).any (fun pg => match s.page pg with | some p => p.ro | none => true) = false →
          data ≠ [] → a / 0x10000 = (a + data.length - 1) / 0x10000 →
          ((s.translate 5 (pageOf a)).touchWrite a data false none).2.status = 0 →
          ∃ t, exec (.pcieInboundAccess w off true data) s = .next t ∧ t.peek a data.length = data))))

/-- What an ODS request that is served reads or writes, and what it answers. For a well-formed request of a host entry
that may make it and does not repeat or precede a kept one, u being the state with its arrival counted. ODS_READ of an
implemented fixed-size entry other than DBG_DATA answers the entry's value in its type's size; of an unimplemented
entry, 8 zero bytes. ODS_WRITE of the right size that obeys the checks sets a plain port, roster or map entry to the
value and answers 0; a write to an unimplemented entry answers 0 and is counted in IGNORED_WRITES. ODS_READ_BLOCK at
OFFSET 0 answers the first piece of the captured value, with LAST when it is all, and keeps the capture otherwise.
ODS_WRITE_BLOCK: a first piece without LAST is held and answers 0; a first piece with LAST sets a plain variable-size
entry. Every answer is the host entry's newest kept response.
Completion: this states that exec answers a next state with the effect of its own, under conditions on the state and
the operands alone, for each of odsRead, odsWrite, odsReadBlock, odsWriteBlock. -/
def Obligations.ObjectsAreReadAndWritten : Prop :=
  ∀ (s : State) (p : Fin 7) (src : Nat) (g : Bytes) (h : Nat) (q : OdsReq),
    (s.odsTaken 1 p src g h q →
      ((s.odsSeen p).entryDef q.index q.sub = none →
        ∃ t, exec (.odsRead p src g) s = .next t ∧ t.odsAnswered h q 0 (List.replicate 8 0) false) ∧
      (∀ d, (s.odsSeen p).entryDef q.index q.sub = some d → typeVariable d.type = false → ¬ (q.index = 0xF000 ∧ q.sub = 2) →
        ∃ t, exec (.odsRead p src g) s = .next t ∧
          t.odsAnswered h q 0 (natLE (typeSize d.type) ((s.odsSeen p).entryNum h q.index q.sub)) false)) ∧
    (s.odsTaken 2 p src g h q →
      ((s.odsSeen p).entryDef q.index q.sub = none →
        ∃ t, exec (.odsWrite p src g) s = .next t ∧ t.odsAnswered h q 0 [] false ∧
          t.dictN 0x5000 1 = (s.dictN 0x5000 1 + 1) % 2 ^ 64 ∧ t.dictN 0x5000 2 = q.index + q.sub * 65536) ∧
      (∀ d, (s.odsSeen p).entryDef q.index q.sub = some d → typeVariable d.type = false → 2 ≤ d.access →
        q.len = typeSize d.type → d.accepts (leNat q.data) = true →
        (d.access = 4 → (s.odsSeen p).entryQuiet q.index q.sub (leNat q.data) = true) →
        (0x1A00 ≤ q.index ∧ q.index < 0x1A06 ∨ 0x8000 ≤ q.index ∧ q.index < 0x8C00 ∧ q.sub ≠ 1) →
        ∃ t, exec (.odsWrite p src g) s = .next t ∧ t.odsAnswered h q 0 [] false ∧
          t.dictN q.index q.sub = leNat q.data)) ∧
    (s.odsTaken 3 p src g h q →
      ∀ d u v, (s.odsSeen p).entryDef q.index q.sub = some d → typeVariable d.type = true → q.off = 0 →
        (s.odsSeen p).captureValue h q.index q.sub = (u, 0, v) →
        (let piece := v.take (if q.len = 0 then 1400 else Nat.min q.len 1400)
         ∃ t, exec (.odsReadBlock p src g) s = .next t ∧
           t.odsAnswered h q 0 piece (decide (v.length ≤ piece.length)) ∧
           (t.host h).capture =
             if v.length ≤ piece.length then none else some (dictKey q.index q.sub, v, piece.length, u.now))) ∧
    (s.odsTaken 4 p src g h q →
      ∀ d, (s.odsSeen p).entryDef q.index q.sub = some d → typeVariable d.type = true → 2 ≤ d.access → q.off = 0 →
        q.index ≠ 0x3201 → q.data.length ≤ typeSize d.type →
        (q.flags.testBit 1 = false →
          ∃ t, exec (.odsWriteBlock p src g) s = .next t ∧ t.odsAnswered h q 0 [] false ∧
            (t.host h).write = some (q.index, q.sub, q.data)) ∧
        (q.flags.testBit 1 = true → q.index ≠ 0x3202 → q.index ≠ 0x3210 → ¬ (0x4010 ≤ q.index ∧ q.index < 0x5000) →
          (d.access = 4 → (s.odsSeen p).entryQuiet q.index q.sub 0 = true) →
          ∃ t, exec (.odsWriteBlock p src g) s = .next t ∧ t.odsAnswered h q 0 [] false ∧ (t.host h).write = none ∧
            t.octetsOf q.index q.sub = q.data))

/-- Captures and kept responses expire; the stored set is written; DBG_DATA reads a register. ODS_CAPTURE_RELEASE drops a
capture whose last piece was served 1 s ago or longer, and no other. ODS_RESPONSE_EXPIRY keeps the responses sent
within 5 s. STORE and STORE_ERASE, while no action runs, start writing the captured set or erasing it, with
STORE_STATE 1; while one runs they leave it and count an abort. STORE_DONE ends the action: STORE_STATE is 0 and the
set is in force, or 3 with the earlier one. DBG_DATA_READ answers the register at DBG_ADDR when debug access is
unlocked; a bus error or locked access counts an abort.
Completion: this states that exec answers a next state with the effect of its own, under conditions on the state and
the operands alone, for each of odsCaptureRelease, odsResponseExpiry, store, storeErase, storeDone, dbgDataRead. -/
def Obligations.StoredSetAndDebugReads : Prop :=
  ∀ (s : State), s.live = true →
    (∀ (h : Fin 8) key v n at', (s.host h).capture = some (key, v, n, at') →
      ∃ t, exec (.odsCaptureRelease h) s = .next t ∧
        (t.host h).capture = if s.now < at' + 1000000000 then some (key, v, n, at') else none) ∧
    (∀ h : Fin 8, ∃ t, exec (.odsResponseExpiry h) s = .next t ∧
      (t.host h).kept = (s.host h).kept.filter (fun k => decide (s.now < k.2.1 + 5000000000))) ∧
    (s.sys.storing = none →
      (∃ t, exec .store s = .next t ∧ t.sys.storing = some (some s.captureSet) ∧ t.dictN 0x1000 2 = 1) ∧
      (∃ t, exec .storeErase s = .next t ∧ t.sys.storing = some none ∧ t.dictN 0x1000 2 = 1)) ∧
    (s.sys.storing ≠ none →
      (∃ t, exec .store s = .next t ∧ t.sys = s.sys ∧ t.dictN 0x5000 3 = (s.dictN 0x5000 3 + 1) % 2 ^ 64) ∧
      (∃ t, exec .storeErase s = .next t ∧ t.sys = s.sys ∧ t.dictN 0x5000 3 = (s.dictN 0x5000 3 + 1) % 2 ^ 64)) ∧
    (∀ ok what, s.sys.storing = some what →
      ∃ t, exec (.storeDone ok) s = .next t ∧ t.sys.storing = none ∧ t.dictN 0x1000 2 = (if ok then 0 else 3) ∧
        t.sys.stored = if ok then what else s.sys.stored) ∧
    (∀ h : Fin 8, s.dictN 0x1000 5 ≠ 0 → (s.host h).dbgAddr % 8 = 0 → inAlias (s.host h).dbgAddr = false →
      (regExists (s.host h).dbgAddr = true →
        ∃ t, exec (.dbgDataRead h) s = .next t ∧ t.readVal = BitVec.ofNat 64 (s.peekReg (s.host h).dbgAddr)) ∧
      (regExists (s.host h).dbgAddr = false →
        ∃ t, exec (.dbgDataRead h) s = .next t ∧ t.readVal = s.readVal ∧
          t.reg Reg.CFG_CNT_BUS_ERR = s.reg Reg.CFG_CNT_BUS_ERR + 1 ∧
          t.dictN 0x5000 3 = (s.dictN 0x5000 3 + 1) % 2 ^ 64)) ∧
    (∀ h : Fin 8, s.dictN 0x1000 5 = 0 →
      ∃ t, exec (.dbgDataRead h) s = .next t ∧ t.readVal = s.readVal ∧ t.dictN 0x5000 3 = (s.dictN 0x5000 3 + 1) % 2 ^ 64)

/-- What a register write does by the class of the register, written directly, by bit, or through DBG_DATA. For
REGISTER_WRITE, BIT_ALIAS_WRITE and DBG_DATA_WRITE alike (the value of an alias write being the one R399 gives). A
write to a read-only register (but for the W1C bit of CUF_STOP) changes no register. A write to a quiescent RWQ
register without a rule of its own gives it the merged and clamped value and changes no other register but CFG_STATUS;
when it is not quiescent, it keeps its value, CFG_REJECT is set, CFG_CNT_REJECT and CFG_CNT_BUS_ERR count (agents
other than Cuff). A write to an RWL register without a rule of its own gives its value at once for an immediate one,
else in its shadow, its value in force unchanged. A write of COMMIT in CFG_CTRL sets COMMIT_PENDING. An unaligned
REGISTER_WRITE, one of another size or where no register is, counts a bus error and changes no register but
CFG_BUS_ERR and CFG_BUS_ERR_ADDR; so does a BIT_ALIAS_WRITE outside its window.
Completion: this states that exec answers a next state with the effect of its own, under conditions on the state and
the operands alone, for each of registerWrite, bitAliasWrite, dbgDataWrite. -/
def Obligations.RegisterWritesFollowTheirClass : Prop :=
  (∀ (s : State) (c : Instr) (ag : Agent) (a v : Nat) (d : RegDef), s.writes c ag a v → regDef a = some d →
    (d.signed = true → 0x20000 ≤ a) →
    (d.cls = .ro ∨ d.cls = .rc → a ≠ Reg.CUF_STOP → ∃ t, exec c s = .next t ∧ t.regs = s.regs ∧ t.shadow = s.shadow) ∧
    (d.cls = .rwq → plainQuiet d.base = true → s.rwqQuiet d.base (d.ix0 a) (d.ix1 a) = true →
      ∃ t, exec c s = .next t ∧ t.reg a = BitVec.ofNat 64 (writtenTo a (s.shown a).toNat v) ∧
        ∀ b, b ≠ a → b ≠ Reg.CFG_STATUS (blockOf a) → t.reg b = s.reg b) ∧
    (d.cls = .rwq → plainQuiet d.base = true → s.rwqQuiet d.base (d.ix0 a) (d.ix1 a) = false → ag ≠ .cuff → 0x20000 ≤ a →
      ∃ t, exec c s = .next t ∧ t.reg a = s.reg a ∧ t.bit (Reg.CFG_STATUS (blockOf a)) 0 = true ∧
        t.reg (Reg.CFG_CNT_REJECT (blockOf a)) = s.reg (Reg.CFG_CNT_REJECT (blockOf a)) + 1 ∧
        t.reg Reg.CFG_CNT_BUS_ERR = s.reg Reg.CFG_CNT_BUS_ERR + 1) ∧
    (d.cls = .rwl .immediate → plainLive d.base = true →
      ∃ t, exec c s = .next t ∧ t.reg a = BitVec.ofNat 64 (writtenTo a (s.shown a).toNat v) ∧
        ∀ b, b ≠ a → b ≠ Reg.CFG_STATUS (blockOf a) → t.reg b = s.reg b) ∧
    (∀ b, d.cls = .rwl b → b ≠ .immediate → plainLive d.base = true →
      ∃ t, exec c s = .next t ∧ t.shown a = BitVec.ofNat 64 (writtenTo a (s.shown a).toNat v) ∧
        ∀ b', b' ≠ Reg.CFG_STATUS (blockOf a) → t.reg b' = s.reg b') ∧
    (∀ k : Fin 117, a = Reg.CFG_CTRL k → blockAssigned k = true → v = 2 →
      ∃ t, exec c s = .next t ∧ t.bit (Reg.CFG_STATUS k) 4 = true)) ∧
  (∀ (s : State) (ag : Agent) (addr size : Nat) (x : BitVec 64), s.brm.off = false → ag ≠ .cuff →
    (size ≠ 8 ∨ addr % 8 ≠ 0 ∨ inAlias addr = false ∧ regExists addr = false →
      ∃ t, exec (.registerWrite ag addr size x) s = .next t ∧ t.reg Reg.CFG_CNT_BUS_ERR = s.reg Reg.CFG_CNT_BUS_ERR + 1 ∧
        ∀ b, b ≠ Reg.CFG_BUS_ERR → b ≠ Reg.CFG_BUS_ERR_ADDR → b ≠ Reg.CFG_CNT_BUS_ERR → t.reg b = s.reg b) ∧
    (inAlias addr = false →
      ∃ t, exec (.bitAliasWrite ag addr x) s = .next t ∧ t.reg Reg.CFG_CNT_BUS_ERR = s.reg Reg.CFG_CNT_BUS_ERR + 1 ∧
        ∀ b, b ≠ Reg.CFG_BUS_ERR → b ≠ Reg.CFG_BUS_ERR_ADDR → b ≠ Reg.CFG_CNT_BUS_ERR → t.reg b = s.reg b))

/-- What a completed signature sweep, a commit and a written reference leave. For an assigned block k:
SIGNATURE_SWEEP_END, sig being the signature of the values in force. A pending commit takes sig as the reference:
REF_VALID is set, UNCOMMITTED and COMMIT_PENDING clear, and CFG_SIG_NOW holds sig with one more sweep counted. A sweep
that compares equal ends the drift episode. One that differs counts and shows drift, and begins an episode where none
has begun. COMMIT sets COMMIT_PENDING; COMMIT_ALL sets it in every assigned block. CFG_SIG_REF_WRITE makes the value
the reference, with REF_VALID set, UNCOMMITTED and COMMIT_PENDING clear.
Completion: this states that exec answers a next state with the effect of its own, under conditions on the state and
the operands alone, for each of signatureSweepEnd, commit, cfgSigRefWrite, commitAll. -/
def Obligations.SignaturesSweepAndCommit : Prop :=
  ∀ (s : State), s.brm.off = false →
    (∀ k : Fin 117, blockAssigned k = true →
      (let sig := s.signature k
       let now := BitVec.ofNat 64 (sig + (s.fld (Reg.CFG_SIG_NOW k) 32 32 + 1) % 2 ^ 32 * 2 ^ 32)
       (s.bit (Reg.CFG_STATUS k) 4 = true →
         ∃ t, exec (.signatureSweepEnd k) s = .next t ∧ t.reg (Reg.CFG_SIG_NOW k) = now ∧
           t.reg (Reg.CFG_SIG_REF k) = BitVec.ofNat 64 sig ∧ t.bit (Reg.CFG_STATUS k) 3 = true ∧
           t.bit (Reg.CFG_STATUS k) 2 = false ∧ t.bit (Reg.CFG_STATUS k) 4 = false) ∧
       (s.bit (Reg.CFG_STATUS k) 4 = false → s.bit (Reg.CFG_STATUS k) 3 = true → s.bit (Reg.CFG_STATUS k) 2 = false →
         (sig = s.fld (Reg.CFG_SIG_REF k) 0 32 →
           ∃ t, exec (.signatureSweepEnd k) s = .next t ∧ t.reg (Reg.CFG_SIG_NOW k) = now ∧ k.val ∉ t.sys.drifted) ∧
         (sig ≠ s.fld (Reg.CFG_SIG_REF k) 0 32 → k.val ∈ s.sys.drifted →
           ∃ t, exec (.signatureSweepEnd k) s = .next t ∧ t.reg (Reg.CFG_SIG_NOW k) = now ∧
             t.bit (Reg.CFG_STATUS k) 1 = true ∧ t.reg (Reg.CFG_CNT_DRIFT k) = s.reg (Reg.CFG_CNT_DRIFT k) + 1) ∧
         (sig ≠ s.fld (Reg.CFG_SIG_REF k) 0 32 → k.val ∉ s.sys.drifted →
           ∃ t, exec (.signatureSweepEnd k) s = .next t ∧ k.val ∈ t.sys.drifted ∧
             t.bit (Reg.CFG_STATUS k) 1 = true ∧ t.reg (Reg.CFG_CNT_DRIFT k) = s.reg (Reg.CFG_CNT_DRIFT k) + 1))) ∧
      (∃ t, exec (.commit k) s = .next t ∧ t.bit (Reg.CFG_STATUS k) 4 = true) ∧
      (∀ v : BitVec 32, ∃ t, exec (.cfgSigRefWrite k v) s = .next t ∧
        t.reg (Reg.CFG_SIG_REF k) = BitVec.ofNat 64 v.toNat ∧ t.bit (Reg.CFG_STATUS k) 3 = true ∧
        t.bit (Reg.CFG_STATUS k) 2 = false ∧ t.bit (Reg.CFG_STATUS k) 4 = false)) ∧
    ∃ t, exec .commitAll s = .next t ∧ ∀ k, k ∈ allBlocks → t.bit (Reg.CFG_STATUS k) 4 = true

/-- A snapshot copies every counter of a block, its time and its number. SNAP of an assigned block copies its counters, in
ascending order, to its holding registers, sets the time of the snapshot to TB0's nanoseconds and counts it, and
changes no other register. SNAP_ALL does so for every assigned block. Every read of a counter thus shows the value of
the same moment.
Completion: this states that exec answers a next state with the effect of its own, under conditions on the state and
the operands alone, for each of snap, snapAll. -/
def Obligations.SnapshotsCopyCounters : Prop :=
  ∀ (s : State), s.brm.off = false →
    (∀ k : Fin 117, blockAssigned k = true →
      ∃ t, exec (.snap k) s = .next t ∧
        (∀ i, i < (blockCounters k).length → t.reg (Reg.HOLD k i) = s.reg (nth 0 (blockCounters k) i)) ∧
        t.regN (Reg.HOLD_TIME k) = s.now ∧ t.regN (Reg.HOLD_SEQ k) = (s.regN (Reg.HOLD_SEQ k) + 1) % 2 ^ 32 ∧
        ∀ a, a < 0x40000 ∨ 0xC0000 ≤ a → t.reg a = s.reg a) ∧
    ∃ t, exec .snapAll s = .next t ∧
      (∀ k, k ∈ allBlocks → ∀ i, i < (blockCounters k).length → t.reg (Reg.HOLD k i) = s.reg (nth 0 (blockCounters k) i)) ∧
      (∀ k, k ∈ allBlocks → t.regN (Reg.HOLD_TIME k) = s.now ∧
        t.regN (Reg.HOLD_SEQ k) = (s.regN (Reg.HOLD_SEQ k) + 1) % 2 ^ 32) ∧
      ∀ a, a < 0x40000 ∨ 0xC0000 ≤ a → t.reg a = s.reg a

/-- What the module's supply events, safety outputs, management port and Seam links do. VIN_UNDERVOLTAGE and
VIN_OVERVOLTAGE of a supplied module stop both pairs and turn the rails off. VIN_RISE from 19.0 V and VIN_OV_RECOVER
below 61.0 V end the loss of their own kind. VIN_DIP below 18.0 V is counted. AUX_OVERLOAD above 400 mA folds back to
50 mA with AUX_FAULT; AUX_RECOVER below 300 mA clears it (the model's reading, log entry 80). SAFE_STOP_CURRENT_LIMIT
opens its commanded channel, SAFE_VEXT_LOSS below 10 V the A channels. I2C_OFFSET_WRITE keeps the offset; I2C_READ
answers the eight bytes at it (DEVICE, CUF_STATE, CUF_STOP, BRM_POWER, the voltages, SEC_STATE, else zero).
SEAM_REPLAY counts in the link's log and keeps its longest delay. SEAM_LINK_FAILURE takes the package to the safe
state.
Completion: this states that exec answers a next state with the effect of its own, under conditions on the state and
the operands alone, for each of vinUndervoltage, vinOvervoltage, i2cOffsetWrite, i2cRead, vinRise, vinOvRecover,
vinDip, auxOverload, auxRecover, safeStopCurrentLimit, safeVextLoss, seamReplay, seamLinkFailure. -/
def Obligations.SuppliesOutputsAndSeamLinks : Prop :=
  ∀ s : State,
    (s.mdl.off = 0 →
      (∀ mv, mv < 18000 → ∃ t, exec (.vinUndervoltage mv) s = .next t ∧ t.mdl.off = 1 ∧ t.brm.off = true ∧
        t.bit Reg.CUF_STOP 0 = true ∧ t.bit Reg.CUF_STOP 1 = true ∧ t.cuff.cmdLevel = 0) ∧
      (∀ mv, 63000 < mv → ∃ t, exec (.vinOvervoltage mv) s = .next t ∧ t.mdl.off = 2 ∧ t.brm.off = true ∧
        t.bit Reg.CUF_STOP 0 = true ∧ t.bit Reg.CUF_STOP 1 = true ∧ t.cuff.cmdLevel = 0) ∧
      (∀ o : BitVec 8, ∃ t, exec (.i2cOffsetWrite o) s = .next t ∧ t.mdl.offset = o.toNat) ∧
      (∃ t, exec .i2cRead s = .next t ∧ t.readVal = BitVec.ofNat 64
        (match s.mdl.offset with
         | 0 => s.deviceBody
         | 8 => s.regN Reg.CUF_STATE
         | 16 => s.regN Reg.CUF_STOP
         | 24 => s.regN Reg.BRM_POWER
         | 32 => s.dictN 0x2E10 1 + s.dictN 0x2E10 4 * 2 ^ 32
         | 40 => s.regN Reg.SEC_STATE
         | _ => 0))) ∧
    (∀ mv, 19000 ≤ mv → ∃ t, exec (.vinRise mv) s = .next t ∧ t.mdl.off = if s.mdl.off = 1 then 0 else s.mdl.off) ∧
    (∀ mv, mv < 61000 → ∃ t, exec (.vinOvRecover mv) s = .next t ∧ t.mdl.off = if s.mdl.off = 2 then 0 else s.mdl.off) ∧
    (s.brm.off = false →
      (∀ mv, mv < 18000 → ∃ t, exec (.vinDip mv) s = .next t ∧ t.dictN 0x2E10 3 = (s.dictN 0x2E10 3 + 1) % 2 ^ 32) ∧
      (∀ ma, 400 < ma → ∃ t, exec (.auxOverload ma) s = .next t ∧ t.dictN 0x2E10 5 = 1 ∧ t.dictN 0x2E10 6 = 50) ∧
      (∀ ma, ma < 300 → ∃ t, exec (.auxRecover ma) s = .next t ∧ t.dictN 0x2E10 5 = 0 ∧ t.dictN 0x2E10 6 = ma) ∧
      (∀ ch : Fin 4, ∃ t, exec (.safeStopCurrentLimit ch) s = .next t ∧
        t.cuff.openCh = s.cuff.openCh ||| (2 ^ ch.val &&& s.cuff.cmdLevel)) ∧
      (∀ mv, mv < 10000 → ∃ t, exec (.safeVextLoss mv) s = .next t ∧ t.dictN 0x2E10 4 = mv ∧
        t.cuff.openCh = s.cuff.openCh ||| (5 &&& s.cuff.cmdLevel)) ∧
      (∀ (k : Fin 11) flits ns, ∃ t, exec (.seamReplay k flits ns) s = .next t ∧
        t.dictN (0x5200 + k) 1 = (s.dictN (0x5200 + k) 1 + flits.failed) % 2 ^ 64 ∧
        t.dictN (0x5200 + k) 2 = (s.dictN (0x5200 + k) 2 + 1) % 2 ^ 64 ∧
        t.dictN (0x5200 + k) 3 = (s.dictN (0x5200 + k) 3 + flits.resent) % 2 ^ 64 ∧
        t.dictN (0x5200 + k) 4 = Nat.max (s.dictN (0x5200 + k) 4) (Nat.min ns (2 ^ 32 - 1))) ∧
      (∀ k : Fin 11, ∃ t, exec (.seamLinkFailure k) s = .next t ∧ t.inSafe = true))

/-- How Brim moves Palms between operating points and stretches clocks on droop. CAP_PERIOD counts the period, puts
waiting values of BRM_CAP and BRM_OPPT in force, keeps every transition in progress and begins others only by one
point. DIVIDER_STEP of a domain that may step takes its divider one towards its goal. RAIL_SLEW_DONE lets the rail of
a Palm in transition arrive: the Palm is at its new point, counted, once its domains have reached it, and keeps
waiting for them otherwise. DROOP_DETECT begins and counts a stretch; DROOP_CLEAR ends it and adds its time.
DROOP_LONG in a stretch and THROTTLE_STEP of a Palm being lowered begin a transition of one point down; DROOP_LONG
sets its flag.
Completion: this states that exec answers a next state with the effect of its own, under conditions on the state and
the operands alone, for each of capPeriod, dividerStep, railSlewDone, droopDetect, droopClear, droopLong,
throttleStep. -/
def Obligations.PowerPointsAndDroop : Prop :=
  ∀ s : State, s.brm.off = false →
    (∀ measured acts, ∃ t, exec (.capPeriod measured acts) s = .next t ∧
      t.reg Reg.BRM_CNT_PERIOD = s.reg Reg.BRM_CNT_PERIOD + 1 ∧
      t.reg Reg.BRM_CAP = s.shown Reg.BRM_CAP ∧ t.reg Reg.BRM_OPPT = s.shown Reg.BRM_OPPT ∧
      t.brm.measured = (measured :: s.brm.measured).take 100 ∧
      (∀ p m, s.brm.moves.find p = some m → t.brm.moves.find p = some m) ∧
      ∀ (p : Fin 4) m, s.brm.moves.find p = none → t.brm.moves.find p = some m →
        m.rail = false ∧ (m.dest = s.palmPoint p + 1 ∨ m.dest = s.palmPoint p - 1)) ∧
    (∀ d : Fin 26, s.dividerMay d = true →
      ∃ t, exec (.dividerStep d) s = .next t ∧ t.divider d = stepTowards (s.divider d) (s.dividerGoal d)) ∧
    (∀ (p : Fin 4) m, s.brm.moves.find p = some m → m.rail = false → (s.movingUp p = true ∨ s.palmDivided p = true) →
      (s.palmDivided p = true →
        ∃ t, exec (.railSlewDone p) s = .next t ∧ t.palmPoint p = m.dest % 8 ∧ t.brm.moves.find p = none ∧
          t.reg Reg.BRM_CNT_TRANSITION = s.reg Reg.BRM_CNT_TRANSITION + 1) ∧
      (s.palmDivided p = false →
        ∃ t, exec (.railSlewDone p) s = .next t ∧ t.brm.moves.find p = some { m with rail := true } ∧
          t.palmPoint p = s.palmPoint p)) ∧
    (∀ p : Fin 4, s.brm.stretch.find p = none →
      ∃ t, exec (.droopDetect p) s = .next t ∧ t.brm.stretch.find p = some s.now ∧ t.bit (Reg.BRM_PALM p) 9 = true ∧
        t.reg (Reg.BRM_CNT_DROOP p) = s.reg (Reg.BRM_CNT_DROOP p) + 1) ∧
    (∀ (p : Fin 4) since, s.brm.stretch.find p = some since →
      (∃ t, exec (.droopClear p) s = .next t ∧ t.brm.stretch.find p = none ∧ t.bit (Reg.BRM_PALM p) 9 = false ∧
        t.reg (Reg.BRM_CNT_STRETCH_NS p) = s.reg (Reg.BRM_CNT_STRETCH_NS p) + BitVec.ofNat 64 (s.now - since)) ∧
      (s.brm.moves.find p = none → s.floorPoint p < s.palmPoint p →
        ∃ t, exec (.droopLong p) s = .next t ∧ t.brm.moves.find p = some ⟨s.palmPoint p - 1, false⟩ ∧
          t.bit Reg.BRM_FLAGS 3 = true)) ∧
    (∀ p : Fin 4, s.brm.lowering.testBit p = true → s.palmPoint p ≠ 0 → s.brm.moves.find p = none →
      ∃ t, exec (.throttleStep p) s = .next t ∧ t.brm.moves.find p = some ⟨s.palmPoint p - 1, false⟩)

/-- What temperature readings, clock faults and gate writes do. THERMAL_SAMPLE shows the 64 readings. Below 115 °C
everywhere: a Palm whose hottest sensor is at 100 °C or more is throttled and being lowered, one below 95 °C is
neither; from 115 °C the package is in the safe state and its shutdown begins. RAILS_OFF one millisecond later turns
the rails off. CLOCK_FAULT counts, sets its flag, clears the lock bit, and takes the package to the safe state for XA,
ROOT, MEM and TIME; PLL_RELOCK of NET, AUD or CAM and PLL_LOCK set the lock bit. GATE_WRITE: turning a gate on turns
on every gate above it; a gate that may be turned off is off; a refused write changes no gate and says which and why;
a number without a gate is a bus error. IDLE_CLOCK_STOP stops the clock of an automatic, quiescent unit.
Completion: this states that exec answers a next state with the effect of its own, under conditions on the state and
the operands alone, for each of thermalSample, railsOff, clockFault, pllRelock, pllLock, gateWrite, idleClockStop. -/
def Obligations.HeatClocksAndGates : Prop :=
  ∀ s : State, s.brm.off = false →
    (∀ temps,
      (hottest temps (List.range 64) < 1840 →
        ∃ t, exec (.thermalSample temps) s = .next t ∧
          (∀ k, k < 64 → t.regN (Reg.BRM_THERM k) = codeOf 16 (nth 0 temps k)) ∧
          (∀ p, p < 4 → 1600 ≤ hottest temps (palmSensors p) → t.throttled p = true ∧ t.brm.lowering.testBit p = true) ∧
          (∀ p, p < 4 → hottest temps (palmSensors p) < 1520 → t.throttled p = false ∧ t.brm.lowering.testBit p = false)) ∧
      (1840 ≤ hottest temps (List.range 64) → s.brm.offAt = none →
        ∃ t, exec (.thermalSample temps) s = .next t ∧ t.inSafe = true ∧ t.brm.offAt = some s.now)) ∧
    (∀ t0, s.brm.offAt = some t0 → t0 + 1000000 ≤ s.now → ∃ t, exec .railsOff s = .next t ∧ t.brm.off = true) ∧
    (∀ pll : Fin 7, ∃ t, exec (.clockFault pll) s = .next t ∧
      t.reg Reg.BRM_CNT_LOCK_LOSS = s.reg Reg.BRM_CNT_LOCK_LOSS + 1 ∧ t.bit Reg.BRM_FLAGS 4 = true ∧
      (pll.val < 6 → t.bit Reg.BRM_STATE (4 + pll) = false) ∧
      (pll = 6 ∨ pll = 0 ∨ pll = 1 ∨ pll = 3 → t.inSafe = true)) ∧
    (∀ pll : Fin 7, pll = 2 ∨ pll = 4 ∨ pll = 5 →
      ∃ t, exec (.pllRelock pll) s = .next t ∧ t.bit Reg.BRM_STATE (4 + pll) = true) ∧
    (∀ pll : Fin 7, pll.val < 6 → ∃ t, exec (.pllLock pll) s = .next t ∧ t.bit Reg.BRM_STATE (4 + pll) = true) ∧
    (∀ (n : Fin 256) (v : BitVec 64),
      (gateNamed n = true → v.getLsbD 0 = true →
        ∃ t, exec (.gateWrite n v) s = .next t ∧ ∀ k, k ∈ gatePath n → t.bit (Reg.BRM_GATE k) 0 = true) ∧
      (gateNamed n = true → v.getLsbD 0 = false → s.gateRefusal n = none →
        ∃ t, exec (.gateWrite n v) s = .next t ∧ t.bit (Reg.BRM_GATE n) 0 = false ∧ t.bit (Reg.BRM_GATE n) 1 = v.getLsbD 1) ∧
      (∀ cause list, gateNamed n = true → v.getLsbD 0 = false → s.gateRefusal n = some (cause, list) →
        ∃ t, exec (.gateWrite n v) s = .next t ∧ (∀ k, k < 256 → t.reg (Reg.BRM_GATE k) = s.reg (Reg.BRM_GATE k)) ∧
          t.bit Reg.BRM_FLAGS 0 = true ∧ t.regN Reg.BRM_GATE_REFUSED = n + cause * 256 ∧
          t.reg Reg.CFG_CNT_BUS_ERR = s.reg Reg.CFG_CNT_BUS_ERR + 1) ∧
      (gateNamed n = false →
        ∃ t, exec (.gateWrite n v) s = .next t ∧ (∀ k, t.reg (Reg.BRM_GATE k) = s.reg (Reg.BRM_GATE k)) ∧
          t.reg Reg.CFG_CNT_BUS_ERR = s.reg Reg.CFG_CNT_BUS_ERR + 1)) ∧
    (∀ n : Fin 256, s.running = true → gateNamed n = true → s.bit (Reg.BRM_GATE n) 0 = true → s.bit (Reg.BRM_GATE n) 1 = true →
      (∀ k, k ∈ gatesBelow n → s.unitQuiet k = true) →
      ∃ t, exec (.idleClockStop n) s = .next t ∧ n.val ∈ t.brm.stopped)

/-- What the resets leave and where boot starts. A reset stops both pairs, clears boot's progress and shows its cause (1
POWER_GOOD, 2 PORST, 3 WARM_RST, 4 RESET_CMD_DELAY, 5 RECOVERY_RESET); a power-on reset (1, 2) zeroes the time bases,
a warm reset keeps them. POWER_GOOD of a supplied module, RESET_CMD_DELAY 10 ms after RESET_CMD and RECOVERY_RESET 10
ms after DONE start the boot at once where no reset pin is low: the phase is 1, or 3 with RECOV_N low. PORST and
WARM_RST hold the reset; WARM_RST with PORST_N low only notes its pin. RESET_RELEASE of a held reset releases both
pins and starts the boot. RESET_CMD with the key, while no image is being verified or written, begins its delay;
another value counts an abort.
Completion: this states that exec answers a next state with the effect of its own, under conditions on the state and
the operands alone, for each of powerGood, porst, warmRst, resetRelease, resetCmdDelay, recoveryReset, resetCmd. -/
def Obligations.ResetsBegin : Prop :=
  ∀ s : State,
    (∀ recov, s.mdl.off = 0 → s.boot.held = 0 →
      ∃ t, exec (.powerGood recov) s = .next t ∧ t.boot.cause = 1 ∧ t.boot.inReset = false ∧ t.boot.stage = 0 ∧
        t.time = State.reset.time ∧ t.phase = (if recov then 3 else 1) ∧
        t.bit Reg.CUF_STOP 0 = true ∧ t.bit Reg.CUF_STOP 1 = true) ∧
    (s.mdl.off = 0 →
      ∃ t, exec .porst s = .next t ∧ t.boot.cause = 2 ∧ t.boot.inReset = true ∧ t.boot.held = s.boot.held ||| 1 ∧
        t.boot.stage = 0 ∧ t.time = State.reset.time ∧ t.bit Reg.CUF_STOP 0 = true ∧ t.bit Reg.CUF_STOP 1 = true) ∧
    (s.brm.off = false →
      (s.boot.held.testBit 0 = false →
        ∃ t, exec .warmRst s = .next t ∧ t.boot.cause = 3 ∧ t.boot.inReset = true ∧ t.boot.held = s.boot.held ||| 2 ∧
          t.boot.stage = 0 ∧ t.time = s.time ∧ t.bit Reg.CUF_STOP 0 = true ∧ t.bit Reg.CUF_STOP 1 = true) ∧
      (s.boot.held.testBit 0 = true →
        ∃ t, exec .warmRst s = .next t ∧ t.boot = { s.boot with held := s.boot.held ||| 2 } ∧ t.time = s.time)) ∧
    (∀ recov, s.boot.inReset = true → s.boot.held ≠ 0 →
      ∃ t, exec (.resetRelease recov) s = .next t ∧ t.boot.inReset = false ∧ t.boot.held = 0 ∧
        t.phase = if recov then 3 else 1) ∧
    (∀ recov x, s.live = true → s.boot.resetAt = some x → x + 10000000 ≤ s.now → s.boot.held = 0 →
      ∃ t, exec (.resetCmdDelay recov) s = .next t ∧ t.boot.cause = 4 ∧ t.boot.inReset = false ∧ t.boot.stage = 0 ∧
        t.time = s.time ∧ t.phase = (if recov then 3 else 1) ∧
        t.bit Reg.CUF_STOP 0 = true ∧ t.bit Reg.CUF_STOP 1 = true) ∧
    (∀ recov x, s.brm.off = false → s.boot.doneAt = some x → x + 10000000 ≤ s.now → s.boot.held = 0 →
      ∃ t, exec (.recoveryReset recov) s = .next t ∧ t.boot.cause = 5 ∧ t.boot.inReset = false ∧ t.boot.stage = 0 ∧
        t.time = s.time ∧ t.phase = (if recov then 3 else 1) ∧
        t.bit Reg.CUF_STOP 0 = true ∧ t.bit Reg.CUF_STOP 1 = true) ∧
    (∀ v : BitVec 16, s.live = true →
      (v = 0x5752#16 → s.fwBusy = false → ∃ t, exec (.resetCmd v) s = .next t ∧ t.boot.resetAt = some s.now) ∧
      (v ≠ 0x5752#16 ∨ s.fwBusy = true →
        ∃ t, exec (.resetCmd v) s = .next t ∧ t.boot = s.boot ∧ t.dictN 0x5000 3 = (s.dictN 0x5000 3 + 1) % 2 ^ 64))

/-- How the boot sequence, memory training and the recovery exchange go on. STAGE_LOADED in turn: a good header (stage 0)
moves to phase 2, a stage with its digest counts as started, the last ends the ROM in phase 4; what fails enters
recovery with its code. MEMORY_TRAINED in phase 4 marks the first memory; with the second the blocks start.
SEC_VERSION_ADVANCE raises the fused value, never lowering it. In recovery without an exchange, HELLO goes out on
every port with a link, and a valid OFFER begins an exchange whose first GETs are sent. DATA that answers an
outstanding GET keeps its bytes and sends the next GETs; the last ends the exchange, and an image that passes is
written to flash. GET_RESEND sends late GETs again, or gives up after 50 sends of one.
Completion: this states that exec answers a next state with the effect of its own, under conditions on the state and
the operands alone, for each of stageLoaded, secVersionAdvance, memoryTrained, hello, offer, data, getResend. -/
def Obligations.BootAndRecoveryProgress : Prop :=
  ∀ s : State,
    (s.live = true →
      (s.boot.stage = 0 → s.phase = 1 → s.tooHot = false →
        (∀ ok, (if ok then s.headerCode s.boot.image else 1) = 0 →
          ∃ t, exec (.stageLoaded 0 ok) s = .next t ∧ t.phase = 2 ∧ t.boot.stage = 1) ∧
        (∀ ok c, (if ok then s.headerCode s.boot.image else 1) = c → c ≠ 0 →
          ∃ t, exec (.stageLoaded 0 ok) s = .next t ∧ t.phase = 3 ∧ t.dictN 0x3200 2 = c)) ∧
      (∀ k : Fin 5, k ≠ 0 → s.boot.stage = k.val → s.phase = 2 →
        (stageMatches s.boot.image (k - 1) = true →
          ∃ t, exec (.stageLoaded k true) s = .next t ∧ t.boot.stage = k + 1 ∧ t.phase = if k = 4 then 4 else 2) ∧
        (stageMatches s.boot.image (k - 1) = false →
          ∃ t, exec (.stageLoaded k true) s = .next t ∧ t.phase = 3 ∧ t.dictN 0x3200 2 = 6) ∧
        ∃ t, exec (.stageLoaded k false) s = .next t ∧ t.phase = 3 ∧ t.dictN 0x3200 2 = 1) ∧
      (s.boot.advance = true →
        ∃ t, exec .secVersionAdvance s = .next t ∧ t.boot.advance = false ∧
          t.boot.secFused = Nat.max s.boot.secFused (s.fld Reg.SEC_STATE 16 8))) ∧
    (s.brm.off = false →
      (∀ lp, s.boot.inReset = false → s.phase = 4 →
        (s.boot.trained = 0 →
          ∃ t, exec (.memoryTrained lp) s = .next t ∧ t.boot.trained = if lp then 1 else 2) ∧
        (s.boot.trained = (if lp then 2 else 1) →
          ∃ t, exec (.memoryTrained lp) s = .next t ∧ t.reg Reg.PCIE_STATE = BitVec.ofNat 64 (t.dictN 0x2000 1 * 64))) ∧
      (s.recovering = true → s.boot.recovery = none → s.boot.doneAt = none →
        (∃ t, exec .hello s = .next t ∧
          ∀ p, p < 6 → t.reg (Reg.NET_CNT_TX p) = s.reg (Reg.NET_CNT_TX p) + if s.portUp p then 1 else 0) ∧
        (∀ (p : Fin 6) src msg, s.portUp p = true → recOk msg 2 = true → 1024 ≤ fieldLE msg 12 4 →
          fieldLE msg 12 4 ≤ 16777216 →
          (let f := Recovery.fill ⟨p, src, fieldLE msg 12 4, [], [], 0⟩ s.now
           ∃ t, exec (.offer p src msg) s = .next t ∧ t.boot.recovery = some f.1 ∧ t.boot.sent.length = f.2.length))) ∧
      (∀ (r : Recovery), s.recovering = true → s.boot.recovery = some r →
        (∀ (p : Fin 6) src msg, r.port = p → r.host = src → recOk msg 4 = true →
          fieldLE msg 12 4 = r.pieceLen (fieldLE msg 8 4) → 16 + r.pieceLen (fieldLE msg 8 4) ≤ msg.length →
          (r.gets.find (fieldLE msg 8 4)).isSome = true →
          (let o := fieldLE msg 8 4
           let r1 : Recovery := { r with
             data := Memory.write r.data o (imgPart msg 16 (r.pieceLen o)), gets := r.gets.drop o }
           (r1.gets.entries ≠ [] ∨ r1.next < r1.total →
             ∃ t, exec (.data p src msg) s = .next t ∧ t.boot.recovery = some (r1.fill s.now).1 ∧
               t.boot.sent.length = (r1.fill s.now).2.length) ∧
           (r1.gets.entries = [] → r1.total ≤ r1.next →
             ∃ t, exec (.data p src msg) s = .next t ∧ t.boot.recovery = none ∧
               (s.imageCode (Memory.read r1.data 0 r1.total) = 0 →
                 t.boot.image = Memory.read r1.data 0 r1.total ∧ t.boot.doneAt = some s.now)))) ∧
        (let late := r.gets.entries.filter (fun (e : Nat × Nat × Nat) => decide (e.2.2 + 100000000 ≤ s.now))
         (late.any (fun e => decide (50 ≤ e.2.1)) = true → ∃ t, exec .getResend s = .next t ∧ t.boot.recovery = none) ∧
         (late.any (fun e => decide (50 ≤ e.2.1)) = false → late ≠ [] →
           ∃ t, exec .getResend s = .next t ∧ t.boot.sent.length = late.length))))

/-- Firmware updates, the owner key, attestation, calibration and the lifetime log. A piece of FW_STAGE in order joins
what its host has written; the last one completes the staged image; none is taken while an image is verified or
written. FW_APPLY begins the check; FW_VERIFY_DONE shows its code and goes on to writing, or ends; FW_WRITE_DONE puts
the image into flash. OWNER_FUSE sets the hash once. NONCE of 48 bytes starts a report, and REPORT_READY captures,
signs and counts it. CAL_WRITE replaces a calibration entry, clears the digest's state and counts. What is refused
changes nothing and counts an abort. LIFETIME_SECOND counts a powered second, its temperature and voltage bins and
shows the voltage. LOG_WRITE, 600 powered seconds after the last one, writes the older copy, or loses it and shows so;
the other copy stands.
Completion: this states that exec answers a next state with the effect of its own, under conditions on the state and
the operands alone, for each of fwStage, fwApply, fwVerifyDone, fwWriteDone, ownerFuse, nonce, reportReady, calWrite,
lifetimeSecond, logWrite. -/
def Obligations.UpdatesIdentityAndLog : Prop :=
  ∀ s : State,
    (s.live = true →
      (∀ (h : Fin 8) (off : Nat) (data : Bytes) (last : Bool),
        (s.fwBusy = false → (off = 0 → s.boot.staged.isSome = true ∨ 8 ≤ s.freeFrames 3) →
          ∀ buf, (s.host h).withPiece (dictKey 0x3201 1) off data = some buf → buf.length ≤ 16777216 →
            ∃ t, exec (.fwStage h off data last) s = .next t ∧
              (if last then t.boot.staged = some buf ∧ (t.host h).write = none
               else (t.host h).write = some (0x3201, 1, buf))) ∧
        (s.fwBusy = true →
          ∃ t, exec (.fwStage h off data last) s = .next t ∧ t.boot = s.boot ∧ t.sys = s.sys ∧
            t.dictN 0x5000 3 = (s.dictN 0x5000 3 + 1) % 2 ^ 64)) ∧
      (s.fwBusy = false → ∃ t, exec .fwApply s = .next t ∧ t.dictN 0x3201 3 = 1) ∧
      (s.fwBusy = true →
        ∃ t, exec .fwApply s = .next t ∧ t.dictN 0x3201 3 = s.dictN 0x3201 3 ∧
          t.dictN 0x5000 3 = (s.dictN 0x5000 3 + 1) % 2 ^ 64) ∧
      (s.dictN 0x3201 3 = 1 →
        (let code := s.imageCode (s.boot.staged.getD [])
         ∃ t, exec .fwVerifyDone s = .next t ∧ t.dictN 0x3201 4 = code ∧
           t.dictN 0x3201 3 = (if code = 0 then 2 else 3) ∧ t.boot.image = if code = 0 then [] else s.boot.image)) ∧
      (s.dictN 0x3201 3 = 2 →
        ∃ t, exec .fwWriteDone s = .next t ∧ t.boot.image = s.boot.staged.getD [] ∧ t.dictN 0x3201 3 = 4) ∧
      (∀ hash : Bytes,
        (s.fwBusy = false → s.boot.ownerHash = [] → allZero hash = false → hash.length = 48 →
          ∃ t, exec (.ownerFuse hash) s = .next t ∧ t.boot.ownerHash = hash) ∧
        (s.fwBusy = true ∨ s.boot.ownerHash ≠ [] ∨ allZero hash = true ∨ hash.length ≠ 48 →
          ∃ t, exec (.ownerFuse hash) s = .next t ∧ t.boot = s.boot ∧
            t.dictN 0x5000 3 = (s.dictN 0x5000 3 + 1) % 2 ^ 64)) ∧
      (∀ (h : Fin 8) (nonce : Bytes),
        (nonce.length = 48 → ∃ t, exec (.nonce h nonce) s = .next t ∧ (t.host h).nonce = nonce ∧ (t.host h).att = 1) ∧
        (nonce.length ≠ 48 →
          ∃ t, exec (.nonce h nonce) s = .next t ∧ t.sys = s.sys ∧
            t.dictN 0x5000 3 = (s.dictN 0x5000 3 + 1) % 2 ^ 64) ∧
        ((s.host h).att = 1 →
          (let body := s.reportBody (s.host h).nonce
           ∃ t, exec (.reportReady h) s = .next t ∧ (t.host h).att = 2 ∧
             (t.host h).report = body ++ padTo 96 (Config.attSign s.boot.digests body) ∧
             t.reg Reg.SEC_CNT_ATTEST = s.reg Reg.SEC_CNT_ATTEST + 1))) ∧
      ∀ (i sub : Nat) (data : Bytes), 0x4010 ≤ i → i < 0x5000 → sub < 256 →
        ∃ t, exec (.calWrite i sub data) s = .next t ∧ t.boot.cal.find (dictKey i sub) = some data ∧
          t.dictN 0x4000 1 = 0 ∧ t.dictN 0x4000 2 = (s.dictN 0x4000 2 + 1) % 2 ^ 32) ∧
    (s.brm.off = false →
      (∀ mv : Nat,
        (let temps := (List.range 64).map (fun k => signed 16 (s.fld (Reg.BRM_THERM k) 0 16))
         let b := tempBin (hottest temps (List.range 64)) + 1
         ∃ t, exec (.lifetimeSecond mv) s = .next t ∧ t.dictN 0x2E10 1 = mv ∧
           t.dictN 0x2E10 2 = (if s.dictN 0x2E10 2 = 0 then mv else Nat.min (s.dictN 0x2E10 2) mv) ∧
           t.dictN 0x5100 1 = Nat.min (s.dictN 0x5100 1 + 1) (2 ^ 64 - 1) ∧
           t.dictN 0x5110 b = Nat.min (s.dictN 0x5110 b + 1) (2 ^ 32 - 1) ∧
           t.dictN 0x5111 (voltBin mv + 1) = Nat.min (s.dictN 0x5111 (voltBin mv + 1) + 1) (2 ^ 32 - 1))) ∧
      ∀ ok : Bool, s.dictN 0x5150 2 + 600 ≤ s.dictN 0x5100 1 →
        (let a := logSeq s.boot.logA
         let b := logSeq s.boot.logB
         ∃ t, exec (.logWrite ok) s = .next t ∧ t.dictN 0x5150 1 = (if ok then 0 else 1) ∧
           t.dictN 0x5150 2 = (if ok then s.dictN 0x5100 1 else s.dictN 0x5150 2) ∧
           (if a ≤ b then t.boot.logB = s.boot.logB ∧ t.boot.logA = if ok then some (Nat.max a b + 1, t.lifetime) else none
            else t.boot.logA = s.boot.logA ∧ t.boot.logB = if ok then some (Nat.max a b + 1, t.lifetime) else none)))

/-- Stopping and releasing the SAFE_STOP pairs, the SAFE_IN channels and the hardware causes. STOP in a write of
CUF_STOP_CTRL stops the pairs it names, also beside a RELEASE; RELEASE alone, with its key, releases the pairs it
names where nothing holds them, and otherwise shows the cause and leaves them; a write with neither changes nothing.
STOP_RELEASE does so for both pairs, or counts an abort. SAFE_IN_TRIP and SAFE_IN_RUN show the channels' levels; a
trip from both running stops the pairs of CUF_CFG; SAFE_IN_DISCREPANT shows that they differ, and both running after
both stopped clear it. STOP_READBACK enters the safe state. A hardware cause enters it, is latched and stops both
pairs. LOCK with its key locks; CAP_ARM arms the capture; CAPTURE_NOW, when armed, captures, and otherwise counts a
miss.
Completion: this states that exec answers a next state with the effect of its own, under conditions on the state and
the operands alone, for each of stop, release, safeInTrip, safeInRun, safeInDiscrepant, stopReadback, lock, capArm,
captureNow, stopRelease, lockstepMismatch, cuffSupplyFault, watchdogExpiry. -/
def Obligations.StopsReleasesAndHardwareCauses : Prop :=
  ∀ s : State,
    (s.brm.off = false →
      (∀ (c : Instr) (v : BitVec 64), c = .stop v ∨ c = .release v →
        (let w := v.toNat
         (w.testBit 2 = true →
           ∃ t, exec c s = .next t ∧
             ∀ p, p < 2 → t.bit Reg.CUF_STOP p = (s.bit Reg.CUF_STOP p || w.testBit p)) ∧
         (w.testBit 2 = false → w.testBit 3 = true → bits w 48 16 = 0x524C →
           (s.releaseCause (w % 4) = 0 →
             ∃ t, exec c s = .next t ∧
               ∀ p, p < 2 → t.bit Reg.CUF_STOP p = (s.bit Reg.CUF_STOP p && !w.testBit p) ∧
                 (w.testBit p = true → t.cuff.cmdLevel.testBit (2 * p) = true ∧ t.cuff.cmdLevel.testBit (2 * p + 1) = true)) ∧
           (s.releaseCause (w % 4) ≠ 0 →
             ∃ t, exec c s = .next t ∧ t.fld Reg.CUF_STOP 0 2 = s.fld Reg.CUF_STOP 0 2 ∧ t.bit Reg.CUF_STOP 5 = true ∧
               t.fld Reg.CUF_STOP 8 8 = s.releaseCause (w % 4))) ∧
         (w.testBit 2 = false → w.testBit 3 = true → bits w 48 16 ≠ 0x524C →
           ∃ t, exec c s = .next t ∧ t.reg Reg.CUF_STOP = s.reg Reg.CUF_STOP ∧
             t.reg Reg.CFG_CNT_BUS_ERR = s.reg Reg.CFG_CNT_BUS_ERR + 1) ∧
         (w.testBit 2 = false → w.testBit 3 = false → exec c s = .next s))) ∧
      (∀ ch : Bool, ∃ t, exec (.safeInTrip ch) s = .next t ∧
        t.cuff.inA = (if ch then s.cuff.inA else false) ∧ t.cuff.inB = (if ch then false else s.cuff.inB) ∧
        t.bit Reg.CUF_STOP 2 = t.cuff.inA ∧ t.bit Reg.CUF_STOP 3 = t.cuff.inB ∧
        (s.cuff.inA = true → s.cuff.inB = true →
          ∀ p, p < 2 → s.bit Reg.CUF_CFG (40 + p) = true → t.bit Reg.CUF_STOP p = true)) ∧
      (∀ ch : Bool, ∃ t, exec (.safeInRun ch) s = .next t ∧
        t.cuff.inA = (if ch then s.cuff.inA else true) ∧ t.cuff.inB = (if ch then true else s.cuff.inB) ∧
        t.bit Reg.CUF_STOP 2 = t.cuff.inA ∧ t.bit Reg.CUF_STOP 3 = t.cuff.inB ∧
        (t.cuff.inA = true → t.cuff.inB = true → s.cuff.sawStop = true → t.bit Reg.CUF_STOP 4 = false)) ∧
      (s.cuff.inA ≠ s.cuff.inB → s.bit Reg.CUF_STOP 4 = false →
        ∃ t, exec .safeInDiscrepant s = .next t ∧ t.bit Reg.CUF_STOP 4 = true ∧ t.cuff.sawStop = false) ∧
      (∀ ch, ∃ t, exec (.stopReadback ch) s = .next t ∧ t.inSafe = true) ∧
      (∀ key : BitVec 16,
        (key = 0x4C4B#16 → ∃ t, exec (.lock key) s = .next t ∧ t.bit Reg.CUF_STATE 2 = true) ∧
        (key ≠ 0x4C4B#16 → ∃ t, exec (.lock key) s = .next t ∧ t.reg Reg.CUF_STATE = s.reg Reg.CUF_STATE)) ∧
      (∃ t, exec .capArm s = .next t ∧ t.bit Reg.CUF_CAP_SRC 3 = true) ∧
      (s.bit Reg.CUF_CAP_SRC 3 = false →
        ∃ t, exec .captureNow s = .next t ∧ t.bit Reg.CUF_FLAGS 3 = true ∧
          t.reg Reg.CUF_CNT_CAP_MISSED = s.reg Reg.CUF_CNT_CAP_MISSED + 1) ∧
      (s.bit Reg.CUF_CAP_SRC 3 = true →
        exec .captureNow s = done s (let u := s.captureNow 1 s.now 0; u.send (u.mkRec 0 27 0 0x73 none 0xFFFF 0)))) ∧
    (s.live = true →
      (s.releaseCause 3 = 0 →
        ∃ t, exec (.stopRelease 0x524C#16) s = .next t ∧ t.fld Reg.CUF_STOP 0 2 = 0) ∧
      (∀ v : BitVec 16, v ≠ 0x524C#16 ∨ s.releaseCause 3 ≠ 0 →
        ∃ t, exec (.stopRelease v) s = .next t ∧ t.fld Reg.CUF_STOP 0 2 = s.fld Reg.CUF_STOP 0 2 ∧
          t.dictN 0x5000 3 = (s.dictN 0x5000 3 + 1) % 2 ^ 64)) ∧
    (∀ (c : Instr) (cause : Nat), c = .lockstepMismatch ∧ cause = 1 ∨ c = .cuffSupplyFault ∧ cause = 2 ∨
        c = .watchdogExpiry ∧ cause = 3 → s.inSafe = false →
      ∃ t, exec c s = .next t ∧ t.inSafe = true ∧ t.bit Reg.CUF_STOP 0 = true ∧ t.bit Reg.CUF_STOP 1 = true ∧
        t.fld Reg.CUF_HW_CAUSE 0 16 = cause)

/-- Error records: storing, merging, losing, handling and popping. A record that is not fatal joins its queue with the
next number, and counts; one that equals the newest of its queue adds to that record's COUNT; a full queue loses it
and shows OVERFLOW (both stated for classes without an action). A fatal record enters the safe state. A record about a
FAULTED context only counts as suppressed. RECORD_HANDLE marks the oldest unhandled record of the highest severity
handled and applies its class's action: the pairs stop, the safe state is entered, the unit is quarantined. ERQ_POP
and ERR_POP remove the oldest record once it is handled; ERR_POP answers with its bytes.
Completion: this states that exec answers a next state with the effect of its own, under conditions on the state and
the operands alone, for each of errorRecord, recordHandle, erqPop, errPop. -/
def Obligations.ErrorRecordsAreKeptHandledAndTaken : Prop :=
  ∀ s : State, s.brm.off = false →
    (∀ r : RecordIn,
      (let ctx := r.ctx.map (·.val)
       let q := s.cuff.queue r.sev.val
       let x := s.mkRec r.sev.val r.cls r.status r.block ctx r.unit r.detail
       let act := s.regN (Reg.CUF_ACT r.cls) ||| classFixed r.cls
       (∀ c, ctx = some c → s.fld (Reg.QUE_CTX_STATE c) 0 2 = 3 →
         ∃ t, exec (.errorRecord r) s = .next t ∧ t.cuff = s.cuff ∧
           t.fld (Reg.QUE_CTX_STATE c) 32 16 = Nat.min (s.fld (Reg.QUE_CTX_STATE c) 32 16 + 1) 65535) ∧
       ((∀ c, ctx = some c → s.fld (Reg.QUE_CTX_STATE c) 0 2 ≠ 3) →
         (r.sev = 3 → ∃ t, exec (.errorRecord r) s = .next t ∧ t.inSafe = true) ∧
         (r.sev ≠ 3 → (∀ l, q.getLast? = some l → l.same x = false) → q.length < 64 →
           ∃ t, exec (.errorRecord r) s = .next t ∧ t.cuff.seq = s.cuff.seq + 1 ∧
             t.cuff.queue r.sev.val = q ++ [{ x with lostBefore := s.cuff.lost.testBit r.sev.val }] ∧
             t.reg Reg.CUF_CNT_RECORDS = s.reg Reg.CUF_CNT_RECORDS + 1) ∧
         (r.sev ≠ 3 → r.cls ≤ 32 → act % 64 = 0 →
           (∀ l, q.getLast? = some l → l.same x = true →
             ∃ t, exec (.errorRecord r) s = .next t ∧ t.reg Reg.CUF_CNT_MERGED = s.reg Reg.CUF_CNT_MERGED + 1 ∧
               t.cuff.queue r.sev.val = q.dropLast ++ [{ l with count := Nat.min (l.count + 1) 65535 }]) ∧
           ((∀ l, q.getLast? = some l → l.same x = false) → 64 ≤ q.length →
             s.bit (Reg.CUF_ERQ_STATE r.sev.val) 7 = true →
             ∃ t, exec (.errorRecord r) s = .next t ∧ t.cuff.queue r.sev.val = q ∧
               t.reg Reg.CUF_CNT_LOST = s.reg Reg.CUF_CNT_LOST + 1 ∧
               t.bit (Reg.CUF_ERQ_STATE r.sev.val) 7 = true))))) ∧
    (∀ sev r q, s.cuff.nextSeverity = some sev → takeUnhandled (s.cuff.queue sev) = some (r, q) →
      (let act := s.regN (Reg.CUF_ACT r.cls) ||| classFixed r.cls
       ∃ t, exec .recordHandle s = .next t ∧
         (r.cls ≠ 15 → ∀ p, p < 2 → act.testBit p = true → t.bit Reg.CUF_STOP p = true) ∧
         (act.testBit 2 = true → r.sev = 3 ∨ r.cls ≠ 2 ∧ r.cls ≠ 3 → t.inSafe = true) ∧
         (act.testBit 5 = true → r.unit ≤ 255 → t.quarantined r.unit = true) ∧
         (act % 64 = 0 → t.cuff = s.cuff.setQueue sev q))) ∧
    ∀ sev : Fin 4,
      (∀ r rs, s.cuff.queue sev = r :: rs → r.handled = true →
        (∃ t, exec (.erqPop sev) s = .next t ∧ t.cuff.queue sev = rs) ∧
        ∃ t, exec (.errPop sev) s = .next t ∧ t.cuff.queue sev = rs ∧ t.octetsOf 0x3001 (sev + 1) = r.bytes) ∧
      (∀ r rs, s.cuff.queue sev = r :: rs → r.handled = false →
        exec (.erqPop sev) s = .next s ∧
        ∃ t, exec (.errPop sev) s = .next t ∧ t.cuff = s.cuff ∧ t.octetsOf 0x3001 (sev + 1) = r.bytes) ∧
      (s.cuff.queue sev = [] →
        exec (.erqPop sev) s = .next s ∧
        ∃ t, exec (.errPop sev) s = .next t ∧ t.cuff = s.cuff ∧ t.octetsOf 0x3001 (sev + 1) = [])

/-- How the check channels decide their frames and the age monitors expire. With both objects at the frame and no common
unit, equal regions match: the match counts and SYNC_OUT reaches the frame; unequal ones disagree. With a common unit
the result is withheld. An object past the frame, where either held it, is a disagreement; where both are past and
neither held it, the frames up to the next one that a side holds are skipped as absent. One object at the frame and
the other not there SKEW_US later is a disagreement; neither there FRAME_US after the last decision is absent. Every
decision moves SYNC_DONE and goes on with the next frame. An age beyond its limit expires its monitor and stops its
pairs.
Completion: this states that exec answers a next state with the effect of its own, under conditions on the state and
the operands alone, for each of checkCompareDone, checkSkew, checkAbsent, ageExpiry. -/
def Obligations.ChecksAndAgesAreDecided : Prop :=
  ∀ s : State,
    (s.running = true → ∀ (n : Fin 64) (c : CheckCh), s.cuff.checks.find n = some c →
      (let a := (s.checkValues n).1
       let b := (s.checkValues n).2
       let held := everHeld c.seenA c.v || everHeld c.seenB c.v
       let common := (unitsOf c.seenA c.v).any (fun u => (unitsOf c.seenB c.v).contains u)
       (s.cuff.checkerRun ≠ some 0 →
         (a = c.v → b = c.v →
           (common = false → s.regionsEqual n = true →
             ∃ t, exec (.checkCompareDone n) s = .next t ∧ s.framesDone t n c.v c.opened ∧
               t.reg (Reg.CUF_CHK_CNT_MATCH n) = s.reg (Reg.CUF_CHK_CNT_MATCH n) + 1 ∧
               c.v ≤ t.regN (Reg.SYN_VALUE (s.fld (Reg.CUF_CHK_SYNC n) 32 13))) ∧
           (common = false → s.regionsEqual n = false →
             ∃ t, exec (.checkCompareDone n) s = .next t ∧ s.disagreed t n c) ∧
           (common = true → ∃ t, exec (.checkCompareDone n) s = .next t ∧ s.framesDone t n c.v c.opened)) ∧
         (c.v < a ∨ c.v < b → held = true → ∃ t, exec (.checkCompareDone n) s = .next t ∧ s.disagreed t n c) ∧
         (c.v < a → c.v < b → held = false →
           ∃ t last, exec (.checkCompareDone n) s = .next t ∧ c.v ≤ last ∧ last < a ∧ s.framesDone t n last c.opened ∧
             t.reg (Reg.CUF_CHK_CNT_ABSENT n) = s.reg (Reg.CUF_CHK_CNT_ABSENT n) + BitVec.ofNat 64 (last + 1 - c.v))) ∧
       (∀ x,
         firstFrom c.seenA c.v = some x ∧ firstFrom c.seenB c.v = none ∧ c.v ≤ a ∧ b < c.v ∨
           firstFrom c.seenA c.v = none ∧ firstFrom c.seenB c.v = some x ∧ a < c.v ∧ c.v ≤ b →
         x.2.1 + s.fld (Reg.CUF_CHK_CFG n) 16 16 * 1000 ≤ s.now →
         ∃ t, exec (.checkSkew n) s = .next t ∧ s.disagreed t n c) ∧
       (s.fld (Reg.CUF_CHK_CFG n) 32 16 ≠ 0 → a < c.v → b < c.v → c.v < 2 ^ 64 →
         c.decided + s.fld (Reg.CUF_CHK_CFG n) 32 16 * 1000 ≤ s.now →
         ∃ t, exec (.checkAbsent n) s = .next t ∧ s.framesDone t n c.v c.opened ∧
           t.reg (Reg.CUF_CHK_CNT_ABSENT n) = s.reg (Reg.CUF_CHK_CNT_ABSENT n) + 1))) ∧
    (s.brm.off = false → ∀ (m : Fin 64) (x : AgeMon), s.cuff.ages.find m = some x → x.expired = false →
      s.bit (Reg.CUF_AGE_CFG m) 0 = true → s.fld (Reg.CUF_AGE_CFG m) 32 32 * 1000 < s.now - x.last →
      ∃ t, exec (.ageExpiry m) s = .next t ∧ t.cuff.ages.find m = some { x with expired := true } ∧
        ∀ p, p < 2 → s.bit (Reg.CUF_AGE_CFG m) (1 + p) = true → t.bit Reg.CUF_STOP p = true)

/-- Self-test slices, coverage, the start-up test, retests and the checkers' own tests. A slice starts where the unit's
slack allows it, and is put off and counted where not. A slice that ends counts; a wrong answer sends a SELFTEST
record; a right one counts for the targeted test, whose last slice of a retest ends the quarantine, or for the
periodic test, which starts again when it is full. A test that is late is warned of once, and its unit quarantined at
the end of the interval. The start-up test quarantines the units that failed and makes the island READY, unless it is
in the safe state. CUF_RETEST asks for a full test. A checker test runs the next checker of twelve; one that missed
its mismatch is fatal.
Completion: this states that exec answers a next state with the effect of its own, under conditions on the state and
the operands alone, for each of selftestSlice, selftestSliceDone, coverageWarning, coverageExpiry, cufRetest,
startupTestDone, checkerTest, checkerResult. -/
def Obligations.SelfTestsAndCheckersRun : Prop :=
  ∀ s : State,
    (s.running = true → ∀ u : Fin 256,
      (let x := s.selfTest u
       (fullSlices u ≠ 0 → x.running = false → s.quarantined u = false ∨ x.retest = true → s.fld Reg.CUF_STATE 0 2 = 2 →
         ∃ t, exec (.selftestSlice u) s = .next t ∧
           (if s.sliceMay u then (t.selfTest u).running = true
            else t.bit Reg.CUF_FLAGS 1 = true ∧ t.reg (deferReg (testKind u)) = s.reg (deferReg (testKind u)) + 1)) ∧
       (x.running = true →
         (∃ t, exec (.selftestSliceDone u false) s = .next t ∧ t.reg Reg.CUF_CNT_SLICE = s.reg Reg.CUF_CNT_SLICE + 1 ∧
           (s.cuff.queue 2 = [] →
             t.cuff.queue 2 = [{ s.mkRec 2 19 0 0x73 none u 0 with lostBefore := s.cuff.lost.testBit 2 }])) ∧
         ∃ t, exec (.selftestSliceDone u true) s = .next t ∧ t.reg Reg.CUF_CNT_SLICE = s.reg Reg.CUF_CNT_SLICE + 1 ∧
           (1 < x.target → (t.selfTest u).target = x.target - 1 ∧ (t.selfTest u).running = false) ∧
           (x.target = 1 → x.retest = true → s.cuff.queue 0 = [] → t.quarantined u = false) ∧
           (x.target = 0 → (t.selfTest u).running = false ∧
             (t.selfTest u).done = if x.done + 1 < fullSlices u then x.done + 1 else 0)) ∧
       (s.coverageLate u 9 = true → x.warned = false →
         ∃ t, exec (.coverageWarning u) s = .next t ∧ t.reg Reg.CUF_CNT_COVERAGE = s.reg Reg.CUF_CNT_COVERAGE + 1 ∧
           (s.cuff.queue 2 = [] → t.bit Reg.CUF_FLAGS 2 = true ∧ (t.selfTest u).warned = true)) ∧
       (s.coverageLate u 10 = true → ∃ t, exec (.coverageExpiry u) s = .next t ∧ t.quarantined u = true) ∧
       (fullSlices u ≠ 0 →
         ∃ t, exec (.cufRetest u) s = .next t ∧ (t.selfTest u).target = fullSlices u ∧ (t.selfTest u).retest = true))) ∧
    (s.running = true → s.fld Reg.CUF_STATE 0 2 = 1 →
      (∀ failed : List (Fin 256), ∃ t, exec (.startupTestDone failed) s = .next t ∧
        (t.inSafe = true ∨ t.fld Reg.CUF_STATE 0 2 = 2) ∧
        ∀ u ∈ failed, fullSlices u ≠ 0 → t.quarantined u = true) ∧
      ∃ t, exec (.startupTestDone []) s = .next t ∧ t.fld Reg.CUF_STATE 0 2 = 2) ∧
    (s.brm.off = false →
      (s.cuff.checkerRun = none →
        ∃ t, exec .checkerTest s = .next t ∧ t.cuff.checkerRun = some s.cuff.checker ∧
          t.cuff.checker = (s.cuff.checker + 1) % 12 ∧
          t.reg Reg.CUF_CNT_CHECKER_RUN = s.reg Reg.CUF_CNT_CHECKER_RUN + 1) ∧
      (∀ k ok, s.cuff.checkerRun = some k →
        ∃ t, exec (.checkerResult ok) s = .next t ∧ t.cuff.checkerRun = none ∧ (ok = false → t.inSafe = true)))
end

