-- ==== Sys2Proof/Laws/Bits.lean ====
section
/-! SUPPORT. Laws of bit fields: what a field reads as after it is replaced, and that the rest of the word keeps its
value; two's complement codes; runs of bytes. -/

namespace Sys2Proof.Machine

theorem bits_lt (x lo w : Nat) : bits x lo w < 2 ^ w := Nat.mod_lt _ (Nat.two_pow_pos w)

theorem bits_eq (x lo w : Nat) : bits x lo w = x / 2 ^ lo % 2 ^ w := by simp [bits, Nat.shiftRight_eq_div_pow]

/-- Replacing a field, as a sum of the part above, the field and the part below. -/
theorem putBits_eq (x lo w v : Nat) :
    putBits x lo w v = (x / 2 ^ lo / 2 ^ w * 2 ^ w + v % 2 ^ w) * 2 ^ lo + x % 2 ^ lo := by
  have h1 : 2 ^ lo * (x / 2 ^ lo) + x % 2 ^ lo = x := Nat.div_add_mod x (2 ^ lo)
  have h2 : 2 ^ w * (x / 2 ^ lo / 2 ^ w) + x / 2 ^ lo % 2 ^ w = x / 2 ^ lo := Nat.div_add_mod _ _
  have h3 : 2 ^ lo * (x / 2 ^ lo) = 2 ^ lo * (2 ^ w * (x / 2 ^ lo / 2 ^ w)) + 2 ^ lo * (x / 2 ^ lo % 2 ^ w) := by
    rw [← Nat.mul_add, h2]
  have e1 : x / 2 ^ lo % 2 ^ w * 2 ^ lo = 2 ^ lo * (x / 2 ^ lo % 2 ^ w) := Nat.mul_comm _ _
  have e2 : x / 2 ^ lo / 2 ^ w * 2 ^ w * 2 ^ lo = 2 ^ lo * (2 ^ w * (x / 2 ^ lo / 2 ^ w)) := by
    rw [Nat.mul_comm _ (2 ^ lo), Nat.mul_comm _ (2 ^ w)]
  simp only [putBits, bits_eq, Nat.shiftLeft_eq, Nat.add_mul]
  rw [e1, e2]
  omega

/-- A field reads as what replaced it. -/
theorem bits_putBits (x lo w v : Nat) : bits (putBits x lo w v) lo w = v % 2 ^ w := by
  rw [putBits_eq, bits_eq]
  have h : ((x / 2 ^ lo / 2 ^ w * 2 ^ w + v % 2 ^ w) * 2 ^ lo + x % 2 ^ lo) / 2 ^ lo =
      x / 2 ^ lo / 2 ^ w * 2 ^ w + v % 2 ^ w := by
    rw [Nat.add_comm, Nat.add_mul_div_right _ _ (Nat.two_pow_pos lo), Nat.div_eq_of_lt (Nat.mod_lt _ (Nat.two_pow_pos lo))]
    simp
  rw [h, Nat.add_comm, Nat.add_mul_mod_self_right]
  exact Nat.mod_mod _ _

/-- Replacing a field of a 64-bit word gives a 64-bit word. -/
theorem putBits_lt (x lo w v n : Nat) (hx : x < 2 ^ n) (h : lo + w ≤ n) : putBits x lo w v < 2 ^ n := by
  rw [putBits_eq]
  have hv : v % 2 ^ w < 2 ^ w := Nat.mod_lt _ (Nat.two_pow_pos w)
  have hl : x % 2 ^ lo < 2 ^ lo := Nat.mod_lt _ (Nat.two_pow_pos lo)
  have hh : x / 2 ^ lo / 2 ^ w < 2 ^ (n - lo - w) := by
    rw [Nat.div_div_eq_div_mul, ← Nat.pow_add, Nat.div_lt_iff_lt_mul (Nat.two_pow_pos _), ← Nat.pow_add]
    have : n - lo - w + (lo + w) = n := by omega
    rwa [this]
  have a : x / 2 ^ lo / 2 ^ w * 2 ^ w + v % 2 ^ w < 2 ^ (n - lo) := by
    have : 2 ^ (n - lo) = 2 ^ (n - lo - w) * 2 ^ w := by rw [← Nat.pow_add]; congr 1; omega
    rw [this]
    calc x / 2 ^ lo / 2 ^ w * 2 ^ w + v % 2 ^ w < x / 2 ^ lo / 2 ^ w * 2 ^ w + 2 ^ w := by omega
      _ = (x / 2 ^ lo / 2 ^ w + 1) * 2 ^ w := by rw [Nat.add_mul]; simp
      _ ≤ 2 ^ (n - lo - w) * 2 ^ w := Nat.mul_le_mul_right _ hh
  have : 2 ^ n = 2 ^ (n - lo) * 2 ^ lo := by rw [← Nat.pow_add]; congr 1; omega
  rw [this]
  calc (x / 2 ^ lo / 2 ^ w * 2 ^ w + v % 2 ^ w) * 2 ^ lo + x % 2 ^ lo
      < (x / 2 ^ lo / 2 ^ w * 2 ^ w + v % 2 ^ w) * 2 ^ lo + 2 ^ lo := by omega
    _ = (x / 2 ^ lo / 2 ^ w * 2 ^ w + v % 2 ^ w + 1) * 2 ^ lo := by rw [Nat.add_mul _ 1]; simp
    _ ≤ 2 ^ (n - lo) * 2 ^ lo := Nat.mul_le_mul_right _ a

/-- Fields below the one replaced keep their value. -/
theorem bits_putBits_below (x lo w v lo' w' : Nat) (h : lo' + w' ≤ lo) :
    bits (putBits x lo w v) lo' w' = bits x lo' w' := by
  rw [putBits_eq, bits_eq, bits_eq]
  have key : ∀ y : Nat, (y * 2 ^ lo + x % 2 ^ lo) / 2 ^ lo' % 2 ^ w' = x / 2 ^ lo' % 2 ^ w' := by
    intro y
    have e : ∀ z : Nat, z / 2 ^ lo' % 2 ^ w' = z % 2 ^ lo / 2 ^ lo' % 2 ^ w' := by
      intro z
      apply Nat.eq_of_testBit_eq
      intro i
      simp only [Nat.testBit_mod_two_pow, Nat.testBit_div_two_pow]
      by_cases hi : i < w'
      · have : i + lo' < lo := by omega
        simp [hi, this]
      · simp [hi]
    rw [e (y * 2 ^ lo + x % 2 ^ lo), e x, Nat.add_comm, Nat.add_mul_mod_self_right, Nat.mod_mod]
  exact key _

/-- Fields above the one replaced keep their value. -/
theorem bits_putBits_above (x lo w v lo' w' : Nat) (h : lo + w ≤ lo') :
    bits (putBits x lo w v) lo' w' = bits x lo' w' := by
  have e : ∀ z : Nat, z / 2 ^ lo' = z / 2 ^ (lo + w) / 2 ^ (lo' - (lo + w)) := by
    intro z
    rw [Nat.div_div_eq_div_mul, ← Nat.pow_add]
    congr 2
    omega
  rw [bits_eq, bits_eq, e (putBits x lo w v), e x, putBits_eq, Nat.pow_add, ← Nat.div_div_eq_div_mul,
    ← Nat.div_div_eq_div_mul]
  have h1 : ((x / 2 ^ lo / 2 ^ w * 2 ^ w + v % 2 ^ w) * 2 ^ lo + x % 2 ^ lo) / 2 ^ lo =
      x / 2 ^ lo / 2 ^ w * 2 ^ w + v % 2 ^ w := by
    rw [Nat.add_comm, Nat.add_mul_div_right _ _ (Nat.two_pow_pos lo), Nat.div_eq_of_lt (Nat.mod_lt _ (Nat.two_pow_pos lo))]
    simp
  rw [h1, Nat.add_comm (x / 2 ^ lo / 2 ^ w * 2 ^ w), Nat.add_mul_div_right _ _ (Nat.two_pow_pos w),
    Nat.div_eq_of_lt (Nat.mod_lt _ (Nat.two_pow_pos w))]
  simp

@[simp] theorem natLE_length (n v : Nat) : (natLE n v).length = n := by
  induction n generalizing v with
  | zero => rfl
  | succ n ih => simp [natLE, ih]

@[simp] theorem tab_length {α : Type} (n : Nat) (f : Nat → α) : (tab n f).length = n := by simp [tab]

/-- Reading back a little-endian code. -/
theorem leNat_natLE (n v : Nat) : leNat (natLE n v) = v % 256 ^ n := by
  induction n generalizing v with
  | zero => simp [natLE, leNat, Nat.mod_one]
  | succ n ih =>
    simp only [natLE, leNat, ih, BitVec.toNat_ofNat]
    have h : 256 ^ (n + 1) = 256 * 256 ^ n := by rw [Nat.pow_succ, Nat.mul_comm]
    rw [h, Nat.mod_mul]

/-- What a fold keeps, it keeps over a whole list. -/
theorem each_inv {σ α : Type} (P : σ → Prop) (xs : List α) (f : σ → α → σ) (s : σ) (h0 : P s)
    (hf : ∀ t x, x ∈ xs → P t → P (f t x)) : P (each xs f s) := by
  induction xs generalizing s with
  | nil => exact h0
  | cons x xs ih =>
    exact ih (f s x) (hf s x (by simp) h0) (fun t y hy ht => hf t y (by simp [hy]) ht)

/-- What a counted fold keeps, it keeps over all its rounds. -/
theorem iter_inv {σ : Type} (P : σ → Prop) (n : Nat) (f : σ → Nat → σ) (s : σ) (h0 : P s)
    (hf : ∀ t i, i < n → P t → P (f t i)) : P (iter n f s) :=
  each_inv P (List.range n) f s h0 (fun t i hi => hf t i (List.mem_range.1 hi))

end Sys2Proof.Machine
end

