-- ==== Sys2Proof/Laws/Table.lean ====
section
/-! SUPPORT. Laws of the sparse tables: reading after writing, and that writing keeps the canonical form; the same for
memories, byte by byte and for runs of bytes. -/

namespace Sys2Proof.Machine

variable {α : Type}

theorem SMap.get_del_same (d : Nat → α) (m : SMap α) (k : Nat) : SMap.get d (SMap.del m k) k = d k := by
  induction m with
  | nil => rfl
  | cons e m ih =>
    obtain ⟨j, v⟩ := e
    by_cases h : j = k
    · simpa [SMap.del, h] using ih
    · simpa [SMap.del, h, SMap.get] using ih

theorem SMap.get_del_other (d : Nat → α) (m : SMap α) {k j : Nat} (h : j ≠ k) :
    SMap.get d (SMap.del m k) j = SMap.get d m j := by
  induction m with
  | nil => rfl
  | cons e m ih =>
    obtain ⟨i, v⟩ := e
    by_cases hk : i = k
    · have hij : ¬ i = j := fun hj => h (hj ▸ hk)
      simpa [SMap.del, hk, SMap.get, hij, Ne.symm h] using ih
    · by_cases hj : i = j
      · simp [SMap.del, SMap.get, hj, h]
      · simpa [SMap.del, hk, SMap.get, hj] using ih

theorem SMap.get_ins (d : Nat → α) (m : SMap α) (k j : Nat) (v : α) (h : ∀ e ∈ m, e.1 ≠ k) :
    SMap.get d (SMap.ins m k v) j = if j = k then v else SMap.get d m j := by
  induction m with
  | nil => simp [SMap.ins, SMap.get, eq_comm]
  | cons e m ih =>
    obtain ⟨i, u⟩ := e
    have hi : i ≠ k := h (i, u) (by simp)
    have ih' := ih (fun e he => h e (by simp [he]))
    simp only [SMap.ins]
    split
    · simp [SMap.get, eq_comm]
    · simp only [SMap.get, ih']
      split
      · next hij => subst hij; simp [hi]
      · rfl

theorem SMap.mem_del {m : SMap α} {k : Nat} {e : Nat × α} (h : e ∈ SMap.del m k) : e ∈ m ∧ e.1 ≠ k := by
  simpa [SMap.del] using h

/-- Reading a table after writing it. -/
theorem SMap.get_set [DecidableEq α] (d : Nat → α) (m : SMap α) (k j : Nat) (v : α) :
    SMap.get d (SMap.set d m k v) j = if j = k then v else SMap.get d m j := by
  unfold SMap.set
  split
  · next h =>
    split
    · next hj => subst hj; rw [SMap.get_del_same, h]
    · next hj => rw [SMap.get_del_other d m hj]
  · rw [SMap.get_ins d _ k j v (fun e he => (SMap.mem_del he).2)]
    split
    · rfl
    · next hj => rw [SMap.get_del_other d m hj]

@[simp] theorem SMap.get_set_same [DecidableEq α] (d : Nat → α) (m : SMap α) (k : Nat) (v : α) :
    SMap.get d (SMap.set d m k v) k = v := by simp [SMap.get_set]

theorem SMap.get_set_other [DecidableEq α] (d : Nat → α) (m : SMap α) {k j : Nat} (v : α) (h : j ≠ k) :
    SMap.get d (SMap.set d m k v) j = SMap.get d m j := by simp [SMap.get_set, h]

/-! ## The canonical form -/

theorem SMap.sorted_iff (m : SMap α) : SMap.sorted m = true ↔ m.Pairwise (fun a b => a.1 < b.1) := by
  induction m with
  | nil => simp [SMap.sorted]
  | cons a m ih =>
    cases m with
    | nil => simp [SMap.sorted]
    | cons b m =>
      simp only [SMap.sorted, Bool.and_eq_true, decide_eq_true_eq, ih]
      constructor
      · rintro ⟨hab, hp⟩
        refine List.pairwise_cons.2 ⟨fun e he => ?_, hp⟩
        rcases List.mem_cons.1 he with rfl | he
        · exact hab
        · exact Nat.lt_trans hab ((List.pairwise_cons.1 hp).1 e he)
      · intro hp
        have h := List.pairwise_cons.1 hp
        exact ⟨h.1 b (by simp), h.2⟩

theorem SMap.mem_ins {m : SMap α} {k : Nat} {v : α} {e : Nat × α} (h : e ∈ SMap.ins m k v) :
    e = (k, v) ∨ e ∈ m := by
  induction m with
  | nil => simpa [SMap.ins] using h
  | cons a m ih =>
    simp only [SMap.ins] at h
    split at h
    · simpa using h
    · rcases List.mem_cons.1 h with h | h
      · exact .inr (by simp [h])
      · rcases ih h with h | h
        · exact .inl h
        · exact .inr (by simp [h])

theorem SMap.sorted_del {m : SMap α} (k : Nat) (h : SMap.sorted m = true) : SMap.sorted (SMap.del m k) = true := by
  rw [SMap.sorted_iff] at *
  exact h.filter _

theorem SMap.sorted_ins {m : SMap α} {k : Nat} {v : α} (h : SMap.sorted m = true) (hk : ∀ e ∈ m, e.1 ≠ k) :
    SMap.sorted (SMap.ins m k v) = true := by
  rw [SMap.sorted_iff] at *
  induction m with
  | nil => simp [SMap.ins]
  | cons a m ih =>
    obtain ⟨i, u⟩ := a
    have hp := List.pairwise_cons.1 h
    have hi : i ≠ k := hk (i, u) (by simp)
    simp only [SMap.ins]
    split
    · next hlt =>
      refine List.pairwise_cons.2 ⟨fun e he => ?_, h⟩
      rcases List.mem_cons.1 he with rfl | he
      · exact hlt
      · exact Nat.lt_trans hlt (hp.1 e he)
    · next hge =>
      refine List.pairwise_cons.2 ⟨fun e he => ?_, ih hp.2 (fun e he => hk e (by simp [he]))⟩
      rcases SMap.mem_ins he with rfl | he
      · exact Nat.lt_of_le_of_ne (Nat.le_of_not_lt hge) hi
      · exact hp.1 e he

/-- Writing keeps the canonical form. -/
theorem SMap.wf_set [DecidableEq α] (d : Nat → α) {m : SMap α} (k : Nat) (v : α) (h : SMap.wf d m = true) :
    SMap.wf d (SMap.set d m k v) = true := by
  simp only [SMap.wf, Bool.and_eq_true, List.all_eq_true, Bool.not_eq_true', decide_eq_false_iff_not] at *
  obtain ⟨hs, hd⟩ := h
  unfold SMap.set
  split
  · exact ⟨SMap.sorted_del k hs, fun e he => hd e (SMap.mem_del he).1⟩
  · next hv =>
    refine ⟨SMap.sorted_ins (SMap.sorted_del k hs) (fun e he => (SMap.mem_del he).2), fun e he => ?_⟩
    rcases SMap.mem_ins he with rfl | he
    · exact hv
    · exact hd e (SMap.mem_del he).1

/-! ## Optional entries -/

@[simp] theorem OMap.find_put_same [DecidableEq α] (m : OMap α) (k : Nat) (v : α) :
    OMap.find (OMap.put m k v) k = some v := SMap.get_set_same _ _ _ _

theorem OMap.find_put_other [DecidableEq α] (m : OMap α) {k j : Nat} (v : α) (h : j ≠ k) :
    OMap.find (OMap.put m k v) j = OMap.find m j := SMap.get_set_other _ _ _ h

@[simp] theorem OMap.find_drop_same [DecidableEq α] (m : OMap α) (k : Nat) :
    OMap.find (OMap.drop m k) k = none := SMap.get_set_same _ _ _ _

theorem OMap.find_drop_other [DecidableEq α] (m : OMap α) {k j : Nat} (h : j ≠ k) :
    OMap.find (OMap.drop m k) j = OMap.find m j := SMap.get_set_other _ _ _ h

/-! ## Memories -/

theorem Memory.byte_setByte (m : Memory) (a j : Nat) (v : Byte) :
    Memory.byte (Memory.setByte m a v) j = if j = a then v else Memory.byte m j := SMap.get_set _ _ _ _ _

theorem Memory.wf_setByte {m : Memory} (a : Nat) (v : Byte) (h : Memory.wf m = true) :
    Memory.wf (Memory.setByte m a v) = true := SMap.wf_set _ _ _ h

/-- A write of a run of bytes keeps the canonical form. -/
theorem Memory.wf_write {m : Memory} (a : Nat) (bs : Bytes) (h : Memory.wf m = true) :
    Memory.wf (Memory.write m a bs) = true := by
  induction bs generalizing m a with
  | nil => exact h
  | cons b bs ih => exact ih (a + 1) (Memory.wf_setByte a b h)

/-- Outside the run written, every byte is as before. -/
theorem Memory.byte_write_outside (m : Memory) (a j : Nat) (bs : Bytes) (h : j < a ∨ a + bs.length ≤ j) :
    Memory.byte (Memory.write m a bs) j = Memory.byte m j := by
  induction bs generalizing m a with
  | nil => rfl
  | cons b bs ih =>
    simp only [List.length_cons] at h
    rw [Memory.write, ih _ _ (by omega), Memory.byte_setByte, if_neg (by omega)]

/-- Inside the run written, byte `i` of the run. -/
theorem Memory.byte_write_inside (m : Memory) (a i : Nat) (bs : Bytes) (h : i < bs.length) :
    Memory.byte (Memory.write m a bs) (a + i) = bs[i] := by
  induction bs generalizing m a i with
  | nil => simp at h
  | cons b bs ih =>
    cases i with
    | zero =>
      rw [Memory.write, Memory.byte_write_outside _ _ _ _ (by omega), Memory.byte_setByte]
      simp
    | succ i =>
      have h' : i < bs.length := by simpa using h
      have := ih (Memory.setByte m a b) (a + 1) i h'
      rw [Memory.write]
      simpa [Nat.add_assoc, Nat.add_comm 1 i] using this

end Sys2Proof.Machine
end

