-- ==== Sys2Proof/Laws/State.lean ====
section
/-! SUPPORT. What each update of State leaves alone, one lemma per field, and what it writes. -/

namespace Sys2Proof.Machine

variable (s : State)

/-! ## setReg -/

@[simp] theorem State.setReg_pending (a : Nat) (w : Word) : (s.setReg a w).pending = s.pending := (rfl)
@[simp] theorem State.setReg_time (a : Nat) (w : Word) : (s.setReg a w).time = s.time := (rfl)
@[simp] theorem State.setReg_fresh (a : Nat) (w : Word) : (s.setReg a w).fresh = s.fresh := (rfl)
@[simp] theorem State.setReg_shadow (a : Nat) (w : Word) : (s.setReg a w).shadow = s.shadow := (rfl)
@[simp] theorem State.setReg_dict (a : Nat) (w : Word) : (s.setReg a w).dict = s.dict := (rfl)
@[simp] theorem State.setReg_octets (a : Nat) (w : Word) : (s.setReg a w).octets = s.octets := (rfl)
@[simp] theorem State.setReg_refused (a : Nat) (w : Word) : (s.setReg a w).refused = s.refused := (rfl)
@[simp] theorem State.setReg_timePast (a : Nat) (w : Word) : (s.setReg a w).timePast = s.timePast := (rfl)
@[simp] theorem State.setReg_pulse (a : Nat) (w : Word) : (s.setReg a w).pulse = s.pulse := (rfl)
@[simp] theorem State.setReg_umem (a : Nat) (w : Word) : (s.setReg a w).umem = s.umem := (rfl)
@[simp] theorem State.setReg_readVal (a : Nat) (w : Word) : (s.setReg a w).readVal = s.readVal := (rfl)
@[simp] theorem State.setReg_umr (a : Nat) (w : Word) : (s.setReg a w).umr = s.umr := (rfl)
@[simp] theorem State.setReg_que (a : Nat) (w : Word) : (s.setReg a w).que = s.que := (rfl)
@[simp] theorem State.setReg_gnt (a : Nat) (w : Word) : (s.setReg a w).gnt = s.gnt := (rfl)
@[simp] theorem State.setReg_gbuf (a : Nat) (w : Word) : (s.setReg a w).gbuf = s.gbuf := (rfl)
@[simp] theorem State.setReg_slots (a : Nat) (w : Word) : (s.setReg a w).slots = s.slots := (rfl)
@[simp] theorem State.setReg_att (a : Nat) (w : Word) : (s.setReg a w).att = s.att := (rfl)
@[simp] theorem State.setReg_attWait (a : Nat) (w : Word) : (s.setReg a w).attWait = s.attWait := (rfl)
@[simp] theorem State.setReg_kvr (a : Nat) (w : Word) : (s.setReg a w).kvr = s.kvr := (rfl)
@[simp] theorem State.setReg_kvrUsed (a : Nat) (w : Word) : (s.setReg a w).kvrUsed = s.kvrUsed := (rfl)
@[simp] theorem State.setReg_look (a : Nat) (w : Word) : (s.setReg a w).look = s.look := (rfl)
@[simp] theorem State.setReg_crop (a : Nat) (w : Word) : (s.setReg a w).crop = s.crop := (rfl)
@[simp] theorem State.setReg_gusNotes (a : Nat) (w : Word) : (s.setReg a w).gusNotes = s.gusNotes := (rfl)
@[simp] theorem State.setReg_launches (a : Nat) (w : Word) : (s.setReg a w).launches = s.launches := (rfl)
@[simp] theorem State.setReg_fingers (a : Nat) (w : Word) : (s.setReg a w).fingers = s.fingers := (rfl)
@[simp] theorem State.setReg_mqueues (a : Nat) (w : Word) : (s.setReg a w).mqueues = s.mqueues := (rfl)
@[simp] theorem State.setReg_lmem (a : Nat) (w : Word) : (s.setReg a w).lmem = s.lmem := (rfl)
@[simp] theorem State.setReg_smem (a : Nat) (w : Word) : (s.setReg a w).smem = s.smem := (rfl)
@[simp] theorem State.setReg_scr (a : Nat) (w : Word) : (s.setReg a w).scr = s.scr := (rfl)
@[simp] theorem State.setReg_edges (a : Nat) (w : Word) : (s.setReg a w).edges = s.edges := (rfl)
@[simp] theorem State.setReg_outNext (a : Nat) (w : Word) : (s.setReg a w).outNext = s.outNext := (rfl)
@[simp] theorem State.setReg_trig (a : Nat) (w : Word) : (s.setReg a w).trig = s.trig := (rfl)
@[simp] theorem State.setReg_cmpArmed (a : Nat) (w : Word) : (s.setReg a w).cmpArmed = s.cmpArmed := (rfl)
@[simp] theorem State.setReg_gptp (a : Nat) (w : Word) : (s.setReg a w).gptp = s.gptp := (rfl)
@[simp] theorem State.setReg_gptpHold (a : Nat) (w : Word) : (s.setReg a w).gptpHold = s.gptpHold := (rfl)
@[simp] theorem State.setReg_pdelay (a : Nat) (w : Word) : (s.setReg a w).pdelay = s.pdelay := (rfl)
@[simp] theorem State.setReg_atu (a : Nat) (w : Word) : (s.setReg a w).atu = s.atu := (rfl)
@[simp] theorem State.setReg_vis (a : Nat) (w : Word) : (s.setReg a w).vis = s.vis := (rfl)
@[simp] theorem State.setReg_knk (a : Nat) (w : Word) : (s.setReg a w).knk = s.knk := (rfl)
@[simp] theorem State.setReg_gus (a : Nat) (w : Word) : (s.setReg a w).gus = s.gus := (rfl)
@[simp] theorem State.setReg_pcu (a : Nat) (w : Word) : (s.setReg a w).pcu = s.pcu := (rfl)
@[simp] theorem State.setReg_brm (a : Nat) (w : Word) : (s.setReg a w).brm = s.brm := (rfl)
@[simp] theorem State.setReg_net (a : Nat) (w : Word) : (s.setReg a w).net = s.net := (rfl)
@[simp] theorem State.setReg_cuff (a : Nat) (w : Word) : (s.setReg a w).cuff = s.cuff := (rfl)
@[simp] theorem State.setReg_sys (a : Nat) (w : Word) : (s.setReg a w).sys = s.sys := (rfl)
@[simp] theorem State.setReg_boot (a : Nat) (w : Word) : (s.setReg a w).boot = s.boot := (rfl)
@[simp] theorem State.setReg_mdl (a : Nat) (w : Word) : (s.setReg a w).mdl = s.mdl := (rfl)

/-! ## setRegN -/

@[simp] theorem State.setRegN_pending (a v : Nat) : (s.setRegN a v).pending = s.pending := (rfl)
@[simp] theorem State.setRegN_time (a v : Nat) : (s.setRegN a v).time = s.time := (rfl)
@[simp] theorem State.setRegN_fresh (a v : Nat) : (s.setRegN a v).fresh = s.fresh := (rfl)
@[simp] theorem State.setRegN_shadow (a v : Nat) : (s.setRegN a v).shadow = s.shadow := (rfl)
@[simp] theorem State.setRegN_dict (a v : Nat) : (s.setRegN a v).dict = s.dict := (rfl)
@[simp] theorem State.setRegN_octets (a v : Nat) : (s.setRegN a v).octets = s.octets := (rfl)
@[simp] theorem State.setRegN_refused (a v : Nat) : (s.setRegN a v).refused = s.refused := (rfl)
@[simp] theorem State.setRegN_timePast (a v : Nat) : (s.setRegN a v).timePast = s.timePast := (rfl)
@[simp] theorem State.setRegN_pulse (a v : Nat) : (s.setRegN a v).pulse = s.pulse := (rfl)
@[simp] theorem State.setRegN_umem (a v : Nat) : (s.setRegN a v).umem = s.umem := (rfl)
@[simp] theorem State.setRegN_readVal (a v : Nat) : (s.setRegN a v).readVal = s.readVal := (rfl)
@[simp] theorem State.setRegN_umr (a v : Nat) : (s.setRegN a v).umr = s.umr := (rfl)
@[simp] theorem State.setRegN_que (a v : Nat) : (s.setRegN a v).que = s.que := (rfl)
@[simp] theorem State.setRegN_gnt (a v : Nat) : (s.setRegN a v).gnt = s.gnt := (rfl)
@[simp] theorem State.setRegN_gbuf (a v : Nat) : (s.setRegN a v).gbuf = s.gbuf := (rfl)
@[simp] theorem State.setRegN_slots (a v : Nat) : (s.setRegN a v).slots = s.slots := (rfl)
@[simp] theorem State.setRegN_att (a v : Nat) : (s.setRegN a v).att = s.att := (rfl)
@[simp] theorem State.setRegN_attWait (a v : Nat) : (s.setRegN a v).attWait = s.attWait := (rfl)
@[simp] theorem State.setRegN_kvr (a v : Nat) : (s.setRegN a v).kvr = s.kvr := (rfl)
@[simp] theorem State.setRegN_kvrUsed (a v : Nat) : (s.setRegN a v).kvrUsed = s.kvrUsed := (rfl)
@[simp] theorem State.setRegN_look (a v : Nat) : (s.setRegN a v).look = s.look := (rfl)
@[simp] theorem State.setRegN_crop (a v : Nat) : (s.setRegN a v).crop = s.crop := (rfl)
@[simp] theorem State.setRegN_gusNotes (a v : Nat) : (s.setRegN a v).gusNotes = s.gusNotes := (rfl)
@[simp] theorem State.setRegN_launches (a v : Nat) : (s.setRegN a v).launches = s.launches := (rfl)
@[simp] theorem State.setRegN_fingers (a v : Nat) : (s.setRegN a v).fingers = s.fingers := (rfl)
@[simp] theorem State.setRegN_mqueues (a v : Nat) : (s.setRegN a v).mqueues = s.mqueues := (rfl)
@[simp] theorem State.setRegN_lmem (a v : Nat) : (s.setRegN a v).lmem = s.lmem := (rfl)
@[simp] theorem State.setRegN_smem (a v : Nat) : (s.setRegN a v).smem = s.smem := (rfl)
@[simp] theorem State.setRegN_scr (a v : Nat) : (s.setRegN a v).scr = s.scr := (rfl)
@[simp] theorem State.setRegN_edges (a v : Nat) : (s.setRegN a v).edges = s.edges := (rfl)
@[simp] theorem State.setRegN_outNext (a v : Nat) : (s.setRegN a v).outNext = s.outNext := (rfl)
@[simp] theorem State.setRegN_trig (a v : Nat) : (s.setRegN a v).trig = s.trig := (rfl)
@[simp] theorem State.setRegN_cmpArmed (a v : Nat) : (s.setRegN a v).cmpArmed = s.cmpArmed := (rfl)
@[simp] theorem State.setRegN_gptp (a v : Nat) : (s.setRegN a v).gptp = s.gptp := (rfl)
@[simp] theorem State.setRegN_gptpHold (a v : Nat) : (s.setRegN a v).gptpHold = s.gptpHold := (rfl)
@[simp] theorem State.setRegN_pdelay (a v : Nat) : (s.setRegN a v).pdelay = s.pdelay := (rfl)
@[simp] theorem State.setRegN_atu (a v : Nat) : (s.setRegN a v).atu = s.atu := (rfl)
@[simp] theorem State.setRegN_vis (a v : Nat) : (s.setRegN a v).vis = s.vis := (rfl)
@[simp] theorem State.setRegN_knk (a v : Nat) : (s.setRegN a v).knk = s.knk := (rfl)
@[simp] theorem State.setRegN_gus (a v : Nat) : (s.setRegN a v).gus = s.gus := (rfl)
@[simp] theorem State.setRegN_pcu (a v : Nat) : (s.setRegN a v).pcu = s.pcu := (rfl)
@[simp] theorem State.setRegN_brm (a v : Nat) : (s.setRegN a v).brm = s.brm := (rfl)
@[simp] theorem State.setRegN_net (a v : Nat) : (s.setRegN a v).net = s.net := (rfl)
@[simp] theorem State.setRegN_cuff (a v : Nat) : (s.setRegN a v).cuff = s.cuff := (rfl)
@[simp] theorem State.setRegN_sys (a v : Nat) : (s.setRegN a v).sys = s.sys := (rfl)
@[simp] theorem State.setRegN_boot (a v : Nat) : (s.setRegN a v).boot = s.boot := (rfl)
@[simp] theorem State.setRegN_mdl (a v : Nat) : (s.setRegN a v).mdl = s.mdl := (rfl)

/-! ## add -/

@[simp] theorem State.add_pending (a n : Nat) : (s.add a n).pending = s.pending := (rfl)
@[simp] theorem State.add_time (a n : Nat) : (s.add a n).time = s.time := (rfl)
@[simp] theorem State.add_fresh (a n : Nat) : (s.add a n).fresh = s.fresh := (rfl)
@[simp] theorem State.add_shadow (a n : Nat) : (s.add a n).shadow = s.shadow := (rfl)
@[simp] theorem State.add_dict (a n : Nat) : (s.add a n).dict = s.dict := (rfl)
@[simp] theorem State.add_octets (a n : Nat) : (s.add a n).octets = s.octets := (rfl)
@[simp] theorem State.add_refused (a n : Nat) : (s.add a n).refused = s.refused := (rfl)
@[simp] theorem State.add_timePast (a n : Nat) : (s.add a n).timePast = s.timePast := (rfl)
@[simp] theorem State.add_pulse (a n : Nat) : (s.add a n).pulse = s.pulse := (rfl)
@[simp] theorem State.add_umem (a n : Nat) : (s.add a n).umem = s.umem := (rfl)
@[simp] theorem State.add_readVal (a n : Nat) : (s.add a n).readVal = s.readVal := (rfl)
@[simp] theorem State.add_umr (a n : Nat) : (s.add a n).umr = s.umr := (rfl)
@[simp] theorem State.add_que (a n : Nat) : (s.add a n).que = s.que := (rfl)
@[simp] theorem State.add_gnt (a n : Nat) : (s.add a n).gnt = s.gnt := (rfl)
@[simp] theorem State.add_gbuf (a n : Nat) : (s.add a n).gbuf = s.gbuf := (rfl)
@[simp] theorem State.add_slots (a n : Nat) : (s.add a n).slots = s.slots := (rfl)
@[simp] theorem State.add_att (a n : Nat) : (s.add a n).att = s.att := (rfl)
@[simp] theorem State.add_attWait (a n : Nat) : (s.add a n).attWait = s.attWait := (rfl)
@[simp] theorem State.add_kvr (a n : Nat) : (s.add a n).kvr = s.kvr := (rfl)
@[simp] theorem State.add_kvrUsed (a n : Nat) : (s.add a n).kvrUsed = s.kvrUsed := (rfl)
@[simp] theorem State.add_look (a n : Nat) : (s.add a n).look = s.look := (rfl)
@[simp] theorem State.add_crop (a n : Nat) : (s.add a n).crop = s.crop := (rfl)
@[simp] theorem State.add_gusNotes (a n : Nat) : (s.add a n).gusNotes = s.gusNotes := (rfl)
@[simp] theorem State.add_launches (a n : Nat) : (s.add a n).launches = s.launches := (rfl)
@[simp] theorem State.add_fingers (a n : Nat) : (s.add a n).fingers = s.fingers := (rfl)
@[simp] theorem State.add_mqueues (a n : Nat) : (s.add a n).mqueues = s.mqueues := (rfl)
@[simp] theorem State.add_lmem (a n : Nat) : (s.add a n).lmem = s.lmem := (rfl)
@[simp] theorem State.add_smem (a n : Nat) : (s.add a n).smem = s.smem := (rfl)
@[simp] theorem State.add_scr (a n : Nat) : (s.add a n).scr = s.scr := (rfl)
@[simp] theorem State.add_edges (a n : Nat) : (s.add a n).edges = s.edges := (rfl)
@[simp] theorem State.add_outNext (a n : Nat) : (s.add a n).outNext = s.outNext := (rfl)
@[simp] theorem State.add_trig (a n : Nat) : (s.add a n).trig = s.trig := (rfl)
@[simp] theorem State.add_cmpArmed (a n : Nat) : (s.add a n).cmpArmed = s.cmpArmed := (rfl)
@[simp] theorem State.add_gptp (a n : Nat) : (s.add a n).gptp = s.gptp := (rfl)
@[simp] theorem State.add_gptpHold (a n : Nat) : (s.add a n).gptpHold = s.gptpHold := (rfl)
@[simp] theorem State.add_pdelay (a n : Nat) : (s.add a n).pdelay = s.pdelay := (rfl)
@[simp] theorem State.add_atu (a n : Nat) : (s.add a n).atu = s.atu := (rfl)
@[simp] theorem State.add_vis (a n : Nat) : (s.add a n).vis = s.vis := (rfl)
@[simp] theorem State.add_knk (a n : Nat) : (s.add a n).knk = s.knk := (rfl)
@[simp] theorem State.add_gus (a n : Nat) : (s.add a n).gus = s.gus := (rfl)
@[simp] theorem State.add_pcu (a n : Nat) : (s.add a n).pcu = s.pcu := (rfl)
@[simp] theorem State.add_brm (a n : Nat) : (s.add a n).brm = s.brm := (rfl)
@[simp] theorem State.add_net (a n : Nat) : (s.add a n).net = s.net := (rfl)
@[simp] theorem State.add_cuff (a n : Nat) : (s.add a n).cuff = s.cuff := (rfl)
@[simp] theorem State.add_sys (a n : Nat) : (s.add a n).sys = s.sys := (rfl)
@[simp] theorem State.add_boot (a n : Nat) : (s.add a n).boot = s.boot := (rfl)
@[simp] theorem State.add_mdl (a n : Nat) : (s.add a n).mdl = s.mdl := (rfl)

/-! ## bump -/

@[simp] theorem State.bump_pending (a : Nat) : (s.bump a).pending = s.pending := (rfl)
@[simp] theorem State.bump_time (a : Nat) : (s.bump a).time = s.time := (rfl)
@[simp] theorem State.bump_fresh (a : Nat) : (s.bump a).fresh = s.fresh := (rfl)
@[simp] theorem State.bump_shadow (a : Nat) : (s.bump a).shadow = s.shadow := (rfl)
@[simp] theorem State.bump_dict (a : Nat) : (s.bump a).dict = s.dict := (rfl)
@[simp] theorem State.bump_octets (a : Nat) : (s.bump a).octets = s.octets := (rfl)
@[simp] theorem State.bump_refused (a : Nat) : (s.bump a).refused = s.refused := (rfl)
@[simp] theorem State.bump_timePast (a : Nat) : (s.bump a).timePast = s.timePast := (rfl)
@[simp] theorem State.bump_pulse (a : Nat) : (s.bump a).pulse = s.pulse := (rfl)
@[simp] theorem State.bump_umem (a : Nat) : (s.bump a).umem = s.umem := (rfl)
@[simp] theorem State.bump_readVal (a : Nat) : (s.bump a).readVal = s.readVal := (rfl)
@[simp] theorem State.bump_umr (a : Nat) : (s.bump a).umr = s.umr := (rfl)
@[simp] theorem State.bump_que (a : Nat) : (s.bump a).que = s.que := (rfl)
@[simp] theorem State.bump_gnt (a : Nat) : (s.bump a).gnt = s.gnt := (rfl)
@[simp] theorem State.bump_gbuf (a : Nat) : (s.bump a).gbuf = s.gbuf := (rfl)
@[simp] theorem State.bump_slots (a : Nat) : (s.bump a).slots = s.slots := (rfl)
@[simp] theorem State.bump_att (a : Nat) : (s.bump a).att = s.att := (rfl)
@[simp] theorem State.bump_attWait (a : Nat) : (s.bump a).attWait = s.attWait := (rfl)
@[simp] theorem State.bump_kvr (a : Nat) : (s.bump a).kvr = s.kvr := (rfl)
@[simp] theorem State.bump_kvrUsed (a : Nat) : (s.bump a).kvrUsed = s.kvrUsed := (rfl)
@[simp] theorem State.bump_look (a : Nat) : (s.bump a).look = s.look := (rfl)
@[simp] theorem State.bump_crop (a : Nat) : (s.bump a).crop = s.crop := (rfl)
@[simp] theorem State.bump_gusNotes (a : Nat) : (s.bump a).gusNotes = s.gusNotes := (rfl)
@[simp] theorem State.bump_launches (a : Nat) : (s.bump a).launches = s.launches := (rfl)
@[simp] theorem State.bump_fingers (a : Nat) : (s.bump a).fingers = s.fingers := (rfl)
@[simp] theorem State.bump_mqueues (a : Nat) : (s.bump a).mqueues = s.mqueues := (rfl)
@[simp] theorem State.bump_lmem (a : Nat) : (s.bump a).lmem = s.lmem := (rfl)
@[simp] theorem State.bump_smem (a : Nat) : (s.bump a).smem = s.smem := (rfl)
@[simp] theorem State.bump_scr (a : Nat) : (s.bump a).scr = s.scr := (rfl)
@[simp] theorem State.bump_edges (a : Nat) : (s.bump a).edges = s.edges := (rfl)
@[simp] theorem State.bump_outNext (a : Nat) : (s.bump a).outNext = s.outNext := (rfl)
@[simp] theorem State.bump_trig (a : Nat) : (s.bump a).trig = s.trig := (rfl)
@[simp] theorem State.bump_cmpArmed (a : Nat) : (s.bump a).cmpArmed = s.cmpArmed := (rfl)
@[simp] theorem State.bump_gptp (a : Nat) : (s.bump a).gptp = s.gptp := (rfl)
@[simp] theorem State.bump_gptpHold (a : Nat) : (s.bump a).gptpHold = s.gptpHold := (rfl)
@[simp] theorem State.bump_pdelay (a : Nat) : (s.bump a).pdelay = s.pdelay := (rfl)
@[simp] theorem State.bump_atu (a : Nat) : (s.bump a).atu = s.atu := (rfl)
@[simp] theorem State.bump_vis (a : Nat) : (s.bump a).vis = s.vis := (rfl)
@[simp] theorem State.bump_knk (a : Nat) : (s.bump a).knk = s.knk := (rfl)
@[simp] theorem State.bump_gus (a : Nat) : (s.bump a).gus = s.gus := (rfl)
@[simp] theorem State.bump_pcu (a : Nat) : (s.bump a).pcu = s.pcu := (rfl)
@[simp] theorem State.bump_brm (a : Nat) : (s.bump a).brm = s.brm := (rfl)
@[simp] theorem State.bump_net (a : Nat) : (s.bump a).net = s.net := (rfl)
@[simp] theorem State.bump_cuff (a : Nat) : (s.bump a).cuff = s.cuff := (rfl)
@[simp] theorem State.bump_sys (a : Nat) : (s.bump a).sys = s.sys := (rfl)
@[simp] theorem State.bump_boot (a : Nat) : (s.bump a).boot = s.boot := (rfl)
@[simp] theorem State.bump_mdl (a : Nat) : (s.bump a).mdl = s.mdl := (rfl)

/-! ## setFld -/

@[simp] theorem State.setFld_pending (a lo w v : Nat) : (s.setFld a lo w v).pending = s.pending := (rfl)
@[simp] theorem State.setFld_time (a lo w v : Nat) : (s.setFld a lo w v).time = s.time := (rfl)
@[simp] theorem State.setFld_fresh (a lo w v : Nat) : (s.setFld a lo w v).fresh = s.fresh := (rfl)
@[simp] theorem State.setFld_shadow (a lo w v : Nat) : (s.setFld a lo w v).shadow = s.shadow := (rfl)
@[simp] theorem State.setFld_dict (a lo w v : Nat) : (s.setFld a lo w v).dict = s.dict := (rfl)
@[simp] theorem State.setFld_octets (a lo w v : Nat) : (s.setFld a lo w v).octets = s.octets := (rfl)
@[simp] theorem State.setFld_refused (a lo w v : Nat) : (s.setFld a lo w v).refused = s.refused := (rfl)
@[simp] theorem State.setFld_timePast (a lo w v : Nat) : (s.setFld a lo w v).timePast = s.timePast := (rfl)
@[simp] theorem State.setFld_pulse (a lo w v : Nat) : (s.setFld a lo w v).pulse = s.pulse := (rfl)
@[simp] theorem State.setFld_umem (a lo w v : Nat) : (s.setFld a lo w v).umem = s.umem := (rfl)
@[simp] theorem State.setFld_readVal (a lo w v : Nat) : (s.setFld a lo w v).readVal = s.readVal := (rfl)
@[simp] theorem State.setFld_umr (a lo w v : Nat) : (s.setFld a lo w v).umr = s.umr := (rfl)
@[simp] theorem State.setFld_que (a lo w v : Nat) : (s.setFld a lo w v).que = s.que := (rfl)
@[simp] theorem State.setFld_gnt (a lo w v : Nat) : (s.setFld a lo w v).gnt = s.gnt := (rfl)
@[simp] theorem State.setFld_gbuf (a lo w v : Nat) : (s.setFld a lo w v).gbuf = s.gbuf := (rfl)
@[simp] theorem State.setFld_slots (a lo w v : Nat) : (s.setFld a lo w v).slots = s.slots := (rfl)
@[simp] theorem State.setFld_att (a lo w v : Nat) : (s.setFld a lo w v).att = s.att := (rfl)
@[simp] theorem State.setFld_attWait (a lo w v : Nat) : (s.setFld a lo w v).attWait = s.attWait := (rfl)
@[simp] theorem State.setFld_kvr (a lo w v : Nat) : (s.setFld a lo w v).kvr = s.kvr := (rfl)
@[simp] theorem State.setFld_kvrUsed (a lo w v : Nat) : (s.setFld a lo w v).kvrUsed = s.kvrUsed := (rfl)
@[simp] theorem State.setFld_look (a lo w v : Nat) : (s.setFld a lo w v).look = s.look := (rfl)
@[simp] theorem State.setFld_crop (a lo w v : Nat) : (s.setFld a lo w v).crop = s.crop := (rfl)
@[simp] theorem State.setFld_gusNotes (a lo w v : Nat) : (s.setFld a lo w v).gusNotes = s.gusNotes := (rfl)
@[simp] theorem State.setFld_launches (a lo w v : Nat) : (s.setFld a lo w v).launches = s.launches := (rfl)
@[simp] theorem State.setFld_fingers (a lo w v : Nat) : (s.setFld a lo w v).fingers = s.fingers := (rfl)
@[simp] theorem State.setFld_mqueues (a lo w v : Nat) : (s.setFld a lo w v).mqueues = s.mqueues := (rfl)
@[simp] theorem State.setFld_lmem (a lo w v : Nat) : (s.setFld a lo w v).lmem = s.lmem := (rfl)
@[simp] theorem State.setFld_smem (a lo w v : Nat) : (s.setFld a lo w v).smem = s.smem := (rfl)
@[simp] theorem State.setFld_scr (a lo w v : Nat) : (s.setFld a lo w v).scr = s.scr := (rfl)
@[simp] theorem State.setFld_edges (a lo w v : Nat) : (s.setFld a lo w v).edges = s.edges := (rfl)
@[simp] theorem State.setFld_outNext (a lo w v : Nat) : (s.setFld a lo w v).outNext = s.outNext := (rfl)
@[simp] theorem State.setFld_trig (a lo w v : Nat) : (s.setFld a lo w v).trig = s.trig := (rfl)
@[simp] theorem State.setFld_cmpArmed (a lo w v : Nat) : (s.setFld a lo w v).cmpArmed = s.cmpArmed := (rfl)
@[simp] theorem State.setFld_gptp (a lo w v : Nat) : (s.setFld a lo w v).gptp = s.gptp := (rfl)
@[simp] theorem State.setFld_gptpHold (a lo w v : Nat) : (s.setFld a lo w v).gptpHold = s.gptpHold := (rfl)
@[simp] theorem State.setFld_pdelay (a lo w v : Nat) : (s.setFld a lo w v).pdelay = s.pdelay := (rfl)
@[simp] theorem State.setFld_atu (a lo w v : Nat) : (s.setFld a lo w v).atu = s.atu := (rfl)
@[simp] theorem State.setFld_vis (a lo w v : Nat) : (s.setFld a lo w v).vis = s.vis := (rfl)
@[simp] theorem State.setFld_knk (a lo w v : Nat) : (s.setFld a lo w v).knk = s.knk := (rfl)
@[simp] theorem State.setFld_gus (a lo w v : Nat) : (s.setFld a lo w v).gus = s.gus := (rfl)
@[simp] theorem State.setFld_pcu (a lo w v : Nat) : (s.setFld a lo w v).pcu = s.pcu := (rfl)
@[simp] theorem State.setFld_brm (a lo w v : Nat) : (s.setFld a lo w v).brm = s.brm := (rfl)
@[simp] theorem State.setFld_net (a lo w v : Nat) : (s.setFld a lo w v).net = s.net := (rfl)
@[simp] theorem State.setFld_cuff (a lo w v : Nat) : (s.setFld a lo w v).cuff = s.cuff := (rfl)
@[simp] theorem State.setFld_sys (a lo w v : Nat) : (s.setFld a lo w v).sys = s.sys := (rfl)
@[simp] theorem State.setFld_boot (a lo w v : Nat) : (s.setFld a lo w v).boot = s.boot := (rfl)
@[simp] theorem State.setFld_mdl (a lo w v : Nat) : (s.setFld a lo w v).mdl = s.mdl := (rfl)

/-! ## orReg -/

@[simp] theorem State.orReg_pending (a m : Nat) : (s.orReg a m).pending = s.pending := (rfl)
@[simp] theorem State.orReg_time (a m : Nat) : (s.orReg a m).time = s.time := (rfl)
@[simp] theorem State.orReg_fresh (a m : Nat) : (s.orReg a m).fresh = s.fresh := (rfl)
@[simp] theorem State.orReg_shadow (a m : Nat) : (s.orReg a m).shadow = s.shadow := (rfl)
@[simp] theorem State.orReg_dict (a m : Nat) : (s.orReg a m).dict = s.dict := (rfl)
@[simp] theorem State.orReg_octets (a m : Nat) : (s.orReg a m).octets = s.octets := (rfl)
@[simp] theorem State.orReg_refused (a m : Nat) : (s.orReg a m).refused = s.refused := (rfl)
@[simp] theorem State.orReg_timePast (a m : Nat) : (s.orReg a m).timePast = s.timePast := (rfl)
@[simp] theorem State.orReg_pulse (a m : Nat) : (s.orReg a m).pulse = s.pulse := (rfl)
@[simp] theorem State.orReg_umem (a m : Nat) : (s.orReg a m).umem = s.umem := (rfl)
@[simp] theorem State.orReg_readVal (a m : Nat) : (s.orReg a m).readVal = s.readVal := (rfl)
@[simp] theorem State.orReg_umr (a m : Nat) : (s.orReg a m).umr = s.umr := (rfl)
@[simp] theorem State.orReg_que (a m : Nat) : (s.orReg a m).que = s.que := (rfl)
@[simp] theorem State.orReg_gnt (a m : Nat) : (s.orReg a m).gnt = s.gnt := (rfl)
@[simp] theorem State.orReg_gbuf (a m : Nat) : (s.orReg a m).gbuf = s.gbuf := (rfl)
@[simp] theorem State.orReg_slots (a m : Nat) : (s.orReg a m).slots = s.slots := (rfl)
@[simp] theorem State.orReg_att (a m : Nat) : (s.orReg a m).att = s.att := (rfl)
@[simp] theorem State.orReg_attWait (a m : Nat) : (s.orReg a m).attWait = s.attWait := (rfl)
@[simp] theorem State.orReg_kvr (a m : Nat) : (s.orReg a m).kvr = s.kvr := (rfl)
@[simp] theorem State.orReg_kvrUsed (a m : Nat) : (s.orReg a m).kvrUsed = s.kvrUsed := (rfl)
@[simp] theorem State.orReg_look (a m : Nat) : (s.orReg a m).look = s.look := (rfl)
@[simp] theorem State.orReg_crop (a m : Nat) : (s.orReg a m).crop = s.crop := (rfl)
@[simp] theorem State.orReg_gusNotes (a m : Nat) : (s.orReg a m).gusNotes = s.gusNotes := (rfl)
@[simp] theorem State.orReg_launches (a m : Nat) : (s.orReg a m).launches = s.launches := (rfl)
@[simp] theorem State.orReg_fingers (a m : Nat) : (s.orReg a m).fingers = s.fingers := (rfl)
@[simp] theorem State.orReg_mqueues (a m : Nat) : (s.orReg a m).mqueues = s.mqueues := (rfl)
@[simp] theorem State.orReg_lmem (a m : Nat) : (s.orReg a m).lmem = s.lmem := (rfl)
@[simp] theorem State.orReg_smem (a m : Nat) : (s.orReg a m).smem = s.smem := (rfl)
@[simp] theorem State.orReg_scr (a m : Nat) : (s.orReg a m).scr = s.scr := (rfl)
@[simp] theorem State.orReg_edges (a m : Nat) : (s.orReg a m).edges = s.edges := (rfl)
@[simp] theorem State.orReg_outNext (a m : Nat) : (s.orReg a m).outNext = s.outNext := (rfl)
@[simp] theorem State.orReg_trig (a m : Nat) : (s.orReg a m).trig = s.trig := (rfl)
@[simp] theorem State.orReg_cmpArmed (a m : Nat) : (s.orReg a m).cmpArmed = s.cmpArmed := (rfl)
@[simp] theorem State.orReg_gptp (a m : Nat) : (s.orReg a m).gptp = s.gptp := (rfl)
@[simp] theorem State.orReg_gptpHold (a m : Nat) : (s.orReg a m).gptpHold = s.gptpHold := (rfl)
@[simp] theorem State.orReg_pdelay (a m : Nat) : (s.orReg a m).pdelay = s.pdelay := (rfl)
@[simp] theorem State.orReg_atu (a m : Nat) : (s.orReg a m).atu = s.atu := (rfl)
@[simp] theorem State.orReg_vis (a m : Nat) : (s.orReg a m).vis = s.vis := (rfl)
@[simp] theorem State.orReg_knk (a m : Nat) : (s.orReg a m).knk = s.knk := (rfl)
@[simp] theorem State.orReg_gus (a m : Nat) : (s.orReg a m).gus = s.gus := (rfl)
@[simp] theorem State.orReg_pcu (a m : Nat) : (s.orReg a m).pcu = s.pcu := (rfl)
@[simp] theorem State.orReg_brm (a m : Nat) : (s.orReg a m).brm = s.brm := (rfl)
@[simp] theorem State.orReg_net (a m : Nat) : (s.orReg a m).net = s.net := (rfl)
@[simp] theorem State.orReg_cuff (a m : Nat) : (s.orReg a m).cuff = s.cuff := (rfl)
@[simp] theorem State.orReg_sys (a m : Nat) : (s.orReg a m).sys = s.sys := (rfl)
@[simp] theorem State.orReg_boot (a m : Nat) : (s.orReg a m).boot = s.boot := (rfl)
@[simp] theorem State.orReg_mdl (a m : Nat) : (s.orReg a m).mdl = s.mdl := (rfl)

/-! ## setDictN -/

@[simp] theorem State.setDictN_pending (i sub v : Nat) : (s.setDictN i sub v).pending = s.pending := (rfl)
@[simp] theorem State.setDictN_time (i sub v : Nat) : (s.setDictN i sub v).time = s.time := (rfl)
@[simp] theorem State.setDictN_fresh (i sub v : Nat) : (s.setDictN i sub v).fresh = s.fresh := (rfl)
@[simp] theorem State.setDictN_regs (i sub v : Nat) : (s.setDictN i sub v).regs = s.regs := (rfl)
@[simp] theorem State.setDictN_shadow (i sub v : Nat) : (s.setDictN i sub v).shadow = s.shadow := (rfl)
@[simp] theorem State.setDictN_octets (i sub v : Nat) : (s.setDictN i sub v).octets = s.octets := (rfl)
@[simp] theorem State.setDictN_refused (i sub v : Nat) : (s.setDictN i sub v).refused = s.refused := (rfl)
@[simp] theorem State.setDictN_timePast (i sub v : Nat) : (s.setDictN i sub v).timePast = s.timePast := (rfl)
@[simp] theorem State.setDictN_pulse (i sub v : Nat) : (s.setDictN i sub v).pulse = s.pulse := (rfl)
@[simp] theorem State.setDictN_umem (i sub v : Nat) : (s.setDictN i sub v).umem = s.umem := (rfl)
@[simp] theorem State.setDictN_readVal (i sub v : Nat) : (s.setDictN i sub v).readVal = s.readVal := (rfl)
@[simp] theorem State.setDictN_umr (i sub v : Nat) : (s.setDictN i sub v).umr = s.umr := (rfl)
@[simp] theorem State.setDictN_que (i sub v : Nat) : (s.setDictN i sub v).que = s.que := (rfl)
@[simp] theorem State.setDictN_gnt (i sub v : Nat) : (s.setDictN i sub v).gnt = s.gnt := (rfl)
@[simp] theorem State.setDictN_gbuf (i sub v : Nat) : (s.setDictN i sub v).gbuf = s.gbuf := (rfl)
@[simp] theorem State.setDictN_slots (i sub v : Nat) : (s.setDictN i sub v).slots = s.slots := (rfl)
@[simp] theorem State.setDictN_att (i sub v : Nat) : (s.setDictN i sub v).att = s.att := (rfl)
@[simp] theorem State.setDictN_attWait (i sub v : Nat) : (s.setDictN i sub v).attWait = s.attWait := (rfl)
@[simp] theorem State.setDictN_kvr (i sub v : Nat) : (s.setDictN i sub v).kvr = s.kvr := (rfl)
@[simp] theorem State.setDictN_kvrUsed (i sub v : Nat) : (s.setDictN i sub v).kvrUsed = s.kvrUsed := (rfl)
@[simp] theorem State.setDictN_look (i sub v : Nat) : (s.setDictN i sub v).look = s.look := (rfl)
@[simp] theorem State.setDictN_crop (i sub v : Nat) : (s.setDictN i sub v).crop = s.crop := (rfl)
@[simp] theorem State.setDictN_gusNotes (i sub v : Nat) : (s.setDictN i sub v).gusNotes = s.gusNotes := (rfl)
@[simp] theorem State.setDictN_launches (i sub v : Nat) : (s.setDictN i sub v).launches = s.launches := (rfl)
@[simp] theorem State.setDictN_fingers (i sub v : Nat) : (s.setDictN i sub v).fingers = s.fingers := (rfl)
@[simp] theorem State.setDictN_mqueues (i sub v : Nat) : (s.setDictN i sub v).mqueues = s.mqueues := (rfl)
@[simp] theorem State.setDictN_lmem (i sub v : Nat) : (s.setDictN i sub v).lmem = s.lmem := (rfl)
@[simp] theorem State.setDictN_smem (i sub v : Nat) : (s.setDictN i sub v).smem = s.smem := (rfl)
@[simp] theorem State.setDictN_scr (i sub v : Nat) : (s.setDictN i sub v).scr = s.scr := (rfl)
@[simp] theorem State.setDictN_edges (i sub v : Nat) : (s.setDictN i sub v).edges = s.edges := (rfl)
@[simp] theorem State.setDictN_outNext (i sub v : Nat) : (s.setDictN i sub v).outNext = s.outNext := (rfl)
@[simp] theorem State.setDictN_trig (i sub v : Nat) : (s.setDictN i sub v).trig = s.trig := (rfl)
@[simp] theorem State.setDictN_cmpArmed (i sub v : Nat) : (s.setDictN i sub v).cmpArmed = s.cmpArmed := (rfl)
@[simp] theorem State.setDictN_gptp (i sub v : Nat) : (s.setDictN i sub v).gptp = s.gptp := (rfl)
@[simp] theorem State.setDictN_gptpHold (i sub v : Nat) : (s.setDictN i sub v).gptpHold = s.gptpHold := (rfl)
@[simp] theorem State.setDictN_pdelay (i sub v : Nat) : (s.setDictN i sub v).pdelay = s.pdelay := (rfl)
@[simp] theorem State.setDictN_atu (i sub v : Nat) : (s.setDictN i sub v).atu = s.atu := (rfl)
@[simp] theorem State.setDictN_vis (i sub v : Nat) : (s.setDictN i sub v).vis = s.vis := (rfl)
@[simp] theorem State.setDictN_knk (i sub v : Nat) : (s.setDictN i sub v).knk = s.knk := (rfl)
@[simp] theorem State.setDictN_gus (i sub v : Nat) : (s.setDictN i sub v).gus = s.gus := (rfl)
@[simp] theorem State.setDictN_pcu (i sub v : Nat) : (s.setDictN i sub v).pcu = s.pcu := (rfl)
@[simp] theorem State.setDictN_brm (i sub v : Nat) : (s.setDictN i sub v).brm = s.brm := (rfl)
@[simp] theorem State.setDictN_net (i sub v : Nat) : (s.setDictN i sub v).net = s.net := (rfl)
@[simp] theorem State.setDictN_cuff (i sub v : Nat) : (s.setDictN i sub v).cuff = s.cuff := (rfl)
@[simp] theorem State.setDictN_sys (i sub v : Nat) : (s.setDictN i sub v).sys = s.sys := (rfl)
@[simp] theorem State.setDictN_boot (i sub v : Nat) : (s.setDictN i sub v).boot = s.boot := (rfl)
@[simp] theorem State.setDictN_mdl (i sub v : Nat) : (s.setDictN i sub v).mdl = s.mdl := (rfl)

/-! ## dictAddSat -/

@[simp] theorem State.dictAddSat_pending (i sub n w : Nat) : (s.dictAddSat i sub n w).pending = s.pending := (rfl)
@[simp] theorem State.dictAddSat_time (i sub n w : Nat) : (s.dictAddSat i sub n w).time = s.time := (rfl)
@[simp] theorem State.dictAddSat_fresh (i sub n w : Nat) : (s.dictAddSat i sub n w).fresh = s.fresh := (rfl)
@[simp] theorem State.dictAddSat_regs (i sub n w : Nat) : (s.dictAddSat i sub n w).regs = s.regs := (rfl)
@[simp] theorem State.dictAddSat_shadow (i sub n w : Nat) : (s.dictAddSat i sub n w).shadow = s.shadow := (rfl)
@[simp] theorem State.dictAddSat_octets (i sub n w : Nat) : (s.dictAddSat i sub n w).octets = s.octets := (rfl)
@[simp] theorem State.dictAddSat_refused (i sub n w : Nat) : (s.dictAddSat i sub n w).refused = s.refused := (rfl)
@[simp] theorem State.dictAddSat_timePast (i sub n w : Nat) : (s.dictAddSat i sub n w).timePast = s.timePast := (rfl)
@[simp] theorem State.dictAddSat_pulse (i sub n w : Nat) : (s.dictAddSat i sub n w).pulse = s.pulse := (rfl)
@[simp] theorem State.dictAddSat_umem (i sub n w : Nat) : (s.dictAddSat i sub n w).umem = s.umem := (rfl)
@[simp] theorem State.dictAddSat_readVal (i sub n w : Nat) : (s.dictAddSat i sub n w).readVal = s.readVal := (rfl)
@[simp] theorem State.dictAddSat_umr (i sub n w : Nat) : (s.dictAddSat i sub n w).umr = s.umr := (rfl)
@[simp] theorem State.dictAddSat_que (i sub n w : Nat) : (s.dictAddSat i sub n w).que = s.que := (rfl)
@[simp] theorem State.dictAddSat_gnt (i sub n w : Nat) : (s.dictAddSat i sub n w).gnt = s.gnt := (rfl)
@[simp] theorem State.dictAddSat_gbuf (i sub n w : Nat) : (s.dictAddSat i sub n w).gbuf = s.gbuf := (rfl)
@[simp] theorem State.dictAddSat_slots (i sub n w : Nat) : (s.dictAddSat i sub n w).slots = s.slots := (rfl)
@[simp] theorem State.dictAddSat_att (i sub n w : Nat) : (s.dictAddSat i sub n w).att = s.att := (rfl)
@[simp] theorem State.dictAddSat_attWait (i sub n w : Nat) : (s.dictAddSat i sub n w).attWait = s.attWait := (rfl)
@[simp] theorem State.dictAddSat_kvr (i sub n w : Nat) : (s.dictAddSat i sub n w).kvr = s.kvr := (rfl)
@[simp] theorem State.dictAddSat_kvrUsed (i sub n w : Nat) : (s.dictAddSat i sub n w).kvrUsed = s.kvrUsed := (rfl)
@[simp] theorem State.dictAddSat_look (i sub n w : Nat) : (s.dictAddSat i sub n w).look = s.look := (rfl)
@[simp] theorem State.dictAddSat_crop (i sub n w : Nat) : (s.dictAddSat i sub n w).crop = s.crop := (rfl)
@[simp] theorem State.dictAddSat_gusNotes (i sub n w : Nat) : (s.dictAddSat i sub n w).gusNotes = s.gusNotes := (rfl)
@[simp] theorem State.dictAddSat_launches (i sub n w : Nat) : (s.dictAddSat i sub n w).launches = s.launches := (rfl)
@[simp] theorem State.dictAddSat_fingers (i sub n w : Nat) : (s.dictAddSat i sub n w).fingers = s.fingers := (rfl)
@[simp] theorem State.dictAddSat_mqueues (i sub n w : Nat) : (s.dictAddSat i sub n w).mqueues = s.mqueues := (rfl)
@[simp] theorem State.dictAddSat_lmem (i sub n w : Nat) : (s.dictAddSat i sub n w).lmem = s.lmem := (rfl)
@[simp] theorem State.dictAddSat_smem (i sub n w : Nat) : (s.dictAddSat i sub n w).smem = s.smem := (rfl)
@[simp] theorem State.dictAddSat_scr (i sub n w : Nat) : (s.dictAddSat i sub n w).scr = s.scr := (rfl)
@[simp] theorem State.dictAddSat_edges (i sub n w : Nat) : (s.dictAddSat i sub n w).edges = s.edges := (rfl)
@[simp] theorem State.dictAddSat_outNext (i sub n w : Nat) : (s.dictAddSat i sub n w).outNext = s.outNext := (rfl)
@[simp] theorem State.dictAddSat_trig (i sub n w : Nat) : (s.dictAddSat i sub n w).trig = s.trig := (rfl)
@[simp] theorem State.dictAddSat_cmpArmed (i sub n w : Nat) : (s.dictAddSat i sub n w).cmpArmed = s.cmpArmed := (rfl)
@[simp] theorem State.dictAddSat_gptp (i sub n w : Nat) : (s.dictAddSat i sub n w).gptp = s.gptp := (rfl)
@[simp] theorem State.dictAddSat_gptpHold (i sub n w : Nat) : (s.dictAddSat i sub n w).gptpHold = s.gptpHold := (rfl)
@[simp] theorem State.dictAddSat_pdelay (i sub n w : Nat) : (s.dictAddSat i sub n w).pdelay = s.pdelay := (rfl)
@[simp] theorem State.dictAddSat_atu (i sub n w : Nat) : (s.dictAddSat i sub n w).atu = s.atu := (rfl)
@[simp] theorem State.dictAddSat_vis (i sub n w : Nat) : (s.dictAddSat i sub n w).vis = s.vis := (rfl)
@[simp] theorem State.dictAddSat_knk (i sub n w : Nat) : (s.dictAddSat i sub n w).knk = s.knk := (rfl)
@[simp] theorem State.dictAddSat_gus (i sub n w : Nat) : (s.dictAddSat i sub n w).gus = s.gus := (rfl)
@[simp] theorem State.dictAddSat_pcu (i sub n w : Nat) : (s.dictAddSat i sub n w).pcu = s.pcu := (rfl)
@[simp] theorem State.dictAddSat_brm (i sub n w : Nat) : (s.dictAddSat i sub n w).brm = s.brm := (rfl)
@[simp] theorem State.dictAddSat_net (i sub n w : Nat) : (s.dictAddSat i sub n w).net = s.net := (rfl)
@[simp] theorem State.dictAddSat_cuff (i sub n w : Nat) : (s.dictAddSat i sub n w).cuff = s.cuff := (rfl)
@[simp] theorem State.dictAddSat_sys (i sub n w : Nat) : (s.dictAddSat i sub n w).sys = s.sys := (rfl)
@[simp] theorem State.dictAddSat_boot (i sub n w : Nat) : (s.dictAddSat i sub n w).boot = s.boot := (rfl)
@[simp] theorem State.dictAddSat_mdl (i sub n w : Nat) : (s.dictAddSat i sub n w).mdl = s.mdl := (rfl)

/-! ## setOctets -/

@[simp] theorem State.setOctets_pending (i sub : Nat) (bs : Bytes) : (s.setOctets i sub bs).pending = s.pending := (rfl)
@[simp] theorem State.setOctets_time (i sub : Nat) (bs : Bytes) : (s.setOctets i sub bs).time = s.time := (rfl)
@[simp] theorem State.setOctets_fresh (i sub : Nat) (bs : Bytes) : (s.setOctets i sub bs).fresh = s.fresh := (rfl)
@[simp] theorem State.setOctets_regs (i sub : Nat) (bs : Bytes) : (s.setOctets i sub bs).regs = s.regs := (rfl)
@[simp] theorem State.setOctets_shadow (i sub : Nat) (bs : Bytes) : (s.setOctets i sub bs).shadow = s.shadow := (rfl)
@[simp] theorem State.setOctets_dict (i sub : Nat) (bs : Bytes) : (s.setOctets i sub bs).dict = s.dict := (rfl)
@[simp] theorem State.setOctets_umem (i sub : Nat) (bs : Bytes) : (s.setOctets i sub bs).umem = s.umem := (rfl)
@[simp] theorem State.setOctets_readVal (i sub : Nat) (bs : Bytes) : (s.setOctets i sub bs).readVal = s.readVal := (rfl)
@[simp] theorem State.setOctets_umr (i sub : Nat) (bs : Bytes) : (s.setOctets i sub bs).umr = s.umr := (rfl)
@[simp] theorem State.setOctets_que (i sub : Nat) (bs : Bytes) : (s.setOctets i sub bs).que = s.que := (rfl)
@[simp] theorem State.setOctets_gnt (i sub : Nat) (bs : Bytes) : (s.setOctets i sub bs).gnt = s.gnt := (rfl)
@[simp] theorem State.setOctets_gbuf (i sub : Nat) (bs : Bytes) : (s.setOctets i sub bs).gbuf = s.gbuf := (rfl)
@[simp] theorem State.setOctets_slots (i sub : Nat) (bs : Bytes) : (s.setOctets i sub bs).slots = s.slots := (rfl)
@[simp] theorem State.setOctets_att (i sub : Nat) (bs : Bytes) : (s.setOctets i sub bs).att = s.att := (rfl)
@[simp] theorem State.setOctets_attWait (i sub : Nat) (bs : Bytes) : (s.setOctets i sub bs).attWait = s.attWait := (rfl)
@[simp] theorem State.setOctets_kvr (i sub : Nat) (bs : Bytes) : (s.setOctets i sub bs).kvr = s.kvr := (rfl)
@[simp] theorem State.setOctets_kvrUsed (i sub : Nat) (bs : Bytes) : (s.setOctets i sub bs).kvrUsed = s.kvrUsed := (rfl)
@[simp] theorem State.setOctets_look (i sub : Nat) (bs : Bytes) : (s.setOctets i sub bs).look = s.look := (rfl)
@[simp] theorem State.setOctets_crop (i sub : Nat) (bs : Bytes) : (s.setOctets i sub bs).crop = s.crop := (rfl)
@[simp] theorem State.setOctets_gusNotes (i sub : Nat) (bs : Bytes) : (s.setOctets i sub bs).gusNotes = s.gusNotes := (rfl)
@[simp] theorem State.setOctets_launches (i sub : Nat) (bs : Bytes) : (s.setOctets i sub bs).launches = s.launches := (rfl)
@[simp] theorem State.setOctets_fingers (i sub : Nat) (bs : Bytes) : (s.setOctets i sub bs).fingers = s.fingers := (rfl)
@[simp] theorem State.setOctets_mqueues (i sub : Nat) (bs : Bytes) : (s.setOctets i sub bs).mqueues = s.mqueues := (rfl)
@[simp] theorem State.setOctets_lmem (i sub : Nat) (bs : Bytes) : (s.setOctets i sub bs).lmem = s.lmem := (rfl)
@[simp] theorem State.setOctets_smem (i sub : Nat) (bs : Bytes) : (s.setOctets i sub bs).smem = s.smem := (rfl)
@[simp] theorem State.setOctets_scr (i sub : Nat) (bs : Bytes) : (s.setOctets i sub bs).scr = s.scr := (rfl)
@[simp] theorem State.setOctets_edges (i sub : Nat) (bs : Bytes) : (s.setOctets i sub bs).edges = s.edges := (rfl)
@[simp] theorem State.setOctets_outNext (i sub : Nat) (bs : Bytes) : (s.setOctets i sub bs).outNext = s.outNext := (rfl)
@[simp] theorem State.setOctets_trig (i sub : Nat) (bs : Bytes) : (s.setOctets i sub bs).trig = s.trig := (rfl)
@[simp] theorem State.setOctets_cmpArmed (i sub : Nat) (bs : Bytes) : (s.setOctets i sub bs).cmpArmed = s.cmpArmed := (rfl)
@[simp] theorem State.setOctets_gptp (i sub : Nat) (bs : Bytes) : (s.setOctets i sub bs).gptp = s.gptp := (rfl)
@[simp] theorem State.setOctets_refused (i sub : Nat) (bs : Bytes) : (s.setOctets i sub bs).refused = s.refused := (rfl)
@[simp] theorem State.setOctets_timePast (i sub : Nat) (bs : Bytes) : (s.setOctets i sub bs).timePast = s.timePast := (rfl)
@[simp] theorem State.setOctets_pulse (i sub : Nat) (bs : Bytes) : (s.setOctets i sub bs).pulse = s.pulse := (rfl)
@[simp] theorem State.setOctets_gptpHold (i sub : Nat) (bs : Bytes) : (s.setOctets i sub bs).gptpHold = s.gptpHold := (rfl)
@[simp] theorem State.setOctets_pdelay (i sub : Nat) (bs : Bytes) : (s.setOctets i sub bs).pdelay = s.pdelay := (rfl)
@[simp] theorem State.setOctets_atu (i sub : Nat) (bs : Bytes) : (s.setOctets i sub bs).atu = s.atu := (rfl)
@[simp] theorem State.setOctets_vis (i sub : Nat) (bs : Bytes) : (s.setOctets i sub bs).vis = s.vis := (rfl)
@[simp] theorem State.setOctets_knk (i sub : Nat) (bs : Bytes) : (s.setOctets i sub bs).knk = s.knk := (rfl)
@[simp] theorem State.setOctets_gus (i sub : Nat) (bs : Bytes) : (s.setOctets i sub bs).gus = s.gus := (rfl)
@[simp] theorem State.setOctets_pcu (i sub : Nat) (bs : Bytes) : (s.setOctets i sub bs).pcu = s.pcu := (rfl)
@[simp] theorem State.setOctets_brm (i sub : Nat) (bs : Bytes) : (s.setOctets i sub bs).brm = s.brm := (rfl)
@[simp] theorem State.setOctets_net (i sub : Nat) (bs : Bytes) : (s.setOctets i sub bs).net = s.net := (rfl)
@[simp] theorem State.setOctets_cuff (i sub : Nat) (bs : Bytes) : (s.setOctets i sub bs).cuff = s.cuff := (rfl)
@[simp] theorem State.setOctets_sys (i sub : Nat) (bs : Bytes) : (s.setOctets i sub bs).sys = s.sys := (rfl)
@[simp] theorem State.setOctets_boot (i sub : Nat) (bs : Bytes) : (s.setOctets i sub bs).boot = s.boot := (rfl)
@[simp] theorem State.setOctets_mdl (i sub : Nat) (bs : Bytes) : (s.setOctets i sub bs).mdl = s.mdl := (rfl)

/-! ## freshN -/

@[simp] theorem State.freshN_pending (n : Nat) : (s.freshN n).pending = s.pending := (rfl)
@[simp] theorem State.freshN_time (n : Nat) : (s.freshN n).time = s.time := (rfl)
@[simp] theorem State.freshN_regs (n : Nat) : (s.freshN n).regs = s.regs := (rfl)
@[simp] theorem State.freshN_shadow (n : Nat) : (s.freshN n).shadow = s.shadow := (rfl)
@[simp] theorem State.freshN_dict (n : Nat) : (s.freshN n).dict = s.dict := (rfl)
@[simp] theorem State.freshN_octets (n : Nat) : (s.freshN n).octets = s.octets := (rfl)
@[simp] theorem State.freshN_refused (n : Nat) : (s.freshN n).refused = s.refused := (rfl)
@[simp] theorem State.freshN_timePast (n : Nat) : (s.freshN n).timePast = s.timePast := (rfl)
@[simp] theorem State.freshN_pulse (n : Nat) : (s.freshN n).pulse = s.pulse := (rfl)
@[simp] theorem State.freshN_umem (n : Nat) : (s.freshN n).umem = s.umem := (rfl)
@[simp] theorem State.freshN_readVal (n : Nat) : (s.freshN n).readVal = s.readVal := (rfl)
@[simp] theorem State.freshN_umr (n : Nat) : (s.freshN n).umr = s.umr := (rfl)
@[simp] theorem State.freshN_que (n : Nat) : (s.freshN n).que = s.que := (rfl)
@[simp] theorem State.freshN_gnt (n : Nat) : (s.freshN n).gnt = s.gnt := (rfl)
@[simp] theorem State.freshN_gbuf (n : Nat) : (s.freshN n).gbuf = s.gbuf := (rfl)
@[simp] theorem State.freshN_slots (n : Nat) : (s.freshN n).slots = s.slots := (rfl)
@[simp] theorem State.freshN_att (n : Nat) : (s.freshN n).att = s.att := (rfl)
@[simp] theorem State.freshN_attWait (n : Nat) : (s.freshN n).attWait = s.attWait := (rfl)
@[simp] theorem State.freshN_kvr (n : Nat) : (s.freshN n).kvr = s.kvr := (rfl)
@[simp] theorem State.freshN_kvrUsed (n : Nat) : (s.freshN n).kvrUsed = s.kvrUsed := (rfl)
@[simp] theorem State.freshN_look (n : Nat) : (s.freshN n).look = s.look := (rfl)
@[simp] theorem State.freshN_crop (n : Nat) : (s.freshN n).crop = s.crop := (rfl)
@[simp] theorem State.freshN_gusNotes (n : Nat) : (s.freshN n).gusNotes = s.gusNotes := (rfl)
@[simp] theorem State.freshN_launches (n : Nat) : (s.freshN n).launches = s.launches := (rfl)
@[simp] theorem State.freshN_fingers (n : Nat) : (s.freshN n).fingers = s.fingers := (rfl)
@[simp] theorem State.freshN_mqueues (n : Nat) : (s.freshN n).mqueues = s.mqueues := (rfl)
@[simp] theorem State.freshN_lmem (n : Nat) : (s.freshN n).lmem = s.lmem := (rfl)
@[simp] theorem State.freshN_smem (n : Nat) : (s.freshN n).smem = s.smem := (rfl)
@[simp] theorem State.freshN_scr (n : Nat) : (s.freshN n).scr = s.scr := (rfl)
@[simp] theorem State.freshN_edges (n : Nat) : (s.freshN n).edges = s.edges := (rfl)
@[simp] theorem State.freshN_outNext (n : Nat) : (s.freshN n).outNext = s.outNext := (rfl)
@[simp] theorem State.freshN_trig (n : Nat) : (s.freshN n).trig = s.trig := (rfl)
@[simp] theorem State.freshN_cmpArmed (n : Nat) : (s.freshN n).cmpArmed = s.cmpArmed := (rfl)
@[simp] theorem State.freshN_gptp (n : Nat) : (s.freshN n).gptp = s.gptp := (rfl)
@[simp] theorem State.freshN_gptpHold (n : Nat) : (s.freshN n).gptpHold = s.gptpHold := (rfl)
@[simp] theorem State.freshN_pdelay (n : Nat) : (s.freshN n).pdelay = s.pdelay := (rfl)
@[simp] theorem State.freshN_atu (n : Nat) : (s.freshN n).atu = s.atu := (rfl)
@[simp] theorem State.freshN_vis (n : Nat) : (s.freshN n).vis = s.vis := (rfl)
@[simp] theorem State.freshN_knk (n : Nat) : (s.freshN n).knk = s.knk := (rfl)
@[simp] theorem State.freshN_gus (n : Nat) : (s.freshN n).gus = s.gus := (rfl)
@[simp] theorem State.freshN_pcu (n : Nat) : (s.freshN n).pcu = s.pcu := (rfl)
@[simp] theorem State.freshN_brm (n : Nat) : (s.freshN n).brm = s.brm := (rfl)
@[simp] theorem State.freshN_net (n : Nat) : (s.freshN n).net = s.net := (rfl)
@[simp] theorem State.freshN_cuff (n : Nat) : (s.freshN n).cuff = s.cuff := (rfl)
@[simp] theorem State.freshN_sys (n : Nat) : (s.freshN n).sys = s.sys := (rfl)
@[simp] theorem State.freshN_boot (n : Nat) : (s.freshN n).boot = s.boot := (rfl)
@[simp] theorem State.freshN_mdl (n : Nat) : (s.freshN n).mdl = s.mdl := (rfl)

end Sys2Proof.Machine
end

