-- ==== Sys2Proof/Laws/Ops.lean ====
section
/-! SUPPORT. Laws of the shared operations: what reading a register, a field or a dictionary number gives after each
update; what an error record, the safe state, a capture and a quarantine may change. -/

namespace Sys2Proof.Machine

variable (s : State)

/-! ## Registers -/

theorem State.reg_setReg (a b : Nat) (w : Word) : (s.setReg a w).reg b = if b = a then w else s.reg b :=
  SMap.get_set regReset s.regs a b w

@[simp] theorem State.reg_setReg_same (a : Nat) (w : Word) : (s.setReg a w).reg a = w := by simp [State.reg_setReg]

theorem State.reg_setReg_other {a b : Nat} (w : Word) (h : b ≠ a) : (s.setReg a w).reg b = s.reg b := by
  simp [State.reg_setReg, h]

@[simp] theorem State.reg_setRegN_same (a v : Nat) : (s.setRegN a v).reg a = BitVec.ofNat 64 v :=
  State.reg_setReg_same s a _

theorem State.reg_setRegN_other {a b : Nat} (v : Nat) (h : b ≠ a) : (s.setRegN a v).reg b = s.reg b :=
  State.reg_setReg_other s _ h

@[simp] theorem State.regN_setRegN_same (a v : Nat) : (s.setRegN a v).regN a = v % 2 ^ 64 := by
  simp [State.regN]

theorem State.regN_setRegN_other {a b : Nat} (v : Nat) (h : b ≠ a) : (s.setRegN a v).regN b = s.regN b := by
  simp [State.regN, State.reg_setRegN_other s v h]

@[simp] theorem State.reg_add_same (a n : Nat) : (s.add a n).reg a = s.reg a + BitVec.ofNat 64 n :=
  State.reg_setReg_same s a _

theorem State.reg_add_other {a b : Nat} (n : Nat) (h : b ≠ a) : (s.add a n).reg b = s.reg b :=
  State.reg_setReg_other s _ h

@[simp] theorem State.reg_bump_same (a : Nat) : (s.bump a).reg a = s.reg a + 1 := State.reg_add_same s a 1

theorem State.reg_bump_other {a b : Nat} (h : b ≠ a) : (s.bump a).reg b = s.reg b := State.reg_add_other s 1 h

@[simp] theorem State.reg_orReg_same (a m : Nat) : (s.orReg a m).reg a = s.reg a ||| BitVec.ofNat 64 m :=
  State.reg_setReg_same s a _

theorem State.reg_orReg_other {a b : Nat} (m : Nat) (h : b ≠ a) : (s.orReg a m).reg b = s.reg b :=
  State.reg_setReg_other s _ h

theorem State.reg_setFld_other {a b : Nat} (lo w v : Nat) (h : b ≠ a) : (s.setFld a lo w v).reg b = s.reg b :=
  State.reg_setReg_other s _ h

theorem State.regN_lt (a : Nat) : s.regN a < 2 ^ 64 := (s.reg a).isLt

theorem State.regN_setFld_same (a lo w v : Nat) (h : lo + w ≤ 64) :
    (s.setFld a lo w v).regN a = putBits (s.regN a) lo w v := by
  rw [State.setFld, State.regN_setRegN_same, Nat.mod_eq_of_lt (putBits_lt _ _ _ _ _ (s.regN_lt a) h)]

/-- A field reads as what was set. -/
theorem State.fld_setFld_same (a lo w v : Nat) (h : lo + w ≤ 64) : (s.setFld a lo w v).fld a lo w = v % 2 ^ w := by
  rw [State.fld, State.regN_setFld_same s a lo w v h, bits_putBits]

theorem State.fld_setFld_below (a lo w v lo' w' : Nat) (h : lo + w ≤ 64) (h' : lo' + w' ≤ lo) :
    (s.setFld a lo w v).fld a lo' w' = s.fld a lo' w' := by
  rw [State.fld, State.regN_setFld_same s a lo w v h, bits_putBits_below _ _ _ _ _ _ h', State.fld]

theorem State.fld_setFld_above (a lo w v lo' w' : Nat) (h : lo + w ≤ 64) (h' : lo + w ≤ lo') :
    (s.setFld a lo w v).fld a lo' w' = s.fld a lo' w' := by
  rw [State.fld, State.regN_setFld_same s a lo w v h, bits_putBits_above _ _ _ _ _ _ h', State.fld]

/-- Bits set by a mask read as set. -/
theorem State.bit_orReg_same (a m k : Nat) (hk : k < 64) :
    (s.orReg a m).bit a k = (s.bit a k || m.testBit k) := by
  simp only [State.bit, State.regN, State.reg_orReg_same, BitVec.toNat_or, BitVec.toNat_ofNat, Nat.testBit_or,
    Nat.testBit_mod_two_pow, hk, decide_true, Bool.true_and]

/-! ## Dictionary numbers -/

theorem dictKey_inj {i sub j sub' : Nat} (h : sub < 256) (h' : sub' < 256) (e : dictKey i sub = dictKey j sub') :
    i = j ∧ sub = sub' := by
  simp only [dictKey] at e
  omega

@[simp] theorem State.dictN_setDictN_same (i sub v : Nat) : (s.setDictN i sub v).dictN i sub = v :=
  SMap.get_set_same _ _ _ _

theorem State.dictN_setDictN_other {i sub j sub' : Nat} (v : Nat) (h : dictKey j sub' ≠ dictKey i sub) :
    (s.setDictN i sub v).dictN j sub' = s.dictN j sub' := SMap.get_set_other _ _ _ h

@[simp] theorem State.octetsOf_setOctets_same (i sub : Nat) (bs : Bytes) :
    (s.setOctets i sub bs).octetsOf i sub = bs := SMap.get_set_same _ _ _ _

theorem State.octetsOf_setOctets_other {i sub j sub' : Nat} (bs : Bytes) (h : dictKey j sub' ≠ dictKey i sub) :
    (s.setOctets i sub bs).octetsOf j sub' = s.octetsOf j sub' := SMap.get_set_other _ _ _ h

/-! ## Outcomes -/

/-- A command outside the time family answers a next state that keeps the queue and the time bases. -/
theorem done_next (s t : State) : done s t = .next { t with pending := s.pending, time := s.time } := rfl

theorem done_iff (s t u : State) : done s t = .next u ↔ u = { t with pending := s.pending, time := s.time } := by
  simp [done, eq_comm]

theorem doneT_iff (s t u : State) : doneT s t = .next u ↔ u = { t with pending := s.pending } := by
  simp [doneT, eq_comm]

@[simp] theorem State.work_run (f : State → State) (h : s.inSafe = false) (h' : s.live = true) : s.work f = f s := by
  simp [State.work, h, h']

theorem State.work_safe (f : State → State) (h : s.inSafe = true) : s.work f = s := by simp [State.work, h]

theorem State.work_dead (f : State → State) (h : s.live = false) : s.work f = s := by simp [State.work, h]

@[simp] theorem State.serve_run (f : State → State) (h : s.live = true) : s.serve f = f s := by simp [State.serve, h]

theorem State.serve_dead (f : State → State) (h : s.live = false) : s.serve f = s := by simp [State.serve, h]

@[simp] theorem State.powered_run (f : State → State) (h : s.brm.off = false) : s.powered f = f s := by
  simp [State.powered, h]

/-! ## Records, captures and the safe state change registers, dictionary numbers and Cuff's state only -/

/-- The state with registers, dictionary numbers and Cuff's state blanked. -/
def State.blank (s : State) : State := { s with regs := [], dict := [], cuff := Cuff.reset }

@[simp] theorem State.blank_setReg (a : Nat) (w : Word) : (s.setReg a w).blank = s.blank := (rfl)
@[simp] theorem State.blank_setRegN (a v : Nat) : (s.setRegN a v).blank = s.blank := (rfl)
@[simp] theorem State.blank_setFld (a lo w v : Nat) : (s.setFld a lo w v).blank = s.blank := (rfl)
@[simp] theorem State.blank_orReg (a m : Nat) : (s.orReg a m).blank = s.blank := (rfl)
@[simp] theorem State.blank_add (a n : Nat) : (s.add a n).blank = s.blank := (rfl)
@[simp] theorem State.blank_bump (a : Nat) : (s.bump a).blank = s.blank := (rfl)
@[simp] theorem State.blank_setDictN (i sub v : Nat) : (s.setDictN i sub v).blank = s.blank := (rfl)
@[simp] theorem State.blank_dictAddSat (i sub n w : Nat) : (s.dictAddSat i sub n w).blank = s.blank := (rfl)
@[simp] theorem State.blank_cuff (c : Cuff) : { s with cuff := c }.blank = s.blank := (rfl)
@[simp] theorem State.blank_setSelfTest (u : Nat) (t : SelfTest) : (s.setSelfTest u t).blank = s.blank := (rfl)

theorem State.blank_ite {c : Prop} [Decidable c] {b : State} {t u : State} (ht : t.blank = b) (hu : u.blank = b) :
    (if c then t else u).blank = b := by
  split
  · exact ht
  · exact hu

theorem State.blank_each {α : Type} (xs : List α) (f : State → α → State) (hf : ∀ t x, (f t x).blank = t.blank) :
    (each xs f s).blank = s.blank :=
  each_inv (fun t => t.blank = s.blank) xs f s rfl (fun t x _ ht => (hf t x).trans ht)

theorem State.blank_iter (n : Nat) (f : State → Nat → State) (hf : ∀ t i, (f t i).blank = t.blank) :
    (iter n f s).blank = s.blank := State.blank_each s _ f hf

@[simp] theorem State.blank_snapBlock (k : Nat) : (s.snapBlock k).blank = s.blank := by
  unfold State.snapBlock
  extract_lets cs s1 s2
  have h1 : s1.blank = s.blank := State.blank_iter s cs.length _ (fun t i => by simp)
  simp [s2, h1]

@[simp] theorem State.blank_traceTrigger (e : Nat) : (s.traceTrigger e).blank = s.blank :=
  State.blank_ite rfl (by simp)

@[simp] theorem State.blank_stopPairs (mask : Nat) : (s.stopPairs mask).blank = s.blank := by
  refine State.blank_iter s 2 _ (fun t p => State.blank_ite ?_ rfl)
  exact State.blank_ite (by simp [State.blank]) (by simp [State.blank])

@[simp] theorem State.blank_safeState : s.safeState.blank = s.blank := by simp [State.safeState]

@[simp] theorem State.blank_captureNow (src time seq : Nat) : (s.captureNow src time seq).blank = s.blank := by
  unfold State.captureNow
  extract_lets s1 s2 armed s3
  have h1 : s1.blank = s.blank := State.blank_each s allBlocks _ (fun t k => State.blank_ite (by simp) rfl)
  have h2 : s2.blank = s1.blank := State.blank_iter s1 4 _ (fun t e => State.blank_ite (by simp) rfl)
  simp [s3, h2, h1]

@[simp] theorem State.blank_faultEngine (u : Nat) : (s.faultEngine u).blank = s.blank :=
  State.blank_ite rfl (State.blank_iter s 64 _ (fun t l => State.blank_ite (by simp) rfl))

@[simp] theorem State.blank_startTest (u : Nat) : (s.startTest u).blank = s.blank :=
  State.blank_ite rfl (by simp)

@[simp] theorem State.blank_enqueue (r : ErrRec) : (s.enqueue r).1.blank = s.blank := by
  unfold State.enqueue
  dsimp only
  split
  · split
    · simp [State.blank]
    · split <;> simp [State.blank]
  · simp [State.blank]

/-- A record sender that changes registers, dictionary numbers and Cuff's state only. -/
def sendsRegsOnly (send : State → ErrRec → State) : Prop := ∀ t r, (send t r).blank = t.blank

theorem State.blank_capTrigger {send : State → ErrRec → State} (hs : sendsRegsOnly send) (src time seq sev : Nat) :
    (s.capTrigger send src time seq sev).blank = s.blank := by
  unfold State.capTrigger
  split
  · rw [hs]
    exact State.blank_ite (by simp) (by simp)
  · simp

theorem State.blank_quarantineWith {send : State → ErrRec → State} (hs : sendsRegsOnly send) (u d : Nat) :
    (s.quarantineWith send u d).blank = s.blank := by
  unfold State.quarantineWith
  split
  · rfl
  · rw [hs]
    simp [State.abandonTest]

theorem State.blank_applyAction {send : State → ErrRec → State} (hs : sendsRegsOnly send) (r : ErrRec) :
    (s.applyAction send r).blank = s.blank := by
  unfold State.applyAction
  extract_lets a safeBit testBit enter s1 s2 s3 s4
  have h1 : s1.blank = s.blank := State.blank_ite rfl (by simp)
  have h2 : s2.blank = s.blank := State.blank_ite (by simp [h1]) h1
  have h3 : s3.blank = s.blank :=
    State.blank_ite ((State.blank_capTrigger s2 hs _ _ _ _).trans h2)
      (State.blank_ite ((State.blank_capTrigger s2 hs _ _ _ _).trans h2) h2)
  have h4 : s4.blank = s.blank := State.blank_ite (by simp [h3]) h3
  exact State.blank_ite ((State.blank_quarantineWith s4 hs _ _).trans h4) h4

/-- An error record, with everything it causes, changes registers, dictionary numbers and Cuff's state only. -/
theorem State.blank_recordN (n : Nat) (r : ErrRec) : (State.recordN n s r).blank = s.blank := by
  induction n generalizing s r with
  | zero => rfl
  | succ n ih =>
    have hs : sendsRegsOnly (State.recordN n) := fun t r => ih t r
    rcases he : State.enqueue { s with cuff := { s.cuff with seq := s.cuff.seq + 1 } }
      { r with seq := s.cuff.seq % 2 ^ 32 } with ⟨t, how⟩
    have h1 : t.blank = s.blank := by
      have h := State.blank_enqueue { s with cuff := { s.cuff with seq := s.cuff.seq + 1 } }
        { r with seq := s.cuff.seq % 2 ^ 32 }
      rw [he] at h
      exact h
    have h2 : ∀ u : State, u.blank = s.blank → (if r.sev = 3 ∧ ¬ u.inSafe then
        u.safeState.capTrigger (State.recordN n) 5 u.now (s.cuff.seq % 2 ^ 32) 3 else u).blank = s.blank :=
      fun u hu => State.blank_ite ((State.blank_capTrigger _ hs _ _ _ _).trans (by simp [hu])) hu
    simp only [State.recordN, he]
    cases how with
    | stored => exact h2 _ h1
    | merged => exact h2 _ ((State.blank_applyAction t hs _).trans h1)
    | lost =>
      have h3 := (State.blank_applyAction t hs { r with seq := s.cuff.seq % 2 ^ 32 }).trans h1
      exact h2 _ (State.blank_ite ((ih _ _).trans h3) h3)

@[simp] theorem State.blank_record (sev cls status block : Nat) (ctx : Option Nat) (unit detail : Nat) :
    (s.record sev cls status block ctx unit detail).blank = s.blank := by
  unfold State.record
  split
  · exact State.blank_ite (by simp) (State.blank_recordN _ _ _)
  · exact State.blank_recordN _ _ _

@[simp] theorem State.blank_send (r : ErrRec) : (s.send r).blank = s.blank := State.blank_recordN s 4 r

@[simp] theorem State.blank_capture (src time : Nat) : (s.capture src time).blank = s.blank :=
  State.blank_capTrigger s (fun t r => t.blank_recordN 4 r) _ _ _ _

@[simp] theorem State.blank_quarantine (u d : Nat) : (s.quarantine u d).blank = s.blank :=
  State.blank_quarantineWith s (fun t r => t.blank_recordN 4 r) _ _

/-! What equality up to those parts gives. -/

theorem State.blank_umem {s t : State} (h : t.blank = s.blank) : t.umem = s.umem := congrArg (·.umem) h
theorem State.blank_gbuf {s t : State} (h : t.blank = s.blank) : t.gbuf = s.gbuf := congrArg (·.gbuf) h
theorem State.blank_time {s t : State} (h : t.blank = s.blank) : t.time = s.time := congrArg (·.time) h
theorem State.blank_pending {s t : State} (h : t.blank = s.blank) : t.pending = s.pending := congrArg (·.pending) h
theorem State.blank_umr {s t : State} (h : t.blank = s.blank) : t.umr = s.umr := congrArg (·.umr) h
theorem State.blank_que {s t : State} (h : t.blank = s.blank) : t.que = s.que := congrArg (·.que) h
theorem State.blank_octets {s t : State} (h : t.blank = s.blank) : t.octets = s.octets := congrArg (·.octets) h
theorem State.blank_boot {s t : State} (h : t.blank = s.blank) : t.boot = s.boot := congrArg (·.boot) h

end Sys2Proof.Machine
end

