-- ==== Sys2Proof/Laws/Units.lean ====
section
/-! SUPPORT. Laws of what the units share: the engines' gate, requests in flight, Gauntlets, the dispatch of a part's next
command and the start of a tile. -/

namespace Sys2Proof.Machine

variable (s : State)

theorem State.running_iff : s.running = true ↔ s.inSafe = false ∧ s.live = true := by simp [State.running]

/-- While the engines run, an engine event has its effect. -/
theorem State.work_running {s : State} {f : State → State} (h : s.running = true) : s.work f = f s :=
  s.work_run f (s.running_iff.1 h).1 (s.running_iff.1 h).2

/-! ## Requests and Gauntlets -/

@[simp] theorem State.req_setReg (a : Nat) (w : Word) (r : Nat) : (s.setReg a w).req r = s.req r := (rfl)
@[simp] theorem State.req_setRegN (a v r : Nat) : (s.setRegN a v).req r = s.req r := (rfl)
@[simp] theorem State.req_setFld (a lo w v r : Nat) : (s.setFld a lo w v).req r = s.req r := (rfl)
@[simp] theorem State.req_orReg (a m r : Nat) : (s.orReg a m).req r = s.req r := (rfl)
@[simp] theorem State.req_bump (a r : Nat) : (s.bump a).req r = s.req r := (rfl)
@[simp] theorem State.req_showGnt (g r : Nat) : (s.showGnt g).req r = s.req r := (rfl)
@[simp] theorem State.req_setGnt (g : Nat) (x : Gnt) (r : Nat) : (s.setGnt g x).req r = s.req r := (rfl)
@[simp] theorem State.req_putReq (r : Nat) (q : Request) : (s.putReq r q).req r = some q := OMap.find_put_same _ _ _

theorem State.req_putReq_other {r r' : Nat} (q : Request) (h : r' ≠ r) : (s.putReq r q).req r' = s.req r' :=
  OMap.find_put_other _ _ h

@[simp] theorem State.gntOf_setReg (a : Nat) (w : Word) (g : Nat) : (s.setReg a w).gntOf g = s.gntOf g := (rfl)
@[simp] theorem State.gntOf_setRegN (a v g : Nat) : (s.setRegN a v).gntOf g = s.gntOf g := (rfl)
@[simp] theorem State.gntOf_setFld (a lo w v g : Nat) : (s.setFld a lo w v).gntOf g = s.gntOf g := (rfl)
@[simp] theorem State.gntOf_showGnt (k g : Nat) : (s.showGnt k).gntOf g = s.gntOf g := (rfl)
@[simp] theorem State.gntOf_putReq (r : Nat) (q : Request) (g : Nat) : (s.putReq r q).gntOf g = s.gntOf g := (rfl)
@[simp] theorem State.gntOf_setGnt (g : Nat) (x : Gnt) : (s.setGnt g x).gntOf g = x := SMap.get_set_same _ _ _ _

theorem State.gntOf_setGnt_other {g g' : Nat} (x : Gnt) (h : g' ≠ g) : (s.setGnt g x).gntOf g' = s.gntOf g' :=
  SMap.get_set_other _ _ _ h

@[simp] theorem State.umem_showGnt (g : Nat) : (s.showGnt g).umem = s.umem := (rfl)
@[simp] theorem State.umem_setGnt (g : Nat) (x : Gnt) : (s.setGnt g x).umem = s.umem := (rfl)
@[simp] theorem State.umem_putReq (r : Nat) (q : Request) : (s.putReq r q).umem = s.umem := (rfl)
@[simp] theorem State.gbuf_showGnt (g : Nat) : (s.showGnt g).gbuf = s.gbuf := (rfl)
@[simp] theorem State.gbuf_setGnt (g : Nat) (x : Gnt) : (s.setGnt g x).gbuf = s.gbuf := (rfl)
@[simp] theorem State.gbuf_putReq (r : Nat) (q : Request) : (s.putReq r q).gbuf = s.gbuf := (rfl)

/-! ## Dispatch of a part's next command -/

/-- A part that may dispatch is a part of a request in flight, bound to the Gauntlet named, that has not ended. -/
theorem State.readyPart_part {s : State} {r p g : Nat} {b : Bool} {q : Request} {x : Part}
    (h : s.readyPart r p b = some (q, x, g)) :
    s.req r = some q ∧ q.parts[p]? = some x ∧ x.unit = some g ∧ x.status = none := by
  unfold State.readyPart at h
  split at h
  · cases h
  split at h
  · cases h
  split at h
  · cases h
  dsimp only at h
  split at h
  · cases h
  split at h
  · next h1 _ _ h2 _ _ h3 _ h4 =>
    simp only [Option.some.injEq, Prod.mk.injEq] at h
    obtain ⟨rfl, rfl, rfl⟩ := h
    exact ⟨h1, h2, h3, h4.2.2.2.1⟩
  · cases h

/-- A part that is bound stays where it is. -/
theorem State.placePart_bound {s : State} {r p g : Nat} {b : Bool} {q : Request} {x : Part}
    (h : s.readyPart r p b = some (q, x, g)) : s.placePart r p = s := by
  obtain ⟨h1, hp, hu, _⟩ := State.readyPart_part h
  simp [State.placePart, h1, hp, hu]

/-- The dispatch of a bound part's next command is the command's own dispatch step, once the command has been read. -/
theorem State.dispatchTile_ready {s t : State} {r p op g g0 n : Nat} {q q0 : Request} {x x0 : Part}
    {f : State → Request → Part → Nat → State} (h0 : s.readyPart r p false = some (q0, x0, g0))
    (ht : (s.selfTest (0x10 + g0)).running = false) (hq : s.quarantined (0x10 + g0) = false) (hl : s.readList r p = t)
    (h : t.readyPart r p false = some (q, x, g)) (ho : t.peekN x.addr 1 = op) (hop : cmdSize 1 op = some n) :
    s.dispatchTile r p op f = f t q x g := by
  obtain ⟨h1, hp, hu, _⟩ := State.readyPart_part h0
  have e1 : s.placePart r p = s := State.placePart_bound h0
  have e2 : s.partTesting r p = false := by simp [State.partTesting, h1, hp, hu, ht]
  have e3 : s.partQuarantined r p = false := by simp [State.partQuarantined, h1, hp, hu, hq]
  simp [State.dispatchTile, State.nextCommand, e1, e2, e3, hl, h, ho, hop]

/-- The next command of a part follows. -/
theorem State.advancePart_eq (r p n : Nat) {q : Request} {x : Part} (h : s.req r = some q) (hx : q.parts[p]? = some x) :
    s.advancePart r p n = s.putReq r (q.setPart p { x with next := x.next + 1, addr := x.addr + n }) := by
  simp [State.advancePart, h, hx]

/-- Everything that the start of a tile does. -/
theorem State.startTile_eq (g : Nat) (q : Request) (x : Part) (t : Tile) (hx : q.parts[t.part]? = some x) :
    s.startTile g q x t = ((((((s.putReq t.req (q.setPart t.part { x with tile := true })).setGnt g
      { s.gntOf g with tile := some t }).putReq t.req ((q.setPart t.part { x with tile := true }).setPart t.part
      { x with tile := true, next := x.next + 1, addr := x.addr + 128 })).showGnt g).setFld (Reg.GNT_STATE g) 8 8
      q.ctx).setRegN (Reg.GNT_TILE_EST g) (t.est + t.cost * 2 ^ 32)) := by
  have hl : t.part < q.parts.length := (List.getElem?_eq_some_iff.1 hx).1
  have h1 : ((s.putReq t.req (q.setPart t.part { x with tile := true })).setGnt g
      { s.gntOf g with tile := some t }).req t.req = some (q.setPart t.part { x with tile := true }) := by simp
  unfold State.startTile
  dsimp only
  rw [State.advancePart_eq _ _ _ _ h1 (x := { x with tile := true }) (by simp [Request.setPart, hl])]

end Sys2Proof.Machine
end

