-- ==== Sys2Proof/Laws/Frames.lean ====
section
/-! SUPPORT. Frames of the shared operations: accesses to the unified range, completion records and the end of a request
change registers with their shadows, dictionary numbers, Cuff's state, the unified range, the scheduler and the number of
free values, and leave every other unit's state alone. -/

namespace Sys2Proof.Machine

variable (s : State)

/-- The state of the units other than the unified range, the scheduler and Cuff; the KV managers' queue and the notes of a
crop-and-resize call are not in it. -/
def State.units (s : State) : State :=
  { s with regs := [], shadow := [], refused := [], dict := [], cuff := Cuff.reset, umem := [], umr := Umr.reset, que := Que.reset,
           attWait := [], crop := none, gusNotes := [], fresh := 0 }

theorem State.units_of_blank {s t : State} (h : t.blank = s.blank) : t.units = s.units := by
  have e : ∀ u : State, u.units = u.blank.units := fun _ => (rfl)
  rw [e t, e s, h]

@[simp] theorem State.units_setReg (a : Nat) (w : Word) : (s.setReg a w).units = s.units := (rfl)
@[simp] theorem State.units_setRegN (a v : Nat) : (s.setRegN a v).units = s.units := (rfl)
@[simp] theorem State.units_setFld (a lo w v : Nat) : (s.setFld a lo w v).units = s.units := (rfl)
@[simp] theorem State.units_orReg (a m : Nat) : (s.orReg a m).units = s.units := (rfl)
@[simp] theorem State.units_add (a n : Nat) : (s.add a n).units = s.units := (rfl)
@[simp] theorem State.units_bump (a : Nat) : (s.bump a).units = s.units := (rfl)
@[simp] theorem State.units_setDictN (i sub v : Nat) : (s.setDictN i sub v).units = s.units := (rfl)
@[simp] theorem State.units_dictAddSat (i sub n w : Nat) : (s.dictAddSat i sub n w).units = s.units := (rfl)
@[simp] theorem State.units_freshN (n : Nat) : (s.freshN n).units = s.units := (rfl)
@[simp] theorem State.units_umr (u : Umr) : State.units { s with umr := u } = s.units := (rfl)
@[simp] theorem State.units_que (q : Que) : State.units { s with que := q } = s.units := (rfl)
@[simp] theorem State.units_cuff (c : Cuff) : State.units { s with cuff := c } = s.units := (rfl)
@[simp] theorem State.units_umem (m : Memory) : State.units { s with umem := m } = s.units := (rfl)
@[simp] theorem State.units_shadow (m : OMap Word) : State.units { s with shadow := m } = s.units := (rfl)
@[simp] theorem State.units_setPage (n : Nat) (p : Page) : (s.setPage n p).units = s.units := (rfl)
@[simp] theorem State.units_putReq (r : Nat) (q : Request) : (s.putReq r q).units = s.units := (rfl)
@[simp] theorem State.units_abandonWb (n b : Nat) : (s.abandonWb n b).units = s.units := (rfl)
@[simp] theorem State.units_poke (a : Nat) (bs : Bytes) : (s.poke a bs).units = s.units := (rfl)
@[simp] theorem State.units_put (a : Nat) (bs : Bytes) : (s.put a bs).units = s.units := (rfl)
@[simp] theorem State.units_setFlash (f : Flash) : (s.setFlash f).units = s.units := (rfl)
@[simp] theorem State.units_flashRead (n : Nat) (b : Bool) : (s.flashRead n b).units = s.units := (rfl)
@[simp] theorem State.units_attUnqueue (r : Nat) : (s.attUnqueue r).units = s.units := (rfl)
@[simp] theorem State.units_havoc (a n : Nat) : (s.havoc a n).units = s.units := (rfl)
@[simp] theorem State.units_untranslate (n : Nat) : (s.untranslate n).units = s.units := (rfl)
@[simp] theorem State.units_abandon (n : Nat) : (s.abandon n).units = s.units := (rfl)
@[simp] theorem State.units_dropReqWaits (r : Nat) : (s.dropReqWaits r).units = s.units := (rfl)
@[simp] theorem State.units_writeUpper (n b : Nat) (p : Page) (a : Nat) (bs : Bytes) :
    (s.writeUpper n b p a bs).units = s.units := by simp [State.writeUpper]
@[simp] theorem State.units_record (sev cls status block : Nat) (ctx : Option Nat) (u d : Nat) :
    (s.record sev cls status block ctx u d).units = s.units := State.units_of_blank (s.blank_record ..)

theorem State.units_ite {c : Prop} [Decidable c] {b t u : State} (ht : t.units = b) (hu : u.units = b) :
    (if c then t else u).units = b := by
  split
  · exact ht
  · exact hu

theorem State.units_each {α : Type} (xs : List α) (f : State → α → State) (hf : ∀ t x, (f t x).units = t.units) :
    (each xs f s).units = s.units :=
  each_inv (fun t => t.units = s.units) xs f s rfl (fun t x _ ht => (hf t x).trans ht)

theorem State.units_iter (n : Nat) (f : State → Nat → State) (hf : ∀ t i, (f t i).units = t.units) :
    (iter n f s).units = s.units := State.units_each s _ f hf

@[simp] theorem State.units_applyShadow (a : Nat) : (s.applyShadow a).units = s.units := by
  unfold State.applyShadow
  split
  · rfl
  · rw [State.units_shadow, State.units_setReg]

@[simp] theorem State.units_noteFault (c cause addr : Nat) : (s.noteFault c cause addr).units = s.units :=
  State.units_ite rfl (by simp)

@[simp] theorem State.units_translate (k n : Nat) : (s.translate k n).units = s.units := by
  unfold State.translate
  dsimp only
  rw [State.units_umr]
  exact State.units_ite rfl (by simp)

@[simp] theorem State.units_setFree (code v : Nat) : (s.setFree code v).units = s.units := by
  unfold State.setFree
  repeat' refine State.units_ite ?_ ?_
  all_goals simp

@[simp] theorem State.units_giveFrame (code : Nat) : (s.giveFrame code).units = s.units :=
  State.units_ite rfl (State.units_ite (by simp) rfl)

@[simp] theorem State.units_takeFrame (code : Nat) : (s.takeFrame code).units = s.units := s.units_setFree _ _

@[simp] theorem State.units_wear (t : Nat) : (s.wear t).units = s.units := by simp [State.wear]

@[simp] theorem State.units_commitHome (n b : Nat) : (s.commitHome n b).units = s.units := by simp [State.commitHome]

@[simp] theorem State.units_nextMove (flash : Bool) : (s.nextMove flash).units = s.units := by
  unfold State.nextMove
  refine State.units_ite rfl ?_
  dsimp only
  split
  · rfl
  · rfl
  · rfl
  · exact State.units_ite rfl rfl

@[simp] theorem State.units_startMoves : s.startMoves.units = s.units := s.units_iter 4 _ (fun t _ => by simp)

@[simp] theorem State.units_startWb (n b : Nat) (k : WbKind) (r : Option Nat) :
    (s.startWb n b k r).units = s.units := State.units_ite rfl (by dsimp only; rw [State.units_startMoves, State.units_umr])

@[simp] theorem State.units_dropUpper (n : Nat) (p : Page) : (s.dropUpper n p).units = s.units := by
  simp [State.dropUpper]

@[simp] theorem State.units_freeOne (code : Nat) (rt : Bool) : (s.freeOne code rt).1.units = s.units := by
  unfold State.freeOne
  split
  · simp
  · split
    · rfl
    · split
      · simp
      · exact State.units_each s _ _ (fun t b => t.units_startWb _ _ _ _)

@[simp] theorem State.units_grantUpper (n code : Nat) (rt : Bool) : (s.grantUpper n code rt).1.units = s.units := by
  unfold State.grantUpper
  split
  · rfl
  · have h := s.units_freeOne code rt
    split <;> next e => rw [e] at h; simpa using h

@[simp] theorem State.units_startFetchFor (n b prio : Nat) (r l : Option Nat) (pool : Nat) :
    (s.startFetchFor n b prio r l pool).units = s.units := by
  unfold State.startFetchFor
  split
  · rfl
  · exact State.units_ite (by simp) (by simp)

@[simp] theorem State.units_startFetch (n b : Nat) (rt : Bool) (r : Option Nat) : (s.startFetch n b rt r).units = s.units := by
  unfold State.startFetch
  split <;> simp

@[simp] theorem State.units_homeRead (n b : Nat) (p : Page) : (s.homeRead n b p).units = s.units :=
  State.units_ite (by simp) rfl

@[simp] theorem State.units_meetFetch (n : Nat) (p : Page) (rt : Bool) (pool : Nat) :
    (s.meetFetch n p rt pool).1.units = s.units := by
  unfold State.meetFetch
  split
  · have h := s.units_grantUpper n pool true
    split <;> next e => rw [e] at h; simpa using h
  · simp

@[simp] theorem State.units_touchRead (n b : Nat) (rt : Bool) (r : Option Nat) :
    (s.touchRead n b rt r).1.units = s.units := by
  unfold State.touchRead
  split
  · rfl
  · next p0 _ =>
    dsimp only
    have hg (x : Nat) := (s.setPage n { p0 with age := s.ageNow }).units_grantUpper n x rt
    simp only [State.units_setPage] at hg
    split
    · simp
    split
    · simp
    split
    · simp
    split
    · simp
    split
    · split
      · split <;> next e => simpa using (congrArg (fun z : State × FrameGrant => z.1.units) e).symm.trans (hg _)
      · simp
    · simp

@[simp] theorem State.units_prepWrite (n b : Nat) (whole rt : Bool) (r : Option Nat) :
    (s.prepWrite n b whole rt r).1.units = s.units := by
  unfold State.prepWrite
  split
  · rfl
  · next p0 _ =>
    dsimp only
    have hg (x : Nat) := (s.setPage n { p0 with age := s.ageNow }).units_grantUpper n x rt
    simp only [State.units_setPage] at hg
    split
    · rfl
    split
    · simp
    split
    · simp
    split
    · simp
    split
    · split
      · split <;> next e =>
        have h := (congrArg (fun z : State × FrameGrant => z.1.units) e).symm.trans (hg _)
        split <;> simpa using h
      · split <;> simp
    · split <;> simp

@[simp] theorem State.units_writeHome (n b : Nat) (p : Page) (a : Nat) (bs : Bytes) :
    (s.writeHome n b p a bs).1.units = s.units := by
  unfold State.writeHome
  split
  · split <;> simp
  · simp

@[simp] theorem State.units_writeBehind (n b a : Nat) (bs : Bytes) (rt : Bool) (r : Option Nat) :
    (s.writeBehind n b a bs rt r).1.units = s.units := by
  unfold State.writeBehind
  dsimp only
  split <;> simp

@[simp] theorem State.units_writeFlash (n b : Nat) (p0 p : Page) (a : Nat) (bs : Bytes) (skip rt : Bool) (r : Option Nat) :
    (s.writeFlash n b p0 p a bs skip rt r).1.units = s.units := by
  rcases hg : (if p.upper = 0 then (s.setPage n p).grantUpper n (s.demandPool p) rt else (s.setPage n p, FrameGrant.granted)) with ⟨s1, g⟩
  have h1 : s1.units = s.units := by
    rw [show s1 = _ from (congrArg Prod.fst hg).symm]
    split <;> simp
  unfold State.writeFlash
  dsimp only
  rw [hg]
  dsimp only
  split
  · exact h1
  · split
    · split <;> simp [h1]
    · split <;> simp [h1]
    · simp [h1]

@[simp] theorem State.units_touchWrite (a : Nat) (bs : Bytes) (rt : Bool) (r : Option Nat) :
    (s.touchWrite a bs rt r).1.units = s.units := by
  unfold State.touchWrite
  dsimp only
  split
  · rfl
  · split
    · rfl
    split
    · simp
    split
    · split <;> simp
    split
    · simp
    · simp

theorem units_foldl {α β : Type} (f : State × β → α → State × β) (hf : ∀ a x, (f a x).1.units = a.1.units) (xs : List α)
    (a : State × β) : (xs.foldl f a).1.units = a.1.units := by
  induction xs generalizing a with
  | nil => rfl
  | cons x xs ih => exact (ih (f a x)).trans (hf a x)

theorem State.units_access (c k a n : Nat) (w : Bool) (f : State → Nat × Nat → State × Touch)
    (hf : ∀ t x, (f t x).1.units = t.units) : (s.access c k a n w f).1.units = s.units := by
  unfold State.access
  split
  · simp
  · refine (units_foldl (β := AccessResult) _ (fun acc x => hf acc.1 x) _ _).trans ?_
    exact State.units_each s _ _ (fun t pg => t.units_translate k pg)

@[simp] theorem State.units_accessRead (c k a n : Nat) (r : Option Nat) : (s.accessRead c k a n r).1.units = s.units :=
  s.units_access _ _ _ _ _ _ (fun t x => by simp)

@[simp] theorem State.units_accessPrep (c k a n : Nat) (r : Option Nat) : (s.accessPrep c k a n r).1.units = s.units :=
  s.units_access _ _ _ _ _ _ (fun t x => by simp)

@[simp] theorem State.units_accessWrite (c k a : Nat) (bs : Bytes) (r : Option Nat) :
    (s.accessWrite c k a bs r).1.units = s.units := s.units_access _ _ _ _ _ _ (fun t x => by simp)

@[simp] theorem State.units_devWrite (a : Nat) (bs : Bytes) (rt : Bool) : (s.devWrite a bs rt).units = s.units :=
  State.units_ite rfl (State.units_each s (pieces a bs.length) (fun t pc =>
    (t.touchWrite pc.1 ((bs.drop (pc.1 - a)).take pc.2) rt none).1) (fun t pc => by simp))

@[simp] theorem State.units_havocOut (c a n : Nat) : (s.havocOut c a n).units = s.units :=
  State.units_each s _ _ (fun t x => State.units_ite rfl (by simp))

@[simp] theorem State.units_hold (a n : Nat) (up : Bool) : (s.hold a n up).units = s.units := by
  refine State.units_each s _ _ (fun t pg => ?_)
  split <;> simp

@[simp] theorem State.units_pushEvent (c ring i : Nat) : (s.pushEvent c ring i).units = s.units := by
  unfold State.pushEvent
  dsimp only
  split
  · rw [State.units_setFld, State.units_que]
  · rfl

@[simp] theorem State.units_countInflight (c : Nat) : (s.countInflight c).units = s.units := by
  unfold State.countInflight
  dsimp only
  split <;> simp only [State.units_setFld]

@[simp] theorem State.units_validResult (k n : Nat) : (s.validResult k n).units = s.units :=
  State.units_each s _ _ (fun t e => State.units_ite (by simp) rfl)

@[simp] theorem State.units_checkSeen (n : Nat) (us : List Nat) : (s.checkSeen n us).units = s.units :=
  State.units_each s _ _ (fun t e => by simp)

@[simp] theorem State.units_syncSet (n v : Nat) (us : List Nat) : (s.syncSet n v us).units = s.units :=
  State.units_ite (by simp) (by simp)

@[simp] theorem State.units_syncAdd (n v : Nat) (us : List Nat) : (s.syncAdd n v us).units = s.units :=
  State.units_ite (by simp) rfl

@[simp] theorem State.units_signal (e : SyncEntry) (us : List Nat) : (s.signal e us).units = s.units := by
  unfold State.signal
  dsimp only
  split <;> simp

@[simp] theorem State.units_applySignals (q : Request) (st : Nat) (r : Bool) : (s.applySignals q st r).units = s.units :=
  State.units_ite (State.units_each s _ _ (fun t e => t.units_signal _ _)) (State.units_each s _ _ (fun t e => by simp))

@[simp] theorem State.units_dropStreams (r st : Nat) : (s.dropStreams r st).units = s.units := by
  unfold State.dropStreams
  refine (State.units_each _ _ _ (fun t e => ?_)).trans (s.units_umr _)
  split
  · rfl
  · refine State.units_ite rfl (State.units_ite (by simp) ?_)
    exact State.units_ite (by simp) (by simp)

@[simp] theorem State.units_stalled (p t : Nat) : (s.stalled p t).units = s.units := by
  unfold State.stalled
  rw [State.units_add]

@[simp] theorem State.units_writeRecord (q : Request) (bs : Bytes) : (s.writeRecord q bs).units = s.units := by
  unfold State.writeRecord
  dsimp only
  split
  · rw [State.units_devWrite]
    exact State.units_each s _ _ (fun t pg => t.units_translate 5 pg)
  · rw [State.units_que, State.units_noteFault]

@[simp] theorem State.units_resume : s.resume.units = s.units := by
  unfold State.resume
  dsimp only
  rw [State.units_setFld, State.units_que]

@[simp] theorem State.units_dropReq (r : Nat) : (s.dropReq r).units = s.units := by
  unfold State.dropReq
  rw [State.units_attUnqueue, State.units_dropReqWaits, State.units_que]

/-- The end of a request: record, counters, event and signals. -/
@[simp] theorem State.units_finishReq (r : Nat) (q : Request) (st d ok : Nat) (res : Bool) :
    (s.finishReq r q st d ok res).units = s.units := by
  unfold State.finishReq
  extract_lets p s2 s3 s4 s5 s6 s7
  have h2 : s2.units = s.units := by simp only [s2, State.units_dropReq, State.units_freshN, State.units_writeRecord]
  have h3 : s3.units = s.units := by
    simp only [s3, State.units_countInflight, State.units_resume]
    rw [State.units_each _ _ _ (fun t e => t.units_stalled _ _), h2]
  have h4 : s4.units = s.units := State.units_ite h3 (by simp only [State.units_add, h3])
  have h5 : s5.units = s.units := State.units_ite (by simp only [State.units_bump, h4]) h4
  have h6 : s6.units = s.units := State.units_ite (by simp only [State.units_pushEvent, h5]) h5
  simp only [s7, State.units_bump, State.units_applySignals, State.units_dropStreams, h6]

/-! ## Requests in flight -/

@[simp] theorem State.reqs_record (sev cls status block : Nat) (ctx : Option Nat) (u d : Nat) :
    (s.record sev cls status block ctx u d).que = s.que := State.blank_que (s.blank_record ..)

theorem State.que_ite {c : Prop} [Decidable c] {b : Que} {t u : State} (ht : t.que = b) (hu : u.que = b) :
    (if c then t else u).que = b := by
  split
  · exact ht
  · exact hu

theorem State.que_each {α : Type} (xs : List α) (f : State → α → State) (hf : ∀ t x, (f t x).que = t.que) :
    (each xs f s).que = s.que :=
  each_inv (fun t => t.que = s.que) xs f s rfl (fun t x _ ht => (hf t x).trans ht)

@[simp] theorem State.que_umr (u : Umr) : State.que { s with umr := u } = s.que := (rfl)
@[simp] theorem State.que_setPage (n : Nat) (p : Page) : (s.setPage n p).que = s.que := (rfl)

@[simp] theorem State.que_nextMove (flash : Bool) : (s.nextMove flash).que = s.que := by
  unfold State.nextMove
  refine State.que_ite rfl ?_
  dsimp only
  split
  · rfl
  · rfl
  · rfl
  · exact State.que_ite rfl rfl

@[simp] theorem State.que_startMoves : s.startMoves.que = s.que :=
  s.que_each _ _ (fun t _ => by simp)

@[simp] theorem State.que_startWb (n b : Nat) (k : WbKind) (r : Option Nat) : (s.startWb n b k r).que = s.que :=
  State.que_ite rfl (by dsimp only; rw [State.que_startMoves, State.que_umr])

@[simp] theorem State.que_setFree (code v : Nat) : (s.setFree code v).que = s.que := by
  unfold State.setFree
  repeat' refine State.que_ite ?_ ?_
  all_goals simp

@[simp] theorem State.que_giveFrame (code : Nat) : (s.giveFrame code).que = s.que :=
  State.que_ite rfl (State.que_ite (by simp) rfl)

@[simp] theorem State.que_dropUpper (n : Nat) (p : Page) : (s.dropUpper n p).que = s.que := by simp [State.dropUpper]

@[simp] theorem State.que_validResult (k n : Nat) : (s.validResult k n).que = s.que :=
  State.que_each s _ _ (fun t e => State.que_ite (by simp) rfl)

@[simp] theorem State.que_checkSeen (n : Nat) (us : List Nat) : (s.checkSeen n us).que = s.que :=
  State.que_each s _ _ (fun t e => by simp)

@[simp] theorem State.que_syncSet (n v : Nat) (us : List Nat) : (s.syncSet n v us).que = s.que :=
  State.que_ite (by simp) (by simp)

@[simp] theorem State.que_syncAdd (n v : Nat) (us : List Nat) : (s.syncAdd n v us).que = s.que :=
  State.que_ite (by simp) rfl

@[simp] theorem State.que_signal (e : SyncEntry) (us : List Nat) : (s.signal e us).que = s.que := by
  unfold State.signal
  dsimp only
  split <;> simp

@[simp] theorem State.que_abandon (n : Nat) : (s.abandon n).que = s.que := (rfl)

@[simp] theorem State.que_applySignals (q : Request) (st : Nat) (r : Bool) : (s.applySignals q st r).que = s.que :=
  State.que_ite (State.que_each s _ _ (fun t e => t.que_signal _ _)) (State.que_each s _ _ (fun t e => by simp))

@[simp] theorem State.que_dropStreams (r st : Nat) : (s.dropStreams r st).que = s.que := by
  unfold State.dropStreams
  refine (State.que_each _ _ _ (fun t e => ?_)).trans (s.que_umr _)
  split
  · rfl
  · refine State.que_ite rfl (State.que_ite (by simp) ?_)
    exact State.que_ite (by simp) (by simp)

@[simp] theorem State.que_countInflight (c : Nat) : (s.countInflight c).que = s.que := by
  unfold State.countInflight
  dsimp only
  split <;> simp only [State.setFld_que]

theorem State.reqs_resume : s.resume.que.reqs = s.que.reqs := by
  unfold State.resume
  dsimp only
  rw [State.setFld_que]

/-- A request that has ended is no longer in flight; no other request comes or goes. -/
theorem State.req_finishReq (r r' : Nat) (q : Request) (st d ok : Nat) (res : Bool) :
    (s.finishReq r q st d ok res).req r' =
      if r' = r then none else (s.writeRecord q (s.recordFor q st d ok)).req r' := by
  unfold State.finishReq
  extract_lets p s2 s3 s4 s5 s6 s7
  have h2 : s2.que.reqs = (s.writeRecord q (s.recordFor q st d ok)).que.reqs.drop r := rfl
  have h3 : s3.que.reqs = s2.que.reqs := by
    simp only [s3, State.que_countInflight, State.reqs_resume]
    exact congrArg Que.reqs (State.que_each _ _ _ (fun t e => State.add_que _ _ _))
  have h4 : s4.que = s3.que := State.que_ite rfl (by simp only [State.add_que])
  have h5 : s5.que = s4.que := State.que_ite (by simp only [State.bump_que]) rfl
  have h6 : s6.que.reqs = s5.que.reqs := by
    simp only [s6]
    split
    · unfold State.pushEvent
      dsimp only
      split <;> rfl
    · rfl
  show (s7.bump Reg.QUE_CNT_COMPLETE).que.reqs.find r' = _
  rw [State.bump_que, show s7.que = s6.que by simp only [s7, State.que_applySignals, State.que_dropStreams], h6, h5, h4, h3, h2]
  unfold OMap.find OMap.drop
  rw [SMap.get_set]
  rfl

theorem State.que_ofBlank {s t : State} (h : t.blank = s.blank) : t.que = s.que := State.blank_que h

@[simp] theorem State.que_freeOne (code : Nat) (rt : Bool) : (s.freeOne code rt).1.que = s.que := by
  unfold State.freeOne
  split
  · simp [State.takeFrame]
  · split
    · rfl
    · split
      · simp
      · exact State.que_each s _ _ (fun t b => t.que_startWb _ _ _ _)

@[simp] theorem State.que_grantUpper (n code : Nat) (rt : Bool) : (s.grantUpper n code rt).1.que = s.que := by
  unfold State.grantUpper
  split
  · rfl
  · have h := s.que_freeOne code rt
    split <;> next e => rw [e] at h; simpa using h

@[simp] theorem State.que_startFetch (n b : Nat) (rt : Bool) (r : Option Nat) : (s.startFetch n b rt r).que = s.que := by
  unfold State.startFetch State.startFetchFor
  split
  · rfl
  · split
    · rfl
    · exact State.que_ite (by simp) (by simp)

@[simp] theorem State.que_setFlash (f : Flash) : (s.setFlash f).que = s.que := (rfl)
@[simp] theorem State.que_abandonWb (n b : Nat) : (s.abandonWb n b).que = s.que := (rfl)
@[simp] theorem State.que_put (a : Nat) (bs : Bytes) : (s.put a bs).que = s.que := (rfl)

@[simp] theorem State.que_writeUpper (n b : Nat) (p : Page) (a : Nat) (bs : Bytes) : (s.writeUpper n b p a bs).que = s.que := by
  unfold State.writeUpper
  rw [State.que_put, State.que_abandonWb, State.que_setPage]

@[simp] theorem State.que_commitHome (n b : Nat) : (s.commitHome n b).que = s.que := by
  simp [State.commitHome, State.wear]

@[simp] theorem State.que_writeHome (n b : Nat) (p : Page) (a : Nat) (bs : Bytes) : (s.writeHome n b p a bs).1.que = s.que := by
  unfold State.writeHome
  split
  · split <;> simp
  · simp

@[simp] theorem State.que_writeBehind (n b a : Nat) (bs : Bytes) (rt : Bool) (r : Option Nat) :
    (s.writeBehind n b a bs rt r).1.que = s.que := by
  unfold State.writeBehind
  dsimp only
  split <;> simp

@[simp] theorem State.que_writeFlash (n b : Nat) (p0 p : Page) (a : Nat) (bs : Bytes) (skip rt : Bool) (r : Option Nat) :
    (s.writeFlash n b p0 p a bs skip rt r).1.que = s.que := by
  rcases hg : (if p.upper = 0 then (s.setPage n p).grantUpper n (s.demandPool p) rt else (s.setPage n p, FrameGrant.granted)) with ⟨s1, g⟩
  have h1 : s1.que = s.que := by
    rw [show s1 = _ from (congrArg Prod.fst hg).symm]
    split <;> simp
  unfold State.writeFlash
  dsimp only
  rw [hg]
  dsimp only
  split
  · exact h1
  · split
    · split <;> simp [h1]
    · split <;> simp [h1]
    · simp [h1]

@[simp] theorem State.que_touchWrite (a : Nat) (bs : Bytes) (rt : Bool) (r : Option Nat) :
    (s.touchWrite a bs rt r).1.que = s.que := by
  unfold State.touchWrite
  dsimp only
  split
  · rfl
  · split
    · rfl
    split
    · simp
    split
    · split <;> simp
    split
    · simp
    · simp

@[simp] theorem State.que_devWrite (a : Nat) (bs : Bytes) (rt : Bool) : (s.devWrite a bs rt).que = s.que :=
  State.que_ite rfl (State.que_each s (pieces a bs.length) (fun t pc =>
    (t.touchWrite pc.1 ((bs.drop (pc.1 - a)).take pc.2) rt none).1) (fun t pc => by simp))

@[simp] theorem State.que_translate (k n : Nat) : (s.translate k n).que = s.que := by
  unfold State.translate
  dsimp only
  rw [State.que_umr]
  exact State.que_ite rfl (by simp)

@[simp] theorem State.que_noteFault (c cause addr : Nat) : (s.noteFault c cause addr).que = s.que :=
  State.que_ite rfl (by simp)

/-- A record changes no request in flight; one that cannot be written marks its context. -/
theorem State.reqs_writeRecord (q : Request) (bs : Bytes) : (s.writeRecord q bs).que.reqs = s.que.reqs := by
  unfold State.writeRecord
  dsimp only
  split
  · rw [State.que_devWrite, State.que_each _ _ _ (fun t pg => t.que_translate 5 pg)]
  · rw [State.que_noteFault]

theorem State.req_finishReq_same (r : Nat) (q : Request) (st d ok : Nat) (res : Bool) :
    (s.finishReq r q st d ok res).req r = none := by simp [State.req_finishReq]

theorem State.req_finishReq_other {r r' : Nat} (q : Request) (st d ok : Nat) (res : Bool) (h : r' ≠ r) :
    (s.finishReq r q st d ok res).req r' = s.req r' := by
  rw [State.req_finishReq, if_neg h]
  exact congrArg (OMap.find · r') (s.reqs_writeRecord _ _)

/-- Output regions are unified-range bytes of one-command requests. -/
theorem State.que_havocOut (c a n : Nat) : (s.havocOut c a n).que = s.que :=
  State.que_each s _ _ (fun _ _ => State.que_ite rfl rfl)

/-! What equality of the units' state gives. -/

theorem units_field {α : Type} (f : State → α) (hf : ∀ u : State, f u = f u.units) {s t : State} (h : t.units = s.units) :
    f t = f s := by rw [hf t, hf s, h]

theorem State.units_kvr {s t : State} (h : t.units = s.units) : t.kvr = s.kvr := units_field (·.kvr) (fun _ => rfl) h
theorem State.units_kvrUsed {s t : State} (h : t.units = s.units) : t.kvrUsed = s.kvrUsed :=
  units_field (·.kvrUsed) (fun _ => rfl) h
theorem State.units_gnt {s t : State} (h : t.units = s.units) : t.gnt = s.gnt := units_field (·.gnt) (fun _ => rfl) h
theorem State.units_gbuf {s t : State} (h : t.units = s.units) : t.gbuf = s.gbuf := units_field (·.gbuf) (fun _ => rfl) h
theorem State.units_slots {s t : State} (h : t.units = s.units) : t.slots = s.slots := units_field (·.slots) (fun _ => rfl) h
theorem State.units_att {s t : State} (h : t.units = s.units) : t.att = s.att := units_field (·.att) (fun _ => rfl) h
theorem State.units_octets {s t : State} (h : t.units = s.units) : t.octets = s.octets :=
  units_field (·.octets) (fun _ => rfl) h
theorem State.units_gus {s t : State} (h : t.units = s.units) : t.gus = s.gus := units_field (·.gus) (fun _ => rfl) h
theorem State.units_pcu {s t : State} (h : t.units = s.units) : t.pcu = s.pcu := units_field (·.pcu) (fun _ => rfl) h
theorem State.units_knk {s t : State} (h : t.units = s.units) : t.knk = s.knk := units_field (·.knk) (fun _ => rfl) h
theorem State.units_vis {s t : State} (h : t.units = s.units) : t.vis = s.vis := units_field (·.vis) (fun _ => rfl) h
theorem State.units_atu {s t : State} (h : t.units = s.units) : t.atu = s.atu := units_field (·.atu) (fun _ => rfl) h
theorem State.units_fingers {s t : State} (h : t.units = s.units) : t.fingers = s.fingers :=
  units_field (·.fingers) (fun _ => rfl) h
theorem State.units_launches {s t : State} (h : t.units = s.units) : t.launches = s.launches :=
  units_field (·.launches) (fun _ => rfl) h

end Sys2Proof.Machine
end

