-- ==== Sys2Proof/Laws/Safe.lean ====
section
/-! SUPPORT. What an error record may do: no register of the configuration area and of Brim changes, the safe state, once entered,
stays, no pair is released and no quarantine ends; a fatal record always enters the safe state. -/

namespace Sys2Proof.Machine

/-- A register that no record changes: of the configuration area but its holding area, of Brim, of Cuff but for what it shows of
records, captures and stops, and of the blocks up to the queues. -/
def quietAddr (a : Nat) : Prop :=
  a < 0x40000 ∨ 0xC0000 ≤ a ∧ a < 0x200000 ∨ 0x200010 ≤ a ∧ a < 0x200020 ∨ 0x200028 ≤ a ∧ a < 0x200040 ∨
  0x200050 ≤ a ∧ a < 0x200060 ∨ 0x200080 ≤ a ∧ a < 0x200200 ∨ 0x200280 ≤ a ∧ a < 0x200300 ∨ 0x200320 ≤ a ∧ a < 0x8000000

/-- A register whose bits a record may set and never clears: the SAFE_STOP pairs and the quarantined units. -/
def stickyAddr (a : Nat) : Prop := a = 0x200020 ∨ 0x200060 ≤ a ∧ a < 0x200080

/-- A register that a record may change otherwise; CUF_STATE, at 0x200000, is none. -/
def recAddr (a : Nat) : Prop :=
  0x40000 ≤ a ∧ a < 0xC0000 ∨ 0x200000 < a ∧ a < 0x200010 ∨ 0x200040 ≤ a ∧ a < 0x200050 ∨ 0x200200 ≤ a ∧ a < 0x200280 ∨
  0x200300 ≤ a ∧ a < 0x200320 ∨ 0x8000000 ≤ a

/-- What a record keeps of the island: all but the queues, the tests and the levels of the stop outputs. -/
def Cuff.fixed (c : Cuff) : Cuff :=
  { c with q0 := [], q1 := [], q2 := [], q3 := [], seq := 0, lost := 0, tests := [], cmdLevel := 0, openCh := 0 }

/-- From `s` to `t` no quiet register changes, the safe state is not left, no pair is released, no quarantine ends, and the rest of
CUF_STOP and of the island stays. -/
structure Quiets (s t : State) : Prop where
  low : ∀ a, quietAddr a → t.reg a = s.reg a
  safe : s.inSafe = true → t.inSafe = true
  sticky : ∀ a k, stickyAddr a → s.bit a k = true → t.bit a k = true
  levels : ∀ k, 2 ≤ k → t.bit Reg.CUF_STOP k = s.bit Reg.CUF_STOP k
  isle : t.cuff.fixed = s.cuff.fixed

variable {s t u : State}

theorem Quiets.refl (s : State) : Quiets s s := ⟨fun _ _ => rfl, id, fun _ _ _ h => h, fun _ _ => rfl, rfl⟩

theorem Quiets.trans (h : Quiets s t) (k : Quiets t u) : Quiets s u :=
  ⟨fun a ha => (k.low a ha).trans (h.low a ha), fun x => k.safe (h.safe x), fun a i ha x => k.sticky a i ha (h.sticky a i ha x),
   fun i hi => (k.levels i hi).trans (h.levels i hi), k.isle.trans h.isle⟩

theorem State.inSafe_ofReg (h : t.reg Reg.CUF_STATE = s.reg Reg.CUF_STATE) : t.inSafe = s.inSafe := by
  unfold State.inSafe State.fld State.regN; rw [h]

theorem State.bit_ofReg {a : Nat} (h : t.reg a = s.reg a) (k : Nat) : t.bit a k = s.bit a k := by
  unfold State.bit State.regN; rw [h]

theorem State.quiets_setReg (s : State) {a : Nat} (w : Word) (h : recAddr a) : Quiets s (s.setReg a w) := by
  have k : ∀ b, quietAddr b ∨ stickyAddr b ∨ b = 0x200000 → (s.setReg a w).reg b = s.reg b := fun b hb =>
    State.reg_setReg_other _ _ (fun e => by subst e; unfold recAddr at h; unfold quietAddr stickyAddr at hb; omega)
  exact ⟨fun b hb => k b (.inl hb), fun x => (State.inSafe_ofReg (k _ (.inr (.inr rfl)))).trans x,
    fun b i hb x => (State.bit_ofReg (k b (.inr (.inl hb))) i).trans x, fun i _ => State.bit_ofReg (k _ (.inr (.inl (.inl rfl)))) i, rfl⟩

theorem State.quiets_regs (h : t.regs = s.regs) (hc : t.cuff.fixed = s.cuff.fixed) : Quiets s t := by
  have k : ∀ a, t.reg a = s.reg a := fun a => by unfold State.reg; rw [h]
  exact ⟨fun a _ => k a, fun x => (State.inSafe_ofReg (k _)).trans x, fun a i _ x => (State.bit_ofReg (k a) i).trans x,
    fun i _ => State.bit_ofReg (k _) i, hc⟩

theorem State.quiets_setFld (s : State) {a : Nat} (lo w v : Nat) (h : recAddr a) : Quiets s (s.setFld a lo w v) :=
  State.quiets_setReg _ _ h

theorem State.quiets_orReg (s : State) {a : Nat} (m : Nat) (h : recAddr a) : Quiets s (s.orReg a m) := State.quiets_setReg _ _ h

theorem State.quiets_bump (s : State) {a : Nat} (h : recAddr a) : Quiets s (s.bump a) := State.quiets_setReg _ _ h

/-- Bits set in a sticky register; in CUF_STOP only those of the pairs. -/
theorem State.quiets_orSticky (s : State) {a : Nat} (m : Nat) (h : stickyAddr a) (hm : a = Reg.CUF_STOP → m < 4) :
    Quiets s (s.orReg a m) := by
  have k : ∀ b, b ≠ a → (s.orReg a m).reg b = s.reg b := fun b hb => State.reg_orReg_other _ _ hb
  have same : ∀ i, (s.orReg a m).bit a i = (s.bit a i || (decide (i < 64) && m.testBit i)) := by
    intro i
    unfold State.bit State.regN
    rw [State.reg_orReg_same, BitVec.toNat_or, Nat.testBit_or, BitVec.toNat_ofNat, Nat.testBit_mod_two_pow]
  have hs : 0x200000 ≠ a := by unfold stickyAddr at h; omega
  refine ⟨fun b hb => k b (fun e => by subst e; unfold stickyAddr at h; unfold quietAddr at hb; omega),
    fun x => (State.inSafe_ofReg (k _ hs)).trans x, fun b i _ x => ?_, fun i hi => ?_, rfl⟩
  · by_cases e : b = a
    · subst e; rw [same, x]; rfl
    · rw [State.bit_ofReg (k b e)]; exact x
  · by_cases e : Reg.CUF_STOP = a
    · subst e
      have : m.testBit i = false := Nat.testBit_lt_two_pow (Nat.lt_of_lt_of_le (hm rfl) (show 2 ^ 2 ≤ 2 ^ i from Nat.pow_le_pow_right (by decide) hi))
      rw [same, this]; simp
    · exact State.bit_ofReg (k _ e) i

theorem State.quiets_ite {c : Prop} [Decidable c] (ht : Quiets s t) (hu : Quiets s u) : Quiets s (if c then t else u) := by
  split
  · exact ht
  · exact hu

theorem State.quiets_each {α : Type} (s : State) (xs : List α) (f : State → α → State) (hf : ∀ t x, x ∈ xs → Quiets t (f t x)) :
    Quiets s (each xs f s) :=
  each_inv (fun t => Quiets s t) xs f s (Quiets.refl s) (fun t x hx ht => ht.trans (hf t x hx))

theorem State.quiets_iter (s : State) (n : Nat) (f : State → Nat → State) (hf : ∀ t i, i < n → Quiets t (f t i)) :
    Quiets s (iter n f s) := s.quiets_each _ f (fun t i hi => hf t i (List.mem_range.1 hi))

theorem State.quiets_snapBlock (s : State) {k : Nat} (hk : k < 0x75) : Quiets s (s.snapBlock k) := by
  have hc : (blockCounters k).length ≤ 510 := by unfold blockCounters; rw [List.length_take]; omega
  unfold State.snapBlock
  extract_lets cs s1 s2
  have h1 : Quiets s s1 := s.quiets_iter _ _ (fun t i hi => State.quiets_setReg t _ (by unfold recAddr Reg.HOLD; have : i < 510 := Nat.lt_of_lt_of_le hi hc; omega))
  have h2 : Quiets s1 s2 := State.quiets_setReg _ _ (by unfold recAddr Reg.HOLD_TIME; omega)
  exact h1.trans (h2.trans (State.quiets_setReg _ _ (by unfold recAddr Reg.HOLD_SEQ; omega)))

theorem State.quiets_traceTrigger (s : State) (e : Nat) : Quiets s (s.traceTrigger e) :=
  State.quiets_ite (Quiets.refl s) ((State.quiets_setFld (a := Reg.KNK_TRC_POS e) s _ _ _ (by unfold recAddr Reg.KNK_TRC_POS; omega)).trans
    (State.quiets_orReg (a := Reg.KNK_TRC_CTRL e) _ _ (by unfold recAddr Reg.KNK_TRC_CTRL; omega)))

theorem State.quiets_stopPairs (s : State) (mask : Nat) : Quiets s (s.stopPairs mask) := by
  refine s.quiets_iter 2 _ (fun t p hp => State.quiets_ite ?_ (Quiets.refl t))
  have k1 : Quiets t (t.orReg Reg.CUF_STOP (2 ^ p)) := State.quiets_orSticky t _ (.inl rfl) (fun _ => by
    have : p = 0 ∨ p = 1 := by omega
    rcases this with rfl | rfl <;> decide)
  have k2 : ∀ (v : State) (a b : Nat), Quiets v { v with cuff := { v.cuff with cmdLevel := a, openCh := b } } :=
    fun v a b => State.quiets_regs rfl rfl
  have k3 : ∀ (v : State) (i j n w : Nat), Quiets v (v.dictAddSat i j n w) := fun v i j n w => State.quiets_regs rfl rfl
  have k4 : ∀ (v : State), Quiets v (v.bump Reg.CUF_CNT_STOP) := fun v => State.quiets_bump v (by unfold recAddr; decide)
  exact State.quiets_ite (k1.trans (k2 _ _ _)) (((k1.trans (k2 _ _ _)).trans (k3 _ _ _ _ _)).trans (k4 _))

/-- R470: the safe state is entered. -/
theorem State.inSafe_safeState (s : State) : s.safeState.inSafe = true := by
  unfold State.inSafe State.safeState
  rw [State.fld_setFld_same _ _ _ _ _ (by decide)]
  rfl

theorem State.quiets_safeState (s : State) : Quiets s s.safeState := by
  have q := s.quiets_stopPairs 3
  have k : ∀ b, b ≠ 0x200000 → s.safeState.reg b = (s.stopPairs 3).reg b := fun b hb => State.reg_setFld_other _ _ _ _ hb
  exact ⟨fun a ha => (k a (by unfold quietAddr at ha; omega)).trans (q.low a ha), fun _ => s.inSafe_safeState,
    fun a i ha x => (State.bit_ofReg (k a (by unfold stickyAddr at ha; omega)) i).trans (q.sticky a i ha x),
    fun i hi => (State.bit_ofReg (k _ (by decide)) i).trans (q.levels i hi), q.isle⟩

theorem allBlocks_lt {k : Nat} (h : k ∈ allBlocks) : k < 0x75 := List.mem_range.1 (List.mem_filter.1 h).1

theorem State.quiets_captureNow (s : State) (src time seq : Nat) : Quiets s (s.captureNow src time seq) := by
  unfold State.captureNow
  extract_lets s1 s2 armed s3
  have h1 : Quiets s s1 := s.quiets_each _ _ (fun t k hk => State.quiets_ite (t.quiets_snapBlock (allBlocks_lt hk)) (Quiets.refl t))
  have h2 : Quiets s1 s2 := s1.quiets_iter 4 _ (fun t e _ => State.quiets_ite (t.quiets_traceTrigger e) (Quiets.refl t))
  have h3 : Quiets s2 s3 := State.quiets_setReg s2 _ (by unfold recAddr; decide)
  exact h1.trans (h2.trans (h3.trans ((State.quiets_setReg s3 _ (by unfold recAddr; decide)).trans
    (State.quiets_bump _ (by unfold recAddr; decide)))))

theorem State.quiets_faultEngine (s : State) (unit : Nat) : Quiets s (s.faultEngine unit) :=
  State.quiets_ite (Quiets.refl s) (s.quiets_iter 64 _ (fun t l _ => State.quiets_ite (State.quiets_setFld t _ _ _
    (by unfold recAddr Reg.KNK_LOOP_STATE; omega)) (Quiets.refl t)))

theorem State.quiets_startTest (s : State) (unit : Nat) : Quiets s (s.startTest unit) :=
  State.quiets_ite (Quiets.refl s) (State.quiets_regs rfl rfl)

theorem Cuff.fixed_setQueue (c : Cuff) (sev : Nat) (q : List ErrRec) : (c.setQueue sev q).fixed = c.fixed := by
  unfold Cuff.setQueue
  split
  · rfl
  · split
    · rfl
    · split <;> rfl

theorem State.quiets_enqueue (s : State) (r : ErrRec) (hr : r.sev ≤ 3) : Quiets s (s.enqueue r).1 := by
  have k1 : ∀ v : State, Quiets v ((v.dictAddSat 0x5140 r.cls 1 32).bump Reg.CUF_CNT_RECORDS) := fun v =>
    Quiets.trans (State.quiets_regs (t := v.dictAddSat 0x5140 r.cls 1 32) rfl rfl) (State.quiets_bump _ (by unfold recAddr; decide))
  have k2 : ∀ (v : State) (q : List ErrRec), Quiets v { v with cuff := v.cuff.setQueue r.sev q } :=
    fun v q => State.quiets_regs rfl (Cuff.fixed_setQueue _ _ _)
  have k5 : ∀ (v : State) (q : List ErrRec) (l : Nat), Quiets v { v with cuff := { v.cuff.setQueue r.sev q with lost := l } } :=
    fun v q l => State.quiets_regs rfl (Cuff.fixed_setQueue v.cuff r.sev q)
  have k6 : ∀ (v : State) (l : Nat), Quiets v { v with cuff := { v.cuff with lost := l } } := fun v l => State.quiets_regs rfl rfl
  have k3 : ∀ v : State, Quiets v (v.bump Reg.CUF_CNT_MERGED) := fun v => State.quiets_bump v (by unfold recAddr; decide)
  have k4 : ∀ v : State, Quiets v (((v.orReg (Reg.CUF_ERQ_STATE r.sev) 0x80).orReg Reg.CUF_FLAGS 1).bump Reg.CUF_CNT_LOST) := fun v =>
    ((State.quiets_orReg (a := Reg.CUF_ERQ_STATE r.sev) v _ (by unfold recAddr Reg.CUF_ERQ_STATE; omega)).trans
      (State.quiets_orReg _ _ (by unfold recAddr; decide))).trans (State.quiets_bump _ (by unfold recAddr; decide))
  unfold State.enqueue
  dsimp only
  split
  · split
    · exact ((k1 s).trans (k2 _ _)).trans (k3 _)
    · split
      · exact (k1 s).trans (k5 _ _ _)
      · exact ((k1 s).trans (k6 _ _)).trans (k4 _)
  · exact (k1 s).trans (k5 _ _ _)

/-- A record sender that keeps to that. -/
def sendsQuietly (send : State → ErrRec → State) : Prop := ∀ t r, r.sev ≤ 3 → Quiets t (send t r)

theorem State.quiets_capTrigger {send : State → ErrRec → State} (hs : sendsQuietly send) (s : State) (src time seq sev : Nat) :
    Quiets s (s.capTrigger send src time seq sev) := by
  unfold State.capTrigger
  split
  · refine Quiets.trans ?_ (hs _ _ (Nat.le_of_ble_eq_true rfl))
    exact State.quiets_ite ((s.quiets_captureNow _ _ _).trans (State.quiets_regs rfl (Cuff.fixed_setQueue _ _ _))) (s.quiets_captureNow _ _ _)
  · exact (State.quiets_orReg s _ (by unfold recAddr; decide)).trans (State.quiets_bump _ (by unfold recAddr; decide))

theorem State.quiets_quarantineWith {send : State → ErrRec → State} (hs : sendsQuietly send) (s : State) (u d : Nat) :
    Quiets s (s.quarantineWith send u d) := by
  have k2 : ∀ v : State, Quiets v (v.abandonTest u) := fun v => State.quiets_regs rfl rfl
  unfold State.quarantineWith
  split
  · exact Quiets.refl s
  · next h =>
    have hu : u ≤ 255 := by omega
    have k1 := State.quiets_orSticky s (a := Reg.CUF_QUAR (u / 64)) (2 ^ (u % 64)) (.inr (by unfold Reg.CUF_QUAR; omega))
      (fun e => by unfold Reg.CUF_QUAR Reg.CUF_STOP at e; omega)
    exact (((k1.trans (State.quiets_faultEngine _ u)).trans (k2 _)).trans
      (State.quiets_bump _ (by unfold recAddr; decide))).trans (hs _ _ (Nat.le_of_ble_eq_true rfl))

/-- A unit of CUF_QUAR is quarantined once that has been asked for. -/
theorem State.quarantined_quarantineWith {send : State → ErrRec → State} (hs : sendsQuietly send) (s : State) {u : Nat} (d : Nat)
    (hu : u ≤ 255) : (s.quarantineWith send u d).quarantined u = true := by
  have k2 : ∀ v : State, Quiets v (v.abandonTest u) := fun v => State.quiets_regs rfl rfl
  have ha : stickyAddr (Reg.CUF_QUAR (u / 64)) := .inr (by unfold Reg.CUF_QUAR; omega)
  unfold State.quarantineWith
  split
  · next h => exact h.resolve_left (by omega)
  · have k3 : ∀ v : State, Quiets v (v.bump Reg.CUF_CNT_QUAR) := fun v => State.quiets_bump v (by unfold recAddr; decide)
    refine (((State.quiets_faultEngine _ u).trans (k2 _)).trans ((k3 _).trans (hs _ _ (Nat.le_of_ble_eq_true rfl)))).sticky _ _ ha ?_
    rw [State.bit_orReg_same _ _ _ _ (by omega)]
    simp

theorem State.quiets_applyAction {send : State → ErrRec → State} (hs : sendsQuietly send) (s : State) (r : ErrRec) :
    Quiets s (s.applyAction send r) := by
  unfold State.applyAction
  extract_lets a safeBit testBit enter s1 s2 s3 s4
  have h1 : Quiets s s1 := State.quiets_ite (Quiets.refl s) (s.quiets_stopPairs _)
  have h2 : Quiets s s2 := State.quiets_ite (h1.trans s1.quiets_safeState) h1
  have h3 : Quiets s s3 := State.quiets_ite (h2.trans (s2.quiets_capTrigger hs _ _ _ _))
    (State.quiets_ite (h2.trans (s2.quiets_capTrigger hs _ _ _ _)) h2)
  have h4 : Quiets s s4 := State.quiets_ite (h3.trans (s3.quiets_startTest _)) h3
  exact State.quiets_ite (h4.trans (s4.quiets_quarantineWith hs _ _)) h4

/-- An error record, with everything it causes, changes no quiet register and does not leave the safe state; a
fatal one is in it afterwards. -/
theorem State.quiets_recordN (n : Nat) (s : State) (r : ErrRec) (hr : r.sev ≤ 3) :
    Quiets s (State.recordN n s r) ∧ (0 < n → r.sev = 3 → (State.recordN n s r).inSafe = true) := by
  induction n generalizing s r with
  | zero => exact ⟨(Quiets.refl s), fun h => absurd h (Nat.lt_irrefl 0)⟩
  | succ n ih =>
    have hs : sendsQuietly (State.recordN n) := fun t r hr => (ih t r hr).1
    rcases he : State.enqueue { s with cuff := { s.cuff with seq := s.cuff.seq + 1 } }
      { r with seq := s.cuff.seq % 2 ^ 32 } with ⟨t, how⟩
    have h1 : Quiets s t := by
      have h := State.quiets_enqueue { s with cuff := { s.cuff with seq := s.cuff.seq + 1 } }
        { r with seq := s.cuff.seq % 2 ^ 32 } hr
      rw [he] at h
      have h0 : Quiets s { s with cuff := { s.cuff with seq := s.cuff.seq + 1 } } := State.quiets_regs rfl rfl
      exact h0.trans h
    have h2 : ∀ u : State, Quiets s u → Quiets s (if r.sev = 3 ∧ ¬ u.inSafe then
        u.safeState.capTrigger (State.recordN n) 5 u.now (s.cuff.seq % 2 ^ 32) 3 else u) ∧
        (0 < n + 1 → r.sev = 3 → (if r.sev = 3 ∧ ¬ u.inSafe then
        u.safeState.capTrigger (State.recordN n) 5 u.now (s.cuff.seq % 2 ^ 32) 3 else u).inSafe = true) := by
      intro u hu
      refine ⟨State.quiets_ite (hu.trans (u.quiets_safeState.trans (State.quiets_capTrigger hs _ _ _ _ _))) hu,
        fun _ h3 => ?_⟩
      by_cases hi : u.inSafe = true
      · rw [if_neg (fun c => c.2 hi)]; exact hi
      · rw [if_pos ⟨h3, hi⟩]
        exact (State.quiets_capTrigger hs _ _ _ _ _).safe u.inSafe_safeState
    simp only [State.recordN, he]
    cases how with
    | stored => exact h2 _ h1
    | merged => exact h2 _ (h1.trans (t.quiets_applyAction hs _))
    | lost =>
      have h3 := h1.trans (t.quiets_applyAction hs { r with seq := s.cuff.seq % 2 ^ 32 })
      exact h2 _ (State.quiets_ite (h3.trans (ih _ _ (Nat.le_of_ble_eq_true rfl)).1) h3)

theorem State.quiets_record (s : State) (sev cls status block : Nat) (ctx : Option Nat) (unit detail : Nat) (h : sev ≤ 3) :
    Quiets s (s.record sev cls status block ctx unit detail) := by
  unfold State.record
  split
  · exact State.quiets_ite (State.quiets_setFld s _ _ _ (by unfold recAddr Reg.QUE_CTX_STATE; omega)) (State.quiets_recordN _ _ _ h).1
  · exact (State.quiets_recordN _ _ _ h).1

/-- R474: a fatal record of no context takes the package to the safe state. -/
theorem State.inSafe_fatal (s : State) (cls status block unit detail : Nat) :
    (s.record 3 cls status block none unit detail).inSafe = true :=
  (State.quiets_recordN 4 s _ (Nat.le_of_ble_eq_true rfl)).2 (by decide) rfl

theorem State.quiets_capture (s : State) (src time : Nat) : Quiets s (s.capture src time) :=
  State.quiets_capTrigger (fun t r hr => (State.quiets_recordN 4 t r hr).1) _ _ _ _ _

theorem State.quiets_quarantine (s : State) (u d : Nat) : Quiets s (s.quarantine u d) :=
  State.quiets_quarantineWith (fun t r hr => (State.quiets_recordN 4 t r hr).1) _ _ _

/-- R480: a unit of CUF_QUAR is quarantined. -/
theorem State.quarantined_quarantine (s : State) {u : Nat} (d : Nat) (hu : u ≤ 255) : (s.quarantine u d).quarantined u = true :=
  State.quarantined_quarantineWith (fun t r hr => (State.quiets_recordN 4 t r hr).1) s d hu

end Sys2Proof.Machine
end

