-- ==== Sys2Proof/Tests/Slice0.lean ====
section
/-! SUPPORT. The model's own tests: for every hypothesis of a statement a state and operands that meet it, an ill-formed term
for every check of WellFormed, and single steps on small states. -/

-- A test after another: the tests that wait for the kernel would otherwise each hold a thread of their own.
set_option Elab.async false

namespace Sys2Proof.Tests

open Sys2Proof Sys2Proof.Machine

/-- The reset state with some registers set. -/
def withRegs (rs : List (Nat × Nat)) (s : State := State.reset) : State := rs.foldl (fun t e => t.setRegN e.1 e.2) s

/-- A record of `n` bytes with little-endian fields (offset, bytes, value). -/
def recOf (n : Nat) (fs : List (Nat × Nat × Nat)) : Bytes :=
  fs.foldl (fun b f => setFieldLE b f.1 f.2.1 f.2.2) (List.replicate n 0)

/-- The state with bytes in the unified range. -/
def withMem (a : Nat) (bs : Bytes) (s : State) : State := { s with umem := Memory.write s.umem a bs }

/-- A part that is bound to a Gauntlet and has not started. -/
def part0 : Part :=
  { first := 0, stop := 1, next := 0, addr := 0x100000000000, unit := some 2, stages := [], tile := false, status := none,
    detail := 0 }

/-- A dispatched request of a KIND with one part, whose commands start at the first address of the unified range. -/
def reqOf (kind : Nat) : Request :=
  { ring := 0, index := 0, ctx := 3, kind := kind, flags := 0, oppt := 0xFF, affinity := 0, tag := 0, cmdCount := 1,
    cmdAddr := 0x100000000000, deadline := 0, soloEst := 0, user := 0, waits := [], sigs := [], nParts := 0,
    parts := [part0], phase := .running, startNs := 0, started := true, preempts := 0, palms := 0, regulated := false,
    migrate := false, fallback := false, stalls := [], preemptFor := none, units := [], ending := none, schedOp := 0, schedTag := 0,
    tails := [], covers := [], outs := [] }

/-- The state with request 5. -/
def withReq (q : Request) (s : State := State.reset) : State := s.putReq 5 q

/-- An idle Gauntlet bound to part 0 of request 5. -/
def gnt0 : Gnt := { Gnt.idle with owner := some (5, 0) }

/-- A tile of part 0 of request 5. -/
def tile0 (d : Bytes) : Tile :=
  { req := 5, part := 0, idx := 0, addr := 0x100000000000, desc := d, curve := [], gate := [], regions := [], cost := 9,
    est := 20 }

/-- A mapped page of the unified range, homed in LPDDR5X, readable and writable by partition 0. -/
def page0 : Page :=
  { st := 1, hint := 0, home := 1, homeStack := 0, upper := 0, part := 0, ro := false, share := false, stack := 0,
    resident := 0, dirty := 0, poison := 0, inflight := 0, zero := 0, age := 0, holds := 0, moveTo := 0,
    dest := 0, copied := 0 }

/-- The state with the first page of the unified range mapped. -/
def withPage (s : State := State.reset) : State := { s with umr := { s.umr with pages := [(0, some page0)] } }

theorem pair_of_snd {α β : Type} {a : α × β} {b : β} (h : a.2 = b) : a = (a.1, b) := by rw [← h]

/-! ### StepRunsTheFrontCommand -/

theorem wit_step : ∃ (s : State) (c : Instr), s.pending = [c] ∧ ∃ t, step s = .next t ∧ t.pending = [] :=
  ⟨{ State.reset with pending := [.cadSwitch] }, .cadSwitch, rfl, _, rfl, rfl⟩

/-! ### IdleStepTicksTheTimeBases -/

theorem wit_idle : State.reset.pending = [] := rfl

/-! ### TimeBasesKeepTheirLimits -/

theorem wit_time_limits : State.reset.time.ok ∧ ∃ t, step State.reset = .next t ∧ (t.time.get 0).val = 2 ^ 34 := by
  refine ⟨?_, _, rfl, rfl⟩
  unfold TimeBases.ok TimeBase.ok; decide

/-! ### SafeStateEndsOnlyByReset -/

theorem wit_safe_stays : (withRegs [(Reg.CUF_STATE, 3)]).inSafe = true ∧
    ∃ t, exec .cadSwitch (withRegs [(Reg.CUF_STATE, 3)]) = .next t ∧ t.inSafe = true := by
  refine ⟨by decide +kernel, _, rfl, ?_⟩
  decide +kernel

/-! ### IncrWritesClamp -/

theorem wit_incr : State.reset.writes (.registerWrite software (Reg.TB_INCR (3 : Fin 4)) 8 0x7FFFFFFFF#64) software
    (Reg.TB_INCR (3 : Fin 4)) 0x7FFFFFFFF :=
  ⟨by decide +kernel, by decide +kernel, by decide +kernel, .inl ⟨_, rfl, rfl, by decide +kernel⟩⟩

/-! ### StoredBytesReadBack -/

theorem wit_store : Memory.wf State.reset.umem = true := rfl

/-! ### TilesStartAtDispatch -/

/-- The machine when the `n` bytes at the first command of request 5, of context 3, have been read. -/
def cmdRead (s : State) (n : Nat) : State := (s.accessRead 3 5 0x100000000000 n (some 5)).1

/-- A state whose Gauntlet 2 may dispatch the command of part 0 of request 5, with the descriptor given. -/
def tileState (d : Bytes) : State :=
  withRegs [(Reg.QUE_BUF_SPLIT, 63), (Reg.GNT_TILE_LIMIT 2, 50000)]
    (withMem 0x100000000000 d (withPage ((withReq (reqOf 1)).setGnt 2 gnt0)))

/-- The machine at the dispatch of such a tile. -/
def tileTime (d : Bytes) : State := (cmdRead (tileState d) 128).tileBoundary 2

theorem cmdAt_cmdRead {s : State} {op n : Nat} {b : Bool} {q : Request} (hn : (cmdSize 1 op).getD 32 = n) (hc : q.ctx = 3)
    (h : s.running = true ∧ s.readyPart 5 0 b = some (q, part0, 2) ∧ s.peekN 0x100000000000 1 = op ∧
      (s.accessRead 3 5 0x100000000000 n (some 5)).2 = ⟨0, [], false⟩ ∧
      (cmdRead s n).readyPart 5 0 b = some (q, part0, 2) ∧ (cmdRead s n).peekN 0x100000000000 1 = op) :
    s.cmdAt (cmdRead s n) 5 0 op b q part0 2 := by
  refine ⟨h.1, h.2.1, h.2.2.1, ?_, h.2.2.2.2⟩
  unfold State.readMade
  rw [hn, hc]
  exact pair_of_snd h.2.2.2.1

theorem tileAt_tileTime {d : Bytes} {op : Nat} (hn : (cmdSize 1 op).getD 32 = 128)
    (h : (tileState d).running = true ∧ (tileState d).readyPart 5 0 false = some (reqOf 1, part0, 2) ∧
      (tileState d).peekN 0x100000000000 1 = op ∧
      ((tileState d).accessRead 3 5 0x100000000000 128 (some 5)).2 = ⟨0, [], false⟩ ∧
      (cmdRead (tileState d) 128).readyPart 5 0 false = some (reqOf 1, part0, 2) ∧
      (cmdRead (tileState d) 128).peekN 0x100000000000 1 = op)
    (h1 : ((tileState d).selfTest 0x12).running = false ∧ (tileState d).quarantined 0x12 = false) :
    (tileState d).tileAt (tileTime d) 5 0 op (reqOf 1) part0 2 ((tileTime d).peek 0x100000000000 128) :=
  ⟨h1.1, h1.2, cmdRead (tileState d) 128, cmdAt_cmdRead hn rfl h, rfl, rfl⟩

def matrixDesc : Bytes :=
  recOf 128 [(0, 1, 0x10), (4, 2, 1), (6, 2, 1), (0x10, 4, 40000), (0x2C, 4, 0x1000), (0x30, 4, 64), (0x74, 4, 1)]

theorem wit_matrix_tile : ∃ (s v : State) (r p g : Nat) (q : Request) (x : Part) (d : Bytes), s.tileAt v r p 0x10 q x g d ∧
    v.matrixMask g q.ctx d = 0 ∧ (v.guardSlots g (writeParts (matrixRegions d).1) none).2 = true :=
  ⟨tileState matrixDesc, tileTime matrixDesc, 5, 0, 2, reqOf 1, part0, (tileTime matrixDesc).peek 0x100000000000 128,
    tileAt_tileTime (by decide +kernel) (by decide +kernel) (by decide +kernel), by decide +kernel⟩

def convDesc (op : Nat) : Bytes :=
  recOf 128 [(0, 1, op), (1, 2, 0x101 - 0x100 * (op / 0x34)), (5, 2, 0x101), (0x0B, 1, 1), (0x46, 1, 1), (0x10, 4, 40000),
    (0x1C, 4, 64), (0x24, 4, 128 * (1 - op / 0x34)), (0x20, 4, 0x2000 * (1 - op / 0x34)), (0x2C, 4, 0x1000), (0x30, 4, 64),
    (0x34, 4, 32 - 31 * (op / 0x34)), (0x5C, 2, 1), (0x5E, 2, 1), (0x60, 2, 1), (0x62, 2, 1), (0x68, 2, 1), (0x6A, 2, 1),
    (0x78, 4, 32 - 31 * (op / 0x34))]

/-- What TilesStartAtDispatch asks of a window tile. -/
def windowReady (op : Nat) : Prop :=
  ∃ (s v : State) (r p g : Nat) (q : Request) (x : Part) (d : Bytes), s.tileAt v r p op q x g d ∧
    v.winMask g q.ctx d = 0 ∧ (v.guardSlots g (writeParts (winRegions d).1) none).2 = true

theorem wit_convolution_tile : windowReady 0x30 :=
  ⟨tileState (convDesc 0x30), tileTime (convDesc 0x30), 5, 0, 2, reqOf 1, part0, (tileTime (convDesc 0x30)).peek 0x100000000000 128,
    tileAt_tileTime (by decide +kernel) (by decide +kernel) (by decide +kernel), by decide +kernel⟩

theorem wit_pooling_tile : windowReady 0x34 :=
  ⟨tileState (convDesc 0x34), tileTime (convDesc 0x34), 5, 0, 2, reqOf 1, part0, (tileTime (convDesc 0x34)).peek 0x100000000000 128,
    tileAt_tileTime (by decide +kernel) (by decide +kernel) (by decide +kernel), by decide +kernel⟩

/-- A scan tile with ZERO_STATE, whose slot's home is at the start of the second tile block, with a valid header. -/
def scanDesc : Bytes :=
  recOf 128 [(0, 1, 0x40), (8, 2, 1), (0x0A, 2, 1), (0x0C, 2, 0x400), (0x10, 4, 40000), (0x1C, 4, 64), (0x28, 4, 0x1000),
    (0x2C, 4, 0x2000), (0x30, 4, 64), (0x34, 4, 0x3000), (0x58, 8, 0x100000010000), (0x68, 4, 1)]

def scanState : State := withMem 0x100000010000 (recOf 64 [(0, 1, 1), (4, 2, 4)]) (tileState scanDesc)

def scanTime : State := (cmdRead scanState 128).tileBoundary 2

def scanGuarded : State × Bool :=
  scanTime.guardSlots 2 (writeParts (scanRegions scanDesc (scanTime.scanHeader 2 scanDesc)).1) (some ((scanOf scanDesc).slot, 0x3000))

theorem wit_scan_tile : ∃ (s v w : State) (r p g : Nat) (q : Request) (x : Part) (d : Bytes), s.tileAt v r p 0x40 q x g d ∧
    v.scanMask g q.ctx q.tag d (v.scanHeader g d) = 0 ∧
    v.guardSlots g (writeParts (scanRegions d (v.scanHeader g d)).1) (some ((scanOf d).slot, fieldLE d 0x34 4)) = (w, true) ∧
    (w.scanGrant q g r p d).2 = true :=
  ⟨scanState, scanTime, scanGuarded.1, 5, 0, 2, reqOf 1, part0, scanDesc,
    ⟨by decide +kernel, by decide +kernel, cmdRead scanState 128, cmdAt_cmdRead (by decide +kernel) rfl (by decide +kernel), rfl,
      by decide +kernel⟩,
    by decide +kernel, pair_of_snd (by decide +kernel), by decide +kernel⟩

/-! ### TilesAndSlotsEnd -/

def slot0 : Slot :=
  { g := 2, off := 0, ctx := 3, phase := 2, chunk := none, base := 0, chunkLen := 0, stag := 0, steps := 0, target := some (5, 0),
    tg := 2, toff := 0x4000 }

theorem wit_tile_running : ∃ (s : State) (g : Fin 16) (tl : Tile), s.running = true ∧ (s.gntOf g).tile = some tl :=
  ⟨(tileState matrixDesc).setGnt 2 { gnt0 with tile := some (tile0 matrixDesc) }, 2, tile0 matrixDesc, by decide +kernel⟩

theorem wit_slot_swap_out : ∃ (s : State) (a : Nat) (y : Slot), s.running = true ∧ s.slotAt a = some y ∧ y.phase = 2 :=
  ⟨{ State.reset with slots := [(64, some slot0)] }, 64, slot0, by decide +kernel⟩

/-- The home copy of a slot, with its check. -/
def slotHome : Bytes := setFieldLE (recOf 64 [(0, 1, 1)]) 0x30 4 (slotCheck (recOf 64 [(0, 1, 1)]) [])

theorem wit_slot_restore : ∃ (s : State) (a r p : Nat) (y : Slot), s.running = true ∧ s.slotAt a = some y ∧ y.phase = 3 ∧
    y.target = some (r, p) ∧ s.fetching a (64 + slotStateBytes (s.peek a 64)) = false ∧ s.restoreCause a .read = none ∧
    (s.guardSlots y.tg [(y.toff, slotCopyBytes (s.peek a 64))] none).2 = true :=
  ⟨withMem 0x100000000000 slotHome (withPage { State.reset with slots := [(0x100000000000, some { slot0 with phase := 3 })] }),
    0x100000000000, 5, 0, { slot0 with phase := 3 }, by decide +kernel⟩

/-! ### AttentionCallsProgress -/

def attDesc : Bytes :=
  recOf 128 [(0, 1, 0x20), (1, 1, 1), (2, 1, 1), (4, 2, 64), (6, 1, 1), (7, 1, 1), (8, 2, 1), (0x0B, 1, 0x10),
    (0x18, 8, 0x100000001000), (0x20, 8, 0x100000002000), (0x28, 8, 0x100000003000), (0x30, 8, 0x100000004000),
    (0x38, 8, 0x100000005000), (0x50, 4, 128), (0x54, 4, 128), (0x58, 4, 256), (0x5C, 4, 5000), (0x64, 4, 1)]

def attState (waits : List Nat) : State :=
  withRegs [(Reg.GNT_TILE_LIMIT 0, 50000), (Reg.GNT_TILE_LIMIT 1, 50000), (Reg.GNT_TILE_LIMIT 2, 50000),
    (Reg.GNT_TILE_LIMIT 3, 50000)] (withMem 0x100000001000 (recOf 16 [(8, 4, 1)])
    (withMem 0x100000000000 attDesc (withPage { (withReq (reqOf 2)) with attWait := waits })))

/-- What AttentionCallsProgress asks of a call that starts; `w` tells that it waits at the manager. -/
def callReady (w : Bool) : Prop :=
  ∃ (s s1 : State) (r : Nat) (q : Request) (palm : Nat) (rows : List AttRow), s.running = true ∧ s.attWait.contains r = w ∧
    s.engReq r [2] = some q ∧ s.peekN q.cmdAddr 1 = 0x20 ∧ s.attPalm r = none ∧ s.attCheck r q = (s1, some (palm, rows))

theorem wit_attention_call : callReady false :=
  ⟨attState [], ((attState []).attCheck 5 (reqOf 2)).1, 5, reqOf 2, 0, [⟨0, 0, 1, 0⟩], by decide +kernel, by decide +kernel,
    by decide +kernel, by decide +kernel, by decide +kernel, pair_of_snd (by decide +kernel)⟩

theorem wit_attention_released : callReady true :=
  ⟨attState [5], ((attState [5]).attCheck 5 (reqOf 2)).1, 5, reqOf 2, 0, [⟨0, 0, 1, 0⟩], by decide +kernel, by decide +kernel,
    by decide +kernel, by decide +kernel, by decide +kernel, pair_of_snd (by decide +kernel)⟩

def attCall0 (items : Nat) : AttCall := ⟨5, [], [], items, [], [], [], 1⟩

/-- Palm 1's attention unit has a call with so many work items left. -/
def attRuns (items : Nat) : State := withReq (reqOf 2) { State.reset with att := [(1, some (attCall0 items))] }

theorem wit_attention_unit : ∃ (s : State) (p : Fin 4) (x : AttCall) (q : Request), s.running = true ∧ s.att.find p = some x ∧
    s.req x.req = some q ∧ x.items ≠ 0 ∧ (s.attGnts q p ≠ [] ∨ x.gnts ≠ [] ∨ x.draining ≠ 0) :=
  ⟨attRuns 3, 1, attCall0 3, reqOf 2, by decide +kernel⟩

theorem wit_attention_end : ∃ (s u : State) (p : Fin 4) (x : AttCall) (q : Request), s.running = true ∧
    s.att.find p = some x ∧ s.req x.req = some q ∧ x.items = 0 ∧ s.stillWaits x.req = false ∧
    s.engineAccess x.req q p (asWrites (s.callOuts x)) = (u, .ready) :=
  ⟨attRuns 0, ((attRuns 0).engineAccess 5 (reqOf 2) 1 (asWrites ((attRuns 0).callOuts (attCall0 0)))).1, 1, attCall0 0, reqOf 2,
    by decide +kernel, by decide +kernel, by decide +kernel, by decide +kernel, by decide +kernel, pair_of_snd (by decide +kernel)⟩

/-! ### KvCommandsChangeTheirSequence -/

/-- A KV command on sequence 6 with a value. -/
def kvState (op v : Nat) (seqs : OMap SeqRec) : State :=
  withMem 0x100000000000 (recOf 32 [(0, 1, 0x21), (1, 1, op), (4, 4, 6), (8, 4, v), (0x10, 8, 0x100000001000)])
    (withPage { (withReq (reqOf 3)) with kvr := seqs })

def seq0 : SeqRec := SeqRec.ofBytes (recOf 64 [(0, 1, 1), (4, 2, 1), (8, 4, 16), (0x0C, 4, 20)])

theorem kvReady_cmdRead {s : State} {op : Nat}
    (h : s.running = true ∧ s.engReq 5 [3] = some (reqOf 3) ∧ s.stillWaits 5 = false ∧
      (s.accessRead 3 5 0x100000000000 32 (some 5)).2 = ⟨0, [], false⟩ ∧ fieldLE ((cmdRead s 32).peek 0x100000000000 32) 0 1 = 0x21 ∧
      fieldLE ((cmdRead s 32).peek 0x100000000000 32) 1 1 = op ∧ fieldLE ((cmdRead s 32).peek 0x100000000000 32) 4 4 = 6 ∧
      6 ≤ 65535 ∧ ((cmdRead s 32).earlierSeqs 5).contains 6 = false) :
    s.kvReady (cmdRead s 32) 5 op (reqOf 3) part0 6 :=
  ⟨h.1, h.2.1, rfl, h.2.2.1, pair_of_snd h.2.2.2.1, h.2.2.2.2⟩

theorem wit_kv_init : ∃ (s u v : State) (r id : Nat) (q : Request) (x : Part), s.kvReady u r 1 q x id ∧
    (u.seq id).map (·.st) ≠ some 1 ∧ u.stillWaits r = false ∧
    u.readMade v q.ctx (id % 4) (fieldLE (u.peek x.addr 32) 0x10 8) 64 r ∧
    (let tpl := SeqRec.ofBytes (v.peek (fieldLE (u.peek x.addr 32) 0x10 8) 64)
     (if tpl.mode = 1 then tpl.layers * tpl.ring else 0) ≤ (v.returnPages id).kvFree (id % 4)) :=
  ⟨kvState 1 0 [(6, some { seq0 with st := 2 })], cmdRead (kvState 1 0 [(6, some { seq0 with st := 2 })]) 32,
    ((cmdRead (kvState 1 0 [(6, some { seq0 with st := 2 })]) 32).accessRead 3 2 0x100000001000 64 (some 5)).1, 5, 6, reqOf 3, part0,
    kvReady_cmdRead (by decide +kernel), by decide +kernel, by decide +kernel, pair_of_snd (by decide +kernel), by decide +kernel⟩

/-- What KvCommandsChangeTheirSequence asks of an operation on an active sequence. -/
def kvActive (op : Nat) (h : Nat → SeqRec → Prop) : Prop :=
  ∃ (s u : State) (r id v : Nat) (q : Request) (x : Part) (z : SeqRec), s.kvReady u r op q x id ∧ u.seq id = some z ∧ z.st = 1 ∧
    v = fieldLE (u.peek x.addr 32) 8 4 ∧ h v z

theorem wit_kv_commit : kvActive 2 (fun v z => z.commit ≤ v ∧ v ≤ z.tent) :=
  ⟨kvState 2 20 [(6, some seq0)], cmdRead (kvState 2 20 [(6, some seq0)]) 32, 5, 6, 20, reqOf 3, part0, seq0,
    kvReady_cmdRead (by decide +kernel), by decide +kernel⟩

theorem wit_kv_rollback : kvActive 3 (fun _ _ => True) :=
  ⟨kvState 3 0 [(6, some seq0)], cmdRead (kvState 3 0 [(6, some seq0)]) 32, 5, 6, 0, reqOf 3, part0, seq0,
    kvReady_cmdRead (by decide +kernel), by decide +kernel⟩

theorem wit_kv_truncate : kvActive 4 (fun v z => v ≤ z.commit ∧ (z.mode = 1 → v = 0)) :=
  ⟨kvState 4 16 [(6, some seq0)], cmdRead (kvState 4 16 [(6, some seq0)]) 32, 5, 6, 16, reqOf 3, part0, seq0,
    kvReady_cmdRead (by decide +kernel), by decide +kernel⟩

theorem wit_kv_free : kvActive 5 (fun _ _ => True) :=
  ⟨kvState 5 0 [(6, some seq0)], cmdRead (kvState 5 0 [(6, some seq0)]) 32, 5, 6, 0, reqOf 3, part0, seq0,
    kvReady_cmdRead (by decide +kernel), by decide +kernel⟩

/-! ### RouteCombineAndCropComplete -/

/-- The state with a request of a KIND whose command is `d`. -/
def engState (kind : Nat) (d : Bytes) : State := withMem 0x100000000000 d (withPage (withReq (reqOf kind)))

/-- A request of a Palm's attention unit, its command `d` of OPCODE `op`, that goes to `palm` by the ranges `ins`. -/
def palmReady (s : State) (op palm : Nat) (d : Bytes) (ins : List (Nat × Nat)) : Prop :=
  s.running = true ∧ s.engReq 5 [2] = some (reqOf 2) ∧ d = s.peek 0x100000000000 128 ∧ s.peekN 0x100000000000 1 = op ∧
    s.attPalm 5 = none ∧ s.routePlace (reqOf 2) ins = some palm

def routeDesc : Bytes :=
  recOf 128 [(0, 1, 0x22), (2, 1, 1), (4, 2, 1), (8, 4, 1), (0x10, 8, 0x100000002000), (0x20, 8, 0x100000003000),
    (0x28, 4, 64), (0x2C, 4, 64), (0x30, 8, 0x100000004000), (0x38, 8, 0x100000005000)]

theorem wit_route : ∃ (s s1 : State) (palm : Nat) (d : Bytes),
    palmReady s 0x22 palm d [(fieldLE d 0x10 8, Nat.min 16777216 (fieldLE d 8 4 * fieldLE d 4 2 * 4))] ∧
    routeMask 0x100000000000 d = 0 ∧ s.engineReads 5 (reqOf 2) palm (routeIns d) (routeOuts d) true = (s1, .ready) ∧
    (s1.routeWrites 5 (reqOf 2) palm d).2 = 0 :=
  ⟨engState 2 routeDesc, ((engState 2 routeDesc).engineReads 5 (reqOf 2) 0 (routeIns routeDesc) (routeOuts routeDesc) true).1, 0,
    routeDesc, by unfold palmReady; decide +kernel, by decide +kernel, pair_of_snd (by decide +kernel), by decide +kernel⟩

def combineDesc : Bytes :=
  recOf 128 [(0, 1, 0x23), (2, 1, 1), (4, 2, 1), (8, 4, 1), (0x0C, 2, 32), (0x10, 8, 0x100000002000), (0x20, 8, 0x100000004000),
    (0x28, 4, 64), (0x2C, 4, 128), (0x38, 8, 0x100000003000)]

def combineRead : State × Reads :=
  (engState 2 combineDesc).engineReads 5 (reqOf 2) 0 (combineTab combineDesc) (combineOuts combineDesc)

theorem wit_combine : ∃ (s s1 s2 : State) (palm : Nat) (d : Bytes),
    palmReady s 0x23 palm d [(fieldLE d 0x10 8, Nat.min 16777216 (fieldLE d 8 4 * fieldLE d 0x28 4))] ∧
    combineMask 0x100000000000 d = 0 ∧ s.engineReads 5 (reqOf 2) palm (combineTab d) (combineOuts d) = (s1, .ready) ∧
    s1.combineStray d = false ∧
    s1.engineReads 5 (reqOf 2) palm (s1.combineIns d) (combineOuts d) true = (s2, .ready) ∧
    (s2.combineWrites 5 (reqOf 2) palm d).2 = 0 := by
  refine ⟨engState 2 combineDesc, combineRead.1, _, 0, combineDesc, ?_, by decide +kernel, pair_of_snd (by decide +kernel),
    by decide +kernel, pair_of_snd (by decide +kernel), by decide +kernel⟩
  unfold palmReady
  decide +kernel

def cropDesc : Bytes :=
  recOf 128 [(0, 1, 0x35), (1, 1, 1), (4, 2, 1), (6, 1, 1), (7, 1, 1), (8, 2, 4), (0x0A, 2, 4), (0x0C, 2, 1), (0x0E, 2, 1),
    (0x10, 8, 0x100000002000), (0x18, 8, 0x100000003000), (0x20, 8, 0x100000004000), (0x28, 4, 64), (0x2C, 4, 256)]

def cropStart : State × Reads :=
  (engState 4 cropDesc).engineReads 5 (reqOf 4) 4 [(fieldLE cropDesc 0x18 8, 32 * fieldLE cropDesc 4 2)] []

theorem wit_crop_and_resize : ∃ (s s1 : State) (d : Bytes), s.running = true ∧ s.engReq 5 [4] = some (reqOf 4) ∧
    d = s.peek 0x100000000000 128 ∧ fieldLE d 0 1 = 0x35 ∧ s.crop = none ∧ s.gateOn 0x92 = true ∧
    cropMask 0x100000000000 d = 0 ∧ s.engineReads 5 (reqOf 4) 4 [(fieldLE d 0x18 8, 32 * fieldLE d 4 2)] [] = (s1, .ready) :=
  ⟨engState 4 cropDesc, cropStart.1, cropDesc, by decide +kernel, by decide +kernel, by decide +kernel, by decide +kernel,
    by decide +kernel, by decide +kernel, by decide +kernel, pair_of_snd (by decide +kernel)⟩

/-- The crop walk at its first box. -/
def cropRun : State := { engState 4 cropDesc with crop := some ⟨5, 0, []⟩ }

def cropBoxRead : State × Reads := cropRun.engineReads 5 (reqOf 4) 4 (cropRun.cropIns cropDesc 0) (cropBoxOuts cropDesc 0) true

theorem wit_crop_box : ∃ (s s1 : State) (x : Crop) (q : Request) (d : Bytes), s.running = true ∧ s.crop = some x ∧
    s.req x.req = some q ∧ d = s.peek q.cmdAddr 128 ∧
    s.engineReads x.req q 4 (s.cropIns d x.box) (cropBoxOuts d x.box) true = (s1, .ready) ∧
    (s1.cropWrite (s1.cropView x.written) x.req q d x.box).1.2 = 0 :=
  ⟨cropRun, cropBoxRead.1, ⟨5, 0, []⟩, reqOf 4, cropDesc, by decide +kernel, by decide +kernel, by decide +kernel,
    by decide +kernel, pair_of_snd (by decide +kernel), by decide +kernel⟩

/-! ### FingerRegisterInstructionsRetire -/

def lau0 : Launch :=
  ⟨3, [1], 0, false, 0, 0x10000, [], [], 0x100000001000, 0x1000, 0x100000002000, 0x1000, 0, 0, true, false⟩

/-- A Finger of request 5 with x3 and x5 given. -/
def fng0 (x3 x5 : Nat) : Finger :=
  { launch := 5, run := 1, pc := 0, x := ((List.replicate 32 0).set 3 (BitVec.ofNat 32 x3)).set 5 (BitVec.ofNat 32 x5),
    fr := List.replicate 32 0, v := List.replicate 32 0, csr := [], resv := none, inbox := [[7], [], [], []],
    tickets := List.replicate 8 none, wait := .none, retired := 0 }

/-- Finger 70 of a launch of request 5, with another Finger below it. -/
def fngState (x : Finger) : State :=
  { withReq (reqOf 5) with launches := [(5, some lau0)], fingers := [(70, some x), (78, some (fng0 0 0))] }

theorem fngAt_fngState {x : Finger} (h : (fngState x).running = true ∧ (fngState x).fngReady 70 = some (x, lau0) ∧
    (fngState x).quarantined 65 = false) : (fngState x).fngAt 70 x lau0 := h

theorem wit_finger : ∃ (s : State) (f : Fin 4096) (x : Finger) (l : Launch) (rs1 : Fin 32) (m : BitVec 32)
    (ms : List (BitVec 32)), s.fngAt f x l ∧ x.getX rs1 ≤ 3 ∧ nth none x.tickets (x.getX rs1) = none ∧
    x.inboxOf (x.getX rs1) = m :: ms ∧ (∀ k, k < 8 → nth none x.tickets k = none) ∧
    ∃ k y, k ≠ f.val ∧ (k, y) ∈ (s.putFng f { x with resv := none, run := 2, retired := x.retired + 1 }).fingers.entries ∧
        y.launch = x.launch ∧ y.run = 1 :=
  ⟨fngState (fng0 0 0), 70, fng0 0 0, lau0, 3, 7, [], fngAt_fngState (by decide +kernel), by decide +kernel, by decide +kernel,
    by decide +kernel, by decide +kernel, 78, fng0 0 0, by decide +kernel⟩

/-! ### FingerMessagesQueuesAndBarriers -/

theorem wit_send : ∃ (s : State) (f : Fin 4096) (x : Finger) (l : Launch) (rs2 : Fin 32) (n : Nat), s.fngAt f x l ∧
    x.getX rs2 ≤ 3 ∧ l.neighbour f (x.getX rs2) = some n ∧ (s.fngOf n).run ≠ 2 ∧
    ((s.fngOf n).inboxOf ((x.getX rs2 + 2) % 4)).length < 8 :=
  ⟨fngState (fng0 2 9), 70, fng0 2 9, lau0, 3, 78, fngAt_fngState (by decide +kernel), by decide +kernel⟩

theorem wit_qpush : ∃ (s : State) (f : Fin 4096) (x : Finger) (l : Launch) (rs1 rs2 : Fin 32), s.fngAt f x l ∧
    x.getX rs1 ≤ 15 ∧ x.getX rs2 ≠ 0xFFFFFFFF ∧ (s.mqueue (f / 64) (x.getX rs1)).length < 256 :=
  ⟨fngState (fng0 15 9), 70, fng0 15 9, lau0, 3, 5, fngAt_fngState (by decide +kernel), by decide +kernel⟩

theorem wit_qpop : ∃ (s : State) (f : Fin 4096) (x : Finger) (l : Launch) (rs1 : Fin 32) (m : BitVec 32)
    (ms : List (BitVec 32)), s.fngAt f x l ∧ x.getX rs1 ≤ 15 ∧ s.mqueue (f / 64) (x.getX rs1) = m :: ms :=
  ⟨(fngState (fng0 15 9)).setMqueue 1 15 [4, 6], 70, fng0 15 9, lau0, 3, 4, [6],
    (show _ ∧ _ ∧ _ from by decide +kernel), by decide +kernel⟩

/-- A Finger that waits. -/
def waiting (w : FngWait) : State := fngState { fng0 0 0 with wait := w }

theorem wit_stall : ∃ (s : State) (f : Fin 4096) (x : Finger) (l : Launch) (rd d : Nat) (m : BitVec 32) (ms : List (BitVec 32)),
    s.running = true ∧ s.fngLive f = some (x, l) ∧ x.wait = .recv rd d ∧ d ≤ 3 ∧ x.inboxOf d = m :: ms :=
  ⟨waiting (.recv 5 0), 70, { fng0 0 0 with wait := .recv 5 0 }, lau0, 5, 0, 7, [], by decide +kernel⟩

/-- Both Fingers of Mitten 1 wait. -/
def bothWaiting (w : FngWait) : State :=
  { waiting w with fingers := [(70, some { fng0 0 0 with wait := w }), (78, some { fng0 0 0 with wait := w })] }

theorem wit_barrier : ∃ (s : State) (r : Nat) (k : Fin 64) (l : Launch), s.running = true ∧ s.launches.find r = some l ∧
    l.halted = false ∧ l.groups.contains k.val = true ∧ s.liveFingers r (fun g => g / 64 == k.val) ≠ [] ∧
    ∀ e ∈ s.liveFingers r (fun g => g / 64 == k.val), e.2.wait = .bar :=
  ⟨bothWaiting .bar, 5, 1, lau0, by decide +kernel⟩

theorem wit_drained : ∃ (s : State) (m : Fin 64) (q : Fin 16) (g : Nat) (y : Finger) (rd k : Nat), s.running = true ∧
    s.queueDry m q = true ∧ s.fingers.find g = some y ∧ g / 64 = m.val ∧ y.run = 1 ∧ y.wait = .pop rd k :=
  ⟨bothWaiting (.pop 4 2), 1, 2, 70, { fng0 0 0 with wait := .pop 4 2 }, 4, 2, by decide +kernel⟩

/-! ### FingerAtomicsOnAWord -/

theorem wit_atomic : ∃ (s : State) (f : Fin 4096) (x : Finger) (l : Launch) (rs1 : Fin 32) (sp k : Nat), s.fngAt f x l ∧
    atomicPlace l f (x.getX rs1) sp k ∧ x.resv ≠ some (sp, k) :=
  ⟨fngState (fng0 0x10004 9), 70, fng0 0x10004 9, lau0, 3, 1, 70 * 0x8000 + 4, fngAt_fngState (by decide +kernel),
    ⟨⟨0x7FFC, by decide +kernel⟩, by decide +kernel⟩, by decide +kernel⟩

theorem wit_reserved : ∃ (s : State) (f : Fin 4096) (x : Finger) (l : Launch) (rs1 : Fin 32) (sp k : Nat), s.fngAt f x l ∧
    atomicPlace l f (x.getX rs1) sp k ∧ x.resv = some (sp, k) :=
  ⟨fngState { fng0 0x10004 9 with resv := some (1, 70 * 0x8000 + 4) }, 70,
    { fng0 0x10004 9 with resv := some (1, 70 * 0x8000 + 4) }, lau0, 3, 1, 70 * 0x8000 + 4,
    fngAt_fngState (by decide +kernel), ⟨⟨0x7FFC, by decide +kernel⟩, by decide +kernel⟩, by decide +kernel⟩

theorem wit_vfredusum : ∃ (s : State) (f : Fin 4096) (x : Finger) (l : Launch) (vs2 : Fin 32) (fm : FpFmt) (rm : Nat),
    s.fngAt f x l ∧ vFmt x.sew = some fm ∧ x.rmOf 7 = some rm ∧ (x.csrN 0xC21).testBit 31 = false ∧
    groupOk vs2 x.lm8 = true ∧ x.csrN 8 = 0 :=
  ⟨fngState { fng0 0 0 with csr := [(0xC20, 4), (0xC21, 16)] }, 70, { fng0 0 0 with csr := [(0xC20, 4), (0xC21, 16)] }, lau0, 8,
    fp32, 0, fngAt_fngState (by decide +kernel), by rfl, by decide +kernel⟩

/-! ### FingerListAndHashInstructions -/

/-- Bytes in the data region of Finger 70. -/
def withLocal (k : Nat) (bs : Bytes) (s : State) : State := { s with lmem := Memory.write s.lmem (70 * 0x8000 + k) bs }

/-- Finger 70 with x3 pointing to a block of words in its data region and x5 = 4. -/
def listState (block : List Nat) : State := withLocal 0 (block.flatMap (natLE 4)) (fngState (fng0 0x10000 4))

/-- List A = 1, 5 at 0x10040, list B = 5 at 0x10080, output at 0x100C0. -/
def twoLists : State :=
  withLocal (0x80) (natLE 4 5) (withLocal 0x40 (natLE 4 1 ++ natLE 4 5) (listState [0x10040, 2, 0x10080, 1, 0x100C0, 0]))

/-- A list instruction runs to its end. -/
def runsList (s : State) (l : Launch) (f : Nat) (x : Finger) (op n rs1 rs2 : Nat) : Bool :=
  x.getX rs1 % 4 == 0 && match loadWords l f 6 s (x.getX rs1) [] with
    | .inr _ => false
    | .inl (u, ws) => match listLoop l f op n (x.getX rs2) (nth 0 ws 1 + nth 0 ws 3 + 1) u
        ⟨nth 0 ws 0, nth 0 ws 1, nth 0 ws 2, nth 0 ws 3, nth 0 ws 4, nth 0 ws 5⟩ with
      | .bad _ _ _ => false
      | .done u1 b1 _ => match storeWords l f [b1.aB, b1.aL, b1.bB, b1.bL, b1.oB, b1.oC] u1 (x.getX rs1) with
        | .bad _ _ _ => false
        | .val _ v => v == 0

theorem listRun_of {s : State} {l : Launch} {f : Nat} {x : Finger} {op n rs1 rs2 : Nat}
    (h : runsList s l f x op n rs1 rs2 = true) : ∃ t r, s.listRun l f x op n rs1 rs2 t r := by
  unfold runsList at h
  simp only [Bool.and_eq_true, beq_iff_eq] at h
  obtain ⟨h0, h⟩ := h
  split at h
  · cases h
  · next u ws hu =>
    split at h
    · cases h
    · next u1 b1 r hl =>
      split at h
      · cases h
      · next t v hs =>
        rw [beq_iff_eq] at h; subst h
        exact ⟨t, r, h0, u, u1, ws, b1, hu, hl, hs⟩

theorem wit_list : ∃ (s : State) (f : Fin 4096) (x : Finger) (l : Launch) (rs1 rs2 : Fin 32), s.fngAt f x l ∧
    ∀ op ∈ [0, 1, 2, 3], ∀ n ∈ [4, 8], ∃ u r, s.listRun l f x op n rs1 rs2 u r := by
  refine ⟨twoLists, 70, fng0 0x10000 4, lau0, 3, 5, (show _ ∧ _ ∧ _ from by decide +kernel), ?_⟩
  intro op hop n hn
  have h : ∀ op ∈ [0, 1, 2, 3], ∀ n ∈ [4, 8], runsList twoLists lau0 70 (fng0 0x10000 4) op n 3 5 = true := by decide +kernel
  exact listRun_of (h op hop n hn)

/-- A table of one bucket at 0x10040 whose first slot holds key 4 (or none). -/
def tableState (key : Nat) (x : Finger := fng0 0x10000 4) : State :=
  { withLocal 0x40 (natLE 4 key ++ natLE 4 77) (listState [0x10040, 0, 1, 0]) with
    fingers := [(70, some x), (78, some (fng0 0 0))] }

/-- What a probe answers, as a number. -/
def probeKind (p : Probe) : Nat :=
  match p with
  | .found _ _ => 0
  | .missing _ => 1
  | .empty _ _ => 2
  | .bad _ _ _ => 3

theorem wit_hash : ∃ (s : State) (f : Fin 4096) (x : Finger) (l : Launch) (rs1 rs2 : Fin 32) (u : State) (a : Nat),
    s.fngAt f x l ∧ s.xfProbe l f (x.getX rs1) (x.getX rs2) = .found u a ∧ x.getX rs2 ≠ 0xFFFFFFFF := by
  have h : probeKind ((tableState 4).xfProbe lau0 70 0x10000 4) = 0 := by decide +kernel
  have e : ∃ u a, (tableState 4).xfProbe lau0 70 0x10000 4 = .found u a := by
    unfold probeKind at h
    split at h
    · exact ⟨_, _, ‹_›⟩
    all_goals cases h
  obtain ⟨u, a, e⟩ := e
  exact ⟨tableState 4, 70, fng0 0x10000 4, lau0, 3, 5, u, a, (show _ ∧ _ ∧ _ from by decide +kernel), e, by decide +kernel⟩

theorem wit_hash_missing : ∃ (s : State) (f : Fin 4096) (x : Finger) (l : Launch) (rs1 rs2 : Fin 32) (u : State),
    s.fngAt f x l ∧ s.xfProbe l f (x.getX rs1) (x.getX rs2) = .missing u ∧ x.getX rs2 ≠ 0xFFFFFFFF := by
  have h : probeKind ((tableState 5).xfProbe lau0 70 0x10000 4) = 1 := by decide +kernel
  have e : ∃ u, (tableState 5).xfProbe lau0 70 0x10000 4 = .missing u := by
    unfold probeKind at h
    split at h
    · cases h
    · exact ⟨_, ‹_›⟩
    all_goals cases h
  obtain ⟨u, e⟩ := e
  exact ⟨tableState 5, 70, fng0 0x10000 4, lau0, 3, 5, u, (show _ ∧ _ ∧ _ from by decide +kernel), e, by decide +kernel⟩

/-- A store that lands. -/
def stored (m : MemRes) : Bool :=
  match m with
  | .val _ _ => true
  | .bad _ _ _ => false

theorem wit_hash_empty : ∃ (s : State) (f : Fin 4096) (x : Finger) (l : Launch) (rs1 rs2 rs3 : Fin 32) (u v : State) (a w : Nat),
    s.fngAt f x l ∧ s.xfProbe l f (x.getX rs1) (x.getX rs2) = .empty u a ∧ x.getX rs2 ≠ 0xFFFFFFFF ∧
    u.fstore l f a 8 8 (x.getX rs2 + x.getX rs3 * 2 ^ 32) = .val v w := by
  have h : (match (tableState 0xFFFFFFFF).xfProbe lau0 70 0x10000 4 with
      | .empty u a => stored (u.fstore lau0 70 a 8 8 (4 + 4 * 2 ^ 32))
      | _ => false) = true := by decide +kernel
  split at h
  · next u a e =>
    unfold stored at h
    split at h
    · next v w e2 =>
      exact ⟨tableState 0xFFFFFFFF, 70, fng0 0x10000 4, lau0, 3, 5, 5, u, v, a, w, (show _ ∧ _ ∧ _ from by decide +kernel), e,
        by decide +kernel, e2⟩
    · cases h
  · cases h

/-! ### LaunchesStartRunTransferAndStop -/

def launchDesc : Bytes := recOf 128 [(0, 1, 0x50), (2, 1, 1), (4, 4, 64), (0x10, 8, 0x100000001000), (0x18, 8, 0x100000002000),
  (0x20, 4, 8), (0x24, 4, 1000)]

def launchState : State := withMem 0x100000000000 launchDesc (withPage (withReq (reqOf 5)))

theorem wit_finger_launch : ∃ (s : State) (r : Nat) (q : Request) (d : Bytes) (ms : List Nat), s.running = true ∧
    s.engReq r [5] = some q ∧ s.launches.find r = none ∧ d = s.peek q.cmdAddr 128 ∧ s.launchMask q d = 0 ∧
    s.applyScrOwn.placeLaunch q d = some ms ∧
    s.applyScrOwn.ownsScratch q.ctx (fieldLE d 0x48 4) (fieldLE d 0x4C 4) (newLaunch q.ctx d ms).palms = true :=
  ⟨launchState, 5, reqOf 5, launchDesc, [0], by decide +kernel⟩

def claimed : Launch := newLaunch 3 launchDesc [0]

def claimedState : State := { launchState with launches := [(5, some claimed)] }

theorem wit_launch_start : ∃ (s s1 : State) (r : Nat) (q q1 : Request) (l : Launch) (d : Bytes), s.running = true ∧
    s.engReq r [5] = some q ∧ s.launches.find r = some l ∧ l.started = false ∧ d = s.peek q.cmdAddr 128 ∧
    s.engineReads r q (nth 0 l.groups 0 / 16) [(fieldLE d 0x10 8, fieldLE d 4 4), (fieldLE d 0x18 8, fieldLE d 0x20 4)] [] =
      (s1, .ready) ∧ s1.req r = some q1 ∧ l.groups.Nodup :=
  ⟨claimedState, (claimedState.engineReads 5 (reqOf 5) 0 [(0x100000001000, 64), (0x100000002000, 8)] []).1, 5, reqOf 5, reqOf 5,
    claimed, launchDesc, by decide +kernel, by decide +kernel, by decide +kernel, by decide +kernel, by decide +kernel,
    pair_of_snd (by decide +kernel), by decide +kernel⟩

/-- The launch with a program of one `addi x1, x0, 5`. -/
def lauAddi : Launch := { lau0 with code := [0x93, 0, 0x50, 0] }

def addiState : State := { fngState (fng0 0 0) with launches := [(5, some lauAddi)] }

/-- The Finger of an operation that went on. -/
def okFinger (r : FngRes) : Option Finger :=
  match r with
  | .ok _ y => some y
  | .trap _ _ _ => none

theorem ok_of {r : FngRes} {y : Finger} (h : okFinger r = some y) : ∃ u, r = .ok u y := by
  cases r with
  | ok u z => exact ⟨u, by rw [Option.some.inj h]⟩
  | trap t c v => cases h

theorem wit_instruction : ∃ (s u : State) (f : Fin 4096) (x y : Finger) (l : Launch) (w len : Nat), s.fngAt f x l ∧
    l.fetchWord x.pc = .inl (w, len) ∧ s.runWord l f x w len = .ok u y ∧ y.run ≠ 2 ∧
    ∀ k z, nth none y.tickets k = some z → z.begun = true ∨ z.write = true := by
  obtain ⟨u, e⟩ := ok_of (show okFinger (addiState.runWord lauAddi 70 (fng0 0 0) 0x00500093 4) =
    some (((fng0 0 0).setX 1 5).adv 4) from by decide +kernel)
  refine ⟨addiState, u, 70, fng0 0 0, ((fng0 0 0).setX 1 5).adv 4, lauAddi, 0x00500093, 4, (show _ ∧ _ ∧ _ from by decide +kernel),
    by decide +kernel, e, by decide +kernel, ?_⟩
  intro k z h
  have : nth none (List.replicate 8 (none : Option Transfer)) k = none := by
    unfold nth
    rw [List.getD_eq_getElem?_getD, List.getElem?_replicate]
    split <;> rfl
  rw [show (((fng0 0 0).setX 1 5).adv 4).tickets = List.replicate 8 none from rfl, this] at h
  cases h

/-- A write transfer in progress from local data. -/
def xfer0 : Transfer := ⟨true, true, 1, 70 * 0x8000 + 0x80, 64, 0x100000002000, List.replicate 64 0⟩

/-- Finger 70 with seven transfers in progress and a block for one more write at 0x10000. -/
def xferFng : Finger := { fng0 0x10000 0 with tickets := none :: List.replicate 7 (some xfer0) }

def xferState : State := withLocal 0 ([0, 0, 0x10040, 64 + 2 ^ 30 + 2 ^ 31].flatMap (natLE 4)) (fngState xferFng)

theorem wit_xfer : ∃ (s u : State) (f : Fin 4096) (x y : Finger) (l : Launch) (rd rs1 : Fin 32), s.fngAt f x l ∧
    s.xfXferOp l f x rd (x.getX rs1) = .ok u y ∧ y.run ≠ 2 ∧
    (∀ k z, nth none y.tickets k = some z → z.begun = true ∨ z.write = true) := by
  have h : ((okFinger (xferState.xfXferOp lau0 70 xferFng 4 0x10000)).map (fun y => y.run != 2 &&
      y.tickets.all (fun t => match t with | some z => z.write | none => true))) = some true := by decide +kernel
  cases e : xferState.xfXferOp lau0 70 xferFng 4 0x10000 with
  | trap t c v => rw [e] at h; cases h
  | ok u y =>
    rw [e] at h
    simp only [okFinger, Option.map_some, Option.some.injEq, Bool.and_eq_true, bne_iff_ne, ne_eq, List.all_eq_true] at h
    refine ⟨xferState, u, 70, xferFng, y, lau0, 4, 3, (show _ ∧ _ ∧ _ from by decide +kernel), e, h.1, ?_⟩
    intro k z hz
    unfold nth at hz
    rw [List.getD_eq_getElem?_getD] at hz
    have hm : some z ∈ y.tickets := by
      cases hk : y.tickets[k]? with
      | none => rw [hk] at hz; cases hz
      | some w => rw [hk] at hz; exact hz ▸ List.mem_of_getElem? hk
    exact Or.inr (h.2 _ hm)

theorem wit_transfer_done : ∃ (s : State) (f : Fin 4096) (k : Fin 8) (x : Finger) (q : Request) (y : Transfer), s.running = true ∧
    s.fingers.find f = some x ∧ nth none x.tickets k = some y ∧ s.req x.launch = some q ∧ y.begun = true ∧ x.wait = .none ∧
    (s.umr.waits.any (fun w => w.req == x.launch && w.part == ticketPart f k)) = false ∧ y.write = true :=
  ⟨xferState, 70, 3, xferFng, reqOf 5, xfer0, by decide +kernel⟩

theorem wit_exit_drain : ∃ (s : State) (f : Fin 4096) (x : Finger) (l : Launch), s.running = true ∧
    s.fngLive f = some (x, l) ∧ x.wait = .drain ∧ (∀ k, k < 8 → nth none x.tickets k = none) ∧
    ∃ k y, k ≠ f.val ∧ y.launch = x.launch ∧ y.run = 1 ∧
      (k, y) ∈ (s.putFng f { x with run := 2, wait := .none, retired := x.retired + 1 }).fingers.entries :=
  ⟨waiting .drain, 70, { fng0 0 0 with wait := .drain }, lau0, by decide +kernel, by decide +kernel, by decide +kernel,
    by decide +kernel, 78, fng0 0 0, by decide +kernel⟩

theorem wit_launch_stop : ∃ (s : State) (r : Nat) (l : Launch) (q : Request), s.running = true ∧ s.launches.find r = some l ∧
    s.req r = some q ∧ l.started = true ∧ l.halted = false ∧ s.liveFingers r (fun _ => true) ≠ [] ∧
    (∀ e ∈ s.liveFingers r (fun _ => true), e.2.wait.stalled = true) ∧ ∀ m ∈ l.groups, ∀ k, k < 16 → s.queueDry m k = false :=
  ⟨bothWaiting .bar, 5, lau0, reqOf 5, by decide +kernel⟩

/-- A launch that a breakpoint halts, whose Finger 70 waits for a ticket that has gone idle. -/
def haltedState : State :=
  { fngState { fng0 0 0 with wait := .ticket 3 } with launches := [(5, some { lau0 with halted := true })] }

theorem wit_debug_resume : haltedState.running = true ∧
    haltedState.fingers.find 70 = some { fng0 0 0 with wait := .ticket 3 } ∧
    haltedState.launches.find 5 = some { lau0 with halted := true } ∧ lau0.started = true ∧
    (∀ e ∈ haltedState.liveFingers 5 (fun _ => true), (match e.2.wait with | .xfer _ _ => true | _ => false) = false) ∧
    nth none (fng0 0 0).tickets 3 = none := by
  decide +kernel

/-! ### UmrCommandsRunAndEnd -/

/-- A UMR command on the first pages of the unified range. -/
def umrState (op : Nat) (fs : List (Nat × Nat × Nat)) (pages : List (Nat × Option Page)) (jobs : List (Nat × Option UmrJob) := []) : State :=
  let s := withMem 0x100000000000 (recOf 32 ([(0, 1, 0x60), (1, 1, op), (8, 8, 0x100000200000), (0x10, 8, 0x200000),
    (0x18, 8, 0x100000003000)] ++ fs)) (withReq (reqOf 6) (withRegs [(Reg.UMR_FREE_HBM, 100 + 2 ^ 16 * 100),
      (Reg.UMR_FREE_LPDDR, 100), (Reg.UMR_FREE_FLASH, 100)]))
  { s with umr := { s.umr with pages := [(0, some page0)] ++ pages, jobs := jobs } }

/-- The page of those commands. -/
def page1 : Page := page0

theorem umrAt_of {s : State} {op : Nat} (d : Bytes) (h : s.running = true ∧ s.umrReady 5 = some (reqOf 6) ∧
    d = s.peek (reqOf 6).cmdAddr 32 ∧ fieldLE d 0 1 = 0x60 ∧ fieldLE d 1 1 = op ∧ s.umrMask (reqOf 6) d = 0) :
    s.umrAt 5 op (reqOf 6) d := h

theorem wit_umr_map : ∃ (s : State) (r : Nat) (q : Request) (d : Bytes), s.umrAt r 1 q d :=
  ⟨umrState 1 [(2, 1, 1)] [], 5, reqOf 6, (umrState 1 [(2, 1, 1)] []).peek 0x100000000000 32, umrAt_of _ (by decide +kernel)⟩

theorem wit_umr_unmap : ∃ (s : State) (r : Nat) (q : Request) (d : Bytes), s.umrAt r 2 q d :=
  ⟨umrState 2 [] [(1, some page1)], 5, reqOf 6, (umrState 2 [] [(1, some page1)]).peek 0x100000000000 32,
    umrAt_of _ (by decide +kernel)⟩

theorem wit_umr_rehome : ∃ (s : State) (r : Nat) (q : Request) (d : Bytes), s.umrAt r 3 q d ∧
    s.flashRefuses ((pagesOf (fieldLE d 8 8) (fieldLE d 0x10 8)).flatMap (fun n => (List.range 32).map (fun b => (n, b)))) = false ∧
    ∀ e ∈ s.umr.jobs.entries, e.2.wait = [] :=
  ⟨umrState 3 [(2, 1, 3)] [(1, some page1)], 5, reqOf 6, (umrState 3 [(2, 1, 3)] [(1, some page1)]).peek 0x100000000000 32,
    umrAt_of _ (by decide +kernel), by decide +kernel⟩

/-- A flash page with a dirty block. -/
def dirty1 : Page := { page0 with hint := 3, home := 2, upper := 1, resident := 3, dirty := 2 }

theorem wit_umr_prefetch : ∃ (s : State) (r : Nat) (q : Request) (d : Bytes), s.umrAt r 4 q d ∧ (s.prefetchRange r q d).2 ≠ [] :=
  ⟨umrState 4 [] [(1, some { page0 with hint := 3, home := 2 })], 5, reqOf 6,
    (umrState 4 [] [(1, some { page0 with hint := 3, home := 2 })]).peek 0x100000000000 32, umrAt_of _ (by decide +kernel),
    by decide +kernel⟩

theorem wit_umr_evict : ∃ (s : State) (r : Nat) (q : Request) (d : Bytes), s.umrAt r 5 q d ∧
    s.flashRefuses (blocksOf (fieldLE d 8 8) (fieldLE d 0x10 8)) = false ∧
    s.dirtyOf (blocksOf (fieldLE d 8 8) (fieldLE d 0x10 8)) ≠ [] :=
  ⟨umrState 5 [] [(1, some dirty1)], 5, reqOf 6, (umrState 5 [] [(1, some dirty1)]).peek 0x100000000000 32,
    umrAt_of _ (by decide +kernel), by decide +kernel⟩

theorem wit_umr_flush : ∃ (s : State) (r : Nat) (q : Request) (d : Bytes), s.umrAt r 6 q d ∧
    s.flashRefuses (blocksOf (fieldLE d 8 8) (fieldLE d 0x10 8)) = false :=
  ⟨umrState 6 [] [(1, some dirty1)], 5, reqOf 6, (umrState 6 [] [(1, some dirty1)]).peek 0x100000000000 32,
    umrAt_of _ (by decide +kernel), by decide +kernel⟩

theorem wit_umr_query : ∃ (s : State) (r : Nat) (q : Request) (d : Bytes), s.umrAt r 7 q d ∧
    s.mayAccess q.ctx 5 (fieldLE d 0x18 8) (s.queryRecords d).length true = true ∧
    (s.accessPrep q.ctx 5 (fieldLE d 0x18 8) (s.queryRecords d).length (some r)).2 = ⟨0, [], false⟩ :=
  ⟨umrState 7 [] [(1, some page1)], 5, reqOf 6, (umrState 7 [] [(1, some page1)]).peek 0x100000000000 32,
    umrAt_of _ (by decide +kernel), by decide +kernel⟩

/-- An UNMAP of page 1 in progress. -/
def unmapping : State := umrState 2 [] [(1, some { page1 with st := 3 })] [(5, some ⟨2, [1], [], 0, 0, 0⟩)]

theorem wit_unmap_freed : ∃ (s : State) (r : Nat) (j : UmrJob), s.running = true ∧ s.umrJob r = some j ∧ j.op = 2 ∧
    (∀ n ∈ j.pages, ∀ p, s.page n = some p → p.holds = 0 ∧ p.inflight = 0 ∧ s.umr.wbs.any (fun w => w.page == n) = false) ∧
    (∀ q, s.req r = some q → q.ending = none) := by
  refine ⟨unmapping, 5, ⟨2, [1], [], 0, 0, 0⟩, by decide +kernel, by decide +kernel, rfl, ?_, ?_⟩
  · intro n hn p hp
    have : n = 1 := by simpa using hn
    subst this
    have e : unmapping.page 1 = some { page1 with st := 3 } := by decide +kernel
    rw [e] at hp; cases hp; exact ⟨rfl, rfl, rfl⟩
  · intro q hq
    have e : unmapping.req 5 = some (reqOf 6) := by decide +kernel
    rw [e] at hq; cases hq; rfl

/-- A REHOME of page 1 in progress, with so many blocks copied to a frame of pool 3. -/
def rehoming (k : Nat) : State :=
  umrState 3 [] [(1, some { page1 with st := 2, dest := 3, copied := k })] [(5, some ⟨3, [1], [], 3, 0, 0⟩)]

/-- What UmrCommandsRunAndEnd asks of a block copied. -/
def copyDone (h : UmrJob → Nat → Page → Prop) : Prop :=
  ∃ (s : State) (r n : Nat) (j : UmrJob) (p : Page), s.running = true ∧ s.umrJob r = some j ∧ j.op = 3 ∧
    j.pages.contains n = true ∧ s.page n = some p ∧ p.dest ≠ 0 ∧ h j n p

theorem wit_rehome_block : copyDone (fun _ _ p => p.copied < 31) :=
  ⟨rehoming 30, 5, 1, ⟨3, [1], [], 3, 0, 0⟩, { page1 with st := 2, dest := 3, copied := 30 }, by decide +kernel⟩

theorem wit_rehome_done : copyDone (fun j n p => p.copied = 31 ∧ j.pages = [n]) :=
  ⟨rehoming 31, 5, 1, ⟨3, [1], [], 3, 0, 0⟩, { page1 with st := 2, dest := 3, copied := 31 }, by decide +kernel⟩

/-! ### UnifiedRangeEventsCount -/

def fetch0 : Fetch := { page := 1, block := 2, src := 2, prio := 4, req := none, look := none, pool := 1, start := some 0, limit := 0 }

def wb0 : Writeback := { page := 1, block := 1, kind := .flush, abandoned := false, req := none, flash := true, start := some 0 }

/-- An access of request 5 that began to wait 2 ns ago, with a limit of 1 ns. -/
def wait0 : BlockWait := { page := 1, block := 2, req := 5, part := 0, idx := 3, since := 2 ^ 64 - 2, limit := 1 }

/-- A flash page with a fetch and a write-back in progress, whose erase block 0 is due for relocation. -/
def fetching : State :=
  let s := umrState 4 [] [(1, some { dirty1 with inflight := 4 })]
  { s with umr := { s.umr with fetches := [fetch0], waits := [wait0], wbs := [wb0],
                               flash := { s.umr.flash with blocks := [(0, ⟨1, 0, true, 0, 1, false, [32]⟩)] } } }

theorem wit_fetch : ∃ (s : State) (n : Nat) (b : Fin 32) (f : Fetch) (p : Page), s.running = true ∧
    s.runningFetch n b = some (f, p) ∧ f.limit ≤ s.since (f.start.getD 0) :=
  ⟨fetching, 1, 2, fetch0, { dirty1 with inflight := 4 }, by decide +kernel⟩

theorem wit_access_timeout : ∃ (s : State) (r k n : Nat) (b : Fin 32) (w : BlockWait), s.running = true ∧
    s.umr.waits.find? (fun w => w.req == r && w.part == k && w.page == n && w.block == b.val) = some w ∧
    w.limit < s.since w.since :=
  ⟨fetching, 5, 0, 1, 2, wait0, by decide +kernel⟩

theorem wit_writeback : ∃ (s : State) (n : Nat) (b : Fin 32) (w : Writeback) (p : Page), s.running = true ∧
    s.umr.wbs.find? (fun w => w.page == n && w.block == b.val) = some w ∧ s.page n = some p :=
  ⟨fetching, 1, 1, wb0, { dirty1 with inflight := 4 }, by decide +kernel⟩

theorem wit_scrub : ∃ (s : State) (n : Nat) (b : Fin 32) (up : Bool) (p : Page), s.running = true ∧ s.page n = some p ∧
    if up then p.resident.testBit b = true else p.home ≠ 2 :=
  ⟨fetching, 1, 1, true, { dirty1 with inflight := 4 }, by decide +kernel⟩

theorem wit_relocate : fetching.umr.flash.firstDue fetching.hours = some 0 ∧
    State.reset.umr.flash.firstDue State.reset.hours = none := by
  decide +kernel

/-! ### DoorbellDiscards -/

theorem wit_doorbell : ∃ (s : State) (r : Fin 16384) (v : BitVec 32), s.doorbellBad r v.toNat = false ∧
    State.reset.doorbellBad r v.toNat = true :=
  ⟨withRegs [(Reg.QUE_RING_CFG 3, 0x104)], 3, 16, by decide +kernel⟩

/-! ### RequestsAreAcceptedRunAndEnd -/

/-- Ring 192 (context 3) with a descriptor of KIND `k`. -/
def ringState (k : Nat) : State :=
  let s := withMem 0x100000000000 (recOf 64 [(0, 1, k), (4, 1, 0xFF), (0x0C, 4, 1), (0x10, 8, 0x100000001000)])
    (withPage (withRegs [(Reg.QUE_RING_CFG 192, 0x104), (Reg.QUE_RING_PTR 192, 2 ^ 32), (Reg.QUE_RING_BASE 192, 0x100000000000),
      (Reg.QUE_CTX_CFG 3, 16 * 2 ^ 16)]))
  { s with que := { s.que with waitRings := [192] } }

/-- The scheduler's read of the descriptor at ring 192's head. -/
def headRead (k : Nat) : State :=
  ((ringState k).applyShadow Reg.QUE_RT_RESERVE).accessRead 3 5 0x100000000000 64 none |>.1

/-- What RequestsAreAcceptedRunAndEnd asks of a descriptor that is read with its lists. -/
def acceptReady (ok : Bool) : Prop :=
  ∃ (s u v w : State) (r : Nat) (d : Bytes), s.running = true ∧ u = s.applyShadow Reg.QUE_RT_RESERVE ∧ u.chooseRing = some r ∧
    u.accessRead (r / 64) 5 (u.headAddr r) 64 none = (v, ⟨0, [], false⟩) ∧ d = v.peek (u.headAddr r) 64 ∧
    (if v.descMask (r / 64) d = 0 then v.readLists (r / 64) d else (v, ⟨0, [], false⟩)) = (w, ⟨0, [], false⟩) ∧
    (w.acceptMask (r / 64) d == 0) = ok

theorem wit_accept : acceptReady true :=
  ⟨ringState 5, _, headRead 5, _, 192, (headRead 5).peek 0x100000000000 64, by decide +kernel, rfl, by decide +kernel,
    pair_of_snd (by decide +kernel), by decide +kernel, pair_of_snd (by decide +kernel), by decide +kernel⟩

theorem wit_refuse : acceptReady false :=
  ⟨ringState 9, _, headRead 9, _, 192, (headRead 9).peek 0x100000000000 64, by decide +kernel, rfl, by decide +kernel,
    pair_of_snd (by decide +kernel), by decide +kernel, pair_of_snd (by decide +kernel), by decide +kernel⟩

/-- A request that waits. -/
def waitingReq (kind deadline : Nat) : Request := { reqOf kind with phase := .waiting, deadline := deadline, ctx := 0 }

/-- What RequestsAreAcceptedRunAndEnd asks of a request that is dispatched. -/
def dispatchReady (h : State → Request → Prop) : Prop :=
  ∃ (s u : State) (r : Nat) (q : Request), s.running = true ∧ s.req r = some q ∧ s.dispatchable r q = true ∧
    s.stillWaits r = false ∧ s.deadlinePassed q = false ∧ s.readBlock r q = (u, ⟨0, [], false⟩) ∧ h u q

theorem wit_dispatch : dispatchReady (fun _ q => q.kind < 0x15 ∧ q.kind ≠ 0x10 ∧ q.kind ≠ 5) :=
  ⟨withPage (withReq (waitingReq 7 0)), _, 5, waitingReq 7 0, by decide +kernel, by decide +kernel, by decide +kernel, by decide +kernel,
    by decide +kernel, pair_of_snd (by decide +kernel), by decide +kernel⟩

theorem wit_dispatch_launch : dispatchReady (fun u q => q.kind = 5 ∧ u.launchRoom q = true) :=
  ⟨withPage (withReq (waitingReq 5 0)), _, 5, waitingReq 5 0, by decide +kernel, by decide +kernel, by decide +kernel, by decide +kernel,
    by decide +kernel, pair_of_snd (by decide +kernel), by decide +kernel⟩

theorem wit_dispatch_gusset : dispatchReady (fun u q => q.kind = 0x10 ∧ u.gusUnit q = some 0) :=
  ⟨withPage (withReq (waitingReq 0x10 0)), _, 5, waitingReq 0x10 0, by decide +kernel, by decide +kernel, by decide +kernel,
    by decide +kernel, by decide +kernel, pair_of_snd (by decide +kernel), by decide +kernel⟩

theorem wit_dispatch_unfound : dispatchReady (fun _ q => 0x15 ≤ q.kind) :=
  ⟨withPage (withReq (waitingReq 0x17 0)), _, 5, waitingReq 0x17 0, by decide +kernel, by decide +kernel, by decide +kernel,
    by decide +kernel, by decide +kernel, pair_of_snd (by decide +kernel), by decide +kernel⟩

theorem wit_deadline : ∃ (s : State) (r : Nat) (q : Request), s.running = true ∧ s.req r = some q ∧ q.phase = .waiting ∧
    s.deadlinePassed q = true :=
  ⟨withReq (waitingReq 5 (2 ^ 64 - 5)), 5, waitingReq 5 (2 ^ 64 - 5), by decide +kernel⟩

/-- A part on Gauntlet 2 whose next command moves 64 bytes to or from its buffer. -/
def stageState (dir : Nat) : State :=
  withMem 0x100000000000 (recOf 32 [(0, 1, 8), (1, 1, dir), (8, 8, 0x100000001000), (0x18, 4, 64)])
    (withPage { (withReq (reqOf 1) (withRegs [(Reg.QUE_BUF_SPLIT, 32)])) with gnt := [(2, gnt0)] })

/-- What RequestsAreAcceptedRunAndEnd asks of a stage in direction `dir`. -/
def stageReady (dir : Nat) : Prop :=
  ∃ (u v w : State) (q : Request) (x : Part) (d : Bytes) (ws : List (Nat × Nat)) (l : Bool),
    (stageState dir).cmdAt u 5 0 8 true q x 2 ∧ d = u.peek x.addr 32 ∧ u.stageMask q.ctx d = 0 ∧
    stageMayStart (u.gntOf 2) x d = true ∧ fieldLE d 1 1 = dir ∧
    (if dir = 0 then u.guardSlots 2 [(fieldLE d 4 4, fieldLE d 0x18 4)] none else (u, true)) = (v, true) ∧
    v.mayAccess q.ctx 0 (fieldLE d 8 8) (fieldLE d 0x18 4) (dir == 1) = true ∧
    (v.drawAll q.ctx 0 (fieldLE d 8 8) (fieldLE d 0x18 4) (dir == 1)).stageAccess q 2 5 dir (fieldLE d 8 8) (fieldLE d 0x18 4) .clean =
      (w, ⟨0, ws, l⟩) ∧ w.req 5 = some q

/-- The machine when the stage command has been read. -/
def stageRead (dir : Nat) : State := cmdRead (stageState dir) 32

theorem wit_stage_in : stageReady 0 :=
  ⟨stageRead 0, _, _, reqOf 1, part0, (stageRead 0).peek 0x100000000000 32, [], false, cmdAt_cmdRead (by decide +kernel) rfl (by decide +kernel),
    rfl, by decide +kernel, by decide +kernel, by decide +kernel, pair_of_snd (by decide +kernel), by decide +kernel,
    pair_of_snd (by decide +kernel), by decide +kernel⟩

theorem wit_stage_out : stageReady 1 :=
  ⟨stageRead 1, _, _, reqOf 1, part0, (stageRead 1).peek 0x100000000000 32, [], false, cmdAt_cmdRead (by decide +kernel) rfl (by decide +kernel),
    rfl, by decide +kernel, by decide +kernel, by decide +kernel, pair_of_snd (by decide +kernel), by decide +kernel,
    pair_of_snd (by decide +kernel), by decide +kernel⟩

/-- A COPY request of 64 bytes. -/
def copyState : State :=
  withMem 0x100000000000 (recOf 32 [(0, 1, 8), (1, 1, 2), (8, 8, 0x100000001000), (0x10, 8, 0x100000002000), (0x18, 4, 64)])
    (withPage (withReq (reqOf 7)))

/-- The machine when the copy command has been read. -/
def copyRead : State := cmdRead copyState 32

theorem wit_copy : ∃ (s u w : State) (q : Request) (x : Part) (d : Bytes) (ws : List (Nat × Nat)) (l : Bool), s.running = true ∧
    s.copyReady 5 0 = some (q, x) ∧ s.readMade u q.ctx 5 x.addr 32 5 ∧ u.copyReady 5 0 = some (q, x) ∧ d = u.peek x.addr 32 ∧
    fieldLE d 0 1 = 8 ∧ copyBad d = false ∧ u.mayAccess q.ctx 5 0x100000001000 64 false = true ∧
    u.mayAccess q.ctx 5 0x100000002000 64 true = true ∧
    ((u.drawAll q.ctx 5 0x100000001000 64 false).drawAll q.ctx 5 0x100000002000 64 true).copyAccess q 5 0x100000001000
      0x100000002000 64 .clean = (w, ⟨0, ws, l⟩) ∧ w.req 5 = some q :=
  ⟨copyState, copyRead, _, reqOf 7, part0, copyRead.peek 0x100000000000 32, [], false, by decide +kernel, by decide +kernel,
    pair_of_snd (by decide +kernel), by decide +kernel, rfl, by decide +kernel, by decide +kernel, by decide +kernel, by decide +kernel,
    pair_of_snd (by decide +kernel), by decide +kernel⟩

/-- The part with one transfer into its buffer in progress. -/
def staged : Part := { part0 with stages := [⟨0, 0, 0, 0x100000001000, 0, 64, 0⟩] }

def stagedReq : Request := { reqOf 1 with parts := [staged] }

def stagedState : State := withReq stagedReq (stageState 0)

theorem wit_stage_done : ∃ (s u v : State) (r p i : Nat) (q : Request) (x : Part) (j : StageJob), s.running = true ∧
    s.req r = some q ∧ q.parts[p]? = some x ∧ x.stages.find? (fun j => j.idx == i) = some j ∧ q.ending = none ∧
    x.next < x.stop ∧ s.umr.waits.any (fun w => w.req == r && w.part == p && w.idx == i) = false ∧
    s.movePrep q x r j = (u, ⟨0, [], false⟩) ∧ u.moveBytes q x r j = (v, 0) ∧ v.req r = some q ∧
    (∀ g, x.unit = some g → v.quarantined (0x10 + g) = false) :=
  ⟨stagedState, stagedState, (stagedState.moveBytes stagedReq staged 5 ⟨0, 0, 0, 0x100000001000, 0, 64, 0⟩).1,
    5, 0, 0, stagedReq, staged, ⟨0, 0, 0, 0x100000001000, 0, 64, 0⟩, by decide +kernel, by decide +kernel, by decide +kernel,
    by decide +kernel, by decide +kernel, by decide +kernel, by decide +kernel, rfl, pair_of_snd (by decide +kernel),
    by decide +kernel, by intro g hg; cases hg; decide +kernel⟩

theorem wit_noop : ∃ (s : State) (r : Nat) (q : Request), s.running = true ∧ s.req r = some q ∧ q.kind = 8 ∧
    q.schedOp = 0x0D ∧ q.phase = .running :=
  ⟨withReq { reqOf 8 with schedOp := 0x0D }, 5, { reqOf 8 with schedOp := 0x0D }, by decide +kernel⟩

/-- A cancel of TAG 9 that covers one waiting request. -/
def cancelReq : Request := { reqOf 8 with schedOp := 0x0C, schedTag := 9, tails := [(0, 1)] }

theorem wit_cancel : ∃ (s : State) (r : Nat) (q : Request), s.running = true ∧ s.req r = some q ∧ q.kind = 8 ∧
    q.schedOp = 0x0C ∧ q.phase = .running ∧ q.covers = [] ∧
    (∀ e ∈ s.cancelCovers r q, s.req e.1 = some e.2 ∧ e.2.phase = .waiting) ∧ s.cancelCovers r q ≠ [] :=
  ⟨(withReq cancelReq).putReq 4 { waitingReq 5 0 with ctx := 3, tag := 9 }, 5, cancelReq, by decide +kernel⟩

/-! ### SlotsPreemptionAndContexts -/

/-- A running cadence table, of frames of 250 µs, with valid slot 7 for context 3 in its first 10 µs; frame 0 is over. -/
def slotState : State :=
  withRegs [(Reg.CAD_CTRL, 1), (Reg.CAD_FRAME0, 250), (Reg.CAD_SLOT_LO 0 7, 2 ^ 40 + 3 * 2 ^ 32 + 10 * 2 ^ 16)]

theorem wit_slot : ∃ (s : State) (n : Fin 256), s.running = true ∧ s.slotLive n = true ∧ n.val ∉ s.que.open_ ∧
    n.val ∉ s.que.lead ∧ s.leadDue n = true ∧ s.slotDue n = true :=
  ⟨slotState, 7, by decide +kernel⟩

theorem wit_slot_end : ∃ (s : State) (n : Fin 256), s.running = true ∧ n.val ∈ s.que.open_ ∧ s.slotLive n = false :=
  ⟨{ State.reset with que := { State.reset.que with open_ := [7] } }, 7, by decide +kernel⟩

/-- The cadence 250 µs after its first frame began. -/
def frameOver : State := { slotState with time := { State.reset.time with tb0 := { State.reset.time.tb0 with val := 250000 * 2 ^ 32 } } }

theorem wit_frame : ∃ s u : State, s.running = true ∧ u = s.applyShadows 0xA800000 0xA803000 ∧ s.bit Reg.CAD_CTRL 0 = true ∧
    s.boundaryDue = true ∧ u.bit Reg.CAD_CTRL 0 = true ∧ u.bit Reg.CAD_CTRL 2 = false ∧ u.que.cadResync = false ∧
    u.que.cadFirst = false ∧ u.que.cadNext = none ∧ u.que.cadShift = 0 ∧ 0 ≤ u.sinceFrame (u.regN Reg.CAD_FRAME_CNT + 1) :=
  ⟨frameOver, frameOver.applyShadows 0xA800000 0xA803000, by decide +kernel, rfl, by decide +kernel⟩

theorem wit_cad_switch : State.reset.shadow.find Reg.CAD_CTRL = none ∧
    { State.reset with shadow := [(Reg.CAD_CTRL, some 1#64)] }.shadow.find Reg.CAD_CTRL = some 1#64 := by
  decide +kernel

theorem wit_banks : ∃ s : State, s.running = true ∧ (s.gntOf 2).phase = 2 ∧ (s.gntOf 3).phase = 3 ∧
    s.claimer 3 = none :=
  ⟨{ State.reset with gnt := [(2, { gnt0 with phase := 2 }), (3, { gnt0 with phase := 3 })] }, by decide +kernel⟩

theorem wit_resume : ∃ (s : State) (g : Fin 16) (rp : Nat × Nat) (q : Request), s.running = true ∧
    (s.gntOf g).parked = some rp ∧ s.req rp.1 = some q ∧ (s.gntOf g).owner = none ∧ (s.gntOf g).tile = none ∧
    (s.gntOf g).phase = 0 ∧ s.cadAllows q.ctx g = true :=
  ⟨{ withReq (reqOf 1) with gnt := [(2, { Gnt.idle with parked := some (5, 0) })] }, 2, (5, 0), reqOf 1, by decide +kernel⟩

theorem wit_teardown : ∃ (s : State) (c : Fin 256), s.running = true ∧ s.fld (Reg.QUE_CTX_STATE c) 0 2 = 2 ∧ s.inflightOf c = 0 :=
  ⟨withRegs [(Reg.QUE_CTX_STATE 3, 2)], 3, by decide +kernel⟩

theorem wit_context_reset : ∃ (s : State) (c : Fin 256), s.fld (Reg.QUE_CTX_STATE c) 0 2 = 3 :=
  ⟨withRegs [(Reg.QUE_CTX_STATE 3, 3)], 3, by decide +kernel⟩

theorem wit_ctx_event : ∃ (s : State) (c : Fin 256) (e : Nat) (es : List Nat), SMap.get (fun _ => []) s.que.events c = e :: es ∧
    es.length < 65536 :=
  ⟨{ State.reset with que := { State.reset.que with events := [(3, [8, 9])] } }, 3, 8, [9], by decide +kernel⟩

/-! ### SensorDataBecomesSamples -/

/-- A raw SPI, audio, CSI or ETH stream 1 that feeds pipeline 0, which runs with a pool of 1 MiB. -/
def streamState (ty : Nat) : State :=
  withRegs [(Reg.VIS_STR_CFG 1, 1 + ty * 2), (Reg.VIS_PIPE_STATE 0, 1), (Reg.VIS_PIPE_IN 0, 2 ^ 48)]

/-- Sixteen bytes. -/
def data16 : SensorData :=
  { bytes := List.replicate 16 7, cause := 0, width := 4, height := 4, chroma := 0, deep := false, irap := true, order := 0, status := 0,
    age := 10 }

/-- The state with a stamp taken on stream 1. -/
def stamped (ty : Nat) : State := (streamState ty).setVstr 1 { VStream.idle with stamp := some (77, 0) }

theorem wit_streams_live : (streamState 0).running = true ∧ (streamState 0).strLive 1 0 = true ∧
    ((streamState 0).vstr 1).stamp = none ∧ (streamState 1).strLive 1 1 = true ∧ (streamState 2).strLive 1 2 = true ∧
    (streamState 3).strLive 1 3 = true ∧ (streamState 3).poolRoom 0 data16.bytes.length = true ∧
    (withRegs [(Reg.VIS_PIPE_IN 0, 0)]).poolRoom 0 1 = false := by
  decide +kernel

theorem wit_streams_stamped : (stamped 0).running = true ∧ (stamped 0).strLive 1 0 = true ∧
    ((stamped 0).vstr 1).stamp = some (77, 0) ∧ (stamped 2).strLive 1 2 = true ∧
    ((stamped 2).vstr 1).stamp = some (77, 0) := by
  decide +kernel

/-! ### PipelinesTakePlaceEmitAndStop -/

/-- A sample of stream 1 with a KIND, a progress and a place. -/
def samp (kind st : Nat) (pos : Option (Nat × Nat × Nat)) : VSample :=
  { stream := 1, seq := 4, kind := kind, sub := 0xFF, stamp := 5, tb := 0, epoch := 0, data := data16, lead := 4, box := [],
    items := 1, pos := pos, st := st, out := [], trunc := false, replayed := false, w := 4, h := 4 }

/-- A batch with that sample placed at 0 ns. -/
def batch (closed : Bool) : VBatch :=
  { seq := 0, tags := [tagOf 1 4], fills := [1], first := some 0, closed := closed, flags := 0 }

/-- Pipeline 0, which stream 1 feeds, in a STATE with one free slot, with samples and batches; 2 ms have gone by. -/
def pipeAt (st : Nat) (v : VPipe) : State :=
  { (withRegs [(Reg.VIS_STR_CFG 1, 1), (Reg.VIS_PIPE_STATE 0, st + 256), (Reg.VIS_PIPE_TIMEOUT 0, 1)]).setVpipe 0 v with
    time := { State.reset.time with tb0 := { State.reset.time.tb0 with val := 2000000 * 2 ^ 32 } } }

/-- A picture in the decoder, placed in the open batch. -/
def decoding : State := pipeAt 1 { VPipe.idle with samples := [samp 1 1 (some (0, 0, 0))], batches := [batch false] }

/-- A decoder result with a cause. -/
def picWith (c : Nat) : DecodedPicture := { cause := c, status := 0, picture := [], colour := 0, full := false }

theorem wit_picture_decoded : decoding.running = true ∧ decoding.leaving (1 : Fin 48) = some (samp 1 1 (some (0, 0, 0))) ∧
    (picWith 0).cause = 0 ∧ (picWith 5).cause ≠ 0 ∧ (samp 1 1 (some (0, 0, 0))).pos = some (0, 0, 0) ∧
    decoding.pipeState (decoding.strPipe 1) = 1 ∧ (decoding.vpipe (decoding.strPipe 1)).restart = none ∧
    (decoding.vpipe (decoding.strPipe 1)).samples.filter (fun y => y.mate (samp 1 1 (some (0, 0, 0))) && y.st == 1) =
      [samp 1 1 (some (0, 0, 0))] ∧
    (decoding.vpipe (decoding.strPipe 1)).samples.find? (fun y => y.tag == (samp 1 1 (some (0, 0, 0))).tag) =
      some (samp 1 1 (some (0, 0, 0))) := by
  decide +kernel

/-- A text that waits for the tokenizer. -/
def texting : State := pipeAt 1 { VPipe.idle with samples := [samp 0 0 none], batches := [batch false] }

theorem wit_text : texting.running = true ∧
    (texting.vpipe (texting.strPipe 1)).samples.find? (fun y => y.stream == (1 : Fin 48).val && y.kind == 0 && y.pos.isNone) =
      some (samp 0 0 none) ∧
    (if (texting.vpipe (texting.strPipe 1)).restart.isSome then
      (texting.vpipe (texting.strPipe 1)).replay.head? = some (samp 0 0 none).tag
      else texting.pipeState (texting.strPipe 1) = 1) := by
  decide +kernel

theorem wit_timeout : (decoding.vpipe 0).batches.getLast? = some (batch false) ∧ (batch false).first = some 0 ∧
    decoding.fld (Reg.VIS_PIPE_TIMEOUT 0) 0 20 ≠ 0 ∧ decoding.placing 0 = true ∧ (batch false).closed = false ∧
    decoding.fld (Reg.VIS_PIPE_TIMEOUT 0) 0 20 * 1000 ≤ decoding.now - 0 := by
  decide +kernel

/-- A closed batch whose one sample is complete. -/
def emitting : State :=
  withPage (withRegs [(Reg.VIS_PIPE_OUT 0, 0x100000000000)]
    (pipeAt 1 { VPipe.idle with samples := [samp 4 2 (some (0, 0, 0))], batches := [batch true, batch false] }))

theorem wit_emit : ∃ u : State, emitting.running = true ∧ (emitting.vpipe 0).batches = batch true :: [batch false] ∧
    emitting.pipeState 0 ≠ 0 ∧ (batch true).closed = true ∧ emitting.fld (Reg.VIS_PIPE_STATE 0) 8 8 ≠ 0 ∧
    ((emitting.vpipe 0).emitted (batch true)).all (fun x => x.1.st == 2) = true ∧
    ((emitting.vpipe 0).emitted (batch true)).length = 1 ∧
    emitting.devPrep (emitting.fld (Reg.VIS_PIPE_OUT 0) 0 48 + (emitting.vpipe 0).slot * (emitting.slotLayout 0).2.2)
      (emitting.slotLayout 0).2.2 = (u, ⟨0, [], false⟩) :=
  ⟨_, by decide +kernel, by decide +kernel, by decide +kernel, by decide +kernel, by decide +kernel, by decide +kernel, by decide +kernel,
    pair_of_snd (by decide +kernel)⟩

/-- A pipeline that has emitted everything before its cut, and one that has replayed everything. -/
def stopping : State := pipeAt 2 { VPipe.idle with cut := some (0, 0), why := (0x0D, 5, 7) }
def replayed : State := pipeAt 3 { VPipe.idle with restart := some 5 }

theorem wit_stop_and_replay : stopping.running = true ∧ stopping.pipeState 0 = 2 ∧ (stopping.vpipe 0).batches = [] ∧
    replayed.running = true ∧ (replayed.vpipe 0).restart = some 5 ∧ (replayed.vpipe 0).replay = [] := by
  decide +kernel

/-! ### StreamsAndPipelinesAreEnabled -/

theorem wit_enables : State.reset.bit (Reg.VIS_STR_CFG 1) 0 = false ∧ (1#64).getLsbD 0 = true ∧
    (streamState 0).bit (Reg.VIS_STR_CFG 1) 0 = true ∧ (0#64).getLsbD 0 = false ∧
    State.reset.bit (Reg.VIS_PIPE_CFG 1) 0 = false ∧ (withRegs [(Reg.VIS_PIPE_CFG 1, 1)]).bit (Reg.VIS_PIPE_CFG 1) 0 = true ∧
    ((withRegs [(Reg.VIS_PIPE_CFG 1, 1)]).vpipe 1).restart = none ∧ ((withRegs [(Reg.VIS_PIPE_CFG 1, 1)]).vpipe 1).stopReq = none := by
  decide +kernel

/-- Pipeline 1 with a sound shape: rows of 64 items of 4 bytes, 1 row, patches of 8, 2 slots. -/
def shaped : State := withRegs [(Reg.VIS_PIPE_STATE 0, 1), (Reg.VIS_PIPE_SHAPE 1, 64 + 2 ^ 17 + 4 * 2 ^ 26 + 8 * 2 ^ 40 + 2 * 2 ^ 48)]

theorem wit_sound : shaped.pipeSound 1 = true ∧ (withRegs [(Reg.VIS_PIPE_SHAPE 1, 0)]).pipeSound 1 = false ∧ shaped.streamMask 1 3 = 0 ∧
    shaped.streamMask 1 15 ≠ 0 := by
  decide +kernel

/-! ### IntakeCommandsComplete -/

/-- The state with an intake command at the first address of the unified range, over another state. -/
def visState (d : Bytes) (s : State) : State :=
  withReq (reqOf 0x12) (withMem 0x100000000000 d (withPage s))

/-- A STOP or a FLUSH of pipeline 0, and a state that holds it: the pipeline runs with one open batch. -/
def ctlRec (op : Nat) : Bytes := recOf 32 [(0, 1, 0x90), (1, 1, op)]
def ctlState (op : Nat) : State :=
  visState (ctlRec op) ((withRegs [(Reg.VIS_PIPE_STATE 0, 1)]).setVpipe 0 { VPipe.idle with batches := [batch false] })

/-- PIPE_CTL for pipeline 0, over a pipeline in a STATE. -/
def pipeCmd (op st : Nat) : State :=
  visState (recOf 32 [(0, 1, 0x90), (1, 1, op), (4, 4, 4 + 2 ^ 26)])
    ((withRegs [(Reg.VIS_PIPE_STATE 0, st), (Reg.VIS_STR_CFG 1, 1), (Reg.VIS_STR_SEQ 1, 5)]).setVpipe 0
      { VPipe.idle with batches := [batch false] })

/-- Its record. -/
def pipeRec (op : Nat) : Bytes := recOf 32 [(0, 1, 0x90), (1, 1, op), (4, 4, 4 + 2 ^ 26)]

theorem wit_pipe_stop : ∃ (s u : State) (r : Nat) (q : Request) (d : Bytes), s.visAt r 0x90 q d ∧
    s.engineReads r q 4 [] [] true = (u, .ready) ∧ fieldLE d 1 1 = 2 ∧ (u.vpipe (fieldLE d 2 1)).restart = none ∧
    (u.vpipe (fieldLE d 2 1)).batches.getLast? = some (batch false) :=
  ⟨ctlState 2, _, 5, reqOf 0x12, ctlRec 2,
    ⟨⟨by decide +kernel, by decide +kernel⟩, by decide +kernel⟩, pair_of_snd (by decide +kernel), by decide +kernel⟩

theorem wit_pipe_flush : ∃ (s u : State) (r : Nat) (q : Request) (d : Bytes), s.visAt r 0x90 q d ∧
    s.engineReads r q 4 [] [] true = (u, .ready) ∧ fieldLE d 1 1 = 3 ∧ (u.vpipe (fieldLE d 2 1)).restart = none ∧
    (u.vpipe (fieldLE d 2 1)).batches.getLast? = some (batch false) :=
  ⟨ctlState 3, _, 5, reqOf 0x12, ctlRec 3,
    ⟨⟨by decide +kernel, by decide +kernel⟩, by decide +kernel⟩, pair_of_snd (by decide +kernel), by decide +kernel⟩

theorem wit_pipe_restart : ∃ (s u : State) (r : Nat) (q : Request) (d : Bytes), s.visAt r 0x90 q d ∧
    s.engineReads r q 4 [] [] true = (u, .ready) ∧ fieldLE d 1 1 = 1 :=
  ⟨pipeCmd 1 3, _, 5, reqOf 0x12, pipeRec 1,
    ⟨⟨by decide +kernel, by decide +kernel⟩, by decide +kernel⟩, pair_of_snd (by decide +kernel), by decide +kernel⟩

/-- An ROI_SET of no box and of one box. -/
def roiRec (n : Nat) : Bytes := recOf 32 [(0, 1, 0x91), (1, 1, 1), (2, 1, n), (8, 8, 0x100000000400)]

theorem wit_roi_set : ∃ (s u : State) (r : Nat) (q : Request) (d : Bytes), s.visAt r 0x91 q d ∧
    s.engineReads r q 4 [(fieldLE d 8 8, 32 * fieldLE d 2 1)] [] true = (u, .ready) ∧ fieldLE d 2 1 = 1 ∧
    (∀ i, i < fieldLE d 2 1 → fieldLE (u.peek (fieldLE d 8 8) (32 * fieldLE d 2 1)) (32 * i + 24) 8 = 0) :=
  ⟨visState (roiRec 1) (streamState 0), _, 5, reqOf 0x12, roiRec 1,
    ⟨⟨by decide +kernel, by decide +kernel⟩, by decide +kernel⟩, pair_of_snd (by decide +kernel), by decide +kernel⟩

/-- A text of three bytes for stream 1. -/
def textRec : Bytes :=
  recOf 32 [(0, 1, 0x92), (1, 1, 1), (4, 4, 3), (8, 8, 0x100000000400), (0x10, 8, 0x100000000800)]

theorem wit_text_cmd : ∃ (s u : State) (r : Nat) (q : Request) (d : Bytes), s.visAt r 0x92 q d ∧
    s.engineReads r q 4 [(fieldLE d 8 8, fieldLE d 4 4)] [(fieldLE d 0x10 8, 4)] true = (u, .ready) ∧
    u.poolRoom (u.strPipe (fieldLE d 1 1)) (fieldLE d 4 4) = true ∧
    (State.engineWrite (u, 0) r q 4 (fieldLE d 0x10 8)
      (natLE 4 (tagOf (fieldLE d 1 1) (u.fld (Reg.VIS_STR_SEQ (fieldLE d 1 1)) 0 26)))).2 = 0 :=
  ⟨visState textRec (streamState 4), _, 5, reqOf 0x12, textRec,
    ⟨⟨by decide +kernel, by decide +kernel⟩, by decide +kernel⟩, pair_of_snd (by decide +kernel), by decide +kernel⟩

/-- A dictionary of one word "a" with id 5. -/
def dict0 : Bytes :=
  let b := recOf 192 [(0, 4, 0x544B4456), (4, 1, 1), (5, 1, 1), (8, 4, 1), (0x10, 4, 64), (0x14, 4, 128), (0x18, 4, 1), (64 + 4, 2, 1),
    (64 + 8, 4, 5), (128, 1, 0x61)]
  setFieldLE b 0x1C 4 (crc32c b)

/-- A DICT_LOAD of it into bank 1. -/
def dictRec : Bytes := recOf 32 [(0, 1, 0x93), (1, 1, 1), (4, 4, 192), (8, 8, 0x100000000400)]

theorem wit_dict : ∃ (s u : State) (r : Nat) (q : Request) (d : Bytes), s.visAt r 0x93 q d ∧
    s.engineReads r q 4 [(fieldLE d 8 8, fieldLE d 4 4)] [] true = (u, .ready) ∧
    dictOk (u.peek (fieldLE d 8 8) (fieldLE d 4 4)) = true :=
  ⟨withMem 0x100000000400 dict0 (visState dictRec State.reset), _, 5, reqOf 0x12, dictRec,
    ⟨⟨by decide +kernel, by decide +kernel⟩, by decide +kernel⟩, pair_of_snd (by decide +kernel), by decide +kernel⟩

/-! ### TimeBasesStepSetAndRead -/

theorem wit_steps : (1 : Fin 4) ≠ 0 ∧
    (let s := withRegs [(Reg.TB_STEP_ADJ 1, 5)]
     let u := s.stepLimit 1
     (u.baseFor 1 false).refusal (((u.baseFor 1 false).val : Int) + signed 64 (u.regN (Reg.TB_STEP_ADJ 1)) * 2 ^ 16) = 0) ∧
    (State.reset.baseFor 1 false).refusal (-1) = 1 ∧
    (let x : TimeBase := { State.reset.time.tb1 with isSet := true }
     x.refusal (2 ^ 80) = 2 ∧ { x with allowJump := true }.refusal (2 ^ 80) = 0 ∧ x.refusal (1000000 * 2 ^ 32) = 0 ∧
     x.refusal (1000000 * 2 ^ 32 + 1) = 2) := by
  decide +kernel

/-- An edge in the FIFO. -/
def edge0 : EdgeEntry := { gpio := 3, rising := true, tb := 1, sec := 2, ns := 4, epoch := 0 }

theorem wit_edges : State.reset.edges = [] ∧ { State.reset with edges := [edge0] }.edges = edge0 :: [] := by decide +kernel

/-- A device whose gPTP instance 0 drives TB1, its port 0 set to be slave. -/
def slave : State := ((State.reset.setDictN 0x1C00 1 1).setDictN 0x1C00 3 1).setDictN 0x1C00 6 2

/-- The same device with TB1 set. -/
def slaveSet : State := slave.putBase 1 { slave.time.tb1 with isSet := true }

theorem wit_sync_rx : slave.running = true ∧ slave.gptpEntry 0 1 ≠ 0 ∧ (slave.gptpRole 0).contains 2 = true ∧
    1 ≤ slave.gptpEntry 0 3 ∧ slave.gptpEntry 0 3 ≤ 3 ∧ (slave.stepLimit 1).gptpHold.testBit 1 = false ∧
    slaveSet.running = true ∧ slaveSet.gptpEntry 0 1 ≠ 0 ∧ (slaveSet.gptpRole 0).contains 2 = true ∧
    slaveSet.gptpEntry 0 3 = 1 ∧ ((slaveSet.stepLimit 1).time.get 1).isSet = true ∧
    ((slaveSet.stepLimit 1).time.get 1).allowJump = false ∧
    (((slaveSet.stepLimit 1).time.get 1).jumpLimit : Int) < (slaveSet.gptpOffset 0 2000000).natAbs := by
  decide +kernel

/-! ### EdgesOutputsComparesAndGptp -/

/-- Edges enabled on GPIO 3, an output channel and a compare unit whose instants have been reached, gPTP instance 0 on. -/
def timed : State :=
  { withRegs [(Reg.TB_IN_CFG 3, 3), (Reg.TB_OUT_CFG 1, 1), (Reg.TB_OUT_PERIOD 1, 100), (Reg.TB_CMP_CFG 2, 1)]
      (State.reset.setDictN 0x1C00 1 1) with
    cmpArmed := 4 }

theorem wit_timed : timed.running = true ∧
    (timed.applyShadow (Reg.TB_IN_CFG 3)).bit (Reg.TB_IN_CFG 3) 0 = true ∧ timed.edges.length < 256 ∧
    ((timed.applyShadow (Reg.TB_OUT_PERIOD 1)).regN (Reg.TB_OUT_CFG 1)).testBit 0 = true ∧
    SMap.get (fun _ => 0) (timed.applyShadow (Reg.TB_OUT_PERIOD 1)).outNext 1 = 0 ∧
    due (timed.nowOf 0) (timed.regN (Reg.TB_OUT_START 1)) = true ∧
    timed.cmpArmed.testBit 2 = true ∧ timed.bit (Reg.TB_CMP_CFG 2) 0 = true ∧
    due (timed.nowOf (timed.fld (Reg.TB_CMP_CFG 2) 1 2)) (timed.regN (Reg.TB_CMP_TARGET 2)) = true ∧
    timed.gptpEntry 0 1 ≠ 0 ∧ bits (timed.gptpEntry 0 6) 0 2 ≠ 3 ∧ (timed.gptpRole 0).contains 1 = true := by
  decide +kernel

/-! ### AlignAndTrackCommandsRun -/

/-- The state with an Align and Track command at the first address of the unified range, over another state. -/
def atuState (d : Bytes) (s : State := State.reset) : State :=
  withReq (reqOf 0x13) (withMem 0x100000000000 d (withPage s))

/-- What its commands need: the unit and its inputs. -/
def atuReads (d : Bytes) (s : State) (ins outs : List (Nat × Nat)) : State :=
  (((atuState d s).atuTake 5 (reqOf 0x13)).engineReads 5 (reqOf 0x13) 4 ins outs true).1

/-- A PUSH of one sample to the enabled channel 2. -/
def pushRec : Bytes := recOf 64 [(0, 1, 0x99), (1, 1, 2), (2, 1, 1), (8, 8, 0x100000000400)]

theorem wit_push : (atuState pushRec (withRegs [(Reg.ATU_CH_CFG 2, 1)])).atuAt 5 0x99 (reqOf 0x13) pushRec
      [(fieldLE pushRec 8 8, 80 * fieldLE pushRec 2 1)] []
      (atuReads pushRec (withRegs [(Reg.ATU_CH_CFG 2, 1)]) [(fieldLE pushRec 8 8, 80 * fieldLE pushRec 2 1)] []) ∧
    (let xs := pushSamples (fieldLE pushRec 2 1) ((atuReads pushRec (withRegs [(Reg.ATU_CH_CFG 2, 1)])
        [(fieldLE pushRec 8 8, 80 * fieldLE pushRec 2 1)] []).peek (fieldLE pushRec 8 8) (80 * fieldLE pushRec 2 1))
     xs.any (fun x => !time96Valid x.1) = false ∧ xs.any (fun x => x.2.2.1 != 0) = false) :=
  ⟨⟨by decide +kernel, by decide +kernel, by decide +kernel, by decide +kernel, by decide +kernel, by decide +kernel,
    by decide +kernel, pair_of_snd (by decide +kernel)⟩, by decide +kernel⟩

/-- An ALIGN of channel 0 to instant 0. -/
def alignRec : Bytes := recOf 64 [(0, 1, 0x98), (1, 1, State.reset.chanTb 0), (0x10, 8, 1), (0x20, 8, 0x100000000400)]

theorem wit_align : (atuState alignRec).atuAt 5 0x98 (reqOf 0x13) alignRec [] (alignOuts alignRec)
      (atuReads alignRec State.reset [] (alignOuts alignRec)) ∧
    (let v := each (maskChans (fieldLE alignRec 0x10 8)) (fun x c => x.carryChan c)
        (atuReads alignRec State.reset [] (alignOuts alignRec))
     (State.engineWrite (v, 0) 5 (reqOf 0x13) 4 (fieldLE alignRec 0x20 8) (v.alignOut alignRec)).2 = 0) :=
  ⟨⟨by decide +kernel, by decide +kernel, by decide +kernel, by decide +kernel, by decide +kernel, by decide +kernel,
    by decide +kernel, pair_of_snd (by decide +kernel)⟩, by decide +kernel⟩

/-- RESET with an OP, of channel 3. -/
def resetRec (op : Nat) : Bytes := recOf 64 [(0, 1, 0x9C), (1, 1, op), (2, 1, if op = 2 then 3 else 0)]

theorem wit_rebase : (atuState (resetRec 2)).atuAt 5 0x9C (reqOf 0x13) (resetRec 2) [] []
    (atuReads (resetRec 2) State.reset [] []) ∧ fieldLE (resetRec 2) 1 1 = 2 :=
  ⟨⟨by decide +kernel, by decide +kernel, by decide +kernel, by decide +kernel, by decide +kernel, by decide +kernel,
    by decide +kernel, pair_of_snd (by decide +kernel)⟩, by decide +kernel⟩

theorem wit_table_clear : (atuState (resetRec 1)).atuAt 5 0x9C (reqOf 0x13) (resetRec 1) [] []
    (atuReads (resetRec 1) State.reset [] []) ∧ fieldLE (resetRec 1) 1 1 = 1 :=
  ⟨⟨by decide +kernel, by decide +kernel, by decide +kernel, by decide +kernel, by decide +kernel, by decide +kernel,
    by decide +kernel, pair_of_snd (by decide +kernel)⟩, by decide +kernel⟩

/-- A TRACK_UPDATE of one detection, with a channel. -/
def updateRec (ch : Nat) : Bytes :=
  recOf 64 [(0, 1, 0x9A), (3, 1, ch), (0x10, 2, 1), (0x18, 8, 0x100000000400), (0x28, 8, 0x100000000800)]

theorem wit_track_update : (atuState (updateRec 0xFF)).atuAt 5 0x9A (reqOf 0x13) (updateRec 0xFF) (trackIns (updateRec 0xFF))
      (trackOuts (updateRec 0xFF))
      (atuReads (updateRec 0xFF) State.reset (trackIns (updateRec 0xFF)) (trackOuts (updateRec 0xFF))) ∧
    ¬ (fieldLE (updateRec 0xFF) 3 1 ≠ 0xFF) ∧
    (let w := (atuReads (updateRec 0xFF) State.reset (trackIns (updateRec 0xFF)) (trackOuts (updateRec 0xFF))).trackShadows
     (State.engineWrite (w, 0) 5 (reqOf 0x13) 4 (fieldLE (updateRec 0xFF) 0x28 8)
       (assocBytes (w.trackResult (updateRec 0xFF)).1.slots)).2 = 0) :=
  ⟨⟨by decide +kernel, by decide +kernel, by decide +kernel, by decide +kernel, by decide +kernel, by decide +kernel,
    by decide +kernel, pair_of_snd (by decide +kernel)⟩, by decide +kernel⟩

/-- A device whose channel 3 is DESYNC. -/
def desynced : State := State.reset.setChan 3 { AtuChan.idle with desync := true }

theorem wit_track_desync : (atuState (updateRec 3) desynced).atuAt 5 0x9A (reqOf 0x13) (updateRec 3) (trackIns (updateRec 3))
      (trackOuts (updateRec 3)) (atuReads (updateRec 3) desynced (trackIns (updateRec 3)) (trackOuts (updateRec 3))) ∧
    fieldLE (updateRec 3) 3 1 ≠ 0xFF ∧
    ((atuReads (updateRec 3) desynced (trackIns (updateRec 3)) (trackOuts (updateRec 3))).chan 3).desync = true ∧
    (State.engineWrite (atuReads (updateRec 3) desynced (trackIns (updateRec 3)) (trackOuts (updateRec 3)), 0) 5 (reqOf 0x13) 4
      (fieldLE (updateRec 3) 0x28 8) (assocBytes (List.replicate (fieldLE (updateRec 3) 0x10 2) none))).2 = 0 :=
  ⟨⟨by decide +kernel, by decide +kernel, by decide +kernel, by decide +kernel, by decide +kernel, by decide +kernel,
    by decide +kernel, pair_of_snd (by decide +kernel)⟩, by decide +kernel⟩

/-- A TRACK_READ. -/
def trackReadRec : Bytes := recOf 64 [(0, 1, 0x9B), (8, 8, 0x100000000400)]

theorem wit_track_read : (atuState trackReadRec).atuAt 5 0x9B (reqOf 0x13) trackReadRec []
      [(fieldLE trackReadRec 8 8, 16 + 256 * (atuState trackReadRec).atu.tracks.entries.length)]
      (atuReads trackReadRec State.reset []
        [(fieldLE trackReadRec 8 8, 16 + 256 * (atuState trackReadRec).atu.tracks.entries.length)]) ∧
    (State.engineWrite (atuReads trackReadRec State.reset []
        [(fieldLE trackReadRec 8 8, 16 + 256 * (atuState trackReadRec).atu.tracks.entries.length)], 0) 5 (reqOf 0x13) 4
      (fieldLE trackReadRec 8 8) (atuReads trackReadRec State.reset []
        [(fieldLE trackReadRec 8 8, 16 + 256 * (atuState trackReadRec).atu.tracks.entries.length)]).tableBytes).2 = 0 :=
  ⟨⟨by decide +kernel, by decide +kernel, by decide +kernel, by decide +kernel, by decide +kernel, by decide +kernel,
    by decide +kernel, pair_of_snd (by decide +kernel)⟩, by decide +kernel⟩

theorem wit_channel_enable : State.reset.bit (Reg.ATU_CH_CFG 3) 0 = false ∧ (1#64).getLsbD 0 = true ∧ (1#64).getLsbD 1 = false ∧
    (0x103#64).getLsbD 0 = true ∧ (0x103#64).getLsbD 1 = true ∧
    bits (0x103#64).toNat 8 2 ≠ State.reset.fld (Reg.VIS_STR_CFG (bits (0x103#64).toNat 2 6)) 28 2 := by
  decide +kernel

/-! ### ControlLoopsSampleAndCompute -/

/-- Loop 2 of engine 1, enabled, waiting, with a window of 25,000 ns periods open as told, in state `x`; MISS_LIMIT is 3. -/
def loopState (x : KnkLoop) : State :=
  (withRegs [(Reg.KNK_LOOP_CFG 1 2, 1), (Reg.KNK_LOOP_TIME 1 2, 25000), (Reg.KNK_LOOP_STATE 1 2, 1), (Reg.KNK_LOOP_MISS 1 2, 3),
    (Reg.KNK_TRC_CTRL 1, 1)]).setLoop 1 2 x

theorem wit_boundary : (loopState KnkLoop.idle).running = true ∧ (loopState KnkLoop.idle).loopRuns 1 2 = true ∧
    due ((loopState KnkLoop.idle).nowOf ((loopState KnkLoop.idle).loopTb 1 2))
      ((loopState KnkLoop.idle).windowAt 1 2 ((loopState KnkLoop.idle).loopAt 1 2).next) = true ∧
    (((loopState KnkLoop.idle).passBoundary 1 2).nextOrder.endWindow 1 2).loopState 1 2 ≠ 3 := by
  decide +kernel

/-- The loop at time 0, with the window of sample 0 open and that of sample 1 still to open. -/
theorem wit_boundary_only : (loopState { KnkLoop.idle with next := 1, ahead := true, win := some 0 }).loopRuns 1 2 = true ∧
    due ((loopState { KnkLoop.idle with next := 1, ahead := true, win := some 0 }).nowOf
        ((loopState { KnkLoop.idle with next := 1, ahead := true, win := some 0 }).loopTb 1 2))
      ((loopState { KnkLoop.idle with next := 1, ahead := true, win := some 0 }).windowAt 1 2
        ((loopState { KnkLoop.idle with next := 1, ahead := true, win := some 0 }).loopAt 1 2).next) = false := by
  decide +kernel

/-- The loop with an open window, and with a sample that is ready. -/
def openLoop : State := loopState { KnkLoop.idle with win := some 0 }
def readyLoop : State := loopState { KnkLoop.idle with win := some 0, ready := some (0, 5, 0) }

theorem wit_sample_miss : openLoop.loopRuns 1 2 = true ∧ (openLoop.loopAt 1 2).win ≠ none ∧ (openLoop.loopAt 1 2).begun = false ∧
    (openLoop.loopAt 1 2).ready = none ∧ openLoop.mate 1 2 = none ∧ (openLoop.loopAt 1 2).late = none ∧
    due (openLoop.nowOf (openLoop.loopTb 1 2)) (openLoop.windowAt 1 2 (openLoop.loopAt 1 2).next) = true ∧
    Nat.min 255 (openLoop.fld (Reg.KNK_LOOP_STATE 1 2) 16 8 + 1) < openLoop.fld (Reg.KNK_LOOP_MISS 1 2) 0 8 := by
  decide +kernel

theorem wit_compute_start : readyLoop.knk.runs.find 1 = none ∧ (readyLoop.selfTest (0x84 + 1)).running = false ∧
    readyLoop.quarantined (0x84 + 1) = false ∧ chooseLoop (readyLoop.readyLoops 1) = some 2 ∧
    (readyLoop.loopAt 1 2).when.map (fun w => (w.2.2, w.2.1)) = some (0, 5) := by
  decide +kernel

/-- A compute of the loop, whose trace runs. -/
def run0 : KnkRun := ⟨2, 0, [1], 5, 6, false, false⟩
def computing : State := openLoop.putRun 1 run0

theorem wit_compute_done : computing.running = true ∧ computing.knk.runs.find 1 = some run0 ∧ run0.slot = (2 : Fin 64).val ∧
    run0.stopped = false ∧
    computing.loopState 1 2 ≠ 3 ∧ computing.mate 1 2 = none ∧ computing.bit (Reg.KNK_LOOP_CFG 1 2) 13 = false ∧
    computing.bit (Reg.KNK_TRC_CTRL 1) 0 = true ∧ computing.bit (Reg.KNK_TRC_CTRL 1) 2 = false ∧
    computing.bit (Reg.KNK_TRC_CTRL 1) 3 = false ∧ computing.bit (Reg.KNK_TRC_POS 1) 17 = false := by
  decide +kernel

/-! ### ControlLoopsAreConfigured -/

/-- A KNK_LOAD or KNK_READ record of 4 words from word 16 of engine 1, as the one command of request 5. -/
def coeffDesc (op : Nat) : Bytes := recOf 32 [(0, 1, op), (1, 1, 1), (4, 4, 16), (8, 8, 0x100000001000), (0x10, 4, 4)]
def coeffState (op : Nat) : State := withReq (reqOf 0x14) (withMem 0x100000000000 (coeffDesc op) withPage)

theorem wit_knk_load : ∃ u, (coeffState 0xA0).running = true ∧ (coeffState 0xA0).engReq 5 [0x14] = some (reqOf 0x14) ∧
    coeffDesc 0xA0 = (coeffState 0xA0).peek (reqOf 0x14).cmdAddr 32 ∧ fieldLE (coeffDesc 0xA0) 1 1 = (1 : Fin 4).val ∧
    (coeffState 0xA0).knkMask (reqOf 0x14) (coeffDesc 0xA0) = 0 ∧ fieldLE (coeffDesc 0xA0) 0 1 = 0xA0 ∧
    (coeffState 0xA0).engineReads 5 (reqOf 0x14) 5 [(0x100000001000, 32)] [] true = (u, .ready) ∧
    (∀ i, i < 4 → fieldLE (u.peek 0x100000001000 32) (8 * i) 8 < 2 ^ 37) :=
  ⟨((coeffState 0xA0).engineReads 5 (reqOf 0x14) 5 [(0x100000001000, 32)] [] true).1, by decide +kernel, by decide +kernel,
    by decide +kernel, by decide +kernel, by decide +kernel, by decide +kernel, pair_of_snd (by decide +kernel), by decide +kernel⟩

theorem wit_knk_read : ∃ u, (coeffState 0xA1).knkMask (reqOf 0x14) (coeffDesc 0xA1) = 0 ∧ fieldLE (coeffDesc 0xA1) 0 1 = 0xA1 ∧
    (coeffState 0xA1).engineReads 5 (reqOf 0x14) 5 [] (knkReadOuts (coeffDesc 0xA1)) true = (u, .ready) ∧
    (State.engineWrite (u, 0) 5 (reqOf 0x14) 5 0x100000001000
      ((List.range 4).flatMap (fun i => natLE 8 (u.coeff 1 (16 + i))))).2 = 0 :=
  ⟨((coeffState 0xA1).engineReads 5 (reqOf 0x14) 5 [] (knkReadOuts (coeffDesc 0xA1)) true).1, by decide +kernel, by decide +kernel,
    pair_of_snd (by decide +kernel), by decide +kernel⟩

theorem wit_commit : State.reset.commitMask 1 2 = 0 ∧
    (withRegs [(Reg.KNK_LOOP_DIM 1 2, 0x104), (Reg.KNK_LOOP_CFG 1 2, 3 * 2 ^ 24)]).commitMask 1 2 ≠ 0 := by
  decide +kernel

theorem wit_coeff_word : State.reset.coeffInUse 1 70 71 = false ∧
    (withRegs [(Reg.KNK_LOOP_DIM 1 2, 0x104), (Reg.KNK_LOOP_CFG 1 2, 1)]).coeffInUse 1 4 5 = true := by
  decide +kernel

/-- Slot 2 of engine 1 with 4 states, 1 output and windows of 25,000 ns. -/
def loopSlotState : State := withRegs [(Reg.KNK_LOOP_DIM 1 2, 0x104), (Reg.KNK_LOOP_TIME 1 2, 25000)]

theorem wit_loop_enable : loopSlotState.bit (Reg.KNK_LOOP_CFG 1 2) 0 = false ∧ (1#64).getLsbD 0 = true ∧ loopSlotState.loopMask 1 2 1 = 0 ∧
    (1#64).getLsbD 11 = false ∧ State.reset.loopMask 1 2 1 ≠ 0 ∧
    (withRegs [(Reg.KNK_LOOP_CFG 1 2, 1)]).bit (Reg.KNK_LOOP_CFG 1 2) 0 = true := by
  decide +kernel

/-! ### GussetJobsStart -/

/-- A job of one unknown and one micro-op: GUSSET_LINEAR, or GUSSET_QP with one constraint row; its program, base table and result lie in
the first page of the unified range. -/
def gusDesc (op : Nat) (deadline : Nat) : Bytes :=
  recOf 128 ([(0, 1, op), (4, 2, 1), (0x0B, 1, 20), (0x0C, 1, 10), (0x10, 4, 1), (0x18, 4, 1), (0x40, 8, 0x100000001000),
    (0x48, 8, 0x100000002000), (0x58, 8, 0x100000003000), (0x60, 8, deadline)] ++
    (if op = 0x71 then [(1, 1, 1), (6, 2, 1), (0x0D, 1, 1), (0x0E, 2, 4), (0x1C, 4, 2), (0x20, 4, 3), (0x28, 4, 0x3F800000),
      (0x2C, 4, 0x3F800000), (0x30, 4, 0x3F800000), (0x34, 4, 0x3F800000), (0x38, 4, 0x3F800000)]
    else [(0x24, 4, 0x3F800000)]))
/-- Its micro-op: COPY, SCALE, ADD or TRANSPOSE of one element. -/
def gusOp (o : Nat) : Bytes :=
  recOf 32 [(0, 1, o), (4, 2, 1), (6, 2, 1), (8, 4, 8), (0x0C, 4, 1), (0x14, 4, 1), (0x18, 4, 0x40000000), (0x1C, 4, 9)]
/-- Its request, on Gusset unit 1. -/
def gusReq : Request := { reqOf 0x10 with units := [0x89] }
def gusState (op deadline : Nat) : State :=
  withReq gusReq (withMem 0x100000000000 (gusDesc op deadline) (withMem 0x100000001000 (gusOp 1) withPage))

/-- What a job's start asks of its state and descriptor. -/
theorem wit_gus_start : ∀ op, op = 0x70 ∨ op = 0x71 → ∃ u, (gusState op 0).running = true ∧
    (gusState op 0).engReq 5 [0x10] = some gusReq ∧ gusDesc op 0 = (gusState op 0).peek gusReq.cmdAddr 128 ∧
    fieldLE (gusDesc op 0) 0 1 = op ∧ gusDescMask gusReq.cmdAddr (gusDesc op 0) = 0 ∧
    (gusState op 0).gus.jobs.find gusReq.gusUnit = none ∧ (gusState op 0).quarantined (0x88 + gusReq.gusUnit) = false ∧
    (gusState op 0).engineReads 5 gusReq 5 [(0x100000001000, 32), (0x100000002000, 128)]
      [(0x100000003000, gusResultBytes (gusDesc op 0))] = (u, .ready) ∧
    gusProgMask (u.peek 0x100000001000 32) (u.peek 0x100000002000 128) = 0 ∧ u.gusDeadline gusReq.ctx gusReq.gusUnit (gusDesc op 0) = none := by
  intro op h
  refine ⟨((gusState op 0).engineReads 5 gusReq 5 [(0x100000001000, 32), (0x100000002000, 128)]
    [(0x100000003000, gusResultBytes (gusDesc op 0))]).1, ?_⟩
  rcases h with rfl | rfl
  · exact ⟨by decide +kernel, by decide +kernel, by decide +kernel, by decide +kernel, by decide +kernel, by decide +kernel,
      by decide +kernel, pair_of_snd (by decide +kernel), by decide +kernel⟩
  · exact ⟨by decide +kernel, by decide +kernel, by decide +kernel, by decide +kernel, by decide +kernel, by decide +kernel,
      by decide +kernel, pair_of_snd (by decide +kernel), by decide +kernel⟩

/-- A deadline of 1 ns cannot be met. -/
theorem wit_gus_late : (gusState 0x70 1).gusDeadline 3 1 (gusDesc 0x70 1) = some 1 ∧
    1 < (gusState 0x70 1).now + (gusState 0x70 1).gusNs (gusMinCost (gusDesc 0x70 1) (gusOp 1)) := by
  decide +kernel

/-! ### GussetMicroOpsAndEnds -/

/-- A linear job of unit 1 at its micro-op, or past it. -/
def gusJob0 (o next : Nat) : GusJob :=
  { req := 5, ctx := 3, desc := gusDesc 0x70 0, prog := gusOp o, base := List.replicate 16 0, next := next, warm := none,
    warmRej := false, deadline := some 0 }
/-- The unit with the job; the system is 2 x = 4. -/
def gusBusy (o next : Nat) : State :=
  ((withReq gusReq withPage).setGus 1 (gusJob0 o next)).setGusWord 1 0 0x40000000 |>.setGusWord 1 1 0x40800000

theorem wit_gus_micro : ∀ o : Fin 4, ∃ u, (gusBusy (o + 1) 0).running = true ∧
    (gusBusy (o + 1) 0).gusRunning 1 = some (gusJob0 (o + 1) 0, gusReq) ∧ fieldLE (microAt (gusOp (o + 1)) 0) 0 1 = o + 1 ∧
    32 * 0 < (gusOp (o + 1)).length ∧ (gusBusy (o + 1) 0).quarantined (0x88 + 1) = false ∧
    (gusBusy (o + 1) 0).engineReads 5 gusReq 5 (microReads (List.replicate 16 0) (microAt (gusOp (o + 1)) 0)) [] = (u, .ready) := by
  intro o
  refine ⟨((gusBusy (o + 1) 0).engineReads 5 gusReq 5 (microReads (List.replicate 16 0) (microAt (gusOp (o + 1)) 0)) []).1, ?_⟩
  revert o
  have h : ∀ o : Fin 4, (gusBusy (o + 1) 0).running = true ∧
    (gusBusy (o + 1) 0).gusRunning 1 = some (gusJob0 (o + 1) 0, gusReq) ∧ fieldLE (microAt (gusOp (o + 1)) 0) 0 1 = o + 1 ∧
    32 * 0 < (gusOp (o + 1)).length ∧ (gusBusy (o + 1) 0).quarantined (0x88 + 1) = false ∧
    ((gusBusy (o + 1) 0).engineReads 5 gusReq 5 (microReads (List.replicate 16 0) (microAt (gusOp (o + 1)) 0)) []).2 = .ready := by
    decide +kernel
  intro o
  obtain ⟨a, b, c, d, e, f⟩ := h o
  exact ⟨a, b, c, d, e, pair_of_snd f⟩

/-- The unit when the record's range has been readied. -/
def gusOuts : State := ((gusBusy 1 1).engineAccess 5 gusReq 5 (asWrites [(0x100000003000, gusResultBytes (gusJob0 1 1).desc)])).1

theorem gusOuts_ready : (gusBusy 1 1).outsReady gusOuts 5 gusReq 5 [(0x100000003000, gusResultBytes (gusJob0 1 1).desc)] :=
  ⟨by decide +kernel, pair_of_snd (by decide +kernel)⟩

theorem wit_gus_end : ∃ (u : State) (e : GusEnd) (reg : List Nat),
    (gusBusy 1 1).outsReady u 5 gusReq 5 [(0x100000003000, gusResultBytes (gusJob0 1 1).desc)] ∧
    (gusJob0 1 1).prog.length = 32 * (gusJob0 1 1).next ∧
    (gusBusy 1 1).gusSolve 1 (gusJob0 1 1).desc none (gusCap (gusJob0 1 1).desc) false = some (e, reg) ∧
    (State.engineWrite (u, 0) 5 gusReq 5 0x100000003000 (gusRecord (gusJob0 1 1) true e reg).1).2 = 0 :=
  ⟨gusOuts, ⟨0, 0, 0, 0x41000000, [0x40000000]⟩, [], gusOuts_ready, by decide +kernel⟩

theorem wit_gus_deadline : ∃ u, due (gusBusy 1 1).now 0 = true ∧
    (gusBusy 1 1).outsReady u 5 gusReq 5 [(0x100000003000, gusResultBytes (gusJob0 1 1).desc)] ∧
    (State.engineWrite (u, 0) 5 gusReq 5 0x100000003000
      (gusRecord (gusJob0 1 1) false ⟨4, 0, 0x7F800000, 0x7F800000, gusHeld (gusJob0 1 1)⟩ []).1).2 = 0 :=
  ⟨gusOuts, by decide +kernel, gusOuts_ready, by decide +kernel⟩

/-- A linear job whose first solve is done and whose residual is being formed. -/
theorem wit_gus_deadline_step : ∃ (e : GusEnd) (reg : List Nat),
    (gusBusy 1 1).gusSolve 1 (gusJob0 1 1).desc none (Nat.min 0 (gusCap (gusJob0 1 1).desc)) true = some (e, reg) ∧
    gusOpen (gusJob0 1 1).desc 0 e = true ∧
    (State.engineWrite (gusOuts, 0) 5 gusReq 5 0x100000003000 (gusRecord (gusJob0 1 1) true { e with outcome := 3 } reg).1).2 = 0 :=
  ⟨⟨0, 0, 0, 0x41000000, [0x40000000]⟩, [], by decide +kernel⟩

/-! ### PlansAreHeldAndGrow -/

/-- A model of one prismatic joint from 0 to 1 and one sphere on its link. -/
def model1 : Bytes :=
  recOf 704 ([(0, 1, 1), (2, 2, 1), (0x10, 4, 0x3F800000), (64, 1, 0xFF), (65, 1, 1), (64 + 0x10, 4, 0x3F800000),
    (64 + 0x20, 4, 0x3F800000)] ++ [0x30, 0x34, 0x38, 0x3C, 0x40, 0x44].map (fun o => (64 + o, 4, 0x3F800000)))
/-- An empty map. -/
def epoch1 : PEpoch :=
  { num := 1, t0 := 0, leafMm := 50, depth := 8, slices := 2, dtUs := 1000, tb := 0, origin := [0, 0, 0], base := 0x100000100000,
    mib := 1, leaves := [], made := [] }
/-- A PLAN of ten iterations in tree mode from 0 to 0. -/
def planDesc : Bytes :=
  recOf 128 [(0, 1, 0x80), (0x10, 4, 10), (0x14, 4, 1000), (0x18, 4, 100), (0x30, 8, 0x100000001000), (0x38, 8, 0x100000001040),
    (0x40, 8, 0x100000010000), (0x48, 4, 12352), (0x4C, 4, 16), (0x50, 8, 0x100000020000), (0x58, 8, 8192)]
/-- The planner with the model in slot 0 and the empty map as its newest epoch. -/
def pcuState (s : State := State.reset) : State := (s.setModel 0 model1).pushEpoch epoch1
def planState : State := withReq (reqOf 0x11) (withMem 0x100000000000 planDesc (withPage pcuState))

theorem wit_plan : ∃ u, planState.running = true ∧ planState.engReq 5 [0x11] = some (reqOf 0x11) ∧
    planDesc = planState.peek (reqOf 0x11).cmdAddr 128 ∧ fieldLE planDesc 0 1 = 0x80 ∧ planState.gateOn 0x8A = true ∧
    planState.quarantined 0x8A = false ∧ planState.pcu.waiting.contains 5 = false ∧ planState.pcu.held.find 5 = none ∧
    planState.planMask (reqOf 0x11) planDesc = 0 ∧ model1 = (planState.pcu.models.find (fieldLE planDesc 2 1)).getD [] ∧
    planState.engineReads 5 (reqOf 0x11) 5 [(0x100000001000, 4 * modelDof model1), (0x100000001040, 4 * modelDof model1)]
      (planOuts planDesc) true = (u, .ready) ∧
    outOfLimits model1 (tab (modelDof model1) (fun j => u.peekN (0x100000001000 + 4 * j) 4)) = false ∧
    outOfLimits model1 (tab (modelDof model1) (fun j => u.peekN (0x100000001040 + 4 * j) 4)) = false :=
  ⟨(planState.engineReads 5 (reqOf 0x11) 5 [(0x100000001000, 4), (0x100000001040, 4)] (planOuts planDesc) true).1, by decide +kernel,
    by decide +kernel, by decide +kernel, by decide +kernel, by decide +kernel, by decide +kernel, by decide +kernel,
    by decide +kernel, by decide +kernel, by decide +kernel, pair_of_snd (by decide +kernel), by decide +kernel⟩

/-- The PLAN waits for a place; it leaves the queue; it is held. -/
def planWaits : State := planState.queuePlan 5
def planUnq : State := planWaits.unqueuePlan 5
def plan0 : Plan := planUnq.newPlan 5 (reqOf 0x11) planDesc model1 epoch1
def planSeated : State := (planUnq.seatPlan 5 (reqOf 0x11) plan0).showPcu

theorem wit_plan_held : planWaits.nextPlan = some 5 ∧ planUnq.req 5 = some (reqOf 0x11) ∧ planDesc = planUnq.peek (reqOf 0x11).cmdAddr 128 ∧
    planUnq.quarantined 0x8A = false ∧ planUnq.pcu.epochs.find planUnq.pcu.newest = some epoch1 ∧
    outOfLimits model1 plan0.start = false ∧ outOfLimits model1 plan0.goal = false ∧
    poseHit model1 epoch1 (epoch1.only plan0.tStart) plan0.start = none ∧ poseHit model1 epoch1 2 plan0.goal = none := by
  decide +kernel

theorem plan_grows : ((planSeated.countCheck plan0 2).2.advance planSeated.pcu.newest planFuel).waits = true := by decide +kernel
theorem waits_goes_on (p : Plan) (h : p.waits = true) (st : Nat) : p.phase ≠ .ended st := by
  intro e
  unfold Plan.waits at h
  rw [e] at h
  cases h

/-- The PLAN in its quantum, held up to its first edge check, with a budget. -/
def plan1 (budget : Nat) : Plan := { (({ plan0 with checks := 2 } : Plan).advance 1 planFuel) with budget := budget }
def planHeld0 (p : Plan) : State := planSeated.holdPlan 5 p

theorem wit_edge_check_held : (planHeld0 (plan1 9)).pcu.held.find 5 = some (plan1 9) := OMap.find_put_same _ _ _
theorem wit_edge_check : ((planHeld0 (plan1 9)).req 5).isSome = true ∧
    (planHeld0 (plan1 9)).pcu.turn = some 5 ∧ (plan1 9).waits = true ∧ ((planHeld0 (plan1 9)).selfTest 0x8A).running = false ∧
    (planHeld0 (plan1 9)).quarantined 0x8A = false ∧ (planHeld0 (plan1 9)).pcu.epochs.find (plan1 9).snap = some epoch1 := by
  decide +kernel
theorem wit_edge_check_goes_on :
    (((planHeld0 (plan1 9)).countCheck (plan1 9) 1).2.afterCheck ((plan1 9).verdict epoch1) 1).waits = true := by
  decide +kernel

/-- The same PLAN while it shortcuts a path of one edge that is not stamped. -/
def plan2 : Plan := { plan1 0 with phase := .shortcut 0, path := [([0], 0), ([0], 0)] }

theorem wit_budget : due (planHeld0 (plan1 0)).now (plan1 0).budget = true ∧
    (State.engineWrite ((planHeld0 (plan1 0)).havocOuts (reqOf 0x11) (planOuts (plan1 0).desc), 0) 5 (reqOf 0x11) 5 0x100000010000
      (((plan1 0).giveUp 0x0F).result 0x0F)).2 = 0 ∧
    (match (plan1 0).phase with | .extend _ _ => true | _ => false) = true ∧
    (({ plan2 with phase := .release } : Plan).advance 1 planFuel).waits = true := by
  decide +kernel

/-! ### ModelsAndEpochsAreBuilt -/

/-- A MODEL_LOAD of the image into slot 1, and a MAP_UPDATE that adds one leaf to the newest epoch. -/
def loadDesc : Bytes := recOf 32 [(0, 1, 0x81), (1, 1, 1), (4, 4, 704), (8, 8, 0x100000001000)]
def loadState : State := withReq (reqOf 0x11) (withMem 0x100000000000 loadDesc (withMem 0x100000001000 model1 (withPage pcuState)))
def updDesc : Bytes := recOf 64 [(0, 1, 0x82), (4, 4, 1), (8, 8, 0x100000001000), (0x20, 8, 0x100000002000)]
def updState : State :=
  withReq (reqOf 0x11) (withMem 0x100000000000 updDesc (withMem 0x100000001000 [3, 0, 4, 0, 5, 0, 1, 0] (withPage pcuState)))

theorem wit_model_load : ∃ u, loadState.running = true ∧ loadState.pcuReq 5 0x81 = some (reqOf 0x11) ∧
    loadDesc = loadState.peek (reqOf 0x11).cmdAddr 32 ∧ loadState.mapEngineFor 5 = true ∧ loadState.modelMask (reqOf 0x11) loadDesc = 0 ∧
    loadState.engineReads 5 (reqOf 0x11) 5 [(0x100000001000, 704)] [] = (u, .ready) ∧ model1 = u.peek 0x100000001000 704 ∧
    704 = modelBytes model1 ∧ modelOk model1 = true :=
  ⟨(loadState.engineReads 5 (reqOf 0x11) 5 [(0x100000001000, 704)] []).1, by decide +kernel, by decide +kernel, by decide +kernel,
    by decide +kernel, by decide +kernel, pair_of_snd (by decide +kernel), by decide +kernel⟩

theorem wit_map_update : ∃ (u : State) (ep : PEpoch), updState.pcuReq 5 0x82 = some (reqOf 0x11) ∧
    updDesc = updState.peek (reqOf 0x11).cmdAddr 64 ∧ updState.pcu.update = none ∧ updState.mapEngineFor 5 = true ∧
    updState.baseEpoch 0 0 = some ep ∧ updState.mapMask (reqOf 0x11) updDesc (some ep) = 0 ∧
    updState.engineReads 5 (reqOf 0x11) 5 [(0x100000001000, 8)] [(0x100000002000, 4)] = (u, .ready) ∧
    (leafRecords (u.peek 0x100000001000 8) 1).all (fun l => decide (l.1 < 2 ^ ep.depth) && decide (l.2.1 < 2 ^ ep.depth) &&
      decide (l.2.2.1 < 2 ^ ep.depth) && decide (l.2.2.2 < 2 ^ ep.slices)) = true :=
  ⟨(updState.engineReads 5 (reqOf 0x11) 5 [(0x100000001000, 8)] [(0x100000002000, 4)]).1, { epoch1 with num := 2 },
    by decide +kernel, by decide +kernel, by decide +kernel, by decide +kernel, by decide +kernel, by decide +kernel,
    pair_of_snd (by decide +kernel), by decide +kernel⟩

/-- The update is in progress. -/
def updating : State := updState.setUpdate (some (5, { epoch1 with num := 2 }))

theorem wit_epoch_commit : ∃ u, updating.outsReady u 5 (reqOf 0x11) 5 [(0x100000002000, 4)] ∧ updating.running = true ∧
    updating.req 5 = some (reqOf 0x11) ∧ updating.quarantined 0x8A = false ∧ epoch1.leaves.length ≤ 2 ^ 20 ∧
    (State.engineWrite (u.setUpdate none, 0) 5 (reqOf 0x11) 5 0x100000002000 (natLE 4 2)).2 = 0 :=
  ⟨(updating.engineAccess 5 (reqOf 0x11) 5 (asWrites [(0x100000002000, 4)])).1,
    ⟨by decide +kernel, pair_of_snd (by decide +kernel)⟩, by decide +kernel⟩

/-! ### FieldSegmentsRunPlca -/

/-- Segment 2 is enabled, with PLCA or without, and its time frames run; one output frame is ready and one frame was sent last. -/
def segState (plca : Nat) (off : Option Nat) : State :=
  let s := (((State.reset.setDictN 0x1E02 1 1).setDictN 0x1E02 2 plca).setDictN 0x1E02 9 5).transmit 11 [1, 2]
  s.setSeg 2 { Seg.idle with ready := [(true, [7])], off := off }

theorem wit_segment : (segState 1 none).running = true ∧ (segState 1 none).plcaOn 2 = true ∧ (segState 1 none).segOn 2 = true ∧
    (segState 1 none).segCfg 2 2 ≠ 0 ∧ SMap.get (fun _ => []) (segState 1 none).net.lastTx 11 ≠ [] ∧ (segState 1 none).segCfg 2 9 ≠ 0 ∧
    ((segState 1 none).seg 2).off = none ∧ (segState 1 none).syncDue 2 = true := by
  decide +kernel

/-- 1 ms after a cut. -/
def cutState (plca : Nat) : State := { segState plca (some 0) with time := { State.reset.time with tb0 := { State.reset.time.tb0 with val := 1000000 * 2 ^ 32 } } }

theorem wit_reenable : (cutState 0).running = true ∧ ((cutState 0).seg 2).off = some 0 ∧ 0 + 1000000 ≤ (cutState 0).now ∧
    (cutState 0).segCfg 2 2 = 0 ∧ (cutState 1).segCfg 2 2 ≠ 0 := by
  decide +kernel

/-! ### NodesExchangeProcessData -/

/-- Roster entry 7: MAC 2, port 0, output length 4, silent limit 0. -/
def nodeState (enable state : Nat) : State :=
  (((State.reset.setDictN 0x8007 2 2).setDictN 0x8007 9 4).setDictN 0x8007 1 enable).setDictN 0x8007 0x0B state

theorem wit_node_enable : (nodeState 0 0).running = true ∧ (nodeState 0 0).roster 7 1 = 0 ∧ (nodeState 0 0).rosterBad 7 = false ∧
    ((nodeState 0 0).setDictN 0x8007 3 6).rosterBad 7 = true := by
  decide +kernel

theorem wit_node_timeout : (nodeState 1 1).roster 7 1 ≠ 0 ∧ (nodeState 1 1).roster 7 0x0B = 1 ∧
    ((nodeState 1 1).node 7).since + ((nodeState 1 1).setDictN 0x8007 8 0).roster 7 8 * 1000 ≤ (nodeState 1 1).now := by
  decide +kernel

/-- Port 0 is up; node 7 sent sequence number 5 before. -/
def portState (state : Nat) : State :=
  (((nodeState 1 state).setDictN 0x1A00 1 1).setRegN Reg.NET_STATE 1).setNode 7 { NetNode.idle with lastSeq := some 5, first := some 0 }
/-- An input frame of node 7 with a sequence number. -/
def pdFrame7 (seq : Nat) : Bytes :=
  natBE 6 1 ++ natBE 6 2 ++ natBE 2 0x88B5 ++ (natLE 1 1 ++ natLE 1 1 ++ natLE 2 7 ++ natLE 4 seq ++ natLE 2 2 ++ [0, 0, 3, 4]) ++
    List.replicate 20 0

theorem wit_pd_input : ∃ u v, (portState 1).receive 0 (pdFrame7 6) = (u, true) ∧ (portState 1).receive 0 (pdFrame7 5) = (v, true) ∧
    u.pdValid 0 (pdFrame7 6) = true ∧ fieldLE (frBody (pdFrame7 6)) 2 2 = 7 ∧ u.roster 7 0x0B = 1 ∧ (u.node 7).lastSeq = some 5 ∧
    ¬ (signed 32 (6 + 2 ^ 32 - 5) ≤ 0) ∧ signed 32 (5 + 2 ^ 32 - 5) ≤ 0 ∧ u.pdValid 0 (setFieldLE (pdFrame7 6) 14 1 2) = false :=
  ⟨((portState 1).receive 0 (pdFrame7 6)).1, ((portState 1).receive 0 (pdFrame7 5)).1, pair_of_snd (by decide +kernel),
    pair_of_snd (by decide +kernel), by decide +kernel⟩

theorem wit_out_hold : ((portState 1).node 7).first = some 0 ∧ 0 + ((portState 1).setDictN 0x8007 0x0A 0).roster 7 0x0A ≤ (portState 1).now := by
  decide +kernel

/-! ### FramesAreForwardedAndAnswered -/

theorem wit_gptp_frame : ∃ u, (portState 1).running = true ∧ (portState 1).receive 0 (pdFrame7 6) = (u, true) ∧
    (portState 1).vlanOf 0 (pdFrame7 6) ≠ 0 ∧ (portState 1).vlanOf 0 (pdFrame7 6) ≠ 4095 ∧ (frSrc (pdFrame7 6) >>> 40).testBit 0 = false ∧
    u.net.fdb.length < 8192 ∧
    (let x := { u with net := { u.net with fdb := [((portState 1).vlanOf 0 (pdFrame7 6) * 2 ^ 48 + 1, some 3)] } }
     ownMac ≠ 1 → x.destinations 0 ((portState 1).vlanOf 0 (pdFrame7 6)) (pdFrame7 6) = [3]) :=
  ⟨((portState 1).receive 0 (pdFrame7 6)).1, by decide +kernel, pair_of_snd (by decide +kernel), by decide +kernel, by decide +kernel,
    by decide +kernel, by decide +kernel, by
    intro x h
    have hf : x.net.fdb.find ((portState 1).vlanOf 0 (pdFrame7 6) * 2 ^ 48 + 1) = some 3 := by decide +kernel
    have hd : frDst (pdFrame7 6) = 1 := by decide +kernel
    have hg : ((1 : Nat) >>> 40).testBit 0 = false := by decide
    unfold State.destinations
    dsimp only
    rw [hd, if_neg (fun e => h e.symm), hg, hf]
    rfl⟩

/-- An ARP request and an echo request for address 0. -/
def arpFrame : Bytes :=
  natBE 6 1 ++ natBE 6 2 ++ natBE 2 0x0806 ++ (natBE 2 1 ++ natBE 2 0x800 ++ [6, 4] ++ natBE 2 1 ++ natBE 6 2 ++ natBE 4 9 ++
    natBE 6 0 ++ natBE 4 0) ++ List.replicate 18 0
def echoFrame : Bytes :=
  natBE 6 1 ++ natBE 6 2 ++ natBE 2 0x0800 ++ ([0x45, 0] ++ natBE 2 28 ++ natBE 2 0 ++ natBE 2 0 ++ [64, 1, 0, 0] ++ natBE 4 9 ++
    natBE 4 0 ++ [8, 0, 0, 0, 0, 0, 0, 0]) ++ List.replicate 18 0
/-- Port 0 is up with address 0 for the Crown. -/
def ipState : State := (portState 1).setDictN 0x1A40 1 0

theorem open_gate (s : State) (p tc : Nat) (h : s.net.gcl.find p = none) : s.gateOpen p tc = true := by
  unfold State.gateOpen
  rw [h]

theorem wit_answers : ∃ u v, ipState.receive 0 arpFrame = (u, true) ∧ ipState.receive 0 echoFrame = (v, true) ∧ u.dictN 0x1A00 1 ≠ 0 ∧
    v.dictN 0x1A00 1 ≠ 0 ∧ u.bit Reg.NET_STATE 0 = true ∧ v.bit Reg.NET_STATE 0 = true ∧ u.gateOpen 0 (frClass (ipState.arpAnswer arpFrame)) = true ∧
    v.gateOpen 0 (frClass (ipState.icmpAnswer echoFrame)) = true :=
  ⟨(ipState.receive 0 arpFrame).1, (ipState.receive 0 echoFrame).1, pair_of_snd (by decide +kernel), pair_of_snd (by decide +kernel),
    by decide +kernel, by decide +kernel, by decide +kernel, by decide +kernel, open_gate _ _ _ (by decide +kernel),
    open_gate _ _ _ (by decide +kernel)⟩

theorem wit_requests : frType arpFrame = 0x0806 ∧ 28 ≤ (frBody arpFrame).length ∧ fieldBE (frBody arpFrame) 6 2 = 1 ∧
    fieldBE (frBody arpFrame) 24 4 = ipState.ownIp ∧ frType echoFrame = 0x0800 ∧ 28 ≤ fieldBE (frBody echoFrame) 2 2 ∧
    fieldBE (frBody echoFrame) 2 2 ≤ (frBody echoFrame).length ∧ fieldLE (frBody echoFrame) 0 1 = 0x45 ∧
    fieldLE (frBody echoFrame) 9 1 = 1 ∧ fieldBE (frBody echoFrame) 16 4 = ipState.ownIp ∧ fieldLE (frBody echoFrame) 20 1 = 8 ∧
    fieldBE (frBody echoFrame) 6 2 % 0x4000 = 0 := by
  decide +kernel

/-- Port 0 runs a list and has the same one as its administrative list. -/
def gclState : State := (State.reset.setOctets 0x1A10 1 [1]).setGcl 0 (some ⟨[1], 0, 0⟩)

theorem wit_gcl (ready : Bool) : gclState.net.gcl.find 0 = some ⟨[1], 0, 0⟩ ∧
    (if ready then some (gclState.octetsOf 0x1A10 1) else if gclState.octetsOf 0x1A10 1 = [] then none
      else (gclState.net.gcl.find 0).map (·.list)) = some [1] := by
  have h1 : gclState.net.gcl.find 0 = some ⟨[1], 0, 0⟩ := by decide +kernel
  have h2 : gclState.octetsOf 0x1A10 1 = [1] := by decide +kernel
  rw [h1, h2]
  cases ready <;> exact ⟨rfl, rfl⟩

/-- A port whose list began a cycle 1 ns after the one that covers now. -/
theorem wit_gcl_cycle : ∃ s : State, ∃ g, s.net.gcl.find 0 = some g ∧ s.gclRuns 0 g.list = false := by
  refine ⟨gclState.setGcl 0 (some ⟨[1], 0, gclStart [1] (gclState.gclNow [1]) + 1⟩), ⟨[1], 0, gclStart [1] (gclState.gclNow [1]) + 1⟩, ?_⟩
  have h := OMap.find_put_same gclState.net.gcl 0 ⟨[1], 0, gclStart [1] (gclState.gclNow [1]) + 1⟩
  refine ⟨h, ?_⟩
  unfold State.gclRuns
  rw [show (gclState.setGcl 0 (some ⟨[1], 0, gclStart [1] (gclState.gclNow [1]) + 1⟩)).net.gcl.find 0 = _ from h]
  exact Bool.and_eq_false_iff.mpr (Or.inr (beq_false_of_ne (fun e => Nat.succ_ne_self _ e.symm)))

/-- All bases stand at 2^32 ns. -/
def lateBases : TimeBases :=
  let b : TimeBase := { TimeBase.reset true with val := 2 ^ 64 }
  ⟨b, b, b, b⟩
theorem wit_gcl_entry : ∃ s : State, ∃ g, s.net.gcl.find 0 = some g ∧ g.start + gclEnd g.list g.idx ≤ s.gclNow g.list := by
  refine ⟨{ gclState with time := lateBases }, ⟨[1], 0, 0⟩, by decide +kernel, ?_⟩
  have hn : State.gclNow { gclState with time := lateBases } [1] = 2 ^ 32 := by
    have hb : ∀ n : Nat, (lateBases.get n).val = 2 ^ 64 := by
      intro n
      unfold TimeBases.get
      split
      · rfl
      · split
        · rfl
        · split <;> rfl
    have h2 : (2 ^ 64 / 2 ^ 32 % 2 ^ 64 : Nat) = 2 ^ 32 := by decide +kernel
    unfold State.gclNow State.nowOf
    exact (congrArg (fun v => v / 2 ^ 32 % 2 ^ 64) (hb _)).trans h2
  rw [hn]
  have he : gclEnd [1] 0 = 0 + Config.gclTime [1] 0 % 2 ^ 32 := rfl
  have := Nat.mod_lt (Config.gclTime [1] 0) (show 0 < 2 ^ 32 by decide)
  show 0 + gclEnd [1] 0 ≤ 2 ^ 32
  rw [he]
  omega

/-- The port runs in a mode with its link up. -/
def pcieState (mode : Nat) : State := withPage (withRegs [(Reg.PCIE_STATE, 256 + mode * 64)])

theorem wit_pcie : (pcieState 1).bit Reg.PCIE_STATE 8 = true ∧ (pcieState 2).pcieMode = 2 ∧ (pcieState 2).pcieAddr 8 0 = none ∧
    ((pcieState 1).setDictN 0x2000 2 0x100000001000).pcieAddr 8 0 = some 0x100000001000 ∧
    (pcieState 1).pcieReach 0x100000001000 4 = true ∧ ((pcieState 1).pcieTouch 0x100000001000 4).2 = 0 ∧
    (pagesOf 0x100000001000 4).any (fun pg => match (pcieState 1).page pg with | some p => p.ro | none => true) = false ∧
    (((pcieState 1).translate 5 (pageOf 0x100000001000)).touchWrite 0x100000001000 [1, 2, 3, 4] false none).2.status = 0 := by
  decide +kernel

/-! ### ObjectsAreReadAndWritten -/

/-- A device that runs, with ODS host entry 0 at address 1, which may write. -/
def odsState : State := (State.reset.setDictN 0x1A41 1 (1 + 3 * 2 ^ 32))

/-- An ODS datagram. -/
def odsGram (op i sub flags len : Nat) (data : Bytes) : Bytes :=
  recOf 24 [(0, 2, 0x4F44), (2, 1, 1), (3, 1, op), (4, 4, 7), (8, 2, i), (10, 1, sub), (11, 1, flags), (16, 4, len)] ++ data

theorem wit_ods_read : odsState.odsTaken 1 (6 : Fin 7) 1 (odsGram 1 0x8000 6 0 0 []) 0 (odsReq (odsGram 1 0x8000 6 0 0 [])) ∧
    ((odsState.odsSeen (6 : Fin 7)).entryDef (odsReq (odsGram 1 0x8000 6 0 0 [])).index 6).isSome = true ∧
    odsState.odsTaken 1 (6 : Fin 7) 1 (odsGram 1 0x6000 6 0 0 []) 0 (odsReq (odsGram 1 0x6000 6 0 0 [])) ∧
    (odsState.odsSeen (6 : Fin 7)).entryDef (odsReq (odsGram 1 0x6000 6 0 0 [])).index 6 = none := by
  unfold State.odsTaken; decide +kernel

theorem wit_ods_write : odsState.odsTaken 2 (6 : Fin 7) 1 (odsGram 2 0x8000 6 0 2 [100, 0]) 0 (odsReq (odsGram 2 0x8000 6 0 2 [100, 0])) ∧
    (odsState.odsSeen (6 : Fin 7)).entryDef 0x8000 6 = some ⟨0x8000, 1024, 6, 1, 1, 3, 4, 64, true, none⟩ ∧
    DictDef.accepts ⟨0x8000, 1024, 6, 1, 1, 3, 4, 64, true, none⟩ 100 = true ∧
    (odsState.odsSeen (6 : Fin 7)).entryQuiet 0x8000 6 100 = true ∧
    odsState.odsTaken 2 (6 : Fin 7) 1 (odsGram 2 0x6000 6 0 2 [1, 0]) 0 (odsReq (odsGram 2 0x6000 6 0 2 [1, 0])) := by
  unfold State.odsTaken; decide +kernel

theorem wit_ods_read_block : odsState.odsTaken 3 (6 : Fin 7) 1 (odsGram 3 0x0100 1 0 0 []) 0 (odsReq (odsGram 3 0x0100 1 0 0 [])) ∧
    ((odsState.odsSeen (6 : Fin 7)).captureValue 0 0x0100 1).2.1 = 0 := by
  unfold State.odsTaken; decide +kernel

theorem wit_ods_write_block (last : Bool) :
    odsState.odsTaken 4 (6 : Fin 7) 1 (odsGram 4 0x1A20 1 (2 * b2n last) 3 [1, 2, 3]) 0
      (odsReq (odsGram 4 0x1A20 1 (2 * b2n last) 3 [1, 2, 3])) ∧
    (odsReq (odsGram 4 0x1A20 1 (2 * b2n last) 3 [1, 2, 3])).flags.testBit 1 = last ∧
    (odsState.odsSeen (6 : Fin 7)).entryDef 0x1A20 1 = some ⟨0x1A20, 1, 1, 5, 1, 15, 3, 0, true, none⟩ := by
  unfold State.odsTaken; cases last <;> decide +kernel

/-! ### StoredSetAndDebugReads -/

/-- A device whose debug access is unlocked, host entry 0 selecting a register. -/
def dbgState (a : Nat) : State :=
  (State.reset.setDictN 0x1000 5 1).setHost 0 { OdsHost.idle with dbgAddr := a, capture := some (1, [1, 2], 1, 0) }

theorem wit_stored_set : (dbgState 0).live = true ∧ (dbgState 0).sys.storing = none ∧
    ((dbgState 0).storeCmd 1).1.sys.storing ≠ none ∧ ((dbgState 0).storeCmd 1).1.live = true ∧
    ((dbgState 0).host 0).capture = some (1, [1, 2], 1, 0) := by decide +kernel

theorem wit_debug_read : (dbgState 0x4000000).dictN 0x1000 5 ≠ 0 ∧ ((dbgState 0x4000000).host 0).dbgAddr % 8 = 0 ∧
    inAlias ((dbgState 0x4000000).host 0).dbgAddr = false ∧ regExists ((dbgState 0x4000000).host 0).dbgAddr = true ∧
    regExists ((dbgState 0x3000000).host 0).dbgAddr = false ∧ State.reset.dictN 0x1000 5 = 0 := by decide +kernel

/-! ### RegisterWritesFollowTheirClass -/

theorem wit_write_ro : State.reset.writes (.registerWrite (.crown 0) 0x4000000 8 5#64) (.crown 0) 0x4000000 5 ∧
    (regDef 0x4000000).map (·.cls) = some .ro :=
  ⟨⟨by decide +kernel, by decide +kernel, by decide +kernel, .inl ⟨5#64, rfl, rfl, by decide +kernel⟩⟩, by decide +kernel⟩

/-- A quiescent RWQ register by its alias word: bit 3 of BRM_PLL_AUD. -/
theorem wit_write_rwq : State.reset.writes (.bitAliasWrite .pcie (0x20000000 + Reg.BRM_PLL_AUD * 64 + 3 * 8) 1#64) .pcie
      Reg.BRM_PLL_AUD (State.reset.aliasValue Reg.BRM_PLL_AUD 3 1) ∧
    (regDef Reg.BRM_PLL_AUD).map (fun d => (d.cls, plainQuiet d.base,
      State.reset.rwqQuiet d.base (d.ix0 Reg.BRM_PLL_AUD) (d.ix1 Reg.BRM_PLL_AUD))) = some (.rwq, true, true) :=
  ⟨⟨by decide +kernel, by decide +kernel, by decide +kernel,
    .inr (.inl ⟨_, 3, 1#64, rfl, by decide +kernel, by decide +kernel, by decide +kernel, rfl⟩)⟩, by decide +kernel⟩

theorem wit_write_busy : (withRegs [(Reg.CAD_CTRL, 1)]).writes (.registerWrite (.crown 0) Reg.CAD_EPOCH 8 5#64) (.crown 0) Reg.CAD_EPOCH 5 ∧
    (regDef Reg.CAD_EPOCH).map (fun d => (d.cls, plainQuiet d.base,
      (withRegs [(Reg.CAD_CTRL, 1)]).rwqQuiet d.base (d.ix0 Reg.CAD_EPOCH) (d.ix1 Reg.CAD_EPOCH))) = some (.rwq, true, false) :=
  ⟨⟨by decide +kernel, by decide +kernel, by decide +kernel, .inl ⟨5#64, rfl, rfl, by decide +kernel⟩⟩, by decide +kernel⟩

theorem wit_write_rwl : (dbgState 0x4000028).writes (.dbgDataWrite 0 5#64) .odsDebug 0x4000028 5 ∧
    (regDef 0x4000028).map (fun d => (d.cls, plainLive d.base)) = some (.rwl .immediate, true) ∧
    (dbgState 0x4000010).writes (.dbgDataWrite 0 5#64) .odsDebug 0x4000010 5 ∧
    (regDef 0x4000010).map (fun d => (d.cls, plainLive d.base)) = some (.rwl .tileDispatch, true) :=
  ⟨⟨by decide +kernel, by decide +kernel, by decide +kernel,
    .inr (.inr ⟨0, 5#64, rfl, rfl, by decide +kernel, rfl, by decide +kernel⟩)⟩,
   by decide +kernel,
   ⟨by decide +kernel, by decide +kernel, by decide +kernel,
    .inr (.inr ⟨0, 5#64, rfl, rfl, by decide +kernel, rfl, by decide +kernel⟩)⟩,
   by decide +kernel⟩

theorem wit_write_ctrl : State.reset.writes (.registerWrite (.crown 0) (Reg.CFG_CTRL 116) 8 2#64) (.crown 0) (Reg.CFG_CTRL 116) 2 ∧
    blockAssigned 116 = true ∧ State.reset.brm.off = false ∧ inAlias 0x3000000 = false ∧ regExists 0x3000000 = false :=
  ⟨⟨by decide +kernel, by decide +kernel, by decide +kernel, .inl ⟨2#64, rfl, rfl, by decide +kernel⟩⟩, by decide +kernel⟩

/-! ### SignaturesSweepAndCommit -/

/-- Block 0x60 with CFG_STATUS and a reference. -/
def sigState (st ref : Nat) : State :=
  withRegs [(Reg.CFG_STATUS 0x60, st), (Reg.CFG_SIG_REF 0x60, ref)]

theorem wit_sweep : State.reset.brm.off = false ∧ blockAssigned (0x60 : Fin 117) = true ∧
    (sigState 16 0).bit (Reg.CFG_STATUS (0x60 : Fin 117)) 4 = true ∧
    (sigState 8 0).bit (Reg.CFG_STATUS (0x60 : Fin 117)) 3 = true ∧
    (sigState 8 0).signature 0x60 ≠ (sigState 8 0).fld (Reg.CFG_SIG_REF 0x60) 0 32 ∧
    (sigState 8 (State.reset.signature 0x60)).signature 0x60 =
      (sigState 8 (State.reset.signature 0x60)).fld (Reg.CFG_SIG_REF 0x60) 0 32 := by decide +kernel

/-! ### SnapshotsCopyCounters -/

theorem wit_snap : State.reset.brm.off = false ∧ blockAssigned (0x67 : Fin 117) = true ∧
    0 < (blockCounters (0x67 : Fin 117)).length ∧ 0x67 ∈ allBlocks := by decide +kernel

/-! ### SuppliesOutputsAndSeamLinks -/

theorem wit_supply : State.reset.mdl.off = 0 ∧ State.reset.brm.off = false := by decide +kernel

/-! ### PowerPointsAndDroop -/

/-- Palm 0 in transition up to point 6 from 5. -/
def moveState (up rail : Bool) : State :=
  { State.reset with
    brm := { Brim.reset with moves := OMap.put [] 0 ⟨if up then 6 else 5, rail⟩, stretch := OMap.put [] 0 0, lowering := 2 } }

theorem wit_period : State.reset.brm.off = false ∧ (moveState true false).brm.off = false ∧
    (moveState true false).brm.moves.find (0 : Fin 4) = some ⟨6, false⟩ ∧ (moveState true false).movingUp (0 : Fin 4) = true ∧
    (moveState true false).palmDivided (0 : Fin 4) = false := by decide +kernel

/-- A device whose Palm 0 has the dividers of point 5 and returns to it. -/
def dividedState : State :=
  { State.reset with
    brm := { (moveState false false).brm with divs := [(0, 16), (1, 16), (2, 16), (3, 16), (16, 24)] },
    regs := [(Reg.BRM_STATE, 16#64)] }

theorem wit_divided : dividedState.palmDivided (0 : Fin 4) = true ∧ dividedState.dividerMay (25 : Fin 26) = true ∧
    dividedState.brm.moves.find (0 : Fin 4) = some ⟨5, false⟩ ∧ dividedState.brm.off = false := by decide +kernel

/-- That device with Palm 0 out of transition and no floor. -/
def droopState : State :=
  { dividedState with
    brm := { dividedState.brm with moves := [] }, regs := [(Reg.BRM_STATE, 16#64), (Reg.BRM_OPPT, 0x75#64)] }

theorem wit_floor : droopState.floorPoint (0 : Fin 4) < droopState.palmPoint (0 : Fin 4) := by
  have h : droopState.floorPoint (0 : Fin 4) = 0 := by unfold State.floorPoint; split <;> decide +kernel
  rw [h]; decide +kernel

theorem wit_droop : State.reset.brm.stretch.find (0 : Fin 4) = none ∧ droopState.brm.stretch.find (0 : Fin 4) = some 0 ∧
    droopState.brm.moves.find (0 : Fin 4) = none ∧
    dividedState.brm.lowering.testBit (1 : Fin 4) = true ∧ dividedState.palmPoint (1 : Fin 4) ≠ 0 ∧
    dividedState.brm.moves.find (1 : Fin 4) = none := by decide +kernel

/-! ### HeatClocksAndGates -/

theorem wit_heat : State.reset.brm.off = false ∧
    hottest (List.replicate 64 400) (List.range 64) < 1840 ∧ 1600 ≤ hottest (List.replicate 64 1700) (palmSensors 3) ∧
    hottest (List.replicate 64 1700) (List.range 64) < 1840 ∧ 1840 ≤ hottest (List.replicate 64 1900) (List.range 64) ∧
    State.reset.brm.offAt = none := by decide +kernel

theorem wit_off : ({ State.reset with brm := { Brim.reset with offAt := some 0 }, time := { State.reset.time with
    tb0 := { State.reset.time.tb0 with val := 2000000 * 2 ^ 32 } } } : State).now = 2000000 := by decide +kernel

theorem wit_gate : gateNamed (0x27 : Fin 256) = true ∧ (1#64).getLsbD 0 = true ∧ (2#64).getLsbD 0 = false ∧
    gateNamed (0x05 : Fin 256) = false := by decide +kernel

/-- Gate 0x93 is on and automatic, and its unit is quiescent. -/
theorem wit_idle_gate : State.reset.running = true ∧ State.reset.bit (Reg.BRM_GATE (0x93 : Fin 256)) 0 = true ∧
    State.reset.bit (Reg.BRM_GATE (0x93 : Fin 256)) 1 = true ∧ (∀ k, k ∈ gatesBelow (0x93 : Fin 256) → State.reset.unitQuiet k = true) ∧
    State.reset.gateRefusal (0 : Fin 256) ≠ none := by decide +kernel

/-! ### ResetsBegin -/

/-- The reset state at 20 ms, with boot state. -/
def bootState (b : Boot) : State :=
  { State.reset with boot := b, time := { State.reset.time with tb0 := { State.reset.time.tb0 with val := 20000000 * 2 ^ 32 } } }

theorem wit_resets : State.reset.mdl.off = 0 ∧ State.reset.boot.held = 0 ∧ State.reset.boot.held.testBit 0 = false ∧
    (bootState { Boot.reset with held := 1, inReset := true }).boot.held.testBit 0 = true ∧
    (bootState { Boot.reset with resetAt := some 1, doneAt := some 1 }).live = true ∧
    1 + 10000000 ≤ (bootState { Boot.reset with resetAt := some 1, doneAt := some 1 }).now ∧
    State.reset.fwBusy = false ∧ (State.reset.setDictN 0x3201 3 1).fwBusy = true := by decide +kernel

/-! ### BootAndRecoveryProgress -/

/-- Boot at its header. -/
def headState : State := { bootState Boot.reset with regs := [(Reg.SEC_STATE, 1#64)] }

theorem wit_boot : headState.live = true ∧ headState.boot.stage = 0 ∧ headState.phase = 1 ∧ headState.tooHot = false ∧
    (if false then headState.headerCode headState.boot.image else 1) = 1 := by decide +kernel

/-- The ROM in recovery with its ports enabled and up. -/
def recState (b : Boot) : State :=
  { (bootState { b with trained := 1 }).setDictN 0x1A00 1 1 with regs := [(Reg.SEC_STATE, 3#64), (Reg.NET_STATE, 63#64)] }

/-- A valid OFFER of 1,024 bytes. -/
def offerMsg : Bytes := recOf 16 [(0, 2, 0x5243), (2, 1, 1), (3, 1, 2), (12, 4, 1024)]

theorem wit_recovery : (recState Boot.reset).recovering = true ∧ (recState Boot.reset).brm.off = false ∧
    (recState Boot.reset).portUp (0 : Fin 6) = true ∧ recOk offerMsg 2 = true ∧ 1024 ≤ fieldLE offerMsg 12 4 ∧
    fieldLE offerMsg 12 4 ≤ 16777216 := by decide +kernel

/-- An exchange of 1,025 bytes with its first GET outstanding since the start. -/
def exch (sends : Nat) : Recovery :=
  { port := 0, host := 1, total := 1025, data := [], gets := OMap.put [] 1024 (sends, 0), next := 2048 }

/-- The DATA for it. -/
def dataMsg : Bytes := recOf 16 [(0, 2, 0x5243), (2, 1, 1), (3, 1, 4), (8, 4, 1024), (12, 4, 1)] ++ [7]

theorem wit_data : recOk dataMsg 4 = true ∧ fieldLE dataMsg 12 4 = (exch 1).pieceLen (fieldLE dataMsg 8 4) ∧
    16 + (exch 1).pieceLen (fieldLE dataMsg 8 4) ≤ dataMsg.length ∧
    ((exch 1).gets.find (fieldLE dataMsg 8 4)).isSome = true ∧ (recState { Boot.reset with recovery := some (exch 1) }).recovering = true ∧
    ((exch 1).gets.drop (fieldLE dataMsg 8 4)).entries = [] ∧ (exch 1).total ≤ (exch 1).next := by decide +kernel

/-- The GETs of `exch sends` that are late at 120 ms. -/
def lateGets (sends : Nat) : List (Nat × Nat × Nat) :=
  (exch sends).gets.entries.filter (fun (e : Nat × Nat × Nat) => decide (e.2.2 + 100000000 ≤ 120000000))

theorem wit_resend : ((lateGets 1).any (fun e => decide (50 ≤ e.2.1)) = false ∧ lateGets 1 ≠ []) ∧
    (lateGets 50).any (fun e => decide (50 ≤ e.2.1)) = true ∧
    ({ State.reset with time := { State.reset.time with tb0 := { State.reset.time.tb0 with val := 120000000 * 2 ^ 32 } } } : State).now =
      120000000 := by decide +kernel

theorem wit_stages : (({ headState with boot := { Boot.reset with stage := 1, trained := 0 } } : State).setFld Reg.SEC_STATE 0 3 2).phase = 2 ∧
    ((State.reset.setRegN Reg.SEC_STATE 4).phase = 4 ∧ State.reset.boot.trained = 0) := by decide +kernel

/-! ### UpdatesIdentityAndLog -/

theorem wit_updates : State.reset.fwBusy = false ∧ 8 ≤ State.reset.freeFrames 3 ∧
    (State.reset.host (0 : Fin 8)).withPiece (dictKey 0x3201 1) 0 [1] = some [1] ∧ State.reset.boot.ownerHash = [] ∧
    (State.reset.setDictN 0x3201 3 1).fwBusy = true ∧ (State.reset.setDictN 0x3201 3 1).dictN 0x3201 3 = 1 ∧
    (State.reset.setDictN 0x3201 3 2).dictN 0x3201 3 = 2 ∧ allZero (List.replicate 48 1) = false ∧
    ((State.reset.setHost 3 { OdsHost.idle with att := 1 }).host (3 : Fin 8)).att = 1 ∧ State.reset.brm.off = false ∧
    (State.reset.setDictN 0x5100 1 600).dictN 0x5150 2 + 600 ≤ (State.reset.setDictN 0x5100 1 600).dictN 0x5100 1 := by
  decide +kernel

/-! ### StopsReleasesAndHardwareCauses -/

theorem wit_stops : State.reset.brm.off = false ∧ State.reset.live = true ∧ State.reset.inSafe = false ∧
    State.reset.bit Reg.CUF_STOP 4 = false ∧ State.reset.bit Reg.CUF_CAP_SRC 3 = false ∧
    (withRegs [(Reg.CUF_CAP_SRC, 8)]).bit Reg.CUF_CAP_SRC 3 = true ∧ State.reset.releaseCause 3 = 1 ∧
    ({ withRegs [(Reg.CUF_STATE, 2)] with cuff := { Cuff.reset with inA := true, inB := true } } : State).releaseCause 3 = 0 := by
  decide +kernel

/-! ### ErrorRecordsAreKeptHandledAndTaken -/

/-- A record of class 4, without an action. -/
def recIn (sev : Fin 4) (ctx : Option (Fin 256)) : RecordIn := ⟨sev, 4, 0, 0x73, ctx, 0xFFFF, 0⟩

/-- The record that it makes, handled or not. -/
def errRec (h : Bool) (n : Nat) : ErrRec :=
  { State.reset.mkRec 1 4 0 0x73 none n 0 with handled := h }

/-- The reset state with a queue of warnings. -/
def withQueue (q : List ErrRec) (s : State := State.reset) : State := { s with cuff := { s.cuff with q1 := q } }

theorem wit_records : State.reset.brm.off = false ∧
    ((withQueue [errRec false 7]).cuff.queue 1).getLast? = some (errRec false 7) ∧
    (errRec false 0xFFFF).same ((withQueue [errRec false 0xFFFF]).mkRec 1 4 0 0x73 none 0xFFFF 0) = true ∧
    (errRec false 7).same ((withQueue [errRec false 7]).mkRec 1 4 0 0x73 none 0xFFFF 0) = false ∧
    (State.reset.regN (Reg.CUF_ACT 4) ||| classFixed 4) % 64 = 0 ∧ 64 ≤ ((withQueue (List.replicate 64 (errRec false 7))).cuff.queue 1).length ∧
    (withRegs [(Reg.CUF_ERQ_STATE 1, 128)]).bit (Reg.CUF_ERQ_STATE 1) 7 = true ∧
    (withRegs [(Reg.QUE_CTX_STATE 3, 3)]).fld (Reg.QUE_CTX_STATE 3) 0 2 = 3 ∧
    (withQueue [errRec false 7]).cuff.nextSeverity = some 1 ∧
    takeUnhandled ((withQueue [errRec false 7]).cuff.queue 1) = some (errRec false 7, [errRec true 7]) ∧
    (withQueue [errRec true 7]).cuff.queue (1 : Fin 4) = errRec true 7 :: [] := by decide +kernel

/-! ### ChecksAndAgesAreDecided -/

/-- Check channel 2 at frame 5, with the values that its sides have held; its objects are 1 and 2. -/
def chk (a b : Nat) (seenA seenB : List (Nat × Nat × List Nat)) (o : Option Nat := none) : State :=
  { withRegs [(Reg.SYN_VALUE 1, a), (Reg.SYN_VALUE 2, b), (Reg.CUF_CHK_SYNC 2, 1 + 2 * 65536), (Reg.CUF_CHK_CFG 2, 1 + 3 * 2 ^ 32)] with
    cuff := { Cuff.reset with checks := OMap.put [] 2 ⟨5, o, seenA, seenB, 0⟩ },
    time := { State.reset.time with tb0 := { State.reset.time.tb0 with val := 20000000 * 2 ^ 32 } } }

theorem wit_checks : State.reset.running = true ∧ (chk 5 5 [] []).checkValues (2 : Fin 64) = (5, 5) ∧
    (chk 6 5 [(5, 0, [])] []).checkValues (2 : Fin 64) = (6, 5) ∧ everHeld [(5, 0, [])] 5 = true ∧ everHeld [] 5 = false ∧
    (chk 5 5 [] []).cuff.checks.find (2 : Fin 64) = some ⟨5, none, [], [], 0⟩ ∧ (chk 7 7 [] []).checkValues (2 : Fin 64) = (7, 7) ∧
    firstFrom [(5, 0, [])] 5 = some (5, 0, []) ∧ firstFrom [] 5 = none ∧
    0 + (chk 5 4 [(5, 0, [])] []).fld (Reg.CUF_CHK_CFG (2 : Fin 64)) 16 16 * 1000 ≤ (chk 5 4 [(5, 0, [])] []).now ∧
    (chk 4 4 [] []).fld (Reg.CUF_CHK_CFG (2 : Fin 64)) 32 16 = 3 ∧ (chk 4 4 [] []).now = 20000000 ∧
    (unitsOf [(5, 0, [9])] 5).any (fun u => (unitsOf [(5, 0, [9])] 5).contains u) = true := by decide +kernel

/-- Age monitor 3, enabled with a limit of 1 ms, whose source has been silent for 20 ms. -/
def ageState : State :=
  { withRegs [(Reg.CUF_AGE_CFG 3, 1 + 1000 * 2 ^ 32)] with
    cuff := { Cuff.reset with ages := OMap.put [] 3 ⟨0, false⟩ },
    time := { State.reset.time with tb0 := { State.reset.time.tb0 with val := 20000000 * 2 ^ 32 } } }

theorem wit_age : ageState.brm.off = false ∧ ageState.cuff.ages.find (3 : Fin 64) = some ⟨0, false⟩ ∧
    ageState.bit (Reg.CUF_AGE_CFG (3 : Fin 64)) 0 = true ∧
    ageState.fld (Reg.CUF_AGE_CFG (3 : Fin 64)) 32 32 * 1000 < ageState.now - 0 := by decide +kernel

/-! ### SelfTestsAndCheckersRun -/

/-- The island is ready, with unit 0x10's test as given, at 9.5 s of time base 0, with a test interval of 10 ms. -/
def testState (x : SelfTest) (phase : Nat := 2) (quar : Nat := 0) (free : Bool := true) : State :=
  { withRegs [(Reg.CUF_STATE, phase), (Reg.CUF_CFG, 10 * 65536), (Reg.CUF_QUAR 0, quar * 65536)] with
    cuff := { Cuff.reset with tests := [(0x10, x)] },
    gnt := if free then [] else [(0, { Gnt.idle with tile := some (tile0 []) })],
    time := { State.reset.time with tb0 := { State.reset.time.tb0 with val := 9500000000 * 2 ^ 32 } } }

/-- A test that has begun, with so many slices of a targeted test to go. -/
def begun (target : Nat) (run retest : Bool := false) : SelfTest :=
  { SelfTest.idle with started := 1, running := run, target := target, retest := retest }

theorem wit_selftest : (testState (begun 0)).running = true ∧ fullSlices (0x10 : Fin 256) ≠ 0 ∧
    (testState (begun 0)).sliceMay (0x10 : Fin 256) = true ∧ (testState (begun 0) 2 0 false).sliceMay (0x10 : Fin 256) = false ∧
    (testState (begun 0)).fld Reg.CUF_STATE 0 2 = 2 ∧ (testState (begun 5 true true) 2 1).quarantined (0x10 : Fin 256) = true ∧
    ((testState (begun 5 true true) 2 1).selfTest (0x10 : Fin 256)).retest = true ∧
    ((testState (begun 1 true true) 2 1).selfTest (0x10 : Fin 256)).target = 1 ∧ (testState (begun 1 true true) 2 1).cuff.queue 0 = [] ∧
    ((testState (begun 0 true)).selfTest (0x10 : Fin 256)).running = true ∧ (testState (begun 0)).cuff.queue 2 = [] ∧
    (testState (begun 0)).coverageLate (0x10 : Fin 256) 9 = true ∧ (testState (begun 0)).coverageLate (0x10 : Fin 256) 10 = true ∧
    (testState (begun 0) 1).running = true ∧ (testState (begun 0) 1).fld Reg.CUF_STATE 0 2 = 1 := by decide +kernel

theorem wit_checker : State.reset.brm.off = false ∧ State.reset.cuff.checkerRun = none ∧
    ({ State.reset with cuff := { Cuff.reset with checkerRun := some 11 } } : State).cuff.checkerRun = some 11 := by decide +kernel

/-! ### WellFormed: one term for each check that it refuses, and one that it takes -/

theorem test_wf_part : (Instr.matrixTile 0 32).wf = false ∧ (Instr.copy 0 32 .clean).wf = false ∧ (Instr.matrixTile 0 31).wf = true := by
  decide

theorem test_wf_page : (Instr.blockFetchDone 4194304 0 .clean).wf = false ∧ (Instr.accessTimeout 0 32 0 0).wf = false ∧
    (Instr.accessTimeout 0 0 4194304 0).wf = false ∧ (Instr.accessTimeout 0 31 4194303 0).wf = true := by decide

theorem test_wf_sample : (Instr.audioBlock 0 { data16 with cause := 11 }).wf = false ∧
    (Instr.audioBlock 0 { data16 with chroma := 5 }).wf = false ∧ (Instr.audioBlock 0 { data16 with cause := 10 }).wf = false ∧
    (Instr.audioBlock 0 { data16 with cause := 10, status := 6, chroma := 4 }).wf = true := by decide

theorem test_wf_picture : (Instr.pictureDecoded 0 { picWith 11 with status := 0 }).wf = false ∧
    (Instr.pictureDecoded 0 { picWith 10 with status := 7 }).wf = false ∧
    (Instr.pictureDecoded 0 { picWith 0 with colour := 4 }).wf = false ∧
    (Instr.pictureDecoded 0 { picWith 10 with status := 5, colour := 3 }).wf = true := by decide

theorem test_wf_text : (Instr.textTokenized ⟨0, 7⟩).wf = false ∧ (Instr.textTokenized ⟨0, 5⟩).wf = true := by decide

theorem test_wf_replay : (Instr.seamReplay 0 ⟨0, 3⟩ 0).wf = false ∧ (Instr.seamReplay 0 ⟨1, 0⟩ 0).wf = true := by decide

theorem test_wf_gptp : (Instr.gptpSyncRx 0 0 (2 ^ 35) false).wf = false ∧
    (Instr.gptpAnnounceRx 0 0 ⟨256, 0, 0, 0, 0, 0, 0⟩).wf = false := by decide

theorem test_wf_frame : (Instr.frameRx 0 (List.replicate 13 0)).wf = false ∧
    (Instr.frameRx 0 (List.replicate 9217 0)).wf = false ∧ (Instr.frameRx 0 (List.replicate 14 0)).wf = true := by decide +kernel

theorem test_wf_datagram : (Instr.odsRead 0 (2 ^ 32) []).wf = false ∧ (Instr.offer 0 0 (List.replicate 1473 0)).wf = false := by
  decide +kernel

theorem test_wf_pieces : (Instr.fwStage 0 0 (List.replicate 1401 0) false).wf = false ∧
    (Instr.pcieInboundAccess 0 0 true []).wf = false ∧ (Instr.nonce 0 (List.replicate 4097 0)).wf = false := by decide +kernel

theorem test_wf_access : (Instr.registerWrite .pcie (2 ^ 48) 8 0).wf = false ∧ (Instr.registerWrite .pcie 0 3 0).wf = false ∧
    (Instr.bitAliasWrite .pcie 0x1FFFFFFF 0).wf = false ∧ (Instr.bitAliasWrite .pcie 0x30000000 0).wf = false ∧
    (Instr.registerWrite .pcie 0 8 0).wf = true := by decide

theorem test_wf_calibration : (Instr.calWrite 0x400F 0 []).wf = false ∧ (Instr.calWrite 0x5000 0 []).wf = false ∧
    (Instr.calWrite 0x4010 256 []).wf = false ∧ (Instr.calWrite 0x4010 255 []).wf = true := by decide

theorem test_wf_measurements : (Instr.lifetimeSecond (2 ^ 32)).wf = false ∧ (Instr.capPeriod 0 [0]).wf = false ∧
    (Instr.capPeriod (2 ^ 16) (List.replicate 14 0)).wf = false ∧ (Instr.capPeriod 0 (List.replicate 14 65537)).wf = false ∧
    (Instr.thermalSample [0]).wf = false ∧ (Instr.thermalSample (List.replicate 64 32768)).wf = false := by decide

theorem test_wf_record : (Instr.errorRecord ⟨0, 0, 0, 0, none, 0, 0⟩).wf = false ∧
    (Instr.errorRecord ⟨0, 33, 0, 0, none, 0, 0⟩).wf = false ∧ (Instr.errorRecord ⟨0, 32, 0, 0, none, 0, 0⟩).wf = true := by decide

/-! ### Values that the spec states -/

/-- R505: pins from PWR_GOOD to configuration, and without power. -/
theorem test_pins : State.reset.pin (.safeStop 0) = .stop ∧ State.reset.pin (.gpio 3) = .pulled ∧ State.reset.pin (.camTrig 0) = .low ∧
    State.reset.pin .ethPhyRst = .low ∧ State.reset.pin .pwrGood = .high ∧
    ({ State.reset with mdl := { State.reset.mdl with off := 1 } } : State).pin (.gpio 3) = .floating := by decide +kernel

/-- R507: I2C_ALERT_N is low in recovery. -/
theorem test_alert : (State.reset.enterRecovery 7 0).pin .i2cAlert = .low ∧ (State.reset.enterRecovery 7 0).pin .ethPhyRst = .high := by
  decide +kernel

/-- R514: the CRC-32C of the nine ASCII bytes 123456789. -/
theorem test_crc32c : crc32c [0x31, 0x32, 0x33, 0x34, 0x35, 0x36, 0x37, 0x38, 0x39] = 0xE3069283 := by decide +kernel

/-- FIPS 180-4's example: the SHA-384 of the three bytes abc begins with CB00753F and ends with 34C825A7. -/
theorem test_sha384 : (sha384 [0x61, 0x62, 0x63]).take 4 = [0xCB, 0x00, 0x75, 0x3F] ∧ (sha384 [0x61, 0x62, 0x63]).drop 44 =
    [0x34, 0xC8, 0x25, 0xA7] := by decide +kernel

/-- R410: the DEVICE body of a UBM-880-C: STEP_LETTER 0x42, STEP_NUMBER 1, GRADE 0 and PALMS 4. -/
theorem test_device_body : (capWords 0 0)[1]? = some 0x04000142 := by decide +kernel

end Sys2Proof.Tests
end

section
/-! PROOFS. What a write of ENABLE of a stream context or a pipeline does (R234, R261). A write that is accepted or refused
touches, beside the register written, only registers of the configuration area; everything else is set before it. -/

namespace Sys2Proof.Machine

/-! ## Bits, shadows and blocks -/

/-- A bit is a field of width 1. -/
theorem State.bit_eq_fld (s : State) (a k : Nat) : s.bit a k = decide (s.fld a k 1 = 1) := by
  simp [State.bit, State.fld, bits_eq, Nat.testBit_eq_decide_div_mod_eq]

/-- A bit reads as what was set. -/
theorem State.bit_setFld_same (s : State) (a k v : Nat) (hk : k < 64) :
    (s.setFld a k 1 v).bit a k = decide (v % 2 = 1) := by
  rw [State.bit_eq_fld, State.fld_setFld_same _ _ _ _ _ (by omega), Nat.pow_one]

/-- A bit that is cleared reads 0. -/
theorem State.bit_setFld_zero (s : State) (a k : Nat) (hk : k < 64) : (s.setFld a k 1 0).bit a k = false :=
  (s.bit_setFld_same a k 0 hk).trans (decide_eq_false (by omega))

/-- A bit that is set reads 1. -/
theorem State.bit_setFld_one (s : State) (a k : Nat) (hk : k < 64) : (s.setFld a k 1 1).bit a k = true :=
  (s.bit_setFld_same a k 1 hk).trans (decide_eq_true (by omega))

theorem State.fld_ofReg {s t : State} {a : Nat} (h : t.reg a = s.reg a) (lo w : Nat) : t.fld a lo w = s.fld a lo w := by
  unfold State.fld State.regN
  rw [h]

theorem State.shown_setReg_other (s : State) {a b : Nat} (w : Word) (h : b ≠ a) : (s.setReg a w).shown b = s.shown b := by
  unfold State.shown
  rw [State.setReg_shadow, State.reg_setReg_other _ _ h]

theorem State.applyShadow_none {s : State} {a : Nat} (h : s.shadow.find a = none) : s.applyShadow a = s := by
  simp [State.applyShadow, h]

theorem State.applyShadow_some {s : State} {a : Nat} {w : Word} (h : s.shadow.find a = some w) :
    s.applyShadow a = { s.setReg a w with shadow := s.shadow.drop a } := by
  simp [State.applyShadow, h]

/-- R394: a shadow that applies changes no value that a read returns. -/
@[simp] theorem State.shown_applyShadow (s : State) (a b : Nat) : (s.applyShadow a).shown b = s.shown b := by
  cases hf : s.shadow.find a with
  | none => rw [State.applyShadow_none hf]
  | some w =>
    rw [State.applyShadow_some hf]
    by_cases h : b = a
    · subst h
      show ((s.shadow.drop b).find b).getD ((s.setReg b w).reg b) = (s.shadow.find b).getD (s.reg b)
      simp [hf]
    · show ((s.shadow.drop a).find b).getD ((s.setReg a w).reg b) = (s.shadow.find b).getD (s.reg b)
      rw [OMap.find_drop_other _ h, State.reg_setReg_other _ _ h]

theorem ite_le_of {c : Prop} [Decidable c] {m n b : Nat} (hm : c → m ≤ b) (hn : ¬ c → n ≤ b) : (if c then m else n) ≤ b := by
  split
  · next h => exact hm h
  · next h => exact hn h

/-- The CFG registers of the block of any address lie in the configuration area (R412). -/
theorem blockOf_le (a : Nat) : blockOf a ≤ 0x1FF := by
  unfold blockOf
  repeat' refine ite_le_of (fun _ => ?_) (fun _ => ?_)
  all_goals omega

/-! ## What the bookkeeping of a register write may change -/

/-- From `s` to `t` only registers of the configuration area, below 0x20000, change. -/
structure ConfigOnly (s t : State) : Prop where
  units : t.units = s.units
  reg : ∀ a, 0x20000 ≤ a → t.reg a = s.reg a

section
variable {s t u : State}

theorem ConfigOnly.refl (s : State) : ConfigOnly s s := ⟨rfl, fun _ _ => rfl⟩

theorem ConfigOnly.trans (h : ConfigOnly s t) (k : ConfigOnly t u) : ConfigOnly s u :=
  ⟨k.units.trans h.units, fun a ha => (k.reg a ha).trans (h.reg a ha)⟩

theorem ConfigOnly.vis (h : ConfigOnly s t) : t.vis = s.vis := State.units_vis h.units

theorem ConfigOnly.vstr (h : ConfigOnly s t) (k : Nat) : t.vstr k = s.vstr k := by
  unfold State.vstr
  rw [h.vis]

theorem ConfigOnly.vpipe (h : ConfigOnly s t) (p : Nat) : t.vpipe p = s.vpipe p := by
  unfold State.vpipe
  rw [h.vis]

theorem ConfigOnly.bit (h : ConfigOnly s t) {a : Nat} (ha : 0x20000 ≤ a) (k : Nat) : t.bit a k = s.bit a k :=
  State.bit_ofReg (h.reg a ha) k

theorem ConfigOnly.fld (h : ConfigOnly s t) {a : Nat} (ha : 0x20000 ≤ a) (lo w : Nat) : t.fld a lo w = s.fld a lo w :=
  State.fld_ofReg (h.reg a ha) lo w

theorem ConfigOnly.ite {c : Prop} [Decidable c] (ht : ConfigOnly s t) (hu : ConfigOnly s u) :
    ConfigOnly s (if c then t else u) := by
  split
  · exact ht
  · exact hu

end

theorem State.configOnly_setReg (s : State) {a : Nat} (w : Word) (h : a < 0x20000) : ConfigOnly s (s.setReg a w) :=
  ⟨rfl, fun _ hb => s.reg_setReg_other w (by omega)⟩

theorem State.configOnly_uncommit (s : State) (k : Nat) : ConfigOnly s (s.uncommit k) := by
  unfold State.uncommit
  split
  · next hk =>
    have : k < 0x75 := by
      simp only [blockAssigned, Bool.or_eq_true, Bool.and_eq_true, decide_eq_true_eq] at hk
      omega
    exact s.configOnly_setReg _ (by unfold Reg.CFG_STATUS; omega)
  · exact ConfigOnly.refl s

theorem State.configOnly_cfgReject (s : State) {k : Nat} (hk : k ≤ 0x1FF) : ConfigOnly s (s.cfgReject k) :=
  (s.configOnly_setReg _ (by unfold Reg.CFG_STATUS; omega)).trans
    (State.configOnly_setReg _ _ (by unfold Reg.CFG_CNT_REJECT; omega))

/-- R391: a bus error met by software is kept and counted, and sends no record. -/
theorem State.configOnly_busError_software (s : State) (w : Bool) (cause addr : Nat) :
    ConfigOnly s (s.busError software w cause addr) := by
  unfold State.busError
  extract_lets code core word s1 s2
  have h1 : ConfigOnly s s1 := ConfigOnly.ite (ConfigOnly.refl s)
    ((s.configOnly_setReg _ (by decide)).trans (State.configOnly_setReg _ _ (by decide)))
  have h2 : ConfigOnly s s2 := h1.trans (s1.configOnly_setReg _ (by decide))
  rw [if_neg (show ¬ code = 4 by decide)]
  exact h2

theorem State.configOnly_refuseRule_software (s : State) (a : Nat) : ConfigOnly s (s.refuseRule software a) :=
  s.configOnly_busError_software _ _ _

/-- R395: an accepted write of an RWQ register stores its new value. -/
theorem State.configOnly_storeReg_rwq (s : State) {a : Nat} (v : Nat) (ha : (regDef a).map (·.cls) = some .rwq) :
    ConfigOnly (s.setRegN a (writtenTo a (s.shown a).toNat v)) (s.storeReg a v) := by
  obtain ⟨d, hd, hc⟩ := Option.map_eq_some_iff.1 ha
  simp only [State.storeReg, writtenTo, hd, hc]
  exact ConfigOnly.ite (ConfigOnly.refl _) (State.configOnly_uncommit _ _)

/-- R395: clearing ENABLE stores the register with ENABLE 0. -/
theorem State.configOnly_clearEnable (s : State) (a v : Nat) : ConfigOnly (s.setFld a 0 1 0) (s.clearEnable a v) := by
  unfold State.clearEnable State.clearBit
  have h := (s.setFld a 0 1 0).configOnly_uncommit (blockOf a)
  dsimp only
  split
  · exact h
  · exact ConfigOnly.ite h (h.trans (State.configOnly_cfgReject _ (blockOf_le a)))

/-- A command whose effect keeps the queue and the time bases answers with that effect. -/
theorem next_of_configOnly {o : Host.Outcome State Fault Refusal} {s u w : State} (ho : o = done s w) (h : ConfigOnly u w)
    (hp : u.pending = s.pending) (ht : u.time = s.time) : o = .next w := by
  have ep : w.pending = s.pending := (units_field (·.pending) (fun _ => rfl) h.units).trans hp
  have et : w.time = s.time := (units_field (·.time) (fun _ => rfl) h.units).trans ht
  rw [ho, done_next, ← ep, ← et]

/-! ## Stream contexts and pipelines -/

@[simp] theorem State.vstr_setVstr (s : State) (k : Nat) (x : VStream) : (s.setVstr k x).vstr k = x := by
  simp [State.vstr, State.setVstr]

@[simp] theorem State.vpipe_setVpipe (s : State) (p : Nat) (x : VPipe) : (s.setVpipe p x).vpipe p = x := by
  simp [State.vpipe, State.setVpipe]

theorem visStrCfg_rwq (k : Fin 48) : (regDef (Reg.VIS_STR_CFG k)).map (·.cls) = some .rwq := by
  revert k
  decide +kernel

theorem visPipeCfg_rwq (p : Fin 16) : (regDef (Reg.VIS_PIPE_CFG p)).map (·.cls) = some .rwq := by
  revert p
  decide +kernel

/-! ### Streams (R234) -/

/-- A stream context that is taken into use: empty, at sequence number 0, its VIS_STATE bit 1. -/
def State.openStream (s : State) (k : Nat) : State :=
  ((s.setVstr k VStream.idle).setRegN (Reg.VIS_STR_SEQ k) 0).setFld Reg.VIS_STATE k 1 1

theorem State.shown_openStream (s : State) (k : Nat) : (s.openStream k).shown (Reg.VIS_STR_CFG k) = s.shown (Reg.VIS_STR_CFG k) :=
  (State.shown_setReg_other _ _ (by unfold Reg.VIS_STR_CFG Reg.VIS_STATE; omega)).trans
    (State.shown_setReg_other _ _ (by unfold Reg.VIS_STR_CFG Reg.VIS_STR_SEQ; omega))

theorem State.vstr_openStream (s : State) (k : Nat) : (s.openStream k).vstr k = VStream.idle := s.vstr_setVstr k _

theorem State.seq_openStream (s : State) (k : Nat) : (s.openStream k).reg (Reg.VIS_STR_SEQ k) = 0 := by
  have h := (s.setVstr k VStream.idle).reg_setRegN_same (Reg.VIS_STR_SEQ k) 0
  exact (State.reg_setFld_other _ _ _ _ (by unfold Reg.VIS_STR_SEQ Reg.VIS_STATE; omega)).trans h

theorem State.visState_openStream (s : State) (k : Fin 48) : (s.openStream k).bit Reg.VIS_STATE k = true :=
  State.bit_setFld_one _ _ _ (by omega)

theorem State.vstr_dropStream (s : State) (k : Nat) : (s.dropStream k).vstr k = VStream.idle := State.vstr_setVstr _ k _

theorem State.visState_dropStream (s : State) (k : Fin 48) : (s.dropStream k).bit Reg.VIS_STATE k = false :=
  State.bit_setFld_zero _ _ _ (by omega)

theorem State.samples_dropStream (s : State) (k : Nat) : ((s.dropStream k).vpipe (s.strPipe k)).samples =
    (s.vpipe (s.strPipe k)).samples.filter (fun y => y.stream != k) :=
  congrArg VPipe.samples (State.vpipe_setVpipe s (s.strPipe k) _)

section
variable {s : State} {k : Nat} {v : Nat}

theorem State.writeStream_opens (ag : Agent) (he : s.bit (Reg.VIS_STR_CFG k) 0 = false) (hv : v.testBit 0 = true)
    (hm : s.streamMask k v = 0) : s.writeStream ag k v = (s.openStream k).storeReg (Reg.VIS_STR_CFG k) v := by
  simp [State.writeStream, State.openStream, he, hv, hm]

theorem State.writeStream_refuses (ag : Agent) (he : s.bit (Reg.VIS_STR_CFG k) 0 = false) (hv : v.testBit 0 = true)
    (hm : s.streamMask k v ≠ 0) :
    s.writeStream ag k v = (s.orReg Reg.VIS_REJECT (s.streamMask k v)).refuseRule ag (Reg.VIS_STR_CFG k) := by
  simp [State.writeStream, he, hv, hm]

theorem State.writeStream_drops (ag : Agent) (he : s.bit (Reg.VIS_STR_CFG k) 0 = true) (hv : v.testBit 0 = false) :
    s.writeStream ag k v = (s.dropStream k).clearEnable (Reg.VIS_STR_CFG k) v := by
  simp [State.writeStream, he, hv]

end

theorem exec_streamEnable (s : State) (k : Fin 48) (v : BitVec 64) :
    exec (.streamEnable k v) s = done s (s.writeStream software k v.toNat) := (rfl)

section
variable {s : State} {k : Fin 48} {v : BitVec 64}

/-- R234: a sound configuration is stored and the stream context is taken into use. -/
theorem streamEnable_sound (he : s.bit (Reg.VIS_STR_CFG k) 0 = false) (hv : v.toNat.testBit 0 = true)
    (hm : s.streamMask k v.toNat = 0) :
    ∃ t, exec (.streamEnable k v) s = .next t ∧ t.vstr k = VStream.idle ∧ t.reg (Reg.VIS_STR_SEQ k) = 0 ∧
      t.bit Reg.VIS_STATE k = true ∧
      t.reg (Reg.VIS_STR_CFG k) =
        BitVec.ofNat 64 (writtenTo (Reg.VIS_STR_CFG k) (s.shown (Reg.VIS_STR_CFG k)).toNat v.toNat) := by
  have hc := (s.openStream k).configOnly_storeReg_rwq v.toNat (visStrCfg_rwq k)
  rw [State.shown_openStream, ← State.writeStream_opens software he hv hm] at hc
  refine ⟨_, next_of_configOnly (exec_streamEnable s k v) hc rfl rfl, ?_, ?_, ?_, ?_⟩
  · exact (hc.vstr k).trans (s.vstr_openStream k)
  · rw [hc.reg _ (by unfold Reg.VIS_STR_SEQ; omega),
      State.reg_setRegN_other _ _ (by unfold Reg.VIS_STR_SEQ Reg.VIS_STR_CFG; omega), State.seq_openStream]
  · rw [hc.bit (by decide), State.bit_ofReg (State.reg_setRegN_other _ _ (by unfold Reg.VIS_STATE Reg.VIS_STR_CFG; omega)),
      State.visState_openStream]
  · rw [hc.reg _ (by unfold Reg.VIS_STR_CFG; omega), State.reg_setRegN_same]

/-- R234: the mask of a bad configuration is ORed into VIS_REJECT and nothing is stored. -/
theorem streamEnable_bad (he : s.bit (Reg.VIS_STR_CFG k) 0 = false) (hv : v.toNat.testBit 0 = true)
    (hm : s.streamMask k v.toNat ≠ 0) :
    ∃ t, exec (.streamEnable k v) s = .next t ∧ t.vis = s.vis ∧
      t.reg Reg.VIS_REJECT = s.reg Reg.VIS_REJECT ||| BitVec.ofNat 64 (s.streamMask k v.toNat) ∧
      t.reg (Reg.VIS_STR_CFG k) = s.reg (Reg.VIS_STR_CFG k) := by
  have hc := (s.orReg Reg.VIS_REJECT (s.streamMask k v.toNat)).configOnly_refuseRule_software (Reg.VIS_STR_CFG k)
  rw [← State.writeStream_refuses software he hv hm] at hc
  refine ⟨_, next_of_configOnly (exec_streamEnable s k v) hc rfl rfl, hc.vis, ?_, ?_⟩
  · rw [hc.reg _ (by decide), State.reg_orReg_same]
  · rw [hc.reg _ (by unfold Reg.VIS_STR_CFG; omega),
      State.reg_orReg_other _ _ (by unfold Reg.VIS_STR_CFG Reg.VIS_REJECT; omega)]

/-- R261: clearing ENABLE empties the stream context and discards its samples. -/
theorem streamEnable_clear (he : s.bit (Reg.VIS_STR_CFG k) 0 = true) (hv : v.toNat.testBit 0 = false) :
    ∃ t, exec (.streamEnable k v) s = .next t ∧ t.vstr k = VStream.idle ∧ t.bit Reg.VIS_STATE k = false ∧
      t.bit (Reg.VIS_STR_CFG k) 0 = false ∧
      (t.vpipe (s.strPipe k)).samples = (s.vpipe (s.strPipe k)).samples.filter (fun y => y.stream != k.val) := by
  have hc := (s.dropStream k).configOnly_clearEnable (Reg.VIS_STR_CFG k) v.toNat
  rw [← State.writeStream_drops software he hv] at hc
  refine ⟨_, next_of_configOnly (exec_streamEnable s k v) hc rfl rfl, ?_, ?_, ?_, ?_⟩
  · exact (hc.vstr k).trans (s.vstr_dropStream k)
  · rw [hc.bit (by decide), State.bit_ofReg (State.reg_setFld_other _ _ _ _ (by unfold Reg.VIS_STATE Reg.VIS_STR_CFG; omega)),
      State.visState_dropStream]
  · exact (hc.bit (by unfold Reg.VIS_STR_CFG; omega) 0).trans (State.bit_setFld_zero _ _ _ (by decide))
  · rw [hc.vpipe]
    exact s.samples_dropStream k

end

/-! ### Pipelines (R261) -/

theorem State.shown_startPipe (s : State) (p : Nat) : (s.startPipe p).shown (Reg.VIS_PIPE_CFG p) = s.shown (Reg.VIS_PIPE_CFG p) :=
  (State.shown_setReg_other _ _ (by unfold Reg.VIS_PIPE_CFG Reg.VIS_PIPE_STATE; omega)).trans
    (State.shown_applyShadow (s.setVpipe p VPipe.idle) (Reg.VIS_PIPE_TIMEOUT p) _)

theorem State.visPipeState_startPipe (s : State) (p : Nat) :
    (s.startPipe p).reg (Reg.VIS_PIPE_STATE p) = BitVec.ofNat 64 (1 + s.slotCount p * 2 ^ 8) := State.reg_setRegN_same _ _ _

/-- R252: a batch opens behind the others. -/
theorem State.vpipe_openBatch (s : State) (p seq : Nat) : (s.openBatch p seq).vpipe p =
    { s.vpipe p with batches := (s.vpipe p).batches ++ [VBatch.fresh seq (s.batchRows p)] } := by
  have h : (s.applyShadow (Reg.VIS_PIPE_TIMEOUT p)).vpipe p = s.vpipe p := by
    unfold State.vpipe
    rw [State.units_vis (s.units_applyShadow _)]
  simp [State.openBatch, h]

theorem State.vpipe_startPipe (s : State) (p : Nat) :
    (s.startPipe p).vpipe p = { VPipe.idle with batches := [VBatch.fresh 0 (s.batchRows p)] } := by
  have h := (s.setVpipe p VPipe.idle).vpipe_openBatch p 0
  rw [State.vpipe_setVpipe] at h
  exact h

theorem State.pending_applyShadow (s : State) (a : Nat) : (s.applyShadow a).pending = s.pending :=
  units_field (·.pending) (fun _ => rfl) (s.units_applyShadow a)

theorem State.time_applyShadow (s : State) (a : Nat) : (s.applyShadow a).time = s.time :=
  units_field (·.time) (fun _ => rfl) (s.units_applyShadow a)

/-- A pipeline with no RESTART or STOP in progress is emptied and DISABLED. -/
theorem State.stopPipe_quiet {s : State} {p : Nat} (hr : (s.vpipe p).restart = none) (hq : (s.vpipe p).stopReq = none) :
    s.stopPipe p = (s.setVpipe p VPipe.idle).setFld (Reg.VIS_PIPE_STATE p) 0 2 0 := by
  simp [State.stopPipe, hr, hq]

section
variable {s : State} {p : Nat} {v : Nat}

theorem State.writePipe_starts (ag : Agent) (he : s.bit (Reg.VIS_PIPE_CFG p) 0 = false) (hv : v.testBit 0 = true)
    (hs : s.pipeSound p = true) : s.writePipe ag p v = (s.startPipe p).storeReg (Reg.VIS_PIPE_CFG p) v := by
  simp [State.writePipe, he, hv, hs]

theorem State.writePipe_refuses (ag : Agent) (he : s.bit (Reg.VIS_PIPE_CFG p) 0 = false) (hv : v.testBit 0 = true)
    (hs : s.pipeSound p = false) : s.writePipe ag p v = (s.orReg Reg.VIS_REJECT 4).refuseRule ag (Reg.VIS_PIPE_CFG p) := by
  simp [State.writePipe, he, hv, hs]

theorem State.writePipe_stops (ag : Agent) (he : s.bit (Reg.VIS_PIPE_CFG p) 0 = true) (hv : v.testBit 0 = false) :
    s.writePipe ag p v = (s.stopPipe p).clearEnable (Reg.VIS_PIPE_CFG p) v := by
  simp [State.writePipe, he, hv]

end

theorem exec_pipelineEnable (s : State) (p : Fin 16) (v : BitVec 64) :
    exec (.pipelineEnable p v) s = done s (s.writePipe software p v.toNat) := (rfl)

section
variable {s : State} {p : Fin 16} {v : BitVec 64}

/-- R261: a sound pipeline is RUNNING with batch 0 open and every slot free. -/
theorem pipelineEnable_sound (he : s.bit (Reg.VIS_PIPE_CFG p) 0 = false) (hv : v.toNat.testBit 0 = true)
    (hs : s.pipeSound p = true) :
    ∃ t, exec (.pipelineEnable p v) s = .next t ∧
      t.vpipe p = { VPipe.idle with batches := [VBatch.fresh 0 (s.batchRows p)] } ∧
      t.reg (Reg.VIS_PIPE_STATE p) = BitVec.ofNat 64 (1 + s.slotCount p * 2 ^ 8) ∧
      t.reg (Reg.VIS_PIPE_CFG p) =
        BitVec.ofNat 64 (writtenTo (Reg.VIS_PIPE_CFG p) (s.shown (Reg.VIS_PIPE_CFG p)).toNat v.toNat) := by
  have hc := (s.startPipe p).configOnly_storeReg_rwq v.toNat (visPipeCfg_rwq p)
  rw [State.shown_startPipe, ← State.writePipe_starts software he hv hs] at hc
  refine ⟨_, next_of_configOnly (exec_pipelineEnable s p v) hc (State.pending_applyShadow _ _) (State.time_applyShadow _ _),
    ?_, ?_, ?_⟩
  · exact (hc.vpipe p).trans (s.vpipe_startPipe p)
  · rw [hc.reg _ (by unfold Reg.VIS_PIPE_STATE; omega),
      State.reg_setRegN_other _ _ (by unfold Reg.VIS_PIPE_STATE Reg.VIS_PIPE_CFG; omega), State.visPipeState_startPipe]
  · rw [hc.reg _ (by unfold Reg.VIS_PIPE_CFG; omega), State.reg_setRegN_same]

/-- R261: an unsound pipeline is refused with bit 2 of VIS_REJECT. -/
theorem pipelineEnable_unsound (he : s.bit (Reg.VIS_PIPE_CFG p) 0 = false) (hv : v.toNat.testBit 0 = true)
    (hs : s.pipeSound p = false) :
    ∃ t, exec (.pipelineEnable p v) s = .next t ∧ t.vis = s.vis ∧
      t.reg Reg.VIS_REJECT = s.reg Reg.VIS_REJECT ||| 4 ∧ t.reg (Reg.VIS_PIPE_CFG p) = s.reg (Reg.VIS_PIPE_CFG p) := by
  have hc := (s.orReg Reg.VIS_REJECT 4).configOnly_refuseRule_software (Reg.VIS_PIPE_CFG p)
  rw [← State.writePipe_refuses software he hv hs] at hc
  refine ⟨_, next_of_configOnly (exec_pipelineEnable s p v) hc rfl rfl, hc.vis, ?_, ?_⟩
  · exact (hc.reg _ (by decide)).trans (State.reg_orReg_same _ _ _)
  · rw [hc.reg _ (by unfold Reg.VIS_PIPE_CFG; omega),
      State.reg_orReg_other _ _ (by unfold Reg.VIS_PIPE_CFG Reg.VIS_REJECT; omega)]

/-- R261: clearing ENABLE empties the pipeline and makes it DISABLED. -/
theorem pipelineEnable_clear (he : s.bit (Reg.VIS_PIPE_CFG p) 0 = true) (hv : v.toNat.testBit 0 = false)
    (hr : (s.vpipe p).restart = none) (hq : (s.vpipe p).stopReq = none) :
    ∃ t, exec (.pipelineEnable p v) s = .next t ∧ t.vpipe p = VPipe.idle ∧ t.pipeState p = 0 ∧
      t.bit (Reg.VIS_PIPE_CFG p) 0 = false := by
  have hc := (s.stopPipe p).configOnly_clearEnable (Reg.VIS_PIPE_CFG p) v.toNat
  rw [← State.writePipe_stops software he hv, State.stopPipe_quiet hr hq] at hc
  refine ⟨_, next_of_configOnly (exec_pipelineEnable s p v) hc rfl rfl, ?_, ?_, ?_⟩
  · exact (hc.vpipe p).trans (s.vpipe_setVpipe p _)
  · have hne : Reg.VIS_PIPE_STATE p ≠ Reg.VIS_PIPE_CFG p := by unfold Reg.VIS_PIPE_STATE Reg.VIS_PIPE_CFG; omega
    calc (s.writePipe software p v.toNat).pipeState p = _ := hc.fld (by unfold Reg.VIS_PIPE_STATE; omega) 0 2
      _ = ((s.setVpipe p VPipe.idle).setFld (Reg.VIS_PIPE_STATE p) 0 2 0).fld (Reg.VIS_PIPE_STATE p) 0 2 :=
        State.fld_ofReg (State.reg_setFld_other _ _ _ _ hne) 0 2
      _ = 0 % 2 ^ 2 := State.fld_setFld_same _ _ _ _ _ (by decide)
      _ = 0 := Nat.zero_mod _
  · exact (hc.bit (by unfold Reg.VIS_PIPE_CFG; omega) 0).trans (State.bit_setFld_zero _ _ _ (by decide))

end

/-- Settles O27: one lemma per case of the two writes, sound, refused and cleared. -/
theorem streamsAndPipelinesAreEnabled : Obligations.StreamsAndPipelinesAreEnabled := by
  intro s k p v
  rw [← BitVec.testBit_toNat]
  refine ⟨fun he hv => ⟨streamEnable_sound he hv, streamEnable_bad he hv⟩, streamEnable_clear,
    fun he hv => ⟨pipelineEnable_sound he hv, pipelineEnable_unsound he hv⟩, pipelineEnable_clear⟩

end Sys2Proof.Machine
end

section
/-! PROOFS. What the module's supplies, safety outputs, I²C management and Seam links do (R9 to R11, R495 to R507). Each command
that meets its condition answers with one effect, named below; what the effect leaves in the state is read off from it. -/

namespace Sys2Proof.Machine

/-! ## Answers -/

/-- A command whose effect keeps the queue and the time bases answers with that effect. -/
theorem done_of_kept {s t : State} (hp : t.pending = s.pending) (ht : t.time = s.time) : done s t = .next t := by
  rw [done_next, ← hp, ← ht]

/-- Without its rails the device does nothing. -/
theorem State.powered_off {s : State} (f : State → State) (h : s.brm.off = true) : s.powered f = s := by simp [State.powered, h]

section
variable {s : State} {f : State → State} (h : s.brm.off = false) (hp : (f s).pending = s.pending) (ht : (f s).time = s.time)
include h hp ht

/-- A command that needs the rails answers with its effect where they are on. -/
theorem done_powered : done s (s.powered f) = .next (f s) := by rw [State.powered_run s f h, done_of_kept hp ht]

/-- A command that needs the rails and a condition on its operand answers with its effect where both hold. -/
theorem done_powered_if {c : Prop} [Decidable c] (hc : c) :
    done s (s.powered (fun u => if c then f u else u)) = .next (f s) := by
  rw [State.powered_run s _ h, if_pos hc, done_of_kept hp ht]

end

/-! ## Dictionary numbers -/

theorem State.dictGet_setDictN_other (s : State) {i sub e : Nat} (v : Nat) (h : e ≠ dictKey i sub) :
    SMap.get dictReset (s.setDictN i sub v).dict e = SMap.get dictReset s.dict e := SMap.get_set_other _ _ _ h

theorem State.withDict_setDictN (s : State) (i sub v : Nat) (d : SMap Nat) :
    { s.setDictN i sub v with dict := d } = { s with dict := d } := (rfl)

/-- Another number of the same index keeps its value. -/
theorem State.dictN_setDictN_sub (s : State) (i v : Nat) {sub sub' : Nat} (h : sub' ≠ sub) :
    (s.setDictN i sub v).dictN i sub' = s.dictN i sub' :=
  s.dictN_setDictN_other v (by unfold dictKey; omega)

/-! ## Seam replays (R9, R10) -/

section
variable (s : State) (k : Nat) (flits : SeamFlits) (ns : Nat)

/-- R9: a replay is invisible but for the dictionary. -/
theorem State.seamReplay_frame : { s.seamReplay k flits ns with dict := s.dict } = s := by
  simp only [State.seamReplay, State.withDict_setDictN]

/-- R10: of the dictionary only the four counters of the link change. -/
theorem State.dictGet_seamReplay_other {e : Nat} (h : ∀ j, 1 ≤ j → j ≤ 4 → e ≠ dictKey (0x5200 + k) j) :
    SMap.get dictReset (s.seamReplay k flits ns).dict e = SMap.get dictReset s.dict e := by
  unfold State.seamReplay
  rw [State.dictGet_setDictN_other _ _ (h 4 (by decide) (by decide)), State.dictGet_setDictN_other _ _ (h 3 (by decide) (by decide)),
    State.dictGet_setDictN_other _ _ (h 2 (by decide) (by decide)), State.dictGet_setDictN_other _ _ (h 1 (by decide) (by decide))]

/-- R10: what the four counters of the link read after a replay. -/
theorem State.dictN_seamReplay :
    (s.seamReplay k flits ns).dictN (0x5200 + k) 1 = (s.dictN (0x5200 + k) 1 + flits.failed) % 2 ^ 64 ∧
    (s.seamReplay k flits ns).dictN (0x5200 + k) 2 = (s.dictN (0x5200 + k) 2 + 1) % 2 ^ 64 ∧
    (s.seamReplay k flits ns).dictN (0x5200 + k) 3 = (s.dictN (0x5200 + k) 3 + flits.resent) % 2 ^ 64 ∧
    (s.seamReplay k flits ns).dictN (0x5200 + k) 4 = Nat.max (s.dictN (0x5200 + k) 4) (Nat.min ns (2 ^ 32 - 1)) := by
  simp [State.seamReplay, State.dictN_setDictN_sub]

end

/-- SEAM_REPLAY (R10) of a device with its rails on. -/
theorem exec_seamReplay_on {s : State} (h : s.brm.off = false) (k : Fin 11) (flits : SeamFlits) (ns : Nat) :
    exec (.seamReplay k flits ns) s = .next (s.seamReplay k flits ns) := done_powered h rfl rfl

/-- SEAM_REPLAY without rails. -/
theorem exec_seamReplay_off {s : State} (h : s.brm.off = true) (k : Fin 11) (flits : SeamFlits) (ns : Nat) :
    exec (.seamReplay k flits ns) s = .next s :=
  (congrArg (done s) (State.powered_off _ h)).trans (done_of_kept rfl rfl)

/-- Settles O8: without its rails the device keeps its state; with them only the four counters are written. -/
theorem replaysAreInvisible : Obligations.ReplaysAreInvisible := by
  intro s k flits ns
  cases h : s.brm.off with
  | true => exact ⟨s, exec_seamReplay_off h k flits ns, rfl, fun _ _ => rfl⟩
  | false =>
    exact ⟨_, exec_seamReplay_on h k flits ns, s.seamReplay_frame k flits ns, fun _ he => s.dictGet_seamReplay_other k flits ns he⟩

/-! ## The SAFE_STOP pairs (R466) -/

/-- One pair is put into its stop state. -/
def State.stopPair (s : State) (p : Nat) : State :=
  let t1 := s.orReg Reg.CUF_STOP (2 ^ p)
  let rest := 15 - 3 * 4 ^ p
  let t2 := { t1 with cuff := { t1.cuff with cmdLevel := t1.cuff.cmdLevel &&& rest, openCh := t1.cuff.openCh &&& rest } }
  if s.bit Reg.CUF_STOP p then t2 else (t2.dictAddSat 0x5130 (p + 1) 1 32).bump Reg.CUF_CNT_STOP

/-- Stopping both pairs stops one after the other. -/
theorem State.stopPairs_both (s : State) : s.stopPairs 3 = (s.stopPair 0).stopPair 1 := (rfl)

section
variable (s : State)

theorem State.reg_stopPair (p : Nat) : (s.stopPair p).reg Reg.CUF_STOP = (s.orReg Reg.CUF_STOP (2 ^ p)).reg Reg.CUF_STOP := by
  unfold State.stopPair
  extract_lets t1 rest t2
  split
  · rfl
  · exact State.reg_bump_other _ (by decide)

theorem State.bit_stopPair (p : Nat) {k : Nat} (hk : k < 64) :
    (s.stopPair p).bit Reg.CUF_STOP k = (s.bit Reg.CUF_STOP k || (2 ^ p).testBit k) :=
  (State.bit_ofReg (s.reg_stopPair p) k).trans (s.bit_orReg_same _ _ _ hk)

theorem State.cmdLevel_stopPair (p : Nat) : (s.stopPair p).cuff.cmdLevel = s.cuff.cmdLevel &&& (15 - 3 * 4 ^ p) := by
  unfold State.stopPair
  extract_lets t1 rest t2
  split <;> rfl

/-- R466: with both pairs stopped, both show it and no channel is commanded to run. -/
theorem State.stopPairs_both_stopped :
    (s.stopPairs 3).bit Reg.CUF_STOP 0 = true ∧ (s.stopPairs 3).bit Reg.CUF_STOP 1 = true ∧ (s.stopPairs 3).cuff.cmdLevel = 0 := by
  rw [State.stopPairs_both]
  refine ⟨?_, ?_, ?_⟩
  · rw [State.bit_stopPair _ _ (by decide), State.bit_stopPair _ _ (by decide), Nat.testBit_two_pow_self, Bool.or_true, Bool.true_or]
  · rw [State.bit_stopPair _ _ (by decide), Nat.testBit_two_pow_self, Bool.or_true]
  · rw [State.cmdLevel_stopPair, State.cmdLevel_stopPair, Nat.and_assoc]
    exact Nat.and_zero _

end

/-! ## Input supply (R495 to R498) -/

section
variable {s : State} (h : s.mdl.off = 0) (why : Nat)
include h

/-- R496: what the loss of the input of a supplied module does. -/
theorem State.powerLoss_supplied : s.powerLoss why =
    { s.stopPairs 3 with
      brm := { (s.stopPairs 3).brm with off := true, offAt := none }, mdl := { (s.stopPairs 3).mdl with off := why } } := by
  simp [State.powerLoss, h]

/-- R496: both pairs stop and the rails turn off. -/
theorem State.powerLoss_stops : (s.powerLoss why).mdl.off = why ∧ (s.powerLoss why).brm.off = true ∧
    (s.powerLoss why).bit Reg.CUF_STOP 0 = true ∧ (s.powerLoss why).bit Reg.CUF_STOP 1 = true ∧
    (s.powerLoss why).cuff.cmdLevel = 0 := by
  rw [State.powerLoss_supplied h]
  exact ⟨rfl, rfl, s.stopPairs_both_stopped⟩

theorem done_powerLoss : done s (s.powerLoss why) = .next (s.powerLoss why) := by
  have hp := State.blank_pending (s.blank_stopPairs 3)
  have ht := State.blank_time (s.blank_stopPairs 3)
  rw [State.powerLoss_supplied h]
  exact done_of_kept hp ht

end

theorem exec_vinUndervoltage_below {s : State} (h : s.mdl.off = 0) {mv : Nat} (hmv : mv < 18000) :
    exec (.vinUndervoltage mv) s = .next (s.powerLoss 1) :=
  (congrArg (done s) (if_pos hmv)).trans (done_powerLoss h 1)

theorem exec_vinOvervoltage_above {s : State} (h : s.mdl.off = 0) {mv : Nat} (hmv : 63000 < mv) :
    exec (.vinOvervoltage mv) s = .next (s.powerLoss 2) :=
  (congrArg (done s) (if_pos hmv)).trans (done_powerLoss h 2)

/-- R498: the input that is back ends a loss of its own kind only. -/
theorem State.supplyBack_off (s : State) (why : Nat) : (s.supplyBack why).mdl.off = if s.mdl.off = why then 0 else s.mdl.off := by
  unfold State.supplyBack
  split <;> rfl

theorem done_supplyBack (s : State) (why : Nat) : done s (s.supplyBack why) = .next (s.supplyBack why) := by
  unfold State.supplyBack
  split
  · exact done_of_kept rfl rfl
  · exact done_of_kept rfl rfl

section
variable (s : State) {mv : Nat}

theorem exec_vinRise_above (hmv : 19000 ≤ mv) : exec (.vinRise mv) s = .next (s.supplyBack 1) :=
  (congrArg (done s) (if_pos hmv)).trans (done_supplyBack s 1)

theorem exec_vinOvRecover_below (hmv : mv < 61000) : exec (.vinOvRecover mv) s = .next (s.supplyBack 2) :=
  (congrArg (done s) (if_pos hmv)).trans (done_supplyBack s 2)

end

/-! ## I²C management (R507) -/

section
variable {s : State} (h : s.mdl.off = 0)
include h

theorem exec_i2cOffsetWrite_supplied (o : BitVec 8) :
    exec (.i2cOffsetWrite o) s = .next { s with mdl := { s.mdl with offset := o.toNat } } :=
  (congrArg (done s) (if_pos h)).trans (done_of_kept rfl rfl)

theorem exec_i2cRead_supplied : exec .i2cRead s = .next s.i2cRead :=
  (congrArg (done s) (if_pos h)).trans (done_of_kept rfl rfl)

end

/-! ## Dips, the auxiliary supply, safety outputs and failed links of a device with its rails on -/

section
variable {s : State} (h : s.brm.off = false)
include h

theorem exec_vinDip_below {mv : Nat} (hmv : mv < 18000) :
    exec (.vinDip mv) s = .next (s.setDictN 0x2E10 3 ((s.dictN 0x2E10 3 + 1) % 2 ^ 32)) :=
  done_powered_if h rfl rfl hmv

theorem exec_auxOverload_above {ma : Nat} (hma : 400 < ma) :
    exec (.auxOverload ma) s = .next ((s.setDictN 0x2E10 6 50).setDictN 0x2E10 5 1) :=
  done_powered_if h rfl rfl hma

theorem exec_auxRecover_below {ma : Nat} (hma : ma < 300) :
    exec (.auxRecover ma) s = .next ((s.setDictN 0x2E10 6 ma).setDictN 0x2E10 5 0) :=
  done_powered_if h rfl rfl hma

theorem exec_safeStopCurrentLimit_on (ch : Fin 4) :
    exec (.safeStopCurrentLimit ch) s = .next (s.openChannels (2 ^ ch.val)) := done_powered h rfl rfl

theorem exec_safeVextLoss_below {mv : Nat} (hmv : mv < 10000) :
    exec (.safeVextLoss mv) s = .next ((s.openChannels 5).setDictN 0x2E10 4 mv) :=
  done_powered_if h rfl rfl hmv

/-- R11: the failure of a link is a fatal record of class SEAM. -/
theorem exec_seamLinkFailure_on (k : Fin 11) :
    exec (.seamLinkFailure k) s = .next (s.record 3 1 0 0xFF none 0xFFFF 0) :=
  have hb := s.blank_record 3 1 0 0xFF none 0xFFFF 0
  done_powered h (State.blank_pending hb) (State.blank_time hb)

end

/-- Settles O46: each clause is the effect of one command, read off from the state that it answers. -/
theorem suppliesOutputsAndSeamLinks : Obligations.SuppliesOutputsAndSeamLinks := by
  intro s
  refine ⟨fun h => ⟨fun mv hmv => ?_, fun mv hmv => ?_, fun o => ?_, ?_⟩, fun mv hmv => ?_, fun mv hmv => ?_,
    fun h => ⟨fun mv hmv => ?_, fun ma hma => ?_, fun ma hma => ?_, fun ch => ?_, fun mv hmv => ?_, fun k flits ns => ?_,
      fun k => ?_⟩⟩
  · exact ⟨_, exec_vinUndervoltage_below h hmv, State.powerLoss_stops h 1⟩
  · exact ⟨_, exec_vinOvervoltage_above h hmv, State.powerLoss_stops h 2⟩
  · exact ⟨_, exec_i2cOffsetWrite_supplied h o, rfl⟩
  · refine ⟨_, exec_i2cRead_supplied h, congrArg (BitVec.ofNat 64) (Eq.symm ?_)⟩
    -- R507: the table of offsets, row by row, and zero outside it
    unfold State.i2cValue
    split <;> simp_all
  · exact ⟨_, exec_vinRise_above s hmv, s.supplyBack_off 1⟩
  · exact ⟨_, exec_vinOvRecover_below s hmv, s.supplyBack_off 2⟩
  · exact ⟨_, exec_vinDip_below h hmv, State.dictN_setDictN_same _ _ _ _⟩
  · exact ⟨_, exec_auxOverload_above h hma, State.dictN_setDictN_same _ _ _ _,
      (State.dictN_setDictN_sub _ _ _ (by decide)).trans (State.dictN_setDictN_same _ _ _ _)⟩
  · exact ⟨_, exec_auxRecover_below h hma, State.dictN_setDictN_same _ _ _ _,
      (State.dictN_setDictN_sub _ _ _ (by decide)).trans (State.dictN_setDictN_same _ _ _ _)⟩
  · exact ⟨_, exec_safeStopCurrentLimit_on h ch, rfl⟩
  · exact ⟨_, exec_safeVextLoss_below h hmv, State.dictN_setDictN_same _ _ _ _, rfl⟩
  · exact ⟨_, exec_seamReplay_on h k flits ns, s.dictN_seamReplay k flits ns⟩
  · exact ⟨_, exec_seamLinkFailure_on h k, s.inSafe_fatal _ _ _ _ _⟩

end Sys2Proof.Machine
end

section
/-! PROOFS. How tiles and the moves of state slots end (R56, R57, R129, R131). -/

namespace Sys2Proof.Machine

/-- While the engines run, an engine event answers with its effect; the queue and the time bases are as it found them. -/
theorem done_work {s : State} {f : State → State} (h : s.running = true) :
    done s (s.work f) = .next { f s with pending := s.pending, time := s.time } := by
  rw [State.work_running h, done_next]

/-! ## Buffer copies in the way (R130) -/

/-- A fold whose every step either keeps its pair or clears the flag has kept the pair where the flag is still set. -/
theorem foldl_eq_of_flag {σ α : Type} {f : σ × Bool → α → σ × Bool} (hf : ∀ a x, (f a x).2 = true → f a x = a) (xs : List α)
    (a : σ × Bool) (h : (xs.foldl f a).2 = true) : xs.foldl f a = a := by
  induction xs generalizing a with
  | nil => rfl
  | cons x xs ih =>
    have e : xs.foldl f (f a x) = f a x := ih _ h
    have hx : (f a x).2 = true := by rw [← e]; exact h
    exact e.trans (hf a x hx)

/-- R130: where no buffer copy is in the way, none is swapped out. -/
theorem State.guardSlots_ready {s : State} {g : Nat} {ws : List (Nat × Nat)} {own : Option (Nat × Nat)}
    (h : (s.guardSlots g ws own).2 = true) : s.guardSlots g ws own = (s, true) := by
  refine foldl_eq_of_flag (fun a e he => ?_) _ _ h
  dsimp only at he ⊢
  split at he
  · cases he
  · next hc => exact if_neg hc

/-! ## The end of a tile (R56, R57) -/

section
variable {s : State} {g : Nat} {tl : Tile} (h : (s.gntOf g).tile = some tl)
include h

/-- R56, R60: the last effect of a tile's completion is on the Gauntlet's three cycle and tile registers. -/
theorem State.tileComplete_eq : ∃ u : State, s.tileComplete g =
    ((u.setRegN (Reg.GNT_TILE_CYC g) tl.cost).setReg (Reg.GNT_CNT_BUSY g)
      (s.reg (Reg.GNT_CNT_BUSY g) + BitVec.ofNat 64 tl.cost)).setReg (Reg.GNT_CNT_TILES g) (s.reg (Reg.GNT_CNT_TILES g) + 1) := by
  unfold State.tileComplete
  rw [h]
  exact ⟨_, rfl⟩

theorem State.tileComplete_counts :
    (s.tileComplete g).reg (Reg.GNT_CNT_TILES g) = s.reg (Reg.GNT_CNT_TILES g) + 1 ∧
    (s.tileComplete g).reg (Reg.GNT_CNT_BUSY g) = s.reg (Reg.GNT_CNT_BUSY g) + BitVec.ofNat 64 tl.cost ∧
    (s.tileComplete g).reg (Reg.GNT_TILE_CYC g) = BitVec.ofNat 64 tl.cost := by
  obtain ⟨u, e⟩ := State.tileComplete_eq h
  have hbt : Reg.GNT_CNT_BUSY g ≠ Reg.GNT_CNT_TILES g := by unfold Reg.GNT_CNT_BUSY Reg.GNT_CNT_TILES; omega
  have hct : Reg.GNT_TILE_CYC g ≠ Reg.GNT_CNT_TILES g := by unfold Reg.GNT_TILE_CYC Reg.GNT_CNT_TILES; omega
  have hcb : Reg.GNT_TILE_CYC g ≠ Reg.GNT_CNT_BUSY g := by unfold Reg.GNT_TILE_CYC Reg.GNT_CNT_BUSY; omega
  rw [e]
  refine ⟨State.reg_setReg_same _ _ _, ?_, ?_⟩
  · rw [State.reg_setReg_other _ _ hbt, State.reg_setReg_same]
  · rw [State.reg_setReg_other _ _ hct, State.reg_setReg_other _ _ hcb, State.reg_setRegN_same]

/-- R57, R60: the last effect of an overrun is on the Gauntlet's counters of overruns and busy cycles. -/
theorem State.tileOverrun_eq : ∃ u : State, s.tileOverrun g =
    (u.setReg (Reg.GNT_CNT_OVERRUN g) (s.reg (Reg.GNT_CNT_OVERRUN g) + 1)).setReg (Reg.GNT_CNT_BUSY g)
      (s.reg (Reg.GNT_CNT_BUSY g) + BitVec.ofNat 64 (tl.est + 64)) := by
  unfold State.tileOverrun
  rw [h]
  exact ⟨_, rfl⟩

theorem State.tileOverrun_counts : (s.tileOverrun g).reg (Reg.GNT_CNT_OVERRUN g) = s.reg (Reg.GNT_CNT_OVERRUN g) + 1 := by
  obtain ⟨u, e⟩ := State.tileOverrun_eq h
  have hob : Reg.GNT_CNT_OVERRUN g ≠ Reg.GNT_CNT_BUSY g := by unfold Reg.GNT_CNT_OVERRUN Reg.GNT_CNT_BUSY; omega
  rw [e, State.reg_setReg_other _ _ hob, State.reg_setReg_same]

end

/-! ## State slots (R129, R131) -/

@[simp] theorem State.slotAt_putReq (s : State) (r : Nat) (q : Request) (a : Nat) : (s.putReq r q).slotAt a = s.slotAt a := (rfl)

/-- R129: a restore that starts puts its slot in phase 3, for the part that asked. -/
theorem State.slotAt_startRestore (s : State) (a : Nat) (y : Slot) (r p g off : Nat) :
    (s.startRestore a y r p g off).slotAt a =
      some { y with phase := 3, chunk := none, target := some (r, p), tg := g, toff := off } := by
  unfold State.startRestore
  extract_lets s0 s1 sync
  have h1 : s1.slotAt a = some { y with phase := 3, chunk := none, target := some (r, p), tg := g, toff := off } :=
    OMap.find_put_same _ _ _
  split
  · exact h1
  · split
    · exact h1
    · exact h1

/-- R129: a slot that has swapped out is at home only, or is being restored for the part that waits for it. -/
theorem State.slotAt_swapOutDone {s : State} {a : Nat} {y : Slot} (hy : s.slotAt a = some y) (hp : y.phase = 2) :
    (s.swapOutDone a).slotAt a =
      some (if y.target.isSome then { y with phase := 3, chunk := none } else { y with phase := 0 }) := by
  unfold State.swapOutDone
  rw [hy]
  dsimp only
  rw [if_pos hp]
  cases ht : y.target with
  | none => exact OMap.find_put_same _ _ _
  | some rp => exact State.slotAt_startRestore ..

/-- R129: a restore whose home copy is there and passes its check, with nothing in the way of it, puts the slot in the buffer. -/
theorem State.slotAt_restoreDone {s : State} {a r p : Nat} {y : Slot} (hy : s.slotAt a = some y) (hp : y.phase = 3)
    (ht : y.target = some (r, p)) (hf : s.fetching a (64 + slotStateBytes (s.peek a 64)) = false)
    (hc : s.restoreCause a .read = none) (hg : (s.guardSlots y.tg [(y.toff, slotCopyBytes (s.peek a 64))] none).2 = true) :
    (s.restoreDone a .read).slotAt a =
      some { y with g := y.tg, off := y.toff, phase := 1, chunk := none, steps := 0, stag := 0, chunkLen := 0 } := by
  have hn : ¬ (y.phase ≠ 3 ∨ s.fetching a (64 + slotStateBytes (s.peek a 64))) := by simp [hp, hf]
  unfold State.restoreDone
  rw [hy]
  dsimp only
  rw [if_neg hn, ht]
  dsimp only
  rw [hc]
  dsimp only
  rw [State.guardSlots_ready hg]
  exact OMap.find_put_same _ _ _

/-- Settles O11: the counters of a tile's end are the last registers that the event writes, and a slot's entry is the last that a
swap-out or a restore puts. -/
theorem tilesAndSlotsEnd : Obligations.TilesAndSlotsEnd :=
  ⟨fun _ _ _ hr h => ⟨_, done_work hr, State.tileComplete_counts h⟩,
   fun _ _ _ hr h => ⟨_, done_work hr, State.tileOverrun_counts h⟩,
   fun _ _ _ hr hy hp => ⟨_, done_work hr, State.slotAt_swapOutDone hy hp⟩,
   fun _ _ _ _ _ hr hy hp ht hf hc hg => ⟨_, done_work hr, State.slotAt_restoreDone hy hp ht hf hc hg⟩⟩

end Sys2Proof.Machine
end

section
/-! PROOFS. How a tile reaches the Gauntlet of its part (R50, R96, R106, R124): the command is read from the list, the dispatch
checks let it through, and it runs. Reading touches registers and the bookkeeping of the unified range only. -/

namespace Sys2Proof.Machine

/-! ## What a read changes (R168 to R176, R515) -/

/-- What a read of the unified range leaves alone: everything but registers and the range's bookkeeping. `State.units` leaves out
the bytes of the range as well; here they are kept, since a read changes none. -/
def State.readFrame (s : State) : State := { s with regs := [], umr := Umr.reset }

theorem State.readFrame_umem {s t : State} (h : t.readFrame = s.readFrame) : t.umem = s.umem := congrArg (·.umem) h

theorem State.readFrame_gbuf {s t : State} (h : t.readFrame = s.readFrame) : t.gbuf = s.gbuf := congrArg (·.gbuf) h

section
variable (s : State)

@[simp] theorem State.readFrame_setRegN (a v : Nat) : (s.setRegN a v).readFrame = s.readFrame := (rfl)
@[simp] theorem State.readFrame_setFld (a lo w v : Nat) : (s.setFld a lo w v).readFrame = s.readFrame := (rfl)
@[simp] theorem State.readFrame_bump (a : Nat) : (s.bump a).readFrame = s.readFrame := (rfl)
@[simp] theorem State.readFrame_setPage (n : Nat) (p : Page) : (s.setPage n p).readFrame = s.readFrame := (rfl)

theorem State.readFrame_ite {c : Prop} [Decidable c] {b t u : State} (ht : t.readFrame = b) (hu : u.readFrame = b) :
    (if c then t else u).readFrame = b := by
  split
  · exact ht
  · exact hu

theorem State.readFrame_each {α : Type} (xs : List α) (f : State → α → State) (hf : ∀ t x, (f t x).readFrame = t.readFrame) :
    (each xs f s).readFrame = s.readFrame :=
  each_inv (fun t => t.readFrame = s.readFrame) xs f s rfl (fun t x _ ht => (hf t x).trans ht)

@[simp] theorem State.readFrame_noteFault (c cause addr : Nat) : (s.noteFault c cause addr).readFrame = s.readFrame :=
  State.readFrame_ite rfl (by simp)

@[simp] theorem State.readFrame_translate (k n : Nat) : (s.translate k n).readFrame = s.readFrame :=
  State.readFrame_ite (b := s.readFrame) rfl rfl

@[simp] theorem State.readFrame_nextMove (flash : Bool) : (s.nextMove flash).readFrame = s.readFrame := by
  unfold State.nextMove
  refine State.readFrame_ite rfl ?_
  dsimp only
  split
  · rfl
  · rfl
  · rfl
  · exact State.readFrame_ite rfl rfl

@[simp] theorem State.readFrame_startMoves : s.startMoves.readFrame = s.readFrame :=
  s.readFrame_each _ _ (fun t _ => by simp)

@[simp] theorem State.readFrame_startWb (n b : Nat) (k : WbKind) (r : Option Nat) : (s.startWb n b k r).readFrame = s.readFrame :=
  State.readFrame_ite rfl (State.readFrame_startMoves _)

@[simp] theorem State.readFrame_takeFrame (code : Nat) : (s.takeFrame code).readFrame = s.readFrame :=
  State.readFrame_ite (by simp) (State.readFrame_ite (by simp) (State.readFrame_ite (by simp) (by simp)))

@[simp] theorem State.readFrame_freeOne (code : Nat) (rt : Bool) : (s.freeOne code rt).1.readFrame = s.readFrame := by
  unfold State.freeOne
  split
  · simp
  · split
    · rfl
    · split
      · simp
      · exact s.readFrame_each _ _ (fun t b => t.readFrame_startWb _ _ _ _)

@[simp] theorem State.readFrame_grantUpper (n code : Nat) (rt : Bool) : (s.grantUpper n code rt).1.readFrame = s.readFrame := by
  unfold State.grantUpper
  split
  · rfl
  · have h := s.readFrame_freeOne code rt
    split <;> next e => rw [e] at h; simpa using h

@[simp] theorem State.readFrame_startFetchFor (n b prio : Nat) (r l : Option Nat) (pool : Nat) :
    (s.startFetchFor n b prio r l pool).readFrame = s.readFrame := by
  unfold State.startFetchFor
  split
  · rfl
  · refine State.readFrame_ite ?_ ?_
    · exact (State.readFrame_bump _ _).trans (State.readFrame_startMoves _)
    · exact State.readFrame_startMoves _

@[simp] theorem State.readFrame_startFetch (n b : Nat) (rt : Bool) (r : Option Nat) : (s.startFetch n b rt r).readFrame = s.readFrame := by
  unfold State.startFetch
  split
  · rfl
  · exact s.readFrame_startFetchFor ..

@[simp] theorem State.readFrame_meetFetch (n : Nat) (p : Page) (rt : Bool) (pool : Nat) :
    (s.meetFetch n p rt pool).1.readFrame = s.readFrame := by
  unfold State.meetFetch
  split
  · have h := s.readFrame_grantUpper n pool true
    split <;> next e => rw [e] at h; simpa using h
  · rfl

@[simp] theorem State.readFrame_homeRead (n b : Nat) (p : Page) : (s.homeRead n b p).readFrame = s.readFrame :=
  State.readFrame_ite rfl rfl

@[simp] theorem State.readFrame_touchRead (n b : Nat) (rt : Bool) (r : Option Nat) :
    (s.touchRead n b rt r).1.readFrame = s.readFrame := by
  unfold State.touchRead
  split
  · rfl
  next p0 _ =>
  extract_lets p s0
  have h0 : s0.readFrame = s.readFrame := rfl
  have hg := (s0.readFrame_grantUpper n (s0.demandPool p) rt).trans h0
  split
  · exact h0
  split
  · exact h0
  split
  · exact h0
  split
  · exact (s0.readFrame_meetFetch ..).trans h0
  split
  · split
    · split <;> next e => rw [e] at hg; simpa using hg
    · exact (s0.readFrame_startFetch ..).trans h0
  · exact (s0.readFrame_homeRead ..).trans h0

/-- R168, R176, R515: a read through a translation cache. -/
theorem State.readFrame_accessRead (c k a n : Nat) (r : Option Nat) : (s.accessRead c k a n r).1.readFrame = s.readFrame := by
  unfold State.accessRead State.access
  split
  · exact s.readFrame_noteFault _ _ _
  · exact List.foldlRecOn (motive := fun acc : State × AccessResult => acc.1.readFrame = s.readFrame) _ _
      (s.readFrame_each _ _ (fun t pg => t.readFrame_translate k pg))
      (fun acc h pc _ => (acc.1.readFrame_touchRead ..).trans h)

theorem State.umem_applyShadow (a : Nat) : (s.applyShadow a).umem = s.umem := by
  unfold State.applyShadow
  split <;> rfl

theorem State.umem_startRestore (a : Nat) (y : Slot) (r p g off : Nat) : (s.startRestore a y r p g off).umem = s.umem := by
  unfold State.startRestore
  extract_lets s0 s1 sync
  have h0 : s0.umem = s.umem := State.readFrame_umem (s.readFrame_accessRead ..)
  have h1 : s1.umem = s.umem := h0
  split
  · exact h1
  · split
    · exact h1
    · exact h1

/-- R129, R130: a chunk takes, moves or stages its slot in Gauntlet buffers, or starts a restore, which only reads the home copy. -/
theorem State.umem_slotFor (x : Scan) (g off ctx r p : Nat) : (s.slotFor x g off ctx r p).1.umem = s.umem := by
  unfold State.slotFor
  extract_lets y h t y1 t2
  split
  · show t.umem = s.umem
    unfold t
    split <;> rfl
  split
  · exact s.umem_startRestore ..
  split
  · show t2.umem = s.umem
    unfold t2
    split <;> rfl
  · rfl

theorem State.umem_scanGrant (q : Request) (g r p : Nat) (d : Bytes) : (s.scanGrant q g r p d).1.umem = s.umem := by
  unfold State.scanGrant
  split
  · exact s.umem_slotFor ..
  · rfl

end

/-! ## From the list to the command's own dispatch step (R201, R517) -/

/-- A part that may dispatch a tile may dispatch a command that runs beside one. -/
theorem State.readyPart_beside {s : State} {r p : Nat} {z : Request × Part × Nat} (h : s.readyPart r p false = some z) :
    s.readyPart r p true = some z := by
  unfold State.readyPart at h ⊢
  split at h
  · cases h
  split at h
  · cases h
  split at h
  · cases h
  dsimp only at h ⊢
  split at h
  · cases h
  next hw =>
  split at h
  · next hc =>
    obtain ⟨hk, hp, he, hs, _, hrest⟩ := hc
    rw [if_neg hw, if_pos ⟨hk, hp, he, hs, .inl rfl, hrest⟩]
    exact h
  · cases h

/-- R168, R176: a command that is read without an error or a wait leaves the machine as the read left it. -/
theorem State.readList_cmdAt {s u : State} {r p op g : Nat} {q : Request} {x : Part} (h : s.cmdAt u r p op false q x g) :
    s.readList r p = u := by
  obtain ⟨-, hs, ho, hm, -⟩ := h
  unfold State.readList
  rw [State.readyPart_beside hs]
  dsimp only
  rw [ho, hm]
  rfl

section
variable {s v : State} {r p op g : Nat} {q : Request} {x : Part} {d : Bytes} (h : s.tileAt v r p op q x g d)
include h

/-- The unified range and the Gauntlet buffers are at a tile's dispatch as they were before its command was read. -/
theorem State.tileAt_memories : v.umem = s.umem ∧ v.gbuf = s.gbuf := by
  obtain ⟨-, -, u, ⟨-, -, -, hm, -⟩, rfl, -⟩ := h
  have hu : u.readFrame = s.readFrame := by
    have e := s.readFrame_accessRead q.ctx 5 x.addr ((cmdSize 1 op).getD 32) (some r)
    rwa [show s.accessRead q.ctx 5 x.addr ((cmdSize 1 op).getD 32) (some r) = (u, ⟨0, [], false⟩) from hm] at e
  exact ⟨(u.umem_applyShadow _).trans (State.readFrame_umem hu),
    (State.units_gbuf (u.units_applyShadow _)).trans (State.readFrame_gbuf hu)⟩

/-- The dispatch of such a tile is the dispatch step of its kind, on the machine whose boundary `v` is. -/
theorem State.dispatchTile_tileAt {n : Nat} (hop : cmdSize 1 op = some n) (f : State → Request → Part → Nat → State) :
    ∃ u, s.dispatchTile r p op f = f u q x g ∧ v = u.tileBoundary g ∧ d = v.peek x.addr 128 ∧ q.parts[p]? = some x := by
  obtain ⟨ht, hq, u, hc, hv, hd⟩ := h
  have hl : s.readList r p = u := State.readList_cmdAt hc
  obtain ⟨-, hs, -, -, hu, ho⟩ := hc
  obtain ⟨-, hx, -⟩ := State.readyPart_part hu
  exact ⟨u, State.dispatchTile_ready hs ht hq hl hu ho hop, hv, hd, hx⟩

end

/-! ## The start of a tile (R56) -/

/-- From `w` to `t` a tile of part `p` of request `r` starts on Gauntlet `g`. -/
def State.tileStarted (w t : State) (q : Request) (x : Part) (g r p est cost : Nat) : Prop :=
  ∃ y : Tile, y.req = r ∧ y.part = p ∧ y.est = est ∧ y.cost = cost ∧ t = w.startTile g q x y

section
variable {w t : State} {q : Request} {x : Part} {g r p est cost : Nat} (h : w.tileStarted t q x g r p est cost)
  (hx : q.parts[p]? = some x)
include h hx

theorem State.tileRuns_tileStarted : t.tileRuns r p g est cost := by
  obtain ⟨y, rfl, rfl, rfl, rfl, rfl⟩ := h
  rw [State.startTile_eq _ _ _ _ _ hx]
  refine ⟨?_, State.reg_setRegN_same _ _ _⟩
  rw [State.gntOf_setRegN, State.gntOf_setFld, State.gntOf_showGnt, State.gntOf_putReq, State.gntOf_setGnt]
  rfl

theorem State.memories_tileStarted : t.umem = w.umem ∧ t.gbuf = w.gbuf := by
  obtain ⟨y, rfl, rfl, rfl, rfl, rfl⟩ := h
  rw [State.startTile_eq _ _ _ _ _ hx]
  exact ⟨by simp, by simp⟩

end

/-! ## The dispatch steps of the tile kinds -/

section
variable {u v w : State} {q : Request} {x : Part} {g r p : Nat} {d : Bytes} (hv : v = u.tileBoundary g)
  (hd : d = v.peek x.addr 128)
include hv hd

/-- R50, R53, R55. -/
theorem State.matrixDispatch_starts (hm : v.matrixMask g q.ctx d = 0)
    (hg : (v.guardSlots g (writeParts (matrixRegions d).1) none).2 = true) :
    v.tileStarted (u.matrixDispatch q x g r p) q x g r p (fieldLE d 0x10 4) (matrixCost d) := by
  subst hv hd
  unfold State.matrixDispatch
  extract_lets v d mask
  rw [if_pos hm, State.guardSlots_ready hg]
  exact ⟨_, rfl, rfl, rfl, rfl, rfl⟩

/-- R96, R106. -/
theorem State.winDispatch_starts (hm : v.winMask g q.ctx d = 0)
    (hg : (v.guardSlots g (writeParts (winRegions d).1) none).2 = true) :
    v.tileStarted (u.winDispatch q x g r p) q x g r p (fieldLE d 0x10 4) (winCost d) := by
  subst hv hd
  unfold State.winDispatch
  extract_lets v d mask
  rw [if_pos hm, State.guardSlots_ready hg]
  exact ⟨_, rfl, rfl, rfl, rfl, rfl⟩

/-- R124, R129: a scan tile starts once its slot is granted. -/
theorem State.scanDispatch_starts (hm : v.scanMask g q.ctx q.tag d (v.scanHeader g d) = 0)
    (hg : v.guardSlots g (writeParts (scanRegions d (v.scanHeader g d)).1) (some ((scanOf d).slot, fieldLE d 0x34 4)) = (w, true))
    (hs : (w.scanGrant q g r p d).2 = true) :
    (w.scanGrant q g r p d).1.tileStarted (u.scanDispatch q x g r p) q x g r p (fieldLE d 0x10 4) (scanCost d) := by
  subst hv hd
  unfold State.scanDispatch
  extract_lets v d sc hdr mask rs
  rw [if_neg (not_not_intro hm), hg]
  dsimp only
  rw [hs]
  exact ⟨_, rfl, rfl, rfl, rfl, rfl⟩

end

/-- R56: a tile at its dispatch whose step starts it runs afterwards; the memories are those of the machine that it starts on. -/
theorem tile_starts {s v : State} {r p op g n est cost : Nat} {q : Request} {x : Part} {d : Bytes}
    {f : State → Request → Part → Nat → State} {w : State} (h : s.tileAt v r p op q x g d) (hop : cmdSize 1 op = some n)
    (hf : ∀ u, v = u.tileBoundary g → d = v.peek x.addr 128 → w.tileStarted (f u q x g) q x g r p est cost) :
    ∃ t, done s (s.work (fun u => u.dispatchTile r p op f)) = .next t ∧ t.tileRuns r p g est cost ∧
      t.umem = w.umem ∧ t.gbuf = w.gbuf := by
  obtain ⟨u, e, hv, hd, hx⟩ := State.dispatchTile_tileAt h hop f
  have hr : s.running = true := by
    obtain ⟨-, -, _, ⟨hr, -⟩, -⟩ := h
    exact hr
  have ht : w.tileStarted (s.dispatchTile r p op f) q x g r p est cost := by
    rw [e]
    exact hf u hv hd
  have hruns : (s.dispatchTile r p op f).tileRuns r p g est cost := State.tileRuns_tileStarted ht hx
  have hmem := State.memories_tileStarted ht hx
  exact ⟨{ s.dispatchTile r p op f with pending := s.pending, time := s.time }, done_work hr, hruns, hmem⟩

/-- A tile that starts on the machine of its dispatch leaves every byte of the unified range and of the buffers. -/
theorem tile_starts_frame {s v : State} {r p op g n est cost : Nat} {q : Request} {x : Part} {d : Bytes}
    {f : State → Request → Part → Nat → State} (h : s.tileAt v r p op q x g d) (hop : cmdSize 1 op = some n)
    (hf : ∀ u, v = u.tileBoundary g → d = v.peek x.addr 128 → v.tileStarted (f u q x g) q x g r p est cost) :
    ∃ t, done s (s.work (fun u => u.dispatchTile r p op f)) = .next t ∧ t.tileRuns r p g est cost ∧
      (∀ a, Memory.byte t.umem a = Memory.byte s.umem a) ∧ ∀ a, Memory.byte t.gbuf a = Memory.byte s.gbuf a := by
  obtain ⟨t, e, hr, hu, hb⟩ := tile_starts h hop hf
  obtain ⟨hvu, hvb⟩ := State.tileAt_memories h
  exact ⟨t, e, hr, fun a => by rw [hu, hvu], fun a => by rw [hb, hvb]⟩

/-- Settles O10: the dispatch step of each kind starts the tile on the machine of its dispatch, a scan tile's on the one in which its
slot is granted, whose unified range is the same; reading the command changes no byte. -/
theorem tilesStartAtDispatch : Obligations.TilesStartAtDispatch := by
  refine ⟨fun s v r p g q x d h hm hg => ?_, fun s v r p g q x d h hm hg => ?_, fun s v r p g q x d h hm hg => ?_,
    fun s v w r p g q x d h hm hg hs => ?_⟩
  · exact tile_starts_frame h rfl (fun u hv hd => State.matrixDispatch_starts hv hd hm hg)
  · exact tile_starts_frame h rfl (fun u hv hd => State.winDispatch_starts hv hd hm hg)
  · exact tile_starts_frame h rfl (fun u hv hd => State.winDispatch_starts hv hd hm hg)
  · obtain ⟨t, e, hr, hu, -⟩ := tile_starts (f := fun u q x g => u.scanDispatch q x g r p) h rfl
      (fun u hv hd => State.scanDispatch_starts hv hd hm hg hs)
    have hw : w = v := congrArg Prod.fst (hg.symm.trans (State.guardSlots_ready (congrArg Prod.snd hg)))
    refine ⟨t, e, hr, fun a => ?_⟩
    rw [hu, State.umem_scanGrant, hw, (State.tileAt_memories h).1]

end Sys2Proof.Machine
end

section
/-! PROOFS. What the end of a request may cause (R168, R204, R210, R228, R230): other requests end with it, and contexts are torn
down. No request that has ended comes back, and no sequence record changes. -/

namespace Sys2Proof.Machine

/-! ## What a request that stops gives up -/

/-- The sequence records of the KV managers and the state of the scheduler. -/
def State.books (s : State) : OMap SeqRec × Que := (s.kvr, s.que)

theorem State.books_of_blank {s t : State} (h : t.blank = s.blank) : t.books = s.books :=
  Prod.ext (congrArg (·.kvr) h) (State.blank_que h)

theorem State.books_of_units {s t : State} (hu : t.units = s.units) (hq : t.que = s.que) : t.books = s.books :=
  Prod.ext (State.units_kvr hu) hq

theorem State.books_ite {c : Prop} [Decidable c] {b : OMap SeqRec × Que} {t u : State} (ht : t.books = b) (hu : u.books = b) :
    (if c then t else u).books = b := by
  split
  · exact ht
  · exact hu

section
variable (s : State)

theorem State.books_each {α : Type} (xs : List α) (f : State → α → State) (hf : ∀ t x, (f t x).books = t.books) :
    (each xs f s).books = s.books :=
  each_inv (fun t => t.books = s.books) xs f s rfl (fun t x _ ht => (hf t x).trans ht)

@[simp] theorem State.books_setRegN (a v : Nat) : (s.setRegN a v).books = s.books := (rfl)
@[simp] theorem State.books_setFld (a lo w v : Nat) : (s.setFld a lo w v).books = s.books := (rfl)
@[simp] theorem State.books_orReg (a m : Nat) : (s.orReg a m).books = s.books := (rfl)
@[simp] theorem State.books_add (a n : Nat) : (s.add a n).books = s.books := (rfl)
@[simp] theorem State.books_bump (a : Nat) : (s.bump a).books = s.books := (rfl)
@[simp] theorem State.books_freshN (n : Nat) : (s.freshN n).books = s.books := (rfl)
@[simp] theorem State.books_setPage (n : Nat) (p : Page) : (s.setPage n p).books = s.books := (rfl)
@[simp] theorem State.books_ghavoc (g off n : Nat) : (s.ghavoc g off n).books = s.books := (rfl)
@[simp] theorem State.books_setGnt (g : Nat) (x : Gnt) : (s.setGnt g x).books = s.books := (rfl)
@[simp] theorem State.books_setBank (g : Nat) (b : Option Bank) : (s.setBank g b).books = s.books := by
  rw [State.setBank, State.books_setFld, State.books_setGnt]
@[simp] theorem State.books_showGnt (g : Nat) : (s.showGnt g).books = s.books := (rfl)
@[simp] theorem State.books_dropWaits (r p : Nat) : (s.dropWaits r p).books = s.books := (rfl)
@[simp] theorem State.books_dropReqWaits (r : Nat) : (s.dropReqWaits r).books = s.books := (rfl)
@[simp] theorem State.books_setUmrJob (r : Nat) (j : Option UmrJob) : (s.setUmrJob r j).books = s.books := by
  unfold State.setUmrJob
  dsimp only
  rw [State.books_setFld]
  rfl
@[simp] theorem State.books_attUnqueue (r : Nat) : (s.attUnqueue r).books = s.books := (rfl)
@[simp] theorem State.books_givePages (p : Nat) (ps : List Nat) : (s.givePages p ps).books = s.books := (rfl)
@[simp] theorem State.books_showPcu : s.showPcu.books = s.books := (rfl)
@[simp] theorem State.books_gusIdle (u : Nat) : (s.gusIdle u).books = s.books := (rfl)

@[simp] theorem State.books_giveFrame (code : Nat) : (s.giveFrame code).books = s.books :=
  State.books_of_units (s.units_giveFrame code) (s.que_giveFrame code)

@[simp] theorem State.books_havocOut (c a n : Nat) : (s.havocOut c a n).books = s.books :=
  State.books_of_units (s.units_havocOut c a n) (s.que_havocOut c a n)

@[simp] theorem State.books_record (sev cls status block : Nat) (ctx : Option Nat) (u d : Nat) :
    (s.record sev cls status block ctx u d).books = s.books := State.books_of_blank (s.blank_record ..)

@[simp] theorem State.books_hold (a n : Nat) (up : Bool) : (s.hold a n up).books = s.books := by
  refine s.books_each _ _ (fun t pg => ?_)
  split <;> simp

@[simp] theorem State.books_unholdStage (j : StageJob) : (s.unholdStage j).books = s.books :=
  State.books_ite (by simp) (by simp)

@[simp] theorem State.books_dropChunk (r p : Nat) : (s.dropChunk r p).books = s.books :=
  s.books_each _ _ (fun _ _ => State.books_ite rfl (State.books_ite rfl rfl))

@[simp] theorem State.books_releasePart (r p : Nat) (x : Part) (discard keepBank : Bool) :
    (s.releasePart r p x discard keepBank).books = s.books := by
  unfold State.releasePart
  extract_lets s1 s2
  have h1 : s1.books = s.books := s.books_each _ _ (fun t j => t.books_unholdStage j)
  have h2 : s2.books = s.books := State.books_ite (by simp [h1]) h1
  split
  · exact h2
  · exact State.books_ite (b := s.books) (by simp [h2]) (by simp [h2])

@[simp] theorem State.books_havocBank (g : Nat) (d : Bytes) : (s.havocBank g d).books = s.books := by
  unfold State.havocBank
  split
  · rfl
  · exact State.books_ite (by simp) rfl

@[simp] theorem State.books_havocCommand (q : Request) (unit : Option Nat) (a op : Nat) :
    (s.havocCommand q unit a op).books = s.books := by
  unfold State.havocCommand
  dsimp only
  split
  · split
    · exact State.books_ite (by simp) rfl
    · exact State.books_ite (by simp) rfl
    · rfl
  · split
    · rfl
    · have h (g : Nat) : (each (tileWrites (s.peek a 128)) (fun u w =>
          if u.inWindow q.ctx w.1 w.2 then u.ghavoc g w.1 w.2 else u) s).books = s.books :=
        s.books_each _ _ (fun t w => State.books_ite (by simp) rfl)
      exact State.books_ite (by simp [h]) (h _)

@[simp] theorem State.books_havocPart (q : Request) (x : Part) (keep : Option Nat) : (s.havocPart q x keep).books = s.books := by
  unfold State.havocPart
  split
  · rfl
  · exact s.books_each _ _ (fun t e => State.books_ite rfl (by simp))

/-- R204, R231: output regions are bytes of the unified range and of Gauntlet buffers. -/
@[simp] theorem State.books_havocNamed (q : Request) : (s.havocNamed q).books = s.books :=
  State.books_ite (s.books_each _ _ (fun t x => by simp)) (s.books_each _ _ (fun t x => State.books_ite rfl (by simp)))

@[simp] theorem State.books_discardContext (c : Nat) : (s.discardContext c).books = s.books := by
  unfold State.discardContext
  extract_lets s1
  refine State.books_each s1 _ _ (fun t e => ?_)
  split
  · exact State.books_ite (by simp) rfl
  · rfl

@[simp] theorem State.books_releaseUmr (r : Nat) : (s.releaseUmr r).books = s.books := by
  unfold State.releaseUmr
  split
  · rfl
  · refine (State.books_setUmrJob _ _ _).trans (State.books_ite (s.books_each _ _ (fun t n => ?_)) rfl)
    split <;> simp

@[simp] theorem State.books_havocAppends (c : Nat) (x : AttCall) : (s.havocAppends c x).books = s.books := by
  refine State.books_ite rfl (s.books_each _ _ (fun t e => ?_))
  split
  · rfl
  · exact State.books_ite rfl (t.books_each _ _ (fun u o => by simp))

@[simp] theorem State.books_dropAtt (p : Nat) : (s.dropAtt p).books = s.books := by
  unfold State.dropAtt
  split
  · rfl
  · next x _ =>
    extract_lets s0 s1
    have h0 : s0.books = s.books := by
      unfold s0
      split <;> simp
    exact (State.books_each s0 (x.seqs.zip x.pages) (fun t e => t.givePages (e.1 % 4) e.2) (fun t e => by simp)).trans h0

@[simp] theorem State.books_releaseAtt (r : Nat) : (s.releaseAtt r).books = s.books := by
  unfold State.releaseAtt
  dsimp only
  split <;> simp

@[simp] theorem State.books_releaseCrop (r : Nat) : (s.releaseCrop r).books = s.books := by
  unfold State.releaseCrop
  split
  · rfl
  · exact State.books_ite rfl rfl

@[simp] theorem State.books_freeLaunch (r : Nat) (l : Launch) : (s.freeLaunch r l).books = s.books := by
  unfold State.freeLaunch
  extract_lets s1 s2 s3
  have h1 : s1.books = s.books := s.books_each _ _ (fun t e =>
    State.books_ite (t.books_each _ _ (fun u y => by split <;> simp)) rfl)
  have h3 : s3.books = s.books := (State.books_each s2 _ _ (fun t m => by simp)).trans h1
  refine State.books_ite ((State.books_each _ _ _ (fun t m => by simp)).trans ?_) h3
  exact (State.books_each s3 _ _ (fun t p => by simp)).trans h3

@[simp] theorem State.books_havocScratch (l : Launch) : (s.havocScratch l).books = s.books := by
  refine s.books_each _ _ (fun t p => ?_)
  rfl

@[simp] theorem State.books_releaseLaunch (r : Nat) : (s.releaseLaunch r).books = s.books := by
  unfold State.releaseLaunch
  split
  · rfl
  · exact (State.books_havocScratch _ _).trans (s.books_freeLaunch _ _)

@[simp] theorem State.books_gusSpent (u : Nat) : (s.gusSpent u).books = s.books := by
  unfold State.gusSpent
  split
  · rfl
  · exact State.books_ite (by simp) (State.books_ite (by simp) (by simp))

@[simp] theorem State.books_releaseGus (q : Request) : (s.releaseGus q).books = s.books :=
  s.books_each _ _ (fun t u => by simp)

@[simp] theorem State.books_trimEpochs : s.trimEpochs.books = s.books := by
  unfold State.trimEpochs
  extract_lets live p1 s1
  have h1 : s1.books = s.books := rfl
  split
  · exact h1
  · dsimp only
    rw [State.books_setRegN, State.books_setRegN, h1]

@[simp] theorem State.books_dropPlan (r : Nat) : (s.dropPlan r).books = s.books := by
  unfold State.dropPlan
  extract_lets turn s1
  simp only [State.books_showPcu, State.books_trimEpochs]
  rfl

@[simp] theorem State.books_releasePcu (r : Nat) : (s.releasePcu r).books = s.books := by
  unfold State.releasePcu
  extract_lets p1 s1 p2 s2
  have h1 : s1.books = s.books := by
    unfold s1
    split
    · rfl
    · dsimp only
      split
      · exact State.books_ite rfl rfl
      · rfl
  have h2 : s2.books = s1.books := by
    unfold s2
    split
    · exact State.books_ite rfl rfl
    · rfl
  simp [h2, h1]

/-- R204: no engine that stops at once changes a sequence record or the scheduler. -/
@[simp] theorem State.books_releaseReq (r : Nat) (q : Request) : (s.releaseReq r q).books = s.books := by
  unfold State.releaseReq
  extract_lets s1
  have h1 : s1.books = s.books := by simp [s1]
  exact State.books_ite ((s1.books_releaseUmr r).trans h1) <| State.books_ite ((s1.books_releaseAtt r).trans h1) <|
    State.books_ite ((s1.books_attUnqueue r).trans h1) <| State.books_ite ((s1.books_releaseCrop r).trans h1) <|
    State.books_ite ((s1.books_releaseLaunch r).trans h1) <| State.books_ite ((s1.books_releaseGus q).trans h1) <|
    State.books_ite ((s1.books_releasePcu r).trans h1) <| State.books_ite ((s1.books_setFld ..).trans h1) h1

end

/-! ## What the end of one request causes -/

theorem State.req_of_books {s t : State} (h : t.books = s.books) (r : Nat) : t.req r = s.req r :=
  congrArg (fun b : OMap SeqRec × Que => b.2.reqs.find r) h

/-- From `s` to `t` requests may end, but none that is not in flight comes back, and no sequence record changes. -/
structure Ends (s t : State) : Prop where
  kvr : t.kvr = s.kvr
  gone : ∀ r, s.req r = none → t.req r = none

section
variable {s t u : State}

theorem Ends.refl (s : State) : Ends s s := ⟨rfl, fun _ h => h⟩

theorem Ends.trans (h : Ends s t) (k : Ends t u) : Ends s u := ⟨k.kvr.trans h.kvr, fun r hr => k.gone r (h.gone r hr)⟩

theorem Ends.of_books (h : t.books = s.books) : Ends s t :=
  ⟨congrArg Prod.fst h, fun r hr => (State.req_of_books h r).trans hr⟩

theorem Ends.ite {c : Prop} [Decidable c] (ht : Ends s t) (hu : Ends s u) : Ends s (if c then t else u) := by
  split
  · exact ht
  · exact hu

theorem Ends.each {α : Type} (s : State) (xs : List α) (f : State → α → State) (hf : ∀ t x, Ends t (f t x)) :
    Ends s (Machine.each xs f s) :=
  each_inv (fun t => Ends s t) xs f s (Ends.refl s) (fun t x _ h => h.trans (hf t x))

/-- A request in flight changes. -/
theorem State.ends_putReq {r : Nat} {q0 : Request} (h : s.req r = some q0) (q : Request) : Ends s (s.putReq r q) := by
  refine ⟨rfl, fun r' hr => ?_⟩
  have hne : r' ≠ r := fun e => by simp [e, h] at hr
  rw [State.req_putReq_other _ _ hne, hr]

end

section
variable (s : State)

theorem State.ends_finishReq (r : Nat) (q : Request) (st d ok : Nat) (res : Bool) : Ends s (s.finishReq r q st d ok res) := by
  refine ⟨State.units_kvr (s.units_finishReq ..), fun r' hr => ?_⟩
  by_cases h : r' = r
  · rw [h]
    exact s.req_finishReq_same ..
  · rw [State.req_finishReq_other _ _ _ _ _ _ h, hr]

/-- R204: the outputs of a request that ends CANCELLED are unspecified. -/
theorem State.ends_cancelled (c r : Nat) (q : Request) (st d ok : Nat) (res : Bool) :
    Ends s ((if c = 7 then s.havocNamed q else s).finishReq r q st d ok res) :=
  (Ends.of_books (State.books_ite (s.books_havocNamed q) rfl)).trans (State.ends_finishReq _ _ _ _ _ _ _)

theorem State.ends_finishParts (r : Nat) : Ends s (s.finishParts r) := by
  unfold State.finishParts
  split
  · exact Ends.refl s
  · exact Ends.ite (s.ends_cancelled _ _ _ _ _ _ _) (Ends.refl s)

theorem State.ends_stopParts (r st : Nat) (skip : Option Nat) : Ends s (s.stopParts r st skip) := by
  unfold State.stopParts
  split
  · exact Ends.refl s
  next q hq =>
  refine (State.ends_putReq hq _).trans (Ends.each _ _ _ (fun t i => ?_))
  split
  · exact Ends.refl t
  next q1 hq1 =>
  split
  · exact Ends.refl t
  next x _ =>
  have hb : ((t.havocPart q1 x none).releasePart r i x true false).books = t.books := by simp
  exact Ends.ite (Ends.refl t) ((Ends.of_books hb).trans (State.ends_putReq ((State.req_of_books hb r).trans hq1) _))

theorem State.ends_stopRunning (r st : Nat) : Ends s (s.stopRunning r st) := by
  unfold State.stopRunning
  split
  · exact Ends.refl s
  next q hq =>
  refine Ends.ite ((s.ends_stopParts _ _ _).trans (State.ends_finishParts _ _)) (Ends.ite (State.ends_putReq hq _) ?_)
  exact (Ends.of_books (s.books_releaseReq r q)).trans (State.ends_finishReq _ _ _ _ _ _ _)

/-- R228: a teardown ends the requests of its context. -/
theorem State.ends_teardown (c st : Nat) (keep : Option Nat) : Ends s (s.teardown c st keep) := by
  unfold State.teardown
  refine Ends.ite (Ends.refl s) ?_
  extract_lets s1 s2 s3
  have h3 : s3.books = s.books := by simp [s3, s2, s1]
  refine (Ends.of_books h3).trans (Ends.each _ _ _ (fun t e => ?_))
  split
  · exact Ends.refl t
  · split
    · exact t.ends_cancelled _ _ _ _ _ _ _
    · exact t.ends_stopRunning _ _

theorem State.ends_settle (n : Nat) : Ends s (State.settle n s) := by
  induction n generalizing s with
  | zero => exact Ends.refl s
  | succ n ih =>
    unfold State.settle
    split
    · exact Ends.refl s
    · next r q st _ =>
      extract_lets que s1
      have h1 : Ends s s1 := ⟨rfl, fun _ h => h⟩
      exact h1.trans ((s1.ends_cancelled _ _ _ _ _ _ _).trans (ih _))

/-- R168, R210, R230: what the end of a request releases. -/
theorem State.ends_settled : Ends s s.settled := by
  unfold State.settled
  extract_lets s1 s2 s3
  have h1 : Ends s s1 := s.ends_settle _
  have h3 : Ends s1 s3 := (Ends.each s1 _ _ (fun t c => t.ends_teardown c 8 none)).trans (s2.ends_settle _)
  exact Ends.ite h1 (h1.trans (h3.trans ⟨rfl, fun _ h => h⟩))

/-- What follows the record of a request that has ended. -/
theorem State.ends_afterEnd (c st : Nat) :
    Ends s (if st = 8 ∨ st = 0x0B then s.teardown c st none else s).settled :=
  (Ends.ite (s.ends_teardown _ _ _) (Ends.refl s)).trans (State.ends_settled _)

theorem State.ends_endReq (r st d : Nat) (res : Bool) : Ends s (s.endReq r st d res) := by
  unfold State.endReq
  split
  · exact Ends.refl s
  · exact (s.ends_finishReq _ _ _ _ _ _).trans (State.ends_afterEnd _ _ _)

/-- R203: a request that an engine ends is no longer in flight. -/
@[simp] theorem State.req_endReq_same (r st d : Nat) (res : Bool) : (s.endReq r st d res).req r = none := by
  unfold State.endReq
  split
  · assumption
  · exact (State.ends_afterEnd _ _ _).gone r (s.req_finishReq_same ..)

end

end Sys2Proof.Machine
end

section
/-! PROOFS. How attention calls start, progress and end (R61 to R81). -/

namespace Sys2Proof.Machine

/-- R517: the step of a Palm's attention unit that matches the command runs. -/
theorem State.attCommand_run {s : State} {r op : Nat} {q : Request} (f : State → Request → State) (hop : op = 0x20 ∨ op = 0x22 ∨ op = 0x23)
    (hq : s.engReq r [2] = some q) (ho : s.peekN q.cmdAddr 1 = op) (hp : s.attPalm r = none) : s.attCommand r op f = f s q := by
  have hk : ¬ (op ≠ 0x20 ∧ op ≠ 0x22 ∧ op ≠ 0x23) := by omega
  unfold State.attCommand
  rw [hq]
  dsimp only
  rw [ho, if_neg hk, hp]
  exact if_pos ⟨rfl, rfl⟩

section
variable (s : State) (r : Nat) (q : Request) (palm : Nat) (d : Bytes) (rows : List AttRow)

/-- R61: ATT_STATE reads busy with the context. -/
theorem State.attState_attStart :
    (s.attStart r q palm d rows).reg (Reg.ATT_STATE palm) = BitVec.ofNat 64 (2 + q.ctx * 2 ^ 8) :=
  State.reg_setRegN_same _ _ _

/-- R77: the attention unit of the Palm has the call. -/
theorem State.att_attStart : ((s.attStart r q palm d rows).att.find palm).map (·.req) = some r := by
  unfold State.attStart
  extract_lets nw gs
  split
  next s1 ps _ =>
  extract_lets call u s2 s3
  have h2 : (s2.att.find palm).map (·.req) = some r := by simp [s2, call]
  show (s3.att.find palm).map (·.req) = some r
  unfold s3
  split
  · exact h2
  · exact h2

end

section
variable {s s1 : State} {r palm : Nat} {q : Request} {rows : List AttRow} (hq : s.engReq r [2] = some q)
  (ho : s.peekN q.cmdAddr 1 = 0x20) (hp : s.attPalm r = none) (hc : s.attCheck r q = (s1, some (palm, rows)))
include hq ho hp hc

/-- R77: a call that passes its checks starts. -/
theorem State.attentionCall_starts : s.attentionCall r = s1.attStart r q palm (s.peek q.cmdAddr 128) rows := by
  unfold State.attentionCall
  rw [State.attCommand_run _ (.inl rfl) hq ho hp]
  unfold State.attTry
  rw [hc]

/-- R79: so does one that waited at the manager. -/
theorem State.seqCallReleased_starts (hw : s.attWait.contains r = true) :
    s.seqCallReleased r = s1.attStart r q palm (s.peek q.cmdAddr 128) rows :=
  (if_pos hw).trans (State.attentionCall_starts hq ho hp hc)

end

section
variable {s : State} {p : Nat} {x : AttCall} {q : Request} (hx : s.att.find p = some x) (hq : s.req x.req = some q)
include hx hq

/-- R71: the last effect of a work item's end is on the unit's counter. -/
theorem State.attItemDone_counts (hi : x.items ≠ 0) (hg : s.attGnts q p ≠ [] ∨ x.gnts ≠ [] ∨ x.draining ≠ 0) :
    (s.attItemDone p).reg (Reg.ATT_CNT_ITEMS p) = s.reg (Reg.ATT_CNT_ITEMS p) + 1 := by
  have hn : ¬ (x.items = 0 ∨ (s.attGnts q p = [] ∧ x.gnts = [] ∧ x.draining = 0)) := by
    rintro (h0 | ⟨hs, ha, hd⟩)
    · exact hi h0
    · exact hg.elim (· hs) (·.elim (· ha) (· hd))
  unfold State.attItemDone
  rw [hx]
  dsimp only
  rw [hq]
  dsimp only
  rw [if_neg hn]
  exact State.reg_setReg_same _ _ _

/-- R77, R177: a call with no item left, whose outputs wait for nothing, is finished on the machine whose outputs are readied. -/
theorem State.attCallEnd_finishes {u : State} (hi : x.items = 0) (hw : s.stillWaits x.req = false)
    (ha : s.engineAccess x.req q p (asWrites (s.callOuts x)) = (u, .ready)) : s.attCallEnd p = u.attFinish p x q := by
  unfold State.attCallEnd
  rw [hx]
  dsimp only
  rw [hq]
  dsimp only
  rw [if_neg (not_not_intro hi)]
  unfold State.withOuts
  rw [hw, ha]
  rfl

end

/-- R77: the last effect of a call's end is on the unit's counter. -/
theorem State.attFinish_counts (s : State) (p : Nat) (x : AttCall) (q : Request) :
    (s.attFinish p x q).reg (Reg.ATT_CNT_CALLS p) = s.reg (Reg.ATT_CNT_CALLS p) + 1 :=
  State.reg_setReg_same _ _ _

/-- Settles O12: a call starts by the step that finds it checked, and the end of an item or of a call counts last. -/
theorem attentionCallsProgress : Obligations.AttentionCallsProgress := by
  refine ⟨fun s s1 r q palm rows hr hq ho hp hc => ?_, fun s s1 r q palm rows hr hw hq ho hp hc => ?_,
    fun s p x q hr hx hq hi hg => ?_, fun s u p x q hr hx hq hi hw ha => ?_⟩
  · refine ⟨_, done_work hr, ?_⟩
    rw [State.attentionCall_starts hq ho hp hc]
    exact ⟨State.attState_attStart .., State.att_attStart ..⟩
  · refine ⟨_, done_work hr, ?_⟩
    rw [State.seqCallReleased_starts hq ho hp hc hw]
    exact ⟨State.attState_attStart .., State.att_attStart ..⟩
  · exact ⟨_, done_work hr, State.attItemDone_counts hx hq hi hg⟩
  · refine ⟨_, done_work hr, ?_⟩
    rw [State.attCallEnd_finishes hx hq hi hw ha]
    exact u.attFinish_counts p x q

end Sys2Proof.Machine
end

section
/-! PROOFS. What KV commands do to the record of their sequence (R82 to R85). -/

namespace Sys2Proof.Machine

/-! ## Sequence records -/

theorem State.seq_of_kvr {s t : State} (h : t.kvr = s.kvr) (j : Nat) : t.seq j = s.seq j := congrArg (OMap.find · j) h

theorem State.kvr_devWrite (s : State) (a : Nat) (bs : Bytes) (rt : Bool) : (s.devWrite a bs rt).kvr = s.kvr :=
  State.units_kvr (s.units_devWrite a bs rt)

/-- R74: a record that is put is the sequence's copy, unless the sequence is free. -/
theorem State.seq_putSeq (s : State) (id j : Nat) (q : SeqRec) :
    (s.putSeq id q).seq j = if j = id then (if q.st = 0 then none else some q) else s.seq j := by
  unfold State.putSeq State.seq
  dsimp only
  rw [State.kvr_devWrite]
  show (if q.st = 0 then s.kvr.drop id else s.kvr.put id q).find j = _
  by_cases hj : j = id
  · subst hj
    rw [if_pos rfl]
    split
    · exact OMap.find_drop_same _ _
    · exact OMap.find_put_same _ _ _
  · rw [if_neg hj]
    split
    · exact OMap.find_drop_other _ hj
    · exact OMap.find_put_other _ _ hj

theorem State.seq_putSeq_live {s : State} {q : SeqRec} (id : Nat) (h : q.st ≠ 0) : (s.putSeq id q).seq id = some q := by
  rw [State.seq_putSeq, if_pos rfl, if_neg h]

/-- A record that is put replaces that of its sequence and no other. -/
theorem State.seqBecomes_putSeq {s t : State} {q : SeqRec} {id : Nat} (h : ∀ j, j ≠ id → t.seq j = s.seq j) (hq : q.st ≠ 0) :
    s.seqBecomes (t.putSeq id q) id (some q) :=
  ⟨State.seq_putSeq_live id hq, fun j hj => by rw [State.seq_putSeq, if_neg hj, h j hj]⟩

theorem State.seqBecomes_of_kvr {s t u : State} {id : Nat} {z : Option SeqRec} (h : s.seqBecomes t id z) (hu : u.kvr = t.kvr) :
    s.seqBecomes u id z :=
  ⟨(State.seq_of_kvr hu id).trans h.1, fun j hj => (State.seq_of_kvr hu j).trans (h.2 j hj)⟩

/-! ## Pages -/

section
variable (s : State)

theorem State.kvr_freeFrom (id : Nat) (q : SeqRec) (first : Nat) : (s.freeFrom id q first).1.kvr = s.kvr := (rfl)

theorem State.kvr_takePages (p n : Nat) : (s.takePages p n).1.kvr = s.kvr := by
  induction n with
  | zero => rfl
  | succ n ih => exact ih

theorem State.kvr_returnPages (id : Nat) : (s.returnPages id).kvr = s.kvr := by
  unfold State.returnPages
  split <;> rfl

/-- R82: an INIT changes the record of its sequence, which it makes active. -/
theorem State.seqBecomes_initSeq (c id : Nat) (tpl : SeqRec) (need : Nat) :
    s.seqBecomes (s.initSeq c id tpl need) id (some { tpl with st := 1, commit := 0, tent := 0, held := need, ctx := c }) := by
  unfold State.initSeq
  extract_lets nr
  split
  next t1 ps ht =>
  extract_lets t2
  have h1 : t1.kvr = s.kvr := by
    have h := s.kvr_takePages (id % 4) need
    rwa [ht] at h
  have h2 : t2.kvr = s.kvr :=
    iter_inv (fun t : State => t.kvr = s.kvr) _ _ _ h1 (fun t i _ h => (t.kvr_devWrite _ _ _).trans h)
  exact State.seqBecomes_putSeq (fun j _ => State.seq_of_kvr h2 j) Nat.one_ne_zero

/-- R82, R83: the record of a sequence after a rollback, but for the pages that it holds. -/
theorem State.seqBecomes_rollbackSeq {id : Nat} {z : SeqRec} (hz : z.st ≠ 0) : ∃ h,
    s.seqBecomes (s.rollbackSeq id z) id (some { z with st := if z.breaks then 2 else z.st, nextLayer := 0, pend := 0,
                                                        tent := z.commit, tag := 0, held := h }) := by
  unfold State.rollbackSeq
  extract_lets p s1
  split
  next s2 n hs =>
  extract_lets q1 s3
  have h2 : s2.kvr = s.kvr := by
    rw [show s2 = _ from (congrArg Prod.fst hs).symm]
    split <;> rfl
  have h3 : s3.kvr = s.kvr := by
    unfold s3
    split <;> exact h2
  refine ⟨z.held - n, State.seqBecomes_putSeq (fun j _ => State.seq_of_kvr h3 j) ?_⟩
  show (if z.breaks then 2 else z.st) ≠ 0
  split
  · decide
  · exact hz

/-- R82: the end of a command, or of its request, changes no record. -/
theorem State.kvr_kvNext (r : Nat) (x : Part) : (s.kvNext r x).kvr = s.kvr := by
  unfold State.kvNext
  split
  · exact (s.ends_endReq _ _ _ _).kvr
  · split <;> rfl

end

/-! ## The commands -/

/-- R176: an access that is made lets the command go on. -/
theorem State.kvRead_made {s t : State} {r k a n : Nat} {q : Request} {x : Part} (f : State → State) (hw : s.stillWaits r = false)
    (h : s.readMade t q.ctx k a n r) : s.kvRead r q x k a n f = f t := by
  unfold State.kvRead
  rw [hw, show s.accessRead q.ctx k a n (some r) = (t, ⟨0, [], false⟩) from h]
  rfl

theorem State.kvr_readMade {s t : State} {c k a n r : Nat} (h : s.readMade t c k a n r) : t.kvr = s.kvr := by
  have e := State.units_kvr (s.units_accessRead c k a n (some r))
  rwa [show s.accessRead c k a n (some r) = (t, ⟨0, [], false⟩) from h] at e

section
variable {s u : State} {r op id : Nat} {q : Request} {x : Part} (h : s.kvReady u r op q x id)
include h

theorem State.kvReady_running : s.running = true := by
  obtain ⟨hr, -⟩ := h
  exact hr

/-- Reading the command changes no record. -/
theorem State.kvr_kvReady : u.kvr = s.kvr := by
  obtain ⟨-, -, -, -, hm, -⟩ := h
  exact State.kvr_readMade hm

/-- R82, R84: the step of a command that is ready runs on the machine that has read it. -/
theorem State.kvCommand_ready (hop : 1 ≤ op ∧ op ≤ 5) (f : State → Request → Part → Bytes → Nat → State) :
    s.kvCommand r op f = f u q x (u.peek x.addr 32) id := by
  obtain ⟨-, hq, hx, hw, hm, h21, ho, hid, hle, hs⟩ := h
  have hn : ¬ (fieldLE (u.peek x.addr 32) 0 1 ≠ 0x21 ∨ fieldLE (u.peek x.addr 32) 1 1 = 0 ∨ 5 < fieldLE (u.peek x.addr 32) 1 1 ∨
      65535 < fieldLE (u.peek x.addr 32) 4 4) := by omega
  unfold State.kvCommand
  rw [hq]
  dsimp only
  rw [hx]
  dsimp only
  rw [State.kvRead_made _ hw hm]
  rw [if_neg hn, if_neg (not_not_intro ho), hid, hs]
  rfl

/-- A command that ends on a machine in which the sequence has its new record leaves it that record. -/
theorem State.seqBecomes_kvNext {t : State} {z : Option SeqRec} (ht : u.seqBecomes t id z) : s.seqBecomes (t.kvNext r x) id z := by
  obtain ⟨hz, ho⟩ := State.seqBecomes_of_kvr ht (t.kvr_kvNext r x)
  exact ⟨hz, fun j hj => (ho j hj).trans (State.seq_of_kvr (State.kvr_kvReady h) j)⟩

end

/-- R82: INIT. -/
theorem State.seqBecomes_kvInit {s u v : State} {r id need : Nat} {q : Request} {x : Part} {tpl : SeqRec}
    (h : s.kvReady u r 1 q x id) (ha : (u.seq id).map (·.st) ≠ some 1) (hw : u.stillWaits r = false)
    (hm : u.readMade v q.ctx (id % 4) (fieldLE (u.peek x.addr 32) 0x10 8) 64 r)
    (ht : tpl = SeqRec.ofBytes (v.peek (fieldLE (u.peek x.addr 32) 0x10 8) 64))
    (hneed : need = if tpl.mode = 1 then tpl.layers * tpl.ring else 0) (hfree : need ≤ (v.returnPages id).kvFree (id % 4)) :
    s.seqBecomes (s.kvInit r) id (some { tpl with st := 1, commit := 0, tent := 0, held := need, ctx := q.ctx }) := by
  have e : s.kvInit r = ((v.returnPages id).initSeq q.ctx id tpl need).kvNext r x := by
    subst hneed ht
    unfold State.kvInit
    rw [State.kvCommand_ready h (by decide)]
    dsimp only
    rw [if_neg ha, State.kvRead_made _ hw hm]
    exact if_neg (Nat.not_lt.2 hfree)
  have hk : (v.returnPages id).kvr = u.kvr := (v.kvr_returnPages id).trans (State.kvr_readMade hm)
  obtain ⟨hz, ho⟩ := (v.returnPages id).seqBecomes_initSeq q.ctx id tpl need
  rw [e]
  exact State.seqBecomes_kvNext h ⟨hz, fun j hj => (ho j hj).trans (State.seq_of_kvr hk j)⟩

section
variable {s u : State} {r id v : Nat} {q : Request} {x : Part} {z : SeqRec}

/-- R82, R85: COMMIT sets COMMIT and counts the difference last. -/
theorem State.kvCommit_commits (h : s.kvReady u r 2 q x id) (hz : u.seq id = some z) (hst : z.st ≠ 0)
    (hv : v = fieldLE (u.peek x.addr 32) 8 4) (hlo : z.commit ≤ v) (hhi : v ≤ z.tent) :
    s.seqBecomes (s.kvCommit r) id (some { z with commit := v, tag := if v = z.tent then 0 else z.tag }) ∧
    (s.kvCommit r).reg (Reg.KVR_CNT_TOK_COMMIT (id % 4)) =
      u.reg (Reg.KVR_CNT_TOK_COMMIT (id % 4)) + BitVec.ofNat 64 (v - z.commit) := by
  subst hv
  have hn : ¬ (fieldLE (u.peek x.addr 32) 8 4 < z.commit ∨ z.tent < fieldLE (u.peek x.addr 32) 8 4) := by omega
  unfold State.kvCommit
  rw [State.kvCommand_ready h (by decide)]
  dsimp only
  rw [hz]
  dsimp only
  rw [if_neg hn]
  exact ⟨State.seqBecomes_of_kvr (State.seqBecomes_kvNext h (State.seqBecomes_putSeq (fun _ _ => rfl) hst)) rfl,
    State.reg_setReg_same _ _ _⟩

/-- R82, R83: ROLLBACK. -/
theorem State.seqBecomes_kvRollback (h : s.kvReady u r 3 q x id) (hz : u.seq id = some z) (hst : z.st = 1) : ∃ held,
    s.seqBecomes (s.kvRollback r) id (some { z with st := if z.breaks then 2 else 1, nextLayer := 0, pend := 0, tent := z.commit,
                                                    tag := 0, held := held }) := by
  obtain ⟨held, hb⟩ := u.seqBecomes_rollbackSeq (id := id) (z := z) (by omega)
  rw [hst] at hb
  unfold State.kvRollback
  rw [State.kvCommand_ready h (by decide)]
  rw [hz]
  dsimp only
  rw [if_neg (not_not_intro hst)]
  exact ⟨held, State.seqBecomes_kvNext h hb⟩

/-- R82, R83: TRUNCATE sets both counts on the record that its rollback leaves. -/
theorem State.seqBecomes_kvTruncate (h : s.kvReady u r 4 q x id) (hz : u.seq id = some z) (hst : z.st ≠ 0)
    (hv : v = fieldLE (u.peek x.addr 32) 8 4) (hlo : v ≤ z.commit) (hm : z.mode = 1 → v = 0) :
    ∃ z1, s.seqBecomes (s.kvTruncate r) id (some z1) ∧ z1.commit = v ∧ z1.tent = v ∧ z1.pend = 0 := by
  subst hv
  have hn : ¬ (z.commit < fieldLE (u.peek x.addr 32) 8 4 ∨ (z.mode = 1 ∧ fieldLE (u.peek x.addr 32) 8 4 ≠ 0)) := by
    rintro (hlt | ⟨h1, h0⟩)
    · omega
    · exact h0 (hm h1)
  obtain ⟨held, hb, ho⟩ := u.seqBecomes_rollbackSeq (id := id) hst
  unfold State.kvTruncate
  rw [State.kvCommand_ready h (by decide)]
  dsimp only
  rw [hz]
  dsimp only
  rw [if_neg hn, hb]
  dsimp only
  have hst1 : (if z.breaks then 2 else z.st) ≠ 0 := by
    split
    · decide
    · exact hst
  split <;> exact ⟨_, State.seqBecomes_kvNext h (State.seqBecomes_putSeq ho hst1), rfl, rfl, rfl⟩

/-- R82: FREE. -/
theorem State.seqBecomes_kvFreeSeq (h : s.kvReady u r 5 q x id) : s.seqBecomes (s.kvFreeSeq r) id none := by
  unfold State.kvFreeSeq
  rw [State.kvCommand_ready h (by decide)]
  cases hz : u.seq id with
  | none => exact State.seqBecomes_kvNext h ⟨hz, fun _ _ => rfl⟩
  | some z =>
    refine State.seqBecomes_kvNext h ⟨?_, fun j hj => ?_⟩
    · rw [State.seq_putSeq, if_pos rfl]
      rfl
    · rw [State.seq_putSeq, if_neg hj]
      rfl

end

/-- Settles O13: each command puts one record, that of its sequence, and what its end causes changes none. -/
theorem kvCommandsChangeTheirSequence : Obligations.KvCommandsChangeTheirSequence := by
  intro s u r id q x
  refine ⟨fun v h ha hw hm hfree => ?_, fun v z h hz hst hv hlo hhi => ?_, fun z h hz hst => ?_,
    fun v z h hz hst hv hlo hm => ?_, fun h => ?_⟩
  · exact ⟨_, done_work (State.kvReady_running h), State.seqBecomes_kvInit h ha hw hm rfl rfl hfree⟩
  · exact ⟨_, done_work (State.kvReady_running h), State.kvCommit_commits h hz hst hv hlo hhi⟩
  · obtain ⟨held, hb⟩ := State.seqBecomes_kvRollback h hz hst
    exact ⟨_, held, done_work (State.kvReady_running h), hb⟩
  · obtain ⟨z1, hb⟩ := State.seqBecomes_kvTruncate h hz hst hv hlo hm
    exact ⟨_, z1, done_work (State.kvReady_running h), hb⟩
  · exact ⟨_, done_work (State.kvReady_running h), State.seqBecomes_kvFreeSeq h⟩

end Sys2Proof.Machine
end

section
/-! PROOFS. How ROUTE and COMBINE end and how a crop-and-resize call starts and counts its boxes (R86 to R93, R109 to R115). -/

namespace Sys2Proof.Machine

/-- R93: a call that completes is no longer in flight. -/
theorem State.req_callDone (s : State) (r p : Nat) : (s.callDone r p).req r = none := State.req_endReq_same _ _ _ _ _

/-- R86: a ROUTE whose outputs are written ends. -/
theorem State.req_routeRun {s : State} {r palm : Nat} {q : Request} {d : Bytes} (h : (s.routeWrites r q palm d).2 = 0) :
    (s.routeRun r q palm d).req r = none := by
  unfold State.routeRun
  dsimp only
  rw [if_neg (not_not_intro h)]
  exact State.req_callDone _ _ _

/-- R89: a COMBINE whose rows are written ends. -/
theorem State.req_combineRun {s : State} {r palm : Nat} {q : Request} {d : Bytes} (h : (s.combineWrites r q palm d).2 = 0) :
    (s.combineRun r q palm d).req r = none := by
  unfold State.combineRun
  dsimp only
  rw [if_neg (not_not_intro h)]
  exact State.req_callDone _ _ _

section
variable {s s1 : State} {r palm : Nat} {q : Request} {d : Bytes} (hq : s.engReq r [2] = some q) (hd : d = s.peek q.cmdAddr 128)
  (hp : s.attPalm r = none)
include hq hd hp

/-- R86: a ROUTE with its inputs runs on the machine that has read them. -/
theorem State.route_runs (ho : s.peekN q.cmdAddr 1 = 0x22)
    (hl : s.routePlace q [(fieldLE d 0x10 8, Nat.min 16777216 (fieldLE d 8 4 * fieldLE d 4 2 * 4))] = some palm)
    (hm : routeMask q.cmdAddr d = 0) (hr : s.engineReads r q palm (routeIns d) (routeOuts d) true = (s1, .ready)) :
    s.route r = s1.routeRun r q palm d := by
  subst hd
  unfold State.route
  rw [State.attCommand_run _ (.inr (.inl rfl)) hq ho hp]
  dsimp only
  rw [hl]
  dsimp only
  rw [if_neg (not_not_intro hm), hr]

/-- R89: so does a COMBINE, once its table and then its rows are resident. -/
theorem State.combine_runs {s2 : State} (ho : s.peekN q.cmdAddr 1 = 0x23)
    (hl : s.routePlace q [(fieldLE d 0x10 8, Nat.min 16777216 (fieldLE d 8 4 * fieldLE d 0x28 4))] = some palm)
    (hm : combineMask q.cmdAddr d = 0) (hr : s.engineReads r q palm (combineTab d) (combineOuts d) = (s1, .ready))
    (hs : s1.combineStray d = false) (hr2 : s1.engineReads r q palm (s1.combineIns d) (combineOuts d) true = (s2, .ready)) :
    s.combine r = s2.combineRun r q palm d := by
  subst hd
  unfold State.combine
  rw [State.attCommand_run _ (.inr (.inr rfl)) hq ho hp]
  dsimp only
  rw [hl]
  dsimp only
  rw [if_neg (not_not_intro hm), hr]
  dsimp only
  rw [hs, if_neg Bool.false_ne_true, hr2]

end

/-- R109, R115: a call that passes its checks takes the sampler front. -/
theorem State.cropAndResize_starts {s s1 : State} {r : Nat} {q : Request} {d : Bytes} (hq : s.engReq r [4] = some q)
    (hd : d = s.peek q.cmdAddr 128) (ho : fieldLE d 0 1 = 0x35) (hc : s.crop = none) (hg : s.gateOn 0x92 = true)
    (hm : cropMask q.cmdAddr d = 0) (hr : s.engineReads r q 4 [(fieldLE d 0x18 8, 32 * fieldLE d 4 2)] [] = (s1, .ready)) :
    (s.cropAndResize r).crop = some ⟨r, 0, []⟩ ∧
      (s.cropAndResize r).reg Reg.VIS_CR_STATE = BitVec.ofNat 64 (1 + q.ctx * 2 ^ 8) := by
  subst hd
  have hn : ¬ (s.crop.isSome ∨ !s.gateOn 0x92) := by simp [hc, hg]
  unfold State.cropAndResize
  rw [hq]
  dsimp only
  rw [if_neg (not_not_intro ho), if_neg hn, if_neg (not_not_intro hm), hr]
  exact ⟨rfl, State.reg_setRegN_same _ _ _⟩

/-- R114: the last effect of a box that is written is on the counter of boxes. -/
theorem State.cropBoxDone_counts {s s1 : State} {x : Crop} {q : Request} {d : Bytes} (hx : s.crop = some x)
    (hq : s.req x.req = some q) (hd : d = s.peek q.cmdAddr 128)
    (hr : s.engineReads x.req q 4 (s.cropIns d x.box) (cropBoxOuts d x.box) true = (s1, .ready))
    (hw : (s1.cropWrite (s1.cropView x.written) x.req q d x.box).1.2 = 0) :
    s.cropBoxDone.reg Reg.VIS_CR_CNT_BOXES = s.reg Reg.VIS_CR_CNT_BOXES + 1 := by
  subst hd
  unfold State.cropBoxDone
  rw [hx]
  dsimp only
  rw [hq]
  dsimp only
  rw [hr]
  dsimp only
  rw [if_neg (not_not_intro hw)]
  exact State.reg_setReg_same _ _ _

/-- Settles O14: ROUTE and COMBINE run on the machine that has their inputs, where an end with OK follows; the two steps of
CROP_AND_RESIZE write their registers last. -/
theorem routeCombineAndCropComplete : Obligations.RouteCombineAndCropComplete := by
  refine ⟨fun s s1 r palm q d hr hq hd ho hp hl hm he hw => ?_, fun s s1 s2 r palm q d hr hq hd ho hp hl hm he hs he2 hw => ?_,
    fun s s1 r q d hr hq hd ho hc hg hm he => ?_, fun s s1 x q d hr hx hq hd he hw => ?_⟩
  · refine ⟨_, done_work hr, ?_⟩
    rw [State.route_runs hq hd hp ho hl hm he]
    exact State.req_routeRun hw
  · refine ⟨_, done_work hr, ?_⟩
    rw [State.combine_runs hq hd hp ho hl hm he hs he2]
    exact State.req_combineRun hw
  · exact ⟨_, done_work hr, State.cropAndResize_starts hq hd ho hc hg hm he⟩
  · exact ⟨_, done_work hr, State.cropBoxDone_counts hx hq hd he hw⟩

end Sys2Proof.Machine
end

section
/-! PROOFS. How requests are accepted, dispatched, staged, copied, cancelled and ended (R199 to R212, R230). -/

namespace Sys2Proof.Machine

/-! ## Acceptance (R199, R211, R212) -/

section
variable (s : State)

/-- R212: acceptance that stops touches its flags and its counter only. -/
theorem State.reg_backpressure {a : Nat} (hs : a ≠ Reg.QUE_STATE) (hc : a ≠ Reg.QUE_CNT_BACKPRESSURE) :
    s.backpressure.reg a = s.reg a := by
  have hst : ∀ t : State, t.stall.reg a = t.reg a := fun t => t.reg_bump_other hc
  have hor : ∀ (t : State) (m : Nat), (t.orReg Reg.QUE_STATE m).stall.reg a = t.reg a := fun t m =>
    (hst _).trans (t.reg_orReg_other m hs)
  unfold State.backpressure
  extract_lets hit u1 p1 s1 u2 p2 s2 cs
  have h1 : s1.reg a = s.reg a := by
    unfold s1
    split
    · exact hor s _
    · rfl
  have h2 : s2.reg a = s1.reg a := by
    unfold s2
    split
    · exact hor s1 _
    · rfl
  refine each_inv (fun t : State => t.reg a = s.reg a) _ _ _ (h2.trans h1) (fun t c _ h => ?_)
  exact (hst t).trans h

theorem State.acceptTaken_counts (r : Nat) (d : Bytes) :
    (s.acceptTaken r d).reg Reg.QUE_CNT_ACCEPT = s.reg Reg.QUE_CNT_ACCEPT + 1 := State.reg_setReg_same _ _ _

theorem State.acceptRefused_counts (r : Nat) (d : Bytes) (addr mask : Nat) :
    (s.acceptRefused r d addr mask).reg Reg.QUE_CNT_REFUSED = s.reg Reg.QUE_CNT_REFUSED + 1 := State.reg_setReg_same _ _ _

end

/-- R199: the counter of a descriptor whose checks give the bits `m`. -/
def acceptCounter (m : Nat) : Nat := if m = 0 then Reg.QUE_CNT_ACCEPT else Reg.QUE_CNT_REFUSED

/-- R212: neither is a register of acceptance that stops. -/
theorem acceptCounter_ne (m : Nat) : acceptCounter m ≠ Reg.QUE_STATE ∧ acceptCounter m ≠ Reg.QUE_CNT_BACKPRESSURE := by
  unfold acceptCounter
  split <;> decide

section
variable {u v w : State} {r : Nat} {d : Bytes}
  (hl : (if v.descMask (r / 64) d = 0 then v.readLists (r / 64) d else (v, ⟨0, [], false⟩)) = (w, ⟨0, [], false⟩))
include hl

/-- R199, R516: a descriptor whose lists are read is taken or refused on the machine that has read them. -/
theorem State.acceptDesc_read : v.acceptDesc r d =
    if w.acceptMask (r / 64) d ≠ 0 then w.acceptRefused r d (w.headAddr r) (w.acceptMask (r / 64) d) else w.acceptTaken r d := by
  unfold State.acceptDesc
  dsimp only
  rw [hl]
  rfl

/-- R199, R211: it counts where it is taken or refused. -/
theorem State.acceptDesc_counts : (v.acceptDesc r d).reg (acceptCounter (w.acceptMask (r / 64) d)) =
    w.reg (acceptCounter (w.acceptMask (r / 64) d)) + 1 := by
  rw [State.acceptDesc_read hl]
  unfold acceptCounter
  by_cases hm : w.acceptMask (r / 64) d = 0
  · rw [if_pos hm, if_neg (not_not_intro hm)]
    exact w.acceptTaken_counts r d
  · rw [if_neg hm, if_pos hm]
    exact w.acceptRefused_counts ..

/-- R196, R213, R515: the next descriptor is the one at the head of the ring chosen; no stall of acceptance touches its counter. -/
theorem State.requestAccept_counts {s : State} (hu : u = s.applyShadow Reg.QUE_RT_RESERVE) (hr : u.chooseRing = some r)
    (ha : u.accessRead (r / 64) 5 (u.headAddr r) 64 none = (v, ⟨0, [], false⟩)) (hd : d = v.peek (u.headAddr r) 64) :
    s.requestAccept.reg (acceptCounter (w.acceptMask (r / 64) d)) = w.reg (acceptCounter (w.acceptMask (r / 64) d)) + 1 := by
  have e : s.requestAccept = (v.acceptDesc r d).backpressure := by
    subst hu hd
    unfold State.requestAccept
    dsimp only
    rw [hr]
    dsimp only
    unfold State.acceptFrom
    dsimp only
    rw [ha]
    rfl
  obtain ⟨hs, hc⟩ := acceptCounter_ne (w.acceptMask (r / 64) d)
  rw [e, State.reg_backpressure _ hs hc, State.acceptDesc_counts hl]

end

/-! ## Dispatch (R204, R209) -/

/-- R515: reading the one command of a request keeps the queue and the time bases. -/
theorem State.units_readBlock (s : State) (r : Nat) (q : Request) : (s.readBlock r q).1.units = s.units := by
  unfold State.readBlock
  dsimp only
  split
  · rfl
  · exact s.units_accessRead ..

section
variable {s u : State} {r : Nat} {q : Request} {room : State → Request → Bool} (hq : s.req r = some q)
  (hd : s.dispatchable r q = true) (hw : s.stillWaits r = false) (hl : s.deadlinePassed q = false)
  (hb : s.readBlock r q = (u, ⟨0, [], false⟩))
include hq hd hw hl hb

/-- R209: a request that may go to its engine does so on the machine that has read its command. -/
theorem State.requestDispatch_engages : s.requestDispatch r room = u.engage r q room := by
  have hn : ¬ ((!s.dispatchable r q || s.umr.waits.any (fun w => w.req == r)) = true) := by
    rw [hd, show s.umr.waits.any (fun w => w.req == r) = false from hw]
    decide
  unfold State.requestDispatch
  rw [hq]
  dsimp only
  rw [if_neg hn, hl, hb]
  rfl

end

section
variable {u : State} {r : Nat} {q : Request} {room : State → Request → Bool}

/-- R209: an engine that has room takes the request up. -/
theorem State.engage_runs (hk : q.kind < 0x15) (hg : q.kind ≠ 0x10) (hroom : q.kind = 5 → room u q = true) :
    u.engage r q room = u.putReq r (q.started_ u.now) := by
  have h5 : ¬ (q.kind = 5 ∧ room u q = false) := fun ⟨h, hf⟩ => by simp [hroom h] at hf
  unfold State.engage
  rw [if_neg (by omega), if_neg hg, if_neg h5]

/-- R224: a job takes its unit. -/
theorem State.engage_job {k : Nat} (hk : q.kind = 0x10) (hu : u.gusUnit q = some k) :
    u.engage r q room = u.putReq r { q.started_ u.now with units := [0x88 + k] } := by
  unfold State.engage
  rw [if_neg (by omega), if_pos hk, hu]

/-- R517: a KIND without commands ends its request. -/
theorem State.req_engage_unknown (hk : 0x15 ≤ q.kind) : (u.engage r q room).req r = none := by
  unfold State.engage
  rw [if_pos hk]
  exact State.req_endReq_same _ _ _ _ _

end

/-- R209: REQUEST_DISPATCH answers with what the request's engine makes of it. -/
theorem exec_requestDispatch {s u t : State} {r : Nat} {q : Request} (hr : s.running = true) (hq : s.req r = some q)
    (hd : s.dispatchable r q = true) (hw : s.stillWaits r = false) (hl : s.deadlinePassed q = false)
    (hb : s.readBlock r q = (u, ⟨0, [], false⟩)) (he : u.engage r q State.launchRoom = t) (ht : t.units = u.units) :
    exec (.requestDispatch r) s = .next t := by
  have hu : u.units = s.units := by
    have h := s.units_readBlock r q
    rwa [hb] at h
  have e : exec (.requestDispatch r) s = done s t :=
    congrArg (done s) ((State.work_running hr).trans ((State.requestDispatch_engages hq hd hw hl hb).trans he))
  exact e.trans (done_of_kept (units_field (·.pending) (fun _ => rfl) (ht.trans hu)) (units_field (·.time) (fun _ => rfl) (ht.trans hu)))

/-- R204: a waiting request whose DEADLINE has passed ends. -/
theorem State.req_requestDeadline {s : State} {r : Nat} {q : Request} (hq : s.req r = some q) (hp : q.phase = .waiting)
    (hd : s.deadlinePassed q = true) : (s.requestDeadline r).req r = none := by
  unfold State.requestDeadline
  rw [hq]
  dsimp only
  rw [if_pos ⟨hp, hd⟩]
  exact State.req_endReq_same _ _ _ _ _

/-- R199: a no-operation ends. -/
theorem State.req_schedNoop {s : State} {r : Nat} {q : Request} (hq : s.req r = some q) (hk : q.kind = 8) (ho : q.schedOp = 0x0D)
    (hp : q.phase = .running) : (s.schedNoop r).req r = none := by
  unfold State.schedNoop
  rw [hq]
  dsimp only
  rw [if_pos ⟨hk, ho, hp⟩]
  exact State.req_endReq_same _ _ _ _ _

/-! ## Transfers (R200 to R202) -/

/-- The parts of a request in flight. -/
def State.partsIn (s : State) (r : Nat) : Option (List Part) := (s.req r).map (·.parts)

theorem State.partsIn_some {s : State} {r : Nat} {ps : List Part} :
    s.partsIn r = some ps ↔ ∃ q, s.req r = some q ∧ q.parts = ps := Option.map_eq_some_iff

section
variable (s : State)

@[simp] theorem State.partsIn_putReq (r : Nat) (q : Request) : (s.putReq r q).partsIn r = some q.parts := by
  simp [State.partsIn]

theorem State.partsIn_of_que {s t : State} (h : t.que = s.que) (r : Nat) : t.partsIn r = s.partsIn r := by
  unfold State.partsIn State.req
  rw [h]

theorem State.que_applyShadow (a : Nat) : (s.applyShadow a).que = s.que := by
  unfold State.applyShadow
  split <;> rfl

theorem State.que_newWaits (ws : List (Nat × Nat)) (r p i : Nat) : (s.newWaits ws r p i).que = s.que :=
  State.que_ite rfl ((State.que_applyShadow _ _).trans (State.que_applyShadow _ _))

theorem State.que_hold (a n : Nat) (up : Bool) : (s.hold a n up).que = s.que := congrArg Prod.snd (s.books_hold a n up)

theorem State.partsIn_noteMigrate (s0 : State) (r : Nat) : (State.noteMigrate s0 s r).partsIn r = s.partsIn r := by
  unfold State.noteMigrate
  split
  · rfl
  · split
    · rfl
    · next q hq =>
      rw [State.partsIn_putReq, State.partsIn, hq]
      rfl

theorem State.que_stalled (p t : Nat) : (s.stalled p t).que = s.que := State.add_que _ _ _

theorem State.partsIn_unregulate (r k : Nat) : (s.unregulate r k).partsIn r = s.partsIn r := by
  unfold State.unregulate
  split
  · rfl
  · next q hq =>
    split
    · rfl
    · refine (State.partsIn_of_que (State.que_stalled _ _ _) r).trans ((s.partsIn_putReq r _).trans ?_)
      rw [State.partsIn, hq]
      rfl

end

/-- A part goes on with its next command. -/
theorem State.partsIn_advancePart {s : State} {r p n : Nat} {ps : List Part} {x : Part} (h : s.partsIn r = some ps)
    (hx : ps[p]? = some x) :
    (s.advancePart r p n).partsIn r = some (ps.set p { x with next := x.next + 1, addr := x.addr + n }) := by
  obtain ⟨q, hq, rfl⟩ := State.partsIn_some.1 h
  rw [State.advancePart_eq _ _ _ _ hq hx]
  exact State.partsIn_putReq _ _ _

/-- R201: a transfer whose accesses are made is added to its part, which goes on. -/
theorem State.partsIn_startJob {s0 s : State} {r p n : Nat} {q : Request} {x : Part} (j : StageJob) (ws : List (Nat × Nat))
    (hq : s.req r = some q) (hx : q.parts[p]? = some x) :
    (State.startJob s0 s r p j ws n).partsIn r =
      some (q.parts.set p { x with stages := x.stages ++ [j], next := x.next + 1, addr := x.addr + n }) := by
  have hl : p < q.parts.length := (List.getElem?_eq_some_iff.1 hx).1
  unfold State.startJob
  rw [hq]
  dsimp only
  rw [hx]
  dsimp only
  generalize hj : (State.noteMigrate s0 (s.putReq r (q.setPart p { x with stages := x.stages ++ [j] })) r).newWaits ws r p j.idx = s2
  have h2 : s2.partsIn r = some (q.parts.set p { x with stages := x.stages ++ [j] }) := by
    rw [← hj, State.partsIn_of_que (State.que_newWaits _ _ _ _ _), State.partsIn_noteMigrate, State.partsIn_putReq]
    rfl
  have h4 : (if j.dir = 2 then (s2.hold j.addr j.bytes true).hold j.dst j.bytes true else s2.hold j.addr j.bytes true).partsIn r =
      s2.partsIn r := by
    refine State.partsIn_of_que (State.que_ite ?_ (State.que_hold ..)) r
    exact (State.que_hold ..).trans (State.que_hold ..)
  have h5 := (State.partsIn_unregulate _ r p).trans (h4.trans h2)
  rw [State.partsIn_advancePart (n := n) h5 (x := { x with stages := x.stages ++ [j] }) (by simp [hl]), List.set_set]

/-- The part of a request that has such parts. -/
theorem State.exists_part {s : State} {r p : Nat} {ps : List Part} {x y : Part} (h : s.partsIn r = some (ps.set p y))
    (hx : ps[p]? = some x) : ∃ q, s.req r = some q ∧ q.parts[p]? = some y := by
  have hl : p < ps.length := (List.getElem?_eq_some_iff.1 hx).1
  obtain ⟨q, hq, hp⟩ := State.partsIn_some.1 h
  exact ⟨q, hq, by simp [hp, hl]⟩

/-- R201, R517: the step of a command that has been read from the list runs on the machine that has read it. -/
theorem State.nextCommand_cmdAt {s u : State} {r p op n g : Nat} {q : Request} {x : Part}
    (f : State → Request → Part → Nat → State) (h : s.cmdAt u r p op true q x g) (hop : cmdSize 1 op = some n) :
    s.nextCommand r p op true f = f u q x g := by
  obtain ⟨-, hs, ho, hm, hu, hou⟩ := h
  have hl : s.readList r p = u := by
    unfold State.readList
    rw [hs]
    dsimp only
    rw [ho, show s.accessRead q.ctx 5 x.addr ((cmdSize 1 op).getD 32) (some r) = (u, ⟨0, [], false⟩) from hm]
    rfl
  unfold State.nextCommand
  dsimp only
  rw [State.placePart_bound hs, hl, hu]
  dsimp only
  rw [hou, hop]
  exact if_pos rfl

section
variable {s u v w : State} {q : Request} {x : Part} {r p dir off a n g : Nat} {d : Bytes} {res : MemRead} {ws : List (Nat × Nat)}
  {l : Bool} (hd : d = u.peek x.addr 32) (hdir : dir = fieldLE d 1 1) (hoff : off = fieldLE d 4 4) (ha : a = fieldLE d 8 8)
  (hn : n = fieldLE d 0x18 4) (hm : u.stageMask q.ctx d = 0) (hs : stageMayStart (u.gntOf g) x d = true)
  (hg : (if dir = 0 then u.guardSlots g [(off, n)] none else (u, true)) = (v, true))
  (hb : v.mayAccess q.ctx (g / 4) a n (dir == 1) = true)
  (hw : (v.drawAll q.ctx (g / 4) a n (dir == 1)).stageAccess q g r dir a n res = (w, ⟨0, ws, l⟩))
include hd hdir hoff ha hn hm hs hg hb hw

/-- R201: a stage that passes its checks, may start and has made its accesses enters its job. -/
theorem State.stageStart_starts : u.stageStart q x g r p res =
    State.startJob (v.drawAll q.ctx (g / 4) a n (dir == 1)) w r p ⟨x.next, dir, off, a, 0, n, u.now⟩ ws 32 := by
  subst hd hdir hoff ha hn
  unfold State.stageStart
  dsimp only
  rw [if_neg (not_not_intro hm), hs, hg]
  dsimp only
  rw [hb, hw]
  rfl

/-- R201: the stage, read from the list, is added to its part. -/
theorem State.stage_adds (h : s.cmdAt u r p 8 true q x g) (hq : w.req r = some q) :
    ∃ q1, (s.stage r p res).req r = some q1 ∧ q1.parts[p]? =
      some { x with stages := x.stages ++ [⟨x.next, dir, off, a, 0, n, u.now⟩], next := x.next + 1, addr := x.addr + 32 } := by
  have e : s.stage r p res = u.stageStart q x g r p res := State.nextCommand_cmdAt _ h rfl
  obtain ⟨-, -, -, -, hu, -⟩ := h
  obtain ⟨-, hx, -⟩ := State.readyPart_part hu
  rw [e, State.stageStart_starts hd hdir hoff ha hn hm hs hg hb hw]
  exact State.exists_part (State.partsIn_startJob _ _ hq hx) hx

end

/-- R200: a COPY request that may take its next command has the part, and no transfer runs. -/
theorem State.copyReady_part {s : State} {r p : Nat} {q : Request} {x : Part} (h : s.copyReady r p = some (q, x)) :
    q.parts[p]? = some x ∧ x.stages = [] := by
  unfold State.copyReady at h
  split at h
  · cases h
  split at h
  · cases h
  next hx =>
  split at h
  · next hc =>
    obtain ⟨-, -, -, -, hs, -⟩ := hc
    simp only [Option.some.injEq, Prod.mk.injEq] at h
    obtain ⟨rfl, rfl⟩ := h
    exact ⟨hx, hs⟩
  · cases h

/-- R200, R516: the copy runs on the machine that has read its command. -/
theorem State.copy_read {s u : State} {r p : Nat} {q : Request} {x : Part} (res : MemRead) (hs : s.copyReady r p = some (q, x))
    (hm : s.readMade u q.ctx 5 x.addr 32 r) (hu : u.copyReady r p = some (q, x)) : s.copy r p res = u.copyStart q x r p res := by
  have hl : s.readCopy r p = u := by
    unfold State.readCopy
    rw [hs]
    dsimp only
    rw [show s.accessRead q.ctx 5 x.addr 32 (some r) = (u, ⟨0, [], false⟩) from hm]
    rfl
  unfold State.copy
  rw [hl]
  dsimp only
  rw [hu]

section
variable {s u w : State} {q : Request} {x : Part} {r p a b n : Nat} {d : Bytes} {res : MemRead} {ws : List (Nat × Nat)} {l : Bool}
  (hd : d = u.peek x.addr 32) (ha : a = fieldLE d 8 8) (hb : b = fieldLE d 0x10 8) (hn : n = fieldLE d 0x18 4)
  (ho : fieldLE d 0 1 = 8) (hbad : copyBad d = false) (hr : u.mayAccess q.ctx 5 a n false = true)
  (hwr : u.mayAccess q.ctx 5 b n true = true)
  (hw : ((u.drawAll q.ctx 5 a n false).drawAll q.ctx 5 b n true).copyAccess q r a b n res = (w, ⟨0, ws, l⟩))
include hd ha hb hn ho hbad hr hwr hw

/-- R200: a copy that passes its checks and has made its accesses enters its job. -/
theorem State.copyStart_starts : u.copyStart q x r p res =
    State.startJob ((u.drawAll q.ctx 5 a n false).drawAll q.ctx 5 b n true) w r p ⟨x.next, 2, 0, a, b, n, u.now⟩ ws 32 := by
  unfold State.copyStart
  dsimp only
  rw [← hd, if_neg (not_not_intro ho), hbad, ← ha, ← hb, ← hn, hr, hwr, hw]
  rfl

/-- R200: the copy, read from the list, is its part's only transfer. -/
theorem State.copy_adds (hs : s.copyReady r p = some (q, x)) (hm : s.readMade u q.ctx 5 x.addr 32 r)
    (hu : u.copyReady r p = some (q, x)) (hq : w.req r = some q) :
    ∃ q1, (s.copy r p res).req r = some q1 ∧ q1.parts[p]? =
      some { x with stages := [⟨x.next, 2, 0, a, b, n, u.now⟩], next := x.next + 1, addr := x.addr + 32 } := by
  obtain ⟨hx, hst⟩ := State.copyReady_part hu
  have h := State.partsIn_startJob (s0 := (u.drawAll q.ctx 5 a n false).drawAll q.ctx 5 b n true) (n := 32)
    ⟨x.next, 2, 0, a, b, n, u.now⟩ ws hq hx
  rw [hst, List.nil_append] at h
  rw [State.copy_read res hs hm hu, State.copyStart_starts hd ha hb hn ho hbad hr hwr hw]
  exact State.exists_part h hx

end

/-! ## The end of a transfer (R201) -/

theorem State.reg_hold (s : State) (a n : Nat) (up : Bool) (b : Nat) : (s.hold a n up).reg b = s.reg b :=
  each_inv (fun t : State => t.reg b = s.reg b) _ _ s rfl (fun t pg _ h => by
    split
    · exact h
    · exact h)

theorem State.reg_unholdStage (s : State) (j : StageJob) (b : Nat) : (s.unholdStage j).reg b = s.reg b := by
  unfold State.unholdStage
  dsimp only
  split
  · exact (State.reg_hold ..).trans (State.reg_hold ..)
  · exact State.reg_hold ..

theorem State.quarantined_ofReg {s t : State} (h : ∀ b, t.reg b = s.reg b) (u : Nat) : t.quarantined u = s.quarantined u :=
  State.bit_ofReg (h _) _

/-- A part with commands left, which nothing stops, goes on. -/
theorem State.partProgress_goes {s : State} {r p : Nat} {q : Request} {x : Part} (hq : s.req r = some q) (hx : q.parts[p]? = some x)
    (he : q.ending = none) (hn : x.next < x.stop) (hg : ∀ g, x.unit = some g → s.quarantined (0x10 + g) = false) :
    s.partProgress r p = s := by
  have hf : s.partQuarantined r p = false := by
    unfold State.partQuarantined
    rw [hq]
    dsimp only
    rw [hx]
    dsimp only
    cases hu : x.unit with
    | none => rfl
    | some g => simp [hg g hu]
  unfold State.partProgress
  rw [hq]
  dsimp only
  rw [hx]
  dsimp only
  rw [hf, he]
  have hs : ¬ (x.stop ≤ x.next ∧ x.stages = []) := by omega
  by_cases hc : x.tile ∨ x.status.isSome
  · exact if_pos hc
  · rw [if_neg hc, if_neg Bool.false_ne_true]
    exact if_neg hs

/-- R201: a transfer that has ended leaves its part, which goes on. -/
theorem State.partsIn_endJob {s : State} {r p : Nat} {q : Request} {x : Part} (j : StageJob) (hq : s.req r = some q)
    (hx : q.parts[p]? = some x) (he : q.ending = none) (hn : x.next < x.stop)
    (hg : ∀ g, x.unit = some g → s.quarantined (0x10 + g) = false) :
    (s.endJob x r p j).partsIn r = some (q.parts.set p { x with stages := x.stages.filter (fun k => !(k.idx == j.idx)) }) := by
  have hl : p < q.parts.length := (List.getElem?_eq_some_iff.1 hx).1
  unfold State.endJob
  rw [hq]
  dsimp only
  rw [State.partProgress_goes (q := q.setPart p { x with stages := x.stages.filter (fun k => !(k.idx == j.idx)) })
    (x := { x with stages := x.stages.filter (fun k => !(k.idx == j.idx)) }) (State.req_putReq _ _ _) (by simp [Request.setPart, hl]) he hn
    (fun g hu => (State.quarantined_ofReg (s := s) (fun b => s.reg_unholdStage j b) _).trans (hg g hu))]
  exact State.partsIn_putReq _ _ _

theorem AccessResult.ready_clean : AccessResult.ready ⟨0, [], false⟩ = true := rfl

/-- R201: a transfer that waits for nothing and whose bytes moved ends on the machine that has moved them. -/
theorem State.stageDone_ends {s u v : State} {r p i : Nat} {q : Request} {x : Part} {j : StageJob} (hq : s.req r = some q)
    (hx : q.parts[p]? = some x) (hj : x.stages.find? (fun j => j.idx == i) = some j)
    (hw : s.umr.waits.any (fun w => w.req == r && w.part == p && w.idx == i) = false)
    (hp : s.movePrep q x r j = (u, ⟨0, [], false⟩)) (hm : u.moveBytes q x r j = (v, 0)) : s.stageDone r p i = v.endJob x r p j := by
  unfold State.stageDone
  rw [hq]
  dsimp only
  rw [hx]
  dsimp only
  rw [hj]
  dsimp only
  rw [hw, hp]
  dsimp only
  rw [if_neg Bool.false_ne_true, if_neg (not_not_intro rfl), AccessResult.ready_clean, hm]
  rfl

/-- R201: a transfer whose bytes moved is removed from its part. -/
theorem State.stageDone_removes {s u v : State} {r p i : Nat} {q : Request} {x : Part} {j : StageJob} (hq : s.req r = some q)
    (hx : q.parts[p]? = some x) (hj : x.stages.find? (fun j => j.idx == i) = some j) (he : q.ending = none) (hn : x.next < x.stop)
    (hw : s.umr.waits.any (fun w => w.req == r && w.part == p && w.idx == i) = false)
    (hp : s.movePrep q x r j = (u, ⟨0, [], false⟩)) (hm : u.moveBytes q x r j = (v, 0)) (hv : v.req r = some q)
    (hg : ∀ g, x.unit = some g → v.quarantined (0x10 + g) = false) :
    ∃ q1, (s.stageDone r p i).req r = some q1 ∧
      q1.parts[p]? = some { x with stages := x.stages.filter (fun k => !(k.idx == i)) } := by
  have hi : j.idx = i := by simpa using List.find?_some hj
  have h := State.partsIn_endJob j hv hx he hn hg
  rw [hi] at h
  rw [State.stageDone_ends hq hx hj hw hp hm]
  exact State.exists_part h hx

/-! ## Cancels (R84, R230) -/

section
variable (s : State)

theorem State.que_rollbackSeq (id : Nat) (q : SeqRec) : (s.rollbackSeq id q).que = s.que := by
  unfold State.rollbackSeq
  extract_lets p s1
  split
  next s2 n hs =>
  extract_lets q1 s3
  have h2 : s2.que = s.que := by
    rw [show s2 = _ from (congrArg Prod.fst hs).symm]
    split <;> rfl
  have h3 : s3.que = s.que := by
    unfold s3
    split <;> exact h2
  exact (State.que_devWrite _ _ _ _).trans h3

/-- R84: a rollback touches no request. -/
theorem State.que_rollbackTag (c tag : Nat) : (s.rollbackTag c tag).que = s.que :=
  s.que_each _ _ (fun t _ => State.que_ite (t.que_rollbackSeq _ _) rfl)

theorem State.req_dropWaiting_same (r : Nat) (q : Request) (st : Nat) : (s.dropWaiting r q st).req r = none :=
  State.req_finishReq_same _ _ _ _ _ _ _

theorem State.req_dropWaiting_other {r r' : Nat} (q : Request) (st : Nat) (h : r' ≠ r) :
    (s.dropWaiting r q st).req r' = s.req r' :=
  (State.req_finishReq_other _ _ _ _ _ _ h).trans (State.req_of_books (State.books_ite (s.books_havocNamed q) rfl) r')

/-- Request `r` is not in flight or waits. -/
def State.idleReq (r : Nat) : Prop := ∀ q, s.req r = some q → q.phase = .waiting

/-- R230: a request that a cancel covers ends now or at its next boundary. -/
def State.cancelReq (r : Nat) : State :=
  match s.req r with
  | none => s
  | some q => match q.phase with
    | .waiting => s.dropWaiting r q 7
    | .running => s.stopRunning r 7

end

section
variable {s : State} {r : Nat}

/-- R230: a covered request that waits ends at once, and no other request changes. -/
theorem State.cancelReq_idle (h : s.idleReq r) :
    (s.cancelReq r).req r = none ∧ ∀ r', r' ≠ r → (s.cancelReq r).req r' = s.req r' := by
  unfold State.cancelReq
  cases hq : s.req r with
  | none => exact ⟨hq, fun _ _ => rfl⟩
  | some q =>
    dsimp only
    rw [h q hq]
    exact ⟨s.req_dropWaiting_same .., fun r' hr => s.req_dropWaiting_other _ _ hr⟩

theorem State.idleReq_cancelReq {r' : Nat} (h : s.idleReq r) (h' : s.idleReq r') : (s.cancelReq r).idleReq r' := by
  obtain ⟨hs, ho⟩ := State.cancelReq_idle h
  intro q hq
  by_cases e : r' = r
  · rw [e, hs] at hq
    cases hq
  · rw [ho r' e] at hq
    exact h' q hq

theorem State.gone_cancelReq {r' : Nat} (h : s.idleReq r) (hr : s.req r' = none) : (s.cancelReq r).req r' = none := by
  obtain ⟨hs, ho⟩ := State.cancelReq_idle h
  by_cases e : r' = r
  · rw [e, hs]
  · rw [ho r' e, hr]

end

/-- R230: where all that a cancel covers waits, none of it is in flight afterwards. -/
theorem State.cancelReq_each (xs : List (Nat × Request)) {s : State} (h : ∀ e ∈ xs, s.idleReq e.1) :
    (∀ e ∈ xs, (each xs (fun t e => t.cancelReq e.1) s).req e.1 = none) ∧
    ∀ r, s.req r = none → (each xs (fun t e => t.cancelReq e.1) s).req r = none := by
  induction xs generalizing s with
  | nil => exact ⟨fun _ h => absurd h List.not_mem_nil, fun _ h => h⟩
  | cons x xs ih =>
    have hx : s.idleReq x.1 := h x List.mem_cons_self
    obtain ⟨hin, hgone⟩ := ih (s := s.cancelReq x.1) (fun e he => State.idleReq_cancelReq hx (h e (List.mem_cons_of_mem x he)))
    refine ⟨fun e he => ?_, fun r hr => hgone r (State.gone_cancelReq hx hr)⟩
    rcases List.mem_cons.1 he with rfl | he
    · exact hgone _ (State.cancelReq_idle hx).1
    · exact hin e he

/-- R230: a cancel does not cover itself. -/
theorem State.ne_of_mem_cancelCovers (s : State) {r : Nat} {q : Request} {e : Nat × Request} (h : e ∈ s.cancelCovers r q) :
    e.1 ≠ r := (of_decide_eq_true (List.mem_filter.1 h).2).1

/-- R230: a cancel ends the requests that it covers, where they wait. -/
theorem State.req_schedCancel {s : State} {r : Nat} {q : Request} {rollback : State → Nat → Nat → State}
    (hrb : ∀ t c tag, (rollback t c tag).que = t.que) (hq : s.req r = some q) (hk : q.kind = 8) (ho : q.schedOp = 0x0C)
    (hp : q.phase = .running) (hc : q.covers = []) (hw : ∀ e ∈ s.cancelCovers r q, s.req e.1 = some e.2 ∧ e.2.phase = .waiting) :
    ∀ e ∈ s.cancelCovers r q, (s.schedCancel r rollback).req e.1 = none := by
  have hn : ¬ (q.kind ≠ 8 ∨ q.schedOp ≠ 0x0C ∨ q.phase ≠ .running ∨ q.covers ≠ []) := by simp [hk, ho, hp, hc]
  intro e he
  unfold State.schedCancel
  rw [hq]
  dsimp only
  rw [if_neg hn]
  generalize h3 : (if q.schedTag = 0 then _ else _ : State) = s3
  have hi : ∀ e ∈ s.cancelCovers r q, s3.idleReq e.1 := by
    intro e he q1 hq1
    have hne : e.1 ≠ r := s.ne_of_mem_cancelCovers he
    have e3 : s3.req e.1 = s.req e.1 := by
      rw [← h3]
      split
      · exact State.req_putReq_other _ _ hne
      · exact (congrArg (fun u : Que => u.reqs.find e.1) (hrb _ _ _)).trans (State.req_putReq_other _ _ hne)
    obtain ⟨hr, hph⟩ := hw e he
    rw [e3, hr] at hq1
    cases hq1
    exact hph
  exact (State.ends_settled _).gone _ ((State.cancelReq_each _ hi).1 e he)

/-- R208: a write of SYN_VALUE counts last. -/
theorem State.synWrite_counts (s : State) (n v : Nat) :
    (s.synWrite n v).reg Reg.SYN_CNT_SIGNAL = s.reg Reg.SYN_CNT_SIGNAL + 1 := State.reg_setReg_same _ _ _

/-- Settles O23: each event runs on the machine that has made its accesses; what the end of a request causes brings none back. -/
theorem requestsAreAcceptedRunAndEnd : Obligations.RequestsAreAcceptedRunAndEnd := by
  refine ⟨fun s u v w r d hr hu hc ha hd hl => ?_, fun s u r q hr hq hd hw hl hb => ⟨fun hk hg hroom => ?_, fun k hk hu => ?_,
    fun hk => ?_⟩, fun s r q hr hq hp hd => ?_, fun s u v w r p g q x d ws l res h hd hm hs => ?_,
    fun s u w r p q x d ws l res hr hs hm hu hd ho hb => ?_,
    fun s u v r p i q x j hr hq hx hj he hn hw hp hm hv hg => ?_, fun s r q hr hq hk ho hp => ?_,
    fun s r q hr hq hk ho hp hc hw => ?_, fun s n v => ⟨_, rfl, s.synWrite_counts _ _⟩⟩
  · intro c
    exact ⟨_, done_work hr, State.requestAccept_counts hl hu hc ha hd⟩
  · exact exec_requestDispatch hr hq hd hw hl hb (State.engage_runs hk hg hroom) (u.units_putReq _ _)
  · exact exec_requestDispatch hr hq hd hw hl hb (State.engage_job hk hu) (u.units_putReq _ _)
  · refine ⟨_, done_work hr, ?_⟩
    rw [State.requestDispatch_engages hq hd hw hl hb]
    exact State.req_engage_unknown hk
  · exact ⟨_, done_work hr, State.req_requestDeadline hq hp hd⟩
  · intro dir a n hg ha hw hq
    obtain ⟨q1, h1⟩ := State.stage_adds hd rfl rfl rfl rfl hm hs hg ha hw h hq
    obtain ⟨hr, -⟩ := h
    exact ⟨_, q1, done_work hr, h1⟩
  · intro a b n hr1 hw1 hw hq
    obtain ⟨q1, h1⟩ := State.copy_adds hd rfl rfl rfl ho hb hr1 hw1 hw hs hm hu hq
    exact ⟨_, q1, done_work hr, h1⟩
  · obtain ⟨q1, h1⟩ := State.stageDone_removes hq hx hj he hn hw hp hm hv hg
    exact ⟨_, q1, done_work hr, h1⟩
  · exact ⟨_, done_work hr, State.req_schedNoop hq hk ho hp⟩
  · exact ⟨_, done_work hr, State.req_schedCancel State.que_rollbackTag hq hk ho hp hc hw⟩

end Sys2Proof.Machine
end

section
/-! PROOFS. How a Finger runs an instruction (R138, R142, R150): the instruction's operation answers with the machine and the Finger's
own new state, which replaces the old one. The instructions that touch the Finger only keep the machine. -/

namespace Sys2Proof.Machine

/-! ## One Finger -/

section
variable (x : Finger)

@[simp] theorem Finger.run_setX (i v : Nat) : (x.setX i v).run = x.run := by
  unfold Finger.setX
  split <;> rfl

@[simp] theorem Finger.run_adv (n : Nat) : (x.adv n).run = x.run := (rfl)

@[simp] theorem Finger.run_withTickets (s : State) (f : Nat) : (x.withTickets s f).run = x.run := (rfl)

end

section
variable {x : Finger}

/-- A Finger that waits for nothing is as it was when its wait is cleared. -/
theorem Finger.clearWait_eq (h : x.wait = .none) : { x with wait := .none } = x := by rw [← h]

/-- R150: with every ticket idle no transfer is left to wait for. -/
theorem Finger.length_idleTickets (h : ∀ k, k < 8 → nth none x.tickets k = none) : x.idleTickets.length = 8 := by
  unfold Finger.idleTickets
  rw [List.filter_eq_self.2 (fun k hk => by rw [h k (List.mem_range.1 hk)]; rfl), List.length_range]

end

/-! ## A Finger that executes -/

section
variable {s : State} {f : Nat} {x : Finger} {l : Launch}

theorem State.fngLive_run (h : s.fngLive f = some (x, l)) : x.run = 1 := by
  unfold State.fngLive at h
  split at h
  · cases h
  split at h
  · cases h
  split at h
  · next hc =>
    cases h
    exact hc.1
  · cases h

theorem State.fngReady_live (h : s.fngReady f = some (x, l)) : s.fngLive f = some (x, l) ∧ x.wait = .none := by
  unfold State.fngReady at h
  split at h
  · cases h
  · next hl =>
    split at h
    · next hw =>
      cases h
      exact ⟨hl, hw⟩
    · cases h

/-- R150: a launch goes on while a Finger of it has not exited. -/
theorem State.endLaunch_running {r k : Nat} {y : Finger} (hm : (k, y) ∈ s.fingers.entries) (hl : y.launch = r) (hr : y.run = 1) :
    s.endLaunch r = s := by
  have ha : ¬ s.allExited r = true := fun h => by
    have := List.all_eq_true.1 h _ hm
    simp [hl, hr] at this
  unfold State.endLaunch
  split
  · rfl
  · exact if_neg ha

section
variable (h : s.fngAt f x l) {op : Launch → Finger → FngRes} {t : State} {y : Finger}
include h

theorem State.fngAt_run : x.run = 1 := State.fngLive_run (State.fngReady_live h.2.1).1

theorem State.fngAt_wait : x.wait = .none := (State.fngReady_live h.2.1).2

/-- An operation that succeeds puts the Finger's new state into the machine it answers; the last Finger to exit ends the launch
(R150). -/
theorem State.fngRun_ok (ho : op l x = .ok t y) (len : Nat) :
    s.fngRun f len op = if y.run = 2 then (t.putFng f y).endLaunch x.launch else t.putFng f y := by
  obtain ⟨-, hr, hq⟩ := h
  unfold State.fngRun
  rw [hr]
  dsimp only
  rw [hq, if_neg Bool.false_ne_true, ho]

/-- R161: an operation that traps halts the launch at a breakpoint under DEBUG, and ends it otherwise. -/
theorem State.fngRun_trap {c : Nat} {v : Option Nat} (ho : op l x = .trap t c v) (len : Nat) :
    s.fngRun f len op = if c = 3 ∧ l.debug then t.haltLaunch f x l len else t.fngTrap f x l c v := by
  obtain ⟨-, hr, hq⟩ := h
  unfold State.fngRun
  rw [hr]
  dsimp only
  rw [hq, if_neg Bool.false_ne_true, ho]

theorem State.fngRun_goesOn (ho : op l x = .ok t y) (hy : y.run = x.run) (len : Nat) : s.fngRun f len op = t.putFng f y :=
  (State.fngRun_ok h ho len).trans (if_neg (by rw [hy, State.fngAt_run h]; decide))

/-- The command of an instruction answers with what running its operation gives. -/
theorem State.fngCommand_runs (op : Launch → Finger → FngRes) :
    s.fngCommand f op = .next { s.fngRun f 4 op with pending := s.pending, time := s.time } := done_work h.1

/-- The command of an instruction whose operation keeps the queue and the time bases. -/
theorem State.fngCommand_goesOn (ho : op l x = .ok t y) (hy : y.run = x.run) (hp : t.pending = s.pending) (ht : t.time = s.time) :
    s.fngCommand f op = .next (t.putFng f y) := by
  rw [State.fngCommand_runs h, State.fngRun_goesOn h ho hy, ← hp, ← ht]
  rfl

/-- The command of an instruction that touches the Finger only. -/
theorem State.fngCommand_retires (ho : op l x = .ok s y) (hy : y.run = x.run) : s.fngCommand f op = .next (s.putFng f y) :=
  State.fngCommand_goesOn h ho hy rfl rfl

end
end

/-! ## The instructions that touch the Finger only (R150, R155, R159) -/

section
variable (s : State) {x : Finger}

theorem State.xfXtestOp_eq (rd : Nat) {k : Nat} (hk : k ≤ 7) :
    s.xfXtestOp x rd k = .ok s ((x.setX rd (if nth none x.tickets k = none then 1 else 0)).adv 4) := by
  unfold State.xfXtestOp
  rw [if_neg (by omega)]
  cases nth none x.tickets k <;> rfl

theorem State.xfXwaitOp_idle {k : Nat} (hk : k ≤ 7) (hi : nth none x.tickets k = none) :
    s.xfXwaitOp x k = .ok s ({ x with wait := .none }.adv 4) := by
  unfold State.xfXwaitOp
  rw [if_neg (by omega), hi]
  rfl

theorem State.xfWaitmsgOp_goesOn (hm : x.inboxOf 0 ≠ [] ∨ x.inboxOf 1 ≠ [] ∨ x.inboxOf 2 ≠ [] ∨ x.inboxOf 3 ≠ []) :
    s.xfWaitmsgOp x = .ok s ({ x with wait := .none }.adv 4) := by
  have hn : x.msgStat ≠ 0 := by
    simp only [← List.length_pos_iff] at hm
    unfold Finger.msgStat
    omega
  exact if_neg hn

theorem State.xfRecvOp_takes (rd : Nat) {d : Nat} {m : BitVec 32} {ms : List (BitVec 32)} (hd : d ≤ 3) (hi : x.inboxOf d = m :: ms) :
    s.xfRecvOp x rd d = .ok s (({ x with inbox := x.inbox.set d ms, wait := .none }.setX rd m.toNat).adv 4) := by
  unfold State.xfRecvOp
  rw [if_neg (by omega), hi]

theorem State.xfExitOp_idle (hi : ∀ k, k < 8 → nth none x.tickets k = none) :
    s.xfExitOp x = .ok s { x with resv := none, run := 2, wait := .none, retired := x.retired + 1 } :=
  if_pos (Finger.length_idleTickets hi)

end

/-- Settles O15: each operation answers the machine it was given, with the Finger's new state. -/
theorem fingerRegisterInstructionsRetire : Obligations.FingerRegisterInstructionsRetire := by
  intro s f x l h
  have hw : { x with wait := .none } = x := Finger.clearWait_eq (State.fngAt_wait h)
  refine ⟨fun p q => State.fngCommand_retires h rfl rfl, State.fngCommand_retires h rfl rfl,
    fun rd => State.fngCommand_retires h rfl (by simp), fun rd rs1 hk => ?_, fun rs1 hk hi => ?_, fun hm => ?_,
    State.fngCommand_retires h rfl rfl, State.fngCommand_retires h rfl rfl, fun hi hother => ?_, fun rd rs1 m ms hd hm => ?_⟩
  · exact State.fngCommand_retires h (s.xfXtestOp_eq rd hk) (by simp)
  · have e := s.xfXwaitOp_idle hk hi
    rw [hw] at e
    exact State.fngCommand_retires h e rfl
  · have e := s.xfWaitmsgOp_goesOn hm
    rw [hw] at e
    exact State.fngCommand_retires h e rfl
  · obtain ⟨k, y, -, hm, hl, hr⟩ := hother
    have e := s.xfExitOp_idle hi
    rw [← State.fngAt_wait h] at e
    refine (State.fngCommand_runs h (fun _ x => s.xfExitOp x)).trans ?_
    rw [State.fngRun_ok h e, if_pos rfl, State.endLaunch_running hm hl hr]
    rfl
  · have e := s.xfRecvOp_takes rd hd hm
    rw [← State.fngAt_wait h] at e
    exact State.fngCommand_retires h e (by simp)

end Sys2Proof.Machine
end

section
/-! PROOFS. Messages, work queues, barriers and drained queues (R155 to R158): a message or a queue entry moves, and the Finger goes
on; a barrier or a drained queue lets every Finger that waits in it go on. -/

namespace Sys2Proof.Machine

/-! ## All Fingers at once -/

/-- An entry that is found is among the entries held. -/
theorem OMap.mem_entries_of_find {α : Type} {m : OMap α} {k : Nat} {v : α} (h : OMap.find m k = some v) : (k, v) ∈ OMap.entries m := by
  induction m with
  | nil => cases h
  | cons e m ih =>
    obtain ⟨j, u⟩ := e
    have hc : (if j = k then u else OMap.find m k) = some v := h
    by_cases hj : j = k
    · rw [if_pos hj] at hc
      subst hj hc
      simp [OMap.entries]
    · rw [if_neg hj] at hc
      have hm := ih hc
      cases u with
      | none => exact hm
      | some w => exact List.mem_cons_of_mem _ hm

/-- A change of every entry, seen at one key. -/
theorem OMap.find_map {α : Type} (m : OMap α) (g : Nat → α → α) (k : Nat) :
    OMap.find (m.map (fun e => (e.1, e.2.map (g e.1)))) k = (OMap.find m k).map (g k) := by
  induction m with
  | nil => rfl
  | cons e m ih =>
    obtain ⟨j, u⟩ := e
    show (if j = k then u.map (g j) else OMap.find (m.map _) k) = (if j = k then u else OMap.find m k).map (g k)
    by_cases hj : j = k
    · subst hj
      rw [if_pos rfl, if_pos rfl]
    · rw [if_neg hj, if_neg hj, ih]

theorem State.find_mapFng (s : State) (g : Nat → Finger → Finger) (k : Nat) :
    (s.mapFng g).fingers.find k = (s.fingers.find k).map (g k) := OMap.find_map _ g k

/-! ## Messages (R155, R156) -/

section
variable {s : State} {l : Launch} {f n d : Nat} (hd : d ≤ 3) (hn : l.neighbour f d = some n) (hr : (s.fngOf n).run ≠ 2)
  (hroom : ((s.fngOf n).inboxOf ((d + 2) % 4)).length < 8)

/-- R155: in the machine Finger `n` has the message `v` from direction `d`, counted in its Mitten. -/
def State.delivered (s : State) (n d v : Nat) : State :=
  let msgs := (s.fngOf n).inboxOf ((d + 2) % 4) ++ [BitVec.ofNat 32 v]
  (s.putFng n { s.fngOf n with inbox := (s.fngOf n).inbox.set ((d + 2) % 4) msgs }).bump (Reg.MTN_CNT_MSG (n / 64))

include hr hroom

theorem State.trySend_delivers (v : Nat) : s.trySend n d v = some (s.delivered n d v) := by
  unfold State.trySend
  dsimp only
  rw [if_neg hr]
  exact if_pos hroom

include hd hn

theorem State.xfSendOp_delivers (x : Finger) (v : Nat) :
    s.xfSendOp l f x v d = .ok (s.delivered n d v) ({ x with wait := .none }.adv 4) := by
  unfold State.xfSendOp
  rw [if_neg (by omega), hn]
  dsimp only
  rw [State.trySend_delivers hr hroom]

theorem State.xfTsendOp_delivers (x : Finger) (rd rs1 : Nat) {rs2 : Nat} (e : x.getX rs2 = d) :
    s.xfTsendOp l f x rd rs1 rs2 = .ok (s.delivered n d (x.getX rs1)) ((x.setX rd 1).adv 4) := by
  unfold State.xfTsendOp
  dsimp only
  rw [e, if_neg (by omega), hn]
  dsimp only
  rw [State.trySend_delivers hr hroom]

end

/-! ## Work queues (R157) -/

section
variable {s : State} {f : Nat} {x : Finger} {q : Nat} (hq : q ≤ 15)
include hq

theorem State.xfQpushOp_appends {v : Nat} (hv : v ≠ 0xFFFFFFFF) (hroom : (s.mqueue (f / 64) q).length < 256) :
    s.xfQpushOp f x q v =
      .ok (s.setMqueue (f / 64) q (s.mqueue (f / 64) q ++ [BitVec.ofNat 32 v])) ({ x with wait := .none }.adv 4) := by
  unfold State.xfQpushOp
  rw [if_neg (by omega)]
  exact if_pos hroom

theorem State.xfQpopOp_takes (rd : Nat) {m : BitVec 32} {ms : List (BitVec 32)} (hm : s.mqueue (f / 64) q = m :: ms) :
    s.xfQpopOp f x rd q = .ok (s.setMqueue (f / 64) q ms) (({ x with wait := .none }.setX rd m.toNat).adv 4) := by
  unfold State.xfQpopOp
  rw [if_neg (by omega), show s.mqueue (mittenOf f) q = m :: ms from hm]
  rfl

end

/-- R157: an empty queue in which every Finger of the Mitten that runs waits gives each of them 0xFFFF_FFFF. -/
theorem State.find_queueDrained {s : State} {m q g rd k : Nat} {y : Finger} (h : s.queueDry m q = true) (hy : s.fingers.find g = some y)
    (hg : g / 64 = m) (hr : y.run = 1) (hw : y.wait = .pop rd k) :
    (s.queueDrained m q).fingers.find g = some (({ y with wait := .none }.setX rd 0xFFFFFFFF).adv 4) := by
  unfold State.queueDrained
  rw [if_pos h, State.find_mapFng, hy, Option.map_some, hw]
  dsimp only
  rw [if_pos ⟨hg, hr⟩]

theorem State.regs_queueDrained (s : State) (m q : Nat) : (s.queueDrained m q).regs = s.regs := by
  unfold State.queueDrained
  split <;> rfl

/-! ## Barriers (R158) -/

section
variable {s : State} {r m : Nat}

/-- A Finger that has not exited is found among those that are asked about. -/
theorem State.mem_liveFingers {p : Nat → Bool} {g : Nat} {y : Finger} (hy : s.fingers.find g = some y) (hl : y.launch = r)
    (hr : y.run = 1) (hp : p g = true) : (g, y) ∈ s.liveFingers r p :=
  List.mem_filter.2 ⟨OMap.mem_entries_of_find hy, by simp [hl, hr, hp]⟩

variable (hne : s.liveFingers r (fun g => g / 64 == m) ≠ [])
  (hall : ∀ e ∈ s.liveFingers r (fun g => g / 64 == m), e.2.wait = .bar)
include hne hall

theorem State.allArrived_bar : s.allArrived r .bar (fun g => g / 64 == m) = true := by
  obtain ⟨e, he⟩ := List.exists_mem_of_ne_nil _ hne
  unfold State.allArrived
  rw [Bool.and_eq_true, List.any_eq_true, List.all_eq_true]
  exact ⟨⟨e, he, beq_iff_eq.2 (hall e he)⟩, fun e he => by rw [hall e he]; rfl⟩

theorem State.barRelease_releases : s.barRelease r m =
    (s.goOn r .bar (fun g => g / 64 == m)).setReg (Reg.MTN_CNT_BAR m) (s.reg (Reg.MTN_CNT_BAR m) + 1) :=
  if_pos (State.allArrived_bar hne hall)

/-- Every Finger of the launch in the Mitten that has not exited goes on past the barrier. -/
theorem State.find_barRelease {g : Nat} {y : Finger} (hy : s.fingers.find g = some y) (hl : y.launch = r) (hr : y.run = 1)
    (hg : g / 64 = m) : (s.barRelease r m).fingers.find g = some ({ y with wait := .none }.adv 4) := by
  have hp : (g / 64 == m) = true := beq_iff_eq.2 hg
  have hw : y.wait = .bar := hall _ (State.mem_liveFingers hy hl hr hp)
  rw [State.barRelease_releases hne hall, State.setReg_fingers]
  unfold State.goOn
  rw [State.find_mapFng, hy, Option.map_some, if_pos ⟨hl, hr, hw, hp⟩]

end

/-- R158: BARRIER_RELEASE of a Mitten of a launch that is not halted. -/
theorem State.barrierRelease_mitten {s : State} {r : Nat} {k : Fin 64} {l : Launch} (hl : s.launches.find r = some l)
    (hh : l.halted = false) (hk : l.groups.contains k.val = true) : s.barrierRelease r (some k) = s.barRelease r k := by
  unfold State.barrierRelease
  rw [hl]
  dsimp only
  rw [hh, if_neg Bool.false_ne_true, if_pos hk]

/-- R155: a Finger stalled in XF.RECV tries again. -/
theorem State.stallResume_recv {s t : State} {f rd d : Nat} {x y : Finger} {l : Launch} (hf : s.fngLive f = some (x, l))
    (hw : x.wait = .recv rd d) (ho : s.xfRecvOp x rd d = .ok t y) : s.stallResume f = t.putFng f y := by
  unfold State.stallResume
  rw [hf]
  dsimp only
  rw [hw]
  dsimp only
  rw [ho]

/-- Settles O16: a send, a push and a pop answer the machine in which the message has moved; a release changes the Fingers that wait,
each by itself. -/
theorem fingerMessagesQueuesAndBarriers : Obligations.FingerMessagesQueuesAndBarriers := by
  refine ⟨fun s f x l rd rs1 rs2 n h hd hn hr hroom => ?_, fun s f x l rs1 rs2 h hq hv hroom => ?_,
    fun s f x l rd rs1 m ms h hq hm => ?_, fun s f x l rd d m ms hrun hf hw hd hm => ?_,
    fun s r k l hrun hl hh hk hne hall => ?_, fun s m q hrun hdry => ?_⟩
  · have e := State.xfSendOp_delivers hd hn hr hroom x (x.getX rs1)
    rw [Finger.clearWait_eq (State.fngAt_wait h)] at e
    exact ⟨State.fngCommand_goesOn h e rfl rfl rfl,
      State.fngCommand_goesOn h (State.xfTsendOp_delivers hd hn hr hroom x rd rs1 rfl) (by simp) rfl rfl⟩
  · have e := State.xfQpushOp_appends (x := x) hq hv hroom
    rw [Finger.clearWait_eq (State.fngAt_wait h)] at e
    exact State.fngCommand_goesOn h e rfl rfl rfl
  · have e := State.xfQpopOp_takes (x := x) hq rd hm
    rw [Finger.clearWait_eq (State.fngAt_wait h)] at e
    exact State.fngCommand_goesOn h e (by simp) rfl rfl
  · refine (done_work hrun).trans ?_
    rw [State.stallResume_recv hf hw (s.xfRecvOp_takes rd hd hm)]
    rfl
  · refine ⟨_, done_work hrun, ?_⟩
    rw [State.barrierRelease_mitten hl hh hk]
    refine ⟨?_, fun g y hy hy1 hr hg => State.find_barRelease hne hall hy hy1 hr hg⟩
    rw [State.barRelease_releases hne hall]
    exact State.reg_setReg_same _ _ _
  · exact ⟨_, done_work hrun, s.regs_queueDrained m q, fun g y rd k hy hg hr hw => State.find_queueDrained hdry hy hg hr hw⟩

end Sys2Proof.Machine
end

section
/-! PROOFS. The sorted-list and the hash-table instructions (R153, R154): each is its steps or its probe, with the result in rd. -/

namespace Sys2Proof.Machine

/-! ## What an instruction leaves its Finger and the stores as -/

section
variable {s : State} {f : Nat} {x : Finger} {l : Launch} (h : s.fngAt f x l)
include h

/-- The command of an instruction that goes on leaves the Finger's new state, and the stores as its operation left them. -/
theorem State.fngCommand_leaves {op : Launch → Finger → FngRes} {u : State} {y : Finger} (ho : op l x = .ok u y)
    (hy : y.run = x.run) : ∃ t, s.fngCommand f op = .next t ∧ t.fngIs f y u := by
  refine ⟨_, State.fngCommand_runs h op, ?_⟩
  rw [State.fngRun_goesOn h ho hy]
  exact ⟨OMap.find_put_same _ _ _, rfl, rfl, rfl⟩

end

/-! ## Sorted lists (R153) -/

section
variable {s u : State} {f : Nat} {x : Finger} {l : Launch} {op rs1 rs2 r : Nat}

/-- R153: a list instruction that reads its block, takes its steps and writes its block back retires with their code. -/
theorem State.xfList_retires (kv : Bool) (rd : Nat) (hl : s.listRun l f x op (if kv then 8 else 4) rs1 rs2 u r) :
    s.xfList l f x op kv rd rs1 rs2 = .ok u (((x.withTickets u f).setX rd r).adv 4) := by
  obtain ⟨ha, v, v1, ws, b1, hload, hloop, hstore⟩ := hl
  unfold State.xfList
  dsimp only
  rw [if_neg (fun hn => hn ha), hload]
  dsimp only
  rw [hloop]
  dsimp only
  rw [hstore]

/-- The command of a list instruction. -/
theorem State.fngCommand_list (h : s.fngAt f x l) (kv : Bool) (rd : Nat)
    (hl : s.listRun l f x op (if kv then 8 else 4) rs1 rs2 u r) :
    ∃ t, s.fngCommand f (fun l x => s.xfList l f x op kv rd rs1 rs2) = .next t ∧
      t.fngIs f (((x.withTickets u f).setX rd r).adv 4) u :=
  State.fngCommand_leaves h (State.xfList_retires kv rd hl) (by simp)

end

/-! ## Hash tables (R154) -/

section
variable {s u : State} {f : Nat} {x : Finger} {l : Launch} {rs1 rs2 a : Nat} (rd : Nat)

theorem State.xfHprobeOp_found (hp : s.xfProbe l f (x.getX rs1) (x.getX rs2) = .found u a) :
    s.xfHprobeOp l f x rd rs1 rs2 = .ok u ((x.setX rd ((a + 4) % 2 ^ 32)).adv 4) := by
  unfold State.xfHprobeOp
  rw [hp]

theorem State.xfHprobeOp_missing (hp : s.xfProbe l f (x.getX rs1) (x.getX rs2) = .missing u) :
    s.xfHprobeOp l f x rd rs1 rs2 = .ok u ((x.setX rd 0).adv 4) := by
  unfold State.xfHprobeOp
  rw [hp]

theorem State.xfHprobeOp_empty (hp : s.xfProbe l f (x.getX rs1) (x.getX rs2) = .empty u a) :
    s.xfHprobeOp l f x rd rs1 rs2 = .ok u ((x.setX rd 0).adv 4) := by
  unfold State.xfHprobeOp
  rw [hp]

variable (rs3 : Nat) (hk : x.getX rs2 ≠ 0xFFFFFFFF)
include hk

theorem State.xfHinsertOp_found (hp : s.xfProbe l f (x.getX rs1) (x.getX rs2) = .found u a) :
    s.xfHinsertOp l f x rd rs1 rs2 rs3 = .ok u ((x.setX rd ((a + 5) % 2 ^ 32)).adv 4) := by
  unfold State.xfHinsertOp
  rw [if_neg hk, hp]

theorem State.xfHinsertOp_missing (hp : s.xfProbe l f (x.getX rs1) (x.getX rs2) = .missing u) :
    s.xfHinsertOp l f x rd rs1 rs2 rs3 = .ok u ((x.setX rd 0).adv 4) := by
  unfold State.xfHinsertOp
  rw [if_neg hk, hp]

/-- R154: an empty slot is claimed with the key and rs3. -/
theorem State.xfHinsertOp_claims {v : State} {w : Nat} (hp : s.xfProbe l f (x.getX rs1) (x.getX rs2) = .empty u a)
    (hs : u.fstore l f a 8 8 (x.getX rs2 + x.getX rs3 * 2 ^ 32) = .val v w) :
    s.xfHinsertOp l f x rd rs1 rs2 rs3 = .ok v (((x.withTickets v f).setX rd ((a + 4) % 2 ^ 32)).adv 4) := by
  unfold State.xfHinsertOp
  rw [if_neg hk, hp]
  dsimp only
  rw [hs]

end

/-- Settles O18: the eight list instructions are one operation, and the two hash instructions act on what the probe finds. -/
theorem fingerListAndHashInstructions : Obligations.FingerListAndHashInstructions := by
  refine ⟨fun s u f x l rd rs1 rs2 r h => ⟨State.fngCommand_list h false rd, State.fngCommand_list h false rd,
    State.fngCommand_list h false rd, State.fngCommand_list h false rd, State.fngCommand_list h true rd,
    State.fngCommand_list h true rd, State.fngCommand_list h true rd, State.fngCommand_list h true rd⟩,
    fun s u f x l rd rs1 rs2 rs3 a h => ⟨fun hp => ⟨?_, fun hk => ?_⟩, fun hp => ⟨?_, fun hk => ?_⟩,
      fun hp => ⟨?_, fun v w hs hk => ?_⟩⟩⟩
  · exact State.fngCommand_leaves h (State.xfHprobeOp_found rd hp) (by simp)
  · exact State.fngCommand_leaves h (State.xfHinsertOp_found rd rs3 hk hp) (by simp)
  · exact State.fngCommand_leaves h (State.xfHprobeOp_missing rd hp) (by simp)
  · exact State.fngCommand_leaves h (State.xfHinsertOp_missing rd rs3 hk hp) (by simp)
  · exact State.fngCommand_leaves h (State.xfHprobeOp_empty rd hp) (by simp)
  · exact State.fngCommand_leaves h (State.xfHinsertOp_claims rd rs3 hk hp hs) (by simp)

end Sys2Proof.Machine
end

section
/-! PROOFS. A sum reduction whose mask and operands read one register with two element widths (R140): it traps, whatever its other
operands are, and the fault counts (R161). -/

namespace Sys2Proof.Machine

/-- R161: a trap adds one to the fault counter of the Finger's Palm, last of all. -/
theorem State.fngTrap_counts (s : State) (f : Nat) (x : Finger) (l : Launch) (c : Nat) (v : Option Nat) :
    (s.fngTrap f x l c v).reg (Reg.FNG_CNT_FAULT (f / 1024)) = s.reg (Reg.FNG_CNT_FAULT (f / 1024)) + 1 :=
  State.reg_setReg_same _ _ _

/-- The command of an instruction that traps, other than by a breakpoint. -/
theorem State.fngCommand_trap_counts {s u t : State} {f : Nat} {x : Finger} {l : Launch} (h : s.fngAt f x l)
    {op : Launch → Finger → FngRes} {c : Nat} {v : Option Nat} (ho : op l x = .trap u c v) (hc : c ≠ 3)
    (ht : s.fngCommand f op = .next t) : t.reg (Reg.FNG_CNT_FAULT (f / 1024)) = u.reg (Reg.FNG_CNT_FAULT (f / 1024)) + 1 := by
  rw [State.fngCommand_runs h, State.fngRun_trap h ho, if_neg (fun k => hc k.1)] at ht
  cases ht
  exact u.fngTrap_counts f x l c v

/-- A reduction that would read a register with two element widths is an illegal instruction. -/
theorem State.vfRedSum_illegal (s : State) (x : Finger) (vd vs2 vs1 : Nat) (vm wide : Bool) (w : Nat)
    (h : sourcesAgree (maskSource vm ++ [⟨vs2, x.sew, x.lm8⟩, ⟨vs1, if wide then 2 * x.sew else x.sew, 8⟩]) = false) :
    s.vfRedSum x vd vs2 vs1 vm wide w = .trap s 2 (some w) := by
  unfold State.vfRedSum
  dsimp only
  split
  · exact if_pos (.inr (.inr (.inr (by rw [h]; rfl))))
  · rfl

/-- VFREDUSUM on such operands adds one to a register. -/
theorem exec_vfredusum_illegal {s t : State} {f : Fin 4096} {x : Finger} {l : Launch} (h : s.fngAt f x l) {vd vs2 vs1 : Fin 32}
    {vm : Bool} (hb : sourcesAgree (maskSource vm ++ [⟨vs2, x.sew, x.lm8⟩, ⟨vs1, x.sew, 8⟩]) = false)
    (ht : exec (.vfredusum f vd vs2 vs1 vm) s = .next t) :
    t.reg (Reg.FNG_CNT_FAULT (f / 1024)) = s.reg (Reg.FNG_CNT_FAULT (f / 1024)) + 1 :=
  State.fngCommand_trap_counts h (s.vfRedSum_illegal x vd vs2 vs1 vm false _ hb) (by decide) ht

/-- Finger 0 with vl = 4 and a vtype of 32-bit elements. -/
def vectorFinger : Finger := { Finger.idle with run := 1, csr := [(0xC20, 4), (0xC21, 16)] }

/-- A launch on Mitten 0 that has started. -/
def vectorLaunch : Launch := { newLaunch 0 [] [0] with started := true }

/-- The machine after reset with that Finger in that launch. -/
def vectorState : State := { State.reset with launches := [(0, some vectorLaunch)], fingers := [(0, some vectorFinger)] }

theorem fngAt_vectorState : vectorState.fngAt 0 vectorFinger vectorLaunch := show _ ∧ _ ∧ _ by decide +kernel

/-- Refutes O17: `vfredusum.vs v1, v8, v0, v0.t` reads v0 as its mask and as its start value, which the premises allow; it traps, and
so FNG_CNT_FAULT changes, where the statement has every register unchanged. Its premises name LMUL, SEW, the rounding mode, vill
and vstart, but not that the sources agree. -/
theorem not_fingerAtomicsOnAWord : ¬ Obligations.FingerAtomicsOnAWord := by
  intro h
  obtain ⟨t, u, y, ht, -, -, hregs, -⟩ := h.2 vectorState 0 vectorFinger vectorLaunch 1 8 0 false fp32 0 fngAt_vectorState
    rfl (by decide +kernel) (by decide +kernel) (by decide +kernel) (by decide +kernel)
  have hc := exec_vfredusum_illegal fngAt_vectorState (by decide +kernel) ht
  unfold State.reg at hc
  rw [hregs] at hc
  revert hc
  decide +kernel

end Sys2Proof.Machine
end

section
/-! PROOFS. A debug host resumes a launch in a machine that lists one Finger twice (R161, R228). DEBUG_RESUME goes through the entries of
the table of Fingers, and each Finger that it lets go on is the one that the table holds under the entry's number: the first one. -/

namespace Sys2Proof.Machine

/-- While the engines run, DEBUG_RESUME leaves the launches as its effect does. -/
theorem launches_exec_debugResume {s t : State} {f : Fin 4096} {b : Bool} (h : s.running = true)
    (ht : exec (.debugResume f b) s = .next t) : t.launches = (s.debugResume f b).launches := by
  have e := (done_work (f := fun u => u.debugResume f b) h).symm.trans ht
  cases e
  rfl

/-- A launch of context 0 that has started. -/
def resumedLaunch (halted : Bool) : Launch := { newLaunch 0 [] [] with started := true, halted := halted }

/-- A Finger of the launch of request `r` that runs. -/
def runningFinger (r : Nat) (w : FngWait) : Finger := { Finger.idle with launch := r, run := 1, wait := w }

/-- A FINGERS request of context 0 that runs. -/
def runningLaunchRequest : Request := (State.reset.requestOf 0 0 (5 :: List.replicate 63 0) false).started_ 0

/-- Launch 5 is halted and launch 6 runs, both of context 0. Finger 1 is listed twice: as one of launch 6 that is stalled in XF.XFER
on a block at address 0, where no Finger sees a byte, and as one of launch 5. -/
def twiceListed : State :=
  { State.reset with
    que := { Que.reset with reqs := [(5, some runningLaunchRequest), (6, some runningLaunchRequest)] },
    launches := [(5, some (resumedLaunch true)), (6, some (resumedLaunch false))],
    fingers := [(0, some (runningFinger 5 .none)), (1, some (runningFinger 6 (.xfer 1 0))), (1, some (runningFinger 5 .none))] }

/-- The premise of the clause: no Finger that is listed for launch 5 is stalled in XF.XFER. -/
theorem liveFingers_twiceListed : ∀ e ∈ twiceListed.liveFingers 5 (fun _ => true), e.2.wait = .none := by decide +kernel

/-- The resumed Finger 1 is that of launch 6: its XF.XFER traps, and the fault tears down context 0 with launch 5 in it. -/
theorem launches_debugResume_twiceListed : (twiceListed.debugResume 0 true).launches.find 5 = none := by decide +kernel

/-- Refutes O19, in its clause about a debug host that resumes: in a machine that lists Finger 1 twice, launch 5 is gone after the
resume instead of going on. No premise says that the table of Fingers lists each Finger once. -/
theorem not_launchesStartRunTransferAndStop : ¬ Obligations.LaunchesStartRunTransferAndStop := by
  intro h
  obtain ⟨-, -, -, -, -, -, -, -, hresume⟩ := h
  have hrun : twiceListed.running = true := by decide +kernel
  obtain ⟨hgo, -⟩ := hresume twiceListed 0 (runningFinger 5 .none) (resumedLaunch true) hrun rfl rfl rfl
  obtain ⟨t, ht, hl, -⟩ := hgo rfl (fun e he rd a hw => nomatch (liveFingers_twiceListed e he).symm.trans hw)
  have hl5 : t.launches.find 5 = some { resumedLaunch true with halted := false } := hl
  rw [launches_exec_debugResume hrun ht] at hl5
  exact nomatch launches_debugResume_twiceListed.symm.trans hl5

end Sys2Proof.Machine
end

section
/-! PROOFS. Bytes stored in the unified range (R165, R175): they read back, and nothing else of the machine changes. -/

namespace Sys2Proof.Machine

/-! ## Runs of bytes -/

/-- Two memories that agree on a run of bytes read it alike. -/
theorem Memory.read_congr {m m' : Memory} {a n : Nat} (h : ∀ i, i < n → Memory.byte m (a + i) = Memory.byte m' (a + i)) :
    Memory.read m a n = Memory.read m' a n :=
  List.map_congr_left (fun i hi => h i (List.mem_range.1 hi))

/-- A run that has been written reads back. -/
theorem Memory.read_write_same (m : Memory) (a : Nat) (bs : Bytes) : Memory.read (Memory.write m a bs) a bs.length = bs := by
  refine List.ext_getElem (tab_length _ _) (fun i _ hi => ?_)
  have e : (Memory.read (Memory.write m a bs) a bs.length)[i] = Memory.byte (Memory.write m a bs) (a + i) := by
    simp [Memory.read, tab]
  exact e.trans (Memory.byte_write_inside m a i bs hi)

/-- A run that ends before the one written, or starts after it, reads as before. -/
theorem Memory.read_write_outside (m : Memory) {a j n : Nat} {bs : Bytes} (h : j + n ≤ a ∨ a + bs.length ≤ j) :
    Memory.read (Memory.write m a bs) j n = Memory.read m j n :=
  Memory.read_congr (fun i _ => Memory.byte_write_outside m a (j + i) bs (by omega))

/-- Settles O9: each clause is a law of the memory that the store writes. -/
theorem storedBytesReadBack : Obligations.StoredBytesReadBack := fun s a bs =>
  ⟨Memory.read_write_same s.umem a bs, fun _ _ h => Memory.read_write_outside s.umem h, rfl, Memory.wf_write a bs⟩

end Sys2Proof.Machine
end

section
/-! PROOFS. How the seven UMR commands run and end (R169, R172 to R174): each ends at once or is entered among the commands in
progress, and what it does to pages, frames and blocks touches no command in progress. -/

namespace Sys2Proof.Machine

/-! ## Pages -/

section
variable (s : State)

@[simp] theorem State.page_setPage_same (n : Nat) (p : Page) : (s.setPage n p).page n = some p := OMap.find_put_same _ _ _

theorem State.page_setPage_other {n m : Nat} (p : Page) (h : m ≠ n) : (s.setPage n p).page m = s.page m :=
  OMap.find_put_other _ _ h

@[simp] theorem State.page_untranslate (n m : Nat) : (s.untranslate n).page m = s.page m := (rfl)

@[simp] theorem State.page_setUmrJob (r : Nat) (j : Option UmrJob) (n : Nat) : (s.setUmrJob r j).page n = s.page n := by
  unfold State.setUmrJob
  dsimp only
  unfold State.page
  rw [State.setFld_umr]

end

/-! ## Commands in progress -/

section
variable (s : State) (r : Nat)

theorem State.req_endOr_same (st d : Nat) (res : Bool) : (s.endOr r st d res).req r = none := by
  unfold State.endOr
  split
  · assumption
  · split
    · exact State.req_endReq_same _ _ _ _ _
    · exact State.req_endReq_same _ _ _ _ _

/-- R173: a UMR command that ends is no longer in flight. -/
theorem State.req_endUmr (st : Nat) : (s.endUmr r st).req r = none := State.req_endOr_same _ _ _ _ _

@[simp] theorem State.umrJob_setUmrJob (j : UmrJob) : (s.setUmrJob r (some j)).umrJob r = some j := OMap.find_put_same _ _ _

end

/-- A command whose blocks `w` are still to be done is in progress as `j`; it is over where there are none. -/
def State.endsOrWaits {α : Type} [DecidableEq α] (t : State) (r : Nat) (w : List α) (j : UmrJob) : Prop :=
  if w = [] then t.req r = none else t.umrJob r = some j

theorem State.endsOrWaits_ite {α : Type} [DecidableEq α] (t u : State) (r : Nat) (w : List α) (j : UmrJob) :
    (if w = [] then t.endUmr r 0 else u.setUmrJob r (some j)).endsOrWaits r w j := by
  unfold State.endsOrWaits
  split
  · exact State.req_endUmr _ _ _
  · exact State.umrJob_setUmrJob _ _ _

/-! ## A command that passes its checks -/

section
variable {s : State} {r op : Nat} {q : Request} {d : Bytes} (h : s.umrAt r op q d)
include h

theorem State.umrAt_running : s.running = true := h.1

/-- R172, R173: a sound command of its operation runs on the machine that its checks found. -/
theorem State.umrCommand_runs (f : State → Request → Bytes → State) : s.umrCommand r op f = f s q d := by
  obtain ⟨-, hq, rfl, hk, ho, hm⟩ := h
  unfold State.umrCommand
  rw [hq]
  dsimp only
  rw [if_neg (not_not_intro hk), if_neg (fun c => c.1 ho), if_neg (not_not_intro hm)]

/-- A UMR command that passes its checks answers with its effect. -/
theorem done_umrCommand (f : State → Request → Bytes → State) :
    done s (s.work (fun u => u.umrCommand r op f)) = .next { f s q d with pending := s.pending, time := s.time } := by
  rw [done_work (State.umrAt_running h), State.umrCommand_runs h]

end

/-! ## MAP, PREFETCH, EVICT, FLUSH and QUERY -/

/-- R172: MAP ends when every page has its frame. -/
theorem State.mapProgress_ends (s : State) (r : Nat) (j : UmrJob) :
    (s.mapProgress r j).endsOrWaits r (s.mapPages j j.pages).2 { j with pages := (s.mapPages j j.pages).2 } :=
  State.endsOrWaits_ite _ _ _ _ _

/-- R172: PREFETCH ends with the last of its fetches. -/
theorem State.startPrefetch_ends (s : State) (r : Nat) (q : Request) (d : Bytes) :
    (s.startPrefetch r q d).endsOrWaits r (s.prefetchRange r q d).2
      ⟨4, pagesOf (fieldLE d 8 8) (fieldLE d 0x10 8), (s.prefetchRange r q d).2, 0, 0, 0⟩ :=
  State.endsOrWaits_ite _ _ _ _ _

section
variable {s : State} {d : Bytes} (h : s.flashRefuses (blocksOf (fieldLE d 8 8) (fieldLE d 0x10 8)) = false)
include h

/-- R172: EVICT ends with the last write-back. -/
theorem State.startEvict_ends (r : Nat) :
    (s.startEvict r d).endsOrWaits r (s.dirtyOf (blocksOf (fieldLE d 8 8) (fieldLE d 0x10 8)))
      ⟨5, [], s.dirtyOf (blocksOf (fieldLE d 8 8) (fieldLE d 0x10 8)), 0, 0, 0⟩ := by
  unfold State.startEvict
  dsimp only
  rw [h, if_neg Bool.false_ne_true]
  exact State.endsOrWaits_ite _ _ _ _ _

/-- R172: so does FLUSH. -/
theorem State.startFlush_ends (r : Nat) :
    (s.startFlush r d).endsOrWaits r (s.dirtyOf (blocksOf (fieldLE d 8 8) (fieldLE d 0x10 8)))
      ⟨6, [], s.dirtyOf (blocksOf (fieldLE d 8 8) (fieldLE d 0x10 8)), 0, 0, 0⟩ := by
  unfold State.startFlush
  dsimp only
  rw [h, if_neg Bool.false_ne_true]
  exact State.endsOrWaits_ite _ _ _ _ _

end

/-- R174: QUERY ends once its record write may start and waits for nothing. -/
theorem State.req_startQuery {s : State} {r : Nat} {q : Request} {d : Bytes}
    (hm : s.mayAccess q.ctx 5 (fieldLE d 0x18 8) (s.queryRecords d).length true = true)
    (hp : (s.accessPrep q.ctx 5 (fieldLE d 0x18 8) (s.queryRecords d).length (some r)).2 = ⟨0, [], false⟩) :
    (s.startQuery r q d).req r = none := by
  unfold State.startQuery
  dsimp only
  rw [hm, hp]
  exact State.req_endUmr _ _ _

/-! ## UNMAP -/

/-- A page that takes no new accesses. -/
def Page.closed (p : Page) : Page := { p with st := 3 }

theorem State.page_closePage (s : State) (n m : Nat) :
    (s.closePage n).page m = if m = n then (s.page m).map Page.closed else s.page m := by
  by_cases hm : m = n
  · subst hm
    rw [if_pos rfl]
    unfold State.closePage
    cases hp : s.page m with
    | none => exact hp
    | some p => exact (State.page_untranslate _ m m).trans (State.page_setPage_same s m p.closed)
  · rw [if_neg hm]
    unfold State.closePage
    cases s.page n with
    | none => rfl
    | some p => exact (State.page_untranslate _ n m).trans (State.page_setPage_other s p.closed hm)

/-- R172: of the pages of a list, those that are mapped are closed, and no other page changes. -/
theorem State.page_closePages (s : State) (ns : List Nat) (m : Nat) :
    (each ns State.closePage s).page m = if m ∈ ns then (s.page m).map Page.closed else s.page m := by
  induction ns generalizing s with
  | nil => rfl
  | cons n ns ih =>
    refine (ih (s.closePage n)).trans ?_
    rw [State.page_closePage]
    by_cases hm : m = n
    · cases s.page m <;> simp [hm, Page.closed]
    · simp [hm]

/-- R172: UNMAP closes the pages of its range that are mapped. -/
theorem State.page_startUnmap (s : State) (r : Nat) (d : Bytes) {n : Nat} {p : Page}
    (hn : n ∈ pagesOf (fieldLE d 8 8) (fieldLE d 0x10 8)) (hp : s.page n = some p) :
    (s.startUnmap r d).page n = some { p with st := 3 } := by
  unfold State.startUnmap
  dsimp only
  rw [State.page_setUmrJob, State.page_closePages, if_pos hn, hp]
  rfl

theorem State.umrJob_startUnmap (s : State) (r : Nat) (d : Bytes) :
    (s.startUnmap r d).umrJob r = some ⟨2, pagesOf (fieldLE d 8 8) (fieldLE d 0x10 8), [], 0, 0, 0⟩ := State.umrJob_setUmrJob _ _ _

/-- R172: an UNMAP ends when no transfer of its pages is in progress. -/
theorem State.req_unmapFreed {s : State} {r : Nat} {j : UmrJob} (hj : s.umrJob r = some j) (ho : j.op = 2)
    (hb : ∀ n ∈ j.pages, ∀ p, s.page n = some p →
      p.holds = 0 ∧ p.inflight = 0 ∧ s.umr.wbs.any (fun w => w.page == n) = false) : (s.unmapFreed r).req r = none := by
  unfold State.unmapFreed
  rw [hj]
  dsimp only
  rw [if_neg ?idle]
  case idle =>
    rintro (hne | hbusy)
    · exact hne ho
    · obtain ⟨n, hn, hc⟩ := List.any_eq_true.1 hbusy
      cases hp : s.page n with
      | none => simp [hp] at hc
      | some p =>
        obtain ⟨hh, hi, hw⟩ := hb n hn p hp
        simp [hp, hh, hi, hw] at hc
  exact State.req_endUmr _ _ _

/-! ## What keeps the commands in progress -/

/-- The UMR commands in progress. -/
def State.jobs (s : State) : OMap UmrJob := s.umr.jobs

theorem State.umrJob_of_jobs {s t : State} (h : t.jobs = s.jobs) (r : Nat) : t.umrJob r = s.umrJob r :=
  congrArg (fun js : OMap UmrJob => js.find r) h

theorem State.jobs_ite {c : Prop} [Decidable c] {b : OMap UmrJob} {t u : State} (ht : t.jobs = b) (hu : u.jobs = b) :
    (if c then t else u).jobs = b := by
  split
  · exact ht
  · exact hu

section
variable (s : State)

theorem State.jobs_each {α : Type} (xs : List α) (f : State → α → State) (hf : ∀ t x, (f t x).jobs = t.jobs) :
    (each xs f s).jobs = s.jobs :=
  each_inv (fun t => t.jobs = s.jobs) xs f s rfl (fun t x _ ht => (hf t x).trans ht)

@[simp] theorem State.jobs_setFld (a lo w v : Nat) : (s.setFld a lo w v).jobs = s.jobs := (rfl)
@[simp] theorem State.jobs_setDictN (i sub v : Nat) : (s.setDictN i sub v).jobs = s.jobs := (rfl)
@[simp] theorem State.jobs_setPage (n : Nat) (p : Page) : (s.setPage n p).jobs = s.jobs := (rfl)
@[simp] theorem State.jobs_untranslate (n : Nat) : (s.untranslate n).jobs = s.jobs := (rfl)
@[simp] theorem State.jobs_repool (n code : Nat) : (s.repool n code).jobs = s.jobs := (rfl)
@[simp] theorem State.jobs_commitHome (n b : Nat) : (s.commitHome n b).jobs = s.jobs := by
  unfold State.commitHome State.wear
  dsimp only
  rw [State.jobs_setDictN, State.jobs_setFld]
  rfl

@[simp] theorem State.jobs_nextMove (flash : Bool) : (s.nextMove flash).jobs = s.jobs := by
  unfold State.nextMove
  refine State.jobs_ite rfl ?_
  dsimp only
  split
  · rfl
  · rfl
  · rfl
  · exact State.jobs_ite rfl rfl

@[simp] theorem State.jobs_startMoves : s.startMoves.jobs = s.jobs := s.jobs_each _ _ (fun t _ => by simp)

@[simp] theorem State.jobs_startWb (n b : Nat) (k : WbKind) (r : Option Nat) : (s.startWb n b k r).jobs = s.jobs :=
  State.jobs_ite rfl (State.jobs_startMoves _)

@[simp] theorem State.jobs_setFree (code v : Nat) : (s.setFree code v).jobs = s.jobs := by
  unfold State.setFree
  repeat' refine State.jobs_ite ?_ ?_
  all_goals exact State.jobs_setFld _ _ _ _ _

@[simp] theorem State.jobs_takeFrame (code : Nat) : (s.takeFrame code).jobs = s.jobs := s.jobs_setFree _ _

@[simp] theorem State.jobs_giveFrame (code : Nat) : (s.giveFrame code).jobs = s.jobs :=
  State.jobs_ite rfl (State.jobs_ite (s.jobs_setFree _ _) rfl)

@[simp] theorem State.jobs_freeOne (code : Nat) (rt : Bool) : (s.freeOne code rt).1.jobs = s.jobs := by
  unfold State.freeOne
  split
  · exact s.jobs_takeFrame code
  · split
    · rfl
    · split
      · rfl
      · exact s.jobs_each _ _ (fun t b => t.jobs_startWb _ _ _ _)

@[simp] theorem State.jobs_homeFrame (hint stack : Nat) : (s.homeFrame hint stack).1.jobs = s.jobs := by
  unfold State.homeFrame
  dsimp only
  split
  · exact s.jobs_takeFrame _
  · split
    · rfl
    · split
      · rfl
      · next c _ =>
        have h := s.jobs_freeOne c false
        split <;> next e => rw [e] at h; exact h

/-- R172: a page that is re-homed starts write-backs or takes its new frame. -/
@[simp] theorem State.jobs_rehomePage (r : Nat) (j : UmrJob) (n : Nat) : (s.rehomePage r j n).jobs = s.jobs := by
  unfold State.rehomePage
  split
  · rfl
  · next p _ =>
    refine State.jobs_ite rfl (State.jobs_ite (s.jobs_each _ _ (fun t b => t.jobs_startWb _ _ _ _)) ?_)
    have h := ((s.setPage n { p with upper := 0, resident := 0, moveTo := 0 }).giveFrame p.upper).jobs_homeFrame j.hint p.stack
    rw [State.jobs_giveFrame, State.jobs_setPage] at h
    dsimp only
    split <;> next e => rw [e] at h; exact h

@[simp] theorem State.jobs_seatPage (n code : Nat) (p : Page) : (s.seatPage n code p).jobs = s.jobs := State.jobs_giveFrame _ _

end

/-! ## REHOME -/

/-- No command in progress waits for a block. -/
def State.awaitsNoBlock (s : State) : Prop := ∀ e ∈ s.jobs.entries, e.2.wait = []

section
variable {s : State}

theorem State.awaitsNoBlock_of_jobs {t : State} (h : s.awaitsNoBlock) (e : t.jobs = s.jobs) : t.awaitsNoBlock := by
  unfold State.awaitsNoBlock
  rw [e]
  exact h

/-- One that enters without blocks adds none. -/
theorem State.awaitsNoBlock_setUmrJob {r : Nat} {j : UmrJob} (h : s.awaitsNoBlock) (hj : j.wait = []) :
    (s.setUmrJob r (some j)).awaitsNoBlock := by
  intro e he
  obtain ⟨x, hx, hv⟩ := List.mem_filterMap.1 he
  obtain ⟨w, hw, rfl⟩ := Option.map_eq_some_iff.1 hv
  rcases SMap.mem_ins hx with rfl | hm
  · cases hw
    exact hj
  · exact h _ (List.mem_filterMap.2 ⟨x, (SMap.mem_del hm).1, hv⟩)

/-- A block that no command waits for ends none. -/
theorem State.jobBlock_unawaited (h : s.awaitsNoBlock) (n b : Nat) : s.jobBlock n b = s := by
  refine each_inv (fun t => t = s) _ _ s rfl (fun t e _ ht => ?_)
  subst ht
  cases hj : t.umrJob e.1 with
  | none => rfl
  | some j =>
    have hw : j.wait = [] := h _ (OMap.mem_entries_of_find hj)
    dsimp only
    rw [hw]
    rfl

theorem State.jobs_cancelFetch (h : s.awaitsNoBlock) (n : Nat) : (s.cancelFetch n).jobs = s.jobs := by
  unfold State.cancelFetch
  split
  · rfl
  · refine each_inv (fun t : State => t.jobs = s.jobs) _ _ _ rfl (fun t b _ ht => ?_)
    rw [State.jobBlock_unawaited (State.awaitsNoBlock_of_jobs h ht)]
    exact ht

theorem State.jobs_bypassed {t : State} (h : s.awaitsNoBlock) (e : t.jobs = s.jobs) (n : Nat) :
    ((t.bump Reg.UMR_CNT_BYPASS).cancelFetch n).jobs = s.jobs :=
  have hb : (t.bump Reg.UMR_CNT_BYPASS).jobs = s.jobs := e
  (State.jobs_cancelFetch (State.awaitsNoBlock_of_jobs h hb) n).trans hb

/-- R170: a page that finds no frame gives its fetches up, which ends no command where none waits for a block. -/
theorem State.jobs_seekFrame (h : s.awaitsNoBlock) (n code : Nat) (p : Page) : (s.seekFrame n code p).jobs = s.jobs := by
  unfold State.seekFrame
  refine State.jobs_ite rfl ?_
  have h1 := s.jobs_freeOne code false
  split
  · next s1 e => rw [e] at h1; exact (s1.jobs_seatPage n code p).trans h1
  · next s1 e => rw [e] at h1; exact h1
  · next s1 e =>
    rw [e] at h1
    refine State.jobs_ite h1 (State.jobs_ite ?_ (State.jobs_bypassed h h1 n))
    have h2 := ((s1.repool n 3).jobs_freeOne 3 false).trans ((s1.jobs_repool n 3).trans h1)
    split
    · next s2 e2 => rw [e2] at h2; exact (s2.jobs_seatPage n 3 p).trans h2
    · next s2 e2 => rw [e2] at h2; exact h2
    · next s2 e2 => rw [e2] at h2; exact State.jobs_bypassed h h2 n

theorem State.jobs_serveWaiting (h : s.awaitsNoBlock) : s.serveWaiting.jobs = s.jobs := by
  refine (State.jobs_startMoves _).trans (each_inv (fun t : State => t.jobs = s.jobs) _ _ s rfl (fun t f _ ht => ?_))
  split
  · exact ht
  · exact State.jobs_ite ht ((State.jobs_seekFrame (State.awaitsNoBlock_of_jobs h ht) _ _ _).trans ht)

/-- R172: a REHOME that flash does not refuse is in progress; its pages move, and the fetches that wait go on. -/
theorem State.umrJob_startRehome {r : Nat} {d : Bytes} (h : s.awaitsNoBlock)
    (hf : s.flashRefuses ((pagesOf (fieldLE d 8 8) (fieldLE d 0x10 8)).flatMap (fun n => (List.range 32).map (fun b => (n, b)))) = false) :
    (s.startRehome r d).umrJob r = some ⟨3, pagesOf (fieldLE d 8 8) (fieldLE d 0x10 8), [], fieldLE d 2 1, 0, 0⟩ := by
  unfold State.startRehome
  extract_lets pgs j s1
  rw [if_neg (by simp [pgs, hf])]
  have h1 : s1.jobs = s.jobs := s.jobs_each _ _ (fun t n => by split <;> simp)
  have h2 : (each pgs (fun t n => t.rehomePage r j n) (s1.setUmrJob r (some j))).jobs = (s1.setUmrJob r (some j)).jobs :=
    State.jobs_each _ _ _ (fun t n => t.jobs_rehomePage r j n)
  have hw : (s1.setUmrJob r (some j)).awaitsNoBlock := State.awaitsNoBlock_setUmrJob (State.awaitsNoBlock_of_jobs h h1) rfl
  have h3 := (State.jobs_serveWaiting (State.awaitsNoBlock_of_jobs hw h2)).trans h2
  exact (State.umrJob_of_jobs h3 r).trans (State.umrJob_setUmrJob s1 r j)

end

/-- R172: the copy of a block touches no command. -/
theorem State.jobs_copyBlock (s : State) (n : Nat) (p : Page) : (s.copyBlock n p).jobs = s.jobs := by
  have h : (if p.dest = 4 ∧ ¬ p.zero.testBit p.copied then s.commitHome n p.copied else s).jobs = s.jobs :=
    State.jobs_ite (s.jobs_commitHome n p.copied) rfl
  exact h

theorem State.page_copyBlock (s : State) (n : Nat) (p : Page) : (s.copyBlock n p).page n = some { p with copied := p.copied + 1 } :=
  State.page_setPage_same _ _ _

/-- A REHOME copies a page of its own that has its new frame. -/
theorem UmrJob.copies {j : UmrJob} {n : Nat} {p : Page} (ho : j.op = 3) (hn : j.pages.contains n = true) (hd : p.dest ≠ 0) :
    ¬ (j.op ≠ 3 ∨ (!j.pages.contains n) = true ∨ p.dest = 0) := by
  rw [hn]
  simp [ho, hd]

section
variable {s : State} {r n : Nat} {j : UmrJob} {p : Page} (hj : s.umrJob r = some j) (ho : j.op = 3) (hn : j.pages.contains n = true)
  (hp : s.page n = some p) (hd : p.dest ≠ 0)
include hj ho hn hp hd

/-- R172: a block of a page that has its new frame is copied; the command goes on where it is not the page's last. -/
theorem State.rehomeDone_block (hc : p.copied < 31) : s.rehomeDone r n = s.copyBlock n p := by
  unfold State.rehomeDone
  rw [hj, hp]
  dsimp only
  rw [if_neg (UmrJob.copies ho hn hd), if_pos (by omega)]

/-- R172: the last block of the last page ends the command. -/
theorem State.req_rehomeDone_last (hc : p.copied = 31) (hl : j.pages = [n]) : (s.rehomeDone r n).req r = none := by
  have hrest : j.pages.filter (fun m => !(m == n)) = [] := by simp [hl]
  unfold State.rehomeDone
  rw [hj, hp]
  dsimp only
  rw [if_neg (UmrJob.copies ho hn hd), if_neg (by omega), if_pos hrest]
  exact State.req_endUmr _ _ _

end

/-- Settles O20: a command that passes its checks answers with its own step. A REHOME stays in progress where no other command waits for
a block, since a fetch that is given up for want of a frame then ends none. -/
theorem umrCommandsRunAndEnd : Obligations.UmrCommandsRunAndEnd := by
  refine ⟨fun s r q d h => ?_, fun s r q d h => ?_, fun s r q d h hf hw => ?_, fun s r q d h => ?_, fun s r q d h hf => ?_,
    fun s r q d h hf => ?_, fun s r q d h hm hp => ?_, fun s r j hr hj ho hb _ => ?_,
    fun s r n j p hr hj ho hn hp hd => ⟨fun hc => ?_, fun hc hl => ?_⟩⟩
  · exact ⟨_, done_umrCommand h _, State.mapProgress_ends s r _⟩
  · exact ⟨_, done_umrCommand h _, State.umrJob_startUnmap s r d, fun n hn p hp => s.page_startUnmap r d hn hp⟩
  · exact ⟨_, done_umrCommand h _, State.umrJob_startRehome hw hf⟩
  · exact ⟨_, done_umrCommand h _, State.startPrefetch_ends s r q d⟩
  · exact ⟨_, done_umrCommand h _, State.startEvict_ends hf r⟩
  · exact ⟨_, done_umrCommand h _, State.startFlush_ends hf r⟩
  · exact ⟨_, done_umrCommand h _, State.req_startQuery hm hp⟩
  · exact ⟨_, done_work hr, State.req_unmapFreed hj ho hb⟩
  · refine ⟨_, done_work hr, ?_⟩
    rw [State.rehomeDone_block hj ho hn hp hd hc]
    exact ⟨(State.umrJob_of_jobs (s.jobs_copyBlock n p) r).trans hj, s.page_copyBlock n p⟩
  · exact ⟨_, done_work hr, State.req_rehomeDone_last hj ho hn hp hd hc hl⟩

end Sys2Proof.Machine
end

section
/-! PROOFS. What fetches, timeouts, write-backs, scrubs and flash events count (R170, R178, R179, R182, R183, R185, R190). -/

namespace Sys2Proof.Machine

/-! ## Events that count last -/

section
variable {s : State} {n b : Nat}

/-- R178: a fetch that lands, read clean or corrected, counts by its source. -/
theorem State.fetchDone_counts {f : Fetch} {p : Page} {res : MemRead} (hf : s.runningFetch n b = some (f, p))
    (hr : res ≠ .uncorrectable) :
    (s.fetchDone n b res).reg (if f.src = 2 then Reg.UMR_CNT_FETCH_FLASH else Reg.UMR_CNT_FETCH_LPDDR) =
      s.reg (if f.src = 2 then Reg.UMR_CNT_FETCH_FLASH else Reg.UMR_CNT_FETCH_LPDDR) + 1 := by
  unfold State.fetchDone
  rw [hf]
  cases res with
  | clean => exact State.reg_setReg_same _ _ _
  | corrected => exact State.reg_setReg_same _ _ _
  | uncorrectable => exact absurd rfl hr

/-- R179, R183: a fetch that has run for its limit counts as a timeout. -/
theorem State.fetchTimeout_counts {f : Fetch} {p : Page} (hf : s.runningFetch n b = some (f, p))
    (hl : f.limit ≤ s.since (f.start.getD 0)) :
    (s.fetchTimeout n b).reg Reg.UMR_CNT_TIMEOUT = s.reg Reg.UMR_CNT_TIMEOUT + 1 := by
  unfold State.fetchTimeout
  rw [hf]
  dsimp only
  rw [if_neg (Nat.not_lt.2 hl)]
  exact State.reg_setReg_same _ _ _

/-- R183: so does an access that has waited for longer than its limit. -/
theorem State.accessTimeout_counts {r k : Nat} {w : BlockWait}
    (hw : s.umr.waits.find? (fun w => w.req == r && w.part == k && w.page == n && w.block == b) = some w)
    (hl : w.limit < s.since w.since) :
    (s.accessTimeout r k n b).reg Reg.UMR_CNT_TIMEOUT = s.reg Reg.UMR_CNT_TIMEOUT + 1 := by
  unfold State.accessTimeout
  rw [hw]
  dsimp only
  rw [if_neg (Nat.not_le.2 hl)]
  exact State.reg_setReg_same _ _ _

/-- R170: a write-back in progress that succeeds counts. -/
theorem State.writebackDone_counts {w : Writeback} {p : Page}
    (hw : s.umr.wbs.find? (fun w => w.page == n && w.block == b) = some w) (hp : s.page n = some p) :
    (s.writebackDone n b true).reg Reg.UMR_CNT_WRITEBACK = s.reg Reg.UMR_CNT_WRITEBACK + 1 := by
  unfold State.writebackDone
  rw [hw, hp]
  exact State.reg_setReg_same _ _ _

end

/-! ## The patrol scrub (R185, R186) -/

/-- The counter of corrected reads of a tier. -/
def corrCounter (tier : Nat) : Nat :=
  if tier ≤ 1 then Reg.UMR_CNT_CORR_HBM else if tier = 2 then Reg.UMR_CNT_CORR_LPDDR else Reg.UMR_CNT_CORR_FLASH

/-- R186: a corrected read counts in the counter of its tier and in the lifetime log. -/
theorem State.corrected_eq (s : State) (tier : Nat) :
    ∃ k, s.corrected tier = (s.bump (corrCounter tier)).dictAddSat 0x5121 k 1 64 := by
  unfold State.corrected corrCounter
  split
  · exact ⟨1, rfl⟩
  · split
    · exact ⟨2, rfl⟩
    · exact ⟨3, rfl⟩

theorem State.corrected_counts (s : State) (tier : Nat) :
    (s.corrected tier).reg (corrCounter tier) = s.reg (corrCounter tier) + 1 ∧
      (s.corrected tier).umem = s.umem ∧ (s.corrected tier).umr = s.umr := by
  obtain ⟨k, e⟩ := s.corrected_eq tier
  rw [e]
  exact ⟨s.reg_bump_same _, rfl, rfl⟩

section
variable {s : State} {n b : Nat} {up : Bool} {p : Page} (hp : s.page n = some p)
  (ht : if up then p.resident.testBit b = true else p.home ≠ 2)
include hp ht

/-- R185: the scrub of a copy that is there acts by what the read gives. -/
theorem State.patrolScrub_reads (res : MemRead) : s.patrolScrub n b up res = match res with
    | .clean => s
    | .corrected => s.corrected (if up then p.upperTier else p.homeTier)
    | .uncorrectable => s.uncorrectable n b up := by
  have hc : (if up then p.resident.testBit b else p.home != 2) = true := by
    cases up with
    | false => simpa using ht
    | true => simpa using ht
  unfold State.patrolScrub
  rw [hp]
  dsimp only
  rw [hc]
  cases res with
  | clean => rfl
  | corrected => rfl
  | uncorrectable => rfl

theorem State.patrolScrub_clean : s.patrolScrub n b up .clean = s := State.patrolScrub_reads hp ht .clean

theorem State.patrolScrub_corrected : s.patrolScrub n b up .corrected = s.corrected (if up then p.upperTier else p.homeTier) :=
  State.patrolScrub_reads hp ht .corrected

end

/-! ## Relocation (R190) -/

/-- R190: with no erase block due nothing is relocated. -/
theorem State.flashRelocate_idle {s : State} (e : Bool) (h : s.umr.flash.firstDue s.hours = none) : s.flashRelocate e = s := by
  unfold State.flashRelocate
  rw [h]

/-- R190: the relocation of the first erase block that is due counts. -/
theorem State.flashRelocate_counts {s : State} (e : Bool) {k : Nat} (h : s.umr.flash.firstDue s.hours = some k) :
    (s.flashRelocate e).reg Reg.UMR_CNT_DISTURB_REFRESH = s.reg Reg.UMR_CNT_DISTURB_REFRESH + 1 := by
  unfold State.flashRelocate
  rw [h]
  exact State.reg_setReg_same _ _ _

/-- While the engines run, an engine event without an effect leaves the machine as it was. -/
theorem done_work_same {s : State} {f : State → State} (hr : s.running = true) (hf : f s = s) : done s (s.work f) = .next s := by
  rw [done_work hr, hf]

/-- Settles O21: an event counts on the machine in which its effect has been made; a scrub that reads clean and a relocation with
nothing due have none. -/
theorem unifiedRangeEventsCount : Obligations.UnifiedRangeEventsCount := by
  refine ⟨fun s n b f p res hr hf hc => ?_, fun s n b f p hr hf hl => ?_, fun s r k n b w hr hw hl => ?_,
    fun s n b w p hr hw hp => ?_, fun s n b up p hr hp ht => ⟨?_, ?_⟩, fun s e hr => ⟨fun h => ?_, fun k h => ?_⟩,
    fun s on hr => ?_, fun s => ?_⟩
  · exact ⟨_, done_work hr, State.fetchDone_counts hf hc⟩
  · exact ⟨_, done_work hr, State.fetchTimeout_counts hf hl⟩
  · exact ⟨_, done_work hr, State.accessTimeout_counts hw hl⟩
  · exact ⟨_, done_work hr, State.writebackDone_counts hw hp⟩
  · exact done_work_same hr (State.patrolScrub_clean hp ht)
  · refine ⟨_, done_work hr, ?_⟩
    rw [State.patrolScrub_corrected hp ht]
    exact s.corrected_counts _
  · exact done_work_same hr (State.flashRelocate_idle e h)
  · exact ⟨_, done_work hr, State.flashRelocate_counts e h⟩
  · exact done_work hr
  · exact done_of_kept rfl rfl

end Sys2Proof.Machine
end

section
/-! PROOFS. What a step does with the queue's front, and which doorbell writes are discarded (R195). -/

namespace Sys2Proof.Machine

/-- Settles O1: a step is defined by the front of the queue. -/
theorem stepRunsTheFrontCommand : Obligations.StepRunsTheFrontCommand := fun _ _ _ => rfl

/-! ## A ring's numbers as bit vectors -/

/-- A field of a register is a slice of its word. -/
theorem State.toNat_extractLsb' (s : State) (a lo w : Nat) : ((s.reg a).extractLsb' lo w).toNat = s.fld a lo w :=
  BitVec.extractLsb'_toNat _ _ _

/-- The signed value of a difference modulo `2 ^ w`. -/
theorem signed_sub {w : Nat} (x y : BitVec w) : signed w (x.toNat + 2 ^ w - y.toNat) = (x - y).toInt := by
  have e : x.toNat + 2 ^ w - y.toNat = 2 ^ w - y.toNat + x.toNat := by have := y.isLt; omega
  simp only [signed, e, BitVec.toInt_eq_toNat_cond, BitVec.toNat_sub]

/-- The unsigned value of a difference modulo `2 ^ w`. -/
theorem toNat_sub_mod {w : Nat} (x y : BitVec w) : (x.toNat + 2 ^ w - y.toNat) % 2 ^ w = (x - y).toNat := by
  have e : x.toNat + 2 ^ w - y.toNat = 2 ^ w - y.toNat + x.toNat := by have := y.isLt; omega
  rw [e, BitVec.toNat_sub]

section
variable (s : State) (r : Nat) (v : BitVec 32)

/-- R195: a doorbell write is discarded for a disabled ring, a tail that goes back, or one too far ahead of the head. -/
theorem State.doorbellBad_iff : s.doorbellBad r v.toNat = true ↔
    (s.reg (Reg.QUE_RING_CFG r)).getLsbD 8 = false ∨
    (v - (s.reg (Reg.QUE_RING_PTR r)).extractLsb' 32 32).toInt < 0 ∨
    2 ^ ((s.reg (Reg.QUE_RING_CFG r)).extractLsb' 0 5).toNat < (v - (s.reg (Reg.QUE_RING_PTR r)).extractLsb' 0 32).toNat := by
  have hb : (s.reg (Reg.QUE_RING_CFG r)).getLsbD 8 = s.bit (Reg.QUE_RING_CFG r) 8 := rfl
  rw [← signed_sub, ← toNat_sub_mod, State.toNat_extractLsb', State.toNat_extractLsb', State.toNat_extractLsb', hb]
  unfold State.doorbellBad State.ringTail State.ringHead State.ringLog2
  rw [Bool.or_eq_true, Bool.or_eq_true, Bool.not_eq_true', decide_eq_true_iff, decide_eq_true_iff, or_assoc]

/-- Which rings have descriptors waiting is kept beside the registers, in the scheduler's state. -/
theorem State.ringWaits_que : ∃ q, s.ringWaits r = { s with que := q } := ⟨_, rfl⟩

theorem State.doorbell_keeps (tail : Nat) : (s.doorbell r tail).pending = s.pending ∧ (s.doorbell r tail).time = s.time := by
  unfold State.doorbell
  split
  · exact ⟨State.setReg_pending _ _ _, State.setReg_time _ _ _⟩
  · obtain ⟨q, e⟩ := (s.setFld (Reg.QUE_RING_PTR r) 32 32 tail).ringWaits_que r
    simp only [e, State.setFld_pending, State.setFld_time, and_self]

theorem exec_doorbell (k : Fin 16384) : exec (.doorbell k v) s = .next (s.doorbell k v.toNat) :=
  done_of_kept (s.doorbell_keeps k v.toNat).1 (s.doorbell_keeps k v.toNat).2

end

section
variable {s : State} {r tail : Nat}

theorem State.doorbell_discarded (h : s.doorbellBad r tail = true) :
    s.doorbell r tail = (s.orReg Reg.QUE_REJECT 64).setReg Reg.QUE_CNT_DB_BAD (s.reg Reg.QUE_CNT_DB_BAD + 1) := if_pos h

theorem State.doorbell_taken (h : ¬ s.doorbellBad r tail = true) :
    s.doorbell r tail = (s.setFld (Reg.QUE_RING_PTR r) 32 32 tail).ringWaits r := if_neg h

/-- R195: a discarded write is flagged and counted, and changes no other register. -/
theorem State.reg_doorbell_discarded (h : s.doorbellBad r tail = true) :
    (s.doorbell r tail).reg Reg.QUE_REJECT = s.reg Reg.QUE_REJECT ||| 64 ∧
    (s.doorbell r tail).reg Reg.QUE_CNT_DB_BAD = s.reg Reg.QUE_CNT_DB_BAD + 1 ∧
    ∀ a, a ≠ Reg.QUE_REJECT → a ≠ Reg.QUE_CNT_DB_BAD → (s.doorbell r tail).reg a = s.reg a := by
  rw [State.doorbell_discarded h]
  refine ⟨?_, State.reg_setReg_same _ _ _, fun a h1 h2 => ?_⟩
  · rw [State.reg_setReg_other _ _ (by decide)]
    exact State.reg_orReg_same _ _ _
  · rw [State.reg_setReg_other _ _ h2, State.reg_orReg_other _ _ h1]

/-- R194: a taken write sets the ring's tail, and changes no other register. -/
theorem State.reg_doorbell_taken {v : BitVec 32} (h : ¬ s.doorbellBad r v.toNat = true) :
    ((s.doorbell r v.toNat).reg (Reg.QUE_RING_PTR r)).extractLsb' 32 32 = v ∧
    ((s.doorbell r v.toNat).reg (Reg.QUE_RING_PTR r)).extractLsb' 0 32 = (s.reg (Reg.QUE_RING_PTR r)).extractLsb' 0 32 ∧
    ∀ a, a ≠ Reg.QUE_RING_PTR r → (s.doorbell r v.toNat).reg a = s.reg a := by
  have e : ∀ a, (s.doorbell r v.toNat).reg a = (s.setFld (Reg.QUE_RING_PTR r) 32 32 v.toNat).reg a := fun a => by
    obtain ⟨q, eq⟩ := (s.setFld (Reg.QUE_RING_PTR r) 32 32 v.toNat).ringWaits_que r
    rw [State.doorbell_taken h, eq, State.reg, State.reg]
  simp only [e]
  refine ⟨BitVec.eq_of_toNat_eq ?_, BitVec.eq_of_toNat_eq ?_, fun a ha => State.reg_setFld_other _ _ _ _ ha⟩
  · rw [State.toNat_extractLsb', State.fld_setFld_same _ _ _ _ _ (by decide), Nat.mod_eq_of_lt v.isLt]
  · rw [State.toNat_extractLsb', State.fld_setFld_below _ _ _ _ _ _ _ (by decide) (by decide), State.toNat_extractLsb']

end

/-- Settles O22: the write's three checks decide between a discarded and a taken one. -/
theorem doorbellDiscards : Obligations.DoorbellDiscards := by
  intro s r v
  dsimp only
  split
  · next h =>
    have hb := (s.doorbellBad_iff r v).2 h
    exact ⟨_, exec_doorbell s v r, by rw [State.doorbell_discarded hb]; rfl, State.reg_doorbell_discarded hb⟩
  · next h => exact ⟨_, exec_doorbell s v r, State.reg_doorbell_taken (fun hb => h ((s.doorbellBad_iff r v).1 hb))⟩

end Sys2Proof.Machine
end

section
/-! PROOFS. The cadence's slots and frames, banks that park and come back, and contexts (R219 to R232, R477). -/

namespace Sys2Proof.Machine

/-! ## What an answer shows of an event's effect -/

section
variable (s t : State)

theorem State.reg_answer (a : Nat) : ({ t with pending := s.pending, time := s.time } : State).reg a = t.reg a := (rfl)

theorem State.fld_answer (a lo w : Nat) : ({ t with pending := s.pending, time := s.time } : State).fld a lo w =
    t.fld a lo w := (rfl)

theorem State.gntOf_answer (g : Nat) : ({ t with pending := s.pending, time := s.time } : State).gntOf g = t.gntOf g := (rfl)

end

/-! ## Slots (R219, R220) -/

section
variable {s : State} {n : Nat}

/-- R220: a live slot in its lead that has neither begun is entered among the leads. -/
theorem State.slotLead_enters (hl : s.slotLive n = true) (hd : s.leadDue n = true) (ho : n ∉ s.que.open_) (hn : n ∉ s.que.lead) :
    (s.slotLead n).que.lead = s.que.lead ++ [n] := by
  unfold State.slotLead
  rw [if_neg (by simp [hl, hd, ho, hn])]

/-- R219: a live slot whose time has come opens, and its lead is over. -/
theorem State.slotStart_opens (hl : s.slotLive n = true) (hd : s.slotDue n = true) (ho : n ∉ s.que.open_) :
    (s.slotStart n).que.open_ = s.que.open_ ++ [n] ∧ (s.slotStart n).que.lead = s.que.lead.filter (fun x => !(x == n)) := by
  unfold State.slotStart
  rw [if_neg (by simp [hl, hd, ho])]
  exact ⟨rfl, rfl⟩

/-- R219: an open slot whose time is over, or whose table does not run, closes. -/
theorem State.slotEnd_closes (ho : n ∈ s.que.open_) (hd : s.slotLive n = false ∨ s.slotDue n = false) :
    (s.slotEnd n).que.open_ = s.que.open_.filter (fun x => !(x == n)) := by
  have hc : ¬ (!s.que.open_.contains n || (s.slotLive n && s.slotDue n)) = true := by
    rcases hd with h | h
    · simp [ho, h]
    · simp [ho, h]
  unfold State.slotEnd
  rw [if_neg hc]

end

/-! ## Frames (R226) -/

theorem State.frameLen_pos (s : State) : 0 < s.frameLen := Nat.lt_of_lt_of_le Nat.one_pos (Nat.le_max_left _ _)

/-- The first frame that starts at or after the start of frame `k` is frame `k`. -/
theorem State.frameFrom_frameStart (s : State) (k : Nat) : s.frameFrom (s.frameStart k) = k := by
  have hp : (0 : Int) < s.frameLen := Int.natCast_pos.2 s.frameLen_pos
  have e : s.frameStart k - s.regN Reg.CAD_EPOCH + (s.frameLen - 1) = (s.frameLen - 1 : Int) + k * s.frameLen := by
    unfold State.frameStart
    omega
  unfold State.frameFrom
  rw [e, Int.add_mul_ediv_right _ _ (Int.ne_of_gt hp), Int.ediv_eq_zero_of_lt (by omega) (by omega), Int.zero_add,
    Int.toNat_natCast]

/-- R226: a frame whose time has come on an unshifted base is the frame in progress. -/
theorem State.enterFrame_started {s : State} {k : Nat} (hs : s.que.cadShift = 0) (h : 0 ≤ s.sinceFrame k) :
    (s.enterFrame k).reg Reg.CAD_FRAME_CNT = BitVec.ofNat 64 k := by
  unfold State.enterFrame
  extract_lets q s1
  have e : s1.sinceFrame k = s.sinceFrame k := by
    unfold State.sinceFrame
    rw [hs]
    rfl
  rw [if_pos (by rw [e]; exact h)]
  exact State.reg_setRegN_same _ _ _

section
variable {s : State} (hr : s.que.cadResync = false) (hf : s.que.cadFirst = false) (hn : s.que.cadNext = none)
  (hs : s.que.cadShift = 0)
include hr hf hn hs

/-- R226: at a boundary that no step, switch or ENABLE preceded, the next frame starts. -/
theorem State.nextFrame_follows : State.nextFrame s s = s.enterFrame (s.regN Reg.CAD_FRAME_CNT + 1) := by
  have hb : s.boundaryFrame = s.regN Reg.CAD_FRAME_CNT + 1 := by
    unfold State.boundaryFrame
    rw [hf, hn]
    rfl
  unfold State.nextFrame
  dsimp only
  rw [hf, hr, hs, hb, Int.add_zero, State.frameFrom_frameStart]
  rfl

/-- R226: and the frame count goes on by one. -/
theorem State.nextFrame_counts (h : 0 ≤ s.sinceFrame (s.regN Reg.CAD_FRAME_CNT + 1)) :
    (State.nextFrame s s).reg Reg.CAD_FRAME_CNT = s.reg Reg.CAD_FRAME_CNT + 1 := by
  rw [State.nextFrame_follows hr hf hn hs, State.enterFrame_started hs h]
  exact BitVec.eq_of_toNat_eq (by simp [State.regN, BitVec.toNat_add])

end

/-- R226: the boundary of a running table, with no switch requested, is the start of the next frame on the machine with the
cadence's shadows applied. -/
theorem State.frameBoundary_running {s u : State} (hu : u = s.applyShadows 0xA800000 0xA803000)
    (hw : s.bit Reg.CAD_CTRL 0 = true) (hd : s.boundaryDue = true) (he : u.bit Reg.CAD_CTRL 0 = true)
    (hs : u.bit Reg.CAD_CTRL 2 = false) : s.frameBoundary = State.nextFrame u u := by
  unfold State.frameBoundary
  dsimp only
  rw [← hu, hw, hd]
  simp [he, hs]

/-! ## Banks (R221, R222) -/

section
variable {s : State} {g : Nat}

/-- R221: a bank that has been parked counts, and its Gauntlet is released. -/
theorem State.bankParkDone_releases (h : (s.gntOf g).phase = 2) :
    (s.bankParkDone g).reg Reg.QUE_CNT_SWAP = s.reg Reg.QUE_CNT_SWAP + 1 ∧
    (s.bankParkDone g).gntOf g = { s.gntOf g with owner := none, phase := 0 } := by
  unfold State.bankParkDone
  dsimp only
  rw [if_neg (by simp [h])]
  refine ⟨State.reg_setReg_same _ _ _, ?_⟩
  rw [State.gntOf_setReg]
  split
  · exact State.gntOf_setGnt _ _ _
  · exact State.gntOf_setGnt _ _ _

/-- Which slot claims a Gauntlet hangs on the cadence's registers and on the slots in progress only. -/
theorem State.claimer_congr {t : State} (hq : t.que = s.que) (h : ∀ a, Reg.CAD_CTRL ≤ a → t.reg a = s.reg a) :
    t.claimer g = s.claimer g := by
  have ht : t.cadTable = s.cadTable := State.fld_ofReg (h _ (Nat.le_refl _)) _ _
  have hc : ∀ n, t.slotClaims n g = s.slotClaims n g := fun n => by
    unfold State.slotClaims
    rw [ht]
    exact State.bit_ofReg (h _ (by unfold Reg.CAD_SLOT_HI Reg.CAD_CTRL; omega)) _
  unfold State.claimer
  rw [hq]
  simp only [hc]

/-- R222: the bank's return to its Gauntlet, before a claim is looked for. -/
def State.bankBack (s : State) (g : Nat) : State :=
  ((s.setGnt g { s.gntOf g with parked := none, parkedBank := none, phase := 0 }).setBank g (s.gntOf g).parkedBank).setReg
    Reg.QUE_CNT_SWAP (s.reg Reg.QUE_CNT_SWAP + 1)

theorem State.gntOf_bankBack (s : State) (g : Nat) : (s.bankBack g).gntOf g =
    { s.gntOf g with parked := none, parkedBank := none, phase := 0, bank := (s.gntOf g).parkedBank } := by
  unfold State.bankBack State.setBank
  rw [State.gntOf_setReg, State.gntOf_setFld, State.gntOf_setGnt, State.gntOf_setGnt]

theorem State.reg_bankBack (s : State) (g : Nat) : (s.bankBack g).reg Reg.QUE_CNT_SWAP = s.reg Reg.QUE_CNT_SWAP + 1 :=
  State.reg_setReg_same _ _ _

theorem State.reg_bankBack_other (s : State) (g : Nat) {a : Nat} (h1 : a ≠ Reg.QUE_CNT_SWAP) (h2 : a ≠ Reg.GNT_STATE g) :
    (s.bankBack g).reg a = s.reg a := by
  unfold State.bankBack State.setBank
  rw [State.reg_setReg_other _ _ h1, State.reg_setFld_other _ _ _ _ h2]
  rfl

theorem State.claimer_bankBack (s : State) (g : Fin 16) : (s.bankBack g).claimer g = s.claimer g := by
  have hq : (s.bankBack g).que = s.que := by
    rw [State.bankBack, State.setReg_que, State.setBank, State.setFld_que]
    rfl
  refine State.claimer_congr hq (fun a ha => ?_)
  have ha' : 0xA800000 ≤ a := ha
  exact s.reg_bankBack_other g (by unfold Reg.QUE_CNT_SWAP; omega) (by unfold Reg.GNT_STATE; omega)

/-- R222: a restored bank that no slot claims goes back to its Gauntlet. -/
theorem State.bankRestoreDone_unclaimed {g : Fin 16} (h : (s.gntOf g).phase = 3) (hc : s.claimer g = none) :
    s.bankRestoreDone g = s.bankBack g := by
  have e : s.bankRestoreDone g = (match (s.bankBack g).claimer g with
      | none => s.bankBack g
      | some n => (s.bankBack g).preemptGnt g (n, s.regN Reg.CAD_FRAME_CNT)) := if_neg (by simp [h])
  rw [e, State.claimer_bankBack, hc]

/-- R222: a parked part resumes on its free Gauntlet; where its bank was parked too, the bank's restore begins. -/
theorem State.partResume_resumes {rp : Nat × Nat} {q : Request} (hp : (s.gntOf g).parked = some rp) (hq : s.req rp.1 = some q)
    (ho : (s.gntOf g).owner = none) (ht : (s.gntOf g).tile = none) (h0 : (s.gntOf g).phase = 0)
    (ha : s.cadAllows q.ctx g = true) :
    ((s.partResume g).gntOf g).owner = some rp ∧
    ((s.partResume g).gntOf g).phase = if (s.gntOf g).parkedBank.isSome then 3 else 0 := by
  have hc : ¬ ((s.gntOf g).owner.isSome = true ∨ (s.gntOf g).tile.isSome = true ∨ (s.gntOf g).phase ≠ 0 ∨
      (!s.cadAllows q.ctx g) = true) := by simp [ho, ht, h0, ha]
  unfold State.partResume
  simp only [hp, hq]
  rw [if_neg hc]
  cases hb : (s.gntOf g).parkedBank with
  | none =>
    simp only [State.gntOf_showGnt, State.gntOf_setGnt]
    exact ⟨trivial, h0⟩
  | some b =>
    simp only [State.gntOf_showGnt, State.gntOf_setGnt]
    exact ⟨trivial, rfl⟩

end

/-! ## The request for a table switch (R225) -/

theorem exec_cadSwitch (s : State) : exec .cadSwitch s = .next s.cadSwitch := by
  refine done_of_kept ?_ ?_
  all_goals
    unfold State.cadSwitch
    dsimp only
    split <;> rfl

theorem State.cadSwitch_unshadowed {s : State} (h : s.shadow.find Reg.CAD_CTRL = none) : s.cadSwitch = s.orReg Reg.CAD_CTRL 4 := by
  unfold State.cadSwitch
  rw [h]

/-- R394: a write of CAD_CTRL that waits keeps the request. -/
theorem State.cadSwitch_shadowed {s : State} {w : Word} (h : s.shadow.find Reg.CAD_CTRL = some w) :
    s.cadSwitch = { s.orReg Reg.CAD_CTRL 4 with shadow := s.shadow.put Reg.CAD_CTRL (w ||| 4) } := by
  unfold State.cadSwitch
  rw [h]
  rfl

/-- R225: SWITCH is set. -/
theorem State.reg_cadSwitch (s : State) : s.cadSwitch.reg Reg.CAD_CTRL = s.reg Reg.CAD_CTRL ||| 4 := by
  cases h : s.shadow.find Reg.CAD_CTRL with
  | none =>
    rw [State.cadSwitch_unshadowed h]
    exact s.reg_orReg_same _ _
  | some w =>
    rw [State.cadSwitch_shadowed h]
    exact s.reg_orReg_same _ _

/-! ## Contexts (R228, R229, R232, R477) -/

section
variable {s : State} {c : Nat}

theorem State.teardownTimeout_tearing (h : s.fld (Reg.QUE_CTX_STATE c) 0 2 = 2) :
    s.teardownTimeout c = s.record 3 26 0 0x73 (some c) 0xFFFF 1 := if_pos h

theorem State.teardownDone_faults (h : s.fld (Reg.QUE_CTX_STATE c) 0 2 = 2) (hi : s.inflightOf c = 0) :
    s.teardownDone c = s.setFld (Reg.QUE_CTX_STATE c) 0 2 3 := if_pos ⟨h, hi⟩

/-- R229: a reset of a FAULTED context clears its state. -/
theorem State.contextReset_clears (h : s.fld (Reg.QUE_CTX_STATE c) 0 2 = 3) :
    (s.contextReset c).reg (Reg.QUE_CTX_STATE c) = 0 := by
  unfold State.contextReset
  rw [if_neg (by simp [h])]
  exact State.reg_setRegN_same _ _ _

theorem State.ctxEventRead_empty (h : SMap.get (fun _ => []) s.que.events c = []) : s.ctxEventRead c = { s with readVal := 0 } := by
  unfold State.ctxEventRead
  rw [h]

/-- The machine whose context `c` has the events `es` left. -/
def State.eventsLeft (s : State) (c : Nat) (es : List Nat) : State :=
  State.setFld { s with que := { s.que with events := SMap.set (fun _ => []) s.que.events c es } }
    (Reg.QUE_CTX_STATE c) 48 16 es.length

/-- R232: a read answers with the oldest event and removes it. -/
theorem State.ctxEventRead_oldest {e : Nat} {es : List Nat} (h : SMap.get (fun _ => []) s.que.events c = e :: es) :
    s.ctxEventRead c = { s.eventsLeft c es with readVal := BitVec.ofNat 64 e } := by
  unfold State.ctxEventRead
  rw [h]
  rfl

theorem State.fld_readVal (s : State) (v : Word) (a lo w : Nat) : ({ s with readVal := v } : State).fld a lo w =
    s.fld a lo w := (rfl)

theorem State.events_eventsLeft (s : State) (c : Nat) (es : List Nat) :
    SMap.get (fun _ => []) (s.eventsLeft c es).que.events c = es := SMap.get_set_same _ _ _ _

/-- R232: the context's count shows the events left. -/
theorem State.count_eventsLeft (s : State) (c : Nat) {es : List Nat} (hl : es.length < 65536) :
    (s.eventsLeft c es).fld (Reg.QUE_CTX_STATE c) 48 16 = es.length := by
  unfold State.eventsLeft
  rw [State.fld_setFld_same _ _ _ _ _ (by decide)]
  exact Nat.mod_eq_of_lt hl

end

/-- Settles O24: each clause is the effect of one command under the conditions that let it act. -/
theorem slotsPreemptionAndContexts : Obligations.SlotsPreemptionAndContexts := by
  refine ⟨fun s n hr hl ho => ⟨fun hd hn => ?_, fun hd => ?_⟩, fun s n hr ho hd => ?_,
    fun s u hr hu hw hd he hs hy hf hn hz hb => ?_,
    fun s g hr => ⟨fun h => ?_, fun h hc => ?_, fun rp q hp hq ho ht h0 ha => ?_⟩,
    fun s c hr h => ?_, fun s => ?_, fun s c h hi => ?_, fun s c h => ?_, fun s c => ⟨fun h => ?_, fun e es h => ?_⟩⟩
  · exact ⟨_, done_work hr, State.slotLead_enters hl hd ho hn⟩
  · exact ⟨_, done_work hr, State.slotStart_opens hl hd ho⟩
  · exact ⟨_, done_work hr, State.slotEnd_closes ho hd⟩
  · refine ⟨_, done_work hr, ?_⟩
    rw [State.frameBoundary_running hu hw hd he hs]
    exact State.nextFrame_counts hy hf hn hz hb
  · exact ⟨_, done_work hr, State.bankParkDone_releases h⟩
  · refine ⟨_, done_work hr, ?_⟩
    rw [State.bankRestoreDone_unclaimed h hc, State.reg_answer, State.gntOf_answer]
    exact ⟨s.reg_bankBack g, s.gntOf_bankBack g⟩
  · exact ⟨_, done_work hr, State.partResume_resumes hp hq ho ht h0 ha⟩
  · refine ⟨_, done_work hr, ?_⟩
    rw [State.teardownTimeout_tearing h]
    exact ⟨by dsimp only, by dsimp only⟩
  · refine ⟨_, exec_cadSwitch s, s.reg_cadSwitch, State.cadSwitch_unshadowed, fun w h => ?_⟩
    rw [State.cadSwitch_shadowed h]
    exact OMap.find_put_same _ _ _
  · exact (congrArg (done s) (State.teardownDone_faults h hi)).trans (done_of_kept rfl rfl)
  · exact ⟨_, done_next _ _, State.contextReset_clears h⟩
  · exact (congrArg (done s) (State.ctxEventRead_empty h)).trans (done_of_kept rfl rfl)
  · refine ⟨_, done_next _ _, ?_⟩
    rw [State.ctxEventRead_oldest h]
    refine ⟨rfl, s.events_eventsLeft c es, fun hl => ?_⟩
    rw [State.fld_answer, State.fld_readVal]
    exact s.count_eventsLeft c hl

end Sys2Proof.Machine
end

section
/-! PROOFS. Error records: how they are stored, merged and lost, what handling one does, and how they are taken
(R472 to R476, R480, R491). -/

namespace Sys2Proof.Machine

/-- A count that saturates is the lesser of it and its limit. -/
theorem clampNat_zero (m x : Nat) : clampNat 0 m x = Nat.min x m := by
  unfold clampNat
  rw [if_neg (Nat.not_lt_zero x)]
  split
  · next h => exact (Nat.min_eq_right (Nat.le_of_lt h)).symm
  · next h => exact (Nat.min_eq_left (Nat.not_lt.1 h)).symm

/-! ## Queues -/

section
variable (c : Cuff) (sev : Nat) (q : List ErrRec)

@[simp] theorem Cuff.queue_setQueue : (c.setQueue sev q).queue sev = q := by
  unfold Cuff.setQueue Cuff.queue
  split
  · rfl
  · split
    · rfl
    · split <;> rfl

@[simp] theorem Cuff.seq_setQueue : (c.setQueue sev q).seq = c.seq := by
  unfold Cuff.setQueue
  split
  · rfl
  · split
    · rfl
    · split <;> rfl

end

/-! ## A record joins its queue, merges or is lost (R474 to R476) -/

/-- Every record that arrives counts, in the lifetime log by class. -/
def State.countRecord (s : State) (r : ErrRec) : State := (s.dictAddSat 0x5140 r.cls 1 32).bump Reg.CUF_CNT_RECORDS

/-- R474: a record joins its queue, marked where records before it were lost. -/
def State.storeRecord (s : State) (r : ErrRec) : State :=
  { s.countRecord r with cuff := {
    s.cuff.setQueue r.sev (s.cuff.queue r.sev ++ [{ r with lostBefore := s.cuff.lost.testBit r.sev }]) with
      lost := s.cuff.lost - (if s.cuff.lost.testBit r.sev then 2 ^ r.sev else 0) } }

/-- R476: a record adds to the count of the newest record of its queue. -/
def State.mergeRecord (s : State) (r l : ErrRec) : State :=
  State.bump { s.countRecord r with cuff := s.cuff.setQueue r.sev ((s.cuff.queue r.sev).dropLast ++
    [{ l with count := clampNat 0 65535 (l.count + 1) }]) } Reg.CUF_CNT_MERGED

/-- R475: a record is lost, and its queue shows OVERFLOW. -/
def State.loseRecord (s : State) (r : ErrRec) : State :=
  (((State.orReg { s.countRecord r with cuff := { s.cuff with lost := s.cuff.lost ||| 2 ^ r.sev } }
    (Reg.CUF_ERQ_STATE r.sev) 0x80).orReg Reg.CUF_FLAGS 1).bump Reg.CUF_CNT_LOST)

section
variable {s : State} {r : ErrRec}

theorem State.enqueue_stored (hn : ∀ l, (s.cuff.queue r.sev).getLast? = some l → l.same r = false)
    (hl : (s.cuff.queue r.sev).length < 64) : s.enqueue r = (s.storeRecord r, .stored) := by
  unfold State.enqueue State.storeRecord
  dsimp only
  split
  · next l e =>
    rw [if_neg (by simp [hn l e]), if_pos hl]
    rfl
  · next e =>
    rw [List.getLast?_eq_none_iff.1 e]
    rfl

theorem State.enqueue_merged {l : ErrRec} (hl : (s.cuff.queue r.sev).getLast? = some l) (hs : l.same r = true) :
    s.enqueue r = (s.mergeRecord r l, .merged) := by
  unfold State.enqueue
  simp only [hl, hs]
  rfl

theorem State.enqueue_lost (hn : ∀ l, (s.cuff.queue r.sev).getLast? = some l → l.same r = false)
    (hl : 64 ≤ (s.cuff.queue r.sev).length) : s.enqueue r = (s.loseRecord r, .lost) := by
  unfold State.enqueue
  dsimp only
  split
  · next l e =>
    rw [if_neg (by simp [hn l e]), if_neg (Nat.not_lt.2 hl)]
    rfl
  · next e =>
    rw [List.getLast?_eq_none_iff.1 e] at hl
    exact absurd hl (by decide)

end

section
variable (s : State) (r l : ErrRec)

theorem State.reg_countRecord_other {a : Nat} (h : a ≠ Reg.CUF_CNT_RECORDS) : (s.countRecord r).reg a = s.reg a :=
  (State.reg_bump_other _ h).trans rfl

theorem State.reg_storeRecord : (s.storeRecord r).reg Reg.CUF_CNT_RECORDS = s.reg Reg.CUF_CNT_RECORDS + 1 :=
  State.reg_bump_same _ _

theorem State.queue_storeRecord : (s.storeRecord r).cuff.queue r.sev =
    s.cuff.queue r.sev ++ [{ r with lostBefore := s.cuff.lost.testBit r.sev }] := Cuff.queue_setQueue _ _ _

theorem State.seq_storeRecord : (s.storeRecord r).cuff.seq = s.cuff.seq := Cuff.seq_setQueue _ _ _

theorem State.reg_mergeRecord : (s.mergeRecord r l).reg Reg.CUF_CNT_MERGED = s.reg Reg.CUF_CNT_MERGED + 1 :=
  (State.reg_bump_same _ _).trans (congrArg (· + 1) (s.reg_countRecord_other r (by decide)))

theorem State.queue_mergeRecord : (s.mergeRecord r l).cuff.queue r.sev =
    (s.cuff.queue r.sev).dropLast ++ [{ l with count := Nat.min (l.count + 1) 65535 }] := by
  rw [← clampNat_zero]
  exact Cuff.queue_setQueue _ _ _

theorem State.reg_loseRecord (h : r.sev ≤ 3) : (s.loseRecord r).reg Reg.CUF_CNT_LOST = s.reg Reg.CUF_CNT_LOST + 1 := by
  have hq : Reg.CUF_CNT_LOST ≠ Reg.CUF_ERQ_STATE r.sev := by unfold Reg.CUF_CNT_LOST Reg.CUF_ERQ_STATE; omega
  unfold State.loseRecord
  rw [State.reg_bump_same, State.reg_orReg_other _ _ (by decide), State.reg_orReg_other _ _ hq]
  exact congrArg (· + 1) (s.reg_countRecord_other r (by decide))

theorem State.queue_loseRecord (sev : Nat) : (s.loseRecord r).cuff.queue sev = s.cuff.queue sev := (rfl)

/-- R475: OVERFLOW of the queue that lost a record. -/
theorem State.overflow_loseRecord : (s.loseRecord r).bit (Reg.CUF_ERQ_STATE r.sev) 7 = true := by
  have h1 : Reg.CUF_ERQ_STATE r.sev ≠ Reg.CUF_CNT_LOST := by unfold Reg.CUF_CNT_LOST Reg.CUF_ERQ_STATE; omega
  have h2 : Reg.CUF_ERQ_STATE r.sev ≠ Reg.CUF_FLAGS := by unfold Reg.CUF_FLAGS Reg.CUF_ERQ_STATE; omega
  unfold State.loseRecord
  rw [State.bit_ofReg (State.reg_bump_other _ h1), State.bit_ofReg (State.reg_orReg_other _ _ h2),
    State.bit_orReg_same _ _ _ _ (by decide)]
  exact Bool.or_true _

end

/-! ## Actions (R473) -/

/-- Stopping the pairs of a mask stops each that it names. -/
theorem State.stopPairs_eq (s : State) (mask : Nat) : s.stopPairs mask =
    let t := if mask.testBit 0 then s.stopPair 0 else s
    if mask.testBit 1 then t.stopPair 1 else t := (rfl)

theorem State.stopPairs_none (s : State) : s.stopPairs 0 = s := (rfl)

/-- R466: a pair that the mask names shows that it is stopped. -/
theorem State.bit_stopPairs (s : State) {mask p : Nat} (hp : p < 2) (hm : mask.testBit p = true) :
    (s.stopPairs mask).bit Reg.CUF_STOP p = true := by
  have hp' : p = 0 ∨ p = 1 := by omega
  rw [State.stopPairs_eq]
  extract_lets t
  rcases hp' with rfl | rfl
  · have ht : t.bit Reg.CUF_STOP 0 = true := by
      simp only [t, hm, if_true]
      rw [State.bit_stopPair _ _ (by decide), Nat.testBit_two_pow_self, Bool.or_true]
    split
    · rw [State.bit_stopPair _ _ (by decide), ht, Bool.true_or]
    · exact ht
  · rw [if_pos hm, State.bit_stopPair _ _ (by decide), Nat.testBit_two_pow_self, Bool.or_true]

/-- The action bits of a class. -/
def State.actionOf (s : State) (cls : Nat) : Nat := s.regN (Reg.CUF_ACT cls) ||| classFixed cls

/-- What a record does to its queue leaves the actions of the classes as they are. -/
theorem State.actionOf_enqueue (s : State) {r : ErrRec} {cls : Nat} (hr : r.sev ≤ 3) (hc : cls ≤ 32) :
    (s.enqueue r).1.actionOf cls = s.actionOf cls := by
  unfold State.actionOf State.regN
  rw [(s.quiets_enqueue r hr).low (Reg.CUF_ACT cls) (by unfold quietAddr Reg.CUF_ACT; omega)]

/-- R473: a class without an action changes nothing. -/
theorem State.applyAction_none (send : State → ErrRec → State) {s : State} {r : ErrRec} (h : s.actionOf r.cls % 64 = 0) :
    s.applyAction send r = s := by
  have hb : ∀ i, i < 6 → (s.actionOf r.cls).testBit i = false := fun i hi => by
    have e := Nat.testBit_mod_two_pow (s.actionOf r.cls) 6 i
    rw [show 2 ^ 6 = 64 from rfl, h, Nat.zero_testBit, decide_eq_true hi, Bool.true_and] at e
    exact e.symm
  have h4 : s.actionOf r.cls % 4 = 0 := by omega
  unfold State.actionOf at hb h4
  unfold State.applyAction
  simp only [hb 2 (by decide), hb 3 (by decide), hb 4 (by decide), hb 5 (by decide), h4, State.stopPairs_none, Bool.false_and,
    Bool.false_eq_true, if_false, ite_self]

/-- R473: what the action of a record's class sees to: the pairs stop, the safe state is entered, the unit is quarantined. -/
theorem State.applyAction_acts {send : State → ErrRec → State} (hs : sendsQuietly send) (s : State) (r : ErrRec) :
    (r.cls ≠ 15 → ∀ p, p < 2 → (s.actionOf r.cls).testBit p = true → (s.applyAction send r).bit Reg.CUF_STOP p = true) ∧
    ((s.actionOf r.cls).testBit 2 = true → r.sev = 3 ∨ r.cls ≠ 2 ∧ r.cls ≠ 3 → (s.applyAction send r).inSafe = true) ∧
    ((s.actionOf r.cls).testBit 5 = true → r.unit ≤ 255 → (s.applyAction send r).quarantined r.unit = true) := by
  unfold State.actionOf State.applyAction
  extract_lets a safeBit testBit enter s1 s2 s3 s4
  have q2 : Quiets s1 s2 := State.quiets_ite s1.quiets_safeState (Quiets.refl s1)
  have q3 : Quiets s2 s3 := State.quiets_ite (s2.quiets_capTrigger hs _ _ _ _)
    (State.quiets_ite (s2.quiets_capTrigger hs _ _ _ _) (Quiets.refl s2))
  have q4 : Quiets s3 s4 := State.quiets_ite (s3.quiets_startTest _) (Quiets.refl s3)
  have q5 : Quiets s4 (if a.testBit 5 then s4.quarantineWith send r.unit 0 else s4) :=
    State.quiets_ite (s4.quiets_quarantineWith hs _ _) (Quiets.refl s4)
  refine ⟨fun hc p hp ha => ?_, fun ha hc => ?_, fun ha hu => ?_⟩
  · refine ((q2.trans q3).trans (q4.trans q5)).sticky _ _ (.inl rfl) ?_
    have h1 : s1 = s.stopPairs (a % 4) := if_neg hc
    rw [h1]
    refine s.bit_stopPairs hp ?_
    rw [show 4 = 2 ^ 2 from rfl, Nat.testBit_mod_two_pow, decide_eq_true hp, Bool.true_and]
    exact ha
  · refine ((q3.trans q4).trans q5).safe ?_
    have hb : safeBit = true := by
      simp only [safeBit, show a.testBit 2 = true from ha, Bool.true_and, Bool.or_eq_true, beq_iff_eq, Bool.not_eq_true',
        Bool.or_eq_false_iff, beq_eq_false_iff_ne]
      exact hc
    cases hi : s.inSafe with
    | false =>
      have he : enter = true := by simp only [enter, hb, hi, Bool.not_false, Bool.and_self]
      have h2 : s2 = s1.safeState := if_pos he
      rw [h2]
      exact s1.inSafe_safeState
    | true =>
      have q1 : Quiets s s1 := State.quiets_ite (Quiets.refl s) (s.quiets_stopPairs _)
      exact (q1.trans q2).safe hi
  · rw [if_pos ha]
    exact State.quarantined_quarantineWith hs s4 0 hu

/-! ## Records that are not fatal -/

/-- The machine that has given a record its number. -/
def State.nextSeq (s : State) : State := { s with cuff := { s.cuff with seq := s.cuff.seq + 1 } }

section
variable {s : State} {r : ErrRec} (n : Nat) (h3 : r.sev ≠ 3)
include h3

theorem State.recordN_stored {t : State} (he : s.nextSeq.enqueue { r with seq := s.cuff.seq % 2 ^ 32 } = (t, .stored)) :
    State.recordN (n + 1) s r = t := by
  unfold State.nextSeq at he
  simp only [State.recordN, he]
  exact if_neg (fun c => h3 c.1)

/-- A record that merges has its action applied at once: without one nothing more happens. -/
theorem State.recordN_merged {t : State} (he : s.nextSeq.enqueue { r with seq := s.cuff.seq % 2 ^ 32 } = (t, .merged))
    (ha : t.actionOf r.cls % 64 = 0) : State.recordN (n + 1) s r = t := by
  unfold State.nextSeq at he
  simp only [State.recordN, he]
  rw [if_neg (fun c => h3 c.1)]
  exact State.applyAction_none _ ha

/-- So has one that is lost, and after the first loss no RECORD_LOST record is sent. -/
theorem State.recordN_lost {t : State} (he : s.nextSeq.enqueue { r with seq := s.cuff.seq % 2 ^ 32 } = (t, .lost))
    (ha : t.actionOf r.cls % 64 = 0) (hf : s.bit (Reg.CUF_ERQ_STATE r.sev) 7 = true) : State.recordN (n + 1) s r = t := by
  unfold State.nextSeq at he
  simp only [State.recordN, he, hf, Bool.not_true, Bool.false_eq_true, if_false]
  rw [if_neg (fun c => h3 c.1)]
  exact State.applyAction_none _ ha

end

/-! ## What sends a record, handles it and takes it -/

section
variable {s : State} {sev cls status block unit detail : Nat} {ctx : Option Nat}

/-- R228: a record about no FAULTED context arrives at Cuff. -/
theorem State.record_arrives (h : ∀ c, ctx = some c → s.fld (Reg.QUE_CTX_STATE c) 0 2 ≠ 3) :
    s.record sev cls status block ctx unit detail = s.recordN 4 (s.mkRec sev cls status block ctx unit detail) := by
  cases ctx with
  | none => rfl
  | some c => exact if_neg (h c rfl)

/-- R228: one about a FAULTED context only counts as suppressed. -/
theorem State.record_suppressed {c : Nat} (h : s.fld (Reg.QUE_CTX_STATE c) 0 2 = 3) :
    s.record sev cls status block (some c) unit detail = s.setFld (Reg.QUE_CTX_STATE c) 32 16
      (clampNat 0 65535 (s.fld (Reg.QUE_CTX_STATE c) 32 16 + 1)) := if_pos h

/-- The count of the records suppressed, after one more. -/
theorem State.fld_suppressed (c n : Nat) :
    (s.setFld (Reg.QUE_CTX_STATE c) 32 16 (clampNat 0 65535 n)).fld (Reg.QUE_CTX_STATE c) 32 16 = Nat.min n 65535 := by
  rw [State.fld_setFld_same _ _ _ _ _ (by decide), clampNat_zero]
  exact Nat.mod_eq_of_lt (Nat.lt_of_le_of_lt (Nat.min_le_right n 65535) (by decide))

end

/-- R474: handling takes the oldest unhandled record of the severity that is next, and applies its class's action. -/
theorem State.handleRecord_takes {s : State} {sev : Nat} {r : ErrRec} {q : List ErrRec} (hn : s.cuff.nextSeverity = some sev)
    (ht : takeUnhandled (s.cuff.queue sev) = some (r, q)) :
    s.handleRecord = ({ s with cuff := s.cuff.setQueue sev q } : State).applyAction State.send r := by
  unfold State.handleRecord
  simp only [hn, ht]

section
variable {s : State} {sev : Nat}

theorem State.popRecord_empty (h : s.cuff.queue sev = []) : s.popRecord sev = s := by
  unfold State.popRecord
  rw [h]

section
variable {r : ErrRec} {rs : List ErrRec} (h : s.cuff.queue sev = r :: rs)
include h

theorem State.popRecord_unhandled (hh : r.handled = false) : s.popRecord sev = s := by
  unfold State.popRecord
  simp only [h, hh, Bool.false_eq_true, if_false]

/-- R474: a handled record leaves its queue. -/
theorem State.queue_popRecord (hh : r.handled = true) : (s.popRecord sev).cuff.queue sev = rs := by
  unfold State.popRecord
  simp only [h, hh, if_true]
  split
  · exact Cuff.queue_setQueue _ _ _
  · exact Cuff.queue_setQueue _ _ _

/-- R491: the answer is the oldest record. -/
theorem State.octets_errPop : (s.errPop sev).octetsOf 0x3001 (sev + 1) = r.bytes := by
  unfold State.errPop
  rw [h]
  exact State.octetsOf_setOctets_same _ _ _ _

end

/-- R491: of an empty queue it is nothing. -/
theorem State.octets_errPop_empty (h : s.cuff.queue sev = []) : (s.errPop sev).octetsOf 0x3001 (sev + 1) = [] := by
  unfold State.errPop
  rw [h]
  exact State.octetsOf_setOctets_same _ _ _ _

end

theorem State.cuff_errPop (s : State) (sev : Nat) : (s.errPop sev).cuff = (s.popRecord sev).cuff := (rfl)

/-- A pop that removes nothing leaves the island as it is. -/
theorem State.cuff_errPop_kept {s : State} {sev : Nat} (h : s.popRecord sev = s) : (s.errPop sev).cuff = s.cuff :=
  (s.cuff_errPop sev).trans (congrArg State.cuff h)

@[simp] theorem State.blank_popRecord (s : State) (sev : Nat) : (s.popRecord sev).blank = s.blank := by
  unfold State.popRecord
  split
  · rfl
  · split
    · exact State.blank_ite rfl rfl
    · rfl

/-! ## The commands -/

/-- The record that Cuff makes of what a sender presents. -/
def State.made (s : State) (r : RecordIn) : ErrRec :=
  s.mkRec r.sev r.cls r.status r.block (r.ctx.map (·.val)) r.unit r.detail

section
variable {s : State} (h : s.brm.off = false)
include h

theorem exec_errorRecord_on (r : RecordIn) : exec (.errorRecord r) s =
    .next (s.record r.sev r.cls r.status r.block (r.ctx.map (·.val)) r.unit r.detail) :=
  done_powered h (State.blank_pending (s.blank_record _ _ _ _ _ _ _)) (State.blank_time (s.blank_record _ _ _ _ _ _ _))

/-- One about no FAULTED context arrives at Cuff. -/
theorem exec_errorRecord_arrives {r : RecordIn} (hx : ∀ c, r.ctx.map (·.val) = some c → s.fld (Reg.QUE_CTX_STATE c) 0 2 ≠ 3) :
    exec (.errorRecord r) s = .next (s.recordN 4 (s.made r)) := by
  rw [exec_errorRecord_on h, State.record_arrives hx]
  rfl

theorem exec_recordHandle_takes {sev : Nat} {r : ErrRec} {q : List ErrRec} (hn : s.cuff.nextSeverity = some sev)
    (ht : takeUnhandled (s.cuff.queue sev) = some (r, q)) :
    exec .recordHandle s = .next (({ s with cuff := s.cuff.setQueue sev q } : State).applyAction State.send r) := by
  have hb : s.handleRecord.blank = s.blank := by
    rw [State.handleRecord_takes hn ht, State.blank_applyAction _ (fun t r => t.blank_send r)]
    rfl
  rw [← State.handleRecord_takes hn ht]
  exact done_powered h (State.blank_pending hb) (State.blank_time hb)

theorem exec_erqPop_on (sev : Fin 4) : exec (.erqPop sev) s = .next (s.popRecord sev) :=
  done_powered h (State.blank_pending (s.blank_popRecord _)) (State.blank_time (s.blank_popRecord _))

theorem exec_errPop_on (sev : Fin 4) : exec (.errPop sev) s = .next (s.errPop sev) :=
  done_powered h (State.blank_pending (t := s.popRecord sev) (s.blank_popRecord _))
    (State.blank_time (t := s.popRecord sev) (s.blank_popRecord _))

/-- R473, R474, R480: handling a record applies the action of its class. -/
theorem recordHandle_applies {sev : Nat} {r : ErrRec} {q : List ErrRec} (hn : s.cuff.nextSeverity = some sev)
    (ht : takeUnhandled (s.cuff.queue sev) = some (r, q)) :
    ∃ t, exec .recordHandle s = .next t ∧
      (r.cls ≠ 15 → ∀ p, p < 2 → (s.actionOf r.cls).testBit p = true → t.bit Reg.CUF_STOP p = true) ∧
      ((s.actionOf r.cls).testBit 2 = true → r.sev = 3 ∨ r.cls ≠ 2 ∧ r.cls ≠ 3 → t.inSafe = true) ∧
      ((s.actionOf r.cls).testBit 5 = true → r.unit ≤ 255 → t.quarantined r.unit = true) ∧
      (s.actionOf r.cls % 64 = 0 → t.cuff = s.cuff.setQueue sev q) := by
  obtain ⟨hstop, hsafe, hquar⟩ := State.applyAction_acts (send := State.send) (fun t r hr => (t.quiets_recordN 4 r hr).1)
    { s with cuff := s.cuff.setQueue sev q } r
  exact ⟨_, exec_recordHandle_takes h hn ht, hstop, hsafe, hquar,
    fun h0 => congrArg State.cuff (State.applyAction_none State.send (s := { s with cuff := s.cuff.setQueue sev q }) h0)⟩

end

/-! ### ERROR_RECORD -/

section
variable {s : State} {r : ErrRec} (hs : r.sev ≤ 3) (h3 : r.sev ≠ 3) (hseq : r.seq = s.cuff.seq % 2 ^ 32)
include hseq

/-- The number that a record is given is the one that it has. -/
theorem numbered_self : { r with seq := s.cuff.seq % 2 ^ 32 } = r := by rw [← hseq]

include h3

/-- R474: a record that is not fatal, unlike the newest of its queue, with room there, is stored and counts. -/
theorem State.recordN_stores (n : Nat) (hn : ∀ l, (s.cuff.queue r.sev).getLast? = some l → l.same r = false)
    (hl : (s.cuff.queue r.sev).length < 64) : State.recordN (n + 1) s r = s.nextSeq.storeRecord r :=
  State.recordN_stored n h3 (by rw [numbered_self hseq]; exact State.enqueue_stored hn hl)

include hs

/-- R476: one that equals the newest of its queue merges into it. -/
theorem State.recordN_merges (n : Nat) {l : ErrRec} (hc : r.cls ≤ 32) (ha : s.actionOf r.cls % 64 = 0)
    (hl : (s.cuff.queue r.sev).getLast? = some l) (he : l.same r = true) :
    State.recordN (n + 1) s r = s.nextSeq.mergeRecord r l := by
  have e : s.nextSeq.enqueue r = (s.nextSeq.mergeRecord r l, .merged) := State.enqueue_merged hl he
  have k := s.nextSeq.actionOf_enqueue hs hc
  rw [e] at k
  exact State.recordN_merged n h3 (by rw [numbered_self hseq]; exact e) (by rw [k]; exact ha)

/-- R475: one that finds its queue full is lost. -/
theorem State.recordN_loses (n : Nat) (hc : r.cls ≤ 32) (ha : s.actionOf r.cls % 64 = 0)
    (hn : ∀ l, (s.cuff.queue r.sev).getLast? = some l → l.same r = false) (hl : 64 ≤ (s.cuff.queue r.sev).length)
    (hf : s.bit (Reg.CUF_ERQ_STATE r.sev) 7 = true) : State.recordN (n + 1) s r = s.nextSeq.loseRecord r := by
  have e : s.nextSeq.enqueue r = (s.nextSeq.loseRecord r, .lost) := State.enqueue_lost hn hl
  have k := s.nextSeq.actionOf_enqueue hs hc
  rw [e] at k
  exact State.recordN_lost n h3 (by rw [numbered_self hseq]; exact e) (by rw [k]; exact ha) hf

end

/-- Settles O53: a record is suppressed, fatal, stored, merged or lost; handling one is its class's action, and a pop is read off
from its queue. -/
theorem errorRecordsAreKeptHandledAndTaken : Obligations.ErrorRecordsAreKeptHandledAndTaken := by
  refine fun s h => ⟨fun r => ⟨fun c hx hf => ?_, fun hx => ⟨fun h3 => ?_, fun h3 hn hl => ?_, fun h3 hc ha =>
    ⟨fun l hl he => ?_, fun hn hl hf => ?_⟩⟩⟩, fun sev r q hn ht => recordHandle_applies h hn ht,
    fun sev => ⟨fun r rs hq hh => ⟨?_, ?_⟩, fun r rs hq hh => ⟨?_, ?_⟩, fun hq => ⟨?_, ?_⟩⟩⟩
  · refine ⟨_, exec_errorRecord_on h r, ?_⟩
    rw [hx, State.record_suppressed hf]
    exact ⟨State.setFld_cuff _ _ _ _ _, State.fld_suppressed c _⟩
  · exact ⟨_, exec_errorRecord_arrives h hx,
      (State.quiets_recordN 4 s (s.made r) (Nat.le_of_lt_succ r.sev.isLt)).2 (by decide) (congrArg Fin.val h3)⟩
  · refine ⟨_, exec_errorRecord_arrives h hx, ?_⟩
    rw [State.recordN_stores (r := s.made r) (fun e => h3 (Fin.ext e)) rfl 3 hn hl]
    exact ⟨State.seq_storeRecord _ _, State.queue_storeRecord _ _, State.reg_storeRecord _ _⟩
  · refine ⟨_, exec_errorRecord_arrives h hx, ?_⟩
    rw [State.recordN_merges (r := s.made r) (Nat.le_of_lt_succ r.sev.isLt) (fun e => h3 (Fin.ext e)) rfl 3 hc ha hl he]
    exact ⟨State.reg_mergeRecord _ _ _, State.queue_mergeRecord _ _ _⟩
  · refine ⟨_, exec_errorRecord_arrives h hx, ?_⟩
    rw [State.recordN_loses (r := s.made r) (Nat.le_of_lt_succ r.sev.isLt) (fun e => h3 (Fin.ext e)) rfl 3 hc ha hn hl hf]
    exact ⟨State.queue_loseRecord _ _ _, State.reg_loseRecord _ _ (Nat.le_of_lt_succ r.sev.isLt), State.overflow_loseRecord _ _⟩
  · exact ⟨_, exec_erqPop_on h sev, State.queue_popRecord hq hh⟩
  · exact ⟨_, exec_errPop_on h sev, (congrArg (·.queue sev) (s.cuff_errPop sev)).trans (State.queue_popRecord hq hh),
      State.octets_errPop hq⟩
  · rw [exec_erqPop_on h, State.popRecord_unhandled hq hh]
  · exact ⟨_, exec_errPop_on h sev, State.cuff_errPop_kept (State.popRecord_unhandled hq hh), State.octets_errPop hq⟩
  · rw [exec_erqPop_on h, State.popRecord_empty hq]
  · exact ⟨_, exec_errPop_on h sev, State.cuff_errPop_kept (State.popRecord_empty hq), State.octets_errPop_empty hq⟩

end Sys2Proof.Machine
end

section
/-! PROOFS. Which registers the device's own writes of the unified range leave alone (R170, R176 to R179): readying and making one
changes registers of the unified range unit only. -/

namespace Sys2Proof.Machine

/-! ## The registers that the device's own accesses of the unified range leave alone (R170, R176 to R179) -/

/-- An address in the register space of the unified range unit (R192, R412). -/
def rangeAddr (a : Nat) : Bool := decide (0x7000000 ≤ a) && decide (a < 0x8000000)

/-- The registers of every unit but the unified range's. -/
def State.otherRegs (s : State) (a : Nat) : Word := if rangeAddr a then 0 else s.reg a

theorem State.reg_of_otherRegs {s t : State} (h : t.otherRegs = s.otherRegs) {a : Nat} (ha : rangeAddr a = false) :
    t.reg a = s.reg a := by
  have e := congrFun h a
  simpa [State.otherRegs, ha] using e

theorem State.otherRegs_ite {c : Prop} [Decidable c] {b : Nat → Word} {t u : State} (ht : t.otherRegs = b)
    (hu : u.otherRegs = b) : (if c then t else u).otherRegs = b := by
  split
  · exact ht
  · exact hu

section
variable (s : State)

theorem State.otherRegs_setReg {a : Nat} (w : Word) (h : rangeAddr a = true) : (s.setReg a w).otherRegs = s.otherRegs := by
  funext b
  unfold State.otherRegs
  split
  · rfl
  · next hb => exact s.reg_setReg_other w (fun e => hb (e ▸ h))

theorem State.otherRegs_setFld {a : Nat} (lo w v : Nat) (h : rangeAddr a = true) : (s.setFld a lo w v).otherRegs = s.otherRegs :=
  s.otherRegs_setReg _ h

theorem State.otherRegs_bump {a : Nat} (h : rangeAddr a = true) : (s.bump a).otherRegs = s.otherRegs := s.otherRegs_setReg _ h

theorem State.otherRegs_each {α : Type} (xs : List α) (f : State → α → State) (hf : ∀ t x, (f t x).otherRegs = t.otherRegs) :
    (each xs f s).otherRegs = s.otherRegs :=
  each_inv (fun t => t.otherRegs = s.otherRegs) xs f s rfl (fun t x _ ht => (hf t x).trans ht)

@[simp] theorem State.otherRegs_setPage (n : Nat) (p : Page) : (s.setPage n p).otherRegs = s.otherRegs := (rfl)
@[simp] theorem State.otherRegs_put (a : Nat) (bs : Bytes) : (s.put a bs).otherRegs = s.otherRegs := (rfl)
@[simp] theorem State.otherRegs_freshN (n : Nat) : (s.freshN n).otherRegs = s.otherRegs := (rfl)
@[simp] theorem State.otherRegs_setDictN (i sub v : Nat) : (s.setDictN i sub v).otherRegs = s.otherRegs := (rfl)

@[simp] theorem State.otherRegs_nextMove (flash : Bool) : (s.nextMove flash).otherRegs = s.otherRegs := by
  unfold State.nextMove
  refine State.otherRegs_ite rfl ?_
  dsimp only
  split
  · rfl
  · rfl
  · rfl
  · exact State.otherRegs_ite rfl rfl

@[simp] theorem State.otherRegs_startMoves : s.startMoves.otherRegs = s.otherRegs := s.otherRegs_each _ _ (fun t _ => by simp)

@[simp] theorem State.otherRegs_startWb (n b : Nat) (k : WbKind) (r : Option Nat) :
    (s.startWb n b k r).otherRegs = s.otherRegs := State.otherRegs_ite rfl (State.otherRegs_startMoves _)

@[simp] theorem State.otherRegs_takeFrame (code : Nat) : (s.takeFrame code).otherRegs = s.otherRegs :=
  State.otherRegs_ite (s.otherRegs_setFld _ _ _ rfl) <| State.otherRegs_ite (s.otherRegs_setFld _ _ _ rfl) <|
    State.otherRegs_ite (s.otherRegs_setFld _ _ _ rfl) (s.otherRegs_setFld _ _ _ rfl)

@[simp] theorem State.otherRegs_freeOne (code : Nat) (rt : Bool) : (s.freeOne code rt).1.otherRegs = s.otherRegs := by
  unfold State.freeOne
  split
  · exact s.otherRegs_takeFrame code
  · split
    · rfl
    · split
      · exact State.otherRegs_bump _ rfl
      · exact s.otherRegs_each _ _ (fun t b => t.otherRegs_startWb _ _ _ _)

@[simp] theorem State.otherRegs_grantUpper (n code : Nat) (rt : Bool) : (s.grantUpper n code rt).1.otherRegs = s.otherRegs := by
  unfold State.grantUpper
  split
  · rfl
  · have h := s.otherRegs_freeOne code rt
    split <;> next e =>
      rw [e] at h
      simpa [State.otherRegs_bump _ (a := Reg.UMR_CNT_BYPASS) rfl] using h

@[simp] theorem State.otherRegs_startFetch (n b : Nat) (rt : Bool) (r : Option Nat) :
    (s.startFetch n b rt r).otherRegs = s.otherRegs := by
  unfold State.startFetch State.startFetchFor
  split
  · rfl
  · split
    · rfl
    · refine State.otherRegs_ite ((State.otherRegs_bump _ rfl).trans ?_) ?_
      · exact State.otherRegs_startMoves _
      · exact State.otherRegs_startMoves _

@[simp] theorem State.otherRegs_meetFetch (n : Nat) (p : Page) (rt : Bool) (pool : Nat) :
    (s.meetFetch n p rt pool).1.otherRegs = s.otherRegs := by
  unfold State.meetFetch
  split
  · have h := s.otherRegs_grantUpper n pool true
    split <;> next e =>
      rw [e] at h
      simpa [State.otherRegs_bump _ (a := Reg.UMR_CNT_WAIT_MIGRATE) rfl] using h
  · exact s.otherRegs_bump rfl

/-- R177: what a write of a tile block waits for. -/
@[simp] theorem State.otherRegs_prepWrite (n b : Nat) (whole rt : Bool) (r : Option Nat) :
    (s.prepWrite n b whole rt r).1.otherRegs = s.otherRegs := by
  unfold State.prepWrite
  split
  · rfl
  next p0 _ =>
  extract_lets p s0 skip
  have h0 : s0.otherRegs = s.otherRegs := rfl
  have hg := (s0.otherRegs_grantUpper n (s0.demandPool p) rt).trans h0
  split
  · rfl
  split
  · exact h0
  split
  · exact h0
  split
  · exact (s0.otherRegs_meetFetch ..).trans h0
  split
  · split
    · split <;> next e => rw [e] at hg; split <;> simpa using hg
    · split
      · exact h0
      · exact (s0.otherRegs_startFetch ..).trans h0
  · split <;> exact h0

@[simp] theorem State.otherRegs_writeUpper (n b : Nat) (p : Page) (a : Nat) (bs : Bytes) :
    (s.writeUpper n b p a bs).otherRegs = s.otherRegs := (rfl)

@[simp] theorem State.otherRegs_commitHome (n b : Nat) : (s.commitHome n b).otherRegs = s.otherRegs := by
  unfold State.commitHome State.wear
  dsimp only
  rw [State.otherRegs_setDictN, State.otherRegs_setFld _ _ _ _ rfl]
  rfl

@[simp] theorem State.otherRegs_writeHome (n b : Nat) (p : Page) (a : Nat) (bs : Bytes) :
    (s.writeHome n b p a bs).1.otherRegs = s.otherRegs := by
  unfold State.writeHome
  split
  · split <;> simp
  · simp

@[simp] theorem State.otherRegs_writeBehind (n b a : Nat) (bs : Bytes) (rt : Bool) (r : Option Nat) :
    (s.writeBehind n b a bs rt r).1.otherRegs = s.otherRegs := by
  unfold State.writeBehind
  dsimp only
  split <;> simp

@[simp] theorem State.otherRegs_writeFlash (n b : Nat) (p0 p : Page) (a : Nat) (bs : Bytes) (skip rt : Bool) (r : Option Nat) :
    (s.writeFlash n b p0 p a bs skip rt r).1.otherRegs = s.otherRegs := by
  rcases hg : (if p.upper = 0 then (s.setPage n p).grantUpper n (s.demandPool p) rt
    else (s.setPage n p, FrameGrant.granted)) with ⟨s1, g⟩
  have h1 : s1.otherRegs = s.otherRegs := by
    rw [show s1 = _ from (congrArg Prod.fst hg).symm]
    split <;> simp
  unfold State.writeFlash
  dsimp only
  rw [hg]
  dsimp only
  split
  · exact h1
  · split
    · split <;> simp [h1]
    · split <;> simp [h1]
    · simp [h1]

/-- R177: a write of bytes of one tile block. -/
@[simp] theorem State.otherRegs_touchWrite (a : Nat) (bs : Bytes) (rt : Bool) (r : Option Nat) :
    (s.touchWrite a bs rt r).1.otherRegs = s.otherRegs := by
  unfold State.touchWrite
  dsimp only
  split
  · rfl
  split
  · rfl
  split
  · simp
  split
  · split
    · simp
    · exact State.otherRegs_bump _ rfl
  split
  · simp
  · simp

@[simp] theorem State.otherRegs_devWrite (a : Nat) (bs : Bytes) (rt : Bool) : (s.devWrite a bs rt).otherRegs = s.otherRegs :=
  State.otherRegs_ite rfl (State.otherRegs_each s (pieces a bs.length) (fun t pc =>
    (t.touchWrite pc.1 ((bs.drop (pc.1 - a)).take pc.2) rt none).1) (fun t pc => by simp))

/-- R177: readying a range for a write of the device's own keeps what every step of it keeps. -/
theorem State.devPrep_keeps {β : Type} (g : State → β) (hg : ∀ t n b whole, (g (t.prepWrite n b whole false none).1) = g t)
    (a n : Nat) : g (s.devPrep a n).1 = g s :=
  List.foldlRecOn (motive := fun acc : State × AccessResult => g acc.1 = g s) _ _ rfl
    (fun acc h pc _ => (hg acc.1 (pageOf pc.1) (blockIn pc.1) (pc.2 == 0x10000)).trans h)

theorem State.otherRegs_devPrep (a n : Nat) : (s.devPrep a n).1.otherRegs = s.otherRegs :=
  s.devPrep_keeps State.otherRegs (fun t n b whole => t.otherRegs_prepWrite n b whole false none) a n

theorem State.units_devPrep (a n : Nat) : (s.devPrep a n).1.units = s.units :=
  s.devPrep_keeps State.units (fun t n b whole => t.units_prepWrite n b whole false none) a n

end
end Sys2Proof.Machine
end

section
/-! PROOFS. What the end of a request leaves alone (R203, R204, R228, R230, R231): ending one may end others and tear contexts down,
which reaches the engines that work on requests, the scheduler and the unified range, and no other unit. -/

namespace Sys2Proof.Machine

/-! ## What a request that stops gives up -/

/-- The state of the units that no end of a request reaches: the Visor's intake, time, tracks, control loops, the network, the
dictionary service, boot and the module. What a stopped engine holds, and what a record, a signal or an access may change, is
blank. -/
def State.bystanders (s : State) : State :=
  { s.units with gnt := [], gbuf := [], slots := [], att := [], kvrUsed := [], launches := [], fingers := [], mqueues := [],
                 scr := [], gus := State.reset.gus, pcu := Pcu.reset }

theorem State.bystanders_of_units {s t : State} (h : t.units = s.units) : t.bystanders = s.bystanders := by
  unfold State.bystanders
  rw [h]

theorem State.vis_of_bystanders {s t : State} (h : t.bystanders = s.bystanders) : t.vis = s.vis :=
  show t.bystanders.vis = s.bystanders.vis from congrArg State.vis h

theorem State.bystanders_ite {c : Prop} [Decidable c] {b t u : State} (ht : t.bystanders = b) (hu : u.bystanders = b) :
    (if c then t else u).bystanders = b := by
  split
  · exact ht
  · exact hu

section
variable (s : State)

theorem State.bystanders_each {α : Type} (xs : List α) (f : State → α → State) (hf : ∀ t x, (f t x).bystanders = t.bystanders) :
    (each xs f s).bystanders = s.bystanders :=
  each_inv (fun t => t.bystanders = s.bystanders) xs f s rfl (fun t x _ ht => (hf t x).trans ht)

@[simp] theorem State.bystanders_setRegN (a v : Nat) : (s.setRegN a v).bystanders = s.bystanders := (rfl)
@[simp] theorem State.bystanders_setFld (a lo w v : Nat) : (s.setFld a lo w v).bystanders = s.bystanders := (rfl)
@[simp] theorem State.bystanders_orReg (a m : Nat) : (s.orReg a m).bystanders = s.bystanders := (rfl)
@[simp] theorem State.bystanders_add (a n : Nat) : (s.add a n).bystanders = s.bystanders := (rfl)
@[simp] theorem State.bystanders_freshN (n : Nat) : (s.freshN n).bystanders = s.bystanders := (rfl)
@[simp] theorem State.bystanders_setPage (n : Nat) (p : Page) : (s.setPage n p).bystanders = s.bystanders := (rfl)
@[simp] theorem State.bystanders_putReq (r : Nat) (q : Request) : (s.putReq r q).bystanders = s.bystanders := (rfl)
@[simp] theorem State.bystanders_ghavoc (g off n : Nat) : (s.ghavoc g off n).bystanders = s.bystanders := (rfl)
@[simp] theorem State.bystanders_setGnt (g : Nat) (x : Gnt) : (s.setGnt g x).bystanders = s.bystanders := (rfl)
@[simp] theorem State.bystanders_setBank (g : Nat) (b : Option Bank) : (s.setBank g b).bystanders = s.bystanders := by
  rw [State.setBank, State.bystanders_setFld, State.bystanders_setGnt]
@[simp] theorem State.bystanders_dropReqWaits (r : Nat) : (s.dropReqWaits r).bystanders = s.bystanders := (rfl)
@[simp] theorem State.bystanders_setUmrJob (r : Nat) (j : Option UmrJob) : (s.setUmrJob r j).bystanders = s.bystanders := by
  unfold State.setUmrJob
  dsimp only
  rw [State.bystanders_setFld]
  rfl
@[simp] theorem State.bystanders_attUnqueue (r : Nat) : (s.attUnqueue r).bystanders = s.bystanders := (rfl)
@[simp] theorem State.bystanders_givePages (p : Nat) (ps : List Nat) : (s.givePages p ps).bystanders = s.bystanders := (rfl)
@[simp] theorem State.bystanders_showPcu : s.showPcu.bystanders = s.bystanders := (rfl)
@[simp] theorem State.bystanders_gusIdle (u : Nat) : (s.gusIdle u).bystanders = s.bystanders := (rfl)

@[simp] theorem State.bystanders_giveFrame (code : Nat) : (s.giveFrame code).bystanders = s.bystanders :=
  State.bystanders_of_units (s.units_giveFrame code)

@[simp] theorem State.bystanders_havocOut (c a n : Nat) : (s.havocOut c a n).bystanders = s.bystanders :=
  State.bystanders_of_units (s.units_havocOut c a n)

@[simp] theorem State.bystanders_hold (a n : Nat) (up : Bool) : (s.hold a n up).bystanders = s.bystanders :=
  State.bystanders_of_units (s.units_hold a n up)

@[simp] theorem State.bystanders_record (sev cls status block : Nat) (ctx : Option Nat) (u d : Nat) :
    (s.record sev cls status block ctx u d).bystanders = s.bystanders := State.bystanders_of_units (s.units_record ..)

@[simp] theorem State.bystanders_finishReq (r : Nat) (q : Request) (st d ok : Nat) (res : Bool) :
    (s.finishReq r q st d ok res).bystanders = s.bystanders := State.bystanders_of_units (s.units_finishReq ..)

@[simp] theorem State.bystanders_unholdStage (j : StageJob) : (s.unholdStage j).bystanders = s.bystanders :=
  State.bystanders_ite (by simp) (by simp)

@[simp] theorem State.bystanders_dropChunk (r p : Nat) : (s.dropChunk r p).bystanders = s.bystanders :=
  s.bystanders_each _ _ (fun _ _ => State.bystanders_ite rfl (State.bystanders_ite rfl rfl))

@[simp] theorem State.bystanders_releasePart (r p : Nat) (x : Part) (discard keepBank : Bool) :
    (s.releasePart r p x discard keepBank).bystanders = s.bystanders := by
  unfold State.releasePart
  extract_lets s1 s2
  have h1 : s1.bystanders = s.bystanders := s.bystanders_each _ _ (fun t j => t.bystanders_unholdStage j)
  have h2 : s2.bystanders = s.bystanders := State.bystanders_ite (by simp [h1]) h1
  split
  · exact h2
  · exact State.bystanders_ite (b := s.bystanders) (by simp [h2]) (by simp [h2])

@[simp] theorem State.bystanders_havocBank (g : Nat) (d : Bytes) : (s.havocBank g d).bystanders = s.bystanders := by
  unfold State.havocBank
  split
  · rfl
  · exact State.bystanders_ite (by simp) rfl

@[simp] theorem State.bystanders_havocCommand (q : Request) (unit : Option Nat) (a op : Nat) :
    (s.havocCommand q unit a op).bystanders = s.bystanders := by
  unfold State.havocCommand
  dsimp only
  split
  · split
    · exact State.bystanders_ite (by simp) rfl
    · exact State.bystanders_ite (by simp) rfl
    · rfl
  · split
    · rfl
    · have h (g : Nat) : (each (tileWrites (s.peek a 128)) (fun u w =>
          if u.inWindow q.ctx w.1 w.2 then u.ghavoc g w.1 w.2 else u) s).bystanders = s.bystanders :=
        s.bystanders_each _ _ (fun t w => State.bystanders_ite (by simp) rfl)
      exact State.bystanders_ite (by simp [h]) (h _)

@[simp] theorem State.bystanders_havocPart (q : Request) (x : Part) (keep : Option Nat) :
    (s.havocPart q x keep).bystanders = s.bystanders := by
  unfold State.havocPart
  split
  · rfl
  · exact s.bystanders_each _ _ (fun t e => State.bystanders_ite rfl (by simp))

@[simp] theorem State.bystanders_havocNamed (q : Request) : (s.havocNamed q).bystanders = s.bystanders :=
  State.bystanders_ite (s.bystanders_each _ _ (fun t x => by simp))
    (s.bystanders_each _ _ (fun t x => State.bystanders_ite rfl (by simp)))

@[simp] theorem State.bystanders_discardContext (c : Nat) : (s.discardContext c).bystanders = s.bystanders := by
  unfold State.discardContext
  extract_lets s1
  refine State.bystanders_each s1 _ _ (fun t e => ?_)
  split
  · exact State.bystanders_ite (by simp) rfl
  · rfl

@[simp] theorem State.bystanders_releaseUmr (r : Nat) : (s.releaseUmr r).bystanders = s.bystanders := by
  unfold State.releaseUmr
  split
  · rfl
  · refine (State.bystanders_setUmrJob _ _ _).trans (State.bystanders_ite (s.bystanders_each _ _ (fun t n => ?_)) rfl)
    split <;> simp

@[simp] theorem State.bystanders_havocAppends (c : Nat) (x : AttCall) : (s.havocAppends c x).bystanders = s.bystanders := by
  refine State.bystanders_ite rfl (s.bystanders_each _ _ (fun t e => ?_))
  split
  · rfl
  · exact State.bystanders_ite rfl (t.bystanders_each _ _ (fun u o => by simp))

@[simp] theorem State.bystanders_dropAtt (p : Nat) : (s.dropAtt p).bystanders = s.bystanders := by
  unfold State.dropAtt
  split
  · rfl
  · next x _ =>
    extract_lets s0 s1
    have h0 : s0.bystanders = s.bystanders := by
      unfold s0
      split <;> simp
    exact (State.bystanders_each s0 (x.seqs.zip x.pages) (fun t e => t.givePages (e.1 % 4) e.2) (fun t e => by simp)).trans h0

@[simp] theorem State.bystanders_releaseAtt (r : Nat) : (s.releaseAtt r).bystanders = s.bystanders := by
  unfold State.releaseAtt
  dsimp only
  split <;> simp

@[simp] theorem State.bystanders_releaseCrop (r : Nat) : (s.releaseCrop r).bystanders = s.bystanders := by
  unfold State.releaseCrop
  split
  · rfl
  · exact State.bystanders_ite rfl rfl

@[simp] theorem State.bystanders_freeLaunch (r : Nat) (l : Launch) : (s.freeLaunch r l).bystanders = s.bystanders := by
  unfold State.freeLaunch
  extract_lets s1 s2 s3
  have h1 : s1.bystanders = s.bystanders := s.bystanders_each _ _ (fun t e =>
    State.bystanders_ite (t.bystanders_each _ _ (fun u y => by split <;> simp)) rfl)
  have h3 : s3.bystanders = s.bystanders := (State.bystanders_each s2 _ _ (fun t m => by simp)).trans h1
  refine State.bystanders_ite ((State.bystanders_each _ _ _ (fun t m => by simp)).trans ?_) h3
  exact (State.bystanders_each s3 _ _ (fun t p => by simp)).trans h3

@[simp] theorem State.bystanders_havocScratch (l : Launch) : (s.havocScratch l).bystanders = s.bystanders := by
  refine s.bystanders_each _ _ (fun t p => ?_)
  rfl

@[simp] theorem State.bystanders_releaseLaunch (r : Nat) : (s.releaseLaunch r).bystanders = s.bystanders := by
  unfold State.releaseLaunch
  split
  · rfl
  · exact (State.bystanders_havocScratch _ _).trans (s.bystanders_freeLaunch _ _)

@[simp] theorem State.bystanders_gusSpent (u : Nat) : (s.gusSpent u).bystanders = s.bystanders := by
  unfold State.gusSpent
  split
  · rfl
  · exact State.bystanders_ite (by simp) (State.bystanders_ite (by simp) (by simp))

@[simp] theorem State.bystanders_trimEpochs : s.trimEpochs.bystanders = s.bystanders := by
  unfold State.trimEpochs
  extract_lets live p1 s1
  have h1 : s1.bystanders = s.bystanders := rfl
  split
  · exact h1
  · dsimp only
    rw [State.bystanders_setRegN, State.bystanders_setRegN, h1]

@[simp] theorem State.bystanders_dropPlan (r : Nat) : (s.dropPlan r).bystanders = s.bystanders := by
  unfold State.dropPlan
  extract_lets turn s1
  rw [State.bystanders_showPcu, State.bystanders_trimEpochs]
  rfl

@[simp] theorem State.bystanders_releasePcu (r : Nat) : (s.releasePcu r).bystanders = s.bystanders := by
  unfold State.releasePcu
  extract_lets p1 s1 p2 s2
  have h1 : s1.bystanders = s.bystanders := by
    unfold s1
    split
    · rfl
    · dsimp only
      split
      · exact State.bystanders_ite rfl rfl
      · rfl
  have h2 : s2.bystanders = s1.bystanders := by
    unfold s2
    split
    · exact State.bystanders_ite rfl rfl
    · rfl
  exact (s2.bystanders_dropPlan r).trans (h2.trans h1)

@[simp] theorem State.bystanders_releaseReq (r : Nat) (q : Request) : (s.releaseReq r q).bystanders = s.bystanders := by
  unfold State.releaseReq
  extract_lets s1
  have h1 : s1.bystanders = s.bystanders := by simp [s1]
  exact State.bystanders_ite ((s1.bystanders_releaseUmr r).trans h1) <|
    State.bystanders_ite ((s1.bystanders_releaseAtt r).trans h1) <|
    State.bystanders_ite ((s1.bystanders_attUnqueue r).trans h1) <|
    State.bystanders_ite ((s1.bystanders_releaseCrop r).trans h1) <|
    State.bystanders_ite ((s1.bystanders_releaseLaunch r).trans h1) <|
    State.bystanders_ite ((State.bystanders_each s1 _ _ (fun t u => by simp)).trans h1) <|
    State.bystanders_ite ((s1.bystanders_releasePcu r).trans h1) <|
    State.bystanders_ite ((s1.bystanders_setFld ..).trans h1) h1

/-! ## What the end of one request causes -/

/-- R204: a request that ends, with unspecified outputs where it is cancelled. -/
theorem State.bystanders_cancelled (c r : Nat) (q : Request) (st d ok : Nat) (res : Bool) :
    ((if c = 7 then s.havocNamed q else s).finishReq r q st d ok res).bystanders = s.bystanders :=
  (State.bystanders_finishReq _ _ _ _ _ _ _).trans (State.bystanders_ite (by simp) rfl)

@[simp] theorem State.bystanders_finishParts (r : Nat) : (s.finishParts r).bystanders = s.bystanders := by
  unfold State.finishParts
  split
  · rfl
  · exact State.bystanders_ite (s.bystanders_cancelled _ _ _ _ _ _ _) rfl

@[simp] theorem State.bystanders_stopParts (r st : Nat) (skip : Option Nat) :
    (s.stopParts r st skip).bystanders = s.bystanders := by
  unfold State.stopParts
  split
  · rfl
  refine (State.bystanders_each _ _ _ (fun t i => ?_)).trans (s.bystanders_putReq _ _)
  split
  · rfl
  split
  · rfl
  exact State.bystanders_ite rfl (by simp)

@[simp] theorem State.bystanders_stopRunning (r st : Nat) : (s.stopRunning r st).bystanders = s.bystanders := by
  unfold State.stopRunning
  split
  · rfl
  · exact State.bystanders_ite (by simp) (State.bystanders_ite (by simp) (by simp))

/-- R228: a teardown stops the requests of its context. -/
@[simp] theorem State.bystanders_teardown (c st : Nat) (keep : Option Nat) : (s.teardown c st keep).bystanders = s.bystanders := by
  unfold State.teardown
  refine State.bystanders_ite rfl ?_
  extract_lets s1 s2 s3
  have h3 : s3.bystanders = s.bystanders := by simp [s3, s2, s1, State.bump]
  refine (State.bystanders_each _ _ _ (fun t e => ?_)).trans h3
  split
  · rfl
  · split
    · exact t.bystanders_cancelled _ _ _ _ _ _ _
    · simp

theorem State.bystanders_settle (n : Nat) : (State.settle n s).bystanders = s.bystanders := by
  induction n generalizing s with
  | zero => rfl
  | succ n ih =>
    unfold State.settle
    split
    · rfl
    · next r q st _ =>
      extract_lets que s1
      exact (ih _).trans (s1.bystanders_cancelled _ _ _ _ _ _ _)

theorem State.bystanders_settled : s.settled.bystanders = s.bystanders := by
  unfold State.settled
  extract_lets s1 s2 s3
  have h1 : s1.bystanders = s.bystanders := s.bystanders_settle _
  have h2 : s2.bystanders = s1.bystanders := s1.bystanders_each _ _ (fun t c => t.bystanders_teardown c 8 none)
  exact State.bystanders_ite h1 ((s2.bystanders_settle _).trans (h2.trans h1))

/-- R203, R228, R230: whatever the end of a request causes, the other units' state stays. -/
theorem State.bystanders_endReq (r st d : Nat) (res : Bool) : (s.endReq r st d res).bystanders = s.bystanders := by
  unfold State.endReq
  split
  · rfl
  · exact (State.bystanders_settled _).trans
      (State.bystanders_ite ((State.bystanders_teardown _ _ _ _).trans (s.bystanders_finishReq ..)) (s.bystanders_finishReq ..))

/-- The end of a request leaves the Visor's intake alone. -/
@[simp] theorem State.vis_endReq (r st d : Nat) (res : Bool) : (s.endReq r st d res).vis = s.vis :=
  State.vis_of_bystanders (s.bystanders_endReq r st d res)

end
end Sys2Proof.Machine
end

section
/-! PROOFS. What a pipeline's own operations do (R249 to R259): batches close, stops begin, pictures and texts complete. -/

namespace Sys2Proof.Machine

/-! ## One pipeline -/

theorem State.vpipe_of_vis {s t : State} (h : t.vis = s.vis) (p : Nat) : t.vpipe p = s.vpipe p := by
  unfold State.vpipe
  rw [h]

section
variable (s : State) (p : Nat)

@[simp] theorem State.vpipe_mapSamples (f : VSample → VSample) :
    (s.mapSamples p f).vpipe p = { s.vpipe p with samples := (s.vpipe p).samples.map f } := s.vpipe_setVpipe p _

/-- R252, R253: the open batch closes with flags and the next one opens. -/
theorem State.vpipe_closeBatch {b : VBatch} (flags : Nat) (h : (s.vpipe p).batches.getLast? = some b) :
    (s.closeBatch p flags).vpipe p = { s.vpipe p with batches := (s.vpipe p).batches.dropLast ++
      [{ b with closed := true, flags := b.flags ||| flags }, VBatch.fresh (b.seq + 1) (s.batchRows p)] } := by
  unfold State.closeBatch
  dsimp only
  rw [h]
  dsimp only
  rw [State.vpipe_openBatch, State.vpipe_setVpipe]
  dsimp only
  rw [List.append_assoc]
  rfl

/-- R257: what the beginning of a stop leaves of a pipeline; a RESTART that ends with it ends in the scheduler only. -/
theorem State.vpipe_beginStop (c : Nat × Nat) (why : Nat × Nat × Nat) : (s.beginStop p c why).vpipe p =
    { s.vpipe p with batches := cutBatches c (s.vpipe p).batches, cut := some c, why := why, replay := [], restart := none } := by
  unfold State.beginStop
  extract_lets x s1
  have h1 : s1.vpipe p = _ := s.vpipe_setVpipe p _
  split
  · exact (State.vpipe_of_vis (State.vis_endReq ..) p).trans h1
  · exact h1

/-- R257, R259: with no RESTART in progress the pipeline is STOPPING, and no request ends. -/
theorem State.beginStop_noRestart {c : Nat × Nat} {why : Nat × Nat × Nat} (h : (s.vpipe p).restart = none) :
    s.beginStop p c why = (s.setVpipe p { s.vpipe p with
      batches := cutBatches c (s.vpipe p).batches, cut := some c, why := why, replay := [], restart := none }).setFld
      (Reg.VIS_PIPE_STATE p) 0 2 2 := by
  unfold State.beginStop
  dsimp only
  rw [h]

theorem State.pipeState_setFld (v : Nat) : (s.setFld (Reg.VIS_PIPE_STATE p) 0 2 v).pipeState p = v % 2 ^ 2 :=
  s.fld_setFld_same _ _ _ _ (by decide)

theorem State.pipeState_beginStop {c : Nat × Nat} {why : Nat × Nat × Nat} (h : (s.vpipe p).restart = none) :
    (s.beginStop p c why).pipeState p = 2 := by
  rw [State.beginStop_noRestart _ _ h]
  exact State.pipeState_setFld _ p 2

/-- A pipeline that neither runs nor replays starts nothing. -/
theorem State.pumped_idle {s : State} {p : Nat} (hr : (s.vpipe p).restart = none) (hs : s.pipeState p ≠ 1) : s.pumped p = s := by
  have hn : s.nextStart p = none := by simp [State.nextStart, hr, hs]
  simp [State.pumped, State.pump, hn]

/-- R257: a placed sample that is found corrupt where placements are open stops the pipeline at its row. -/
theorem State.corruptSample_stops {x : VSample} {b row start : Nat} (st cause : Nat) (hx : x.pos = some (b, row, start))
    (hp : s.placing p = true) : s.corruptSample p x st cause = s.beginStop p (b, row) (st, cause, x.tag) := by
  simp [State.corruptSample, hx, hp]

/-- A search by a key finds the same element, changed, where every element keeps its key. -/
theorem find?_key_map {α β : Type} [BEq β] {f : α → α} {key : α → β} (hf : ∀ y, key (f y) = key y) (xs : List α) (b : β) :
    (xs.map f).find? (fun y => key y == b) = (xs.find? (fun y => key y == b)).map f := by
  rw [List.find?_map]
  exact congrArg (fun c => (xs.find? c).map f) (funext fun y => congrArg (· == b) (hf y))

theorem rangeAddr_visPipeShape (p : Fin 16) : rangeAddr (Reg.VIS_PIPE_SHAPE p) = false := by
  unfold rangeAddr Reg.VIS_PIPE_SHAPE
  rw [decide_eq_false (by omega)]
  rfl

/-! ## Regions of a pipeline (log entry 49) -/

theorem State.units_regionHavoc (a : Nat) : (s.regionHavoc a).units = s.units := by
  simp [State.regionHavoc, State.devHavoc]

theorem State.otherRegs_regionHavoc (a : Nat) : (s.regionHavoc a).otherRegs = s.otherRegs := by
  simp [State.regionHavoc, State.devHavoc]

end

/-! ## Decoded pictures (R241, R245, R256) -/

/-- R241: the picture of `x` is decoded: its samples are complete, its crops counted, and the work region is written. The pipeline
has not yet started what it then can. -/
def State.pictureComplete (s : State) (p : Nat) (x : VSample) (pic : DecodedPicture) : State :=
  (((s.mapSamples p (fun y => if y.mate x && y.st == 1 then { y with st := 2, out := s.decodedOut p y pic } else y)).countCrops
    ((s.vpipe p).samples.filter (fun y => y.mate x && y.st == 1)) pic).freshN 4194304).regionHavoc (Reg.VIS_PIPE_WORK p)

section
variable (s : State) (p : Nat) (x : VSample) (pic : DecodedPicture)

/-- R116: counting crops is counting in registers. -/
theorem State.vis_countCrops (xs : List VSample) : (s.countCrops xs pic).vis = s.vis := by
  unfold State.countCrops
  dsimp only
  split
  · rfl
  · rfl

/-- R116: the crops of a picture are boxes of one call. -/
theorem State.crops_countCrops (xs : List VSample) :
    (s.countCrops xs pic).reg Reg.VIS_CR_CNT_CALLS =
      s.reg Reg.VIS_CR_CNT_CALLS + BitVec.ofNat 64 (Nat.min (xs.filter (fun y => y.kind == 3)).length 1) ∧
    (s.countCrops xs pic).reg Reg.VIS_CR_CNT_BOXES =
      s.reg Reg.VIS_CR_CNT_BOXES + BitVec.ofNat 64 (xs.filter (fun y => y.kind == 3)).length := by
  unfold State.countCrops
  extract_lets crops call bad ev fl
  split
  · next h =>
    rw [show xs.filter (fun y => y.kind == 3) = [] from h]
    exact ⟨(BitVec.add_zero _).symm, (BitVec.add_zero _).symm⟩
  · next h =>
    have h1 : Nat.min crops.length 1 = 1 := Nat.min_eq_right (List.length_pos_iff.2 h)
    refine ⟨?_, ?_⟩
    · rw [State.reg_orReg_other _ _ (by decide), State.reg_add_other _ _ (by decide), State.reg_add_other _ _ (by decide),
        State.reg_bump_same, h1]
      rfl
    · rw [State.reg_orReg_other _ _ (by decide), State.reg_add_other _ _ (by decide), State.reg_add_same,
        State.reg_bump_other _ (by decide)]

theorem State.samples_pictureComplete : ((s.pictureComplete p x pic).vpipe p).samples =
    (s.vpipe p).samples.map (fun y => if y.mate x && y.st == 1 then { y with st := 2, out := s.decodedOut p y pic } else y) := by
  unfold State.pictureComplete
  rw [State.vpipe_of_vis (State.units_vis (State.units_regionHavoc _ _)),
    State.vpipe_of_vis ((State.freshN_vis _ _).trans (State.vis_countCrops _ _ _)), State.vpipe_mapSamples]

theorem State.crops_pictureComplete :
    (s.pictureComplete p x pic).reg Reg.VIS_CR_CNT_CALLS = s.reg Reg.VIS_CR_CNT_CALLS + BitVec.ofNat 64
      (Nat.min ((s.vpipe p).samples.filter (fun y => (y.mate x && y.st == 1) && y.kind == 3)).length 1) ∧
    (s.pictureComplete p x pic).reg Reg.VIS_CR_CNT_BOXES = s.reg Reg.VIS_CR_CNT_BOXES + BitVec.ofNat 64
      ((s.vpipe p).samples.filter (fun y => (y.mate x && y.st == 1) && y.kind == 3)).length := by
  unfold State.pictureComplete
  have hk : ∀ {a : Nat} (t : State), rangeAddr a = false → ((t.freshN 4194304).regionHavoc (Reg.VIS_PIPE_WORK p)).reg a = t.reg a :=
    fun t ha => State.reg_of_otherRegs ((State.otherRegs_regionHavoc _ _).trans (State.otherRegs_freshN _ _)) ha
  have hf : ((s.vpipe p).samples.filter (fun y => y.mate x && y.st == 1)).filter (fun y => y.kind == 3) =
      (s.vpipe p).samples.filter (fun y => (y.mate x && y.st == 1) && y.kind == 3) := by
    rw [List.filter_filter]
    exact List.filter_congr (fun y _ => Bool.and_comm _ _)
  rw [hk _ rfl, hk _ rfl, ← hf]
  exact State.crops_countCrops _ pic _

end

/-- A sample of the picture of `x` that is found corrupt; other samples stay. -/
def VSample.spoilt (x y : VSample) : VSample := if y.mate x && y.st == 1 then { y with st := 3 } else y

theorem VSample.tag_spoilt (x y : VSample) : (x.spoilt y).tag = y.tag := by
  unfold VSample.spoilt
  split <;> rfl

/-- R257: one sample is found corrupt. -/
theorem State.corruptSamples_one {s : State} {p tag : Nat} {y : VSample} (st cause : Nat)
    (h : (s.vpipe p).samples.find? (fun y => y.tag == tag) = some y) :
    s.corruptSamples p [tag] st cause = s.corruptSample p y st cause := by
  simp [State.corruptSamples, each, h]

section
variable {s : State} {k : Nat} {x : VSample} {pic : DecodedPicture} (hx : s.leaving k = some x)
include hx

theorem State.pictureDecoded_completes (hc : pic.cause = 0) :
    s.pictureDecoded k pic = (s.pictureComplete (s.strPipe k) x pic).pumped (s.strPipe k) := by
  unfold State.pictureDecoded
  rw [hx]
  exact if_neg (not_not_intro hc)

/-- R256: the picture's samples are corrupt. -/
theorem State.pictureDecoded_corrupt (hc : pic.cause ≠ 0) :
    s.pictureDecoded k pic = ((s.mapSamples (s.strPipe k) x.spoilt).corruptSamples (s.strPipe k)
      (((s.vpipe (s.strPipe k)).samples.filter (fun y => y.mate x && y.st == 1)).map (·.tag))
      (stopStatus pic.cause pic.status) pic.cause).pumped (s.strPipe k) := by
  unfold State.pictureDecoded
  rw [hx]
  exact if_pos hc

/-- R256, R257: a picture of one sample that is found corrupt stops its running pipeline at the sample's row. -/
theorem State.pictureDecoded_stops {b row start : Nat} (hc : pic.cause ≠ 0) (hpos : x.pos = some (b, row, start))
    (hs : s.pipeState (s.strPipe k) = 1) (hr : (s.vpipe (s.strPipe k)).restart = none)
    (hm : (s.vpipe (s.strPipe k)).samples.filter (fun y => y.mate x && y.st == 1) = [x])
    (ht : (s.vpipe (s.strPipe k)).samples.find? (fun y => y.tag == x.tag) = some x) :
    s.pictureDecoded k pic = (s.mapSamples (s.strPipe k) x.spoilt).beginStop (s.strPipe k) (b, row)
      (stopStatus pic.cause pic.status, pic.cause, x.tag) := by
  rw [State.pictureDecoded_corrupt hx hc, hm]
  generalize s.strPipe k = p at *
  have hin : (x.mate x && x.st == 1) = true := by
    have h : x ∈ (s.vpipe p).samples.filter (fun y => y.mate x && y.st == 1) := hm ▸ List.mem_singleton_self x
    exact (List.mem_filter.1 h).2
  have hpl : (s.mapSamples p x.spoilt).placing p = true := by
    simp [State.placing, show (s.mapSamples p x.spoilt).pipeState p = 1 from hs]
  have hfind : ((s.mapSamples p x.spoilt).vpipe p).samples.find? (fun y => y.tag == x.tag) = some { x with st := 3 } := by
    rw [State.vpipe_mapSamples, find?_key_map x.tag_spoilt, ht, Option.map_some, VSample.spoilt, if_pos hin]
  have hr1 : ((s.mapSamples p x.spoilt).vpipe p).restart = none := by rw [State.vpipe_mapSamples]; exact hr
  rw [List.map_singleton, State.corruptSamples_one _ _ hfind, State.corruptSample_stops (x := { x with st := 3 }) _ _ _ _ hpos hpl]
  refine State.pumped_idle (by rw [State.vpipe_beginStop]) ?_
  rw [State.pipeState_beginStop _ _ hr1]
  decide

end

/-! ## Texts (R249, R250) -/

/-- R249, R250: the stream's oldest waiting text `x` is tokenized, placed and complete. The pipeline has not yet started what it then
can. -/
def State.textComplete (s : State) (k : Nat) (x : VSample) : State :=
  let p := s.strPipe k
  let v := s.applyShadow Reg.VIS_TOK_CTRL
  let ids := v.textIds p (v.tokensOf x.data.bytes).1
  ((v.freshN 1).placeSample p x.tag ids.length).mapSamples p
    (fun y => if y.tag = x.tag then { y with st := 2, out := textItems (s.itemBytes p) (ids.take (s.rowLen p)) } else y)

theorem State.textTokenized_completes {s : State} {k : Nat} {x : VSample}
    (hx : (s.vpipe (s.strPipe k)).samples.find? (fun y => y.stream == k && y.kind == 0 && y.pos.isNone) = some x)
    (hgo : if (s.vpipe (s.strPipe k)).restart.isSome then (s.vpipe (s.strPipe k)).replay.head? = some x.tag
      else s.pipeState (s.strPipe k) = 1) :
    s.textTokenized k 0 = ((s.textComplete k x).pumped (s.strPipe k)).setReg Reg.VIS_CNT_TOK_FALLBACK
      (s.reg Reg.VIS_CNT_TOK_FALLBACK + BitVec.ofNat 64 ((s.applyShadow Reg.VIS_TOK_CTRL).tokensOf x.data.bytes).2) := by
  unfold State.textTokenized
  extract_lets p v mayGo
  have hm : mayGo x = true := by
    unfold mayGo
    split at hgo
    · next h => rw [if_pos h]; exact beq_iff_eq.2 hgo
    · next h => rw [if_neg h]; exact beq_iff_eq.2 hgo
  rw [hx]
  dsimp only
  rw [hm]
  rfl

theorem State.text_textComplete (s : State) (k : Nat) (x : VSample) :
    ∀ y ∈ ((s.textComplete k x).vpipe (s.strPipe k)).samples, y.tag = x.tag →
      y.st = 2 ∧ y.out = textItems (s.itemBytes (s.strPipe k)) (((s.applyShadow Reg.VIS_TOK_CTRL).textIds (s.strPipe k)
        ((s.applyShadow Reg.VIS_TOK_CTRL).tokensOf x.data.bytes).1).take (s.rowLen (s.strPipe k))) := by
  unfold State.textComplete
  dsimp only
  rw [State.vpipe_mapSamples]
  intro y hy ht
  obtain ⟨z, _, rfl⟩ := List.mem_map.1 hy
  by_cases h : z.tag = x.tag
  · rw [if_pos h]
    exact ⟨rfl, rfl⟩
  · rw [if_neg h] at ht
    exact absurd ht h

/-! ## Batches (R253 to R255) -/

section
variable {s : State} {p : Nat}

theorem State.batchTimeout_closes {b : VBatch} {first : Nat} (hb : (s.vpipe p).batches.getLast? = some b) (hf : b.first = some first)
    (ht : s.fld (Reg.VIS_PIPE_TIMEOUT p) 0 20 ≠ 0) (hp : s.placing p = true) (hc : b.closed = false)
    (hl : s.fld (Reg.VIS_PIPE_TIMEOUT p) 0 20 * 1000 ≤ s.now - first) : s.batchTimeout p = s.closeBatch p 2 := by
  unfold State.batchTimeout
  dsimp only
  rw [hb]
  dsimp only
  rw [hf]
  exact if_pos ⟨ht, hp, by rw [hc]; rfl, hl⟩

/-- R177, R253: with its slot ready, the oldest batch is emitted. -/
theorem State.batchEmit_emits {u : State} {b : VBatch} {bs : List VBatch} (hb : (s.vpipe p).batches = b :: bs)
    (hp : s.pipeState p ≠ 0) (hc : b.closed = true) (hf : s.fld (Reg.VIS_PIPE_STATE p) 8 8 ≠ 0)
    (hd : ((s.vpipe p).emitted b).all (fun x => x.1.st == 2) = true)
    (hu : s.devPrep (s.fld (Reg.VIS_PIPE_OUT p) 0 48 + (s.vpipe p).slot * (s.slotLayout p).2.2) (s.slotLayout p).2.2 =
      (u, ⟨0, [], false⟩)) :
    s.batchEmit p = u.emitBatch p (s.fld (Reg.VIS_PIPE_OUT p) 0 48 + (s.vpipe p).slot * (s.slotLayout p).2.2)
      (s.fld (Reg.VIS_PIPE_STATE p) 8 8) b ((s.vpipe p).emitted b) := by
  have hno : ¬ (s.pipeState p = 0 ∨ (!b.closed) = true ∨ s.fld (Reg.VIS_PIPE_STATE p) 8 8 = 0 ∨
      (!((s.vpipe p).emitted b).all (fun x => x.1.st == 2)) = true) := by
    simp [hp, hc, hf, hd]
  unfold State.batchEmit
  extract_lets v
  split
  · next h => exact absurd (h.symm.trans hb) (List.cons_ne_nil _ _).symm
  next b' bs' h =>
  obtain ⟨rfl, rfl⟩ := List.cons.inj (h.symm.trans hb)
  extract_lets xs
  split
  · next hn => exact absurd hn hno
  split
  next t w he =>
  obtain ⟨rfl, rfl⟩ := Prod.mk.inj (he.symm.trans hu)
  rw [if_neg (not_not_intro rfl), if_neg (by decide)]

end

section
variable (s : State) (p a free : Nat) (b : VBatch) (xs : List (VSample × Nat × Nat))

theorem State.vpipe_emitBatch : (s.emitBatch p a free b xs).vpipe p = { s.vpipe p with
    batches := (s.vpipe p).batches.tail, slot := ((s.vpipe p).slot + 1) % Nat.max 1 (s.slotCount p),
    samples := (s.vpipe p).samples.filter (fun y => !(xs.any (fun x => x.1.tag == y.tag))) } := by
  unfold State.emitBatch
  dsimp only
  rw [State.vpipe_of_vis (State.setFld_vis _ _ _ _ _), State.vpipe_of_vis (State.setFld_vis _ _ _ _ _),
    State.vpipe_of_vis (State.setReg_vis _ _ _), State.vpipe_of_vis (State.units_vis (State.units_signal _ _ _)),
    State.vpipe_setVpipe]

/-- R253: the slot is taken, and the next batch is the one after. -/
theorem State.regs_emitBatch (hf : free < 2 ^ 8) :
    (s.emitBatch p a free b xs).fld (Reg.VIS_PIPE_STATE p) 8 8 = free - 1 ∧
    (s.emitBatch p a free b xs).fld (Reg.VIS_PIPE_STATE p) 16 32 = (b.seq + 1) % 2 ^ 32 ∧
    (s.emitBatch p a free b xs).reg Reg.VIS_CNT_SAMPLES = s.reg Reg.VIS_CNT_SAMPLES + BitVec.ofNat 64 xs.length := by
  have hne : Reg.VIS_CNT_SAMPLES ≠ Reg.VIS_PIPE_STATE p := by unfold Reg.VIS_CNT_SAMPLES Reg.VIS_PIPE_STATE; omega
  unfold State.emitBatch
  refine ⟨?_, ?_, ?_⟩
  · rw [State.fld_setFld_below _ _ _ _ _ _ _ (by decide) (by decide), State.fld_setFld_same _ _ _ _ _ (by decide),
      Nat.mod_eq_of_lt (by omega)]
  · rw [State.fld_setFld_same _ _ _ _ _ (by decide)]
  · rw [State.reg_setFld_other _ _ _ _ hne, State.reg_setFld_other _ _ _ _ hne, State.reg_setReg_same]

end

/-! ## Stops, replays and slots (R253, R257, R259) -/

section
variable {s : State} {p : Nat}

/-- R257: the last effects of PIPELINE_STOPPED are on its counter, on STATE and on the stop record. -/
theorem State.pipelineStopped_writes (hs : s.pipeState p = 2) (hb : (s.vpipe p).batches = []) :
    ∃ u : State, s.pipelineStopped p = ((u.setReg Reg.VIS_CNT_STOP (s.reg Reg.VIS_CNT_STOP + 1)).setFld
      (Reg.VIS_PIPE_STATE p) 0 2 3).setRegN (Reg.VIS_PIPE_STOP p) ((s.vpipe p).why.1 + (s.vpipe p).why.2.1 * 2 ^ 8 +
        (s.vpipe p).why.2.2 * 2 ^ 16 + (match (s.vpipe p).cut with | some c => c.2 | none => 0) * 2 ^ 48) :=
  ⟨_, if_neg (by simp [hs, hb])⟩

theorem State.regs_pipelineStopped (hs : s.pipeState p = 2) (hb : (s.vpipe p).batches = []) :
    (s.pipelineStopped p).pipeState p = 3 ∧ (s.pipelineStopped p).reg Reg.VIS_CNT_STOP = s.reg Reg.VIS_CNT_STOP + 1 ∧
    (s.pipelineStopped p).reg (Reg.VIS_PIPE_STOP p) = BitVec.ofNat 64 ((s.vpipe p).why.1 + (s.vpipe p).why.2.1 * 2 ^ 8 +
      (s.vpipe p).why.2.2 * 2 ^ 16 + (match (s.vpipe p).cut with | some c => c.2 | none => 0) * 2 ^ 48) := by
  have h1 : Reg.VIS_PIPE_STATE p ≠ Reg.VIS_PIPE_STOP p := by unfold Reg.VIS_PIPE_STATE Reg.VIS_PIPE_STOP; omega
  have h2 : Reg.VIS_CNT_STOP ≠ Reg.VIS_PIPE_STOP p := by unfold Reg.VIS_CNT_STOP Reg.VIS_PIPE_STOP; omega
  have h3 : Reg.VIS_CNT_STOP ≠ Reg.VIS_PIPE_STATE p := by unfold Reg.VIS_CNT_STOP Reg.VIS_PIPE_STATE; omega
  obtain ⟨u, hu⟩ := State.pipelineStopped_writes hs hb
  rw [hu]
  refine ⟨?_, ?_, State.reg_setRegN_same _ _ _⟩
  · exact (State.fld_ofReg (State.reg_setRegN_other _ _ h1) 0 2).trans (State.pipeState_setFld _ p 3)
  · rw [State.reg_setRegN_other _ _ h2, State.reg_setFld_other _ _ _ _ h3, State.reg_setReg_same]

/-- R259: the RESTART has ended and the pipeline runs. It has not yet started what it then can. -/
def State.replayed (s : State) (p r : Nat) : State :=
  ((s.endReq r 0 0 false).setVpipe p { s.vpipe p with restart := none }).setFld (Reg.VIS_PIPE_STATE p) 0 2 1

theorem State.req_replayed (r : Nat) : (s.replayed p r).req r = none := by
  rw [State.replayed, State.req_setFld]
  exact State.req_endReq_same _ _ _ _ _

theorem State.pipeState_replayed (r : Nat) : (s.replayed p r).pipeState p = 1 := State.pipeState_setFld _ p 1

theorem State.vpipe_replayed (r : Nat) : (s.replayed p r).vpipe p = { s.vpipe p with restart := none } := by
  rw [State.replayed, State.vpipe_of_vis (State.setFld_vis _ _ _ _ _), State.vpipe_setVpipe]

theorem State.replayDone_resumes {r : Nat} (hr : (s.vpipe p).restart = some r) (hq : (s.vpipe p).replay = []) :
    s.replayDone p = (s.replayed p r).pumped p := by
  unfold State.replayDone
  dsimp only
  rw [hr]
  exact if_neg (not_not_intro hq)

end

/-- R253: returned slots are free, never more than there are. -/
theorem State.free_pipeRelease (s : State) (p n : Nat) : (s.pipeRelease p n).fld (Reg.VIS_PIPE_STATE p) 8 8 =
    Nat.min (s.fld (Reg.VIS_PIPE_STATE p) 8 8 + n) (s.slotCount p) := by
  have hlt : s.slotCount p < 2 ^ 8 := bits_lt _ _ _
  exact (s.fld_setFld_same _ _ _ _ (by decide)).trans (Nat.mod_eq_of_lt (Nat.lt_of_le_of_lt (Nat.min_le_right _ _) hlt))

end Sys2Proof.Machine
end

section
/-! PROOFS. What the seven pipeline events answer with (R241 to R259). -/

namespace Sys2Proof.Machine

/-! ## The events (R241 to R259) -/

theorem State.reg_of_regs {s t : State} (h : t.regs = s.regs) (a : Nat) : t.reg a = s.reg a := congrArg (SMap.get regReset · a) h

/-- A command outside the time family answers with its effect's pipelines, registers and requests. -/
theorem done_answers (s u : State) : ∃ t, done s u = .next t ∧ t.vis = u.vis ∧ t.regs = u.regs ∧ t.que = u.que :=
  ⟨_, done_next s u, rfl, rfl, rfl⟩

/-- So does an engine event whose effect is known, while the engines run. -/
theorem work_answers {s u : State} (f : State → State) (h : s.running = true) (e : f s = u) :
    ∃ t, done s (s.work f) = .next t ∧ t.vis = u.vis ∧ t.regs = u.regs ∧ t.que = u.que := by
  rw [State.work_running h, e]
  exact done_answers s u

section
variable {s : State} {k : Fin 48} {p : Fin 16} (hr : s.running = true)
include hr

theorem exec_pictureDecoded_completes {x : VSample} {pic : DecodedPicture} (hx : s.leaving k = some x) (hc : pic.cause = 0) :
    ∃ (u t : State), exec (.pictureDecoded k pic) s = .next t ∧ t.vis = (u.pumped (s.strPipe k)).vis ∧
      t.regs = (u.pumped (s.strPipe k)).regs ∧
      (u.vpipe (s.strPipe k)).samples = (s.vpipe (s.strPipe k)).samples.map (fun y =>
        if y.mate x && y.st == 1 then { y with st := 2, out := s.decodedOut (s.strPipe k) y pic } else y) ∧
      (let crops := ((s.vpipe (s.strPipe k)).samples.filter (fun y => (y.mate x && y.st == 1) && y.kind == 3)).length
       u.reg Reg.VIS_CR_CNT_CALLS = s.reg Reg.VIS_CR_CNT_CALLS + BitVec.ofNat 64 (Nat.min crops 1) ∧
       u.reg Reg.VIS_CR_CNT_BOXES = s.reg Reg.VIS_CR_CNT_BOXES + BitVec.ofNat 64 crops) := by
  obtain ⟨t, ht, hvis, hregs, _⟩ := work_answers (·.pictureDecoded k pic) hr (State.pictureDecoded_completes hx hc)
  exact ⟨_, t, ht, hvis, hregs, s.samples_pictureComplete _ x pic, s.crops_pictureComplete _ x pic⟩

theorem exec_pictureDecoded_stops {x : VSample} {pic : DecodedPicture} {b row start : Nat} (hx : s.leaving k = some x)
    (hc : pic.cause ≠ 0) (hpos : x.pos = some (b, row, start)) (hs : s.pipeState (s.strPipe k) = 1)
    (hn : (s.vpipe (s.strPipe k)).restart = none)
    (hm : (s.vpipe (s.strPipe k)).samples.filter (fun y => y.mate x && y.st == 1) = [x])
    (hf : (s.vpipe (s.strPipe k)).samples.find? (fun y => y.tag == x.tag) = some x) :
    ∃ t, exec (.pictureDecoded k pic) s = .next t ∧ t.pipeState (s.strPipe k) = 2 ∧
      (t.vpipe (s.strPipe k)).cut = some (b, row) ∧
      (t.vpipe (s.strPipe k)).why = (stopStatus pic.cause pic.status, pic.cause, x.tag) ∧
      (t.vpipe (s.strPipe k)).batches = cutBatches (b, row) (s.vpipe (s.strPipe k)).batches := by
  obtain ⟨t, ht, hvis, hregs, _⟩ := work_answers (·.pictureDecoded k pic) hr (State.pictureDecoded_stops hx hc hpos hs hn hm hf)
  have hv := State.vpipe_mapSamples s (s.strPipe k) x.spoilt
  have hst := State.pipeState_beginStop (s.mapSamples (s.strPipe k) x.spoilt) (s.strPipe k) (c := (b, row))
    (why := (stopStatus pic.cause pic.status, pic.cause, x.tag)) ((congrArg VPipe.restart hv).trans hn)
  refine ⟨t, ht, (State.fld_ofReg (State.reg_of_regs hregs _) _ _).trans hst, ?_⟩
  rw [State.vpipe_of_vis hvis, State.vpipe_beginStop, hv]
  exact ⟨rfl, rfl, rfl⟩

theorem exec_textTokenized_completes {x : VSample}
    (hx : (s.vpipe (s.strPipe k)).samples.find? (fun y => y.stream == k.val && y.kind == 0 && y.pos.isNone) = some x)
    (hgo : if (s.vpipe (s.strPipe k)).restart.isSome then (s.vpipe (s.strPipe k)).replay.head? = some x.tag
      else s.pipeState (s.strPipe k) = 1) :
    ∃ (u t : State), exec (.textTokenized ⟨k, 0⟩) s = .next t ∧ t.vis = (u.pumped (s.strPipe k)).vis ∧
      (let v := s.applyShadow Reg.VIS_TOK_CTRL
       let r := v.tokensOf x.data.bytes
       let ids := v.textIds (s.strPipe k) r.1
       t.reg Reg.VIS_CNT_TOK_FALLBACK = s.reg Reg.VIS_CNT_TOK_FALLBACK + BitVec.ofNat 64 r.2 ∧
       ∀ y ∈ (u.vpipe (s.strPipe k)).samples, y.tag = x.tag →
         y.st = 2 ∧ y.out = textItems (s.itemBytes (s.strPipe k)) (ids.take (s.rowLen (s.strPipe k)))) := by
  obtain ⟨t, ht, hvis, hregs, _⟩ := work_answers (·.textTokenized k 0) hr (State.textTokenized_completes hx hgo)
  exact ⟨_, t, ht, hvis, (State.reg_of_regs hregs _).trans (State.reg_setReg_same _ _ _), s.text_textComplete k x⟩

theorem exec_batchTimeout_closes {b : VBatch} {first : Nat} (hb : (s.vpipe p).batches.getLast? = some b) (hf : b.first = some first)
    (ht : s.fld (Reg.VIS_PIPE_TIMEOUT p) 0 20 ≠ 0) (hp : s.placing p = true) (hc : b.closed = false)
    (hl : s.fld (Reg.VIS_PIPE_TIMEOUT p) 0 20 * 1000 ≤ s.now - first) :
    ∃ t, exec (.batchTimeout p) s = .next t ∧
      (t.vpipe p).batches = (s.vpipe p).batches.dropLast ++
        [{ b with closed := true, flags := b.flags ||| 2 }, VBatch.fresh (b.seq + 1) (s.batchRows p)] := by
  obtain ⟨t, he, hvis, _⟩ := work_answers (·.batchTimeout p) hr (State.batchTimeout_closes hb hf ht hp hc hl)
  refine ⟨t, he, ?_⟩
  rw [State.vpipe_of_vis hvis, State.vpipe_closeBatch _ _ _ hb]

theorem exec_batchEmit_emits {u : State} {b : VBatch} {bs : List VBatch} (hb : (s.vpipe p).batches = b :: bs)
    (hp : s.pipeState p ≠ 0) (hc : b.closed = true) (hf : s.fld (Reg.VIS_PIPE_STATE p) 8 8 ≠ 0)
    (hd : ((s.vpipe p).emitted b).all (fun x => x.1.st == 2) = true)
    (hu : s.devPrep (s.fld (Reg.VIS_PIPE_OUT p) 0 48 + (s.vpipe p).slot * (s.slotLayout p).2.2) (s.slotLayout p).2.2 =
      (u, ⟨0, [], false⟩)) :
    ∃ t, exec (.batchEmit p) s = .next t ∧ (t.vpipe p).batches = bs ∧
      (t.vpipe p).slot = ((s.vpipe p).slot + 1) % Nat.max 1 (s.slotCount p) ∧
      (t.vpipe p).samples =
        (s.vpipe p).samples.filter (fun y => !(((s.vpipe p).emitted b).any (fun x => x.1.tag == y.tag))) ∧
      t.fld (Reg.VIS_PIPE_STATE p) 8 8 = s.fld (Reg.VIS_PIPE_STATE p) 8 8 - 1 ∧
      t.fld (Reg.VIS_PIPE_STATE p) 16 32 = (b.seq + 1) % 2 ^ 32 ∧
      t.reg Reg.VIS_CNT_SAMPLES = u.reg Reg.VIS_CNT_SAMPLES + BitVec.ofNat 64 ((s.vpipe p).emitted b).length := by
  have hunits : u.units = s.units := (congrArg (fun z : State × AccessResult => z.1.units) hu).symm.trans (s.units_devPrep _ _)
  have hother : u.otherRegs = s.otherRegs :=
    (congrArg (fun z : State × AccessResult => z.1.otherRegs) hu).symm.trans (s.otherRegs_devPrep _ _)
  have hslots : u.slotCount p = s.slotCount p := State.fld_ofReg (State.reg_of_otherRegs hother (rangeAddr_visPipeShape p)) _ _
  obtain ⟨t, ht, hvis, hregs, _⟩ := work_answers (·.batchEmit p) hr (State.batchEmit_emits hb hp hc hf hd hu)
  obtain ⟨hfree, hseq, hcnt⟩ := u.regs_emitBatch p (s.fld (Reg.VIS_PIPE_OUT p) 0 48 + (s.vpipe p).slot * (s.slotLayout p).2.2)
    (s.fld (Reg.VIS_PIPE_STATE p) 8 8) b ((s.vpipe p).emitted b) (bits_lt _ _ _)
  have hreg := State.reg_of_regs hregs
  refine ⟨t, ht, ?_, ?_, ?_, (State.fld_ofReg (hreg _) _ _).trans hfree, (State.fld_ofReg (hreg _) _ _).trans hseq, (hreg _).trans hcnt⟩
  all_goals rw [State.vpipe_of_vis hvis, State.vpipe_emitBatch, State.vpipe_of_vis (State.units_vis hunits)]
  · rw [hb, List.tail_cons]
  · rw [hslots]

theorem exec_pipelineStopped_stops (hs : s.pipeState p = 2) (hb : (s.vpipe p).batches = []) :
    ∃ t, exec (.pipelineStopped p) s = .next t ∧ t.pipeState p = 3 ∧ t.reg Reg.VIS_CNT_STOP = s.reg Reg.VIS_CNT_STOP + 1 ∧
      t.reg (Reg.VIS_PIPE_STOP p) = BitVec.ofNat 64 ((s.vpipe p).why.1 + (s.vpipe p).why.2.1 * 2 ^ 8 +
        (s.vpipe p).why.2.2 * 2 ^ 16 + (match (s.vpipe p).cut with | some c => c.2 | none => 0) * 2 ^ 48) := by
  obtain ⟨t, ht, _, hregs, _⟩ := work_answers (·.pipelineStopped p) hr rfl
  obtain ⟨hstate, hcnt, hstop⟩ := State.regs_pipelineStopped hs hb
  have hreg := State.reg_of_regs hregs
  exact ⟨t, ht, (State.fld_ofReg (hreg _) _ _).trans hstate, (hreg _).trans hcnt, (hreg _).trans hstop⟩

theorem exec_restartReplayDone_resumes {r : Nat} (hn : (s.vpipe p).restart = some r) (hq : (s.vpipe p).replay = []) :
    ∃ (u t : State), exec (.restartReplayDone p) s = .next t ∧ t.vis = (u.pumped p).vis ∧ t.que = (u.pumped p).que ∧
      u.req r = none ∧ u.pipeState p = 1 ∧ (u.vpipe p).restart = none := by
  obtain ⟨t, ht, hvis, _, hque⟩ := work_answers (·.replayDone p) hr (State.replayDone_resumes hn hq)
  exact ⟨_, t, ht, hvis, hque, s.req_replayed r, s.pipeState_replayed r, congrArg VPipe.restart (s.vpipe_replayed r)⟩

end

/-- R253: VIS_PIPE_RELEASE changes the free slots of its pipeline only. -/
theorem exec_visPipeRelease_frees (s : State) (p : Fin 16) (n : BitVec 8) :
    ∃ t, exec (.visPipeRelease p n) s = .next t ∧
      t.fld (Reg.VIS_PIPE_STATE p) 8 8 = Nat.min (s.fld (Reg.VIS_PIPE_STATE p) 8 8 + n.toNat) (s.slotCount p) ∧
      ∀ a, a ≠ Reg.VIS_PIPE_STATE p → t.reg a = s.reg a := by
  obtain ⟨t, ht, _, hregs, _⟩ := done_answers s (s.pipeRelease p n.toNat)
  have hreg := State.reg_of_regs hregs
  exact ⟨t, ht, (State.fld_ofReg (hreg _) _ _).trans (s.free_pipeRelease p n.toNat),
    fun a ha => (hreg a).trans (s.reg_setFld_other _ _ _ ha)⟩

/-- Settles O26: one lemma per event says which state it answers with, before the pipeline starts what it then can; the registers
and the pipeline are read off from that state. -/
theorem pipelinesTakePlaceEmitAndStop : Obligations.PipelinesTakePlaceEmitAndStop :=
  fun s _ p hr => ⟨fun _ _ hx => ⟨exec_pictureDecoded_completes hr hx, fun _ _ _ => exec_pictureDecoded_stops hr hx⟩,
    fun _ => exec_textTokenized_completes hr, fun _ _ => exec_batchTimeout_closes hr, fun _ _ _ => exec_batchEmit_emits hr,
    exec_pipelineStopped_stops hr, fun _ => exec_restartReplayDone_resumes hr, exec_visPipeRelease_frees s p⟩

end Sys2Proof.Machine
end

section
/-! PROOFS. What the six intake commands do when they pass their checks (R244, R248, R253, R257 to R260). -/

namespace Sys2Proof.Machine

/-! ## A command that passes its checks -/

theorem State.req_of_que {s t : State} (h : t.que = s.que) (r : Nat) : t.req r = s.req r := congrArg (fun x : Que => x.reqs.find r) h

theorem State.vstr_of_vis {s t : State} (h : t.vis = s.vis) (k : Nat) : t.vstr k = s.vstr k := by
  unfold State.vstr
  rw [h]


theorem State.visAt_running {s : State} {r op : Nat} {q : Request} {d : Bytes} (h : s.visAt r op q d) : s.running = true := h.1.1

/-- R260: a command that passes its checks and whose inputs are read runs on the machine that has read them. -/
theorem State.visCommand_runs {s u : State} {r op : Nat} {q : Request} {d : Bytes} {act : Option Nat}
    {ins outs : Bytes → List (Nat × Nat)} (f : State → Request → Bytes → State) (h : s.visAt r op q d)
    (hop : 0x90 ≤ op ∧ op ≤ 0x93) (ha : ∀ a, act = some a → fieldLE d 1 1 = a)
    (hu : s.engineReads r q 4 (ins d) (outs d) true = (u, .ready)) :
    s.visCommand r op act ins outs f = f u q d := by
  obtain ⟨⟨_, hq, hg, hn, rfl⟩, ho, hm⟩ := h
  have hno : ¬ ((!s.gateOn 0x90) = true ∨ q.units = [0x90]) := by simp [hg, hn]
  have hknown : ¬ (op < 0x90 ∨ 0x93 < op) := by omega
  unfold State.visCommand
  rw [hq]
  dsimp only
  rw [if_neg hno, ho, if_neg hknown, if_neg, if_neg (not_not_intro hm), hu]
  cases act with
  | none => simp
  | some a => simp [ha a rfl]

/-- R258 to R260: no field of a command that passes its checks is out of range. -/
theorem State.visAt_fields {s : State} {r op : Nat} {q : Request} {d : Bytes} (h : s.visAt r op q d) : s.visBad d = false := by
  obtain ⟨_, _, hm⟩ := h
  unfold State.visMask at hm
  cases hb : s.visBad d with
  | false => rfl
  | true => simp [hb, b2n] at hm

/-- R248: a DICT_LOAD names bank 0 or 1. -/
theorem State.visAt_bank {s : State} {r : Nat} {q : Request} {d : Bytes} (h : s.visAt r 0x93 q d) : fieldLE d 1 1 ≤ 1 := by
  have hb := State.visAt_fields h
  simpa [State.visBad, h.2.1] using hb

/-! ## PIPE_CTL (R253, R257 to R259) -/

section
variable (u : State) (r : Nat) (q : Request) (d : Bytes)

/-- R257: what a stop without a corrupt sample does to a pipeline. -/
theorem State.stop_stopAfterOpen (p : Nat) (why : Nat × Nat × Nat) :
    ((u.stopAfterOpen p why).vpipe p).why = why ∧ ((u.stopAfterOpen p why).vpipe p).replay = [] := by
  unfold State.stopAfterOpen
  dsimp only
  rw [State.vpipe_beginStop]
  exact ⟨rfl, rfl⟩

theorem State.vpipe_pipeStopRun : (u.pipeStopRun r q d).vpipe (fieldLE d 2 1) =
    { ((u.visTake r q).stopAfterOpen (fieldLE d 2 1) (0, 0, 0)).vpipe (fieldLE d 2 1) with stopReq := some r } :=
  State.vpipe_setVpipe _ _ _

/-- R257, R259: with no RESTART in progress the pipeline is STOPPING, and the command waits. -/
theorem State.pipeStopRun_noRestart (h : (u.vpipe (fieldLE d 2 1)).restart = none) :
    (u.pipeStopRun r q d).pipeState (fieldLE d 2 1) = 2 ∧ (u.pipeStopRun r q d).req r = some { q with units := [0x90] } := by
  have hn : ((u.visTake r q).vpipe (fieldLE d 2 1)).restart = none := h
  refine ⟨State.pipeState_beginStop (u.visTake r q) _ hn, ?_⟩
  show ((u.visTake r q).beginStop (fieldLE d 2 1) _ _).req r = _
  rw [State.beginStop_noRestart _ _ hn, State.req_setFld]
  exact u.req_putReq r _

end

/-- R253: a FLUSH ends, and an open batch that holds a sample closes with flag 8. -/
theorem State.pipeFlush_closes {s u : State} {r : Nat} {q : Request} {d : Bytes} (h : s.visAt r 0x90 q d)
    (hu : s.engineReads r q 4 [] [] true = (u, .ready)) (ho : fieldLE d 1 1 = 3) :
    ∃ v : State, s.pipeFlush r = v.endReq r 0 0 false ∧ ∀ b, (u.vpipe (fieldLE d 2 1)).batches.getLast? = some b →
      (v.vpipe (fieldLE d 2 1)).batches =
        if b.tags = [] then (u.vpipe (fieldLE d 2 1)).batches
        else (u.vpipe (fieldLE d 2 1)).batches.dropLast ++ [{ b with closed := true, flags := b.flags ||| 8 },
          VBatch.fresh (b.seq + 1) (u.batchRows (fieldLE d 2 1))] := by
  refine ⟨_, State.visCommand_runs _ h (by decide) (fun a ha => ho.trans (Option.some.inj ha)) hu, fun b hb => ?_⟩
  rw [hb]
  by_cases ht : b.tags = []
  · simp [ht]
  · simp [ht, State.vpipe_closeBatch _ _ _ hb]

/-- R259: a RESTART waits, the pictures that it discards are counted, and its stream may skip to the next IRAP access unit. -/
def State.restartTaken (s : State) (r : Nat) (q : Request) (d : Bytes) : State :=
  let k := fieldLE d 4 4 / 2 ^ 26
  let res := s.restartRange (fieldLE d 2 1) (fieldLE d 4 4)
  let s1 := (s.visTake r q).add Reg.VIS_CNT_NONIRAP res.2.1
  if res.2.2 then s1.setVstr k { s1.vstr k with skipping := true } else s1

/-- R259: what a RESTART discards has gone, its batch is open and the replay set is in order. The pipeline has not yet started what it
then can. -/
def State.restartBegun (s : State) (r : Nat) (q : Request) (d : Bytes) : State :=
  let p := fieldLE d 2 1
  let again := (s.restartRange p (fieldLE d 4 4)).1.map VSample.again
  ((s.restartTaken r q d).setVpipe p { s.vpipe p with
    samples := again, batches := [], cut := none,
    replay := (again.foldr insertReplay []).map (·.tag), restart := some r }).openBatch p (s.fld (Reg.VIS_PIPE_STATE p) 16 32)

section
variable (u : State) (r : Nat) (q : Request) (d : Bytes)

theorem State.pipeRestartRun_pumps : u.pipeRestartRun r q d = (u.restartBegun r q d).pumped (fieldLE d 2 1) := (rfl)

theorem State.regs_restartTaken : (u.restartTaken r q d).regs =
    (u.add Reg.VIS_CNT_NONIRAP (u.restartRange (fieldLE d 2 1) (fieldLE d 4 4)).2.1).regs := by
  unfold State.restartTaken
  dsimp only
  split <;> rfl

theorem State.req_restartTaken : (u.restartTaken r q d).req r = some { q with units := [0x90] } := by
  unfold State.restartTaken
  dsimp only
  split <;> exact u.req_putReq r _

theorem State.vpipe_restartBegun : (u.restartBegun r q d).vpipe (fieldLE d 2 1) = { u.vpipe (fieldLE d 2 1) with
    samples := (u.restartRange (fieldLE d 2 1) (fieldLE d 4 4)).1.map VSample.again
    batches := [VBatch.fresh (u.fld (Reg.VIS_PIPE_STATE (fieldLE d 2 1)) 16 32) (u.batchRows (fieldLE d 2 1))]
    cut := none
    replay := (((u.restartRange (fieldLE d 2 1) (fieldLE d 4 4)).1.map VSample.again).foldr insertReplay []).map (·.tag)
    restart := some r } := by
  have hne : Reg.VIS_PIPE_SHAPE (fieldLE d 2 1) ≠ Reg.VIS_CNT_NONIRAP := by unfold Reg.VIS_PIPE_SHAPE Reg.VIS_CNT_NONIRAP; omega
  have hrows : (u.restartTaken r q d).batchRows (fieldLE d 2 1) = u.batchRows (fieldLE d 2 1) :=
    State.fld_ofReg ((State.reg_of_regs (u.regs_restartTaken r q d) _).trans (u.reg_add_other _ hne)) _ _
  unfold State.restartBegun
  dsimp only
  rw [State.vpipe_openBatch, State.vpipe_setVpipe, ← hrows]
  rfl

/-- R252: opening a batch reaches its pipeline and the time-out that applies to it. -/
theorem State.reg_openBatch_other (p seq : Nat) {a : Nat} (h : a ≠ Reg.VIS_PIPE_TIMEOUT p) : (u.openBatch p seq).reg a = u.reg a := by
  show (u.applyShadow (Reg.VIS_PIPE_TIMEOUT p)).reg a = u.reg a
  unfold State.applyShadow
  split
  · rfl
  · exact u.reg_setReg_other _ h

theorem State.que_openBatch (p seq : Nat) : (u.openBatch p seq).que = u.que := u.que_applyShadow _

/-- R259: the command waits for the replay. -/
theorem State.req_restartBegun : (u.restartBegun r q d).req r = some { q with units := [0x90] } :=
  (State.req_of_que (State.que_openBatch _ _ _) r).trans (u.req_restartTaken r q d)

/-- R259: the pictures that a RESTART discards are counted. -/
theorem State.counts_restartBegun : (u.restartBegun r q d).reg Reg.VIS_CNT_NONIRAP = u.reg Reg.VIS_CNT_NONIRAP +
    BitVec.ofNat 64 (u.restartRange (fieldLE d 2 1) (fieldLE d 4 4)).2.1 := by
  have hne : Reg.VIS_CNT_NONIRAP ≠ Reg.VIS_PIPE_TIMEOUT (fieldLE d 2 1) := by unfold Reg.VIS_CNT_NONIRAP Reg.VIS_PIPE_TIMEOUT; omega
  calc (u.restartBegun r q d).reg Reg.VIS_CNT_NONIRAP = (u.restartTaken r q d).reg Reg.VIS_CNT_NONIRAP :=
        State.reg_openBatch_other _ _ _ hne
    _ = _ := State.reg_of_regs (u.regs_restartTaken r q d) _
    _ = _ := u.reg_add_same _ _

end

/-! ## ROI_SET, TEXT and DICT_LOAD (R244, R248, R260) -/

section
variable {u : State} {r : Nat} {q : Request} {d : Bytes}

/-- R244: a list whose boxes leave their unused bytes 0 is installed. -/
theorem State.roiSetRun_installs
    (hz : ∀ i, i < fieldLE d 2 1 → fieldLE (u.peek (fieldLE d 8 8) (32 * fieldLE d 2 1)) (32 * i + 24) 8 = 0) :
    u.roiSetRun r q d = (u.setVstr (fieldLE d 1 1) { u.vstr (fieldLE d 1 1) with
      lists := (u.now, ⟨fieldLE d 4 1, time96Frac (fieldLE d 0x10 12), tab (fieldLE d 2 1) (fun i => tab 6 (fun j =>
        fieldLE (u.peek (fieldLE d 8 8) (32 * fieldLE d 2 1)) (32 * i + 4 * j) 4))⟩) ::
        (u.vstr (fieldLE d 1 1)).lists }).endReq r 0 0 false := by
  have hno : ¬ ((List.range (fieldLE d 2 1)).any (fun i =>
      fieldLE (u.peek (fieldLE d 8 8) (32 * fieldLE d 2 1)) (32 * i + 24) 8 != 0)) = true := by
    simpa using hz
  exact if_neg hno

/-- R237: one accepted sample takes one sequence number. -/
theorem State.seq_addSamples_one (s : State) (k : Nat) (x : SensorData) (stamp epoch : Nat) (e : Nat × Nat × List Nat) :
    (s.addSamples k x stamp epoch [e]).fld (Reg.VIS_STR_SEQ k) 0 26 = (s.fld (Reg.VIS_STR_SEQ k) 0 26 + 1) % 2 ^ 26 :=
  (State.fld_setFld_same _ _ _ _ _ (by decide)).trans (Nat.mod_mod _ _)

/-- The state in which a text's tag has been written and the latency that software wrote applies. -/
def State.textTagged (u : State) (r : Nat) (q : Request) (d : Bytes) : State :=
  (State.engineWrite (u, 0) r q 4 (fieldLE d 0x10 8)
    (natLE 4 (tagOf (fieldLE d 1 1) (u.fld (Reg.VIS_STR_SEQ (fieldLE d 1 1)) 0 26)))).1.applyShadow (Reg.VIS_STR_LAT (fieldLE d 1 1))

/-- R260: a text that finds room, and whose tag is written, is accepted. -/
theorem State.textRun_accepts (hroom : u.poolRoom (u.strPipe (fieldLE d 1 1)) (fieldLE d 4 4) = true)
    (hw : (State.engineWrite (u, 0) r q 4 (fieldLE d 0x10 8)
      (natLE 4 (tagOf (fieldLE d 1 1) (u.fld (Reg.VIS_STR_SEQ (fieldLE d 1 1)) 0 26)))).2 = 0) :
    u.textRun r q d = ((u.textTagged r q d).endReq r 0 0 false).addSamples (fieldLE d 1 1)
      (SensorData.text (u.peek (fieldLE d 8 8) (fieldLE d 4 4)))
      ((u.textTagged r q d).stampNow (fieldLE d 1 1) (if q.started then u.now - q.startNs else 0)).1
      ((u.textTagged r q d).stampNow (fieldLE d 1 1) (if q.started then u.now - q.startNs else 0)).2 [(0, 0xFF, [])] := by
  unfold State.textRun
  extract_lets k n w bs s1 t
  rw [if_neg (by simpa using hroom), if_neg (not_not_intro hw)]
  rfl

/-- R248: a sound image is put into its bank, whose valid bit is set last. -/
theorem State.dictLoadRun_loads (hd : dictOk (u.peek (fieldLE d 8 8) (fieldLE d 4 4)) = true) :
    ∃ v : State, u.dictLoadRun r q d = (v.endReq r 0 0 false).orReg Reg.VIS_TOK_CTRL (2 ^ (1 + fieldLE d 1 1)) ∧
      v.vis.banks.find (fieldLE d 1 1) = some (u.peek (fieldLE d 8 8) (fieldLE d 4 4)) := by
  unfold State.dictLoadRun
  extract_lets img b vis1 s1 s2
  rw [if_neg (by simp [img, hd])]
  refine ⟨s2, rfl, ?_⟩
  have h2 : s2.vis = s1.vis := by
    unfold s2
    split <;> rfl
  rw [h2]
  exact OMap.find_put_same _ _ _

end

/-! ## The commands -/

section
variable {s u : State} {r : Nat} {q : Request} {d : Bytes}

section
variable (h : s.visAt r 0x90 q d) (hu : s.engineReads r q 4 [] [] true = (u, .ready))
include h hu

theorem exec_pipeStop_waits (ho : fieldLE d 1 1 = 2) :
    ∃ t, exec (.pipeStop r) s = .next t ∧ (t.vpipe (fieldLE d 2 1)).stopReq = some r ∧
      (t.vpipe (fieldLE d 2 1)).why = (0, 0, 0) ∧ (t.vpipe (fieldLE d 2 1)).replay = [] ∧
      ((u.vpipe (fieldLE d 2 1)).restart = none →
        t.pipeState (fieldLE d 2 1) = 2 ∧ t.req r = some { q with units := [0x90] }) := by
  have e : s.pipeStop r = u.pipeStopRun r q d := State.visCommand_runs _ h (by decide) (fun a ha => ho.trans (Option.some.inj ha)) hu
  obtain ⟨t, ht, hvis, hregs, hque⟩ := work_answers (·.pipeStop r) (State.visAt_running h) e
  have hv := (State.vpipe_of_vis hvis (fieldLE d 2 1)).trans (u.vpipe_pipeStopRun r q d)
  obtain ⟨hwhy, hreplay⟩ := (u.visTake r q).stop_stopAfterOpen (fieldLE d 2 1) (0, 0, 0)
  refine ⟨t, ht, congrArg VPipe.stopReq hv, (congrArg VPipe.why hv).trans hwhy, (congrArg VPipe.replay hv).trans hreplay, fun hn => ?_⟩
  obtain ⟨hstate, hreq⟩ := u.pipeStopRun_noRestart r q d hn
  exact ⟨(State.fld_ofReg (State.reg_of_regs hregs _) _ _).trans hstate, (State.req_of_que hque r).trans hreq⟩

theorem exec_pipeFlush_ends (ho : fieldLE d 1 1 = 3) :
    ∃ t, exec (.pipeFlush r) s = .next t ∧ t.req r = none ∧
      ∀ b, (u.vpipe (fieldLE d 2 1)).batches.getLast? = some b →
        (t.vpipe (fieldLE d 2 1)).batches =
          if b.tags = [] then (u.vpipe (fieldLE d 2 1)).batches
          else (u.vpipe (fieldLE d 2 1)).batches.dropLast ++ [{ b with closed := true, flags := b.flags ||| 8 },
            VBatch.fresh (b.seq + 1) (u.batchRows (fieldLE d 2 1))] := by
  obtain ⟨v, e, hb⟩ := State.pipeFlush_closes h hu ho
  obtain ⟨t, ht, hvis, _, hque⟩ := work_answers (·.pipeFlush r) (State.visAt_running h) e
  refine ⟨t, ht, (State.req_of_que hque r).trans (v.req_endReq_same r 0 0 false), fun b hl => ?_⟩
  rw [State.vpipe_of_vis (hvis.trans (v.vis_endReq r 0 0 false))]
  exact hb b hl

theorem exec_pipeRestart_begins (ho : fieldLE d 1 1 = 1) :
    ∃ (w t : State), exec (.pipeRestart r) s = .next t ∧ t.vis = (w.pumped (fieldLE d 2 1)).vis ∧
      w.req r = some { q with units := [0x90] } ∧
      (let x := w.vpipe (fieldLE d 2 1)
       let kept := (u.restartRange (fieldLE d 2 1) (fieldLE d 4 4)).1.map VSample.again
       x.samples = kept ∧ x.replay = (kept.foldr insertReplay []).map (·.tag) ∧ x.restart = some r ∧ x.cut = none ∧
       x.batches = [VBatch.fresh (u.fld (Reg.VIS_PIPE_STATE (fieldLE d 2 1)) 16 32) (u.batchRows (fieldLE d 2 1))]) ∧
      w.reg Reg.VIS_CNT_NONIRAP = u.reg Reg.VIS_CNT_NONIRAP +
        BitVec.ofNat 64 (u.restartRange (fieldLE d 2 1) (fieldLE d 4 4)).2.1 := by
  have e : s.pipeRestart r = (u.restartBegun r q d).pumped (fieldLE d 2 1) :=
    (State.visCommand_runs _ h (by decide) (fun a ha => ho.trans (Option.some.inj ha)) hu).trans (u.pipeRestartRun_pumps r q d)
  obtain ⟨t, ht, hvis, _⟩ := work_answers (·.pipeRestart r) (State.visAt_running h) e
  refine ⟨_, t, ht, hvis, u.req_restartBegun r q d, ?_, u.counts_restartBegun r q d⟩
  rw [State.vpipe_restartBegun]
  exact ⟨rfl, rfl, rfl, rfl, rfl⟩

end

theorem exec_roiSet_installs (h : s.visAt r 0x91 q d)
    (hu : s.engineReads r q 4 [(fieldLE d 8 8, 32 * fieldLE d 2 1)] [] true = (u, .ready))
    (hz : ∀ i, i < fieldLE d 2 1 → fieldLE (u.peek (fieldLE d 8 8) (32 * fieldLE d 2 1)) (32 * i + 24) 8 = 0) :
    ∃ t, exec (.roiSet r) s = .next t ∧ t.req r = none ∧
      (t.vstr (fieldLE d 1 1)).lists = (u.now, ⟨fieldLE d 4 1, time96Frac (fieldLE d 0x10 12),
        tab (fieldLE d 2 1) (fun i => tab 6 (fun j =>
          fieldLE (u.peek (fieldLE d 8 8) (32 * fieldLE d 2 1)) (32 * i + 4 * j) 4))⟩) :: (u.vstr (fieldLE d 1 1)).lists := by
  have e : s.roiSet r = u.roiSetRun r q d := State.visCommand_runs _ h (by decide) (fun a ha => nomatch ha) hu
  obtain ⟨t, ht, hvis, _, hque⟩ := work_answers (·.roiSet r) (State.visAt_running h) (e.trans (State.roiSetRun_installs hz))
  refine ⟨t, ht, (State.req_of_que hque r).trans (State.req_endReq_same _ _ _ _ _), ?_⟩
  rw [State.vstr_of_vis (hvis.trans (State.vis_endReq _ _ _ _ _)), State.vstr_setVstr]

theorem exec_text_accepts (h : s.visAt r 0x92 q d)
    (hu : s.engineReads r q 4 [(fieldLE d 8 8, fieldLE d 4 4)] [(fieldLE d 0x10 8, 4)] true = (u, .ready))
    (hroom : u.poolRoom (u.strPipe (fieldLE d 1 1)) (fieldLE d 4 4) = true)
    (hw : (State.engineWrite (u, 0) r q 4 (fieldLE d 0x10 8)
      (natLE 4 (tagOf (fieldLE d 1 1) (u.fld (Reg.VIS_STR_SEQ (fieldLE d 1 1)) 0 26)))).2 = 0) :
    ∃ (w t : State), exec (.text r) s = .next t ∧ w.req r = none ∧
      (let v := (State.engineWrite (u, 0) r q 4 (fieldLE d 0x10 8)
        (natLE 4 (tagOf (fieldLE d 1 1) (u.fld (Reg.VIS_STR_SEQ (fieldLE d 1 1)) 0 26)))).1.applyShadow
          (Reg.VIS_STR_LAT (fieldLE d 1 1))
       let st := v.stampNow (fieldLE d 1 1) (if q.started then u.now - q.startNs else 0)
       w.vis = v.vis ∧
       t.vis = (w.addSamples (fieldLE d 1 1) (SensorData.text (u.peek (fieldLE d 8 8) (fieldLE d 4 4))) st.1 st.2 [(0, 0xFF, [])]).vis ∧
       t.fld (Reg.VIS_STR_SEQ (fieldLE d 1 1)) 0 26 = (w.fld (Reg.VIS_STR_SEQ (fieldLE d 1 1)) 0 26 + 1) % 2 ^ 26) := by
  have e : s.text r = u.textRun r q d := State.visCommand_runs _ h (by decide) (fun a ha => nomatch ha) hu
  obtain ⟨t, ht, hvis, hregs, _⟩ := work_answers (·.text r) (State.visAt_running h) (e.trans (State.textRun_accepts hroom hw))
  exact ⟨(u.textTagged r q d).endReq r 0 0 false, t, ht, State.req_endReq_same _ _ _ _ _, State.vis_endReq _ _ _ _ _, hvis,
    (State.fld_ofReg (State.reg_of_regs hregs _) _ _).trans (State.seq_addSamples_one _ _ _ _ _ _)⟩

theorem exec_dictLoad_loads (h : s.visAt r 0x93 q d)
    (hu : s.engineReads r q 4 [(fieldLE d 8 8, fieldLE d 4 4)] [] true = (u, .ready))
    (hd : dictOk (u.peek (fieldLE d 8 8) (fieldLE d 4 4)) = true) :
    ∃ t, exec (.dictLoad r) s = .next t ∧ t.req r = none ∧
      t.vis.banks.find (fieldLE d 1 1) = some (u.peek (fieldLE d 8 8) (fieldLE d 4 4)) ∧
      t.bit Reg.VIS_TOK_CTRL (1 + fieldLE d 1 1) = true := by
  have hbank := State.visAt_bank h
  have e : s.dictLoad r = u.dictLoadRun r q d := State.visCommand_runs _ h (by decide) (fun a ha => nomatch ha) hu
  obtain ⟨v, ev, hv⟩ := State.dictLoadRun_loads (r := r) (q := q) hd
  obtain ⟨t, ht, hvis, hregs, hque⟩ := work_answers (·.dictLoad r) (State.visAt_running h) (e.trans ev)
  refine ⟨t, ht, (State.req_of_que hque r).trans (v.req_endReq_same r 0 0 false), ?_, ?_⟩
  · rw [hvis, State.orReg_vis, State.vis_endReq]
    exact hv
  · rw [State.bit_ofReg (State.reg_of_regs hregs _), State.bit_orReg_same _ _ _ _ (by omega), Nat.testBit_two_pow_self, Bool.or_true]

end

/-- Settles O28: a command that passes its checks runs on the machine that has read its inputs, and the end of a request leaves the
Visor's intake alone. -/
theorem intakeCommandsComplete : Obligations.IntakeCommandsComplete :=
  ⟨fun _ _ _ _ _ h hu => ⟨exec_pipeStop_waits h hu, exec_pipeFlush_ends h hu, exec_pipeRestart_begins h hu⟩,
    fun _ _ _ _ _ => exec_roiSet_installs, fun _ _ _ _ _ => exec_text_accepts, fun _ _ _ _ _ => exec_dictLoad_loads⟩

end Sys2Proof.Machine
end

section
/-! PROOFS. What the operations of a Knuckle loop leave alone (R295 to R304): a boundary that comes takes the committed set and a
region switch, and no sample, window or result of the loop changes with it. -/

namespace Sys2Proof.Machine

/-! ## Loops -/

section
variable (s : State) (e l : Nat)

@[simp] theorem State.loopAt_setLoop (x : KnkLoop) : (s.setLoop e l x).loopAt e l = x := by
  simp [State.loopAt, State.setLoop]

theorem State.loopAt_of_knk {s t : State} (h : t.knk = s.knk) : t.loopAt e l = s.loopAt e l :=
  congrArg (fun k : Knk => (k.loops.find (slotKey e l)).getD KnkLoop.idle) h

@[simp] theorem State.loopAt_setReg (a : Nat) (w : Word) : (s.setReg a w).loopAt e l = s.loopAt e l := (rfl)
@[simp] theorem State.loopAt_setFld (a lo w v : Nat) : (s.setFld a lo w v).loopAt e l = s.loopAt e l := (rfl)
@[simp] theorem State.loopAt_add (a n : Nat) : (s.add a n).loopAt e l = s.loopAt e l := (rfl)
@[simp] theorem State.reg_setLoop (x : KnkLoop) (a : Nat) : (s.setLoop e l x).reg a = s.reg a := (rfl)
@[simp] theorem State.fld_setLoop (x : KnkLoop) (a lo w : Nat) : (s.setLoop e l x).fld a lo w = s.fld a lo w := (rfl)

@[simp] theorem State.reg_closeWindow (a : Nat) : (s.closeWindow e l).reg a = s.reg a := (rfl)
@[simp] theorem State.fld_closeWindow (a lo w : Nat) : (s.closeWindow e l).fld a lo w = s.fld a lo w := (rfl)

theorem State.loopAt_closeWindow : (s.closeWindow e l).loopAt e l = { s.loopAt e l with win := none, present := 0 } :=
  s.loopAt_setLoop e l _

theorem State.loopAt_wantLate (k : Nat) : (s.wantLate e l k).loopAt e l = { s.loopAt e l with late := some (s.knk.order, s.now, k) } :=
  s.loopAt_setLoop e l _

@[simp] theorem State.reg_wantLate (k a : Nat) : (s.wantLate e l k).reg a = s.reg a := (rfl)
@[simp] theorem State.fld_wantLate (k a lo w : Nat) : (s.wantLate e l k).fld a lo w = s.fld a lo w := (rfl)

end

/-! ## A sample boundary (R302, R304, R311) -/

/-- What a boundary leaves of a loop: all but whether it is still to come, the committed set and the region switched from. -/
def KnkLoop.sampling (x : KnkLoop) : KnkLoop := { x with ahead := false, old := none, pending := none }

/-- The state beside the loops, the registers and their shadows. -/
def State.offLoops (s : State) : State := { s with regs := [], shadow := [], knk := { s.knk with loops := [] } }

/-- From `s` to `t` only registers, shadows and loops change, and of loop `l` of engine `e` only what a boundary changes. -/
structure Passes (e l : Nat) (s t : State) : Prop where
  off : t.offLoops = s.offLoops
  loop : (t.loopAt e l).sampling = (s.loopAt e l).sampling

section
variable {e l : Nat} {s t u : State}

theorem Passes.refl (s : State) : Passes e l s s := ⟨rfl, rfl⟩

theorem Passes.trans (h : Passes e l s t) (k : Passes e l t u) : Passes e l s u := ⟨k.off.trans h.off, k.loop.trans h.loop⟩

theorem Passes.ite {c : Prop} [Decidable c] (ht : Passes e l s t) (hu : Passes e l s u) : Passes e l s (if c then t else u) := by
  split
  · exact ht
  · exact hu

theorem Passes.each {α : Type} (s : State) (xs : List α) (f : State → α → State) (hf : ∀ t x, Passes e l t (f t x)) :
    Passes e l s (each xs f s) :=
  each_inv (fun t => Passes e l s t) xs f s (Passes.refl s) (fun t x _ ht => ht.trans (hf t x))

theorem Passes.setLoop (s : State) {x : KnkLoop} (h : x.sampling = (s.loopAt e l).sampling) : Passes e l s (s.setLoop e l x) :=
  ⟨rfl, by rw [State.loopAt_setLoop, h]⟩

theorem Passes.setReg (s : State) (a : Nat) (w : Word) : Passes e l s (s.setReg a w) := ⟨rfl, rfl⟩

theorem Passes.setFld (s : State) (a lo w v : Nat) : Passes e l s (s.setFld a lo w v) := Passes.setReg s _ _

theorem Passes.applyShadow (s : State) (a : Nat) : Passes e l s (s.applyShadow a) := by
  unfold State.applyShadow
  split
  · exact Passes.refl s
  · exact ⟨rfl, rfl⟩

/-- R304: a committed set reaches registers and their shadows. -/
theorem Passes.applyPending (s : State) : Passes e l s (s.applyPending e l) := by
  unfold State.applyPending
  extract_lets x
  split
  · exact Passes.refl s
  · next ws _ =>
    extract_lets s1 q
    have h1 : Passes e l s s1 := Passes.each s ws _ (fun t w => Passes.ite ⟨rfl, rfl⟩ (Passes.setReg t _ _))
    have h2 : Passes e l s1 (s1.setLoop e l { x with pending := none }) := Passes.setLoop s1 h1.loop.symm
    exact h1.trans (h2.trans ((Passes.setFld _ _ _ _ _).trans (Passes.setFld _ _ _ _ _)))

/-- R302, R303: a region switch keeps the region that it leaves, for the offsets. -/
theorem Passes.applyRegion (s : State) : Passes e l s (s.applyRegion e l) := by
  unfold State.applyRegion
  extract_lets x g old
  refine Passes.ite (Passes.refl s) ?_
  have h : Passes e l s (s.setLoop e l { x with old := old }) := Passes.setLoop s rfl
  exact h.trans ((Passes.setFld _ _ _ _ _).trans (Passes.setReg _ _ _))

theorem Passes.passBoundary (s : State) : Passes e l s (s.passBoundary e l) := by
  unfold State.passBoundary
  refine Passes.ite ?_ (Passes.refl s)
  have h := ((Passes.setLoop s (x := { s.loopAt e l with ahead := false }) rfl).trans (Passes.applyPending _)).trans
    (Passes.applyRegion _)
  exact h.trans (Passes.each _ _ _ (fun t _ => Passes.applyShadow t _))

theorem Passes.pending (h : Passes e l s t) : t.pending = s.pending := (congrArg State.pending h.off :)

theorem Passes.time (h : Passes e l s t) : t.time = s.time := (congrArg State.time h.off :)

theorem Passes.runs (h : Passes e l s t) : t.knk.runs = s.knk.runs := (congrArg (fun u : State => u.knk.runs) h.off :)

/-- A part of a loop that no boundary changes is as it was. -/
theorem Passes.part {α : Type} (h : Passes e l s t) (f : KnkLoop → α) (hf : ∀ x : KnkLoop, f x.sampling = f x) :
    f (t.loopAt e l) = f (s.loopAt e l) := by
  rw [← hf, h.loop, hf]

end

/-! ## Readiness (R296) -/

section
variable (s : State) (e l : Nat)

/-- A loop that becomes ready changes in nothing else. -/
theorem State.loopAt_checkReady : ∃ r, (s.checkReady e l).loopAt e l = { s.loopAt e l with ready := r } := by
  unfold State.checkReady
  dsimp only
  split
  · exact ⟨_, rfl⟩
  · split
    · exact ⟨_, s.loopAt_setLoop e l _⟩
    · exact ⟨_, rfl⟩

theorem State.regs_checkReady : (s.checkReady e l).regs = s.regs := by
  unfold State.checkReady
  dsimp only
  split
  · rfl
  · split <;> rfl

/-- R296: a write of a latch that reaches a loop may count as a duplicate and changes no other register. -/
theorem State.reg_latchLoop (i : Nat) {a : Nat} (h : a ≠ Reg.KNK_CNT_DUP e) : (s.latchLoop e l i).reg a = s.reg a := by
  unfold State.latchLoop
  dsimp only
  split
  · rfl
  · split
    · exact s.reg_bump_other h
    · exact State.reg_of_regs (State.regs_checkReady _ e l) a

theorem State.reg_latchWrite (i v : Nat) : (s.latchWrite e i v).reg (Reg.KNK_LATCH e i) = BitVec.ofNat 64 (v % 2 ^ 32) :=
  each_inv (fun t : State => t.reg (Reg.KNK_LATCH e i) = BitVec.ofNat 64 (v % 2 ^ 32)) _ _ _ (s.reg_setRegN_same _ _)
    (fun t c _ ht => (t.reg_latchLoop e _ i (by unfold Reg.KNK_LATCH Reg.KNK_CNT_DUP; omega)).trans ht)

/-! ## The end of a window (R297) -/

/-- Misses below MISS_LIMIT are counted, and the loop goes on. -/
theorem State.loopMiss_below (n : Nat)
    (h : Nat.min 255 (s.fld (Reg.KNK_LOOP_STATE e l) 16 8 + n) < s.fld (Reg.KNK_LOOP_MISS e l) 0 8) :
    s.loopMiss e l n = (s.add (Reg.KNK_LOOP_CNT_MISS e l) n).setFld (Reg.KNK_LOOP_STATE e l) 16 8
      (Nat.min 255 (s.fld (Reg.KNK_LOOP_STATE e l) 16 8 + n)) := by
  unfold State.loopMiss
  exact if_neg (fun c => Nat.not_le.2 h c.2.1)

/-- A late compute that is wanted is all that MISS_POLICY may add to a miss. -/
theorem State.missWindow_cases (k : Nat) :
    s.missWindow e l k = (s.closeWindow e l).loopMiss e l 1 ∨
    s.missWindow e l k = ((s.closeWindow e l).loopMiss e l 1).wantLate e l k := by
  unfold State.missWindow
  dsimp only
  split
  · exact .inl rfl
  · exact .inr rfl

end

section
variable {s : State} {e l : Nat}

theorem State.pairEnd_alone (h : s.mate e l = none) (k : Nat) : s.pairEnd e l k = s := by
  unfold State.pairEnd
  rw [h]

/-- R297: the end of a window whose sample has neither started nor become ready is a miss of that sample. -/
theorem State.endWindow_misses {k : Nat} (hw : (s.loopAt e l).win = some k) (hb : (s.loopAt e l).begun = false)
    (hr : (s.loopAt e l).ready = none) (hm : s.mate e l = none) (hl : (s.loopAt e l).late = none) :
    s.endWindow e l = s.missWindow e l k := by
  unfold State.endWindow
  simp [hw, State.pairEnd_alone hm, hl, hr, hb]

/-- R297: such a miss, while the misses in a row stay below MISS_LIMIT, closes the window and counts. -/
theorem State.endWindow_counts (hw : (s.loopAt e l).win ≠ none) (hb : (s.loopAt e l).begun = false)
    (hr : (s.loopAt e l).ready = none) (hm : s.mate e l = none) (hl : (s.loopAt e l).late = none)
    (h : Nat.min 255 (s.fld (Reg.KNK_LOOP_STATE e l) 16 8 + 1) < s.fld (Reg.KNK_LOOP_MISS e l) 0 8) :
    ((s.endWindow e l).loopAt e l).win = none ∧
      (s.endWindow e l).reg (Reg.KNK_LOOP_CNT_MISS e l) = s.reg (Reg.KNK_LOOP_CNT_MISS e l) + 1 ∧
      (s.endWindow e l).fld (Reg.KNK_LOOP_STATE e l) 16 8 = Nat.min 255 (s.fld (Reg.KNK_LOOP_STATE e l) 16 8 + 1) := by
  obtain ⟨k, hk⟩ := Option.ne_none_iff_exists'.1 hw
  have hmiss := (s.closeWindow e l).loopMiss_below e l 1 (by simpa using h)
  have hwin : (((s.closeWindow e l).loopMiss e l 1).loopAt e l).win = none := by
    rw [hmiss, State.loopAt_setFld, State.loopAt_add, State.loopAt_closeWindow]
  have hcnt : ((s.closeWindow e l).loopMiss e l 1).reg (Reg.KNK_LOOP_CNT_MISS e l) = s.reg (Reg.KNK_LOOP_CNT_MISS e l) + 1 := by
    rw [hmiss, State.reg_setFld_other _ _ _ _ (by unfold Reg.KNK_LOOP_CNT_MISS Reg.KNK_LOOP_STATE; omega), State.reg_add_same,
      State.reg_closeWindow]
    rfl
  have hrow : ((s.closeWindow e l).loopMiss e l 1).fld (Reg.KNK_LOOP_STATE e l) 16 8 =
      Nat.min 255 (s.fld (Reg.KNK_LOOP_STATE e l) 16 8 + 1) := by
    rw [hmiss, State.fld_setFld_same _ _ _ _ _ (by decide), State.fld_closeWindow]
    exact Nat.mod_eq_of_lt (Nat.lt_of_le_of_lt (Nat.min_le_left _ _) (by decide))
  rw [State.endWindow_misses hk hb hr hm hl]
  obtain hcase | hcase := s.missWindow_cases e l k
  · rw [hcase]
    exact ⟨hwin, hcnt, hrow⟩
  · rw [hcase, State.loopAt_wantLate, State.reg_wantLate, State.fld_wantLate]
    exact ⟨hwin, hcnt, hrow⟩

end

end Sys2Proof.Machine
end

section
/-! PROOFS. What latch writes, sample boundaries, misses, computes and trace events of a Knuckle engine do (R295 to R310). -/

namespace Sys2Proof.Machine

/-! ## Windows (R295, R297) -/

section
variable (s : State) (e l k : Nat)

/-- R295: the next window opens, unless the end of the one before put the loop in FAULT; the loop moves on to the next sample. -/
theorem State.loopAt_nextWindow :
    ((s.nextWindow e l k).loopAt e l).next = k + 1 ∧
      ((s.nextOrder.endWindow e l).loopState e l ≠ 3 →
        ((s.nextWindow e l k).loopAt e l).win = some k ∧ ((s.nextWindow e l k).loopAt e l).begun = false) ∧
      ((s.nextOrder.endWindow e l).loopState e l = 3 →
        ((s.nextWindow e l k).loopAt e l).win = ((s.nextOrder.endWindow e l).loopAt e l).win) := by
  unfold State.nextWindow
  extract_lets u
  by_cases hf : u.loopState e l = 3
  · rw [if_pos hf, State.loopAt_setLoop]
    exact ⟨rfl, fun h => absurd hf h, fun _ => rfl⟩
  · obtain ⟨r, hready⟩ := State.loopAt_checkReady ((u.openWindow e l k).passBoundary e l) e l
    have hpass := Passes.passBoundary (e := e) (l := l) (u.openWindow e l k)
    have hopen : (u.openWindow e l k).loopAt e l =
        { u.loopAt e l with next := k + 1, ahead := true, win := some k, present := 0, begun := false } := u.loopAt_setLoop e l _
    rw [if_neg hf, hready]
    dsimp only
    rw [hpass.part KnkLoop.next (fun _ => rfl), hpass.part KnkLoop.win (fun _ => rfl), hpass.part KnkLoop.begun (fun _ => rfl), hopen]
    exact ⟨rfl, fun _ => ⟨rfl, rfl⟩, fun h => absurd h hf⟩

end

section
variable {s : State} {e l : Nat} (hr : s.loopRuns e l = true)
include hr

theorem State.sampleBoundary_opens (hd : due (s.nowOf (s.loopTb e l)) (s.windowAt e l (s.loopAt e l).next) = true) :
    s.sampleBoundary e l = (s.passBoundary e l).nextWindow e l (s.loopAt e l).next := by
  simp [State.sampleBoundary, hr, hd]

theorem State.sampleBoundary_passes (hd : due (s.nowOf (s.loopTb e l)) (s.windowAt e l (s.loopAt e l).next) = false) :
    s.sampleBoundary e l = s.passBoundary e l := by
  simp [State.sampleBoundary, hr, hd]

theorem State.sampleMiss_ends (hw : (s.loopAt e l).win ≠ none) (hb : (s.loopAt e l).begun = false)
    (hn : (s.loopAt e l).ready = none) (hd : due (s.nowOf (s.loopTb e l)) (s.windowAt e l (s.loopAt e l).next) = true) :
    s.sampleMiss e l = s.nextOrder.endWindow e l := by
  simp [State.sampleMiss, hr, hb, hn, hd, Option.isSome_iff_ne_none.2 hw]

end

/-! ## Computes (R290, R298, R302, R303) -/

section
variable (s : State) (e l : Nat)

@[simp] theorem State.loopState_putRun (f : Nat) (run : KnkRun) : (s.putRun f run).loopState e l = s.loopState e l := (rfl)

@[simp] theorem State.run_putRun (run : KnkRun) : (s.putRun e run).knk.runs.find e = some run := OMap.find_put_same _ _ _

@[simp] theorem State.loopAt_dropRun (f : Nat) : (s.dropRun f).loopAt e l = s.loopAt e l := (rfl)

theorem State.loopAt_setOffsets (d : List Int) : (s.setOffsets e l d).loopAt e l = { s.loopAt e l with d := d, old := none } :=
  s.loopAt_setLoop e l _

theorem State.loopAt_commitSample (x : List Int) (region : Nat) :
    (s.commitSample e l x region).loopAt e l = { s.loopAt e l with x := x, region := region, result := none } :=
  s.loopAt_setLoop e l _

end

section
variable {s : State} {e l : Nat}

/-- R290, R298: a compute that starts has the vector latched now. -/
theorem State.beginRun_starts {w : Nat × Nat × Nat} (hw : (s.loopAt e l).when = some w) :
    (s.beginRun e l).loopState e l = 2 ∧ (s.beginRun e l).knk.runs.find e =
      some ⟨l, w.2.2, s.loopVector e l (s.loopAt e l), w.2.1, s.now, (s.loopAt e l).late.isSome, false⟩ := by
  unfold State.beginRun
  dsimp only
  rw [hw]
  rw [State.loopState_putRun, State.run_putRun, State.loopState]
  exact ⟨State.fld_setFld_same _ _ _ _ _ (by decide), rfl⟩

/-- R298: an idle engine starts the loop that is chosen, once a boundary of it that has come is taken. -/
theorem State.computeStart_starts {sample ready : Nat} (hi : s.knk.runs.find e = none) (ht : (s.selfTest (0x84 + e)).running = false)
    (hq : s.quarantined (0x84 + e) = false) (hc : chooseLoop (s.readyLoops e) = some l)
    (hw : (s.loopAt e l).when.map (fun w => (w.2.2, w.2.1)) = some (sample, ready)) :
    (s.computeStart e).loopState e l = 2 ∧ (s.computeStart e).knk.runs.find e =
      some ⟨l, sample, (s.passBoundary e l).loopVector e l ((s.passBoundary e l).loopAt e l), ready, s.now,
        (s.loopAt e l).late.isSome, false⟩ := by
  have hstart : s.computeStart e = (s.passBoundary e l).beginRun e l := by simp [State.computeStart, hi, ht, hq, hc]
  have hpass := Passes.passBoundary (e := e) (l := l) s
  obtain ⟨w, hwhen, hfields⟩ := Option.map_eq_some_iff.1 hw
  obtain ⟨rfl, rfl⟩ := Prod.mk.inj hfields
  have hnow : (s.passBoundary e l).now = s.now := congrArg (fun t : TimeBases => t.tb0.val / 2 ^ 32 % 2 ^ 64) hpass.time
  have h := State.beginRun_starts ((hpass.part KnkLoop.when (fun _ => rfl)).trans hwhen)
  rwa [← hstart, hpass.part KnkLoop.late (fun _ => rfl), hnow] at h

/-- Whatever a compute's results do, the engine is free after it and a boundary that came meanwhile is taken (R311). -/
theorem State.computeDone_ends {run : KnkRun} (hf : s.knk.runs.find e = some run) (hs : run.slot = l) :
    ∃ v : State, s.computeDone e l =
      ((v.dropRun e).passBoundary e l).setReg (Reg.KNK_CNT_COMPUTE e) (s.reg (Reg.KNK_CNT_COMPUTE e) + 1) := by
  unfold State.computeDone
  rw [hf]
  dsimp only
  rw [if_neg (not_not_intro hs)]
  exact ⟨_, rfl⟩

/-- R290, R301: the results of a loop of its own that runs are its next state, region and offsets, and its outputs leave. -/
theorem State.computeDone_commits {run : KnkRun} (hf : s.knk.runs.find e = some run) (hs : run.slot = l)
    (hstop : run.stopped = false) (hst : s.loopState e l ≠ 3) (hm : s.mate e l = none)
    (hcasc : s.bit (Reg.KNK_LOOP_CFG e l) 13 = false) :
    ∃ v : State, s.computeDone e l =
      (((((v.setOffsets e l (s.control e l run.vec (s.loopAt e l)).d).commitSample e l (s.control e l run.vec (s.loopAt e l)).x
        (s.nextRegion e l run.vec)).emit e l (s.control e l run.vec (s.loopAt e l)).u false).dropRun e).passBoundary e l).setReg
          (Reg.KNK_CNT_COMPUTE e) (s.reg (Reg.KNK_CNT_COMPUTE e) + 1) := by
  unfold State.computeDone
  rw [hf]
  dsimp only
  rw [if_neg (not_not_intro hs), if_neg hst, hm, hcasc, hstop]
  exact ⟨_, rfl⟩

end

/-! ## Outputs (R301, R359, R367) -/

section
variable (s : State)

theorem State.knk_ite {c : Prop} [Decidable c] {b : Knk} {t u : State} (ht : t.knk = b) (hu : u.knk = b) :
    (if c then t else u).knk = b := by
  split
  · exact ht
  · exact hu

theorem State.knk_egress (p tc : Nat) (frame : Bytes) : (s.egress p tc frame).knk = s.knk :=
  State.knk_ite rfl (State.knk_ite (State.knk_ite rfl rfl : (s.countFrags p tc frame).knk = s.knk) rfl)

theorem State.knk_segReady (k : Nat) (output : Bool) (frame : Bytes) : (s.segReady k output frame).knk = s.knk :=
  State.knk_ite rfl (State.knk_ite rfl rfl)

theorem State.knk_sendOutput (n : Nat) (stale : Bool) : (s.sendOutput n stale).knk = s.knk :=
  State.knk_ite (State.knk_egress _ _ _ _) (State.knk_ite (State.knk_segReady _ _ _ _) rfl)

theorem State.knk_writeOutput (m : Nat) (bs : Bytes) : (s.writeOutput m bs).knk = s.knk :=
  State.knk_ite rfl (State.knk_ite (State.knk_sendOutput _ _ _) rfl)

/-- R301: the outputs of a loop without a cascade reach no engine. -/
theorem State.knk_emit (e l : Nat) (u : List Int) : (s.emit e l u false).knk = s.knk :=
  (State.units_knk (State.units_validResult _ _ _)).trans (s.knk_writeOutput _ _)

end

/-! ## The events -/

section
variable {s : State}

/-- An event that does not wait for the engines answers with its effect's registers and loops. -/
theorem done_showsLoops (s u : State) : ∃ t, done s u = .next t ∧ t.knk = u.knk ∧ t.regs = u.regs := ⟨_, done_next s u, rfl, rfl⟩

/-- So does an engine event, while the engines run. -/
theorem work_showsLoops (f : State → State) (h : s.running = true) :
    ∃ t, done s (s.work f) = .next t ∧ t.knk = (f s).knk ∧ t.regs = (f s).regs := by
  rw [State.work_running h]
  exact done_showsLoops s (f s)

variable {e : Fin 4}

theorem exec_knkLatchWrite_stores (s : State) (e : Fin 4) (i : Fin 1024) (v : BitVec 32) :
    ∃ t, exec (.knkLatchWrite e i v) s = .next t ∧ t.reg (Reg.KNK_LATCH e i) = BitVec.ofNat 64 v.toNat := by
  have h := s.nextOrder.reg_latchWrite e i v.toNat
  rw [Nat.mod_eq_of_lt v.isLt] at h
  exact ⟨_, done_next _ _, h⟩

theorem exec_traceTrigger_marks (h0 : s.bit (Reg.KNK_TRC_CTRL e) 0 = true) (h2 : s.bit (Reg.KNK_TRC_CTRL e) 2 = false)
    (h3 : s.bit (Reg.KNK_TRC_CTRL e) 3 = false) :
    ∃ t, exec (.traceTrigger e) s = .next t ∧ t.bit (Reg.KNK_TRC_CTRL e) 3 = true ∧
      t.fld (Reg.KNK_TRC_POS e) 32 16 = s.fld (Reg.KNK_TRC_POS e) 0 16 := by
  have htrig : s.triggerNow e = (s.setFld (Reg.KNK_TRC_POS e) 32 16 (s.fld (Reg.KNK_TRC_POS e) 0 16)).orReg (Reg.KNK_TRC_CTRL e) 8 := by
    simp [State.triggerNow, State.traceTrigger, h0, h2, h3]
  obtain ⟨t, ht, _, hregs⟩ := done_showsLoops s (s.triggerNow e)
  refine ⟨t, ht, ?_, ?_⟩
  · rw [State.bit_ofReg (State.reg_of_regs hregs _), htrig, State.bit_orReg_same _ _ _ _ (by decide)]
    exact Bool.or_true _
  · rw [State.fld_ofReg (State.reg_of_regs hregs _), htrig,
      State.fld_ofReg (State.reg_orReg_other _ _ (by unfold Reg.KNK_TRC_POS Reg.KNK_TRC_CTRL; omega)),
      State.fld_setFld_same _ _ _ _ _ (by decide)]
    exact Nat.mod_eq_of_lt (bits_lt _ _ _)

variable (hrun : s.running = true)
include hrun

theorem exec_sampleBoundary_opens {l : Fin 64} (hl : s.loopRuns e l = true)
    (hd : due (s.nowOf (s.loopTb e l)) (s.windowAt e l (s.loopAt e l).next) = true) :
    ∃ t, exec (.sampleBoundary e l) s = .next t ∧
      (let u := (s.passBoundary e l).nextOrder.endWindow e l
       let k := (s.loopAt e l).next
       (t.loopAt e l).next = k + 1 ∧
       (u.loopState e l ≠ 3 → (t.loopAt e l).win = some k ∧ (t.loopAt e l).begun = false) ∧
       (u.loopState e l = 3 → (t.loopAt e l).win = (u.loopAt e l).win)) := by
  obtain ⟨t, ht, hknk, _⟩ := work_showsLoops (fun u => u.sampleBoundary e l) hrun
  refine ⟨t, ht, ?_⟩
  rw [State.loopAt_of_knk e l hknk, State.sampleBoundary_opens hl hd]
  exact (s.passBoundary e l).loopAt_nextWindow e l _

theorem exec_sampleBoundary_passes {l : Fin 64} (hl : s.loopRuns e l = true)
    (hd : due (s.nowOf (s.loopTb e l)) (s.windowAt e l (s.loopAt e l).next) = false) :
    exec (.sampleBoundary e l) s = .next (s.passBoundary e l) := by
  have hpass := Passes.passBoundary (e := e) (l := l) s
  show done s (s.work fun u => u.sampleBoundary e l) = _
  rw [State.work_running hrun, State.sampleBoundary_passes hl hd]
  exact done_of_kept hpass.pending hpass.time

theorem exec_sampleMiss_counts {l : Fin 64} (hl : s.loopRuns e l = true) (hw : (s.loopAt e l).win ≠ none)
    (hb : (s.loopAt e l).begun = false) (hn : (s.loopAt e l).ready = none) (hm : s.mate e l = none)
    (hlate : (s.loopAt e l).late = none)
    (hd : due (s.nowOf (s.loopTb e l)) (s.windowAt e l (s.loopAt e l).next) = true)
    (hc : Nat.min 255 (s.fld (Reg.KNK_LOOP_STATE e l) 16 8 + 1) < s.fld (Reg.KNK_LOOP_MISS e l) 0 8) :
    ∃ t, exec (.sampleMiss e l) s = .next t ∧ (t.loopAt e l).win = none ∧
      t.reg (Reg.KNK_LOOP_CNT_MISS e l) = s.reg (Reg.KNK_LOOP_CNT_MISS e l) + 1 ∧
      t.fld (Reg.KNK_LOOP_STATE e l) 16 8 = Nat.min 255 (s.fld (Reg.KNK_LOOP_STATE e l) 16 8 + 1) := by
  obtain ⟨t, ht, hknk, hregs⟩ := work_showsLoops (fun u => u.sampleMiss e l) hrun
  refine ⟨t, ht, ?_⟩
  rw [State.loopAt_of_knk e l hknk, State.reg_of_regs hregs, State.fld_ofReg (State.reg_of_regs hregs _),
    State.sampleMiss_ends hl hw hb hn hd]
  exact State.endWindow_counts (s := s.nextOrder) hw hb hn hm hlate hc

theorem exec_loopComputeStart_starts {l sample ready : Nat} (hi : s.knk.runs.find e = none)
    (ht : (s.selfTest (0x84 + e)).running = false) (hq : s.quarantined (0x84 + e) = false)
    (hc : chooseLoop (s.readyLoops e) = some l)
    (hw : (s.loopAt e l).when.map (fun w => (w.2.2, w.2.1)) = some (sample, ready)) :
    ∃ t, exec (.loopComputeStart e) s = .next t ∧ t.loopState e l = 2 ∧
      (let u := s.passBoundary e l
       t.knk.runs.find e = some ⟨l, sample, u.loopVector e l (u.loopAt e l), ready, s.now, (s.loopAt e l).late.isSome, false⟩) := by
  obtain ⟨t, hnext, hknk, hregs⟩ := work_showsLoops (fun u => u.computeStart e) hrun
  obtain ⟨hstate, hfind⟩ := State.computeStart_starts hi ht hq hc hw
  exact ⟨t, hnext, (State.fld_ofReg (State.reg_of_regs hregs _) _ _).trans hstate, (congrArg (·.runs.find e) hknk).trans hfind⟩

theorem exec_loopComputeDone_ends {l : Fin 64} {run : KnkRun} (hf : s.knk.runs.find e = some run) (hs : run.slot = l.val) :
    ∃ t, exec (.loopComputeDone e l) s = .next t ∧ t.knk.runs.find e = none ∧
      t.reg (Reg.KNK_CNT_COMPUTE e) = s.reg (Reg.KNK_CNT_COMPUTE e) + 1 ∧
      (run.stopped = false → s.loopState e l ≠ 3 → s.mate e l = none → s.bit (Reg.KNK_LOOP_CFG e l) 13 = false →
        (t.loopAt e l).x = (s.control e l run.vec (s.loopAt e l)).x ∧ (t.loopAt e l).region = s.nextRegion e l run.vec ∧
        (t.loopAt e l).d = (s.control e l run.vec (s.loopAt e l)).d) := by
  obtain ⟨t, ht, hknk, hregs⟩ := work_showsLoops (fun u => u.computeDone e l) hrun
  refine ⟨t, ht, ?_, ?_, fun hstop hst hm hcasc => ?_⟩
  · obtain ⟨v, hv⟩ := State.computeDone_ends hf hs
    rw [hknk, hv, State.setReg_knk, (Passes.passBoundary _).runs]
    exact OMap.find_drop_same _ _
  · obtain ⟨v, hv⟩ := State.computeDone_ends hf hs
    rw [State.reg_of_regs hregs, hv, State.reg_setReg_same]
  · obtain ⟨v, hv⟩ := State.computeDone_commits hf hs hstop hst hm hcasc
    rw [State.loopAt_of_knk e l hknk, hv]
    rw [State.loopAt_setReg, (Passes.passBoundary _).part KnkLoop.x (fun _ => rfl),
      (Passes.passBoundary _).part KnkLoop.region (fun _ => rfl), (Passes.passBoundary _).part KnkLoop.d (fun _ => rfl),
      State.loopAt_dropRun, State.loopAt_of_knk e l (State.knk_emit _ _ _ _), State.loopAt_commitSample, State.loopAt_setOffsets]
    exact ⟨rfl, rfl, rfl⟩

theorem exec_traceWriteFail_stops (h0 : s.bit (Reg.KNK_TRC_CTRL e) 0 = true) (h17 : s.bit (Reg.KNK_TRC_POS e) 17 = false) :
    ∃ t, exec (.traceWriteFail e) s = .next t ∧ t.bit (Reg.KNK_TRC_POS e) 17 = true ∧ t.bit (Reg.KNK_FLAGS e) 3 = true := by
  obtain ⟨v, hv⟩ : ∃ v : State, s.traceFail e = (v.setFld (Reg.KNK_TRC_POS e) 17 1 1).orReg (Reg.KNK_FLAGS e) 8 := by
    unfold State.traceFail
    rw [if_neg (by simp [h0, h17])]
    exact ⟨_, rfl⟩
  obtain ⟨t, ht, _, hregs⟩ := work_showsLoops (fun u => u.traceFail e) hrun
  refine ⟨t, ht, ?_, ?_⟩
  · rw [State.bit_ofReg (State.reg_of_regs hregs _), hv,
      State.bit_ofReg (State.reg_orReg_other _ _ (by unfold Reg.KNK_TRC_POS Reg.KNK_FLAGS; omega))]
    exact State.bit_setFld_one _ _ _ (by decide)
  · rw [State.bit_ofReg (State.reg_of_regs hregs _), hv, State.bit_orReg_same _ _ _ _ (by decide)]
    exact Bool.or_true _

end

/-- Settles O32: each event is one of the loop's, the engine's or the trace's operations, and a boundary that it takes on the way
changes nothing that it decides. -/
theorem controlLoopsSampleAndCompute : Obligations.ControlLoopsSampleAndCompute := fun s e hrun =>
  ⟨exec_knkLatchWrite_stores s e, fun _ => exec_sampleBoundary_opens hrun, fun _ => exec_sampleBoundary_passes hrun,
    fun _ => exec_sampleMiss_counts hrun, fun _ _ _ => exec_loopComputeStart_starts hrun,
    fun _ _ => exec_loopComputeDone_ends hrun, exec_traceTrigger_marks, exec_traceWriteFail_stops hrun⟩

end Sys2Proof.Machine
end

section
/-! PROOFS. What KNK_COMMIT, KNK_LOAD, KNK_READ, COEFF_WORD_WRITE and LOOP_ENABLE do (R293 to R311). -/

namespace Sys2Proof.Machine

/-! ## Registers -/

theorem State.regN_ofReg {s t : State} {a : Nat} (h : t.reg a = s.reg a) : t.regN a = s.regN a := congrArg BitVec.toNat h

/-- A run of registers at addresses of their own, written one after another, reads as written. -/
theorem State.reg_iter_setRegN (s : State) (addr val : Nat → Nat) (n : Nat)
    (hinj : ∀ i j, i < n → j < n → addr i = addr j → i = j) :
    ∀ i, i < n → (iter n (fun t i => t.setRegN (addr i) (val i)) s).reg (addr i) = BitVec.ofNat 64 (val i) := by
  induction n with
  | zero => exact fun i hi => absurd hi (Nat.not_lt_zero i)
  | succ n ih =>
    intro i hi
    have hstep : iter (n + 1) (fun t i => t.setRegN (addr i) (val i)) s =
        (iter n (fun t i => t.setRegN (addr i) (val i)) s).setRegN (addr n) (val n) := by
      simp [iter, List.range_succ]
    rw [hstep]
    by_cases h : i = n
    · rw [h, State.reg_setRegN_same]
    · rw [State.reg_setRegN_other _ _ (fun e => h (hinj i n hi (Nat.lt_succ_self n) e))]
      exact ih (fun i j hi hj => hinj i j (Nat.lt_succ_of_lt hi) (Nat.lt_succ_of_lt hj)) i (by omega)

theorem State.que_iter_setRegN (s : State) (addr val : Nat → Nat) (n : Nat) :
    (iter n (fun t i => t.setRegN (addr i) (val i)) s).que = s.que := s.que_each _ _ (fun _ _ => rfl)

theorem State.que_uncommit (s : State) (k : Nat) : (s.uncommit k).que = s.que := State.que_ite rfl rfl

theorem nth_tab {α : Type} (d : α) (f : Nat → α) {n i : Nat} (h : i < n) : nth d (tab n f) i = f i := by
  simp [nth, tab, h]

/-! ## Committed sets (R304, R305) -/

section
variable {s : State} {e l : Nat}

theorem State.pendSet_waits (s : State) (e l : Nat) : (s.pendSet e l).bit (Reg.KNK_LOOP_STATE e l) 2 = true ∧
    ((s.pendSet e l).loopAt e l).pending = some ((loopRegs e l).filterMap (fun a => (s.shadow.find a).map (fun w => (a, w)))) :=
  ⟨State.bit_setFld_one _ _ _ (by decide), congrArg KnkLoop.pending (s.loopAt_setLoop e l _)⟩

theorem State.commitLoop_pends (ag : Agent) (hm : s.commitMask e l = 0) :
    s.commitLoop ag e l = (if s.loopRuns e l then s.passBoundary e l else s).pendSet e l := by
  unfold State.commitLoop
  dsimp only
  rw [if_neg (not_not_intro hm)]
  split <;> rfl

theorem State.commitLoop_refuses (ag : Agent) (hm : s.commitMask e l ≠ 0) :
    s.commitLoop ag e l = (s.orReg (Reg.KNK_REJECT e) (s.commitMask e l)).refuseRule ag (Reg.KNK_LOOP_CTRL e l) := if_pos hm

end

section
variable {s : State} {e : Fin 4} {l : Fin 64}

theorem exec_knkCommit_pends (hm : s.commitMask e l = 0) :
    ∃ t, exec (.knkCommit e l) s = .next t ∧ t.bit (Reg.KNK_LOOP_STATE e l) 2 = true ∧
      (t.loopAt e l).pending = some ((loopRegs e l).filterMap (fun a =>
        ((if s.loopRuns e l then s.passBoundary e l else s).shadow.find a).map (fun w => (a, w)))) := by
  obtain ⟨t, ht, hknk, hregs⟩ := done_showsLoops s (s.commitLoop software e l)
  obtain ⟨hbit, hpend⟩ := (if s.loopRuns e l then s.passBoundary e l else s).pendSet_waits e l
  refine ⟨t, ht, ?_, ?_⟩
  · rw [State.bit_ofReg (State.reg_of_regs hregs _), State.commitLoop_pends software hm]
    exact hbit
  · rw [State.loopAt_of_knk e l hknk, State.commitLoop_pends software hm]
    exact hpend

theorem exec_knkCommit_refuses (hm : s.commitMask e l ≠ 0) :
    ∃ t, exec (.knkCommit e l) s = .next t ∧ t.knk = s.knk ∧
      t.reg (Reg.KNK_REJECT e) = s.reg (Reg.KNK_REJECT e) ||| BitVec.ofNat 64 (s.commitMask e l) := by
  have hc := (s.orReg (Reg.KNK_REJECT e) (s.commitMask e l)).configOnly_refuseRule_software (Reg.KNK_LOOP_CTRL e l)
  rw [← State.commitLoop_refuses software hm] at hc
  refine ⟨_, next_of_configOnly rfl hc rfl rfl, State.units_knk hc.units, ?_⟩
  rw [hc.reg _ (by unfold Reg.KNK_REJECT; omega), State.reg_orReg_same]

end

/-! ## LOAD and READ (R306) -/

section
variable {s u : State} {r : Nat} {q : Request} {d : Bytes}

/-- R306: a command that passes its checks and whose ranges are readied runs on the machine that has them. -/
theorem State.knkCommand_runs {op : Nat} {ins outs : Bytes → List (Nat × Nat)} (f : State → Request → Bytes → State)
    (failed : State → Bytes → State) (hop : op = 0xA0 ∨ op = 0xA1) (hq : s.engReq r [0x14] = some q)
    (hd : d = s.peek q.cmdAddr 32) (hm : s.knkMask q d = 0) (ho : fieldLE d 0 1 = op)
    (hu : s.engineReads r q 5 (ins d) (outs d) true = (u, .ready)) :
    s.knkCommand r op ins outs f failed = f u q d := by
  subst hd
  unfold State.knkCommand
  rw [hq]
  dsimp only
  rw [ho, if_pos hop, if_neg (fun c => c.2 rfl), if_neg (not_not_intro hm), hu]

/-- R306: words with bits [63:37] clear are all written. -/
theorem State.knkLoadRun_stores (s : State) (r : Nat) (q : Request) (d : Bytes) {e : Nat} (he : fieldLE d 1 1 = e)
    (hw : ∀ i, i < fieldLE d 0x10 4 → fieldLE (s.peek (fieldLE d 8 8) (8 * fieldLE d 0x10 4)) (8 * i) 8 < 2 ^ 37) :
    (s.knkLoadRun r q d).req r = none ∧ ∀ i, i < fieldLE d 0x10 4 →
      (s.knkLoadRun r q d).regN (Reg.KNK_COEFF e (fieldLE d 4 4 + i)) =
        fieldLE (s.peek (fieldLE d 8 8) (8 * fieldLE d 0x10 4)) (8 * i) 8 := by
  subst he
  unfold State.knkLoadRun
  extract_lets e n bs ws
  have hsound : ¬ ws.any (fun w => decide (2 ^ 37 ≤ w)) = true := by
    intro hbig
    obtain ⟨w, hmem, hge⟩ := List.any_eq_true.1 hbig
    obtain ⟨i, hi, rfl⟩ := List.mem_map.1 hmem
    exact Nat.not_le.2 (hw i (List.mem_range.1 hi)) (of_decide_eq_true hge)
  rw [if_neg hsound]
  refine ⟨?_, fun i hi => ?_⟩
  · rw [State.req_of_que (State.que_uncommit _ _), State.req_of_que (State.que_iter_setRegN _ _ _ _)]
    exact State.req_endReq_same _ _ _ _ _
  · rw [State.regN_ofReg ((State.configOnly_uncommit _ _).reg _ (by unfold Reg.KNK_COEFF; omega))]
    have h := State.reg_iter_setRegN (s.endReq r 0 0 false) (fun i => Reg.KNK_COEFF e (fieldLE d 4 4 + i)) (fun i => nth 0 ws i) n
      (fun i j _ _ hij => by simp only [Reg.KNK_COEFF] at hij; omega) i hi
    rw [nth_tab 0 _ hi] at h
    refine (congrArg BitVec.toNat h).trans ?_
    rw [BitVec.toNat_ofNat]
    exact Nat.mod_eq_of_lt (Nat.lt_trans (hw i hi) (by decide))

end

section
variable {s u : State} {r : Nat} {q : Request} {d : Bytes} (hrun : s.running = true) (hq : s.engReq r [0x14] = some q)
  (hd : d = s.peek q.cmdAddr 32) (hm : s.knkMask q d = 0)
include hrun hq hd hm

theorem exec_knkLoad_stores {e : Nat} (he : fieldLE d 1 1 = e) (ho : fieldLE d 0 1 = 0xA0)
    (hu : s.engineReads r q 5 [(fieldLE d 8 8, 8 * fieldLE d 0x10 4)] [] true = (u, .ready))
    (hw : ∀ i, i < fieldLE d 0x10 4 → fieldLE (u.peek (fieldLE d 8 8) (8 * fieldLE d 0x10 4)) (8 * i) 8 < 2 ^ 37) :
    ∃ t, exec (.knkLoad r) s = .next t ∧ t.req r = none ∧ ∀ i, i < fieldLE d 0x10 4 →
      t.regN (Reg.KNK_COEFF e (fieldLE d 4 4 + i)) = fieldLE (u.peek (fieldLE d 8 8) (8 * fieldLE d 0x10 4)) (8 * i) 8 := by
  have hload : s.knkLoad r = u.knkLoadRun r q d := State.knkCommand_runs _ _ (.inl rfl) hq hd hm ho hu
  obtain ⟨hgone, hwords⟩ := State.knkLoadRun_stores u r q d he hw
  obtain ⟨t, ht, _, hregs, hque⟩ := work_answers (·.knkLoad r) hrun hload
  exact ⟨t, ht, (State.req_of_que hque r).trans hgone,
    fun i hi => (State.regN_ofReg (State.reg_of_regs hregs _)).trans (hwords i hi)⟩

theorem exec_knkRead_ends {e : Nat} (he : fieldLE d 1 1 = e) (ho : fieldLE d 0 1 = 0xA1)
    (hu : s.engineReads r q 5 [] (knkReadOuts d) true = (u, .ready))
    (hw : (State.engineWrite (u, 0) r q 5 (fieldLE d 8 8)
      ((List.range (fieldLE d 0x10 4)).flatMap (fun i => natLE 8 (u.coeff e (fieldLE d 4 4 + i))))).2 = 0) :
    ∃ t, exec (.knkRead r) s = .next t ∧ t.req r = none := by
  subst he
  have hread : s.knkRead r = _ := State.knkCommand_runs _ _ (.inr rfl) hq hd hm ho hu
  have hgone : (s.knkRead r).req r = none := by
    rw [hread]
    dsimp only
    rw [if_neg (not_not_intro hw)]
    exact State.req_endReq_same _ _ _ _ _
  obtain ⟨t, ht, _, _, hque⟩ := work_answers (·.knkRead r) hrun rfl
  exact ⟨t, ht, (State.req_of_que hque r).trans hgone⟩

end

/-! ## Coefficient words (R305) -/

section
variable {s : State} {e : Fin 4} {n : Fin 65536} {v : BitVec 64}

theorem exec_coeffWordWrite_stores (h : s.coeffInUse e n (n + 1) = false) :
    ∃ t, exec (.coeffWordWrite e n v) s = .next t ∧ t.regN (Reg.KNK_COEFF e n) = v.toNat % 2 ^ 37 := by
  obtain ⟨t, ht, _, hregs⟩ := done_showsLoops s (s.writeCoeff software e n v.toNat)
  refine ⟨t, ht, (State.regN_ofReg (State.reg_of_regs hregs _)).trans ?_⟩
  unfold State.writeCoeff
  rw [if_neg (by simp [h])]
  split
  · assumption
  · rw [State.regN_ofReg ((State.configOnly_uncommit _ _).reg _ (by unfold Reg.KNK_COEFF; omega)), State.regN_setRegN_same]
    exact Nat.mod_eq_of_lt (Nat.lt_trans (Nat.mod_lt _ (Nat.two_pow_pos 37)) (by decide))

theorem exec_coeffWordWrite_refuses (h : s.coeffInUse e n (n + 1) = true) :
    ∃ t, exec (.coeffWordWrite e n v) s = .next t ∧
      t.reg (Reg.KNK_COEFF e n) = s.reg (Reg.KNK_COEFF e n) ∧ t.bit (Reg.KNK_REJECT e) 6 = true := by
  have hc := ((s.cfgReject (0x68 + e)).orReg (Reg.KNK_REJECT e) 64).configOnly_refuseRule_software (Reg.KNK_COEFF e n)
  have hwrite : s.writeCoeff software e n v.toNat =
      ((s.cfgReject (0x68 + e)).orReg (Reg.KNK_REJECT e) 64).refuseRule software (Reg.KNK_COEFF e n) := if_pos h
  rw [← hwrite] at hc
  obtain ⟨t, ht, _, hregs⟩ := done_showsLoops s (s.writeCoeff software e n v.toNat)
  refine ⟨t, ht, ?_, ?_⟩
  · rw [State.reg_of_regs hregs, hc.reg _ (by unfold Reg.KNK_COEFF; omega),
      State.reg_orReg_other _ _ (by unfold Reg.KNK_COEFF Reg.KNK_REJECT; omega)]
    exact (s.configOnly_cfgReject (by omega)).reg _ (by unfold Reg.KNK_COEFF; omega)
  · rw [State.bit_ofReg (State.reg_of_regs hregs _), hc.bit (by unfold Reg.KNK_REJECT; omega),
      State.bit_orReg_same _ _ _ _ (by decide)]
    exact Bool.or_true _

end

/-! ## ENABLE of a loop (R293, R295, R300, R302, R311) -/

theorem knkLoopCfg_row : ∀ (e : Fin 4) (l : Fin 64), (regDef (Reg.KNK_LOOP_CFG e l)).map (fun d => (d.cls, d.base, d.fields)) =
    some (.rwq, 0xc001000, [⟨0, 1, .rw, 0⟩, ⟨1, 2, .rw, 0⟩, ⟨4, 4, .rw, 0⟩, ⟨8, 1, .rw, 0⟩, ⟨9, 1, .rw, 0⟩, ⟨10, 1, .rw, 0⟩,
      ⟨11, 1, .rw, 0⟩, ⟨12, 1, .rw, 0⟩, ⟨13, 1, .rw, 0⟩, ⟨16, 2, .rw, 0⟩, ⟨18, 6, .rw, 0⟩, ⟨24, 3, .rw, 0⟩]) := by
  decide +kernel

/-- R307: a write of KNK_LOOP_CFG stores PAIR_EN as written. -/
theorem testBit_writtenTo_pairEn (e : Fin 4) (l : Fin 64) (old v : Nat) :
    (writtenTo (Reg.KNK_LOOP_CFG e l) old v).testBit 11 = v.testBit 11 := by
  obtain ⟨d, hd, hrow⟩ := Option.map_eq_some_iff.1 (knkLoopCfg_row e l)
  obtain ⟨_, hbase, hfields⟩ : d.cls = _ ∧ d.base = _ ∧ d.fields = _ := by simpa using hrow
  have hclamp : ∀ x, clampReg 0xc001000 x = x := fun x => rfl
  have hpair : bits (writtenTo (Reg.KNK_LOOP_CFG e l) old v) 11 1 = bits v 11 1 := by
    unfold writtenTo
    simp only [hd, hbase, hclamp, RegDef.merge, hfields, List.foldl, RegField.write]
    repeat rw [bits_putBits_below _ _ _ _ _ _ (by decide)]
    rw [bits_putBits]
    exact Nat.mod_eq_of_lt (bits_lt _ _ _)
  rw [bits_eq, bits_eq, Nat.pow_one] at hpair
  rw [Nat.testBit_eq_decide_div_mod_eq, Nat.testBit_eq_decide_div_mod_eq, hpair]

/-- R300: KNK_UTIL is all that showing the load changes. -/
theorem State.reg_showUtil_other (s : State) (e : Nat) {a : Nat} (h : a ≠ Reg.KNK_UTIL e) : (s.showUtil e).reg a = s.reg a :=
  s.reg_setRegN_other _ h

@[simp] theorem State.loopAt_showUtil (s : State) (f e l : Nat) : (s.showUtil f).loopAt e l = s.loopAt e l :=
  State.loopAt_of_knk e l (State.setRegN_knk _ _ _)

section
variable (s : State) (e l : Nat) (waiting : Bool)

theorem State.reg_startLoop_other {a : Nat} (h : a ≠ Reg.KNK_LOOP_STATE e l) : (s.startLoop e l waiting).reg a = s.reg a :=
  State.reg_setRegN_other _ _ h

/-- R295: a loop that starts waits for a sample. -/
theorem State.loopState_startLoop : (s.startLoop e l waiting).loopState e l = 1 := by
  show bits ((s.startLoop e l waiting).regN (Reg.KNK_LOOP_STATE e l)) 0 2 = 1
  rw [State.startLoop, State.regN_setRegN_same, bits_eq]
  omega

/-- R293, R295, R302: a loop starts with state and offsets zero, in region 0, with no window open. -/
theorem State.loopAt_startLoop : (s.startLoop e l waiting).loopAt e l =
    { KnkLoop.idle with
      next := nextEdge (s.windowAt e l 0) (s.fld (Reg.KNK_LOOP_TIME e l) 0 32) 0 (s.nowOf (s.loopTb e l))
      x := List.replicate (s.loopNx e l) 0, d := List.replicate (s.loopNu e l) 0
      pending := (s.loopAt e l).pending, waiting := waiting } := s.loopAt_setLoop e l _

/-- R311: a loop that stops keeps only its committed set. -/
theorem State.loopAt_stopLoop : (s.stopLoop e l).loopAt e l = { KnkLoop.idle with pending := (s.loopAt e l).pending } :=
  State.loopAt_setLoop _ e l _

theorem State.bit_stopLoop (hl : l < 64) : (s.stopLoop e l).bit (Reg.KNK_STATE e) l = false := by
  unfold State.stopLoop
  extract_lets s0
  rw [State.bit_ofReg (State.reg_setFld_other _ _ _ _ (by unfold Reg.KNK_STATE Reg.KNK_LOOP_STATE; omega))]
  exact State.bit_setFld_zero _ _ _ hl

end

/-- A loop's configuration is stored and its slot shows as enabled (R311); it does not run yet. -/
def State.loopStored (s : State) (e l v : Nat) : State :=
  (s.storeReg (Reg.KNK_LOOP_CFG e l) v).setFld (Reg.KNK_STATE e) l 1 1

section
variable {s : State} {e l v : Nat} (ag : Agent)

theorem State.writeLoopCfg_starts (he : s.bit (Reg.KNK_LOOP_CFG e l) 0 = false) (hv : v.testBit 0 = true)
    (hm : s.loopMask e l v = 0) (hmate : (s.loopStored e l v).mate e l = none) :
    s.writeLoopCfg ag e l v = ((s.loopStored e l v).startLoop e l false).showUtil e := by
  unfold State.writeLoopCfg
  dsimp only
  rw [if_neg (by simp [he]), if_neg (by simp [hv]), if_neg (not_not_intro hm)]
  unfold State.loopStored at hmate ⊢
  rw [hmate]

theorem State.writeLoopCfg_refuses (he : s.bit (Reg.KNK_LOOP_CFG e l) 0 = false) (hv : v.testBit 0 = true)
    (hm : s.loopMask e l v ≠ 0) : s.writeLoopCfg ag e l v =
      (s.orReg (Reg.KNK_REJECT e) (s.loopMask e l v)).refuseRule ag (Reg.KNK_LOOP_CFG e l) := by
  simp [State.writeLoopCfg, he, hv, hm]

theorem State.writeLoopCfg_stops (he : s.bit (Reg.KNK_LOOP_CFG e l) 0 = true) (hv : v.testBit 0 = false) :
    s.writeLoopCfg ag e l v = ((s.stopLoop e l).clearEnable (Reg.KNK_LOOP_CFG e l) v).showUtil e := by
  simp [State.writeLoopCfg, he, hv]

end

section
variable {s : State} {e : Fin 4} {l : Fin 64}

theorem State.reg_loopStored (s : State) (e : Fin 4) (l : Fin 64) (v : Nat) {a : Nat} (ha : 0x20000 ≤ a) (hs : a ≠ Reg.KNK_STATE e) :
    (s.loopStored e l v).reg a = if a = Reg.KNK_LOOP_CFG e l then
      BitVec.ofNat 64 (writtenTo (Reg.KNK_LOOP_CFG e l) (s.shown (Reg.KNK_LOOP_CFG e l)).toNat v) else s.reg a := by
  have hcls : (regDef (Reg.KNK_LOOP_CFG e l)).map (·.cls) = some .rwq := by
    have h := congrArg (Option.map Prod.fst) (knkLoopCfg_row e l)
    rwa [Option.map_map] at h
  have hc := s.configOnly_storeReg_rwq v hcls
  exact (State.reg_setFld_other _ _ _ _ hs).trans ((hc.reg _ ha).trans (s.reg_setReg _ _ _))

/-- R307: a loop whose PAIR_EN is written as 0 has no pair. -/
theorem State.mate_loopStored (s : State) (e : Fin 4) (l : Fin 64) {v : Nat} (hp : v.testBit 11 = false) :
    (s.loopStored e l v).mate e l = none := by
  have hbit : ((s.loopStored e l v).regN (Reg.KNK_LOOP_CFG e l)).testBit 11 = false := by
    rw [State.regN, State.reg_loopStored s e l v (by unfold Reg.KNK_LOOP_CFG; omega) (by unfold Reg.KNK_LOOP_CFG Reg.KNK_STATE; omega),
      if_pos rfl, BitVec.toNat_ofNat, Nat.testBit_mod_two_pow, testBit_writtenTo_pairEn, hp, Bool.and_false]
  unfold State.mate
  simp [hbit]

variable {v : BitVec 64}

theorem exec_loopEnable_starts (he : s.bit (Reg.KNK_LOOP_CFG e l) 0 = false) (hv : v.getLsbD 0 = true)
    (hm : s.loopMask e l v.toNat = 0) (hp : v.getLsbD 11 = false) :
    ∃ t, exec (.loopEnable e l v) s = .next t ∧ t.loopState e l = 1 ∧ t.bit (Reg.KNK_STATE e) l = true ∧
      t.reg (Reg.KNK_LOOP_CFG e l) =
        BitVec.ofNat 64 (writtenTo (Reg.KNK_LOOP_CFG e l) (s.shown (Reg.KNK_LOOP_CFG e l)).toNat v.toNat) ∧
      (let x := t.loopAt e l
       x.x = List.replicate (s.loopNx e l) 0 ∧ x.d = List.replicate (s.loopNu e l) 0 ∧ x.region = 0 ∧ x.win = none ∧
       x.waiting = false) := by
  have hwrite := State.writeLoopCfg_starts software he hv hm (s.mate_loopStored e l hp)
  have hdim : (s.loopStored e l v.toNat).reg (Reg.KNK_LOOP_DIM e l) = s.reg (Reg.KNK_LOOP_DIM e l) :=
    (s.reg_loopStored e l v.toNat (by unfold Reg.KNK_LOOP_DIM; omega) (by unfold Reg.KNK_LOOP_DIM Reg.KNK_STATE; omega)).trans
      (if_neg (by unfold Reg.KNK_LOOP_DIM Reg.KNK_LOOP_CFG; omega))
  obtain ⟨t, ht, hknk, hregs⟩ := done_showsLoops s (s.writeLoopCfg software e l v.toNat)
  rw [hwrite] at hknk hregs
  have hreg : ∀ a, a ≠ Reg.KNK_UTIL e → t.reg a = ((s.loopStored e l v.toNat).startLoop e l false).reg a :=
    fun a ha => (State.reg_of_regs hregs a).trans (State.reg_showUtil_other _ _ ha)
  have hloop : t.loopAt e l = _ :=
    (State.loopAt_of_knk e l hknk).trans ((State.loopAt_showUtil _ _ _ _).trans (State.loopAt_startLoop _ e l false))
  refine ⟨t, ht, ?_, ?_, ?_, ?_⟩
  · exact (State.fld_ofReg (hreg _ (by unfold Reg.KNK_LOOP_STATE Reg.KNK_UTIL; omega)) _ _).trans (State.loopState_startLoop _ e l false)
  · rw [State.bit_ofReg (hreg _ (by unfold Reg.KNK_STATE Reg.KNK_UTIL; omega)),
      State.bit_ofReg (State.reg_startLoop_other _ _ _ _ (by unfold Reg.KNK_STATE Reg.KNK_LOOP_STATE; omega))]
    exact State.bit_setFld_one _ _ _ l.isLt
  · rw [hreg _ (by unfold Reg.KNK_LOOP_CFG Reg.KNK_UTIL; omega),
      State.reg_startLoop_other _ _ _ _ (by unfold Reg.KNK_LOOP_CFG Reg.KNK_LOOP_STATE; omega),
      State.reg_loopStored _ _ _ _ (by unfold Reg.KNK_LOOP_CFG; omega) (by unfold Reg.KNK_LOOP_CFG Reg.KNK_STATE; omega), if_pos rfl]
  · rw [hloop]
    exact ⟨congrArg (List.replicate · 0) (State.fld_ofReg hdim _ _), congrArg (List.replicate · 0) (State.fld_ofReg hdim _ _),
      rfl, rfl, rfl⟩

theorem exec_loopEnable_refuses (he : s.bit (Reg.KNK_LOOP_CFG e l) 0 = false) (hv : v.getLsbD 0 = true)
    (hm : s.loopMask e l v.toNat ≠ 0) :
    ∃ t, exec (.loopEnable e l v) s = .next t ∧ t.knk = s.knk ∧ t.reg (Reg.KNK_LOOP_CFG e l) = s.reg (Reg.KNK_LOOP_CFG e l) ∧
      t.reg (Reg.KNK_REJECT e) = s.reg (Reg.KNK_REJECT e) ||| BitVec.ofNat 64 (s.loopMask e l v.toNat) := by
  have hc := (s.orReg (Reg.KNK_REJECT e) (s.loopMask e l v.toNat)).configOnly_refuseRule_software (Reg.KNK_LOOP_CFG e l)
  rw [← State.writeLoopCfg_refuses software he hv hm] at hc
  refine ⟨_, next_of_configOnly rfl hc rfl rfl, State.units_knk hc.units, ?_, ?_⟩
  · rw [hc.reg _ (by unfold Reg.KNK_LOOP_CFG; omega),
      State.reg_orReg_other _ _ (by unfold Reg.KNK_LOOP_CFG Reg.KNK_REJECT; omega)]
  · rw [hc.reg _ (by unfold Reg.KNK_REJECT; omega), State.reg_orReg_same]

theorem exec_loopEnable_stops (he : s.bit (Reg.KNK_LOOP_CFG e l) 0 = true) (hv : v.getLsbD 0 = false) :
    ∃ t, exec (.loopEnable e l v) s = .next t ∧ t.bit (Reg.KNK_LOOP_CFG e l) 0 = false ∧ t.bit (Reg.KNK_STATE e) l = false ∧
      t.loopAt e l = { KnkLoop.idle with pending := (s.loopAt e l).pending } := by
  have hc := (s.stopLoop e l).configOnly_clearEnable (Reg.KNK_LOOP_CFG e l) v.toNat
  obtain ⟨t, ht, hknk, hregs⟩ := done_showsLoops s (s.writeLoopCfg software e l v.toNat)
  rw [State.writeLoopCfg_stops software he hv] at hknk hregs
  have hreg : ∀ a, 0x20000 ≤ a → a ≠ Reg.KNK_UTIL e →
      t.reg a = ((s.stopLoop e l).setFld (Reg.KNK_LOOP_CFG e l) 0 1 0).reg a := fun a ha hu =>
    (State.reg_of_regs hregs a).trans ((State.reg_showUtil_other _ _ hu).trans (hc.reg a ha))
  refine ⟨t, ht, ?_, ?_, ?_⟩
  · rw [State.bit_ofReg (hreg _ (by unfold Reg.KNK_LOOP_CFG; omega) (by unfold Reg.KNK_LOOP_CFG Reg.KNK_UTIL; omega))]
    exact State.bit_setFld_zero _ _ _ (by decide)
  · rw [State.bit_ofReg (hreg _ (by unfold Reg.KNK_STATE; omega) (by unfold Reg.KNK_STATE Reg.KNK_UTIL; omega)),
      State.bit_ofReg (State.reg_setFld_other _ _ _ _ (by unfold Reg.KNK_STATE Reg.KNK_LOOP_CFG; omega))]
    exact s.bit_stopLoop e l l.isLt
  · rw [State.loopAt_of_knk e l hknk, State.loopAt_showUtil, State.loopAt_of_knk e l (State.units_knk hc.units),
      State.loopAt_setFld, State.loopAt_stopLoop]

end

/-- Settles O33: a write that is refused reaches registers of the configuration area and KNK_REJECT only; an accepted one is the
operation it names. -/
theorem controlLoopsAreConfigured : Obligations.ControlLoopsAreConfigured := fun _ _ =>
  ⟨fun _ => ⟨exec_knkCommit_pends, exec_knkCommit_refuses⟩,
    fun _ _ _ _ hrun hq hd he hm => ⟨exec_knkLoad_stores hrun hq hd hm he, exec_knkRead_ends hrun hq hd hm he⟩,
    fun _ _ => ⟨exec_coeffWordWrite_stores, exec_coeffWordWrite_refuses⟩,
    fun _ _ => ⟨fun he hv => ⟨exec_loopEnable_starts he hv, exec_loopEnable_refuses he hv⟩, exec_loopEnable_stops⟩⟩

end Sys2Proof.Machine
end

section
/-! PROOFS. What the end of a request does to the Gusset units (R228, R230, R329): it may stop jobs of other requests, and begins none.
Of all that engines give up, only a Gusset's own release touches the two units. -/

namespace Sys2Proof.Machine

/-! ## What the engines give up -/

theorem State.gus_ite {c : Prop} [Decidable c] {b : Gus} {t u : State} (ht : t.gus = b) (hu : u.gus = b) :
    (if c then t else u).gus = b := by
  split
  · exact ht
  · exact hu

section
variable (s : State)

theorem State.gus_each {α : Type} (xs : List α) (f : State → α → State) (hf : ∀ t x, (f t x).gus = t.gus) :
    (each xs f s).gus = s.gus :=
  each_inv (fun t => t.gus = s.gus) xs f s rfl (fun t x _ ht => (hf t x).trans ht)

@[simp] theorem State.gus_setPage (n : Nat) (p : Page) : (s.setPage n p).gus = s.gus := (rfl)
@[simp] theorem State.gus_putReq (r : Nat) (q : Request) : (s.putReq r q).gus = s.gus := (rfl)
@[simp] theorem State.gus_ghavoc (g off n : Nat) : (s.ghavoc g off n).gus = s.gus := (rfl)
@[simp] theorem State.gus_setGnt (g : Nat) (x : Gnt) : (s.setGnt g x).gus = s.gus := (rfl)
@[simp] theorem State.gus_setBank (g : Nat) (b : Option Bank) : (s.setBank g b).gus = s.gus := State.setFld_gus _ _ _ _ _
@[simp] theorem State.gus_showGnt (g : Nat) : (s.showGnt g).gus = s.gus := State.setFld_gus _ _ _ _ _
@[simp] theorem State.gus_attUnqueue (r : Nat) : (s.attUnqueue r).gus = s.gus := (rfl)
@[simp] theorem State.gus_givePages (p : Nat) (ps : List Nat) : (s.givePages p ps).gus = s.gus := (rfl)

@[simp] theorem State.gus_giveFrame (code : Nat) : (s.giveFrame code).gus = s.gus := State.units_gus (s.units_giveFrame code)

@[simp] theorem State.gus_havocOut (c a n : Nat) : (s.havocOut c a n).gus = s.gus := State.units_gus (s.units_havocOut c a n)

@[simp] theorem State.gus_hold (a n : Nat) (up : Bool) : (s.hold a n up).gus = s.gus := State.units_gus (s.units_hold a n up)

@[simp] theorem State.gus_record (sev cls status block : Nat) (ctx : Option Nat) (u d : Nat) :
    (s.record sev cls status block ctx u d).gus = s.gus := State.units_gus (s.units_record ..)

@[simp] theorem State.gus_finishReq (r : Nat) (q : Request) (st d ok : Nat) (res : Bool) :
    (s.finishReq r q st d ok res).gus = s.gus := State.units_gus (s.units_finishReq ..)

@[simp] theorem State.gus_dropChunk (r p : Nat) : (s.dropChunk r p).gus = s.gus :=
  s.gus_each _ _ (fun _ _ => State.gus_ite rfl (State.gus_ite rfl rfl))

@[simp] theorem State.gus_releasePart (r p : Nat) (x : Part) (discard keepBank : Bool) :
    (s.releasePart r p x discard keepBank).gus = s.gus := by
  unfold State.releasePart
  extract_lets s1 s2
  have h1 : s1.gus = s.gus := s.gus_each _ _ (fun t j => State.gus_ite (by simp) (by simp))
  have h2 : s2.gus = s.gus := State.gus_ite (by simp [h1]) h1
  split
  · exact h2
  · exact (State.gus_showGnt _ _).trans (State.gus_ite (by simp [h2]) (by simp [h2]))

@[simp] theorem State.gus_havocBank (g : Nat) (d : Bytes) : (s.havocBank g d).gus = s.gus := by
  unfold State.havocBank
  split
  · rfl
  · exact State.gus_ite rfl rfl

@[simp] theorem State.gus_havocCommand (q : Request) (unit : Option Nat) (a op : Nat) :
    (s.havocCommand q unit a op).gus = s.gus := by
  unfold State.havocCommand
  dsimp only
  split
  · split
    · exact State.gus_ite (by simp) rfl
    · exact State.gus_ite (by simp) rfl
    · rfl
  split
  · rfl
  next g =>
  have h : (each (tileWrites (s.peek a 128)) (fun u w => if u.inWindow q.ctx w.1 w.2 then u.ghavoc g w.1 w.2 else u) s).gus = s.gus :=
    s.gus_each _ _ (fun t w => State.gus_ite rfl rfl)
  exact State.gus_ite (by simp [h]) h

@[simp] theorem State.gus_havocPart (q : Request) (x : Part) (keep : Option Nat) : (s.havocPart q x keep).gus = s.gus := by
  unfold State.havocPart
  split
  · rfl
  · exact s.gus_each _ _ (fun t e => State.gus_ite rfl (by simp))

@[simp] theorem State.gus_havocOuts (q : Request) (outs : List (Nat × Nat)) : (s.havocOuts q outs).gus = s.gus :=
  s.gus_each _ _ (fun t x => State.gus_ite rfl (by simp))

@[simp] theorem State.gus_havocNamed (q : Request) : (s.havocNamed q).gus = s.gus :=
  State.gus_ite (s.gus_each _ _ (fun t x => by simp)) (s.gus_havocOuts q _)

@[simp] theorem State.gus_discardContext (c : Nat) : (s.discardContext c).gus = s.gus := by
  unfold State.discardContext
  extract_lets s1
  refine s1.gus_each _ _ (fun t e => ?_)
  split
  · exact State.gus_ite rfl rfl
  · rfl

@[simp] theorem State.gus_setUmrJob (r : Nat) (j : Option UmrJob) : (s.setUmrJob r j).gus = s.gus := State.setFld_gus _ _ _ _ _

@[simp] theorem State.gus_releaseUmr (r : Nat) : (s.releaseUmr r).gus = s.gus := by
  unfold State.releaseUmr
  split
  · rfl
  refine (State.gus_setUmrJob _ _ _).trans (State.gus_ite (s.gus_each _ _ (fun t n => ?_)) rfl)
  split <;> simp

@[simp] theorem State.gus_havocAppends (c : Nat) (x : AttCall) : (s.havocAppends c x).gus = s.gus := by
  refine State.gus_ite rfl (s.gus_each _ _ (fun t e => ?_))
  split
  · rfl
  · exact State.gus_ite rfl (t.gus_each _ _ (fun u o => by simp))

@[simp] theorem State.gus_dropAtt (p : Nat) : (s.dropAtt p).gus = s.gus := by
  unfold State.dropAtt
  split
  · rfl
  next x _ =>
  extract_lets s0 s1
  have h0 : s0.gus = s.gus := by
    unfold s0
    split <;> simp
  exact (s0.gus_each (x.seqs.zip x.pages) (fun t e => t.givePages (e.1 % 4) e.2) (fun t e => by simp)).trans h0

@[simp] theorem State.gus_releaseAtt (r : Nat) : (s.releaseAtt r).gus = s.gus := by
  unfold State.releaseAtt
  dsimp only
  split <;> simp

@[simp] theorem State.gus_releaseCrop (r : Nat) : (s.releaseCrop r).gus = s.gus := by
  unfold State.releaseCrop
  split
  · rfl
  · exact State.gus_ite rfl rfl

@[simp] theorem State.gus_freeLaunch (r : Nat) (l : Launch) : (s.freeLaunch r l).gus = s.gus := by
  unfold State.freeLaunch
  extract_lets s1 s2 s3
  have h1 : s1.gus = s.gus := s.gus_each _ _ (fun t e =>
    State.gus_ite (t.gus_each _ _ (fun u y => by split <;> simp)) rfl)
  have h3 : s3.gus = s.gus := (s2.gus_each _ _ (fun t m => by simp)).trans h1
  refine State.gus_ite ((State.gus_each _ _ _ (fun t m => by simp)).trans ?_) h3
  exact (s3.gus_each _ _ (fun t p => by simp)).trans h3

@[simp] theorem State.gus_releaseLaunch (r : Nat) : (s.releaseLaunch r).gus = s.gus := by
  unfold State.releaseLaunch
  split
  · rfl
  next l _ =>
  refine (State.gus_each _ l.palms _ (fun t p => ?_)).trans (s.gus_freeLaunch r l)
  rfl

@[simp] theorem State.gus_trimEpochs : s.trimEpochs.gus = s.gus := by
  unfold State.trimEpochs
  dsimp only
  split <;> simp

@[simp] theorem State.gus_releasePcu (r : Nat) : (s.releasePcu r).gus = s.gus := by
  unfold State.releasePcu
  extract_lets p1 s1 p2 s2
  have h1 : s1.gus = s.gus := by
    unfold s1
    split
    · rfl
    dsimp only
    split
    · exact State.gus_ite rfl rfl
    · rfl
  have h2 : s2.gus = s1.gus := by
    unfold s2
    split
    · exact State.gus_ite rfl rfl
    · rfl
  exact ((State.setRegN_gus _ _ _).trans (State.gus_trimEpochs _)).trans (h2.trans h1)

/-- R329: the counters of a job that ends without a result are no part of the units. -/
@[simp] theorem State.gus_gusSpent (u : Nat) : (s.gusSpent u).gus = s.gus := by
  unfold State.gusSpent
  split
  · rfl
  · exact State.gus_ite (by simp) (State.gus_ite (by simp) (by simp))

end

/-! ## Jobs only end -/

/-- From `s` to `t` jobs of the Gusset units may end, and none begins. -/
def State.gusEnds (s t : State) : Prop := ∀ u, s.gus.jobs.find u = none → t.gus.jobs.find u = none

section
variable {s t u : State}

theorem State.gusEnds_refl (s : State) : s.gusEnds s := fun _ h => h

theorem State.gusEnds.trans (h : s.gusEnds t) (k : t.gusEnds u) : s.gusEnds u := fun g hg => k g (h g hg)

theorem State.gusEnds_of_gus (h : t.gus = s.gus) : s.gusEnds t := fun g hg => by rw [h]; exact hg

theorem State.gusEnds_ite {c : Prop} [Decidable c] (ht : s.gusEnds t) (hu : s.gusEnds u) : s.gusEnds (if c then t else u) := by
  split
  · exact ht
  · exact hu

theorem State.gusEnds_each {α : Type} (s : State) (xs : List α) (f : State → α → State) (hf : ∀ (t : State) x, t.gusEnds (f t x)) :
    s.gusEnds (each xs f s) :=
  each_inv (fun t => s.gusEnds t) xs f s s.gusEnds_refl (fun t x _ h => h.trans (hf t x))

end

section
variable (s : State)

@[simp] theorem State.gusJob_gusIdle (u : Nat) : (s.gusIdle u).gus.jobs.find u = none := OMap.find_drop_same _ _

theorem State.gusEnds_gusIdle (u : Nat) : s.gusEnds (s.gusIdle u) := fun g hg => by
  by_cases h : g = u
  · rw [h, State.gusJob_gusIdle]
  · exact (OMap.find_drop_other _ h).trans hg

/-- R329: a stopped job's units are idle; the units of other jobs are as before. -/
theorem State.gusEnds_releaseGus (q : Request) : s.gusEnds (s.releaseGus q) :=
  s.gusEnds_each _ _ (fun t _ => (State.gusEnds_of_gus (t.gus_gusSpent _)).trans (State.gusEnds_gusIdle _ _))

/-- What any engine gives up for a request that stops. -/
theorem State.gusEnds_releaseReq (r : Nat) (q : Request) : s.gusEnds (s.releaseReq r q) := by
  unfold State.releaseReq
  extract_lets s1
  have h1 : s.gusEnds s1 := State.gusEnds_of_gus (State.gus_havocNamed _ _)
  have keeps : ∀ {t : State}, t.gus = s1.gus → s.gusEnds t := fun e => h1.trans (State.gusEnds_of_gus e)
  exact State.gusEnds_ite (keeps (by simp)) <| State.gusEnds_ite (keeps (by simp)) <| State.gusEnds_ite (keeps (by simp)) <|
    State.gusEnds_ite (keeps (by simp)) <| State.gusEnds_ite (keeps (by simp)) <|
    State.gusEnds_ite (h1.trans (s1.gusEnds_releaseGus q)) <| State.gusEnds_ite (keeps (by simp)) <|
    State.gusEnds_ite (keeps (by simp)) h1

theorem State.gus_stopParts (r st : Nat) (skip : Option Nat) : (s.stopParts r st skip).gus = s.gus := by
  unfold State.stopParts
  split
  · rfl
  refine (State.gus_each _ _ _ (fun t i => ?_)).trans (s.gus_putReq _ _)
  split
  · rfl
  split
  · rfl
  exact State.gus_ite rfl (by simp)

/-- R204: a request that ends, with unspecified outputs where it is cancelled. -/
theorem State.gus_cancelled (c r : Nat) (q : Request) (st d ok : Nat) (res : Bool) :
    ((if c = 7 then s.havocNamed q else s).finishReq r q st d ok res).gus = s.gus :=
  (State.gus_finishReq _ _ _ _ _ _ _).trans (State.gus_ite (by simp) rfl)

theorem State.gus_finishParts (r : Nat) : (s.finishParts r).gus = s.gus := by
  unfold State.finishParts
  split
  · rfl
  · exact State.gus_ite (s.gus_cancelled _ _ _ _ _ _ _) rfl

theorem State.gusEnds_stopRunning (r st : Nat) : s.gusEnds (s.stopRunning r st) := by
  unfold State.stopRunning
  split
  · exact s.gusEnds_refl
  refine State.gusEnds_ite (State.gusEnds_of_gus ((State.gus_finishParts _ _).trans (s.gus_stopParts _ _ _)))
    (State.gusEnds_ite (State.gusEnds_of_gus (s.gus_putReq _ _)) ?_)
  exact (s.gusEnds_releaseReq _ _).trans (State.gusEnds_of_gus (State.gus_finishReq _ _ _ _ _ _ _))

/-- R228: a teardown may stop the jobs of its context. -/
theorem State.gusEnds_teardown (c st : Nat) (keep : Option Nat) : s.gusEnds (s.teardown c st keep) := by
  unfold State.teardown
  refine State.gusEnds_ite s.gusEnds_refl ?_
  extract_lets s1 s2 s3
  have h3 : s3.gus = s.gus := by simp [s3, s2, s1]
  refine (State.gusEnds_of_gus h3).trans (State.gusEnds_each _ _ _ (fun t e => ?_))
  split
  · exact t.gusEnds_refl
  split
  · exact State.gusEnds_of_gus (t.gus_cancelled _ _ _ _ _ _ _)
  · exact t.gusEnds_stopRunning _ _

theorem State.gus_settle (n : Nat) : (State.settle n s).gus = s.gus := by
  induction n generalizing s with
  | zero => rfl
  | succ n ih =>
    unfold State.settle
    split
    · rfl
    · exact (ih _).trans (State.gus_cancelled _ _ _ _ _ _ _ _)

/-- R168: contexts whose records could not be written are torn down once all that others' ends release has ended. -/
theorem State.gusEnds_settled : s.gusEnds s.settled := by
  unfold State.settled
  extract_lets s1 s2 s3
  have h1 : s.gusEnds s1 := State.gusEnds_of_gus (s.gus_settle _)
  have h2 : s1.gusEnds s2 := s1.gusEnds_each _ _ (fun t c => t.gusEnds_teardown c 8 none)
  have h3 : s2.gusEnds s3 := State.gusEnds_of_gus (s2.gus_settle _)
  exact State.gusEnds_ite h1 ((h1.trans h2).trans h3)

/-- R203, R228: the end of a request begins no job. -/
theorem State.gusEnds_endReq (r st d : Nat) (res : Bool) : s.gusEnds (s.endReq r st d res) := by
  unfold State.endReq
  split
  · exact s.gusEnds_refl
  next q _ =>
  extract_lets s1 s2
  have h1 : s.gusEnds s1 := State.gusEnds_of_gus (s.gus_finishReq ..)
  have h2 : s.gusEnds s2 := State.gusEnds_ite (h1.trans (s1.gusEnds_teardown _ _ _)) h1
  exact h2.trans s2.gusEnds_settled

end
end Sys2Proof.Machine
end

section
/-! PROOFS. How micro-ops assemble a job's system and how jobs end (R315, R316, R325, R328, R329). -/

namespace Sys2Proof.Machine

/-! ## The words of the user areas -/

theorem State.gusWord_of_gus {s t : State} (h : t.gus = s.gus) (u i : Nat) : t.gusWord u i = s.gusWord u i := by
  unfold State.gusWord
  rw [h]

theorem State.gusWord_setGusWord_other (s : State) (u v : Nat) {i k : Nat} (h : k ≠ i) :
    (s.setGusWord u i v).gusWord u k = s.gusWord u k :=
  SMap.get_set_other _ _ _ (fun e => h (Nat.add_left_cancel e))

/-- Destination word of element (a, b) of a micro-op's source: TRANSPOSE swaps the two. -/
def microDstWord (op : Bytes) (a b : Nat) : Nat :=
  if fieldLE op 0 1 = 4 then fieldLE op 0x10 4 + b * fieldLE op 0x14 4 + a else fieldLE op 0x10 4 + a * fieldLE op 0x14 4 + b

/-- R315: a micro-op writes its destination words only. -/
theorem State.gusWord_microRun (s : State) (g : Nat) (base : List Nat) (op : Bytes) {w : Nat}
    (h : ∀ a b, a < fieldLE op 4 2 → b < fieldLE op 6 2 → w ≠ microDstWord op a b) :
    (s.microRun g base op).gusWord g w = s.gusWord g w :=
  iter_inv (fun t : State => t.gusWord g w = s.gusWord g w) _ _ _ rfl (fun _ a ha ht =>
    iter_inv (fun t : State => t.gusWord g w = s.gusWord g w) _ _ _ ht (fun _ b hb ht =>
      (State.gusWord_setGusWord_other _ _ _ (h a b ha hb)).trans ht))

/-! ## The next micro-op -/

/-- What a micro-op whose operands are read does on the machine that has read them: its words are formed, the job goes on to its next
micro-op, and after the last one the unit factors. -/
def State.microStep (u : State) (g : Nat) (j : GusJob) : State :=
  let t := (u.microRun g j.base (microAt j.prog j.next)).setGus g { j with next := j.next + 1 }
  if j.prog.length ≤ 32 * (j.next + 1) then t.setFld (Reg.GUS_STATE g) 0 2 2 else t

/-- From `u` to `t` the next micro-op of job `j` of unit `g` has run. -/
def State.microRan (u : State) (g : Nat) (j : GusJob) (t : State) : Prop :=
  t.gus.jobs.find g = some { j with next := j.next + 1 } ∧
  t.gus.store = (u.microRun g j.base (microAt j.prog j.next)).gus.store ∧
  (∀ w, (∀ a b, a < fieldLE (microAt j.prog j.next) 4 2 → b < fieldLE (microAt j.prog j.next) 6 2 →
    w ≠ microDstWord (microAt j.prog j.next) a b) → t.gusWord g w = u.gusWord g w) ∧
  (j.prog.length ≤ 32 * (j.next + 1) → t.fld (Reg.GUS_STATE g) 0 2 = 2)

section
variable (u : State) (g : Nat) (j : GusJob)

theorem State.gus_microStep : (u.microStep g j).gus =
    ((u.microRun g j.base (microAt j.prog j.next)).setGus g { j with next := j.next + 1 }).gus := State.gus_ite rfl rfl

theorem State.job_microStep : (u.microStep g j).gus.jobs.find g = some { j with next := j.next + 1 } := by
  rw [State.gus_microStep]
  exact OMap.find_put_same _ _ _

theorem State.store_microStep :
    (u.microStep g j).gus.store = (u.microRun g j.base (microAt j.prog j.next)).gus.store := by
  rw [State.gus_microStep]
  rfl

theorem State.gusWord_microStep {w : Nat} (h : ∀ a b, a < fieldLE (microAt j.prog j.next) 4 2 →
    b < fieldLE (microAt j.prog j.next) 6 2 → w ≠ microDstWord (microAt j.prog j.next) a b) :
    (u.microStep g j).gusWord g w = u.gusWord g w :=
  (State.gusWord_of_gus (u.gus_microStep g j) g w).trans (u.gusWord_microRun g j.base _ h)

/-- R315, R331: after the last micro-op the unit factors. -/
theorem State.factors_microStep (h : j.prog.length ≤ 32 * (j.next + 1)) : (u.microStep g j).fld (Reg.GUS_STATE g) 0 2 = 2 := by
  unfold State.microStep
  dsimp only
  rw [if_pos h]
  exact State.fld_setFld_same _ _ _ _ _ (by decide)

theorem State.microRan_microStep : u.microRan g j (u.microStep g j) :=
  ⟨u.job_microStep g j, u.store_microStep g j, fun _ => u.gusWord_microStep g j, u.factors_microStep g j⟩

end

section
variable {s u : State} {g : Nat} {j : GusJob} {q : Request}

/-- R315: the next micro-op runs on the machine that has read its operands. -/
theorem State.micro_steps (hj : s.gusRunning g = some (j, q)) (hn : 32 * j.next < j.prog.length)
    (hq : s.quarantined (0x88 + g) = false)
    (hr : s.engineReads j.req q 5 (microReads j.base (microAt j.prog j.next)) [] = (u, .ready)) :
    s.micro g (fieldLE (microAt j.prog j.next) 0 1) = u.microStep g j := by
  unfold State.micro
  rw [hj]
  dsimp only
  rw [if_neg (by omega), hq, if_neg Bool.false_ne_true, hr]
  rfl

variable (hrun : s.running = true) (hj : s.gusRunning g = some (j, q))
include hrun hj

/-- The four commands of the assembler differ in the OPCODE that the next micro-op must have. -/
theorem exec_micro_ran {c : Instr} {o : Nat} (hc : exec c s = done s (s.work (fun t => t.micro g o)))
    (hn : 32 * j.next < j.prog.length) (hq : s.quarantined (0x88 + g) = false)
    (hr : s.engineReads j.req q 5 (microReads j.base (microAt j.prog j.next)) [] = (u, .ready))
    (ho : fieldLE (microAt j.prog j.next) 0 1 = o) : ∃ t, exec c s = .next t ∧ u.microRan g j t := by
  subst ho
  refine ⟨_, hc.trans (done_work hrun), ?_⟩
  rw [State.micro_steps hj hn hq hr]
  exact u.microRan_microStep g j

end

/-! ## The end of a job -/

section
variable {s u : State} {g : Nat} {j : GusJob} {q : Request}

/-- R326, R331: a result that is written frees the unit; then the request ends, and the job counts last. -/
theorem State.gusResult_eq {valid : Bool} {e : GusEnd} {reg : List Nat}
    (ho : s.outsReady u j.req q 5 [(fieldLE j.desc 0x58 8, gusResultBytes j.desc)])
    (hw : (State.engineWrite (u, 0) j.req q 5 (fieldLE j.desc 0x58 8) (gusRecord j valid e reg).1).2 = 0) :
    ∃ (v : State) (st d : Nat), v.gus.jobs.find g = none ∧ s.gusResult g j q valid e reg =
      (v.endReq j.req st d true).setReg (Reg.GUS_CNT_JOBS g) (u.reg (Reg.GUS_CNT_JOBS g) + 1) := by
  obtain ⟨hwait, hacc⟩ := ho
  unfold State.gusResult State.withOuts
  rw [hwait, if_neg Bool.false_ne_true, hacc]
  dsimp only
  rw [if_neg (not_not_intro hw)]
  refine ⟨_, _, _, ?_, rfl⟩
  have freed := State.gusJob_gusIdle (State.engineWrite (u, 0) j.req q 5 (fieldLE j.desc 0x58 8) (gusRecord j valid e reg).1).1 g
  split
  · exact freed
  · split
    · exact freed
    · exact freed

/-- A job has ended with a result: its request is not in flight, the unit is free, and the job counts once more than in `u`. -/
def State.gusEnded (u : State) (g : Nat) (j : GusJob) (t : State) : Prop :=
  t.req j.req = none ∧ t.gus.jobs.find g = none ∧ t.reg (Reg.GUS_CNT_JOBS g) = u.reg (Reg.GUS_CNT_JOBS g) + 1

theorem State.gusEnded_gusResult {valid : Bool} {e : GusEnd} {reg : List Nat}
    (ho : s.outsReady u j.req q 5 [(fieldLE j.desc 0x58 8, gusResultBytes j.desc)])
    (hw : (State.engineWrite (u, 0) j.req q 5 (fieldLE j.desc 0x58 8) (gusRecord j valid e reg).1).2 = 0) :
    u.gusEnded g j (s.gusResult g j q valid e reg) := by
  obtain ⟨v, st, d, hv, he⟩ := State.gusResult_eq (g := g) ho hw
  rw [he]
  exact ⟨v.req_endReq_same _ _ _ _, v.gusEnds_endReq _ _ _ _ g hv, State.reg_setReg_same _ _ _⟩

theorem State.gusJobEnd_results (hj : s.gusRunning g = some (j, q)) (hp : j.prog.length = 32 * j.next)
    (hq : s.quarantined (0x88 + g) = false) {e : GusEnd} {reg : List Nat}
    (hs : s.gusSolve g j.desc j.warm (gusCap j.desc) false = some (e, reg)) : s.gusJobEnd g = s.gusResult g j q true e reg := by
  unfold State.gusJobEnd
  rw [hj]
  dsimp only
  rw [if_neg (not_not_intro hp), hq, if_neg Bool.false_ne_true, hs]

section
variable {x : Nat} (hj : s.gusRunning g = some (j, q)) (hx : j.deadline = some x) (hd : due s.now x = true)
  (hq : s.quarantined (0x88 + g) = false)
include hj hx hd hq

/-- R328: a job that is still factoring at its deadline ends with outcome 4. -/
theorem State.gusDeadlineHit_factoring : s.gusDeadlineHit g none =
    s.gusResult g j q j.warm.isSome ⟨4, 0, 0x7F800000, 0x7F800000, gusHeld j⟩ [] := by
  unfold State.gusDeadlineHit
  rw [hj]
  dsimp only
  rw [hx]
  dsimp only
  rw [if_neg (by simp [hd]), hq, if_neg Bool.false_ne_true]

/-- R328: a job with steps to go ends with what it has. -/
theorem State.gusDeadlineHit_open {k : Nat} (hp : j.prog.length = 32 * j.next) {e : GusEnd} {reg : List Nat}
    (hs : s.gusSolve g j.desc j.warm (Nat.min k (gusCap j.desc)) true = some (e, reg)) (ho : gusOpen j.desc k e = true) :
    s.gusDeadlineHit g (some k) = s.gusResult g j q true { e with outcome := 3 } reg := by
  unfold State.gusDeadlineHit
  rw [hj]
  dsimp only
  rw [hx]
  dsimp only
  rw [if_neg (by simp [hd]), hq, if_neg Bool.false_ne_true, if_neg (not_not_intro hp), hs]
  dsimp only
  rw [if_pos ho]

end

/-- R329: an overrun fails the request and frees the unit; it counts last. -/
theorem State.gusOverrun_frees (hj : s.gusRunning g = some (j, q)) : (s.gusOverrun g).gus.jobs.find g = none ∧
    (s.gusOverrun g).regN (Reg.GUS_STATE g) = 0 ∧
    (s.gusOverrun g).reg (Reg.GUS_CNT_OVERRUN g) = s.reg (Reg.GUS_CNT_OVERRUN g) + 1 := by
  unfold State.gusOverrun
  rw [hj]
  refine ⟨State.gusJob_gusIdle _ _, ?_, State.reg_setReg_same _ _ _⟩
  dsimp only
  unfold State.gusFail State.gusIdle
  rw [State.regN, State.reg_setReg_other _ _ (by unfold Reg.GUS_STATE Reg.GUS_CNT_OVERRUN; omega)]
  exact State.regN_setRegN_same _ _ _

end

/-- Settles O35: a micro-op runs on the machine that has read its operands; a job that ends frees its unit before its request ends,
and what the end of a request causes begins no job. -/
theorem gussetMicroOpsAndEnds : Obligations.GussetMicroOpsAndEnds := by
  intro s g j q hrun hj
  refine ⟨fun u op hop hn hq hr => ?_, fun u e reg ho => ?_, _, done_work hrun, s.gusOverrun_frees hj⟩
  · subst hop
    exact ⟨exec_micro_ran hrun hj rfl hn hq hr, exec_micro_ran hrun hj rfl hn hq hr, exec_micro_ran hrun hj rfl hn hq hr,
      exec_micro_ran hrun hj rfl hn hq hr⟩
  · refine ⟨fun hp hq hs => ⟨_, done_work hrun, fun hw => ?_⟩, fun x hx hd hq => ⟨⟨_, done_work hrun, fun hw => ?_⟩,
      fun k hp hs hk => ⟨_, done_work hrun, fun hw => ?_⟩⟩⟩
    · rw [State.gusJobEnd_results hj hp hq hs]
      exact State.gusEnded_gusResult ho hw
    · rw [State.gusDeadlineHit_factoring hj hx hd hq]
      exact State.gusEnded_gusResult ho hw
    · rw [State.gusDeadlineHit_open hj hx hd hq hp hs hk]
      exact State.gusEnded_gusResult ho hw

end Sys2Proof.Machine
end

section
/-! PROOFS. A late job whose completion record cannot be written (R168, R203, R228, R328): its end tears its context down, and that stops
the context's job on the other unit. -/

namespace Sys2Proof.Machine

/-! ## A teardown stops a running job -/

/-- What one element of a list brings about and the others keep, a fold over the list brings about. -/
theorem each_of_mem {σ α : Type} {P : σ → Prop} {xs : List α} {f : σ → α → σ} {x : α} (hx : x ∈ xs) (s : σ) (hf : ∀ t, P (f t x))
    (hk : ∀ t y, P t → P (f t y)) : P (each xs f s) := by
  induction xs generalizing s with
  | nil => cases hx
  | cons y ys ih =>
    rcases List.mem_cons.1 hx with rfl | hx
    · exact each_inv P ys f _ (hf s) (fun t z _ ht => hk t z ht)
    · exact ih hx (f s y)

theorem each_singleton {σ α : Type} (f : σ → α → σ) (x : α) (s : σ) : each [x] f s = f s x := rfl

theorem State.que_of_books {s t : State} (h : t.books = s.books) : t.que = s.que := congrArg Prod.snd h

section
variable {s : State} {r g : Nat} {q : Request}

/-- R329: the units of a job that stops are idle. -/
theorem State.gusJob_releaseGus (hu : 0x88 + g ∈ q.units) : (s.releaseGus q).gus.jobs.find g = none :=
  each_of_mem (P := fun t : State => t.gus.jobs.find g = none) hu s
    (fun t => by rw [Nat.add_sub_cancel_left]; exact State.gusJob_gusIdle _ g)
    (fun t u ht => (t.gusEnds_releaseGus { q with units := [u] }) g ht)

/-- A request that runs on a Gusset unit gives the unit up when it is stopped. -/
theorem State.gusJob_stopRunning (st : Nat) (hq : s.req r = some q) (hk : q.kind = 0x10) (hu : 0x88 + g ∈ q.units) (ha : s.att = []) :
    (s.stopRunning r st).gus.jobs.find g = none := by
  have hm : s.mustFinish r q = false := by unfold State.mustFinish; rw [ha]; rfl
  have hr : s.releaseReq r q = ((s.dropReqWaits r).havocNamed q).releaseGus q := by simp [State.releaseReq, hk]
  unfold State.stopRunning
  rw [hq]
  dsimp only
  rw [if_neg (by simp [hk]), hm, if_neg Bool.false_ne_true, State.gus_finishReq, hr]
  exact State.gusJob_releaseGus hu

theorem State.att_discardContext (s : State) (c : Nat) : (s.discardContext c).att = s.att := by
  refine each_inv (fun t : State => t.att = s.att) _ _ _ rfl (fun t e _ ht => ?_)
  split
  · split
    · exact ht
    · exact ht
  · exact ht

/-- R228: the one request of a context that is torn down gives its unit up. -/
theorem State.gusJob_teardown {c : Nat} (st : Nat) (hc : s.fld (Reg.QUE_CTX_STATE c) 0 2 < 2)
    (hm : s.que.reqs.entries.filter (fun e => e.2.ctx == c) = [(r, q)]) (hq : s.req r = some q) (hp : q.phase = .running)
    (hk : q.kind = 0x10) (hu : 0x88 + g ∈ q.units) (ha : s.att = []) : (s.teardown c st none).gus.jobs.find g = none := by
  unfold State.teardown
  rw [if_neg (by omega)]
  extract_lets s1 s2 s3
  have hb : s3.que = s.que := State.que_of_books (by simp [s3, s2, s1])
  have ha3 : s3.att = [] := (s2.att_discardContext c).trans ((State.units_att (s1.units_record ..)).trans ha)
  have hl : s3.que.reqs.entries.filter (fun e => e.2.ctx == c && !((none : Option Nat) == some e.1)) = [(r, q)] := by
    rw [hb, ← hm]
    exact List.filter_congr (fun e _ => by simp)
  have hq3 : s3.req r = some q := (State.req_of_que hb r).trans hq
  rw [hl, each_singleton]
  rw [hq3]
  dsimp only
  rw [hp]
  dsimp only
  exact State.gusJob_stopRunning 7 hq3 hk hu ha3

/-- R168: with one context left whose record could not be written, all that others' ends release ends with its teardown. -/
theorem State.gus_settled_doomed {v : State} {c : Nat} (hv : State.settle (s.que.reqs.length + 1) s = v)
    (hd : v.que.doomed = [c]) : s.settled.gus = (v.teardown c 8 none).gus := by
  unfold State.settled
  rw [hv]
  dsimp only
  rw [if_neg (by rw [hd]; exact List.cons_ne_nil _ _), hd]
  exact State.gus_settle _ _

/-- The machine right after request `r` has failed, before contexts whose records could not be written are torn down. -/
def State.failed (s : State) (r : Nat) (q : Request) (st d : Nat) (res : Bool) : State :=
  let t := s.finishReq r q st d 0 res
  State.settle (t.que.reqs.length + 1) t

/-- R168: where the record of a failed request could not be written, its end tears its context down. -/
theorem State.gus_endReq_doomed {st d c : Nat} {res : Bool} (hr : s.req r = some q) (h : ¬ (st = 8 ∨ st = 0x0B))
    (hs : statusOk st = false) (hd : (s.failed r q st d res).que.doomed = [c]) :
    (s.endReq r st d res).gus = ((s.failed r q st d res).teardown c 8 none).gus := by
  unfold State.endReq
  rw [hr]
  dsimp only
  rw [if_neg (fun e => h (.inl e)), if_neg h, hs, if_neg Bool.false_ne_true]
  exact State.gus_settled_doomed rfl hd

end

/-! ## A job that is predicted late (R328) -/

/-- Ranges that the start of a job reads. -/
def gusStartIns (d : Bytes) : List (Nat × Nat) :=
  [(fieldLE d 0x40 8, 32 * fieldLE d 0x10 4), (fieldLE d 0x48 8, 128)] ++
    (if fieldLE d 0x50 8 = 0 then [] else [(fieldLE d 0x50 8, gusResultBytes d)])

/-- R328: a job that cannot end by its deadline leaves the units as the end of its request does. -/
theorem State.gus_gusJob_late {s u : State} {r : Nat} {q : Request} {d : Bytes} {x : Nat} (hq : s.engReq r [0x10] = some q)
    (hd : d = s.peek q.cmdAddr 128) (hm : gusDescMask q.cmdAddr d = 0) (hj : s.gus.jobs.find q.gusUnit = none)
    (hu : s.quarantined (0x88 + q.gusUnit) = false)
    (hr : s.engineReads r q 5 (gusStartIns d) [(fieldLE d 0x58 8, gusResultBytes d)] = (u, .ready))
    (hp : gusProgMask (u.peek (fieldLE d 0x40 8) (32 * fieldLE d 0x10 4)) (u.peek (fieldLE d 0x48 8) 128) = 0)
    (hx : u.gusDeadline q.ctx q.gusUnit d = some x)
    (hl : x < u.now + u.gusNs (gusMinCost d (u.peek (fieldLE d 0x40 8) (32 * fieldLE d 0x10 4)))) :
    (s.gusJob r (fieldLE d 0 1)).gus = (u.endReq r 4 0 false).gus := by
  unfold gusStartIns at hr
  subst hd
  unfold State.gusJob
  rw [hq]
  dsimp only
  rw [if_neg (by simp [hj]), hu, if_neg Bool.false_ne_true, if_neg (not_not_intro hm)]
  unfold State.gusStart
  dsimp only
  rw [hr]
  dsimp only
  rw [if_neg (not_not_intro hp), hx]
  dsimp only
  rw [if_pos (decide_eq_true hl)]
  exact State.setReg_gus _ _ _

/-- While the engines run, GUSSET_LINEAR leaves the units as its effect does. -/
theorem gus_exec_gussetLinear {s t : State} {r : Nat} (h : s.running = true) (ht : exec (.gussetLinear r) s = .next t) :
    t.gus = (s.gusJob r 0x70).gus := by
  have e := (done_work (f := fun u => u.gusJob r 0x70) h).symm.trans ht
  cases e
  rfl

end Sys2Proof.Machine
end

section
/-! PROOFS. The machine that refutes GussetJobsStart: both units serve context 0, whose ring 0 has no array for completion records. -/

namespace Sys2Proof.Machine

/-- A GUSSET_LINEAR job of one unknown and one micro-op, with the deadline 1 ns: its program, base table and result lie in the first page
of the unified range. -/
def lateDesc : Bytes :=
  [(0, 1, 0x70), (4, 2, 1), (0x0B, 1, 20), (0x0C, 1, 10), (0x10, 4, 1), (0x18, 4, 1), (0x24, 4, 0x3F800000),
    (0x40, 8, umBase + 0x1000), (0x48, 8, umBase + 0x2000), (0x58, 8, umBase + 0x3000), (0x60, 8, 1)].foldl
    (fun bs f => setFieldLE bs f.1 f.2.1 f.2.2) (List.replicate 128 0)

/-- Its micro-op: COPY of the element in word 8 to word 0. -/
def lateProg : Bytes :=
  [(0, 1, 1), (4, 2, 1), (6, 2, 1), (8, 4, 8), (0x0C, 4, 1), (0x14, 4, 1)].foldl
    (fun bs f => setFieldLE bs f.1 f.2.1 f.2.2) (List.replicate 32 0)

/-- A GUSSET request of context 0 that runs on a unit; its command is at the start of the unified range. -/
def gussetRequest (unit : Nat) : Request :=
  { (State.reset.requestOf 0 0 (setFieldLE (0x10 :: List.replicate 63 0) 0x10 8 umBase) false).started_ 0 with units := [unit] }

/-- The job of request 6 at its first micro-op. -/
def runningGusJob : GusJob :=
  { req := 6, ctx := 0, desc := lateDesc, prog := lateProg, base := List.replicate 16 0, next := 0, warm := none, warmRej := false,
    deadline := none }

/-- Request 5 has been dispatched to unit 1 and has not started; request 6 runs its job on unit 0. -/
def twoGusJobs : State :=
  { State.reset with
    umem := Memory.write (Memory.write [] umBase lateDesc) (umBase + 0x1000) lateProg,
    umr := { Umr.reset with pages := [(0, some { freshPage 0 0 0 0 0 with zero := 2 ^ 32 - 2 })] },
    que := { Que.reset with reqs := [(5, some (gussetRequest 0x89)), (6, some (gussetRequest 0x88))] },
    gus := { jobs := [(0, some runningGusJob)], owner := [(0, some 0)], store := [] } }

/-- The machine when the inputs of request 5 have been read. -/
def lateRead : State :=
  (twoGusJobs.engineReads 5 (gussetRequest 0x89) 5 (gusStartIns lateDesc)
    [(fieldLE lateDesc 0x58 8, gusResultBytes lateDesc)]).1

/-- Request 5 has ended: context 0 waits for its teardown. -/
def lateEnded : State := lateRead.failed 5 (gussetRequest 0x89) 4 0 false

theorem engineReads_twoGusJobs : twoGusJobs.engineReads 5 (gussetRequest 0x89) 5 (gusStartIns lateDesc)
    [(fieldLE lateDesc 0x58 8, gusResultBytes lateDesc)] = (lateRead, .ready) :=
  Prod.ext rfl (by decide +kernel)

/-- The record of request 5 cannot be written, so context 0 is torn down, and its job on unit 0 is gone. -/
theorem gusJob_endReq_lateRead : (lateRead.endReq 5 4 0 false).gus.jobs.find 0 = none := by
  have hq : lateRead.req 5 = some (gussetRequest 0x89) := by decide +kernel
  have hd : lateEnded.que.doomed = [0] := by decide +kernel
  have hg : (lateRead.endReq 5 4 0 false).gus = (lateEnded.teardown 0 8 none).gus := State.gus_endReq_doomed hq (by decide) rfl hd
  rw [hg]
  exact State.gusJob_teardown (r := 6) (q := gussetRequest 0x88) 8 (by decide +kernel) (by decide +kernel) (by decide +kernel) rfl rfl
    (by decide) (by decide +kernel)

/-- Refutes O34, in its clause about a job that is predicted late: in `twoGusJobs` the end of request 5 stops the job of request 6 on the
other unit, where the statement has both units as they were. No premise says that the completion record can be written. -/
theorem not_gussetJobsStart : ¬ Obligations.GussetJobsStart := by
  intro h
  have hrun : twoGusJobs.running = true := by decide +kernel
  have hq : twoGusJobs.engReq 5 [0x10] = some (gussetRequest 0x89) := by decide +kernel
  have hd : lateDesc = twoGusJobs.peek (gussetRequest 0x89).cmdAddr 128 := by decide +kernel
  have hm : gusDescMask (gussetRequest 0x89).cmdAddr lateDesc = 0 := by decide +kernel
  have hj : twoGusJobs.gus.jobs.find (gussetRequest 0x89).gusUnit = none := by decide +kernel
  have hu : twoGusJobs.quarantined (0x88 + (gussetRequest 0x89).gusUnit) = false := by decide +kernel
  have hp : gusProgMask (lateRead.peek (fieldLE lateDesc 0x40 8) (32 * fieldLE lateDesc 0x10 4))
    (lateRead.peek (fieldLE lateDesc 0x48 8) 128) = 0 := by decide +kernel
  have hx : lateRead.gusDeadline (gussetRequest 0x89).ctx (gussetRequest 0x89).gusUnit lateDesc = some 1 := by decide +kernel
  have hl : 1 < lateRead.now + lateRead.gusNs (gusMinCost lateDesc (lateRead.peek (fieldLE lateDesc 0x40 8)
    (32 * fieldLE lateDesc 0x10 4))) := by decide +kernel
  have ho : fieldLE lateDesc 0 1 = 0x70 := by decide +kernel
  obtain ⟨-, late⟩ := h twoGusJobs lateRead 5 0x70 (gussetRequest 0x89) lateDesc hrun hq hd ho hm hj hu engineReads_twoGusJobs hp
  obtain ⟨t, ht, -, hgus, -⟩ := (late 1 hx hl).1 rfl
  have hjob := State.gus_gusJob_late hq hd hm hj hu engineReads_twoGusJobs hp hx hl
  rw [ho] at hjob
  have hgone : t.gus.jobs.find 0 = none := by
    rw [gus_exec_gussetLinear hrun ht, hjob]
    exact gusJob_endReq_lateRead
  have hruns : lateRead.gus.jobs.find 0 = some runningGusJob := by decide +kernel
  rw [hgus, hruns] at hgone
  cases hgone

end Sys2Proof.Machine
end

section
/-! PROOFS. Every command is answered with a next state (R389, R393, R470, R477): the outcome of each is that of its effect, with the
queue as the command found it. -/

namespace Sys2Proof.Machine

/-- An outcome of a command on `s` that is a next state with the queue of `s`. -/
def Completes (s : State) (o : Host.Outcome State Fault Refusal) : Prop := ∃ t, o = .next t ∧ t.pending = s.pending

theorem completes_done (s t : State) : Completes s (done s t) := ⟨_, rfl, rfl⟩

/-- A command of the time family, a register write or a reset keeps the queue too. -/
theorem completes_doneT (s t : State) : Completes s (doneT s t) := ⟨_, rfl, rfl⟩

/-- R270: a read of the edge FIFO, empty or not. -/
theorem completes_tbEdgeRead (s : State) : Completes s (execTbEdgeRead s) := by
  unfold execTbEdgeRead
  split
  · exact completes_done _ _
  · exact completes_done _ _

/-- Settles O3: each command is `done` or `doneT` of its effect. -/
theorem everyCommandCompletes : Obligations.EveryCommandCompletes := by
  intro c s
  cases c
  case tbEdgeRead => exact completes_tbEdgeRead s
  case tbStep | tbSet | tbAllowJump | gptpSyncRx | registerWrite | bitAliasWrite | odsRead | odsWrite | odsReadBlock |
      odsWriteBlock | dbgDataWrite | powerGood | porst | warmRst | resetRelease | resetCmdDelay | recoveryReset =>
    exact completes_doneT s _
  all_goals exact completes_done s _

end Sys2Proof.Machine
end

section
/-! PROOFS. Snapshots and signatures (R400 to R406): a snapshot writes the holding area of its block only; a sweep, a commit and a
written reference write the configuration control record of their block. -/

namespace Sys2Proof.Machine

/-! ## Folds over blocks -/

/-- What holds of `x` once the fold has come to `x`, and is kept by every other step, holds at the end of the fold. -/
theorem each_reaches {σ α : Type} (P : σ → Prop) (xs : List α) (f : σ → α → σ) (s : σ) {x : α} (hx : x ∈ xs)
    (hset : ∀ t, P (f t x)) (hkeep : ∀ t y, P t → P (f t y)) : P (each xs f s) := by
  induction xs generalizing s with
  | nil => cases hx
  | cons y ys ih =>
    rcases List.mem_cons.1 hx with rfl | hx
    · exact each_inv P ys f _ (hset s) (fun t z _ ht => hkeep t z ht)
    · exact ih (f s y) hx

/-! ## Snapshots (R405, R406) -/

theorem mem_insertAsc {x y : Nat} {ys : List Nat} (h : x ∈ insertAsc y ys) : x = y ∨ x ∈ ys := by
  induction ys with
  | nil => exact .inl (List.mem_singleton.1 h)
  | cons z zs ih =>
    unfold insertAsc at h
    split at h
    · exact List.mem_cons.1 h
    · rcases List.mem_cons.1 h with rfl | h
      · exact .inr (List.mem_cons_self ..)
      · exact (ih h).imp_right (List.mem_cons_of_mem _)

theorem mem_sortAsc {x : Nat} {xs : List Nat} (h : x ∈ sortAsc xs) : x ∈ xs := by
  induction xs with
  | nil => exact h
  | cons y ys ih =>
    rcases mem_insertAsc h with rfl | h
    · exact List.mem_cons_self ..
    · exact List.mem_cons_of_mem _ (ih h)

/-- R412: a block's registers lie above the configuration area. -/
theorem le_of_blockOf_ne {a : Nat} (h : blockOf a ≠ 0xFF) : 0x100000 ≤ a := by
  by_contra hc
  exact h (if_pos (by omega))

theorem blockOf_of_mem_blockCounters {k a : Nat} (h : a ∈ blockCounters k) : blockOf a = k :=
  beq_iff_eq.1 (List.mem_filter.1 (mem_sortAsc (List.mem_of_mem_take h))).2

/-- R405, R412: no counter lies in the holding area. -/
theorem counter_above {k i : Nat} (hk : k < 0x75) (hi : i < (blockCounters k).length) : 0x100000 ≤ nth 0 (blockCounters k) i := by
  have hm : nth 0 (blockCounters k) i ∈ blockCounters k := by
    unfold nth
    rw [List.getD_eq_getElem _ _ hi]
    exact List.getElem_mem hi
  exact le_of_blockOf_ne (by rw [blockOf_of_mem_blockCounters hm]; omega)

theorem length_blockCounters_le (k : Nat) : (blockCounters k).length ≤ 510 := by
  unfold blockCounters
  rw [List.length_take]
  omega

theorem State.now_lt (s : State) : s.now < 2 ^ 64 := Nat.mod_lt _ (Nat.two_pow_pos 64)

section
variable (s : State)

/-- A fold that writes register `f i` at each round gives the last value written to each. -/
theorem State.reg_iter_setReg_same {f : Nat → Nat} (hf : ∀ i j, f i = f j → i = j) (v : Nat → Word) {n i : Nat} (hi : i < n) :
    (iter n (fun t j => t.setReg (f j) (v j)) s).reg (f i) = v i :=
  each_reaches (fun t : State => t.reg (f i) = v i) (List.range n) _ s (List.mem_range.2 hi) (fun t => t.reg_setReg_same _ _)
    (fun t j ht => by
      by_cases e : f i = f j
      · rw [hf i j e]
        exact t.reg_setReg_same _ _
      · exact (t.reg_setReg_other _ e).trans ht)

theorem State.reg_iter_setReg_other {f : Nat → Nat} (v : Nat → Word) {n a : Nat} (ha : ∀ i, i < n → a ≠ f i) :
    (iter n (fun t j => t.setReg (f j) (v j)) s).reg a = s.reg a :=
  iter_inv (fun t : State => t.reg a = s.reg a) n _ s rfl (fun t j hj ht => (t.reg_setReg_other _ (ha j hj)).trans ht)

/-- R405: a snapshot copies the counters. -/
theorem State.reg_snapBlock_hold {k i : Nat} (hi : i < (blockCounters k).length) :
    (s.snapBlock k).reg (Reg.HOLD k i) = s.reg (nth 0 (blockCounters k) i) := by
  unfold State.snapBlock
  extract_lets cs s1 s2
  rw [State.reg_setRegN_other _ _ (by unfold Reg.HOLD Reg.HOLD_SEQ; omega),
    State.reg_setRegN_other _ _ (by unfold Reg.HOLD Reg.HOLD_TIME; omega)]
  exact s.reg_iter_setReg_same (f := Reg.HOLD k) (fun i j e => by unfold Reg.HOLD at e; omega) (fun i => s.reg (nth 0 cs i)) hi

/-- R405: the holding registers of a block are in its own part of the holding area. -/
theorem State.reg_snapBlock_other {k a : Nat} (h : a < 0x40000 + 0x1000 * k ∨ 0x41000 + 0x1000 * k ≤ a) :
    (s.snapBlock k).reg a = s.reg a := by
  have hl := length_blockCounters_le k
  unfold State.snapBlock
  extract_lets cs s1 s2
  rw [State.reg_setRegN_other _ _ (by unfold Reg.HOLD_SEQ; omega), State.reg_setRegN_other _ _ (by unfold Reg.HOLD_TIME; omega)]
  exact s.reg_iter_setReg_other (f := Reg.HOLD k) (fun i => s.reg (nth 0 cs i))
    (fun i hi => by have : i < 510 := Nat.lt_of_lt_of_le hi hl; unfold Reg.HOLD; omega)

theorem State.holdTime_snapBlock (k : Nat) : (s.snapBlock k).regN (Reg.HOLD_TIME k) = s.now := by
  unfold State.snapBlock
  extract_lets cs s1 s2
  rw [State.regN_setRegN_other _ _ (by unfold Reg.HOLD_TIME Reg.HOLD_SEQ; omega), State.regN_setRegN_same,
    Nat.mod_eq_of_lt s.now_lt]

theorem State.holdSeq_snapBlock (k : Nat) :
    (s.snapBlock k).regN (Reg.HOLD_SEQ k) = (s.regN (Reg.HOLD_SEQ k) + 1) % 2 ^ 32 := by
  unfold State.snapBlock
  extract_lets cs s1 s2
  rw [State.regN_setRegN_same, Nat.mod_eq_of_lt (by omega)]

/-- R406: what one block's snapshot gives once every block before has been copied from `s`. -/
theorem State.snapAll_keeps_outside {a : Nat} (ha : a < 0x40000 ∨ 0xC0000 ≤ a) :
    (each allBlocks (fun t k => t.snapBlock k) s).reg a = s.reg a :=
  each_inv (fun t : State => t.reg a = s.reg a) allBlocks _ s rfl
    (fun t k hk ht => (t.reg_snapBlock_other (by have := allBlocks_lt hk; omega)).trans ht)

theorem State.blank_snapAll : (each allBlocks (fun t k => t.snapBlock k) s).blank = s.blank :=
  s.blank_each allBlocks _ (fun t k => t.blank_snapBlock k)

end

/-- From `s` to `t` the holding registers of block `k` have taken its counters, the time and a number one higher (R405). -/
structure Snapped (s t : State) (k : Nat) : Prop where
  counters : ∀ i, i < (blockCounters k).length → t.reg (Reg.HOLD k i) = s.reg (nth 0 (blockCounters k) i)
  time : t.regN (Reg.HOLD_TIME k) = s.now
  number : t.regN (Reg.HOLD_SEQ k) = (s.regN (Reg.HOLD_SEQ k) + 1) % 2 ^ 32

theorem State.snapped_snapBlock (s : State) (k : Nat) : Snapped s (s.snapBlock k) k :=
  ⟨fun _ hi => s.reg_snapBlock_hold hi, s.holdTime_snapBlock k, s.holdSeq_snapBlock k⟩

/-- Only the registers of a block's own part of the holding area, its counters and TB0 count for its snapshot. -/
theorem Snapped.of_same {s s' t t' : State} {k : Nat} (hk : k < 0x75) (h : Snapped s' t' k) (hs : ∀ a, 0x100000 ≤ a → s'.reg a = s.reg a)
    (hn : s'.regN (Reg.HOLD_SEQ k) = s.regN (Reg.HOLD_SEQ k)) (htime : s'.now = s.now)
    (ht : ∀ a, 0x40000 + 0x1000 * k ≤ a → a < 0x41000 + 0x1000 * k → t.reg a = t'.reg a) : Snapped s t k := by
  have hl := length_blockCounters_le k
  refine ⟨fun i hi => ?_, ?_, ?_⟩
  · rw [ht _ (by unfold Reg.HOLD; omega) (by unfold Reg.HOLD; omega), h.counters i hi, hs _ (counter_above hk hi)]
  · rw [State.regN_ofReg (ht _ (by unfold Reg.HOLD_TIME; omega) (by unfold Reg.HOLD_TIME; omega)), h.time, htime]
  · rw [State.regN_ofReg (ht _ (by unfold Reg.HOLD_SEQ; omega) (by unfold Reg.HOLD_SEQ; omega)), h.number, hn]

/-- R406: every block in the list is copied as it was at the start, when each is in the list once. -/
theorem State.snapped_each (s : State) {ks : List Nat} (hn : ks.Nodup) (hks : ∀ k ∈ ks, k < 0x75) {k : Nat} (hk : k ∈ ks) :
    Snapped s (each ks (fun t k => t.snapBlock k) s) k := by
  induction ks generalizing s with
  | nil => cases hk
  | cons j js ih =>
    obtain ⟨hj, hjs⟩ := List.nodup_cons.1 hn
    have hlt : ∀ i ∈ js, i < 0x75 := fun i hi => hks i (List.mem_cons_of_mem _ hi)
    have hown := hks k hk
    rcases List.mem_cons.1 hk with rfl | hk
    · refine (s.snapped_snapBlock k).of_same hown (fun _ _ => rfl) rfl rfl (fun a h1 h2 => ?_)
      exact each_inv (fun t : State => t.reg a = (s.snapBlock k).reg a) js _ _ rfl
        (fun t i hi ht => (t.reg_snapBlock_other (by have : i ≠ k := fun e => hj (e ▸ hi); omega)).trans ht)
    · have hne : k ≠ j := fun e => hj (e ▸ hk)
      have hjlt := hks j (List.mem_cons_self ..)
      refine (ih (s.snapBlock j) hjs hlt hk).of_same hown (fun a ha => s.reg_snapBlock_other (by omega)) ?_ ?_ (fun a _ _ => rfl)
      · exact State.regN_ofReg (s.reg_snapBlock_other (by unfold Reg.HOLD_SEQ; omega))
      · unfold State.now
        rw [State.blank_time (s.blank_snapBlock j)]

theorem nodup_allBlocks : allBlocks.Nodup := List.nodup_range.filter _

/-- SNAP (R406). -/
theorem exec_snap (s : State) (k : Fin 117) : exec (.snap k) s = done s (s.powered (fun u => u.snapOne k)) := (rfl)

/-- SNAP_ALL (R406). -/
theorem exec_snapAll (s : State) : exec .snapAll s = done s (s.powered (fun u => each allBlocks (fun t k => t.snapBlock k) u)) := (rfl)

/-- SNAP of an assigned block, with the rails on. -/
theorem exec_snap_assigned {s : State} (hon : s.brm.off = false) {k : Fin 117} (hk : blockAssigned k = true) :
    exec (.snap k) s = .next (s.snapBlock k) := by
  have hb := s.blank_snapBlock k
  have e : s.snapOne k = s.snapBlock k := if_pos hk
  rw [exec_snap, State.powered_run _ _ hon, e, done_of_kept (State.blank_pending hb) (State.blank_time hb)]

/-- SNAP_ALL with the rails on. -/
theorem exec_snapAll_on {s : State} (hon : s.brm.off = false) :
    exec .snapAll s = .next (each allBlocks (fun t k => t.snapBlock k) s) := by
  have hb := s.blank_snapAll
  rw [exec_snapAll, State.powered_run _ _ hon, done_of_kept (State.blank_pending hb) (State.blank_time hb)]

/-- Settles O45: a snapshot of one block, and of every block one after the other. -/
theorem snapshotsCopyCounters : Obligations.SnapshotsCopyCounters := by
  intro s hon
  refine ⟨fun k hk => ?_, ?_⟩
  · have hsnap := s.snapped_snapBlock k
    exact ⟨_, exec_snap_assigned hon hk, hsnap.counters, hsnap.time, hsnap.number,
      fun a ha => s.reg_snapBlock_other (by omega)⟩
  · have hsnap := fun k hk => s.snapped_each nodup_allBlocks (fun _ => allBlocks_lt) (k := k) hk
    exact ⟨_, exec_snapAll_on hon, fun k hk => (hsnap k hk).counters,
      fun k hk => ⟨(hsnap k hk).time, (hsnap k hk).number⟩, fun a => s.snapAll_keeps_outside⟩

/-! ## The configuration control record (R401 to R403) -/

theorem testBit_eq_bits (x k : Nat) : x.testBit k = decide (bits x k 1 = 1) := by
  simp [bits_eq, Nat.testBit_eq_decide_div_mod_eq]

/-- A bit reads as what was put there. -/
theorem testBit_putBits_same (x k v : Nat) : (putBits x k 1 v).testBit k = decide (v % 2 = 1) := by
  rw [testBit_eq_bits, bits_putBits, Nat.pow_one]

theorem testBit_putBits_other {j k : Nat} (x v : Nat) (h : j ≠ k) : (putBits x k 1 v).testBit j = x.testBit j := by
  rw [testBit_eq_bits, testBit_eq_bits]
  rcases Nat.lt_or_gt_of_ne h with h | h
  · rw [bits_putBits_below _ _ _ _ _ _ (by omega)]
  · rw [bits_putBits_above _ _ _ _ _ _ (by omega)]

/-- The blocks in a drift episode replaced. -/
def State.setDrifted (s : State) (ks : List Nat) : State := { s with sys := { s.sys with drifted := ks } }

section
variable (s : State) (k v : Nat)

@[simp] theorem State.pending_setDrifted (ks : List Nat) : (s.setDrifted ks).pending = s.pending := (rfl)
@[simp] theorem State.time_setDrifted (ks : List Nat) : (s.setDrifted ks).time = s.time := (rfl)
@[simp] theorem State.reg_setDrifted (ks : List Nat) (a : Nat) : (s.setDrifted ks).reg a = s.reg a := (rfl)
@[simp] theorem State.drifted_setDrifted (ks : List Nat) : (s.setDrifted ks).sys.drifted = ks := (rfl)

@[simp] theorem State.pending_setReference : (s.setReference k v).pending = s.pending := (rfl)
@[simp] theorem State.time_setReference : (s.setReference k v).time = s.time := (rfl)

/-- R402: the reference is kept, whole. -/
theorem State.sigRef_setReference : (s.setReference k v).reg (Reg.CFG_SIG_REF k) = BitVec.ofNat 64 v :=
  (State.reg_setRegN_other _ _ (by unfold Reg.CFG_SIG_REF Reg.CFG_STATUS; omega)).trans (s.reg_setRegN_same _ _)

theorem State.reg_setReference_other {a : Nat} (h : a ≠ Reg.CFG_SIG_REF k) (h' : a ≠ Reg.CFG_STATUS k) :
    (s.setReference k v).reg a = s.reg a :=
  (State.reg_setRegN_other _ _ h').trans (s.reg_setRegN_other _ h)

/-- R402: with a reference REF_VALID is set, and UNCOMMITTED and COMMIT_PENDING are clear. -/
theorem State.status_setReference :
    (s.setReference k v).bit (Reg.CFG_STATUS k) 3 = true ∧ (s.setReference k v).bit (Reg.CFG_STATUS k) 2 = false ∧
    (s.setReference k v).bit (Reg.CFG_STATUS k) 4 = false := by
  have h : ∀ j, j < 64 → (s.setReference k v).bit (Reg.CFG_STATUS k) j =
      (putBits (putBits (putBits ((s.setRegN (Reg.CFG_SIG_REF k) v).regN (Reg.CFG_STATUS k)) 2 1 0) 3 1 1) 4 1 0).testBit j := by
    intro j hj
    have e := (s.setRegN (Reg.CFG_SIG_REF k) v).regN_setRegN_same (Reg.CFG_STATUS k)
      (putBits (putBits (putBits ((s.setRegN (Reg.CFG_SIG_REF k) v).regN (Reg.CFG_STATUS k)) 2 1 0) 3 1 1) 4 1 0)
    refine (congrArg (Nat.testBit · j) e).trans ?_
    rw [Nat.testBit_mod_two_pow]
    simp [hj]
  refine ⟨?_, ?_, ?_⟩
  · rw [h 3 (by decide), testBit_putBits_other _ _ (by decide), testBit_putBits_same]
    rfl
  · rw [h 2 (by decide), testBit_putBits_other _ _ (by decide), testBit_putBits_other _ _ (by decide), testBit_putBits_same]
    rfl
  · rw [h 4 (by decide), testBit_putBits_same]
    rfl

/-- R401: what every completed sweep shows: the signature, one more sweep, and that one has completed. -/
def State.sweepShown (s : State) (k : Nat) : State :=
  (s.setRegN (Reg.CFG_SIG_NOW k) (s.signature k + (s.fld (Reg.CFG_SIG_NOW k) 32 32 + 1) % 2 ^ 32 * 2 ^ 32)).orReg (Reg.CFG_STATUS k) 32

theorem State.blank_sweepShown : (s.sweepShown k).blank = s.blank := by
  unfold State.sweepShown
  rw [State.blank_orReg, State.blank_setRegN]

theorem State.sigNow_sweepShown : (s.sweepShown k).reg (Reg.CFG_SIG_NOW k) =
    BitVec.ofNat 64 (s.signature k + (s.fld (Reg.CFG_SIG_NOW k) 32 32 + 1) % 2 ^ 32 * 2 ^ 32) :=
  (State.reg_orReg_other _ _ (by unfold Reg.CFG_SIG_NOW Reg.CFG_STATUS; omega)).trans (s.reg_setRegN_same _ _)

theorem State.reg_sweepShown_other {a : Nat} (h : a ≠ Reg.CFG_SIG_NOW k) (h' : a ≠ Reg.CFG_STATUS k) :
    (s.sweepShown k).reg a = s.reg a :=
  (State.reg_orReg_other _ _ h').trans (s.reg_setRegN_other _ h)

/-- R403: what a sweep that differs shows of drift. -/
def State.driftShown (s : State) (k : Nat) : State := ((s.sweepShown k).orReg (Reg.CFG_STATUS k) 2).bump (Reg.CFG_CNT_DRIFT k)

theorem State.blank_driftShown : (s.driftShown k).blank = s.blank := by
  unfold State.driftShown
  rw [State.blank_bump, State.blank_orReg, State.blank_sweepShown]

theorem State.drift_driftShown : (s.driftShown k).bit (Reg.CFG_STATUS k) 1 = true := by
  refine (State.bit_ofReg (State.reg_bump_other _ (by unfold Reg.CFG_STATUS Reg.CFG_CNT_DRIFT; omega)) 1).trans ?_
  rw [State.bit_orReg_same _ _ _ _ (by decide)]
  exact Bool.or_true _

theorem State.count_driftShown : (s.driftShown k).reg (Reg.CFG_CNT_DRIFT k) = s.reg (Reg.CFG_CNT_DRIFT k) + 1 := by
  have h1 : Reg.CFG_CNT_DRIFT k ≠ Reg.CFG_STATUS k := by unfold Reg.CFG_STATUS Reg.CFG_CNT_DRIFT; omega
  have h2 : Reg.CFG_CNT_DRIFT k ≠ Reg.CFG_SIG_NOW k := by unfold Reg.CFG_SIG_NOW Reg.CFG_CNT_DRIFT; omega
  refine (State.reg_bump_same _ _).trans ?_
  rw [State.reg_orReg_other _ _ h1, State.reg_sweepShown_other _ _ h2 h1]

theorem State.sigNow_driftShown : (s.driftShown k).reg (Reg.CFG_SIG_NOW k) = (s.sweepShown k).reg (Reg.CFG_SIG_NOW k) :=
  (State.reg_bump_other _ (by unfold Reg.CFG_SIG_NOW Reg.CFG_CNT_DRIFT; omega)).trans
    (State.reg_orReg_other _ _ (by unfold Reg.CFG_SIG_NOW Reg.CFG_STATUS; omega))

end

theorem State.sys_of_blank {s t : State} (h : t.blank = s.blank) : t.sys = s.sys := congrArg (·.sys) h

theorem mem_insertAsc_self (x : Nat) (ys : List Nat) : x ∈ insertAsc x ys := by
  induction ys with
  | nil => exact List.mem_singleton.2 rfl
  | cons y ys ih =>
    unfold insertAsc
    split
    · exact List.mem_cons_self ..
    · exact List.mem_cons_of_mem _ ih

section
variable {s : State} {k : Nat}

/-- R402: a sweep with a commit pending takes the reference. -/
theorem State.sweepEnd_commits (h : s.bit (Reg.CFG_STATUS k) 4 = true) :
    s.sweepEnd k = (s.sweepShown k).setReference k (s.signature k) := by
  unfold State.bit at h
  unfold State.sweepEnd
  rw [if_pos h]
  rfl

section
variable (h4 : s.bit (Reg.CFG_STATUS k) 4 = false) (h3 : s.bit (Reg.CFG_STATUS k) 3 = true) (h2 : s.bit (Reg.CFG_STATUS k) 2 = false)
include h4 h3 h2

/-- R403: a sweep that compares equal ends the drift episode. -/
theorem State.sweepEnd_equal (he : s.signature k = s.fld (Reg.CFG_SIG_REF k) 0 32) :
    s.sweepEnd k = (s.sweepShown k).setDrifted ((s.sweepShown k).sys.drifted.filter (fun b => b != k)) := by
  unfold State.bit at h4 h3 h2
  unfold State.sweepEnd
  simp only [h4, h3, h2, if_pos he]
  rfl

/-- R403: a sweep that differs within a drift episode counts. -/
theorem State.sweepEnd_drifts (he : s.signature k ≠ s.fld (Reg.CFG_SIG_REF k) 0 32) (hd : k ∈ s.sys.drifted) :
    s.sweepEnd k = s.driftShown k := by
  have hc : s.sys.drifted.contains k = true := List.contains_iff_mem.2 hd
  unfold State.bit at h4 h3 h2
  unfold State.sweepEnd
  simp only [h4, h3, h2, if_neg he, hc]
  rfl

/-- R403: the first sweep that differs begins a drift episode, with a record. -/
theorem State.sweepEnd_begins (he : s.signature k ≠ s.fld (Reg.CFG_SIG_REF k) 0 32) (hd : k ∉ s.sys.drifted) :
    s.sweepEnd k = ((s.driftShown k).setDrifted (insertAsc k (s.driftShown k).sys.drifted)).record 2 21 0 k none 0xFFFF 0 := by
  have hc : s.sys.drifted.contains k = false := by simpa using hd
  unfold State.bit at h4 h3 h2
  unfold State.sweepEnd
  simp only [h4, h3, h2, if_neg he, hc]
  rfl

end

end

/-! ## The commands -/

theorem exec_signatureSweepEnd (s : State) (k : Fin 117) :
    exec (.signatureSweepEnd k) s = done s (s.powered (fun u => if blockAssigned k.val then u.sweepEnd k else u)) := (rfl)

theorem exec_commit (s : State) (k : Fin 117) : exec (.commit k) s = done s (s.powered (fun u => u.commitBlock k)) := (rfl)

theorem exec_cfgSigRefWrite (s : State) (k : Fin 117) (v : BitVec 32) : exec (.cfgSigRefWrite k v) s =
    done s (s.powered (fun u => if blockAssigned k.val then u.setReference k v.toNat else u)) := (rfl)

theorem exec_commitAll (s : State) :
    exec .commitAll s = done s (s.powered (fun u => each allBlocks (fun t k => t.commitBlock k) u)) := (rfl)

section
variable {s : State} (hon : s.brm.off = false) {k : Fin 117} (hk : blockAssigned k = true)
include hon hk

/-- SIGNATURE_SWEEP_END (R401) of an assigned block. -/
theorem exec_sweepEnd {t : State} (e : s.sweepEnd k = t) (hp : t.pending = s.pending) (ht : t.time = s.time) :
    exec (.signatureSweepEnd k) s = .next t := by
  rw [exec_signatureSweepEnd, State.powered_run _ _ hon, if_pos hk, e, done_of_kept hp ht]

theorem exec_sweepEnd_commits (h : s.bit (Reg.CFG_STATUS k) 4 = true) :
    ∃ t, exec (.signatureSweepEnd k) s = .next t ∧ t.reg (Reg.CFG_SIG_NOW k) = (s.sweepShown k).reg (Reg.CFG_SIG_NOW k) ∧
      t.reg (Reg.CFG_SIG_REF k) = BitVec.ofNat 64 (s.signature k) ∧ t.bit (Reg.CFG_STATUS k) 3 = true ∧
      t.bit (Reg.CFG_STATUS k) 2 = false ∧ t.bit (Reg.CFG_STATUS k) 4 = false := by
  have hb := s.blank_sweepShown k
  refine ⟨_, exec_sweepEnd hon hk (State.sweepEnd_commits h) ?_ ?_, ?_, State.sigRef_setReference _ _ _,
    State.status_setReference _ _ _⟩
  · rw [State.pending_setReference, State.blank_pending hb]
  · rw [State.time_setReference, State.blank_time hb]
  · exact State.reg_setReference_other _ _ _ (by unfold Reg.CFG_SIG_NOW Reg.CFG_SIG_REF; omega)
      (by unfold Reg.CFG_SIG_NOW Reg.CFG_STATUS; omega)

section
variable (h4 : s.bit (Reg.CFG_STATUS k) 4 = false) (h3 : s.bit (Reg.CFG_STATUS k) 3 = true) (h2 : s.bit (Reg.CFG_STATUS k) 2 = false)
include h4 h3 h2

theorem exec_sweepEnd_equal (he : s.signature k = s.fld (Reg.CFG_SIG_REF k) 0 32) :
    ∃ t, exec (.signatureSweepEnd k) s = .next t ∧ t.reg (Reg.CFG_SIG_NOW k) = (s.sweepShown k).reg (Reg.CFG_SIG_NOW k) ∧
      k.val ∉ t.sys.drifted := by
  have hb := s.blank_sweepShown k
  refine ⟨_, exec_sweepEnd hon hk (State.sweepEnd_equal h4 h3 h2 he) ?_ ?_, State.reg_setDrifted _ _ _, ?_⟩
  · rw [State.pending_setDrifted, State.blank_pending hb]
  · rw [State.time_setDrifted, State.blank_time hb]
  · rw [State.drifted_setDrifted]
    exact fun hm => by simpa using (List.mem_filter.1 hm).2

theorem exec_sweepEnd_drifts (he : s.signature k ≠ s.fld (Reg.CFG_SIG_REF k) 0 32) (hd : k.val ∈ s.sys.drifted) :
    ∃ t, exec (.signatureSweepEnd k) s = .next t ∧ t.reg (Reg.CFG_SIG_NOW k) = (s.sweepShown k).reg (Reg.CFG_SIG_NOW k) ∧
      t.bit (Reg.CFG_STATUS k) 1 = true ∧ t.reg (Reg.CFG_CNT_DRIFT k) = s.reg (Reg.CFG_CNT_DRIFT k) + 1 := by
  have hb := s.blank_driftShown k
  exact ⟨_, exec_sweepEnd hon hk (State.sweepEnd_drifts h4 h3 h2 he hd) (State.blank_pending hb) (State.blank_time hb),
    s.sigNow_driftShown k, s.drift_driftShown k, s.count_driftShown k⟩

theorem exec_sweepEnd_begins (he : s.signature k ≠ s.fld (Reg.CFG_SIG_REF k) 0 32) (hd : k.val ∉ s.sys.drifted) :
    ∃ t, exec (.signatureSweepEnd k) s = .next t ∧ k.val ∈ t.sys.drifted ∧
      t.bit (Reg.CFG_STATUS k) 1 = true ∧ t.reg (Reg.CFG_CNT_DRIFT k) = s.reg (Reg.CFG_CNT_DRIFT k) + 1 := by
  have hs := s.blank_driftShown k
  generalize hu : (s.driftShown k).setDrifted (insertAsc k (s.driftShown k).sys.drifted) = u
  have e := State.sweepEnd_begins h4 h3 h2 he hd
  rw [hu] at e
  have hb := u.blank_record 2 21 0 k none 0xFFFF 0
  have hq := u.quiets_record 2 21 0 k none 0xFFFF 0 (by decide)
  have hreg : ∀ a, a < 0x40000 → (u.record 2 21 0 k none 0xFFFF 0).reg a = (s.driftShown k).reg a := fun a ha =>
    (hq.low a (.inl ha)).trans (by rw [← hu, State.reg_setDrifted])
  refine ⟨_, exec_sweepEnd hon hk e ?_ ?_, ?_, ?_, ?_⟩
  · rw [State.blank_pending hb, ← hu, State.pending_setDrifted, State.blank_pending hs]
  · rw [State.blank_time hb, ← hu, State.time_setDrifted, State.blank_time hs]
  · rw [State.sys_of_blank hb, ← hu, State.drifted_setDrifted]
    exact mem_insertAsc_self _ _
  · rw [State.bit_ofReg (hreg _ (by unfold Reg.CFG_STATUS; omega))]
    exact s.drift_driftShown k
  · rw [hreg _ (by unfold Reg.CFG_CNT_DRIFT; omega)]
    exact s.count_driftShown k

end

/-- COMMIT (R402) of an assigned block. -/
theorem exec_commit_pends : ∃ t, exec (.commit k) s = .next t ∧ t.bit (Reg.CFG_STATUS k) 4 = true := by
  have e : s.commitBlock k = s.orReg (Reg.CFG_STATUS k) 16 := if_pos hk
  refine ⟨s.orReg (Reg.CFG_STATUS k) 16, ?_, ?_⟩
  · rw [exec_commit, State.powered_run _ _ hon, e, done_of_kept (State.orReg_pending _ _ _) (State.orReg_time _ _ _)]
  rw [State.bit_orReg_same _ _ _ _ (by decide)]
  exact Bool.or_true _

/-- CFG_SIG_REF_WRITE (R402) of an assigned block. -/
theorem exec_cfgSigRefWrite_sets (v : BitVec 32) :
    ∃ t, exec (.cfgSigRefWrite k v) s = .next t ∧ t.reg (Reg.CFG_SIG_REF k) = BitVec.ofNat 64 v.toNat ∧
      t.bit (Reg.CFG_STATUS k) 3 = true ∧ t.bit (Reg.CFG_STATUS k) 2 = false ∧ t.bit (Reg.CFG_STATUS k) 4 = false := by
  refine ⟨s.setReference k v.toNat, ?_, s.sigRef_setReference k _, s.status_setReference k _⟩
  rw [exec_cfgSigRefWrite, State.powered_run _ _ hon, if_pos hk, done_of_kept (State.pending_setReference _ _ _) (State.time_setReference _ _ _)]

end

theorem blockAssigned_of_mem {k : Nat} (h : k ∈ allBlocks) : blockAssigned k = true := (List.mem_filter.1 h).2

/-- R402: a commit of one block changes no bit of COMMIT_PENDING of another from 1 to 0. -/
theorem State.bit_commitBlock (s : State) {j k : Nat} (h : j = k ∧ blockAssigned k = true ∨ s.bit (Reg.CFG_STATUS j) 4 = true) :
    (s.commitBlock k).bit (Reg.CFG_STATUS j) 4 = true := by
  unfold State.commitBlock
  by_cases hk : blockAssigned k = true
  · rw [if_pos hk]
    by_cases e : j = k
    · rw [e, State.bit_orReg_same _ _ _ _ (by decide)]
      exact Bool.or_true _
    · rw [State.bit_ofReg (s.reg_orReg_other 16 (by unfold Reg.CFG_STATUS; omega))]
      exact h.resolve_left (fun c => e c.1)
  · rw [if_neg hk]
    exact h.resolve_left (fun c => hk c.2)

/-- COMMIT_ALL (R402). -/
theorem exec_commitAll_pends {s : State} (hon : s.brm.off = false) :
    ∃ t, exec .commitAll s = .next t ∧ ∀ k, k ∈ allBlocks → t.bit (Reg.CFG_STATUS k) 4 = true := by
  have hb : (each allBlocks (fun t k => t.commitBlock k) s).blank = s.blank :=
    s.blank_each allBlocks _ (fun t k => State.blank_ite rfl rfl)
  refine ⟨each allBlocks (fun t k => t.commitBlock k) s, ?_, fun k hk => ?_⟩
  · rw [exec_commitAll, State.powered_run _ _ hon, done_of_kept (State.blank_pending hb) (State.blank_time hb)]
  exact each_reaches (fun t : State => t.bit (Reg.CFG_STATUS k) 4 = true) allBlocks _ s hk
    (fun t => t.bit_commitBlock (.inl ⟨rfl, blockAssigned_of_mem hk⟩)) (fun t j ht => t.bit_commitBlock (.inr ht))

/-- Settles O44: a sweep by whether a commit is pending and how it compares; the commits; a written reference. -/
theorem signaturesSweepAndCommit : Obligations.SignaturesSweepAndCommit := by
  intro s hon
  refine ⟨fun k hk => ⟨?_, exec_commit_pends hon hk, exec_cfgSigRefWrite_sets hon hk⟩, exec_commitAll_pends hon⟩
  intro sig now
  have hnow : now = (s.sweepShown k).reg (Reg.CFG_SIG_NOW k) := (s.sigNow_sweepShown k).symm
  rw [hnow]
  exact ⟨exec_sweepEnd_commits hon hk, fun h4 h3 h2 => ⟨exec_sweepEnd_equal hon hk h4 h3 h2,
    exec_sweepEnd_drifts hon hk h4 h3 h2, exec_sweepEnd_begins hon hk h4 h3 h2⟩⟩

end Sys2Proof.Machine
end

section
/-! PROOFS. A loop whose committed set names CUF_STATE (R304, R470). KNK_COMMIT lets a boundary that has come take the set committed before,
in the safe state too, and the set is kept as addresses and words: whatever address it names is written. -/

namespace Sys2Proof.Machine

/-- A loop whose boundary is still to be taken, with a committed set of one word, for CUF_STATE. -/
def loopOverCufState : KnkLoop := { KnkLoop.idle with ahead := true, pending := some [(Reg.CUF_STATE, 0)] }

/-- The package in its safe state with loop 0 of engine 0 enabled, whose committed set names CUF_STATE. -/
def safeOverCufState : State :=
  { State.reset with
    regs := [(Reg.CUF_STATE, 3), (Reg.KNK_LOOP_CFG 0 0, 1)],
    knk := { State.reset.knk with loops := [(slotKey 0 0, some loopOverCufState)] } }

theorem inSafe_safeOverCufState : safeOverCufState.inSafe = true := by decide +kernel

/-- R304: the boundary at time 0 has come, so the next COMMIT takes the set: CUF_STATE reads 0. -/
theorem inSafe_commitLoop_overCufState : (safeOverCufState.commitLoop software 0 0).inSafe = false := by decide +kernel

/-- The answer of KNK_COMMIT is in the safe state where its effect is. -/
theorem inSafe_exec_knkCommit {s t : State} {e : Fin 4} {l : Fin 64} (h : exec (.knkCommit e l) s = .next t) :
    t.inSafe = (s.commitLoop software e l).inSafe := by
  have h' : done s (s.commitLoop software e l) = .next t := h
  rw [(done_iff _ _ _).1 h']
  rfl

/-- Refutes O6: KNK_COMMIT is none of the five reset commands and takes this machine out of its safe state. No premise says that a
loop's committed set names the loop's own registers only. -/
theorem not_safeStateEndsOnlyByReset : ¬ Obligations.SafeStateEndsOnlyByReset := by
  intro h
  obtain ⟨t, ht, -⟩ := completes_done safeOverCufState (safeOverCufState.commitLoop software 0 0)
  have hc : exec (.knkCommit 0 0) safeOverCufState = .next t := ht
  have hout : t.inSafe = false := (inSafe_exec_knkCommit hc).trans inSafe_commitLoop_overCufState
  rcases (h safeOverCufState t inSafe_safeOverCufState).1 (.knkCommit 0 0) hc with hin | ⟨_, e⟩ | e | e | ⟨_, e⟩ | ⟨_, e⟩
  · exact Bool.false_ne_true (hout.symm.trans hin)
  all_goals cases e

end Sys2Proof.Machine
end

section
/-! PROOFS. How Brim moves Palms between operating points and stretches clocks on droop (R444 to R462). Transitions only begin, one
point at a time, and end when the rail and the domains of their Palm have arrived. -/

namespace Sys2Proof.Machine

/-! ## Commands that need the rails on -/

section
variable {s u : State}

theorem next_done {P : State → Prop} (hp : u.pending = s.pending) (ht : u.time = s.time) (h : P u) :
    ∃ t, done s u = .next t ∧ P t := ⟨u, done_of_kept hp ht, h⟩

/-- With the rails on a command of Brim has its effect. -/
theorem next_powered {c : Instr} {f : State → State} {P : State → Prop} (he : exec c s = done s (s.powered f))
    (hon : s.brm.off = false) (hf : f s = u) (hp : u.pending = s.pending) (ht : u.time = s.time) (h : P u) :
    ∃ t, exec c s = .next t ∧ P t := by
  rw [he, State.powered_run _ _ hon, hf]
  exact next_done hp ht h

end

/-! ## Fields of BRM_PALM -/

theorem brmPalm_ne {p q : Nat} (h : p ≠ q) : Reg.BRM_PALM p ≠ Reg.BRM_PALM q := by unfold Reg.BRM_PALM; omega

/-- A point shown by BRM_PALM stays when other fields of any Palm are set. -/
theorem State.palmPoint_setFld_above (s : State) (p q lo w v : Nat) (h : lo + w ≤ 64) (hlo : 3 ≤ lo) :
    (s.setFld (Reg.BRM_PALM q) lo w v).palmPoint p = s.palmPoint p := by
  by_cases e : p = q
  · rw [e]
    exact s.fld_setFld_below _ _ _ _ _ _ h hlo
  · exact State.fld_ofReg (s.reg_setFld_other _ _ _ (brmPalm_ne e)) _ _

theorem State.palmPoint_ofReg {s t : State} {p : Nat} (h : t.reg (Reg.BRM_PALM p) = s.reg (Reg.BRM_PALM p)) :
    t.palmPoint p = s.palmPoint p := State.fld_ofReg h 0 3

/-! ## Steps of one point (R450, R453) -/

/-- From `s` to `t` every transition stays as it is, others begin by one point, and points, the cap, the measurements, the queue and
the time bases stay. -/
structure StepsPoints (s t : State) : Prop where
  kept : t.pending = s.pending ∧ t.time = s.time
  caps : t.reg Reg.BRM_CAP = s.reg Reg.BRM_CAP ∧ t.reg Reg.BRM_OPPT = s.reg Reg.BRM_OPPT
  measured : t.brm.measured = s.brm.measured
  point : ∀ p, p < 4 → t.palmPoint p = s.palmPoint p
  stays : ∀ p m, s.brm.moves.find p = some m → t.brm.moves.find p = some m
  begins : ∀ p m, p < 4 → s.brm.moves.find p = none → t.brm.moves.find p = some m →
    m.rail = false ∧ (m.dest = s.palmPoint p + 1 ∨ m.dest = s.palmPoint p - 1)

section
variable {s t u : State}

theorem StepsPoints.refl (s : State) : StepsPoints s s :=
  ⟨⟨rfl, rfl⟩, ⟨rfl, rfl⟩, rfl, fun _ _ => rfl, fun _ _ h => h, fun _ _ _ h k => nomatch h.symm.trans k⟩

theorem StepsPoints.trans (h : StepsPoints s t) (k : StepsPoints t u) : StepsPoints s u := by
  refine ⟨⟨k.kept.1.trans h.kept.1, k.kept.2.trans h.kept.2⟩, ⟨k.caps.1.trans h.caps.1, k.caps.2.trans h.caps.2⟩,
    k.measured.trans h.measured, fun p hp => (k.point p hp).trans (h.point p hp), fun p m hm => k.stays p m (h.stays p m hm),
    fun p m hp hs hu => ?_⟩
  cases ht : t.brm.moves.find p with
  | none =>
    rw [← h.point p hp]
    exact k.begins p m hp ht hu
  | some m' =>
    obtain rfl : m' = m := Option.some.inj ((k.stays p m' ht).symm.trans hu)
    exact h.begins p m' hp hs ht

theorem StepsPoints.ite {c : Prop} [Decidable c] (ht : c → StepsPoints s t) (hu : ¬ c → StepsPoints s u) :
    StepsPoints s (if c then t else u) := by
  split
  case isTrue h => exact ht h
  case isFalse h => exact hu h

/-- What keeps Brim's transitions and measurements, the points and the cap is no step. -/
theorem StepsPoints.of_same (hk : t.pending = s.pending ∧ t.time = s.time)
    (hm : t.brm.measured = s.brm.measured ∧ t.brm.moves = s.brm.moves)
    (hc : t.reg Reg.BRM_CAP = s.reg Reg.BRM_CAP ∧ t.reg Reg.BRM_OPPT = s.reg Reg.BRM_OPPT)
    (hp : ∀ p, p < 4 → t.palmPoint p = s.palmPoint p) : StepsPoints s t :=
  ⟨hk, hc, hm.1, hp, fun p m h => by rw [hm.2]; exact h, fun p m _ h k => by
    rw [hm.2] at k
    exact nomatch h.symm.trans k⟩

end

/-- R460: the share of the energy `left` that context `c` is charged. -/
def State.chargeShare (s : State) (left c : Nat) : State × Nat :=
  ((s.freshN 1).add (Reg.BRM_CNT_CTX_UJ c) ((Config.freeWord s.fresh).toNat % (left + 1)), left - (Config.freeWord s.fresh).toNat % (left + 1))

/-- The contexts with a running request. -/
def State.chargedContexts (s : State) : List Nat :=
  (List.range 256).filter (fun c =>
    s.que.reqs.entries.any (fun (e : Nat × Request) => e.2.ctx == c && (match e.2.phase with | .running => true | .waiting => false)))

theorem State.charge_eq (s : State) (uj : Nat) : s.charge uj =
    (s.chargedContexts.foldl (fun acc c => acc.1.chargeShare acc.2 c) (s, uj)).1.add Reg.BRM_CNT_UNCHARGED_UJ
      (s.chargedContexts.foldl (fun acc c => acc.1.chargeShare acc.2 c) (s, uj)).2 := (rfl)

section
variable (s : State)

theorem StepsPoints.setReg {a : Nat} (w : Word) (h : a < 0x100010 ∨ 0x100060 ≤ a) : StepsPoints s (s.setReg a w) :=
  .of_same ⟨rfl, rfl⟩ ⟨rfl, rfl⟩
    ⟨s.reg_setReg_other _ (by unfold Reg.BRM_CAP; omega), s.reg_setReg_other _ (by unfold Reg.BRM_OPPT; omega)⟩
    (fun p hp => State.palmPoint_ofReg (s.reg_setReg_other _ (by unfold Reg.BRM_PALM; omega)))

theorem StepsPoints.add {a : Nat} (n : Nat) (h : a < 0x100010 ∨ 0x100060 ≤ a) : StepsPoints s (s.add a n) :=
  .setReg s _ h

/-- The fields of BRM_PALM above the point are free to change. -/
theorem StepsPoints.setPalm (p lo w v : Nat) (h : lo + w ≤ 64) (hlo : 3 ≤ lo) : StepsPoints s (s.setFld (Reg.BRM_PALM p) lo w v) :=
  .of_same ⟨rfl, rfl⟩ ⟨rfl, rfl⟩
    ⟨s.reg_setFld_other _ _ _ (by unfold Reg.BRM_CAP Reg.BRM_PALM; omega),
      s.reg_setFld_other _ _ _ (by unfold Reg.BRM_OPPT Reg.BRM_PALM; omega)⟩
    (fun q _ => s.palmPoint_setFld_above q p lo w v h hlo)

/-- A record of no context changes none of Brim's registers. -/
theorem StepsPoints.record (sev cls status block unit detail : Nat) (h : sev ≤ 3) :
    StepsPoints s (s.record sev cls status block none unit detail) := by
  have hb := s.blank_record sev cls status block none unit detail
  have hq := (s.quiets_record sev cls status block none unit detail h).low
  have hbrm : (s.record sev cls status block none unit detail).brm = s.brm := congrArg (·.brm) hb
  exact .of_same ⟨State.blank_pending hb, State.blank_time hb⟩ ⟨congrArg Brim.measured hbrm, congrArg Brim.moves hbrm⟩
    ⟨hq _ (by unfold quietAddr; decide), hq _ (by unfold quietAddr; decide)⟩
    (fun p hp => State.palmPoint_ofReg (hq _ (by unfold quietAddr Reg.BRM_PALM; omega)))

/-- R450: a transition of one point begins, or an earlier one goes on. -/
theorem StepsPoints.startMove {p dst : Nat} (h : dst = s.palmPoint p + 1 ∨ dst = s.palmPoint p - 1) :
    StepsPoints s (s.startMove p dst) := by
  unfold State.startMove
  refine .ite (fun _ => .refl s) (fun hc => ?_)
  have hnone : s.brm.moves.find p = none := by
    cases hm : s.brm.moves.find p with
    | none => rfl
    | some m => exact absurd (by simp [hm]) hc
  refine StepsPoints.trans (t := { s with brm := { s.brm with moves := s.brm.moves.put p { dest := dst, rail := false } } })
    ⟨⟨rfl, rfl⟩, ⟨rfl, rfl⟩, rfl, fun _ _ => rfl, fun q m hq => ?_, fun q m _ hq hm => ?_⟩
    (StepsPoints.setPalm _ p 6 1 1 (by decide) (by decide))
  · have hne : q ≠ p := fun e => nomatch (e ▸ hq).symm.trans hnone
    exact (OMap.find_put_other _ _ hne).trans hq
  · by_cases e : q = p
    · subst e
      obtain rfl := Option.some.inj ((OMap.find_put_same _ _ _).symm.trans hm)
      exact ⟨rfl, h⟩
    · exact nomatch hq.symm.trans ((OMap.find_put_other _ _ e).symm.trans hm)

/-- R456: a cap that cannot be met is only counted, flagged and recorded. -/
theorem StepsPoints.capHeld : StepsPoints s s.capHeld := by
  unfold State.capHeld
  have hb : StepsPoints s (s.bump Reg.BRM_CNT_CAP_HELD) := .setReg s _ (by decide)
  exact .ite (fun _ => hb) (fun _ => (hb.trans (.setReg _ _ (by decide))).trans (.record _ 1 4 0 0x72 0xFFFF 0 (by decide)))

theorem StepsPoints.followTargets : StepsPoints s s.followTargets :=
  iter_inv (fun t => StepsPoints s t) 4 _ s (.refl s) (fun t _ _ ht => ht.trans (.ite (fun _ => .startMove t (.inr rfl)) (fun _ => .refl t)))

/-- R453: what Brim does in a period: it begins transitions of one point. -/
theorem StepsPoints.capAct (measured : Nat) (acts : List Nat) : StepsPoints s (s.capAct measured acts) := by
  refine StepsPoints.trans (.ite (fun _ => ?_) (fun _ => .ite (fun _ => .capHeld s) (fun _ => ?_))) (.followTargets _)
  · cases s.capRaise measured acts ((List.range 4).map s.countedPoint) with
    | none => exact .refl s
    | some p => exact .startMove s (.inl rfl)
  · exact each_inv (fun t => StepsPoints s t) _ _ s (.refl s) (fun t p _ ht => ht.trans (.startMove t (.inr rfl)))

theorem StepsPoints.showPalms : StepsPoints s s.showPalms :=
  iter_inv (fun t => StepsPoints s t) 4 _ s (.refl s) (fun t _ _ ht =>
    (ht.trans (.setPalm t _ 3 3 _ (by decide) (by decide))).trans (.setPalm _ _ 7 1 _ (by decide) (by decide)))

/-- R460: one context is charged a share of the energy that is left. -/
theorem StepsPoints.chargeShare (acc : State × Nat) (c : Nat) : StepsPoints acc.1 (acc.1.chargeShare acc.2 c).1 :=
  StepsPoints.trans (t := acc.1.freshN 1) (.of_same ⟨rfl, rfl⟩ ⟨rfl, rfl⟩ ⟨rfl, rfl⟩ (fun _ _ => rfl))
    (.add _ _ (.inr (by unfold Reg.BRM_CNT_CTX_UJ; omega)))

theorem StepsPoints.chargeAll (cs : List Nat) (acc : State × Nat) :
    StepsPoints acc.1 (cs.foldl (fun acc c => acc.1.chargeShare acc.2 c) acc).1 := by
  induction cs generalizing acc with
  | nil => exact .refl _
  | cons c cs ih => exact (StepsPoints.chargeShare acc c).trans (ih _)

/-- R460: the charges of a period go to counters. -/
theorem StepsPoints.charge (uj : Nat) : StepsPoints s (s.charge uj) := by
  rw [State.charge_eq]
  exact (StepsPoints.chargeAll _ (s, uj)).trans (.add _ _ (by decide))

/-- R462, R463: a period shows four figures and keeps the measurement. -/
theorem State.showPower_eq (measured : Nat) (acts : List Nat) : ∃ (gs : List Nat) (v m e : Nat), s.showPower measured acts =
    ((({ s with brm := { s.brm with govern := gs, measured := (measured :: s.brm.measured).take 100 } } : State).setRegN
      Reg.BRM_POWER v).setDictN 0x2E00 8 m).setDictN 0x2E00 9 e := ⟨_, _, _, _, rfl⟩

theorem StepsPoints.showPower (measured : Nat) (acts : List Nat) :
    StepsPoints { s with brm := { s.brm with measured := (measured :: s.brm.measured).take 100 } } (s.showPower measured acts) := by
  obtain ⟨gs, v, m, e, h⟩ := s.showPower_eq measured acts
  rw [h]
  exact .of_same ⟨rfl, rfl⟩ ⟨rfl, rfl⟩
    ⟨State.reg_setRegN_other _ _ (by decide), State.reg_setRegN_other _ _ (by decide)⟩
    (fun p hp => State.palmPoint_ofReg (State.reg_setRegN_other _ _ (by unfold Reg.BRM_PALM Reg.BRM_POWER; omega)))

end

/-! ## A period (R453) -/

theorem State.reg_applyShadow_same (s : State) (a : Nat) : (s.applyShadow a).reg a = s.shown a := by
  cases h : s.shadow.find a with
  | none => rw [State.applyShadow_none h, State.shown, h, Option.getD_none]
  | some w =>
    rw [State.applyShadow_some h, State.shown, h, Option.getD_some]
    exact s.reg_setReg_same a w

theorem State.reg_applyShadow_other (s : State) {a b : Nat} (hne : b ≠ a) : (s.applyShadow a).reg b = s.reg b := by
  cases h : s.shadow.find a with
  | none => rw [State.applyShadow_none h]
  | some w =>
    rw [State.applyShadow_some h]
    exact s.reg_setReg_other w hne

theorem State.brm_applyShadow (s : State) (a : Nat) : (s.applyShadow a).brm = s.brm :=
  units_field (·.brm) (fun _ => rfl) (s.units_applyShadow a)

/-- R453: the state in which a period is decided: the waiting values of BRM_CAP and BRM_OPPT are in force. -/
def State.capReady (s : State) : State := (s.applyShadow Reg.BRM_CAP).applyShadow Reg.BRM_OPPT

section
variable (s : State)

theorem State.kept_capReady : s.capReady.pending = s.pending ∧ s.capReady.time = s.time :=
  ⟨(State.pending_applyShadow _ _).trans (s.pending_applyShadow _), (State.time_applyShadow _ _).trans (s.time_applyShadow _)⟩

theorem State.brm_capReady : s.capReady.brm = s.brm := (State.brm_applyShadow _ _).trans (s.brm_applyShadow _)

theorem State.reg_capReady_other {a : Nat} (hc : a ≠ Reg.BRM_CAP) (ho : a ≠ Reg.BRM_OPPT) : s.capReady.reg a = s.reg a :=
  (State.reg_applyShadow_other _ ho).trans (s.reg_applyShadow_other hc)

theorem State.cap_capReady : s.capReady.reg Reg.BRM_CAP = s.shown Reg.BRM_CAP :=
  (State.reg_applyShadow_other _ (by decide)).trans (s.reg_applyShadow_same _)

theorem State.oppt_capReady : s.capReady.reg Reg.BRM_OPPT = s.shown Reg.BRM_OPPT :=
  (State.reg_applyShadow_same _ _).trans (s.shown_applyShadow _ _)

theorem State.palmPoint_capReady (p : Nat) : s.capReady.palmPoint p = s.palmPoint p :=
  State.palmPoint_ofReg (s.reg_capReady_other (by unfold Reg.BRM_PALM Reg.BRM_CAP; omega) (by unfold Reg.BRM_PALM Reg.BRM_OPPT; omega))

end

/-- The state in which a period is decided, with its measurement kept. -/
def State.capMeasured (s : State) (measured : Nat) : State :=
  { s.capReady with brm := { s.capReady.brm with measured := (measured :: s.capReady.brm.measured).take 100 } }

/-- R453, R462: a period is a step of Brim once the waiting values are in force and the measurement is kept. -/
theorem StepsPoints.capPeriod (s : State) (measured : Nat) (acts : List Nat) :
    StepsPoints (s.capMeasured measured) (s.capPeriod measured acts) := by
  have hmode : StepsPoints (s.capMeasured measured)
      ((s.capMeasured measured).setFld Reg.BRM_STATE 0 3 (s.capReady.fld Reg.BRM_CAP 12 1)) := .setReg _ _ (by decide)
  exact (((hmode.trans (StepsPoints.showPower (s.capReady.setFld Reg.BRM_STATE 0 3 (s.capReady.fld Reg.BRM_CAP 12 1)) measured acts)).trans
    (.charge _ measured)).trans (.showPalms _)).trans (.capAct _ measured acts)

/-! ## Settling at a point (R444, R450) -/

section
variable (s : State)

theorem exec_capPeriod (measured : Nat) (acts : List Nat) : exec (.capPeriod measured acts) s =
    done s (s.powered (fun u => (u.capPeriod measured acts).setReg Reg.BRM_CNT_PERIOD (s.reg Reg.BRM_CNT_PERIOD + 1))) := (rfl)

theorem exec_dividerStep (d : Fin 26) : exec (.dividerStep d) s = done s (s.powered (fun u => u.dividerStep d.val)) := (rfl)

theorem exec_railSlewDone (p : Fin 4) : exec (.railSlewDone p) s = done s (s.powered (fun u => u.railDone p.val)) := (rfl)

theorem exec_droopClear (p : Fin 4) : exec (.droopClear p) s = done s (s.powered (fun u => u.droopClear p.val)) := (rfl)

theorem exec_droopLong (p : Fin 4) : exec (.droopLong p) s = done s (s.powered (fun u => u.droopLong p.val)) := (rfl)

theorem exec_throttleStep (p : Fin 4) : exec (.throttleStep p) s = done s (s.powered (fun u => u.throttleStep p.val)) := (rfl)

/-- R457: a droop begins a stretch where none goes on. -/
theorem exec_droopDetect {s : State} {p : Fin 4} (h : s.brm.stretch.find p.val = none) : exec (.droopDetect p) s =
    done s (s.powered (fun u => (u.droopDetect p.val).setReg (Reg.BRM_CNT_DROOP p.val) (s.reg (Reg.BRM_CNT_DROOP p.val) + 1))) := by
  show done s (s.powered (fun u => if (s.brm.stretch.find p.val).isSome then _ else _)) = _
  rw [h]
  rfl

/-- R449: marking requests changes the request table alone. -/
theorem State.markFallback_keeps (p : Nat) : (s.markFallback p).regs = s.regs ∧ (s.markFallback p).brm = s.brm ∧
    (s.markFallback p).pending = s.pending ∧ (s.markFallback p).time = s.time := by
  unfold State.markFallback
  refine each_inv (fun t => t.regs = s.regs ∧ t.brm = s.brm ∧ t.pending = s.pending ∧ t.time = s.time) _ _ s
    ⟨rfl, rfl, rfl, rfl⟩ (fun t x _ ht => ?_)
  split
  · exact ht
  · exact ht

theorem State.palmSettle_rests {s : State} {p : Nat} {m : PalmMove} (hm : s.brm.moves.find p = some m)
    (h : (m.rail && s.palmDivided p) = false) : s.palmSettle p = s := by
  simp [State.palmSettle, hm, h]

/-- R450: the registers of a Palm at its new point. -/
def State.settledPalm (s : State) (p dst : Nat) : State :=
  (({ s with brm := { s.brm with moves := s.brm.moves.drop p } } : State).setFld (Reg.BRM_PALM p) 0 3 dst).setFld (Reg.BRM_PALM p) 6 1 0

theorem State.palmSettle_settles {s : State} {p : Nat} {m : PalmMove} (hm : s.brm.moves.find p = some m)
    (h : (m.rail && s.palmDivided p) = true) : s.palmSettle p = (s.settledPalm p m.dest).markFallback p := by
  simp only [State.palmSettle, hm, h, if_true]
  rfl

/-- Settling changes no divider, nor the queue and the time bases. -/
theorem State.palmSettle_keeps (p : Nat) : (s.palmSettle p).brm.divs = s.brm.divs ∧ (s.palmSettle p).pending = s.pending ∧
    (s.palmSettle p).time = s.time := by
  cases hm : s.brm.moves.find p with
  | none => simp [State.palmSettle, hm]
  | some m =>
    cases h : m.rail && s.palmDivided p with
    | false => simp [State.palmSettle_rests hm h]
    | true =>
      rw [State.palmSettle_settles hm h]
      obtain ⟨-, hb, hp, ht⟩ := (s.settledPalm p m.dest).markFallback_keeps p
      exact ⟨(congrArg Brim.divs hb).trans rfl, hp, ht⟩

theorem State.palmSettled_keeps (t : State) (p : Nat) : (s.palmSettled t p).brm = t.brm ∧ (s.palmSettled t p).pending = t.pending ∧
    (s.palmSettled t p).time = t.time := by
  unfold State.palmSettled
  split
  · exact ⟨rfl, rfl, rfl⟩
  · exact ⟨rfl, rfl, rfl⟩

/-- R444: a domain that may step takes its divider one towards its goal. -/
theorem State.divider_dividerStep {s : State} {d : Nat} (h : s.dividerMay d = true) :
    (s.dividerStep d).divider d = stepTowards (s.divider d) (s.dividerGoal d) ∧ (s.dividerStep d).pending = s.pending ∧
    (s.dividerStep d).time = s.time := by
  have hset : SMap.get (fun _ => 224) (SMap.set (fun _ => 224) s.brm.divs d (stepTowards (s.divider d) (s.dividerGoal d))) d =
      stepTowards (s.divider d) (s.dividerGoal d) := SMap.get_set_same _ _ _ _
  unfold State.dividerStep
  rw [if_pos h]
  cases domainPalm d with
  | none => exact ⟨hset, rfl, rfl⟩
  | some p =>
    obtain ⟨hb, hp, ht⟩ := s.palmSettled_keeps
      (State.palmSettle { s with brm := { s.brm with divs := SMap.set (fun _ => 224) s.brm.divs d (stepTowards (s.divider d) (s.dividerGoal d)) } } p) p
    obtain ⟨hd, hp', ht'⟩ := State.palmSettle_keeps
      { s with brm := { s.brm with divs := SMap.set (fun _ => 224) s.brm.divs d (stepTowards (s.divider d) (s.dividerGoal d)) } } p
    refine ⟨?_, hp.trans hp', ht.trans ht'⟩
    refine Eq.trans ?_ hset
    exact congrArg (fun x => SMap.get (fun _ => 224) x d) ((congrArg Brim.divs hb).trans hd)

/-- R450: the rail of a Palm in transition has arrived. -/
def State.railAt (s : State) (p : Nat) (m : PalmMove) : State :=
  { s with brm := { s.brm with moves := s.brm.moves.put p { m with rail := true } } }

section
variable {s} {p : Nat} {m : PalmMove} (hm : s.brm.moves.find p = some m)
include hm

theorem State.railDone_eq (hr : m.rail = false) (h : s.movingUp p = true ∨ s.palmDivided p = true) :
    s.railDone p = s.palmSettled ((s.railAt p m).palmSettle p) p := by
  have hc : (m.rail || !(s.movingUp p || s.palmDivided p)) = false := by
    rcases h with h | h <;> simp [hr, h]
  simp only [State.railDone, hm, hc]
  rfl

theorem State.palmDivided_railAt : (s.railAt p m).palmDivided p = s.palmDivided p := by
  have hh : (s.railAt p m).headingPoint p = s.headingPoint p := by
    simp [State.headingPoint, State.railAt, hm]
  unfold State.palmDivided
  rw [hh]
  rfl

/-- R450: the Palm is at its new point, which counts, when its domains have reached it. -/
theorem State.railDone_arrives (hp4 : p < 4) (hr : m.rail = false) (hd : s.palmDivided p = true) :
    (s.railDone p).palmPoint p = m.dest % 8 ∧ (s.railDone p).brm.moves.find p = none ∧
    (s.railDone p).reg Reg.BRM_CNT_TRANSITION = s.reg Reg.BRM_CNT_TRANSITION + 1 ∧
    (s.railDone p).pending = s.pending ∧ (s.railDone p).time = s.time := by
  have hput : (s.railAt p m).brm.moves.find p = some { m with rail := true } := OMap.find_put_same _ _ _
  obtain ⟨hregs, hb, hp, ht⟩ := ((s.railAt p m).settledPalm p m.dest).markFallback_keeps p
  have hnone : (((s.railAt p m).settledPalm p m.dest).markFallback p).brm.moves.find p = none := by
    rw [hb]
    exact OMap.find_drop_same _ _
  have hpoint : ((s.railAt p m).settledPalm p m.dest).palmPoint p = m.dest % 8 :=
    (State.fld_setFld_below _ _ _ _ _ _ _ (by decide) (by decide)).trans (State.fld_setFld_same _ _ _ _ _ (by decide))
  rw [State.railDone_eq hm hr (.inr hd), State.palmSettle_settles hput (by rw [State.palmDivided_railAt hm, hd]; rfl), State.palmSettled, if_pos (by rw [hm, hnone]; rfl)]
  refine ⟨?_, hnone, State.reg_setReg_same _ _ _, hp, ht⟩
  have hne : Reg.BRM_PALM p ≠ Reg.BRM_CNT_TRANSITION := by unfold Reg.BRM_PALM Reg.BRM_CNT_TRANSITION; omega
  refine (State.palmPoint_ofReg (State.reg_setReg_other _ _ hne)).trans ?_
  exact (State.palmPoint_ofReg (State.reg_of_regs hregs _)).trans hpoint

/-- R450: a rail that has arrived waits for the domains of its Palm. -/
theorem State.railDone_waits (hr : m.rail = false) (hu : s.movingUp p = true) (hd : s.palmDivided p = false) :
    s.railDone p = s.railAt p m := by
  have hput : (s.railAt p m).brm.moves.find p = some { m with rail := true } := OMap.find_put_same _ _ _
  rw [State.railDone_eq hm hr (.inl hu), State.palmSettle_rests hput (by rw [State.palmDivided_railAt hm, hd]; rfl), State.palmSettled, if_neg (by rw [hput]; simp)]

end
end

/-! ## Moves and stretches (R450, R457) -/

section
variable {s : State} {p : Nat}

/-- R450: a Palm that is in no transition begins one. -/
theorem State.startMove_begins {dst : Nat} (hm : s.brm.moves.find p = none) (hd : s.palmPoint p ≠ dst) :
    (s.startMove p dst).brm.moves.find p = some ⟨dst, false⟩ := by
  have hc : ¬ ((s.brm.moves.find p).isSome || s.palmPoint p == dst) = true := by simp [hm, hd]
  rw [State.startMove, if_neg hc]
  exact OMap.find_put_same _ _ _

theorem State.droopDetect_begins (h : s.brm.stretch.find p = none) :
    (s.droopDetect p).brm.stretch.find p = some s.now ∧ (s.droopDetect p).bit (Reg.BRM_PALM p) 9 = true ∧
    (s.droopDetect p).pending = s.pending ∧ (s.droopDetect p).time = s.time := by
  simp only [State.droopDetect, h, Option.isSome_none, Bool.false_eq_true, if_false, State.dictAddSat]
  rw [State.setDictN_brm, State.setFld_brm, State.setDictN_pending, State.setDictN_time, State.bit_ofReg (State.reg_of_regs (State.setDictN_regs _ _ _ _) _)]
  exact ⟨OMap.find_put_same _ _ _, State.bit_setFld_one _ _ 9 (by decide), State.setFld_pending _ _ _ _ _, State.setFld_time _ _ _ _ _⟩

theorem State.droopClear_ends {since : Nat} (h : s.brm.stretch.find p = some since) : s.droopClear p =
    (({ s with brm := { s.brm with stretch := s.brm.stretch.drop p } } : State).setFld (Reg.BRM_PALM p) 9 1 0).setReg
      (Reg.BRM_CNT_STRETCH_NS p) (s.reg (Reg.BRM_CNT_STRETCH_NS p) + BitVec.ofNat 64 (s.now - since)) := by
  simp only [State.droopClear, h]

theorem State.droopLong_lowers {since : Nat} (h : s.brm.stretch.find p = some since) (hf : s.floorPoint p < s.palmPoint p) :
    s.droopLong p = (s.startMove p (s.palmPoint p - 1)).setRegN Reg.BRM_FLAGS (s.regN Reg.BRM_FLAGS ||| 8) := by
  simp only [State.droopLong, h, Option.isNone_some, Bool.false_eq_true, if_false, if_neg (Nat.not_le.mpr hf)]

end

/-- Settles O47: a period, a droop and a throttle step only begin transitions (`StepsPoints`), one point from where the Palm is; a
transition ends in `palmSettle`, once its rail and its domains have arrived. -/
theorem powerPointsAndDroop : Obligations.PowerPointsAndDroop := by
  intro s hon
  refine ⟨fun measured acts => ?_, fun d hd => ?_, fun p m hm hr hgo => ⟨fun hd => ?_, fun hd => ?_⟩, fun p hs => ?_,
    fun p since hs => ⟨?_, fun hm hf => ?_⟩, fun p hl h0 hm => ?_⟩
  · -- CAP_PERIOD
    obtain ⟨⟨hp, ht⟩, ⟨hcap, hoppt⟩, hmeas, -, hstays, hbegins⟩ := (StepsPoints.capPeriod s measured acts).trans
      (.setReg _ (a := Reg.BRM_CNT_PERIOD) (s.reg Reg.BRM_CNT_PERIOD + 1) (by decide))
    have hb := s.brm_capReady
    refine next_powered (exec_capPeriod s measured acts) hon rfl (hp.trans s.kept_capReady.1) (ht.trans s.kept_capReady.2)
      ⟨State.reg_setReg_same _ _ _, hcap.trans s.cap_capReady, hoppt.trans s.oppt_capReady, ?_, fun p m hm => ?_, fun p m hs hm => ?_⟩
    · exact hmeas.trans (congrArg (fun b : Brim => (measured :: b.measured).take 100) hb)
    · exact hstays p m (by rw [State.capMeasured, hb]; exact hm)
    · rw [← s.palmPoint_capReady p]
      exact hbegins p m p.isLt (by rw [State.capMeasured, hb]; exact hs) hm
  · -- DIVIDER_STEP
    obtain ⟨hv, hp, ht⟩ := State.divider_dividerStep hd
    exact next_powered (exec_dividerStep s d) hon rfl hp ht hv
  · -- RAIL_SLEW_DONE, the domains having arrived
    obtain ⟨hpt, hnone, hc, hp, ht⟩ := State.railDone_arrives hm p.isLt hr hd
    exact next_powered (exec_railSlewDone s p) hon rfl hp ht ⟨hpt, hnone, hc⟩
  · -- RAIL_SLEW_DONE before them
    have hu : s.movingUp p = true := hgo.resolve_right (by simp [hd])
    exact next_powered (exec_railSlewDone s p) hon (State.railDone_waits hm hr hu hd) rfl rfl ⟨OMap.find_put_same _ _ _, rfl⟩
  · -- DROOP_DETECT
    have hne : Reg.BRM_PALM p.val ≠ Reg.BRM_CNT_DROOP p.val := by unfold Reg.BRM_PALM Reg.BRM_CNT_DROOP; omega
    obtain ⟨hstretch, hbit, hp, ht⟩ := State.droopDetect_begins hs
    exact next_powered (exec_droopDetect hs) hon rfl hp ht
      ⟨hstretch, (State.bit_ofReg (State.reg_setReg_other _ _ hne) 9).trans hbit, State.reg_setReg_same _ _ _⟩
  · -- DROOP_CLEAR
    have hne : Reg.BRM_PALM p.val ≠ Reg.BRM_CNT_STRETCH_NS p.val := by unfold Reg.BRM_PALM Reg.BRM_CNT_STRETCH_NS; omega
    refine next_powered (exec_droopClear s p) hon (State.droopClear_ends hs) (by simp) (by simp)
      ⟨OMap.find_drop_same _ _, ?_, State.reg_setReg_same _ _ _⟩
    exact (State.bit_ofReg (State.reg_setReg_other _ _ hne) 9).trans (State.bit_setFld_zero _ _ 9 (by decide))
  · -- DROOP_LONG
    obtain ⟨hp, ht⟩ := (StepsPoints.startMove s (p := p) (dst := s.palmPoint p - 1) (.inr rfl)).kept
    refine next_powered (exec_droopLong s p) hon (State.droopLong_lowers hs hf) hp ht ⟨State.startMove_begins hm (by omega), ?_⟩
    have h8 : Nat.testBit 8 3 = true := rfl
    rw [State.bit, State.regN_setRegN_same, Nat.testBit_mod_two_pow, Nat.testBit_or, h8]
    simp
  · -- THROTTLE_STEP
    obtain ⟨hp, ht⟩ := (StepsPoints.startMove s (p := p) (dst := s.palmPoint p - 1) (.inr rfl)).kept
    exact next_powered (exec_throttleStep s p) hon ((if_pos hl).trans (if_neg h0)) hp ht (State.startMove_begins hm (by omega))

end Sys2Proof.Machine
end

section
/-! PROOFS. What Brim does about temperature, clock faults and gates (R442 to R447, R458, R459). -/

namespace Sys2Proof.Machine

/-! ## A stored register (R394, R395) -/

section
variable (s : State)

/-- A stored write of an immediate register shows its new value at once. -/
theorem State.configOnly_storeReg_immediate {a : Nat} (v : Nat) (ha : (regDef a).map (·.cls) = some (.rwl .immediate)) :
    ConfigOnly (s.setRegN a (writtenTo a (s.shown a).toNat v)) (s.storeReg a v) := by
  obtain ⟨d, hd, hc⟩ := Option.map_eq_some_iff.1 ha
  have hset : ∀ u : State, u.units = s.units ∧ u.regs = s.regs → ConfigOnly
      (s.setRegN a (clampReg d.base (d.merge (s.shown a).toNat v))) (u.setRegN a (clampReg d.base (d.merge (s.shown a).toNat v))) := by
    intro u hu
    refine ⟨hu.1, fun b _ => ?_⟩
    by_cases hb : b = a
    · rw [hb, State.reg_setRegN_same, State.reg_setRegN_same]
    · rw [State.reg_setRegN_other _ _ hb, State.reg_setRegN_other _ _ hb, State.reg_of_regs hu.2]
  simp only [State.storeReg, writtenTo, hd, hc, if_true]
  have hkeep : ∀ c : Prop, [Decidable c] → (if c then { s with refused := s.refused.filter (fun x => !(x == a)) } else s).units = s.units ∧
      (if c then { s with refused := s.refused.filter (fun x => !(x == a)) } else s).regs = s.regs := by
    intro c _
    split
    · exact ⟨rfl, rfl⟩
    · exact ⟨rfl, rfl⟩
  exact ConfigOnly.ite (hset _ (hkeep _)) ((hset _ (hkeep _)).trans (State.configOnly_uncommit _ _))

/-- A bit outside a field keeps its value when the field is set. -/
theorem State.bit_setFld_other (a lo w v k : Nat) (h : lo + w ≤ 64) (hk : k < lo ∨ lo + w ≤ k) :
    (s.setFld a lo w v).bit a k = s.bit a k := by
  rw [State.bit_eq_fld, State.bit_eq_fld]
  rcases hk with hk | hk
  · rw [s.fld_setFld_below _ _ _ _ _ _ h hk]
  · rw [s.fld_setFld_above _ _ _ _ _ _ h hk]

end

/-! ## Bus errors (R391) -/

section
variable (s : State) (ag : Agent) (w : Bool) (cause addr : Nat)

/-- R391: what a bus error keeps in CFG_BUS_ERR and counts. -/
theorem State.busError_counted : ∃ u : State, u.blank = s.blank ∧
    (∀ a, a ≠ Reg.CFG_BUS_ERR → a ≠ Reg.CFG_BUS_ERR_ADDR → a ≠ Reg.CFG_CNT_BUS_ERR → u.reg a = s.reg a) ∧
    u.reg Reg.CFG_CNT_BUS_ERR = s.reg Reg.CFG_CNT_BUS_ERR + 1 ∧
    (s.busError ag w cause addr = u ∨ ∃ x y, s.busError ag w cause addr = u.record 1 22 0 0xFF none x y) := by
  unfold State.busError
  extract_lets code core word s1 s2
  have h1 : s1.blank = s.blank ∧ (∀ a, a ≠ Reg.CFG_BUS_ERR → a ≠ Reg.CFG_BUS_ERR_ADDR → s1.reg a = s.reg a) := by
    unfold s1
    split
    · exact ⟨rfl, fun _ _ _ => rfl⟩
    · exact ⟨(State.blank_setRegN _ _ _).trans (s.blank_setRegN _ _),
        fun a h h' => (State.reg_setRegN_other _ _ h').trans (s.reg_setRegN_other _ h)⟩
  obtain ⟨hb, hr⟩ := h1
  refine ⟨s2, (s1.blank_bump _).trans hb, fun a h h' h'' => (s1.reg_bump_other h'').trans (hr a h h'),
    (s1.reg_bump_same _).trans (congrArg (· + 1) (hr _ (by decide) (by decide))), ?_⟩
  split
  · exact .inr ⟨_, _, rfl⟩
  · exact .inl rfl

theorem State.blank_busError : (s.busError ag w cause addr).blank = s.blank := by
  obtain ⟨u, hb, -, -, h | ⟨x, y, h⟩⟩ := s.busError_counted ag w cause addr
  · rw [h, hb]
  · rw [h, State.blank_record, hb]

theorem State.reg_busError_count : (s.busError ag w cause addr).reg Reg.CFG_CNT_BUS_ERR = s.reg Reg.CFG_CNT_BUS_ERR + 1 := by
  obtain ⟨u, -, -, hr, h | ⟨x, y, h⟩⟩ := s.busError_counted ag w cause addr
  · rw [h, hr]
  · rw [h, (u.quiets_record 1 22 0 0xFF none x y (by decide)).low _ (by unfold quietAddr; decide), hr]

end

/-! ## Temperature (R458) -/

/-- A fact that one round of a fold makes true and no round makes false holds at its end. -/
theorem each_reaches_mem {σ α : Type} (P : σ → Prop) (xs : List α) (f : σ → α → σ) (s : σ) {x : α} (hx : x ∈ xs)
    (hset : ∀ t, P (f t x)) (hkeep : ∀ t y, y ∈ xs → P t → P (f t y)) : P (each xs f s) := by
  obtain ⟨as, bs, hsplit⟩ := List.append_of_mem hx
  unfold each
  rw [hsplit, List.foldl_append, List.foldl_cons]
  exact each_inv P bs f _ (hset _) (fun t y hy ht => hkeep t y (by rw [hsplit]; simp [hy]) ht)

theorem iter_reaches {σ : Type} (P : σ → Prop) (n : Nat) (f : σ → Nat → σ) (s : σ) {x : Nat} (hx : x < n)
    (hset : ∀ t, P (f t x)) (hkeep : ∀ t y, y < n → P t → P (f t y)) : P (iter n f s) :=
  each_reaches_mem P (List.range n) f s (List.mem_range.2 hx) hset (fun t y hy ht => hkeep t y (List.mem_range.1 hy) ht)

/-- From `s` to `t` the queue, the time bases, the shown readings and the throttling of every Palm but `q` stay. -/
structure HeatKeeps (q : Nat) (s t : State) : Prop where
  kept : t.pending = s.pending ∧ t.time = s.time
  therm : ∀ k, k < 64 → t.reg (Reg.BRM_THERM k) = s.reg (Reg.BRM_THERM k)
  palm : ∀ p, p < 4 → p ≠ q → t.throttled p = s.throttled p ∧ t.brm.lowering.testBit p = s.brm.lowering.testBit p

section
variable {q : Nat} {s t u : State}

theorem HeatKeeps.refl (q : Nat) (s : State) : HeatKeeps q s s := ⟨⟨rfl, rfl⟩, fun _ _ => rfl, fun _ _ _ => ⟨rfl, rfl⟩⟩

theorem HeatKeeps.trans (h : HeatKeeps q s t) (k : HeatKeeps q t u) : HeatKeeps q s u :=
  ⟨⟨k.kept.1.trans h.kept.1, k.kept.2.trans h.kept.2⟩, fun i hi => (k.therm i hi).trans (h.therm i hi),
    fun p hp hq => ⟨(k.palm p hp hq).1.trans (h.palm p hp hq).1, (k.palm p hp hq).2.trans (h.palm p hp hq).2⟩⟩

theorem HeatKeeps.ite {c : Prop} [Decidable c] (ht : c → HeatKeeps q s t) (hu : ¬ c → HeatKeeps q s u) :
    HeatKeeps q s (if c then t else u) := by
  split
  case isTrue h => exact ht h
  case isFalse h => exact hu h

/-- What keeps the registers of the readings and the Palms, and which Palms are being lowered. -/
theorem HeatKeeps.of_reg (hk : t.pending = s.pending ∧ t.time = s.time) (hb : t.brm.lowering = s.brm.lowering)
    (hr : ∀ a, 0x100040 ≤ a → a < 0x100280 → t.reg a = s.reg a) : HeatKeeps q s t :=
  ⟨hk, fun k hk => hr _ (by unfold Reg.BRM_THERM; omega) (by unfold Reg.BRM_THERM; omega), fun p hp _ =>
    ⟨State.bit_ofReg (hr _ (by unfold Reg.BRM_PALM; omega) (by unfold Reg.BRM_PALM; omega)) 8, by rw [hb]⟩⟩

/-- A field of one Palm that is not its throttling. -/
theorem HeatKeeps.setPalm (s : State) (p lo w v : Nat) (hp : p < 4) (h : lo + w ≤ 64) (h' : p = q ∨ lo + w ≤ 8 ∨ 9 ≤ lo) :
    HeatKeeps q s (s.setFld (Reg.BRM_PALM p) lo w v) := by
  refine ⟨⟨rfl, rfl⟩, fun k _ => s.reg_setFld_other _ _ _ (by unfold Reg.BRM_PALM Reg.BRM_THERM; omega), fun i _ hi => ⟨?_, rfl⟩⟩
  by_cases e : i = p
  · rw [e]
    exact s.bit_setFld_other _ _ _ _ _ h ((h'.resolve_left (fun hq => hi (e.trans hq))).symm.imp Nat.lt_of_succ_le id)
  · exact State.bit_ofReg (s.reg_setFld_other _ _ _ (brmPalm_ne e)) 8

/-- A record of no context changes nothing of this. -/
theorem HeatKeeps.record (s : State) (sev cls status block unit detail : Nat) (h : sev ≤ 3) :
    HeatKeeps q s (s.record sev cls status block none unit detail) := by
  have hb := s.blank_record sev cls status block none unit detail
  have hbrm : (s.record sev cls status block none unit detail).brm = s.brm := congrArg (·.brm) hb
  exact .of_reg ⟨State.blank_pending hb, State.blank_time hb⟩ (congrArg Brim.lowering hbrm)
    (fun a _ _ => (s.quiets_record sev cls status block none unit detail h).low a (by unfold quietAddr; omega))

theorem HeatKeeps.throttleBegin (s : State) : HeatKeeps q s s.throttleBegin :=
  HeatKeeps.trans (t := (s.orReg Reg.BRM_FLAGS 4).bump Reg.BRM_CNT_THROTTLE)
    (.of_reg ⟨rfl, rfl⟩ rfl (fun _ _ _ => (State.reg_bump_other _ (by unfold Reg.BRM_CNT_THROTTLE; omega)).trans
      (s.reg_orReg_other _ (by unfold Reg.BRM_FLAGS; omega))))
    (.record _ 1 3 0 0x72 0xFFFF 0 (by decide))

theorem HeatKeeps.startMove (s : State) (p dst : Nat) (hp : p < 4) : HeatKeeps q s (s.startMove p dst) := by
  unfold State.startMove
  exact .ite (fun _ => .refl q s) (fun _ => HeatKeeps.trans
    (t := { s with brm := { s.brm with moves := s.brm.moves.put p { dest := dst, rail := false } } })
    (.of_reg ⟨rfl, rfl⟩ rfl (fun _ _ _ => rfl)) (.setPalm _ p 6 1 1 hp (by decide) (.inr (.inl (by decide)))))

theorem HeatKeeps.throttleLower (s : State) (p : Nat) (hp : p < 4) : HeatKeeps q s (s.throttleLower p) :=
  .ite (fun _ => .refl q s) (fun _ => .startMove s p _ hp)

/-- R458: the Gusset domains are throttled without the Palms. -/
theorem HeatKeeps.throttleCrown (s : State) (temps : List Int) : HeatKeeps q s (s.throttleCrown temps) := by
  have hset : ∀ b, HeatKeeps q s { s with brm := { s.brm with gusHot := b } } := fun b =>
    .of_reg ⟨rfl, rfl⟩ rfl (fun _ _ _ => rfl)
  exact .ite (fun _ => .ite (fun _ => .refl q s) (fun _ => (hset true).trans (.throttleBegin _)))
    (fun _ => .ite (fun _ => hset false) (fun _ => .refl q s))

end

/-! ### One Palm -/

/-- R458: Palm `p` is throttled and being lowered, or neither. -/
def State.palmHeat (s : State) (p : Nat) (on : Bool) : Prop := s.throttled p = on ∧ s.brm.lowering.testBit p = on

theorem testBit_lowerMask (p q : Fin 4) : (15 - 2 ^ q.val).testBit p.val = !(p == q) := by
  revert p q
  decide

theorem HeatKeeps.palmHeat {q p : Nat} {on : Bool} {s t : State} (h : HeatKeeps q s t) (hp : p < 4) (hne : p ≠ q)
    (hs : s.palmHeat p on) : t.palmHeat p on :=
  ⟨(h.palm p hp hne).1.trans hs.1, (h.palm p hp hne).2.trans hs.2⟩

/-- The machine with another set of Palms that are being lowered. -/
def State.setLowering (s : State) (x : Nat) : State := { s with brm := { s.brm with lowering := x } }

/-- R458: a Palm at 100 °C or more, and one below 97 °C. -/
def State.palmHot (s : State) (q : Nat) : State :=
  if s.throttled q then s else ((s.setFld (Reg.BRM_PALM q) 8 1 1).throttleBegin).throttleLower q

def State.palmCool (s : State) (q : Nat) (h : Int) : State :=
  if h < 1552 then s.setLowering (s.brm.lowering &&& (15 - 2 ^ q)) else s

theorem State.throttlePalm_eq (s : State) (temps : List Int) (q : Nat) : s.throttlePalm temps q =
    if 1600 ≤ hottest temps (palmSensors q) then (s.palmHot q).setLowering ((s.palmHot q).brm.lowering ||| 2 ^ q)
    else if hottest temps (palmSensors q) < 1520 then
      (s.palmCool q (hottest temps (palmSensors q))).setFld (Reg.BRM_PALM q) 8 1 0
    else s.palmCool q (hottest temps (palmSensors q)) := (rfl)

theorem testBit_joinLowering {q p x : Nat} (hp : p ≠ q) : (x ||| 2 ^ q).testBit p = x.testBit p := by
  rw [Nat.testBit_or, Nat.testBit_two_pow, decide_eq_false (Ne.symm hp), Bool.or_false]

theorem testBit_leaveLowering_self {q x : Nat} (hq : q < 4) : (x &&& (15 - 2 ^ q)).testBit q = false := by
  rw [Nat.testBit_and, testBit_lowerMask ⟨q, hq⟩ ⟨q, hq⟩, beq_self_eq_true, Bool.not_true, Bool.and_false]

theorem testBit_leaveLowering_other {q p x : Nat} (hq : q < 4) (hp : p < 4) (hne : p ≠ q) :
    (x &&& (15 - 2 ^ q)).testBit p = x.testBit p := by
  have hb : ((⟨p, hp⟩ : Fin 4) == ⟨q, hq⟩) = false := beq_eq_false_iff_ne.2 (fun e => hne (congrArg Fin.val e))
  rw [Nat.testBit_and, testBit_lowerMask ⟨p, hp⟩ ⟨q, hq⟩, hb, Bool.not_false, Bool.and_true]

section
variable (s : State) {q : Nat}

/-- Other Palms stay in the set of those being lowered when one joins or leaves. -/
theorem HeatKeeps.setLowering (x : Nat) (h : ∀ p, p < 4 → p ≠ q → x.testBit p = s.brm.lowering.testBit p) :
    HeatKeeps q s (s.setLowering x) := ⟨⟨rfl, rfl⟩, fun _ _ => rfl, fun p hp hq => ⟨rfl, h p hp hq⟩⟩

variable (hq : q < 4)
include hq

theorem HeatKeeps.palmHot : HeatKeeps q s (s.palmHot q) :=
  .ite (fun _ => .refl q s) (fun _ => ((HeatKeeps.setPalm s q 8 1 1 hq (by decide) (.inl rfl)).trans (.throttleBegin _)).trans
    (.throttleLower _ q hq))

theorem HeatKeeps.palmCool (h : Int) : HeatKeeps q s (s.palmCool q h) :=
  .ite (fun _ => .setLowering s _ (fun _ hp hne => testBit_leaveLowering_other hq hp hne)) (fun _ => .refl q s)

theorem State.throttled_palmHot : (s.palmHot q).throttled q = true := by
  unfold State.palmHot
  split
  case isTrue h => exact h
  case isFalse h =>
    have hk := (HeatKeeps.throttleBegin (q := 4) (s.setFld (Reg.BRM_PALM q) 8 1 1)).trans (.throttleLower _ q hq)
    exact (hk.palm q hq (by omega)).1.trans (s.bit_setFld_one _ 8 (by decide))

/-- R458: a reading of one Palm leaves the others. -/
theorem HeatKeeps.throttlePalm (temps : List Int) : HeatKeeps q s (s.throttlePalm temps q) := by
  rw [State.throttlePalm_eq]
  refine .ite (fun _ => (HeatKeeps.palmHot s hq).trans (.setLowering _ _ (fun _ _ hp => testBit_joinLowering hp)))
    (fun _ => .ite (fun _ => ?_) (fun _ => .palmCool s hq _))
  exact (HeatKeeps.palmCool s hq _).trans (.setPalm _ q 8 1 0 hq (by decide) (.inl rfl))

theorem State.palmHeat_hot {temps : List Int} (h : 1600 ≤ hottest temps (palmSensors q)) :
    (s.throttlePalm temps q).palmHeat q true := by
  rw [State.throttlePalm_eq, if_pos h]
  refine ⟨s.throttled_palmHot hq, (Nat.testBit_or ..).trans ?_⟩
  rw [Nat.testBit_two_pow_self, Bool.or_true]

theorem State.palmHeat_cold {temps : List Int} (h : hottest temps (palmSensors q) < 1520) :
    (s.throttlePalm temps q).palmHeat q false := by
  rw [State.throttlePalm_eq, if_neg (by omega), if_pos h, State.palmCool, if_pos (by omega)]
  exact ⟨State.bit_setFld_zero _ _ 8 (by decide), testBit_leaveLowering_self hq⟩

end

/-! ### A sample -/

/-- R458: what a sample below 115 °C does after its readings are shown. -/
def State.throttleAll (s : State) (temps : List Int) : State := (iter 4 (fun t p => t.throttlePalm temps p) s).throttleCrown temps

def State.showTherm (s : State) (temps : List Int) : State :=
  iter 64 (fun t k => t.setRegN (Reg.BRM_THERM k) (codeOf 16 (nth 0 temps k))) s

section
variable (s : State) (temps : List Int)

theorem State.showTherm_keeps : (s.showTherm temps).units = s.units :=
  iter_inv (fun t => t.units = s.units) 64 _ s rfl (fun t _ _ h => (t.units_setRegN _ _).trans h)

theorem State.regN_showTherm {k : Nat} (hk : k < 64) : (s.showTherm temps).regN (Reg.BRM_THERM k) = codeOf 16 (nth 0 temps k) := by
  have hlt : codeOf 16 (nth 0 temps k) < 2 ^ 64 := by unfold codeOf; omega
  have h : (s.showTherm temps).reg (Reg.BRM_THERM k) = BitVec.ofNat 64 (codeOf 16 (nth 0 temps k)) :=
    s.reg_iter_setReg_same (f := Reg.BRM_THERM) (fun i j h => by unfold Reg.BRM_THERM at h; omega)
      (fun i => BitVec.ofNat 64 (codeOf 16 (nth 0 temps i))) hk
  rw [State.regN, h, BitVec.toNat_ofNat, Nat.mod_eq_of_lt hlt]

/-- Throttling keeps the queue, the time bases and the readings. -/
theorem State.throttleAll_keeps : ((s.throttleAll temps).pending = s.pending ∧ (s.throttleAll temps).time = s.time) ∧
    ∀ k, k < 64 → (s.throttleAll temps).reg (Reg.BRM_THERM k) = s.reg (Reg.BRM_THERM k) := by
  have h4 := HeatKeeps.throttleCrown (q := 4) (iter 4 (fun t p => t.throttlePalm temps p) s) temps
  have h := iter_inv (fun t => (t.pending = s.pending ∧ t.time = s.time) ∧ ∀ k, k < 64 → t.reg (Reg.BRM_THERM k) = s.reg (Reg.BRM_THERM k))
    4 (fun t p => t.throttlePalm temps p) s ⟨⟨rfl, rfl⟩, fun _ _ => rfl⟩ (fun t p hp ht => by
      obtain ⟨⟨hpend, htime⟩, htherm⟩ := ht
      have hk := HeatKeeps.throttlePalm t hp temps
      exact ⟨⟨hk.kept.1.trans hpend, hk.kept.2.trans htime⟩, fun k hk64 => (hk.therm k hk64).trans (htherm k hk64)⟩)
  obtain ⟨⟨hpend, htime⟩, htherm⟩ := h
  exact ⟨⟨h4.kept.1.trans hpend, h4.kept.2.trans htime⟩, fun k hk => (h4.therm k hk).trans (htherm k hk)⟩

/-- R458: what the reading of a Palm makes of it stays to the end of the sample. -/
theorem State.palmHeat_throttleAll {p : Nat} {on : Bool} (hp : p < 4) (h : ∀ t : State, (t.throttlePalm temps p).palmHeat p on) :
    (s.throttleAll temps).palmHeat p on := by
  have hall : (iter 4 (fun t q => t.throttlePalm temps q) s).palmHeat p on := by
    refine iter_reaches (fun t => t.palmHeat p on) 4 _ s hp h (fun t q hq ht => ?_)
    by_cases e : p = q
    · subst e
      exact h t
    · exact (HeatKeeps.throttlePalm t hq temps).palmHeat hp e ht
  exact (HeatKeeps.throttleCrown (q := 4) _ temps).palmHeat hp (by omega) hall

end

/-! ## Clocks (R441, R442) -/

section
variable (s : State)

theorem lockBit_eq {pll : Nat} (h : pll < 6) : lockBit pll = some (4 + pll) := by simp [lockBit, h]

theorem State.setLock_eq {pll : Nat} (on : Bool) (h : pll < 6) : s.setLock pll on = s.setFld Reg.BRM_STATE (4 + pll) 1 (b2n on) := by
  rw [State.setLock, lockBit_eq h]

theorem State.setLock_keeps (pll : Nat) (on : Bool) : (s.setLock pll on).pending = s.pending ∧ (s.setLock pll on).time = s.time := by
  unfold State.setLock
  split
  · exact ⟨rfl, rfl⟩
  · exact ⟨rfl, rfl⟩

/-- R442: what a clock fault shows before anything else happens. -/
def State.lockLost (s : State) (pll : Nat) : State := (s.setLock pll false).orReg Reg.BRM_FLAGS 16

/-- R442: a clock fault does no more to Brim than to show itself. -/
theorem State.clockFault_keeps (pll : Nat) :
    (s.clockFault pll).pending = s.pending ∧ (s.clockFault pll).time = s.time ∧
    ∀ a, 0x100000 ≤ a → a < 0x200000 → (s.clockFault pll).reg a = (s.lockLost pll).reg a := by
  obtain ⟨hp, ht⟩ := s.setLock_keeps pll false
  have hrec : ∀ (u : State) (sev cls : Nat), sev ≤ 3 → (u.pending = s.pending ∧ u.time = s.time ∧ ∀ a, 0x100000 ≤ a → a < 0x200000 →
      u.reg a = (s.lockLost pll).reg a) → (u.record sev cls 0 0x72 none 0xFFFF 0).pending = s.pending ∧
      (u.record sev cls 0 0x72 none 0xFFFF 0).time = s.time ∧ ∀ a, 0x100000 ≤ a → a < 0x200000 →
      (u.record sev cls 0 0x72 none 0xFFFF 0).reg a = (s.lockLost pll).reg a := by
    intro u sev cls hsev ⟨h1, h2, h3⟩
    have hb := u.blank_record sev cls 0 0x72 none 0xFFFF 0
    exact ⟨(State.blank_pending hb).trans h1, (State.blank_time hb).trans h2, fun a hlo hhi =>
      ((u.quiets_record sev cls 0 0x72 none 0xFFFF 0 hsev).low a (by unfold quietAddr; omega)).trans (h3 a hlo hhi)⟩
  have h0 : (s.lockLost pll).pending = s.pending ∧ (s.lockLost pll).time = s.time ∧ ∀ a, 0x100000 ≤ a → a < 0x200000 →
      (s.lockLost pll).reg a = (s.lockLost pll).reg a := ⟨hp, ht, fun _ _ _ => rfl⟩
  unfold State.clockFault
  extract_lets s1 s2
  split
  · exact hrec s1 3 2 (by decide) h0
  · refine hrec s2 1 2 (by decide) ?_
    show (s2.pending = s.pending ∧ s2.time = s.time ∧ ∀ a, 0x100000 ≤ a → a < 0x200000 → s2.reg a = (s.lockLost pll).reg a)
    unfold s2
    split
    · refine iter_inv (fun u : State => u.pending = s.pending ∧ u.time = s.time ∧ ∀ a, 0x100000 ≤ a → a < 0x200000 →
        u.reg a = (s.lockLost pll).reg a) 6 _ s1 h0 (fun u q _ hu => ?_)
      obtain ⟨h1, h2, h3⟩ := hu
      exact ⟨h1, h2, fun a hlo hhi => (u.reg_setRegN_other _ (by unfold Reg.NET_STATE; omega)).trans (h3 a hlo hhi)⟩
    · exact h0

theorem State.lock_lockLost {pll : Nat} (h : pll < 6) : (s.lockLost pll).bit Reg.BRM_STATE (4 + pll) = false := by
  rw [State.lockLost, s.setLock_eq false h]
  exact (State.bit_ofReg (State.reg_orReg_other _ _ (by decide)) _).trans (s.bit_setFld_zero _ _ (by omega))

theorem State.flag_lockLost (pll : Nat) : (s.lockLost pll).bit Reg.BRM_FLAGS 4 = true := by
  rw [State.lockLost, State.bit_orReg_same _ _ _ _ (by decide), show Nat.testBit 16 4 = true from rfl, Bool.or_true]

/-- R442: a fault of XA, ROOT, MEM or TIME is fatal. -/
theorem State.inSafe_clockFault {pll : Nat} (h : pll = 6 ∨ pll = 0 ∨ pll = 1 ∨ pll = 3) : (s.clockFault pll).inSafe = true := by
  unfold State.clockFault
  rw [if_pos h]
  exact State.inSafe_fatal _ _ _ _ _ _

end

/-! ## Gates (R445 to R447) -/

theorem brmGate_row : ∀ n : Fin 256, (regDef (Reg.BRM_GATE n)).map (fun d => (d.cls, d.base, d.fields)) =
    some (.rwl .immediate, 0x101000, [⟨0, 1, .rw, 1⟩, ⟨1, 1, .rw, 1⟩, ⟨8, 8, .ro, 0⟩]) := by
  decide +kernel

/-- A bit that is copied reads as in its source. -/
theorem testBit_putBits_copy (x k v : Nat) : (putBits x k 1 (bits v k 1)).testBit k = v.testBit k := by
  rw [testBit_putBits_same, testBit_eq_bits, show bits v k 1 % 2 = bits v k 1 from Nat.mod_eq_of_lt (bits_lt v k 1)]

/-- R446: a write of a gate stores its gate and AUTO bits. -/
theorem testBit_writtenTo_gate {n : Nat} (hn : n < 256) (old v : Nat) {k : Nat} (hk : k < 2) :
    (writtenTo (Reg.BRM_GATE n) old v).testBit k = v.testBit k := by
  obtain ⟨d, hd, hrow⟩ := Option.map_eq_some_iff.1 (brmGate_row ⟨n, hn⟩)
  obtain ⟨_, hbase, hfields⟩ : d.cls = _ ∧ d.base = _ ∧ d.fields = _ := by simpa using hrow
  have hclamp : ∀ x, clampReg 0x101000 x = x := fun x => rfl
  unfold writtenTo
  simp only [hd, hbase, hclamp, RegDef.merge, hfields, List.foldl, RegField.write]
  rcases Nat.lt_succ_iff_lt_or_eq.1 hk with hk | rfl
  · obtain rfl : k = 0 := Nat.lt_one_iff.1 hk
    rw [testBit_putBits_other _ _ (by decide), testBit_putBits_copy]
  · rw [testBit_putBits_copy]

section
variable (s : State) {n : Nat} (hn : n < 256) (v : Nat)
include hn

theorem State.configOnly_storeGate : ConfigOnly
    (s.setRegN (Reg.BRM_GATE n) (writtenTo (Reg.BRM_GATE n) (s.shown (Reg.BRM_GATE n)).toNat v)) (s.storeReg (Reg.BRM_GATE n) v) := by
  refine s.configOnly_storeReg_immediate v ?_
  obtain ⟨d, hd, hrow⟩ := Option.map_eq_some_iff.1 (brmGate_row ⟨n, hn⟩)
  rw [hd]
  exact congrArg some (Prod.mk.inj hrow).1

theorem State.bit_storeGate {k : Nat} (hk : k < 2) : (s.storeReg (Reg.BRM_GATE n) v).bit (Reg.BRM_GATE n) k = v.testBit k := by
  rw [State.bit_ofReg ((s.configOnly_storeGate hn v).reg _ (by unfold Reg.BRM_GATE; omega)), State.bit, State.regN_setRegN_same,
    Nat.testBit_mod_two_pow, decide_eq_true (by omega), Bool.true_and, testBit_writtenTo_gate hn _ _ hk]

theorem State.reg_storeGate_other {a : Nat} (ha : 0x20000 ≤ a) (hne : a ≠ Reg.BRM_GATE n) :
    (s.storeReg (Reg.BRM_GATE n) v).reg a = s.reg a :=
  ((s.configOnly_storeGate hn v).reg a ha).trans (s.reg_setRegN_other _ hne)

theorem State.units_storeGate : (s.storeReg (Reg.BRM_GATE n) v).units = s.units :=
  (s.configOnly_storeGate hn v).units.trans (s.units_setRegN _ _)

end

theorem gatePath_lt : ∀ n : Fin 256, ∀ k ∈ gatePath n, k < 256 := by
  decide +kernel

/-- R446: turning a gate on turns on those above it. -/
def State.gatesOn (s : State) (n v : Nat) : State :=
  (each (gatePath n) (fun t k => t.storeReg (Reg.BRM_GATE k) (t.regN (Reg.BRM_GATE k) ||| 1)) s).storeReg (Reg.BRM_GATE n) v

section
variable (s : State) (n : Fin 256) {v : Nat}

theorem State.units_gatesOn : (s.gatesOn n v).units = s.units :=
  (State.units_storeGate _ n.isLt _).trans (each_inv (fun t => t.units = s.units) (gatePath n) _ s rfl
    (fun t k hk ht => (t.units_storeGate (gatePath_lt n k hk) _).trans ht))

theorem State.bit_gatesOn (hv : v.testBit 0 = true) {k : Nat} (hk : k ∈ gatePath n) : (s.gatesOn n v).bit (Reg.BRM_GATE k) 0 = true := by
  have hk256 := gatePath_lt n k hk
  have hset : ∀ t : State, (t.storeReg (Reg.BRM_GATE k) (t.regN (Reg.BRM_GATE k) ||| 1)).bit (Reg.BRM_GATE k) 0 = true := fun t => by
    rw [t.bit_storeGate hk256 _ (by decide), Nat.testBit_or, show Nat.testBit 1 0 = true from rfl, Bool.or_true]
  have hkeep : ∀ (t : State) (y w : Nat), y < 256 → y ≠ k → t.bit (Reg.BRM_GATE k) 0 = true →
      (t.storeReg (Reg.BRM_GATE y) w).bit (Reg.BRM_GATE k) 0 = true := fun t y w hy hne ht =>
    (State.bit_ofReg (t.reg_storeGate_other hy w (by unfold Reg.BRM_GATE; omega) (by unfold Reg.BRM_GATE; omega)) 0).trans ht
  have hpath : (each (gatePath n) (fun t k => t.storeReg (Reg.BRM_GATE k) (t.regN (Reg.BRM_GATE k) ||| 1)) s).bit (Reg.BRM_GATE k) 0 =
      true := by
    refine each_reaches_mem (fun t : State => t.bit (Reg.BRM_GATE k) 0 = true) (gatePath n) _ s hk hset (fun t y hy ht => ?_)
    by_cases e : y = k
    · exact e ▸ hset t
    · exact hkeep t y _ (gatePath_lt n y hy) e ht
  by_cases e : n.val = k
  · subst e
    exact (State.bit_storeGate _ n.isLt _ (by decide)).trans hv
  · exact hkeep _ n.val v n.isLt e hpath

end

/-! ### Refusals -/

section
variable (s : State) (n cause : Nat) (list : List Nat)

theorem State.gateRefuse_keeps : (s.gateRefuse n cause list).units = s.units ∧
    ∀ a, a < 0x100280 ∨ 0x1002A0 ≤ a → (s.gateRefuse n cause list).reg a =
      ((s.orReg Reg.BRM_FLAGS 1).setRegN Reg.BRM_GATE_REFUSED (n + cause * 256)).reg a := by
  refine iter_inv (fun t : State => t.units = s.units ∧ ∀ a, a < 0x100280 ∨ 0x1002A0 ≤ a → t.reg a =
    ((s.orReg Reg.BRM_FLAGS 1).setRegN Reg.BRM_GATE_REFUSED (n + cause * 256)).reg a) 4 _ _ ⟨rfl, fun _ _ => rfl⟩ (fun t i hi ht => ?_)
  exact ⟨ht.1, fun a ha => (t.reg_setRegN_other _ (by unfold Reg.BRM_GATE_LIST; omega)).trans (ht.2 a ha)⟩

variable {n cause}

/-- R446: a refused write shows which gate and why, and meets a bus error. -/
theorem State.gateRefuse_shows (hn : n < 256) (hc : cause ≤ 3) :
    ((s.gateRefuse n cause list).refuseRule software (Reg.BRM_GATE n)).units = s.units ∧
    (∀ k, k < 256 → ((s.gateRefuse n cause list).refuseRule software (Reg.BRM_GATE n)).reg (Reg.BRM_GATE k) = s.reg (Reg.BRM_GATE k)) ∧
    ((s.gateRefuse n cause list).refuseRule software (Reg.BRM_GATE n)).bit Reg.BRM_FLAGS 0 = true ∧
    ((s.gateRefuse n cause list).refuseRule software (Reg.BRM_GATE n)).regN Reg.BRM_GATE_REFUSED = n + cause * 256 ∧
    ((s.gateRefuse n cause list).refuseRule software (Reg.BRM_GATE n)).reg Reg.CFG_CNT_BUS_ERR = s.reg Reg.CFG_CNT_BUS_ERR + 1 := by
  obtain ⟨hu, hr⟩ := s.gateRefuse_keeps n cause list
  have hconf := (s.gateRefuse n cause list).configOnly_refuseRule_software (Reg.BRM_GATE n)
  have hlow : ∀ a, a ≠ Reg.BRM_FLAGS → a ≠ Reg.BRM_GATE_REFUSED → a < 0x100280 ∨ 0x1002A0 ≤ a →
      (s.gateRefuse n cause list).reg a = s.reg a := fun a h h' ha =>
    (hr a ha).trans ((State.reg_setRegN_other _ _ h').trans (s.reg_orReg_other _ h))
  refine ⟨hconf.units.trans hu, fun k hk => (hconf.reg _ (by unfold Reg.BRM_GATE; omega)).trans (hlow _ (by unfold Reg.BRM_GATE Reg.BRM_FLAGS; omega)
    (by unfold Reg.BRM_GATE Reg.BRM_GATE_REFUSED; omega) (by unfold Reg.BRM_GATE; omega)), ?_, ?_, ?_⟩
  · rw [State.bit_ofReg ((hconf.reg _ (by decide)).trans ((hr _ (by decide)).trans (State.reg_setRegN_other _ _ (by decide)))),
      State.bit_orReg_same _ _ _ _ (by decide), show Nat.testBit 1 0 = true from rfl, Bool.or_true]
  · rw [State.regN_ofReg ((hconf.reg _ (by decide)).trans (hr _ (by decide))), State.regN_setRegN_same]
    omega
  · exact (State.reg_busError_count _ _ _ _ _).trans (congrArg (· + 1) (hlow _ (by decide) (by decide) (by decide)))

end

theorem State.gateRefusal_cause {s : State} {n cause : Nat} {list : List Nat} (h : s.gateRefusal n = some (cause, list)) : cause ≤ 3 := by
  unfold State.gateRefusal at h
  extract_lets kids busy slot at h
  split at h
  · exact (Prod.mk.inj (Option.some.inj h)).1 ▸ by decide
  · split at h
    · exact (Prod.mk.inj (Option.some.inj h)).1 ▸ by decide
    · split at h
      · exact (Prod.mk.inj (Option.some.inj h)).1 ▸ by decide
      · cases h

section
variable {s : State} {n : Nat} {v : Nat} (hn : gateNamed n = true)
include hn

theorem State.writeGate_on (hv : v.testBit 0 = true) : s.writeGate software n v = s.gatesOn n v := by
  simp only [State.writeGate, hn, hv, Bool.not_true, Bool.false_eq_true, if_false, if_true]
  rfl

theorem State.writeGate_off (hv : v.testBit 0 = false) (h : s.gateRefusal n = none) :
    s.writeGate software n v = s.storeReg (Reg.BRM_GATE n) v := by
  simp only [State.writeGate, hn, hv, h, Bool.not_true, Bool.false_eq_true, if_false]

theorem State.writeGate_refused {cause : Nat} {list : List Nat} (hv : v.testBit 0 = false) (h : s.gateRefusal n = some (cause, list)) :
    s.writeGate software n v = (s.gateRefuse n cause list).refuseRule software (Reg.BRM_GATE n) := by
  simp only [State.writeGate, hn, hv, h, Bool.not_true, Bool.false_eq_true, if_false]

/-- R447: an idle unit whose gate is on and automatic is stopped. -/
theorem State.mem_stopped_idleStop (hon : s.bit (Reg.BRM_GATE n) 0 = true) (hauto : s.bit (Reg.BRM_GATE n) 1 = true)
    (hq : ∀ k, k ∈ gatesBelow n → s.unitQuiet k = true) : n ∈ (s.idleStop n).brm.stopped := by
  have hc : (gateNamed n && s.bit (Reg.BRM_GATE n) 0 && s.bit (Reg.BRM_GATE n) 1 && (gatesBelow n).all s.unitQuiet) = true := by
    rw [hn, hon, hauto, List.all_eq_true.2 hq]
    rfl
  rw [State.idleStop, if_pos hc]
  exact mem_insertAsc_self _ _

end

theorem State.writeGate_none {s : State} {n v : Nat} (hn : gateNamed n = false) :
    s.writeGate software n v = s.busError software true 1 (Reg.BRM_GATE n) := by
  simp only [State.writeGate, hn, Bool.not_false, if_true]

/-! ## What the commands do -/

section
variable (s : State)

theorem exec_thermalSample (temps : List Int) : exec (.thermalSample temps) s = done s (s.powered (fun u => u.thermalSample temps)) := (rfl)

theorem exec_railsOff : exec .railsOff s = done s (s.powered (fun u => u.railsOff)) := (rfl)

theorem exec_clockFault (pll : Fin 7) : exec (.clockFault pll) s =
    done s (s.powered (fun u => (u.clockFault pll.val).setReg Reg.BRM_CNT_LOCK_LOSS (s.reg Reg.BRM_CNT_LOCK_LOSS + 1))) := (rfl)

theorem exec_pllRelock (pll : Fin 7) : exec (.pllRelock pll) s =
    done s (s.powered (fun u => if pll.val = 2 ∨ pll.val = 4 ∨ pll.val = 5 then u.setLock pll.val true else u)) := (rfl)

theorem exec_pllLock (pll : Fin 7) : exec (.pllLock pll) s = done s (s.powered (fun u => u.setLock pll.val true)) := (rfl)

theorem exec_gateWrite (n : Fin 256) (v : BitVec 64) : exec (.gateWrite n v) s =
    done s (s.powered (fun u => u.writeGate software n.val v.toNat)) := (rfl)

theorem exec_idleClockStop (n : Fin 256) : exec (.idleClockStop n) s = done s (s.work (fun u => u.idleStop n.val)) := (rfl)

theorem State.thermalSample_eq (temps : List Int) : s.thermalSample temps =
    if 1840 ≤ hottest temps (List.range 64) then
      if (s.showTherm temps).brm.offAt.isSome then s.showTherm temps
      else ({ s.showTherm temps with brm := { (s.showTherm temps).brm with offAt := some (s.showTherm temps).now } } : State).record
        3 3 0 0x72 none 0xFFFF 0
    else (s.showTherm temps).throttleAll temps := (rfl)

theorem State.bit_setLock {pll : Nat} (h : pll < 6) : (s.setLock pll true).bit Reg.BRM_STATE (4 + pll) = true := by
  rw [s.setLock_eq true h]
  exact s.bit_setFld_one _ _ (by omega)

variable {s}

/-- R459: from 115 °C the package goes to the safe state and its shutdown begins. -/
theorem State.thermalSample_off {temps : List Int} (h : 1840 ≤ hottest temps (List.range 64)) (hoff : s.brm.offAt = none) :
    (s.thermalSample temps).inSafe = true ∧ (s.thermalSample temps).brm.offAt = some s.now ∧
    (s.thermalSample temps).pending = s.pending ∧ (s.thermalSample temps).time = s.time := by
  have hu := s.showTherm_keeps temps
  have hbrm : (s.showTherm temps).brm = s.brm := units_field (·.brm) (fun _ => rfl) hu
  have htime : (s.showTherm temps).time = s.time := units_field (·.time) (fun _ => rfl) hu
  have hpend : (s.showTherm temps).pending = s.pending := units_field (·.pending) (fun _ => rfl) hu
  have hnow : (s.showTherm temps).now = s.now := by rw [State.now, State.now, htime]
  rw [State.thermalSample_eq, if_pos h, hbrm, hoff, Option.isSome_none, if_neg Bool.false_ne_true, hnow]
  generalize hv : ({ s.showTherm temps with brm := { s.brm with offAt := some s.now } } : State) = v
  have hb := v.blank_record 3 3 0 0x72 none 0xFFFF 0
  refine ⟨v.inSafe_fatal _ _ _ _ _, ?_, ?_, ?_⟩
  · have e : (v.record 3 3 0 0x72 none 0xFFFF 0).brm = v.brm := congrArg (·.brm) hb
    rw [e, ← hv]
  · rw [State.blank_pending hb, ← hv]
    exact hpend
  · rw [State.blank_time hb, ← hv]
    exact htime

end

/-- Settles O48: a sample shows its readings and then treats each Palm by itself (`HeatKeeps`); a clock fault leaves Brim's registers
as its flag and lock bit show them; a gate's write changes that gate and those above it alone. -/
theorem heatClocksAndGates : Obligations.HeatClocksAndGates := by
  intro s hon
  refine ⟨fun temps => ⟨fun h => ?_, fun h hoff => ?_⟩, fun t0 h0 hle => ?_, fun pll => ?_, fun pll hp => ?_, fun pll hp => ?_,
    fun n v => ⟨fun hn hv => ?_, fun hn hv hr => ?_, fun cause list hn hv hr => ?_, fun hn => ?_⟩, fun n hrun hn h0 h1 hq => ?_⟩
  · -- THERMAL_SAMPLE below 115 °C
    have hu := s.showTherm_keeps temps
    obtain ⟨⟨hp, ht⟩, htherm⟩ := (s.showTherm temps).throttleAll_keeps temps
    refine next_powered (exec_thermalSample s temps) hon ((s.thermalSample_eq temps).trans (if_neg (Int.not_le.2 h)))
      (hp.trans (units_field (·.pending) (fun _ => rfl) hu)) (ht.trans (units_field (·.time) (fun _ => rfl) hu))
      ⟨fun k hk => ?_, fun p hp hhot => ?_, fun p hp hcold => ?_⟩
    · rw [State.regN_ofReg (htherm k hk), s.regN_showTherm temps hk]
    · exact (s.showTherm temps).palmHeat_throttleAll temps hp (fun t => t.palmHeat_hot hp hhot)
    · exact (s.showTherm temps).palmHeat_throttleAll temps hp (fun t => t.palmHeat_cold hp hcold)
  · -- THERMAL_SAMPLE from 115 °C
    obtain ⟨hsafe, hat, hp, ht⟩ := State.thermalSample_off h hoff
    exact next_powered (exec_thermalSample s temps) hon rfl hp ht ⟨hsafe, hat⟩
  · -- RAILS_OFF
    have he : s.railsOff = { s with brm := { s.brm with off := true } } := by simp only [State.railsOff, h0, if_pos hle]
    exact next_powered (exec_railsOff s) hon he rfl rfl rfl
  · -- CLOCK_FAULT
    obtain ⟨hp, ht, hr⟩ := s.clockFault_keeps pll
    have hreg : ∀ a, 0x100000 ≤ a → a < 0x100010 → ((s.clockFault pll).setReg Reg.BRM_CNT_LOCK_LOSS (s.reg Reg.BRM_CNT_LOCK_LOSS + 1)).reg a =
        (s.lockLost pll).reg a := fun a h h' =>
      (State.reg_setReg_other _ _ (by unfold Reg.BRM_CNT_LOCK_LOSS; omega)).trans (hr a h (by omega))
    refine next_powered (exec_clockFault s pll) hon rfl hp ht ⟨State.reg_setReg_same _ _ _, ?_, fun h6 => ?_, fun hf => ?_⟩
    · exact (State.bit_ofReg (hreg _ (by decide) (by decide)) 4).trans (s.flag_lockLost pll)
    · exact (State.bit_ofReg (hreg _ (by decide) (by decide)) _).trans (s.lock_lockLost h6)
    · rw [State.inSafe_ofReg (State.reg_setReg_other _ _ (by decide))]
      exact s.inSafe_clockFault (by omega)
  · -- PLL_RELOCK
    obtain ⟨hpend, ht⟩ := s.setLock_keeps pll true
    exact next_powered (exec_pllRelock s pll) hon (if_pos (by omega)) hpend ht (s.bit_setLock (by omega))
  · -- PLL_LOCK
    obtain ⟨hpend, ht⟩ := s.setLock_keeps pll true
    exact next_powered (exec_pllLock s pll) hon rfl hpend ht (s.bit_setLock hp)
  · -- GATE_WRITE that turns a gate on
    have hu := s.units_gatesOn n (v := v.toNat)
    exact next_powered (exec_gateWrite s n v) hon (State.writeGate_on hn hv) (units_field (·.pending) (fun _ => rfl) hu)
      (units_field (·.time) (fun _ => rfl) hu) (fun k hk => s.bit_gatesOn n hv hk)
  · -- GATE_WRITE that turns a gate off
    have hu := s.units_storeGate n.isLt v.toNat
    exact next_powered (exec_gateWrite s n v) hon (State.writeGate_off hn hv hr) (units_field (·.pending) (fun _ => rfl) hu)
      (units_field (·.time) (fun _ => rfl) hu)
      ⟨(s.bit_storeGate n.isLt _ (by decide)).trans hv, s.bit_storeGate n.isLt _ (by decide)⟩
  · -- GATE_WRITE that is refused
    obtain ⟨hu, hgates, hflag, hword, hcount⟩ := s.gateRefuse_shows list n.isLt (State.gateRefusal_cause hr)
    exact next_powered (exec_gateWrite s n v) hon (State.writeGate_refused hn hv hr) (units_field (·.pending) (fun _ => rfl) hu)
      (units_field (·.time) (fun _ => rfl) hu) ⟨hgates, hflag, hword, hcount⟩
  · -- GATE_WRITE of no gate
    have hconf := s.configOnly_busError_software true 1 (Reg.BRM_GATE n)
    exact next_powered (exec_gateWrite s n v) hon (State.writeGate_none hn) (units_field (·.pending) (fun _ => rfl) hconf.units)
      (units_field (·.time) (fun _ => rfl) hconf.units)
      ⟨fun k => hconf.reg _ (by unfold Reg.BRM_GATE; omega), s.reg_busError_count _ _ _ _⟩
  · -- IDLE_CLOCK_STOP
    rw [exec_idleClockStop, done_work hrun]
    exact ⟨_, rfl, State.mem_stopped_idleStop hn h0 h1 hq⟩

end Sys2Proof.Machine
end

section
/-! PROOFS. Self-test slices, coverage, the start-up test, retests and the checkers' own tests (R480 to R487). -/

namespace Sys2Proof.Machine

/-! ## Commands that need the engines running -/

section
variable {s u : State} {c : Instr} {f : State → State} {P : State → Prop}

/-- While the engines run a command of theirs has its effect. -/
theorem next_work (he : exec c s = done s (s.work f)) (hr : s.running = true) (hf : f s = u) (hb : u.blank = s.blank) (h : P u) :
    ∃ t, exec c s = .next t ∧ P t := by
  rw [he, State.work_running hr, hf]
  exact next_done (State.blank_pending hb) (State.blank_time hb) h

/-- With the rails on an effect on the island and the registers alone is all that happens. -/
theorem next_powered_blank (he : exec c s = done s (s.powered f)) (hon : s.brm.off = false) (hf : f s = u) (hb : u.blank = s.blank)
    (h : P u) : ∃ t, exec c s = .next t ∧ P t :=
  next_powered he hon hf (State.blank_pending hb) (State.blank_time hb) h

end

/-! ## Self-tests -/

section
variable (s : State) (u : Nat)

@[simp] theorem State.selfTest_setSelfTest (x : SelfTest) : (s.setSelfTest u x).selfTest u = x := SMap.get_set_same _ _ _ _

theorem State.regs_setSelfTest (x : SelfTest) : (s.setSelfTest u x).regs = s.regs := rfl

@[simp] theorem State.selfTest_setReg (a : Nat) (w : Word) : (s.setReg a w).selfTest u = s.selfTest u := rfl

theorem State.selfTest_of_tests {s t : State} (h : t.cuff.tests = s.cuff.tests) : t.selfTest u = s.selfTest u :=
  congrArg (fun m => SMap.get (fun _ => SelfTest.idle) m u) h

theorem State.quarantined_of_reg {s t : State} (h : t.reg (Reg.CUF_QUAR (u / 64)) = s.reg (Reg.CUF_QUAR (u / 64))) :
    t.quarantined u = s.quarantined u := State.bit_ofReg h _

theorem Cuff.tests_setQueue (c : Cuff) (sev : Nat) (q : List ErrRec) : (c.setQueue sev q).tests = c.tests := by
  unfold Cuff.setQueue
  split
  · rfl
  · split
    · rfl
    · split <;> rfl

/-- R474: a record that is not fatal is stored in its empty queue. -/
theorem State.record_stores {sev cls status block unit detail : Nat} (h3 : sev ≠ 3) (hq : s.cuff.queue sev = []) :
    s.record sev cls status block none unit detail =
      s.nextSeq.storeRecord (s.mkRec sev cls status block none unit detail) := by
  rw [State.record_arrives (fun c hc => by cases hc)]
  refine State.recordN_stores (r := s.mkRec sev cls status block none unit detail) h3 rfl 3 (fun l hl => ?_) ?_
  · have hnone : (s.cuff.queue sev).getLast? = some l := hl
    rw [hq] at hnone
    cases hnone
  · exact (congrArg List.length hq).trans_lt (by decide)

/-- A stored record changes its queue and one counter. -/
theorem State.reg_storeRecord_other (r : ErrRec) {a : Nat} (h : a ≠ Reg.CUF_CNT_RECORDS) : (s.nextSeq.storeRecord r).reg a = s.reg a :=
  s.nextSeq.reg_countRecord_other r h

theorem State.tests_storeRecord (r : ErrRec) : (s.nextSeq.storeRecord r).cuff.tests = s.cuff.tests := Cuff.tests_setQueue _ _ _

end

/-! ## Slices (R482, R483, R485) -/

/-- R482: a unit's test after a wrong slice, after a right one of its targeted test, and of its periodic test. -/
def SelfTest.afterWrong (x : SelfTest) : SelfTest := { x with running := false, target := 0, retest := false }

def SelfTest.afterTarget (x : SelfTest) : SelfTest :=
  { x with running := false, target := x.target - 1, retest := x.retest && decide (1 < x.target) }

def SelfTest.afterPeriodic (x : SelfTest) (full : Nat) : SelfTest :=
  if x.done + 1 < full then { x with running := false, done := x.done + 1 }
  else { x with running := false, done := 0, started := x.began, warned := false }

theorem SelfTest.afterPeriodic_shows (x : SelfTest) (full : Nat) : (x.afterPeriodic full).running = false ∧
    (x.afterPeriodic full).done = if x.done + 1 < full then x.done + 1 else 0 := by
  unfold SelfTest.afterPeriodic
  split <;> exact ⟨rfl, rfl⟩

section
variable {s : State} {u : Nat}

theorem deferReg_range (k : Nat) : 0x200238 ≤ deferReg k ∧ deferReg k ≤ 0x200258 := by
  unfold deferReg Reg.CUF_CNT_DEFER_GNT Reg.CUF_CNT_DEFER_MTN Reg.CUF_CNT_DEFER_KNK Reg.CUF_CNT_DEFER_GUS Reg.CUF_CNT_DEFER_PCU
  split
  · decide
  · split
    · decide
    · split
      · decide
      · split <;> decide

/-- R482, R483: a unit that may be tested starts its slice, or puts it off. -/
theorem State.sliceStart_shows (hf : fullSlices u ≠ 0) (hi : (s.selfTest u).running = false)
    (hq : s.quarantined u = false ∨ (s.selfTest u).retest = true) (h2 : s.fld Reg.CUF_STATE 0 2 = 2) :
    (s.sliceStart u).blank = s.blank ∧ if s.sliceMay u then ((s.sliceStart u).selfTest u).running = true
      else (s.sliceStart u).bit Reg.CUF_FLAGS 1 = true ∧ (s.sliceStart u).reg (deferReg (testKind u)) = s.reg (deferReg (testKind u)) + 1 := by
  have hc : ¬ (fullSlices u = 0 ∨ (s.selfTest u).running ∨ (s.quarantined u ∧ !(s.selfTest u).retest) ∨ s.fld Reg.CUF_STATE 0 2 ≠ 2) := by
    rcases hq with hq | hq <;> simp [hf, hi, hq, h2]
  have hd := deferReg_range (testKind u)
  have hne : deferReg (testKind u) ≠ Reg.CUF_FLAGS := by unfold Reg.CUF_FLAGS; omega
  unfold State.sliceStart
  extract_lets x began
  rw [if_neg hc]
  split
  · exact ⟨rfl, congrArg SelfTest.running (s.selfTest_setSelfTest u _)⟩
  · refine ⟨rfl, ?_, (State.reg_bump_same _ _).trans (congrArg (· + 1) (s.reg_orReg_other _ hne))⟩
    rw [State.bit_ofReg (State.reg_bump_other _ hne.symm), State.bit_orReg_same _ _ _ _ (by decide),
      show Nat.testBit 2 1 = true from rfl, Bool.or_true]

section
variable (hr : (s.selfTest u).running = true)
include hr

theorem State.sliceDone_wrong : s.sliceDone u false = (s.setSelfTest u (s.selfTest u).afterWrong).record 2 19 0 0x73 none u 0 := by
  simp only [State.sliceDone, hr, Bool.not_true, Bool.not_false, Bool.false_eq_true, if_false, if_true]
  rfl

/-- R482: a right slice counts for the targeted test while there is one. -/
theorem State.sliceDone_target (ht : 0 < (s.selfTest u).target) : s.sliceDone u true =
    if (s.selfTest u).target = 1 ∧ (s.selfTest u).retest then (s.setSelfTest u (s.selfTest u).afterTarget).retestPassed u
    else s.setSelfTest u (s.selfTest u).afterTarget := by
  simp only [State.sliceDone, hr, Bool.not_true, Bool.false_eq_true, if_false, if_pos ht]
  rfl

/-- R482: else it counts for the periodic test, which starts again when it is full. -/
theorem State.sliceDone_periodic (ht : (s.selfTest u).target = 0) :
    s.sliceDone u true = s.setSelfTest u ((s.selfTest u).afterPeriodic (fullSlices u)) := by
  have h0 : ¬ 0 < (s.selfTest u).target := by omega
  simp only [State.sliceDone, hr, Bool.not_true, Bool.false_eq_true, if_false, if_neg h0, SelfTest.afterPeriodic]
  split <;> rfl

end

theorem State.blank_retestPassed (s : State) (u : Nat) : (s.retestPassed u).blank = s.blank := by
  unfold State.retestPassed
  split
  · exact State.blank_record _ _ _ _ _ _ _ _
  · rfl

theorem State.blank_sliceDone (s : State) (u : Nat) (pass : Bool) : (s.sliceDone u pass).blank = s.blank := by
  unfold State.sliceDone
  extract_lets x x1 s1
  split
  · rfl
  · split
    · exact State.blank_record _ _ _ _ _ _ _ _
    · split
      · split
        · exact State.blank_retestPassed _ _
        · rfl
      · split <;> rfl

/-- R480: a retest that passes ends the quarantine. -/
theorem State.quarantined_retestPassed (hq : s.cuff.queue 0 = []) (hu : u < 256) : (s.retestPassed u).quarantined u = false := by
  unfold State.retestPassed
  split
  case isTrue h =>
    rw [State.record_stores _ (by decide) (show (s.setFld (Reg.CUF_QUAR (u / 64)) (u % 64) 1 0).cuff.queue 0 = [] from hq),
      State.quarantined_of_reg u (State.reg_storeRecord_other _ _ (by unfold Reg.CUF_QUAR Reg.CUF_CNT_RECORDS; omega))]
    exact s.bit_setFld_zero _ _ (Nat.mod_lt _ (by decide))
  case isFalse h => exact Bool.eq_false_iff.2 h

end

/-! ## Coverage (R484) -/

section
variable {s : State} {u : Nat}

theorem State.coverageWarn_eq (hl : s.coverageLate u 9 = true) (hw : (s.selfTest u).warned = false) : s.coverageWarn u =
    (((s.setSelfTest u { s.selfTest u with warned := true }).orReg Reg.CUF_FLAGS 4).record 2 18 0 0x73 none 0xFFFF 0).setReg
      Reg.CUF_CNT_COVERAGE (s.reg Reg.CUF_CNT_COVERAGE + 1) := by
  simp only [State.coverageWarn, hl, hw, Bool.not_false, Bool.and_self, if_true]

/-- R484: a late test is warned of where its record has room. -/
theorem State.coverageWarn_shows (hl : s.coverageLate u 9 = true) (hw : (s.selfTest u).warned = false) (hq : s.cuff.queue 2 = []) :
    (s.coverageWarn u).bit Reg.CUF_FLAGS 2 = true ∧ ((s.coverageWarn u).selfTest u).warned = true := by
  rw [State.coverageWarn_eq hl hw, State.record_stores _ (by decide)
    (show ((s.setSelfTest u { s.selfTest u with warned := true }).orReg Reg.CUF_FLAGS 4).cuff.queue 2 = [] from hq)]
  generalize hv : (s.setSelfTest u { s.selfTest u with warned := true }).orReg Reg.CUF_FLAGS 4 = v
  have hflag : v.bit Reg.CUF_FLAGS 2 = true := by
    rw [← hv, State.bit_orReg_same _ _ _ _ (by decide), show Nat.testBit 4 2 = true from rfl, Bool.or_true]
  have htest : v.selfTest u = { s.selfTest u with warned := true } := by
    rw [← hv]
    exact s.selfTest_setSelfTest u _
  refine ⟨?_, ?_⟩
  · rw [State.bit_ofReg (State.reg_setReg_other _ _ (by decide)), State.bit_ofReg (State.reg_storeRecord_other _ _ (by decide)), hflag]
  · exact congrArg SelfTest.warned ((State.selfTest_of_tests u (v.tests_storeRecord _)).trans htest)

end

/-! ## The start-up test (R486) -/

/-- R486: every test starts anew. -/
def State.testsBegun (s : State) : State :=
  each testedUnits (fun t u => t.setSelfTest u { (t.selfTest u) with done := 0, started := t.now, warned := false }) s

/-- R486: the units that failed are quarantined. -/
def State.failedOut (s : State) (failed : List Nat) : State :=
  each (failed.filter (fun u => fullSlices u != 0)) (fun t u => t.quarantine u 0) s.testsBegun

section
variable (s : State) (failed : List Nat)

theorem State.startupDone_eq (h : s.fld Reg.CUF_STATE 0 2 = 1) : s.startupDone failed =
    if (s.failedOut failed).inSafe then s.failedOut failed else (s.failedOut failed).setFld Reg.CUF_STATE 0 2 2 := by
  rw [State.startupDone, if_neg (fun hc => hc h)]
  rfl

theorem State.testsBegun_keeps : s.testsBegun.blank = s.blank ∧ s.testsBegun.regs = s.regs :=
  each_inv (fun t => t.blank = s.blank ∧ t.regs = s.regs) testedUnits _ s ⟨rfl, rfl⟩
    (fun t u _ ht => ⟨(t.blank_setSelfTest u _).trans ht.1, (t.regs_setSelfTest u _).trans ht.2⟩)

theorem State.failedOut_nil : s.failedOut [] = s.testsBegun := by
  rw [State.failedOut, List.filter_nil, each, List.foldl_nil]

theorem State.blank_failedOut : (s.failedOut failed).blank = s.blank :=
  (State.blank_each _ _ _ (fun t u => t.blank_quarantine u 0)).trans s.testsBegun_keeps.1

theorem State.quarantined_failedOut {u : Nat} (hu : u ∈ failed) (hf : fullSlices u ≠ 0) (h8 : u ≤ 255) :
    (s.failedOut failed).quarantined u = true :=
  each_reaches (fun t : State => t.quarantined u = true) _ _ _ (List.mem_filter.2 ⟨hu, bne_iff_ne.2 hf⟩)
    (fun t => t.quarantined_quarantine 0 h8)
    (fun t y ht => (t.quiets_quarantine y 0).sticky _ _ (.inr (by unfold Reg.CUF_QUAR; omega)) ht)

theorem State.blank_startupDone : (s.startupDone failed).blank = s.blank := by
  by_cases h : s.fld Reg.CUF_STATE 0 2 = 1
  · rw [s.startupDone_eq failed h]
    exact State.blank_ite (s.blank_failedOut failed) (s.blank_failedOut failed)
  · rw [State.startupDone, if_pos h]

end

/-! ## What the commands do -/

section
variable (s : State)

theorem exec_selftestSlice (u : Fin 256) : exec (.selftestSlice u) s = done s (s.work (fun t => t.sliceStart u.val)) := (rfl)

theorem exec_selftestSliceDone {s : State} {u : Fin 256} (pass : Bool) (h : (s.selfTest u).running = true) (hr : s.running = true) :
    exec (.selftestSliceDone u pass) s = done s ((s.sliceDone u pass).setReg Reg.CUF_CNT_SLICE (s.reg Reg.CUF_CNT_SLICE + 1)) := by
  show done s (s.work (fun t => if (t.selfTest u).running then _ else t)) = _
  rw [State.work_running hr, if_pos h]

theorem exec_coverageWarning (u : Fin 256) : exec (.coverageWarning u) s = done s (s.work (fun t => t.coverageWarn u.val)) := (rfl)

theorem exec_coverageExpiry (u : Fin 256) : exec (.coverageExpiry u) s =
    done s (s.work (fun t => if t.coverageLate u.val 10 then t.quarantine u.val 4 else t)) := (rfl)

theorem exec_cufRetest (u : Fin 256) : exec (.cufRetest u) s = done s (s.work (fun t => t.retest u.val)) := (rfl)

theorem exec_startupTestDone (failed : List (Fin 256)) : exec (.startupTestDone failed) s =
    done s (s.work (fun t => t.startupDone (failed.map (·.val)))) := (rfl)

theorem exec_checkerTest {s : State} (h : s.cuff.checkerRun = none) (hon : s.brm.off = false) : exec .checkerTest s =
    done s (s.checkerTest.setReg Reg.CUF_CNT_CHECKER_RUN (s.reg Reg.CUF_CNT_CHECKER_RUN + 1)) := by
  show done s (s.powered (fun u => if u.cuff.checkerRun.isSome then u else _)) = _
  rw [State.powered_run _ _ hon, h]
  rfl

theorem exec_checkerResult (ok : Bool) : exec (.checkerResult ok) s = done s (s.powered (fun t => t.checkerResult ok)) := (rfl)

end

/-- R482: the record of a wrong slice, where it has room. -/
theorem queue_afterWrong {s : State} (u : Nat) (x : SelfTest) (hq : s.cuff.queue 2 = []) :
    ((s.setSelfTest u x).nextSeq.storeRecord ((s.setSelfTest u x).mkRec 2 19 0 0x73 none u 0)).cuff.queue 2 =
      [{ s.mkRec 2 19 0 0x73 none u 0 with lostBefore := s.cuff.lost.testBit 2 }] := by
  have h0 : (s.setSelfTest u x).nextSeq.cuff.queue 2 = [] := hq
  have h := (s.setSelfTest u x).nextSeq.queue_storeRecord ((s.setSelfTest u x).mkRec 2 19 0 0x73 none u 0)
  rw [show ((s.setSelfTest u x).mkRec 2 19 0 0x73 none u 0).sev = 2 from rfl, h0] at h
  exact h

/-- R482, R485: what a slice that ends leaves, for one unit that runs it. -/
theorem selftestSliceDone_shows {s : State} (hr : s.running = true) (u : Fin 256) (hx : (s.selfTest u).running = true) :
    (∃ t, exec (.selftestSliceDone u false) s = .next t ∧ t.reg Reg.CUF_CNT_SLICE = s.reg Reg.CUF_CNT_SLICE + 1 ∧
      (s.cuff.queue 2 = [] →
        t.cuff.queue 2 = [{ s.mkRec 2 19 0 0x73 none u 0 with lostBefore := s.cuff.lost.testBit 2 }])) ∧
    ∃ t, exec (.selftestSliceDone u true) s = .next t ∧ t.reg Reg.CUF_CNT_SLICE = s.reg Reg.CUF_CNT_SLICE + 1 ∧
      (1 < (s.selfTest u).target → (t.selfTest u).target = (s.selfTest u).target - 1 ∧ (t.selfTest u).running = false) ∧
      ((s.selfTest u).target = 1 → (s.selfTest u).retest = true → s.cuff.queue 0 = [] → t.quarantined u = false) ∧
      ((s.selfTest u).target = 0 → (t.selfTest u).running = false ∧
        (t.selfTest u).done = if (s.selfTest u).done + 1 < fullSlices u then (s.selfTest u).done + 1 else 0) := by
  have hnext : ∀ (pass : Bool) (P : State → Prop),
      P ((s.sliceDone u pass).setReg Reg.CUF_CNT_SLICE (s.reg Reg.CUF_CNT_SLICE + 1)) →
      ∃ t, exec (.selftestSliceDone u pass) s = .next t ∧ P t := fun pass P h => by
    have hb := s.blank_sliceDone u pass
    rw [exec_selftestSliceDone pass hx hr]
    exact next_done (State.blank_pending hb) (State.blank_time hb) h
  refine ⟨hnext false _ ⟨State.reg_setReg_same _ _ _, fun hq => ?_⟩,
    hnext true _ ⟨State.reg_setReg_same _ _ _, fun h1 => ?_, fun h1 hret hq => ?_, fun h0 => ?_⟩⟩
  · rw [State.sliceDone_wrong hx, State.record_stores (s.setSelfTest u (s.selfTest u).afterWrong) (by decide) hq]
    exact (congrArg (fun c : Cuff => c.queue 2) (State.setReg_cuff _ _ _)).trans (queue_afterWrong u _ hq)
  · rw [State.sliceDone_target hx (by omega), if_neg (by omega)]
    rw [State.selfTest_setReg, State.selfTest_setSelfTest]
    exact ⟨rfl, rfl⟩
  · rw [State.sliceDone_target hx (by omega), if_pos ⟨h1, hret⟩,
      State.quarantined_of_reg u (State.reg_setReg_other _ _ (by unfold Reg.CUF_QUAR Reg.CUF_CNT_SLICE; omega))]
    exact State.quarantined_retestPassed hq u.isLt
  · rw [State.sliceDone_periodic hx h0]
    rw [State.selfTest_setReg, State.selfTest_setSelfTest]
    exact (s.selfTest u).afterPeriodic_shows _

/-- R484: what a late test meets. -/
theorem State.blank_coverageWarn {s : State} {u : Nat} (hl : s.coverageLate u 9 = true) (hw : (s.selfTest u).warned = false) :
    (s.coverageWarn u).blank = s.blank := by
  rw [State.coverageWarn_eq hl hw, State.blank_setReg, State.blank_record, State.blank_orReg, State.blank_setSelfTest]

theorem fullSlices_lt {u : Nat} (h : fullSlices u ≠ 0) : u ≤ 255 := by
  unfold fullSlices at h
  by_contra hu
  exact h (by simp only [show ¬ (0x10 ≤ u ∧ u ≤ 0x1F) by omega, show ¬ (0x40 ≤ u ∧ u ≤ 0x7F) by omega, show ¬ (0x84 ≤ u ∧ u ≤ 0x87) by omega,
    show ¬ (u = 0x88 ∨ u = 0x89) by omega, show ¬ u = 0x8A by omega, if_false])

/-- R486: the start-up test quarantines what failed and makes the island READY, unless that entered the safe state. -/
theorem startupTestDone_shows {s : State} (hr : s.running = true) (h1 : s.fld Reg.CUF_STATE 0 2 = 1) (failed : List (Fin 256)) :
    ∃ t, exec (.startupTestDone failed) s = .next t ∧ (t.inSafe = true ∨ t.fld Reg.CUF_STATE 0 2 = 2) ∧
      ∀ u ∈ failed, fullSlices u ≠ 0 → t.quarantined u = true := by
  have hq : ∀ u ∈ failed, fullSlices u ≠ 0 → (s.failedOut (failed.map (·.val))).quarantined u = true := fun u hu hf =>
    s.quarantined_failedOut _ (List.mem_map_of_mem hu) hf (Nat.le_of_lt_succ u.isLt)
  refine next_work (exec_startupTestDone s failed) hr rfl (s.blank_startupDone _) ?_
  rw [s.startupDone_eq (failed.map (·.val)) h1]
  split
  case isTrue h => exact ⟨.inl h, hq⟩
  case isFalse h =>
    refine ⟨.inr (State.fld_setFld_same _ _ _ _ _ (by decide)), fun u hu hf => ?_⟩
    rw [State.quarantined_of_reg u (State.reg_setFld_other _ _ _ _ (by unfold Reg.CUF_QUAR Reg.CUF_STATE; omega))]
    exact hq u hu hf

/-- R486: with no failed unit it is READY. -/
theorem startupTestDone_ready {s : State} (hr : s.running = true) (h1 : s.fld Reg.CUF_STATE 0 2 = 1) :
    ∃ t, exec (.startupTestDone []) s = .next t ∧ t.fld Reg.CUF_STATE 0 2 = 2 := by
  have hsafe : (s.failedOut []).inSafe = false := by
    rw [s.failedOut_nil, State.inSafe_ofReg (State.reg_of_regs s.testsBegun_keeps.2 _)]
    exact (s.running_iff.1 hr).1
  refine next_work (exec_startupTestDone s []) hr rfl (s.blank_startupDone _) ?_
  rw [List.map_nil, s.startupDone_eq [] h1, if_neg (Bool.eq_false_iff.1 hsafe)]
  exact State.fld_setFld_same _ _ _ _ _ (by decide)

/-- Settles O55: each event changes the tests of one unit, a counter or the island's checker; the records it sends leave those alone. -/
theorem selfTestsAndCheckersRun : Obligations.SelfTestsAndCheckersRun := by
  intro s
  refine ⟨fun hr u => ⟨fun hf hi hq h2 => ?_, selftestSliceDone_shows hr u, fun hl hw => ?_, fun hl => ?_, fun hf => ?_⟩,
    fun hr h1 => ⟨startupTestDone_shows hr h1, startupTestDone_ready hr h1⟩, fun hon => ⟨fun hn => ?_, fun k ok hk => ?_⟩⟩
  · -- SELFTEST_SLICE
    obtain ⟨hb, h⟩ := State.sliceStart_shows hf hi hq h2
    exact next_work (exec_selftestSlice s u) hr rfl hb h
  · -- COVERAGE_WARNING
    refine next_work (exec_coverageWarning s u) hr rfl (State.blank_coverageWarn hl hw) ⟨?_, State.coverageWarn_shows hl hw⟩
    rw [State.coverageWarn_eq hl hw]
    exact State.reg_setReg_same _ _ _
  · -- COVERAGE_EXPIRY
    exact next_work (exec_coverageExpiry s u) hr (if_pos hl) (s.blank_quarantine u 4)
      (s.quarantined_quarantine 4 (Nat.le_of_lt_succ u.isLt))
  · -- CUF_RETEST
    refine next_work (exec_cufRetest s u) hr (if_neg hf) (s.blank_setSelfTest _ _) ?_
    rw [State.selfTest_setSelfTest]
    exact ⟨rfl, rfl⟩
  · -- CHECKER_TEST
    have he : s.checkerTest = { s with cuff := { s.cuff with checkerRun := some s.cuff.checker, checker := (s.cuff.checker + 1) % 12 } } := by
      rw [State.checkerTest, hn]
      rfl
    rw [exec_checkerTest hn hon, he]
    exact next_done rfl rfl ⟨rfl, rfl, State.reg_setReg_same _ _ _⟩
  · -- CHECKER_RESULT
    cases ok with
    | true =>
      have he : s.checkerResult true = { s with cuff := { s.cuff with checkerRun := none } } := by simp only [State.checkerResult, hk, if_true]
      exact next_powered (exec_checkerResult s true) hon he rfl rfl ⟨rfl, fun h => nomatch h⟩
    | false =>
      have he : s.checkerResult false = State.record { s with cuff := { s.cuff with checkerRun := none } } 3 20 0 0x73 none k 0 := by
        simp only [State.checkerResult, hk, Bool.false_eq_true, if_false]
      have hq := State.quiets_record { s with cuff := { s.cuff with checkerRun := none } } 3 20 0 0x73 none k 0 (by decide)
      exact next_powered_blank (exec_checkerResult s false) hon he (State.blank_record _ _ _ _ _ _ _ _)
        ⟨congrArg Cuff.checkerRun hq.isle, fun _ => State.inSafe_fatal _ _ _ _ _ _⟩

end Sys2Proof.Machine
end

section
/-! PROOFS. How the check channels decide their frames and the age monitors expire (R478, R479, R481). -/

namespace Sys2Proof.Machine

/-! ## Commands whose effect is on parts of the machine outside the units -/

theorem next_work_units {s u : State} {c : Instr} {f : State → State} {P : State → Prop} (he : exec c s = done s (s.work f))
    (hr : s.running = true) (hf : f s = u) (hu : u.units = s.units) (h : P u) : ∃ t, exec c s = .next t ∧ P t := by
  rw [he, State.work_running hr, hf]
  exact next_done (units_field (·.pending) (fun _ => rfl) hu) (units_field (·.time) (fun _ => rfl) hu) h

/-! ## A signal of a sync object (R208) -/

/-- From `s` to `t` sync values only grow, and the registers below them stay. -/
structure Signals (s t : State) : Prop where
  units : t.units = s.units
  low : ∀ a, a < 0xa000000 → t.reg a = s.reg a
  grows : ∀ m, m < 0x2000 → s.regN (Reg.SYN_VALUE m) ≤ t.regN (Reg.SYN_VALUE m)

section
variable {s t u : State}

theorem Signals.refl (s : State) : Signals s s := ⟨rfl, fun _ _ => rfl, fun _ _ => Nat.le_refl _⟩

theorem Signals.trans (h : Signals s t) (k : Signals t u) : Signals s u :=
  ⟨k.units.trans h.units, fun a ha => (k.low a ha).trans (h.low a ha), fun m hm => Nat.le_trans (h.grows m hm) (k.grows m hm)⟩

theorem Signals.of_regs (hu : t.units = s.units) (hr : t.regs = s.regs) : Signals s t :=
  ⟨hu, fun a _ => State.reg_of_regs hr a, fun _ _ => Nat.le_of_eq (State.regN_ofReg (State.reg_of_regs hr _)).symm⟩

theorem Signals.setReg (s : State) {a : Nat} (w : Word) (h : 0xa010000 ≤ a) : Signals s (s.setReg a w) :=
  ⟨rfl, fun _ hb => s.reg_setReg_other _ (by omega), fun m hm => Nat.le_of_eq (State.regN_ofReg (s.reg_setReg_other _
    (by unfold Reg.SYN_VALUE; omega))).symm⟩

end

section
variable (s : State)

/-- R481: results that reach age monitors change no register. -/
theorem State.regs_validResult (source id : Nat) : (s.validResult source id).regs = s.regs := by
  unfold State.validResult
  refine each_inv (fun t => t.regs = s.regs) _ _ s rfl (fun t e _ ht => ?_)
  extract_lets cfg
  split
  · exact ht
  · exact ht

theorem State.regs_checkSeen (obj : Nat) (us : List Nat) : (s.checkSeen obj us).regs = s.regs := by
  unfold State.checkSeen
  refine each_inv (fun t : State => t.regs = s.regs) _ _ s rfl ?_
  intro t e _ ht
  exact ht

/-- R208: after a SET the object holds the value or a later one. -/
theorem State.syncSet_reaches {m v : Nat} (us : List Nat) (hm : m < 0x2000) (hv : v < 2 ^ 64) :
    Signals s (s.syncSet m v us) ∧ v ≤ (s.syncSet m v us).regN (Reg.SYN_VALUE m) := by
  unfold State.syncSet
  split
  case isTrue h =>
    have hset : Signals s (s.setRegN (Reg.SYN_VALUE m) v) := by
      refine ⟨rfl, fun a ha => s.reg_setRegN_other _ (by unfold Reg.SYN_VALUE; omega), fun i _ => ?_⟩
      by_cases e : i = m
      · rw [e, State.regN_setRegN_same, Nat.mod_eq_of_lt hv]
        exact Nat.le_of_lt h
      · exact Nat.le_of_eq (s.regN_setRegN_other _ (by unfold Reg.SYN_VALUE; omega)).symm
    have hregs : (((s.setRegN (Reg.SYN_VALUE m) v).validResult 0 m).checkSeen m us).regs = (s.setRegN (Reg.SYN_VALUE m) v).regs :=
      (State.regs_checkSeen _ _ _).trans (State.regs_validResult _ _ _)
    refine ⟨hset.trans (.of_regs (by simp) hregs), Nat.le_of_eq ?_⟩
    rw [State.regN_ofReg (State.reg_of_regs hregs _), State.regN_setRegN_same, Nat.mod_eq_of_lt hv]
  case isFalse h =>
    have hsig : Signals s ((s.orReg Reg.SYN_FLAGS 1).bump Reg.SYN_CNT_BACKWARD) := (Signals.setReg s _ (by decide)).trans (.setReg _ _ (by decide))
    exact ⟨hsig, Nat.le_trans (Nat.not_lt.1 h) (hsig.grows m hm)⟩

theorem State.signal_reaches {m v : Nat} (us : List Nat) (hm : m < 0x2000) (hv : v < 2 ^ 64) :
    Signals s (s.signal ⟨m, 1, v⟩ us) ∧ v ≤ (s.signal ⟨m, 1, v⟩ us).regN (Reg.SYN_VALUE m) := by
  obtain ⟨h, hr⟩ := s.syncSet_reaches us hm hv
  have hb : Signals (s.syncSet m v us) (s.signal ⟨m, 1, v⟩ us) := .setReg _ _ (by decide)
  exact ⟨h.trans hb, Nat.le_trans hr (hb.grows m hm)⟩

end

/-! ## A decision (R478, R479) -/

section
variable (s : State) {n : Nat} {c : CheckCh} {v : Nat}

/-- Only the channel changes beyond what the signal of SYNC_DONE does. -/
theorem State.nextFrameOf_eq (n : Nat) (c : CheckCh) (v : Nat) : ∃ x : CheckCh,
    s.nextFrameOf n c v = { s.signal ⟨s.fld (Reg.CUF_CHK_SYNC n) 48 13, 1, v⟩ [] with
      cuff := { (s.signal ⟨s.fld (Reg.CUF_CHK_SYNC n) 48 13, 1, v⟩ []).cuff with
        checks := (s.signal ⟨s.fld (Reg.CUF_CHK_SYNC n) 48 13, 1, v⟩ []).cuff.checks.put n x } } ∧
    x.v = v + 1 ∧ x.opened = c.opened.filter (fun o => decide (v < o + 1000)) := by
  refine ⟨_, rfl, rfl, ?_⟩
  cases c.opened with
  | none => rfl
  | some o =>
    by_cases h : o + 1000 ≤ v
    · simp [h, Nat.not_lt.2 h, Option.filter]
    · simp [h, Nat.not_le.1 h, Option.filter]

/-- R478, R479: a decision up to `v` moves SYNC_DONE and goes on with the next frame. -/
theorem State.nextFrameOf_decides (hv : v < 2 ^ 64) : Signals s (s.nextFrameOf n c v) ∧ s.framesDone (s.nextFrameOf n c v) n v c.opened := by
  obtain ⟨x, he, hx, ho⟩ := s.nextFrameOf_eq n c v
  obtain ⟨hsig, hreach⟩ := s.signal_reaches (m := s.fld (Reg.CUF_CHK_SYNC n) 48 13) (v := v) [] (bits_lt _ 48 13) hv
  rw [he]
  exact ⟨hsig.trans (.of_regs rfl rfl), ⟨x, OMap.find_put_same _ _ _, hx, ho⟩, hreach⟩

end

/-- What a decision says of the machine before it depends on where SYNC_DONE is set alone. -/
theorem State.framesDone_of_reg {s u t : State} {n last : Nat} {o : Option Nat}
    (h : u.reg (Reg.CUF_CHK_SYNC n) = s.reg (Reg.CUF_CHK_SYNC n)) (hd : u.framesDone t n last o) : s.framesDone t n last o := by
  unfold State.framesDone at hd ⊢
  rwa [State.fld_ofReg h] at hd

section
variable (s : State) {n : Nat} {c : CheckCh}

/-- R478: frames that neither side produced count as absent. -/
theorem State.checkAbsent_decides {last : Nat} (hn : n < 64) (hl : last < 2 ^ 64) : (s.checkAbsent n c last).units = s.units ∧
    s.framesDone (s.checkAbsent n c last) n last c.opened ∧
    (s.checkAbsent n c last).reg (Reg.CUF_CHK_CNT_ABSENT n) = s.reg (Reg.CUF_CHK_CNT_ABSENT n) + BitVec.ofNat 64 (last + 1 - c.v) := by
  obtain ⟨hsig, hd⟩ := (s.add (Reg.CUF_CHK_CNT_ABSENT n) (last + 1 - c.v)).nextFrameOf_decides (n := n) (c := c) hl
  have hne : Reg.CUF_CHK_SYNC n ≠ Reg.CUF_CHK_CNT_ABSENT n := by unfold Reg.CUF_CHK_SYNC Reg.CUF_CHK_CNT_ABSENT; omega
  exact ⟨hsig.units, State.framesDone_of_reg (s.reg_add_other _ hne) hd,
    (hsig.low _ (by unfold Reg.CUF_CHK_CNT_ABSENT; omega)).trans (s.reg_add_same _ _)⟩

/-- R478: a match counts, and SYNC_OUT reaches the frame. -/
theorem State.checkMatch_decides (hn : n < 64) (hv : c.v < 2 ^ 64) : (s.checkMatch n c).units = s.units ∧
    s.framesDone (s.checkMatch n c) n c.v c.opened ∧
    (s.checkMatch n c).reg (Reg.CUF_CHK_CNT_MATCH n) = s.reg (Reg.CUF_CHK_CNT_MATCH n) + 1 ∧
    c.v ≤ (s.checkMatch n c).regN (Reg.SYN_VALUE (s.fld (Reg.CUF_CHK_SYNC n) 32 13)) := by
  have hm : s.fld (Reg.CUF_CHK_SYNC n) 32 13 < 0x2000 := bits_lt _ 32 13
  obtain ⟨hsig, hreach⟩ := s.signal_reaches (v := c.v) [] hm hv
  generalize hu : s.signal ⟨s.fld (Reg.CUF_CHK_SYNC n) 32 13, 1, c.v⟩ [] = u at hsig hreach
  have hregs := (u.bump (Reg.CUF_CHK_CNT_MATCH n)).regs_validResult 1 n
  have hother : ∀ a, a ≠ Reg.CUF_CHK_CNT_MATCH n → ((u.bump (Reg.CUF_CHK_CNT_MATCH n)).validResult 1 n).reg a = u.reg a := fun a ha =>
    (State.reg_of_regs hregs a).trans (u.reg_bump_other ha)
  obtain ⟨hsig', hd⟩ := ((u.bump (Reg.CUF_CHK_CNT_MATCH n)).validResult 1 n).nextFrameOf_decides (n := n) (c := c) hv
  have he : s.checkMatch n c = ((u.bump (Reg.CUF_CHK_CNT_MATCH n)).validResult 1 n).nextFrameOf n c c.v := by rw [← hu]; rfl
  have hlow : Reg.CUF_CHK_CNT_MATCH n < 0xa000000 := by unfold Reg.CUF_CHK_CNT_MATCH; omega
  rw [he]
  refine ⟨hsig'.units.trans ((by simp : ((u.bump (Reg.CUF_CHK_CNT_MATCH n)).validResult 1 n).units = u.units).trans hsig.units),
    State.framesDone_of_reg ?_ hd, ?_, ?_⟩
  · exact (hother _ (by unfold Reg.CUF_CHK_SYNC Reg.CUF_CHK_CNT_MATCH; omega)).trans (hsig.low _ (by unfold Reg.CUF_CHK_SYNC; omega))
  · rw [hsig'.low _ hlow, State.reg_of_regs hregs, State.reg_bump_same, hsig.low _ hlow]
  · refine Nat.le_trans ?_ (hsig'.grows _ hm)
    rw [State.regN_ofReg (hother _ (by unfold Reg.SYN_VALUE Reg.CUF_CHK_CNT_MATCH; omega))]
    exact hreach

/-- R479: the units of both sides, each once. -/
def CheckCh.units (c : CheckCh) : List Nat :=
  unitsOf c.seenA c.v ++ (unitsOf c.seenB c.v).filter (fun u => !(unitsOf c.seenA c.v).contains u)

theorem CheckCh.mem_units {c : CheckCh} {u : Nat} (h : u ∈ unitsOf c.seenA c.v ++ unitsOf c.seenB c.v) : u ∈ c.units := by
  unfold CheckCh.units
  by_cases hA : u ∈ unitsOf c.seenA c.v
  · exact List.mem_append_left _ hA
  · have hB := (List.mem_append.1 h).resolve_left hA
    exact List.mem_append_right _ (List.mem_filter.2 ⟨hB, by simpa using hA⟩)

/-- The machine that has counted and recorded a disagreement. -/
def State.disagreement (s : State) (n : Nat) (c : CheckCh) : State :=
  ((s.bump (Reg.CUF_CHK_CNT_DISAGREE n)).bump Reg.CUF_CNT_MISMATCH).record 2 13 0x0A 0x73 none 0xFFFF c.v

theorem State.disagreement_counts (hn : n < 64) : (s.disagreement n c).units = s.units ∧
    (s.disagreement n c).reg (Reg.CUF_CHK_CNT_DISAGREE n) = s.reg (Reg.CUF_CHK_CNT_DISAGREE n) + 1 ∧
    (s.disagreement n c).reg (Reg.CUF_CHK_SYNC n) = s.reg (Reg.CUF_CHK_SYNC n) := by
  have hq := (((s.bump (Reg.CUF_CHK_CNT_DISAGREE n)).bump Reg.CUF_CNT_MISMATCH).quiets_record 2 13 0x0A 0x73 none 0xFFFF c.v (by decide)).low
  have h1 : Reg.CUF_CHK_CNT_DISAGREE n ≠ Reg.CUF_CNT_MISMATCH := by unfold Reg.CUF_CHK_CNT_DISAGREE Reg.CUF_CNT_MISMATCH; omega
  have h2 : Reg.CUF_CHK_SYNC n ≠ Reg.CUF_CNT_MISMATCH := by unfold Reg.CUF_CHK_SYNC Reg.CUF_CNT_MISMATCH; omega
  have h3 : Reg.CUF_CHK_SYNC n ≠ Reg.CUF_CHK_CNT_DISAGREE n := by unfold Reg.CUF_CHK_SYNC Reg.CUF_CHK_CNT_DISAGREE; omega
  refine ⟨?_, ?_, ?_⟩
  · rw [State.disagreement, State.units_of_blank (State.blank_record _ _ _ _ _ _ _ _), State.units_bump, State.units_bump]
  · rw [State.disagreement, hq _ (by unfold quietAddr Reg.CUF_CHK_CNT_DISAGREE; omega), State.reg_bump_other _ h1, State.reg_bump_same]
  · rw [State.disagreement, hq _ (by unfold quietAddr Reg.CUF_CHK_SYNC; omega), State.reg_bump_other _ h2, State.reg_bump_other _ h3]

/-- R479: every disagreement counts and decides its frame; a second one within 1,000 frames quarantines the units of both sides. -/
theorem State.checkDisagree_decides (hn : n < 64) (hv : c.v < 2 ^ 64) :
    (s.checkDisagree n c).units = s.units ∧ s.disagreed (s.checkDisagree n c) n c := by
  obtain ⟨hu, hcount, hsync⟩ := s.disagreement_counts (c := c) hn
  have hlow : Reg.CUF_CHK_CNT_DISAGREE n < 0xa000000 := by unfold Reg.CUF_CHK_CNT_DISAGREE; omega
  -- a round over the units leaves the channel's registers
  have hstep : ∀ v : State, v.blank = (s.disagreement n c).blank → Quiets (s.disagreement n c) v →
      v.units = s.units ∧ v.reg (Reg.CUF_CHK_CNT_DISAGREE n) = s.reg (Reg.CUF_CHK_CNT_DISAGREE n) + 1 ∧
      v.reg (Reg.CUF_CHK_SYNC n) = s.reg (Reg.CUF_CHK_SYNC n) := fun v hb hq =>
    ⟨(State.units_of_blank hb).trans hu, (hq.low _ (by unfold quietAddr Reg.CUF_CHK_CNT_DISAGREE; omega)).trans hcount,
      (hq.low _ (by unfold quietAddr Reg.CUF_CHK_SYNC; omega)).trans hsync⟩
  cases ho : c.opened with
  | none =>
    obtain ⟨hu', hcount', hsync'⟩ := hstep (each c.units (fun t u => t.startTest u) (s.disagreement n c))
      (State.blank_each _ _ _ (fun t u => t.blank_startTest u)) (State.quiets_each _ _ _ (fun t u _ => t.quiets_startTest u))
    have he : s.checkDisagree n c = (each c.units (fun t u => t.startTest u) (s.disagreement n c)).nextFrameOf n { c with opened := some c.v } c.v := by
      simp only [State.checkDisagree, ho]
      rfl
    obtain ⟨hsig, hd⟩ := (each c.units (fun t u => t.startTest u) (s.disagreement n c)).nextFrameOf_decides (n := n)
      (c := { c with opened := some c.v }) hv
    rw [he]
    exact ⟨hsig.units.trans hu', (hsig.low _ hlow).trans hcount', fun _ => State.framesDone_of_reg hsync' hd, fun h => absurd ho h⟩
  | some o =>
    obtain ⟨hu', hcount', hsync'⟩ := hstep (each c.units (fun t u => t.quarantine u 0) (s.disagreement n c))
      (State.blank_each _ _ _ (fun t u => t.blank_quarantine u 0)) (State.quiets_each _ _ _ (fun t u _ => t.quiets_quarantine u 0))
    have he : s.checkDisagree n c = (each c.units (fun t u => t.quarantine u 0) (s.disagreement n c)).nextFrameOf n c c.v := by
      simp only [State.checkDisagree, ho]
      rfl
    obtain ⟨hsig, hd⟩ := (each c.units (fun t u => t.quarantine u 0) (s.disagreement n c)).nextFrameOf_decides (n := n) (c := c) hv
    rw [he]
    refine ⟨hsig.units.trans hu', (hsig.low _ hlow).trans hcount', fun h => absurd (ho.symm.trans h) (by simp),
      fun _ => ⟨State.framesDone_of_reg hsync' hd, fun u hmem h8 => ?_⟩⟩
    rw [State.quarantined_of_reg u (hsig.low _ (by unfold Reg.CUF_QUAR; omega))]
    exact each_reaches (fun t : State => t.quarantined u = true) _ _ _ (CheckCh.mem_units hmem) (fun t => t.quarantined_quarantine 0 h8)
      (fun t y ht => (t.quiets_quarantine y 0).sticky _ _ (.inr (by unfold Reg.CUF_QUAR; omega)) ht)

end

/-! ## What the comparisons find (R478) -/

section
variable {s : State} {n : Nat} {c : CheckCh} (hc : s.cuff.checks.find n = some c)

/-- A frame that no object held was first passed by a later one. -/
theorem lt_firstFrom {xs : List (Nat × Nat × List Nat)} {v : Nat} {x : Nat × Nat × List Nat} (hf : firstFrom xs v = some x)
    (hh : everHeld xs v = false) : v < x.1 := by
  have hle : v ≤ x.1 := of_decide_eq_true (List.find?_some (p := fun x : Nat × Nat × List Nat => decide (v ≤ x.1)) hf)
  have hne : (x.1 == v) = false := by
    have h := (List.any_eq_false.1 hh) x (List.mem_of_find?_eq_some hf)
    simpa using h
  exact Nat.lt_of_le_of_ne hle (fun e => by simp [e] at hne)

/-- The next frame that a side holds, where the objects are at `m` or past it. -/
def leastFrom (xs : List (Nat × Nat × List Nat)) (v m : Nat) : Nat :=
  match firstFrom xs v with
  | some x => Nat.min m x.1
  | none => m

theorem leastFrom_bounds {xs : List (Nat × Nat × List Nat)} {v m : Nat} (hh : everHeld xs v = false) (hm : v < m) :
    v < leastFrom xs v m ∧ leastFrom xs v m ≤ m := by
  unfold leastFrom
  split
  case h_1 x hx => exact ⟨Nat.lt_min.2 ⟨hm, lt_firstFrom hx hh⟩, Nat.min_le_left _ _⟩
  case h_2 => exact ⟨hm, Nat.le_refl _⟩

section
variable (hr : s.cuff.checkerRun ≠ some 0)
include hc hr

/-- R478: the cases of a comparison. -/
theorem State.checkCompare_eq : s.checkCompare n =
    if decide (c.v < (s.checkValues n).1) && decide (c.v < (s.checkValues n).2) && !(everHeld c.seenA c.v || everHeld c.seenB c.v) then
      s.checkAbsent n c (leastFrom c.seenB c.v (leastFrom c.seenA c.v (Nat.min (s.checkValues n).1 (s.checkValues n).2)) - 1)
    else if (decide (c.v < (s.checkValues n).1) || decide (c.v < (s.checkValues n).2)) && (everHeld c.seenA c.v || everHeld c.seenB c.v) then
      s.checkDisagree n c
    else if (s.checkValues n).1 = c.v ∧ (s.checkValues n).2 = c.v then
      if (unitsOf c.seenA c.v).any (fun u => (unitsOf c.seenB c.v).contains u) then
        (s.record 1 13 0 0x73 none 0xFFFF 3).nextFrameOf n c c.v
      else if s.regionsEqual n then s.checkMatch n c
      else s.checkDisagree n c
    else s := by
  simp only [State.checkCompare, hc, if_neg hr]
  rfl

/-- R478: both objects are at the frame. -/
theorem State.checkCompare_at (ha : (s.checkValues n).1 = c.v) (hb : (s.checkValues n).2 = c.v) : s.checkCompare n =
    if (unitsOf c.seenA c.v).any (fun u => (unitsOf c.seenB c.v).contains u) then
      (s.record 1 13 0 0x73 none 0xFFFF 3).nextFrameOf n c c.v
    else if s.regionsEqual n then s.checkMatch n c else s.checkDisagree n c := by
  rw [State.checkCompare_eq hc hr, ha, hb]
  simp

/-- R478: an object has passed a frame that one held. -/
theorem State.checkCompare_past (h : c.v < (s.checkValues n).1 ∨ c.v < (s.checkValues n).2)
    (hh : (everHeld c.seenA c.v || everHeld c.seenB c.v) = true) : s.checkCompare n = s.checkDisagree n c := by
  have h' : (decide (c.v < (s.checkValues n).1) || decide (c.v < (s.checkValues n).2)) = true := by simpa using h
  rw [State.checkCompare_eq hc hr, hh, h']
  simp

/-- R478: both have passed a frame that none held. -/
theorem State.checkCompare_skips (ha : c.v < (s.checkValues n).1) (hb : c.v < (s.checkValues n).2)
    (hh : (everHeld c.seenA c.v || everHeld c.seenB c.v) = false) :
    ∃ last, s.checkCompare n = s.checkAbsent n c last ∧ c.v ≤ last ∧ last < (s.checkValues n).1 := by
  obtain ⟨hA, hB⟩ := Bool.or_eq_false_iff.1 hh
  obtain ⟨h1, h2⟩ := leastFrom_bounds hA (Nat.lt_min.2 ⟨ha, hb⟩)
  obtain ⟨h3, h4⟩ := leastFrom_bounds hB h1
  have hmin := Nat.min_le_left (s.checkValues n).1 (s.checkValues n).2
  refine ⟨_, (State.checkCompare_eq hc hr).trans (if_pos ?_), Nat.le_sub_one_of_lt h3, ?_⟩
  · simp [ha, hb, hh]
  · exact Nat.lt_of_lt_of_le (Nat.sub_one_lt (Nat.ne_of_gt (Nat.lt_of_le_of_lt (Nat.zero_le _) h3))) (Nat.le_trans h4 (Nat.le_trans h2 hmin))

end

theorem State.checkSkew_late {x : Nat × Nat × List Nat} (hx : firstFrom c.seenA c.v = some x ∧ firstFrom c.seenB c.v = none ∧
      c.v ≤ (s.checkValues n).1 ∧ (s.checkValues n).2 < c.v ∨
    firstFrom c.seenA c.v = none ∧ firstFrom c.seenB c.v = some x ∧ (s.checkValues n).1 < c.v ∧ c.v ≤ (s.checkValues n).2)
    (ht : x.2.1 + s.fld (Reg.CUF_CHK_CFG n) 16 16 * 1000 ≤ s.now) (hc : s.cuff.checks.find n = some c) :
    s.checkSkew n = s.checkDisagree n c := by
  rcases hx with ⟨hA, hB, ha, hb⟩ | ⟨hA, hB, ha, hb⟩
  · simp [State.checkSkew, hc, hA, hB, ha, Nat.not_le.2 hb, ht]
  · simp [State.checkSkew, hc, hA, hB, hb, Nat.not_le.2 ha, ht]

theorem State.checkTimeout_absent (hc : s.cuff.checks.find n = some c) (hus : s.fld (Reg.CUF_CHK_CFG n) 32 16 ≠ 0)
    (ha : (s.checkValues n).1 < c.v) (hb : (s.checkValues n).2 < c.v)
    (ht : c.decided + s.fld (Reg.CUF_CHK_CFG n) 32 16 * 1000 ≤ s.now) : s.checkTimeout n = s.checkAbsent n c c.v := by
  simp only [State.checkTimeout, hc]
  exact if_pos ⟨hus, ha, hb, ht⟩

end

/-- The values of a channel's objects are words. -/
theorem State.checkValues_lt (s : State) (n : Nat) : (s.checkValues n).1 < 2 ^ 64 ∧ (s.checkValues n).2 < 2 ^ 64 :=
  ⟨BitVec.isLt _, BitVec.isLt _⟩

/-! ## Age monitors (R481) -/

section
variable {s : State} {m : Nat} {x : AgeMon}

theorem State.ageExpiry_eq (hf : s.cuff.ages.find m = some x) (he : x.expired = false) (hon : s.bit (Reg.CUF_AGE_CFG m) 0 = true)
    (hl : s.fld (Reg.CUF_AGE_CFG m) 32 32 * 1000 < s.now - x.last) : s.ageExpiry m =
    (State.stopPairs { s with cuff := { s.cuff with ages := s.cuff.ages.put m { x with expired := true } } }
      (s.fld (Reg.CUF_AGE_CFG m) 1 2)).record 2 15 0 0x73 none m 0 := by
  have h1 : (s.regN (Reg.CUF_AGE_CFG m)).testBit 0 = true := hon
  have h2 : ¬ s.now - x.last ≤ bits (s.regN (Reg.CUF_AGE_CFG m)) 32 32 * 1000 := Nat.not_le.2 hl
  simp only [State.ageExpiry, hf, he, h1, h2, decide_false, Bool.not_true, Bool.or_self, Bool.false_eq_true, if_false]
  rfl

end

/-! ## What the commands do -/

section
variable (s : State)

theorem exec_checkCompareDone (n : Fin 64) : exec (.checkCompareDone n) s = done s (s.work (fun u => u.checkCompare n.val)) := (rfl)

theorem exec_checkSkew (n : Fin 64) : exec (.checkSkew n) s = done s (s.work (fun u => u.checkSkew n.val)) := (rfl)

theorem exec_checkAbsent (n : Fin 64) : exec (.checkAbsent n) s = done s (s.work (fun u => u.checkTimeout n.val)) := (rfl)

theorem exec_ageExpiry (m : Fin 64) : exec (.ageExpiry m) s = done s (s.powered (fun u => u.ageExpiry m.val)) := (rfl)

end

/-- Settles O54: a comparison ends in one of three decisions, and each of them is a count followed by `nextFrameOf`. -/
theorem checksAndAgesAreDecided : Obligations.ChecksAndAgesAreDecided := by
  intro s
  refine ⟨fun hr n c hc => ⟨fun hrun => ⟨fun ha hb => ⟨fun hcom heq => ?_, fun hcom heq => ?_, fun hcom => ?_⟩, fun h hh => ?_,
    fun ha hb hh => ?_⟩, fun x hx ht => ?_, fun hus ha hb hv ht => ?_⟩, fun hon m x hf he hen hl => ?_⟩
  · -- the regions are equal
    have hv : c.v < 2 ^ 64 := ha ▸ (s.checkValues_lt n).1
    obtain ⟨hu, hd, hcount, hout⟩ := s.checkMatch_decides n.isLt hv
    refine next_work_units (exec_checkCompareDone s n) hr ?_ hu ⟨hd, hcount, hout⟩
    rw [State.checkCompare_at hc hrun ha hb, hcom, heq]
    rfl
  · -- they are not
    have hv : c.v < 2 ^ 64 := ha ▸ (s.checkValues_lt n).1
    obtain ⟨hu, hd⟩ := s.checkDisagree_decides n.isLt hv
    refine next_work_units (exec_checkCompareDone s n) hr ?_ hu hd
    rw [State.checkCompare_at hc hrun ha hb, hcom, heq]
    rfl
  · -- a common unit
    have hv : c.v < 2 ^ 64 := ha ▸ (s.checkValues_lt n).1
    obtain ⟨hsig, hd⟩ := (s.record 1 13 0 0x73 none 0xFFFF 3).nextFrameOf_decides (n := n) (c := c) hv
    have hq := (s.quiets_record 1 13 0 0x73 none 0xFFFF 3 (by decide)).low (Reg.CUF_CHK_SYNC n) (by unfold quietAddr Reg.CUF_CHK_SYNC; omega)
    refine next_work_units (exec_checkCompareDone s n) hr ?_
      (hsig.units.trans (State.units_of_blank (s.blank_record _ _ _ _ _ _ _))) (State.framesDone_of_reg hq hd)
    rw [State.checkCompare_at hc hrun ha hb, hcom]
    rfl
  · -- an object past the frame
    have hv : c.v < 2 ^ 64 := h.elim (fun h => Nat.lt_trans h (s.checkValues_lt n).1) (fun h => Nat.lt_trans h (s.checkValues_lt n).2)
    obtain ⟨hu, hd⟩ := s.checkDisagree_decides n.isLt hv
    exact next_work_units (exec_checkCompareDone s n) hr (State.checkCompare_past hc hrun h hh) hu hd
  · -- both past a frame that none held
    obtain ⟨last, he, hge, hlt⟩ := State.checkCompare_skips hc hrun ha hb hh
    obtain ⟨hu, hd, hcount⟩ := s.checkAbsent_decides (c := c) n.isLt (Nat.lt_trans hlt (s.checkValues_lt n).1)
    obtain ⟨t, ht, hP⟩ := next_work_units (P := fun t => s.framesDone t n last c.opened ∧
      t.reg (Reg.CUF_CHK_CNT_ABSENT n) = s.reg (Reg.CUF_CHK_CNT_ABSENT n) + BitVec.ofNat 64 (last + 1 - c.v))
      (exec_checkCompareDone s n) hr he hu ⟨hd, hcount⟩
    exact ⟨t, last, ht, hge, hlt, hP⟩
  · -- CHECK_SKEW
    have hv : c.v < 2 ^ 64 := by
      have hlt := s.checkValues_lt n
      omega
    obtain ⟨hu, hd⟩ := s.checkDisagree_decides n.isLt hv
    exact next_work_units (exec_checkSkew s n) hr (State.checkSkew_late hx ht hc) hu hd
  · -- CHECK_ABSENT
    obtain ⟨hu, hd, hcount⟩ := s.checkAbsent_decides (c := c) n.isLt hv
    refine next_work_units (exec_checkAbsent s n) hr (State.checkTimeout_absent hc hus ha hb ht) hu ⟨hd, ?_⟩
    rw [hcount, Nat.add_sub_cancel_left]
    rfl
  · -- AGE_EXPIRY
    generalize hw : ({ s with cuff := { s.cuff with ages := s.cuff.ages.put m { x with expired := true } } } : State) = w
    have hq := (w.stopPairs (s.fld (Reg.CUF_AGE_CFG m) 1 2)).quiets_record 2 15 0 0x73 none m 0 (by decide)
    have hages : ((w.stopPairs (s.fld (Reg.CUF_AGE_CFG m) 1 2)).record 2 15 0 0x73 none m 0).cuff.ages = w.cuff.ages := by
      have hfixed := congrArg Cuff.ages ((w.quiets_stopPairs _).trans hq).isle
      exact hfixed
    have hblank : w.blank = s.blank := by rw [← hw]; rfl
    refine next_powered_blank (exec_ageExpiry s m) hon ((State.ageExpiry_eq hf he hen hl).trans (by rw [hw]))
      ((State.blank_record _ _ _ _ _ _ _ _).trans ((w.blank_stopPairs _).trans hblank)) ⟨?_, fun p hp hbit => ?_⟩
    · rw [hages, ← hw]
      exact OMap.find_put_same _ _ _
    · refine hq.sticky _ _ (.inl rfl) (w.bit_stopPairs hp ?_)
      rw [State.fld, bits_eq, Nat.testBit_mod_two_pow, decide_eq_true hp, Bool.true_and, Nat.testBit_div_two_pow]
      exact Nat.add_comm 1 p ▸ hbit

end Sys2Proof.Machine
end

section
/-! PROOFS. Stopping and releasing the SAFE_STOP pairs, the SAFE_IN channels and the hardware causes (R465 to R470, R488 to R491). -/

namespace Sys2Proof.Machine

/-! ## The two pairs in CUF_STOP -/

theorem testBit_mod_four {w p : Nat} (hp : p < 2) : (w % 4).testBit p = w.testBit p := by
  rw [show (4 : Nat) = 2 ^ 2 from rfl, Nat.testBit_mod_two_pow, decide_eq_true hp, Bool.true_and]

theorem State.bit_eq_pairs (s : State) (a : Nat) {p : Nat} (hp : p < 2) : s.bit a p = (s.fld a 0 2).testBit p := by
  rw [State.fld, bits_eq, Nat.pow_zero, Nat.div_one]
  exact (testBit_mod_four hp).symm

/-- R467: what stays stopped when the pairs of `m` are released. -/
theorem testBit_released : ∀ (f m : Fin 4) (p : Fin 2), (f.val - (f.val &&& m.val)).testBit p = (f.val.testBit p && !m.val.testBit p) := by
  decide

section
variable (s : State)

/-- R466: a stop stops the pairs that it names and no other. -/
theorem State.bit_stopPairs_eq {mask p : Nat} (hp : p < 2) :
    (s.stopPairs mask).bit Reg.CUF_STOP p = (s.bit Reg.CUF_STOP p || mask.testBit p) := by
  have hone : ∀ (t : State) (q : Nat), q < 2 → (if mask.testBit q then t.stopPair q else t).bit Reg.CUF_STOP p =
      (t.bit Reg.CUF_STOP p || (mask.testBit q && decide (q = p))) := by
    intro t q _
    split
    case isTrue h => rw [t.bit_stopPair q (by omega), Nat.testBit_two_pow, h, Bool.true_and]
    case isFalse h => rw [Bool.eq_false_iff.2 h, Bool.false_and, Bool.or_false]
  rw [State.stopPairs_eq]
  extract_lets t
  rw [hone t 1 (by decide), hone s 0 (by decide)]
  obtain rfl | rfl : p = 0 ∨ p = 1 := by omega
  · simp
  · simp

theorem State.reg_refuseRule_software {a b : Nat} (hb : 0x20000 ≤ b) : (s.refuseRule software a).reg b = s.reg b :=
  (s.configOnly_refuseRule_software a).reg b hb

theorem State.blank_refuseRule (ag : Agent) (a : Nat) : (s.refuseRule ag a).blank = s.blank := s.blank_busError _ _ _ _

/-! ## A write of CUF_STOP_CTRL (R466, R467) -/

variable {s} {w : Nat}

/-- The machine in which the pairs of `pairs` have been released. -/
def State.released (s : State) (pairs : Nat) : State :=
  ({ s with cuff := { s.cuff with cmdLevel := s.cuff.cmdLevel |||
    ((if pairs.testBit 0 then 3 else 0) + (if pairs.testBit 1 then 12 else 0)) } } : State).setFld Reg.CUF_STOP 0 2
      (s.fld Reg.CUF_STOP 0 2 - (s.fld Reg.CUF_STOP 0 2 &&& pairs))

/-- The machine that shows why a release is refused. -/
def State.releaseShown (s : State) (pairs : Nat) : State :=
  (s.orReg Reg.CUF_STOP 32).setFld Reg.CUF_STOP 8 8 (s.releaseCause pairs)

theorem State.releasePairs_free {pairs : Nat} (h : s.releaseCause pairs = 0) : s.releasePairs pairs = (s.released pairs, true) := by
  simp only [State.releasePairs, h, if_true]
  rfl

theorem State.releasePairs_held {pairs : Nat} (h : s.releaseCause pairs ≠ 0) : s.releasePairs pairs = (s.releaseShown pairs, false) := by
  simp only [State.releasePairs, h, if_false]
  rfl

theorem State.blank_releasePairs (s : State) (pairs : Nat) : (s.releasePairs pairs).1.blank = s.blank := by
  by_cases h : s.releaseCause pairs = 0
  · rw [State.releasePairs_free h]
    rfl
  · rw [State.releasePairs_held h, State.releaseShown, State.blank_setFld, State.blank_orReg]

theorem State.blank_writeStopCtrl (s : State) (w : Nat) : (s.writeStopCtrl software w).blank = s.blank := by
  have h1 : (if w.testBit 2 then s.stopPairs (w % 4) else s).blank = s.blank := State.blank_ite (s.blank_stopPairs _) rfl
  unfold State.writeStopCtrl
  extract_lets pairs s1 r
  have h2 : s1.blank = s.blank := h1
  split
  · split
    · exact (s1.blank_refuseRule _ _).trans h2
    · split
      · exact ((State.blank_refuseRule _ _ _).trans (s1.blank_orReg _ _)).trans h2
      · split
        · exact (s1.blank_releasePairs _).trans h2
        · exact ((State.blank_refuseRule _ _ _).trans (s1.blank_releasePairs _)).trans h2
  · exact h2

/-- R466: a stop wins over a release in the same write. -/
theorem State.bit_writeStopCtrl_stop (h2 : w.testBit 2 = true) {p : Nat} (hp : p < 2) :
    (s.writeStopCtrl software w).bit Reg.CUF_STOP p = (s.bit Reg.CUF_STOP p || w.testBit p) := by
  have hs : (s.stopPairs (w % 4)).bit Reg.CUF_STOP p = (s.bit Reg.CUF_STOP p || w.testBit p) := by
    rw [s.bit_stopPairs_eq hp, testBit_mod_four hp]
  have h5 : ((s.stopPairs (w % 4)).orReg Reg.CUF_STOP 32).bit Reg.CUF_STOP p = (s.stopPairs (w % 4)).bit Reg.CUF_STOP p := by
    rw [State.bit_orReg_same _ _ _ _ (by omega), show (32 : Nat) = 2 ^ 5 from rfl, Nat.testBit_two_pow, decide_eq_false (by omega), Bool.or_false]
  unfold State.writeStopCtrl
  simp only [h2, if_true]
  split
  · split
    · rw [State.bit_ofReg (State.reg_refuseRule_software _ (by decide)), hs]
    · rw [State.bit_ofReg (State.reg_refuseRule_software _ (by decide)), h5, hs]
  · exact hs

section
variable (h2 : w.testBit 2 = false)
include h2

theorem State.writeStopCtrl_none (h3 : w.testBit 3 = false) : s.writeStopCtrl software w = s := by
  simp [State.writeStopCtrl, h2, h3]

variable (h3 : w.testBit 3 = true)
include h3

theorem State.writeStopCtrl_badKey (hk : bits w 48 16 ≠ 0x524C) : s.writeStopCtrl software w = s.refuseRule software Reg.CUF_STOP_CTRL := by
  simp [State.writeStopCtrl, h2, h3, hk]

theorem State.writeStopCtrl_release (hk : bits w 48 16 = 0x524C) : s.writeStopCtrl software w =
    if (s.releasePairs (w % 4)).2 then (s.releasePairs (w % 4)).1 else (s.releasePairs (w % 4)).1.refuseRule software Reg.CUF_STOP_CTRL := by
  simp [State.writeStopCtrl, h2, h3, hk]

end

/-! ## A release (R467) -/

theorem State.releaseCause_le (s : State) (pairs : Nat) : s.releaseCause pairs ≤ 3 := by
  unfold State.releaseCause
  exact ite_le_of (fun _ => by decide) (fun _ => ite_le_of (fun _ => by decide) (fun _ => ite_le_of (fun _ => by decide) (fun _ => by decide)))

theorem State.fld_released (s : State) (pairs : Nat) : (s.released pairs).fld Reg.CUF_STOP 0 2 =
    s.fld Reg.CUF_STOP 0 2 - (s.fld Reg.CUF_STOP 0 2 &&& pairs) := by
  have hlt : s.fld Reg.CUF_STOP 0 2 < 4 := bits_lt _ 0 2
  exact (State.fld_setFld_same _ _ _ _ _ (by decide)).trans (Nat.mod_eq_of_lt (by omega))

theorem State.bit_released (s : State) {pairs p : Nat} (hm : pairs < 4) (hp : p < 2) :
    (s.released pairs).bit Reg.CUF_STOP p = (s.bit Reg.CUF_STOP p && !pairs.testBit p) := by
  rw [State.bit_eq_pairs _ _ hp, State.bit_eq_pairs _ _ hp, s.fld_released]
  exact testBit_released ⟨_, bits_lt _ 0 2⟩ ⟨pairs, hm⟩ ⟨p, hp⟩

theorem testBit_runLevel : ∀ (m : Fin 4) (p : Fin 2), m.val.testBit p = true →
    ((if m.val.testBit 0 then 3 else 0) + (if m.val.testBit 1 then 12 else 0)).testBit (2 * p.val) = true ∧
    ((if m.val.testBit 0 then 3 else 0) + (if m.val.testBit 1 then 12 else 0)).testBit (2 * p.val + 1) = true := by
  decide

/-- R467: both channels of a released pair drive the run level. -/
theorem State.cmdLevel_released (s : State) {pairs p : Nat} (hm : pairs < 4) (hp : p < 2) (hb : pairs.testBit p = true) :
    (s.released pairs).cuff.cmdLevel.testBit (2 * p) = true ∧ (s.released pairs).cuff.cmdLevel.testBit (2 * p + 1) = true := by
  obtain ⟨h1, h2⟩ := testBit_runLevel ⟨pairs, hm⟩ ⟨p, hp⟩ hb
  have e : (s.released pairs).cuff.cmdLevel = s.cuff.cmdLevel ||| ((if pairs.testBit 0 then 3 else 0) + (if pairs.testBit 1 then 12 else 0)) := rfl
  rw [e, Nat.testBit_or, Nat.testBit_or]
  exact ⟨by rw [h1, Bool.or_true], by rw [h2, Bool.or_true]⟩

/-- R467: a refused release leaves the pairs and shows its cause. -/
theorem State.releaseShown_shows (s : State) (pairs : Nat) :
    (s.releaseShown pairs).fld Reg.CUF_STOP 0 2 = s.fld Reg.CUF_STOP 0 2 ∧ (s.releaseShown pairs).bit Reg.CUF_STOP 5 = true ∧
    (s.releaseShown pairs).fld Reg.CUF_STOP 8 8 = s.releaseCause pairs := by
  have hle := s.releaseCause_le pairs
  have hset : ∀ p, p < 2 → (s.releaseShown pairs).bit Reg.CUF_STOP p = s.bit Reg.CUF_STOP p := fun p hp => by
    rw [State.releaseShown, State.bit_setFld_other _ _ _ _ _ _ (by decide) (.inl (by omega)), State.bit_orReg_same _ _ _ _ (by omega),
      show (32 : Nat) = 2 ^ 5 from rfl, Nat.testBit_two_pow, decide_eq_false (by omega), Bool.or_false]
  refine ⟨?_, ?_, (State.fld_setFld_same _ _ _ _ _ (by decide)).trans (Nat.mod_eq_of_lt (by omega))⟩
  · refine Nat.eq_of_testBit_eq (fun i => ?_)
    by_cases hi : i < 2
    · rw [← State.bit_eq_pairs _ _ hi, ← State.bit_eq_pairs _ _ hi, hset i hi]
    · have h4 : ∀ u : State, (u.fld Reg.CUF_STOP 0 2).testBit i = false := fun u =>
        Nat.testBit_eq_false_of_lt (Nat.lt_of_lt_of_le (bits_lt _ 0 2) (Nat.pow_le_pow_right (by decide) (Nat.not_lt.1 hi)))
      rw [h4, h4]
  · rw [State.releaseShown, State.bit_setFld_other _ _ _ _ _ _ (by decide) (.inl (by decide)), State.bit_orReg_same _ _ _ _ (by decide),
      show Nat.testBit 32 5 = true from rfl, Bool.or_true]

end

/-! ## SAFE_IN (R469) -/

/-- R490: CUF_STOP shows the levels of the SAFE_IN channels. -/
theorem State.showSafeIn_shows (s : State) : s.showSafeIn.blank = s.blank ∧ s.showSafeIn.bit Reg.CUF_STOP 2 = s.cuff.inA ∧
    s.showSafeIn.bit Reg.CUF_STOP 3 = s.cuff.inB ∧ s.showSafeIn.cuff.inA = s.cuff.inA ∧ s.showSafeIn.cuff.inB = s.cuff.inB ∧
    (∀ a, a ≠ Reg.CUF_STOP → s.showSafeIn.reg a = s.reg a) ∧
    (s.cuff.inA = true → s.cuff.inB = true → s.cuff.sawStop = true → s.showSafeIn.bit Reg.CUF_STOP 4 = false) := by
  have hb : ∀ b : Bool, decide (b2n b % 2 = 1) = b := by decide
  have h3 : ((s.setFld Reg.CUF_STOP 2 1 (b2n s.cuff.inA)).setFld Reg.CUF_STOP 3 1 (b2n s.cuff.inB)).bit Reg.CUF_STOP 3 = s.cuff.inB :=
    (State.bit_setFld_same _ _ _ _ (by decide)).trans (hb _)
  have h2 : ((s.setFld Reg.CUF_STOP 2 1 (b2n s.cuff.inA)).setFld Reg.CUF_STOP 3 1 (b2n s.cuff.inB)).bit Reg.CUF_STOP 2 = s.cuff.inA :=
    (State.bit_setFld_other _ _ _ _ _ _ (by decide) (.inl (by decide))).trans ((State.bit_setFld_same _ _ _ _ (by decide)).trans (hb _))
  have hr : ∀ a, a ≠ Reg.CUF_STOP → ((s.setFld Reg.CUF_STOP 2 1 (b2n s.cuff.inA)).setFld Reg.CUF_STOP 3 1 (b2n s.cuff.inB)).reg a = s.reg a :=
    fun a ha => (State.reg_setFld_other _ _ _ _ ha).trans (s.reg_setFld_other _ _ _ ha)
  unfold State.showSafeIn
  generalize hu : (s.setFld Reg.CUF_STOP 2 1 (b2n s.cuff.inA)).setFld Reg.CUF_STOP 3 1 (b2n s.cuff.inB) = u at h2 h3 hr
  have hc : u.cuff = s.cuff := by rw [← hu]; rfl
  have hblank : u.blank = s.blank := by rw [← hu]; rfl
  have hA' := congrArg Cuff.inA hc
  have hB' := congrArg Cuff.inB hc
  simp only
  split
  case isTrue h =>
    refine ⟨hblank, h2, h3, hA', hB', hr, fun hA => ?_⟩
    simp [hA] at h
  case isFalse h =>
    split
    · refine ⟨hblank, ?_, ?_, hA', hB', fun a ha => (u.reg_setFld_other _ _ _ ha).trans (hr a ha),
        fun _ _ _ => u.bit_setFld_zero _ 4 (by decide)⟩
      · exact (u.bit_setFld_other _ _ _ _ _ (by decide) (.inl (by decide))).trans h2
      · exact (u.bit_setFld_other _ _ _ _ _ (by decide) (.inl (by decide))).trans h3
    · next hn => exact ⟨hblank, h2, h3, hA', hB', hr, fun hA hB hS => absurd (by simp [hA, hB, hS]) hn⟩

/-- R469: the level of one channel. -/
theorem State.setSafeIn_shows (s : State) (ch run : Bool) : (s.setSafeIn ch run).blank = s.blank ∧
    (s.setSafeIn ch run).cuff.inA = (if ch then s.cuff.inA else run) ∧ (s.setSafeIn ch run).cuff.inB = (if ch then run else s.cuff.inB) ∧
    (s.setSafeIn ch run).cuff.sawStop = s.cuff.sawStop ∧ (s.setSafeIn ch run).regs = s.regs := by
  cases ch <;> exact ⟨rfl, rfl, rfl, rfl, rfl⟩

/-- R469: a trip stops the pairs of CUF_CFG, and what CUF_STOP shows of the channels stays. -/
theorem State.safeInTrip_shows (s : State) (ch : Bool) : (s.safeInTrip ch).blank = s.blank ∧
    (s.safeInTrip ch).cuff.inA = (if ch then s.cuff.inA else false) ∧ (s.safeInTrip ch).cuff.inB = (if ch then false else s.cuff.inB) ∧
    (s.safeInTrip ch).bit Reg.CUF_STOP 2 = (s.safeInTrip ch).cuff.inA ∧ (s.safeInTrip ch).bit Reg.CUF_STOP 3 = (s.safeInTrip ch).cuff.inB ∧
    (s.cuff.inA = true → s.cuff.inB = true → ∀ p, p < 2 → s.bit Reg.CUF_CFG (40 + p) = true → (s.safeInTrip ch).bit Reg.CUF_STOP p = true) := by
  obtain ⟨hb1, hA1, hB1, -, hregs⟩ := s.setSafeIn_shows ch false
  obtain ⟨hb2, h2, h3, hA2, hB2, hr, -⟩ := (s.setSafeIn ch false).showSafeIn_shows
  unfold State.safeInTrip
  extract_lets tripped s1
  have hA : s1.cuff.inA = (if ch then s.cuff.inA else false) := hA2.trans hA1
  have hB : s1.cuff.inB = (if ch then false else s.cuff.inB) := hB2.trans hB1
  split
  case isTrue ht =>
    have hq1 := s1.quiets_stopPairs (s1.fld Reg.CUF_CFG 40 2)
    have hq2 : Quiets (s1.stopPairs (s1.fld Reg.CUF_CFG 40 2)) ((s1.stopPairs (s1.fld Reg.CUF_CFG 40 2)).dictAddSat 0x5130 3 1 32) :=
      State.quiets_regs rfl rfl
    have hq3 := ((s1.stopPairs (s1.fld Reg.CUF_CFG 40 2)).dictAddSat 0x5130 3 1 32).quiets_record 1 16 0 0x73 none 0xFFFF 0 (by decide)
    have hq := (hq1.trans hq2).trans hq3
    have hinA := congrArg Cuff.inA hq.isle
    have hinB := congrArg Cuff.inB hq.isle
    refine ⟨?_, hinA.trans hA, hinB.trans hB, (hq.levels 2 (by decide)).trans ((h2.trans hA1).trans (hinA.trans hA).symm),
      (hq.levels 3 (by decide)).trans ((h3.trans hB1).trans (hinB.trans hB).symm), fun _ _ p hp hbit => ?_⟩
    · rw [State.blank_record, State.blank_dictAddSat, State.blank_stopPairs]
      exact hb2.trans hb1
    · have hmask : (s1.fld Reg.CUF_CFG 40 2).testBit p = true := by
        rw [State.fld_ofReg ((hr _ (by decide)).trans (State.reg_of_regs hregs _)), State.fld, bits_eq, Nat.testBit_mod_two_pow,
          decide_eq_true hp, Bool.true_and, Nat.testBit_div_two_pow]
        exact Nat.add_comm 40 p ▸ hbit
      exact (hq2.trans hq3).sticky _ _ (.inl rfl) (s1.bit_stopPairs hp hmask)
  case isFalse hn =>
    exact ⟨hb2.trans hb1, hA, hB, h2.trans hA2.symm, h3.trans hB2.symm, fun h h' => absurd (by simp [tripped, h, h']) hn⟩

/-! ## Hardware causes (R465, R488) -/

/-- R465: outside the safe state a hardware cause is latched, enters it and stops both pairs. -/
theorem State.hwSafe_shows {s : State} {cause : Nat} (hs : s.inSafe = false) (hc : cause < 2 ^ 16) :
    (s.hwSafe cause).pending = s.pending ∧ (s.hwSafe cause).time = s.time ∧ (s.hwSafe cause).inSafe = true ∧
    (s.hwSafe cause).bit Reg.CUF_STOP 0 = true ∧ (s.hwSafe cause).bit Reg.CUF_STOP 1 = true ∧
    (s.hwSafe cause).fld Reg.CUF_HW_CAUSE 0 16 = cause := by
  unfold State.hwSafe
  rw [hs, Bool.and_false, if_neg Bool.false_ne_true, if_neg Bool.false_ne_true]
  simp only
  generalize hu : State.setRegN { s with boot := { s.boot with hwPending := true } } Reg.CUF_HW_CAUSE
    (cause + s.now / 1000000 % 2 ^ 48 * 2 ^ 16) = u
  have hp : u.pending = s.pending := by rw [← hu, State.setRegN_pending]
  have ht : u.time = s.time := by rw [← hu, State.setRegN_time]
  have hreg : u.regN Reg.CUF_HW_CAUSE = cause + s.now / 1000000 % 2 ^ 48 * 2 ^ 16 := by
    rw [← hu, State.regN_setRegN_same]
    omega
  have hb : (u.safeState.capture 5 u.now).blank = u.blank := (State.blank_capture _ _ _).trans u.blank_safeState
  have hq := u.quiets_safeState.trans (u.safeState.quiets_capture 5 u.now)
  have hsafe : u.safeState.inSafe = true := by
    rw [State.inSafe, State.safeState, State.fld_setFld_same _ _ _ _ _ (by decide)]
    rfl
  have hstop : ∀ p, p < 2 → u.safeState.bit Reg.CUF_STOP p = true := fun p hp => by
    rw [State.safeState, State.bit_ofReg (State.reg_setFld_other _ _ _ _ (by decide))]
    refine u.bit_stopPairs hp ?_
    obtain rfl | rfl : p = 0 ∨ p = 1 := by omega
    · rfl
    · rfl
  have hsticky := (u.safeState.quiets_capture 5 u.now).sticky Reg.CUF_STOP
  refine ⟨(State.blank_pending hb).trans hp, (State.blank_time hb).trans ht, (u.safeState.quiets_capture 5 u.now).safe hsafe,
    hsticky 0 (.inl rfl) (hstop 0 (by decide)), hsticky 1 (.inl rfl) (hstop 1 (by decide)), ?_⟩
  rw [State.fld_ofReg (hq.low _ (by unfold quietAddr; decide)), State.fld, hreg, bits_eq]
  omega

/-! ## What the commands do -/

section
variable (s : State)

theorem exec_stopOrRelease {c : Instr} {v : BitVec 64} (hc : c = .stop v ∨ c = .release v) :
    exec c s = done s (s.powered (fun u => u.writeStopCtrl software v.toNat)) := by
  rcases hc with rfl | rfl
  · exact (rfl)
  · exact (rfl)

theorem exec_stopRelease (v : BitVec 16) : exec (.stopRelease v) s =
    done s (s.serve (fun u => if v.toNat = 0x524C then (u.releasePairs 3).1.aborted (if (u.releasePairs 3).2 then 0 else 6)
      else u.aborted 6)) := (rfl)

theorem exec_safeInTrip (ch : Bool) : exec (.safeInTrip ch) s = done s (s.powered (fun u => u.safeInTrip ch)) := (rfl)

theorem exec_safeInRun (ch : Bool) : exec (.safeInRun ch) s = done s (s.powered (fun u => (u.setSafeIn ch true).showSafeIn)) := (rfl)

theorem exec_safeInDiscrepant : exec .safeInDiscrepant s = done s (s.powered State.safeInDiscrepant) := (rfl)

theorem exec_stopReadback (ch : Fin 4) : exec (.stopReadback ch) s =
    done s (s.powered (fun u => u.record 3 17 0 0x73 none 0xFFFF 0)) := (rfl)

theorem exec_lock (key : BitVec 16) : exec (.lock key) s = done s (s.powered (fun u => u.lockCuff software key.toNat)) := (rfl)

theorem exec_capArm : exec .capArm s = done s (s.powered (fun u => u.orReg Reg.CUF_CAP_SRC 8)) := (rfl)

theorem exec_captureNow : exec .captureNow s = done s (s.powered (fun u => u.capture 1 u.now)) := (rfl)

theorem exec_hwCause {c : Instr} {cause : Nat} (hc : c = .lockstepMismatch ∧ cause = 1 ∨ c = .cuffSupplyFault ∧ cause = 2 ∨
    c = .watchdogExpiry ∧ cause = 3) : exec c s = done s (s.hwSafe cause) ∧ cause < 2 ^ 16 := by
  rcases hc with ⟨rfl, rfl⟩ | ⟨rfl, rfl⟩ | ⟨rfl, rfl⟩
  · exact ⟨(rfl), by decide⟩
  · exact ⟨(rfl), by decide⟩
  · exact ⟨(rfl), by decide⟩

end

section
variable {s : State}

/-- R466, R467: a write of CUF_STOP_CTRL stops, releases, is refused or has no effect. -/
theorem stopOrRelease_shows (hon : s.brm.off = false) {c : Instr} {v : BitVec 64} (hc : c = .stop v ∨ c = .release v) {w : Nat}
    (hw : v.toNat = w) :
    (w.testBit 2 = true → ∃ t, exec c s = .next t ∧ ∀ p, p < 2 → t.bit Reg.CUF_STOP p = (s.bit Reg.CUF_STOP p || w.testBit p)) ∧
    (w.testBit 2 = false → w.testBit 3 = true → bits w 48 16 = 0x524C →
      (s.releaseCause (w % 4) = 0 →
        ∃ t, exec c s = .next t ∧ ∀ p, p < 2 → t.bit Reg.CUF_STOP p = (s.bit Reg.CUF_STOP p && !w.testBit p) ∧
          (w.testBit p = true → t.cuff.cmdLevel.testBit (2 * p) = true ∧ t.cuff.cmdLevel.testBit (2 * p + 1) = true)) ∧
      (s.releaseCause (w % 4) ≠ 0 →
        ∃ t, exec c s = .next t ∧ t.fld Reg.CUF_STOP 0 2 = s.fld Reg.CUF_STOP 0 2 ∧ t.bit Reg.CUF_STOP 5 = true ∧
          t.fld Reg.CUF_STOP 8 8 = s.releaseCause (w % 4))) ∧
    (w.testBit 2 = false → w.testBit 3 = true → bits w 48 16 ≠ 0x524C →
      ∃ t, exec c s = .next t ∧ t.reg Reg.CUF_STOP = s.reg Reg.CUF_STOP ∧ t.reg Reg.CFG_CNT_BUS_ERR = s.reg Reg.CFG_CNT_BUS_ERR + 1) ∧
    (w.testBit 2 = false → w.testBit 3 = false → exec c s = .next s) := by
  have he : exec c s = done s (s.powered (fun u => u.writeStopCtrl software w)) := hw ▸ exec_stopOrRelease s hc
  have hb := s.blank_writeStopCtrl w
  have hm : w % 4 < 4 := Nat.mod_lt _ (by decide)
  refine ⟨fun h2 => next_powered_blank he hon rfl hb (fun p hp => State.bit_writeStopCtrl_stop h2 hp),
    fun h2 h3 hk => ⟨fun hfree => ?_, fun hheld => ?_⟩, fun h2 h3 hk => ?_, fun h2 h3 => ?_⟩
  · have e : s.writeStopCtrl software w = s.released (w % 4) := by
      rw [State.writeStopCtrl_release h2 h3 hk, State.releasePairs_free hfree]
      rfl
    refine next_powered_blank he hon rfl hb (fun p hp => ?_)
    show (s.writeStopCtrl software w).bit Reg.CUF_STOP p = _ ∧ (_ → (s.writeStopCtrl software w).cuff.cmdLevel.testBit _ = true ∧
      (s.writeStopCtrl software w).cuff.cmdLevel.testBit _ = true)
    rw [e, s.bit_released hm hp, testBit_mod_four hp]
    exact ⟨rfl, fun h => s.cmdLevel_released hm hp ((testBit_mod_four hp).trans h)⟩
  · have e : s.writeStopCtrl software w = (s.releaseShown (w % 4)).refuseRule software Reg.CUF_STOP_CTRL := by
      rw [State.writeStopCtrl_release h2 h3 hk, State.releasePairs_held hheld]
      rfl
    have hr : ((s.releaseShown (w % 4)).refuseRule software Reg.CUF_STOP_CTRL).reg Reg.CUF_STOP = (s.releaseShown (w % 4)).reg Reg.CUF_STOP :=
      State.reg_refuseRule_software _ (by decide)
    obtain ⟨h02, h5, h8⟩ := s.releaseShown_shows (w % 4)
    exact next_powered_blank he hon e (e ▸ hb) ⟨(State.fld_ofReg hr 0 2).trans h02, (State.bit_ofReg hr 5).trans h5,
      (State.fld_ofReg hr 8 8).trans h8⟩
  · have e := State.writeStopCtrl_badKey (s := s) h2 h3 hk
    exact next_powered_blank he hon e (e ▸ hb) ⟨s.reg_refuseRule_software (by decide), s.reg_busError_count _ _ _ _⟩
  · rw [he, State.powered_run _ _ hon, State.writeStopCtrl_none h2 h3]
    exact done_of_kept rfl rfl

/-- R469: a standing difference of the channels is shown and recorded. -/
theorem State.safeInDiscrepant_shows (hd : s.cuff.inA ≠ s.cuff.inB) (h4 : s.bit Reg.CUF_STOP 4 = false) :
    s.safeInDiscrepant.blank = s.blank ∧ s.safeInDiscrepant.bit Reg.CUF_STOP 4 = true ∧ s.safeInDiscrepant.cuff.sawStop = false := by
  have hc : ¬ (s.cuff.inA == s.cuff.inB || s.bit Reg.CUF_STOP 4) = true := by simp [hd, h4]
  rw [State.safeInDiscrepant, if_neg hc]
  simp only
  generalize hu : State.orReg { s with cuff := { s.cuff with sawStop := false } } Reg.CUF_STOP 16 = u
  have hbit : u.bit Reg.CUF_STOP 4 = true := by
    rw [← hu, State.bit_orReg_same _ _ _ _ (by decide), show Nat.testBit 16 4 = true from rfl, Bool.or_true]
  have hsaw : u.cuff.sawStop = false := by rw [← hu, State.orReg_cuff]
  have hblank : u.blank = s.blank := by rw [← hu]; rfl
  have hq := u.quiets_record 2 16 0 0x73 none 0xFFFF 0 (by decide)
  have hisle := congrArg Cuff.sawStop hq.isle
  exact ⟨(u.blank_record _ _ _ _ _ _ _).trans hblank, (hq.levels 4 (by decide)).trans hbit, hisle.trans hsaw⟩

/-- R491: with both pairs free STOP_RELEASE releases them; else it counts an abort. -/
theorem stopRelease_shows (hl : s.live = true) :
    (s.releaseCause 3 = 0 → ∃ t, exec (.stopRelease 0x524C#16) s = .next t ∧ t.fld Reg.CUF_STOP 0 2 = 0) ∧
    (∀ v : BitVec 16, v ≠ 0x524C#16 ∨ s.releaseCause 3 ≠ 0 →
      ∃ t, exec (.stopRelease v) s = .next t ∧ t.fld Reg.CUF_STOP 0 2 = s.fld Reg.CUF_STOP 0 2 ∧
        t.dictN 0x5000 3 = (s.dictN 0x5000 3 + 1) % 2 ^ 64) := by
  have hall : ∀ f : Fin 4, f.val - (f.val &&& 3) = 0 := by decide
  have habort : ∀ u : State, u.aborted 6 = u.setDictN 0x5000 3 ((u.dictN 0x5000 3 + 1) % 2 ^ 64) := fun u => if_neg (by decide)
  refine ⟨fun hfree => ?_, fun v hv => ?_⟩
  · rw [exec_stopRelease, State.serve_run _ _ hl, if_pos (show (0x524C#16).toNat = 0x524C from rfl), State.releasePairs_free hfree]
    refine next_done rfl rfl ((s.fld_released 3).trans ?_)
    exact hall ⟨_, bits_lt _ 0 2⟩
  · rw [exec_stopRelease, State.serve_run _ _ hl]
    split
    case isTrue hkey =>
      have hheld : s.releaseCause 3 ≠ 0 := hv.resolve_left (fun h => h (BitVec.eq_of_toNat_eq hkey))
      rw [State.releasePairs_held hheld]
      simp only [Bool.false_eq_true, if_false]
      rw [habort]
      refine next_done ?_ ?_ ⟨?_, State.dictN_setDictN_same _ _ _ _⟩
      · rw [State.setDictN_pending, State.releaseShown, State.setFld_pending, State.orReg_pending]
      · rw [State.setDictN_time, State.releaseShown, State.setFld_time, State.orReg_time]
      · rw [State.fld_ofReg (State.reg_of_regs (State.setDictN_regs _ _ _ _) _), (s.releaseShown_shows 3).1]
    case isFalse hkey =>
      rw [habort]
      refine next_done (State.setDictN_pending _ _ _ _) (State.setDictN_time _ _ _ _) ⟨?_, State.dictN_setDictN_same _ _ _ _⟩
      rw [State.fld_ofReg (State.reg_of_regs (State.setDictN_regs _ _ _ _) _)]

end

/-- Settles O52: a write of CUF_STOP_CTRL by its three bits; the channels by what CUF_STOP shows of them, which records leave; a
hardware cause by the safe state. -/
theorem stopsReleasesAndHardwareCauses : Obligations.StopsReleasesAndHardwareCauses := by
  intro s
  refine ⟨fun hon => ⟨fun c v hc => stopOrRelease_shows hon hc rfl, fun ch => ?_, fun ch => ?_, fun hd h4 => ?_, fun ch => ?_,
    fun key => ⟨fun hk => ?_, fun hk => ?_⟩, ?_, fun ha => ?_, fun ha => ?_⟩, fun hl => stopRelease_shows hl, fun c cause hc hs => ?_⟩
  · -- SAFE_IN_TRIP
    obtain ⟨hb, h⟩ := s.safeInTrip_shows ch
    exact next_powered_blank (exec_safeInTrip s ch) hon rfl hb h
  · -- SAFE_IN_RUN
    obtain ⟨hb1, hA1, hB1, hsaw, -⟩ := s.setSafeIn_shows ch true
    obtain ⟨hb2, h2, h3, hA2, hB2, -, h4⟩ := (s.setSafeIn ch true).showSafeIn_shows
    exact next_powered_blank (exec_safeInRun s ch) hon rfl (hb2.trans hb1) ⟨hA2.trans hA1, hB2.trans hB1, h2.trans hA2.symm,
      h3.trans hB2.symm, fun hA hB hS => h4 (hA2.symm.trans hA) (hB2.symm.trans hB) (hsaw.trans hS)⟩
  · -- SAFE_IN_DISCREPANT
    obtain ⟨hb, h⟩ := State.safeInDiscrepant_shows hd h4
    exact next_powered_blank (exec_safeInDiscrepant s) hon rfl hb h
  · -- STOP_READBACK
    exact next_powered_blank (exec_stopReadback s ch) hon rfl (s.blank_record _ _ _ _ _ _ _) (s.inSafe_fatal _ _ _ _ _)
  · -- LOCK with its key
    refine next_powered_blank (exec_lock s key) hon (if_pos (by rw [hk]; rfl)) (s.blank_orReg _ _) ?_
    rw [State.bit_orReg_same _ _ _ _ (by decide), show Nat.testBit 4 2 = true from rfl, Bool.or_true]
  · -- LOCK with another
    exact next_powered_blank (exec_lock s key) hon (if_neg (fun h => hk (BitVec.eq_of_toNat_eq h))) (s.blank_refuseRule _ _)
      (s.reg_refuseRule_software (by decide))
  · -- CAP_ARM
    refine next_powered_blank (exec_capArm s) hon rfl (s.blank_orReg _ _) ?_
    rw [State.bit_orReg_same _ _ _ _ (by decide), show Nat.testBit 8 3 = true from rfl, Bool.or_true]
  · -- CAPTURE_NOW, not armed
    have e : s.capture 1 s.now = (s.orReg Reg.CUF_FLAGS 8).bump Reg.CUF_CNT_CAP_MISSED := if_neg (by simp [ha])
    refine next_powered_blank (exec_captureNow s) hon e ((State.blank_bump _ _).trans (s.blank_orReg _ _)) ⟨?_, ?_⟩
    · rw [State.bit_ofReg (State.reg_bump_other _ (by decide)), State.bit_orReg_same _ _ _ _ (by decide),
        show Nat.testBit 8 3 = true from rfl, Bool.or_true]
    · rw [State.reg_bump_same, State.reg_orReg_other _ _ (by decide)]
  · -- CAPTURE_NOW, armed
    rw [exec_captureNow, State.powered_run _ _ hon]
    exact congrArg (done s) (if_pos ha)
  · -- a hardware cause
    obtain ⟨he, hlt⟩ := exec_hwCause s hc
    obtain ⟨hp, ht, hsafe, h0, h1, hcause⟩ := State.hwSafe_shows hs hlt
    rw [he]
    exact next_done hp ht ⟨hsafe, h0, h1, hcause⟩

end Sys2Proof.Machine
end

section
/-! PROOFS. Firmware updates, the owner key, attestation, calibration and the lifetime log (R423, R427, R431 to R437, R513). -/

namespace Sys2Proof.Machine

/-! ## Commands that are served, and their aborts (R387) -/

section
variable {s u : State}

/-- While the device is live a request of a host has its effect. -/
theorem next_served {c : Instr} {f : State → State} {P : State → Prop} (he : exec c s = done s (s.serve f)) (hl : s.live = true)
    (hf : f s = u) (hp : u.pending = s.pending) (ht : u.time = s.time) (h : P u) : ∃ t, exec c s = .next t ∧ P t := by
  rw [he, State.serve_run _ _ hl, hf]
  exact next_done hp ht h

variable (s)

@[simp] theorem State.aborted_zero : s.aborted 0 = s := if_pos rfl

/-- A request that is aborted is counted. -/
theorem State.aborted_counts {code : Nat} (h : code ≠ 0) :
    s.aborted code = s.setDictN 0x5000 3 ((s.dictN 0x5000 3 + 1) % 2 ^ 64) := if_neg h

theorem State.dictN_aborted {code : Nat} (h : code ≠ 0) : (s.aborted code).dictN 0x5000 3 = (s.dictN 0x5000 3 + 1) % 2 ^ 64 := by
  rw [s.aborted_counts h, State.dictN_setDictN_same]

theorem State.aborted_keeps (code : Nat) : (s.aborted code).pending = s.pending ∧ (s.aborted code).time = s.time ∧
    (s.aborted code).boot = s.boot ∧ (s.aborted code).sys = s.sys ∧ (s.aborted code).regs = s.regs := by
  unfold State.aborted
  split
  · exact ⟨rfl, rfl, rfl, rfl, rfl⟩
  · exact ⟨State.setDictN_pending _ _ _ _, State.setDictN_time _ _ _ _, State.setDictN_boot _ _ _ _, State.setDictN_sys _ _ _ _,
      State.setDictN_regs _ _ _ _⟩

theorem State.dictN_aborted_other {code i sub : Nat} (h : dictKey i sub ≠ dictKey 0x5000 3) : (s.aborted code).dictN i sub = s.dictN i sub := by
  unfold State.aborted
  split
  · rfl
  · exact s.dictN_setDictN_other _ h

end

/-- A served request that a chapter's rule refuses changes nothing but the count of aborts. -/
theorem next_aborted {s : State} {c : Instr} {f : State → State} {code : Nat} (he : exec c s = done s (s.serve f)) (hl : s.live = true)
    (h0 : code ≠ 0) (hf : f s = s.aborted code) {P : State → Prop}
    (h : ∀ t : State, t.boot = s.boot → t.sys = s.sys → t.dictN 0x5000 3 = (s.dictN 0x5000 3 + 1) % 2 ^ 64 →
      (∀ i sub, dictKey i sub ≠ dictKey 0x5000 3 → t.dictN i sub = s.dictN i sub) → P t) : ∃ t, exec c s = .next t ∧ P t := by
  obtain ⟨hp, ht, hboot, hsys, -⟩ := s.aborted_keeps code
  exact next_served he hl hf hp ht (h _ hboot hsys (s.dictN_aborted h0) (fun _ _ hne => s.dictN_aborted_other hne))

/-! ## Host entries -/

section
variable (s : State) (h : Nat) (x : OdsHost)

@[simp] theorem State.host_setHost : (s.setHost h x).host h = x := by
  unfold State.host State.setHost
  rw [OMap.find_put_same]
  rfl

theorem State.host_setHost_other {j : Nat} (hj : j ≠ h) : (s.setHost h x).host j = s.host j := by
  unfold State.host State.setHost
  rw [OMap.find_put_other _ _ hj]

theorem State.setHost_keeps : (s.setHost h x).pending = s.pending ∧ (s.setHost h x).time = s.time ∧ (s.setHost h x).boot = s.boot :=
  ⟨rfl, rfl, rfl⟩

theorem State.host_of_sys {s t : State} (e : t.sys = s.sys) : t.host h = s.host h := congrArg (fun y : Sys => (y.hosts.find h).getD OdsHost.idle) e

end

/-! ## Staging (R427) -/

section
variable {s : State}

/-- R427: a first piece finds its frames, or those of an earlier staging. -/
theorem State.stageBegin_begins (h : s.boot.staged.isSome = true ∨ 8 ≤ s.freeFrames 3) :
    ∃ u, s.stageBegin = some u ∧ u.pending = s.pending ∧ u.time = s.time ∧ u.sys = s.sys := by
  have hc : ¬ (s.boot.staged.isNone && decide (s.freeFrames 3 < 8)) = true := by
    rcases h with h | h
    · rw [Option.isSome_iff_ne_none] at h
      simp [h]
    · simp [Nat.not_lt.2 h]
  unfold State.stageBegin
  rw [if_neg hc]
  generalize hu : (if s.boot.staged.isNone then s.setFree 3 (s.freeFrames 3 - 8) else s) = u
  have hunits : u.units = s.units := by
    rw [← hu]
    exact State.units_ite (s.units_setFree _ _) rfl
  have hp : u.pending = s.pending := units_field (·.pending) (fun _ => rfl) hunits
  have ht : u.time = s.time := units_field (·.time) (fun _ => rfl) hunits
  have hs : u.sys = s.sys := units_field (·.sys) (fun _ => rfl) hunits
  exact ⟨_, rfl, hp, ht, hs⟩

/-- R373, R427: what host entry `h` has written so far, and the staged image when it has written all. -/
def State.pieceKept (s : State) (h : Nat) (buf : Bytes) : State := s.setHost h { s.host h with write := some (0x3201, 1, buf) }

def State.pieceLast (s : State) (h : Nat) (buf : Bytes) : State :=
  { s.setHost h { s.host h with write := none } with boot := { (s.setHost h { s.host h with write := none }).boot with staged := some buf } }

/-- R373, R427: a piece that joins what its host has written. -/
theorem State.stagePiece_joins {h off : Nat} {data buf : Bytes} {last : Bool} (hb : s.fwBusy = false)
    (h8 : off = 0 → s.boot.staged.isSome = true ∨ 8 ≤ s.freeFrames 3)
    (hp : (s.host h).withPiece (dictKey 0x3201 1) off data = some buf) (hl : buf.length ≤ 16777216) :
    ∃ t, s.stagePiece h off data last = (t, 0) ∧ t.pending = s.pending ∧ t.time = s.time ∧
      if last then t.boot.staged = some buf ∧ (t.host h).write = none else (t.host h).write = some (0x3201, 1, buf) := by
  obtain ⟨u, hu, hup, hut, hus⟩ : ∃ u, (if off = 0 then s.stageBegin else some s) = some u ∧ u.pending = s.pending ∧ u.time = s.time ∧
      u.sys = s.sys := by
    split
    case isTrue h0 => exact State.stageBegin_begins (h8 h0)
    case isFalse => exact ⟨s, rfl, rfl, rfl, rfl⟩
  have hpiece : (u.host h).withPiece (dictKey 0x3201 1) off data = some buf := by rw [State.host_of_sys h hus, hp]
  have hlen : ¬ 16777216 < buf.length := Nat.not_lt.2 hl
  cases last with
  | true =>
    have he : s.stagePiece h off data true = (u.pieceLast h buf, 0) := by
      simp only [State.stagePiece, hb, Bool.false_eq_true, if_false, hu, hpiece, if_neg hlen, if_true]
      rfl
    exact ⟨_, he, hup, hut, rfl, congrArg OdsHost.write (u.host_setHost h _)⟩
  | false =>
    have he : s.stagePiece h off data false = (u.pieceKept h buf, 0) := by
      simp only [State.stagePiece, hb, Bool.false_eq_true, if_false, hu, hpiece, if_neg hlen]
      rfl
    exact ⟨_, he, hup, hut, congrArg OdsHost.write (u.host_setHost h _)⟩

theorem State.stagePiece_busy {h off : Nat} {data : Bytes} {last : Bool} (hb : s.fwBusy = true) :
    s.stagePiece h off data last = (s, 5) := by
  simp only [State.stagePiece, hb, if_true]

end

/-! ## Verifying and writing (R427) -/

section
variable {s : State}

theorem State.fwVerified_shows (h : s.dictN 0x3201 3 = 1) : s.fwVerified.pending = s.pending ∧ s.fwVerified.time = s.time ∧
    s.fwVerified.dictN 0x3201 4 = s.imageCode (s.boot.staged.getD []) ∧
    s.fwVerified.dictN 0x3201 3 = (if s.imageCode (s.boot.staged.getD []) = 0 then 2 else 3) ∧
    s.fwVerified.boot.image = if s.imageCode (s.boot.staged.getD []) = 0 then [] else s.boot.image := by
  unfold State.fwVerified
  rw [if_neg (fun hc => hc h)]
  simp only
  generalize s.imageCode (s.boot.staged.getD []) = code
  have h43 : ∀ v : Nat, ∀ u : State, (u.setDictN 0x3201 3 v).dictN 0x3201 4 = u.dictN 0x3201 4 := fun v u =>
    u.dictN_setDictN_sub _ v (by decide)
  have h4 : (s.setDictN 0x3201 4 code).dictN 0x3201 4 = code := State.dictN_setDictN_same _ _ _ _
  split
  · exact ⟨rfl, rfl, (h43 _ _).trans h4, State.dictN_setDictN_same _ _ _ _, rfl⟩
  · exact ⟨rfl, rfl, (h43 _ _).trans h4, State.dictN_setDictN_same _ _ _ _, rfl⟩

theorem State.fwWritten_shows (h : s.dictN 0x3201 3 = 2) : s.fwWritten.pending = s.pending ∧ s.fwWritten.time = s.time ∧
    s.fwWritten.boot.image = s.boot.staged.getD [] ∧ s.fwWritten.dictN 0x3201 3 = 4 := by
  unfold State.fwWritten
  rw [if_neg (fun hc => hc h)]
  simp only
  rw [State.setDictN_pending, State.setDictN_time, State.setDictN_boot, State.dictAddSat_pending, State.dictAddSat_time, State.dictAddSat_boot,
    State.dictN_setDictN_same]
  exact ⟨rfl, rfl, rfl, rfl⟩

end

/-! ## The owner key (R423) -/

/-- R423: the machine with a fused owner key. -/
def State.fused (s : State) (hash : Bytes) : State := { s with boot := { s.boot with ownerHash := hash } }

section
variable {s : State} {hash : Bytes}

theorem State.putBytes_owner (s : State) (h : Nat) (hash : Bytes) : s.putBytes h 0x3202 2 hash =
    (if (s.ownerFuse hash).2 = 0 then (s.ownerFuse hash).1.setOctets 0x3202 2 hash else (s.ownerFuse hash).1, (s.ownerFuse hash).2) := (rfl)

theorem State.ownerFuse_sets (hb : s.fwBusy = false) (h0 : s.boot.ownerHash = []) (hz : allZero hash = false) (hl : hash.length = 48) :
    s.ownerFuse hash = (s.fused hash, 0) := by
  simp [State.ownerFuse, State.fused, hb, h0, hz, hl]

/-- R423: what may not be fused. -/
theorem State.ownerFuse_refuses (h : s.fwBusy = true ∨ s.boot.ownerHash ≠ [] ∨ allZero hash = true ∨ hash.length ≠ 48) :
    ∃ code, s.ownerFuse hash = (s, code) ∧ code ≠ 0 := by
  by_cases hb : s.fwBusy = true
  · exact ⟨5, by simp [State.ownerFuse, hb], by decide⟩
  · have hc : (!s.boot.ownerHash.isEmpty || allZero hash || hash.length != 48) = true := by
      rcases h.resolve_left hb with h | h | h
      · simp [h]
      · simp [h]
      · simp [h]
    exact ⟨6, by simp only [State.ownerFuse, hb, hc, if_true, Bool.false_eq_true, if_false], by decide⟩

end

/-! ## The lifetime log (R435, R436) -/

section
variable (s : State)

/-- A saturating counter of the dictionary counts up to its last value. -/
theorem State.dictN_dictAddSat (i sub w : Nat) : (s.dictAddSat i sub 1 w).dictN i sub = Nat.min (s.dictN i sub + 1) (2 ^ w - 1) := by
  have hw := Nat.two_pow_pos w
  unfold State.dictAddSat
  rw [State.dictN_setDictN_same]
  split
  · exact (Nat.min_eq_left (by omega)).symm
  · exact (Nat.min_eq_right (by omega)).symm

theorem State.dictN_dictAddSat_other {i sub j sub' n w : Nat} (h : dictKey j sub' ≠ dictKey i sub) :
    (s.dictAddSat i sub n w).dictN j sub' = s.dictN j sub' := s.dictN_setDictN_other _ h

theorem State.dictAddSat_kept (i sub n w : Nat) : (s.dictAddSat i sub n w).pending = s.pending ∧ (s.dictAddSat i sub n w).time = s.time :=
  ⟨State.setDictN_pending _ _ _ _, State.setDictN_time _ _ _ _⟩

theorem tempBin_le (t : Int) : tempBin t ≤ 15 := by
  unfold tempBin
  split
  · decide
  · split
    · decide
    · omega

theorem voltBin_le (mv : Nat) : voltBin mv ≤ 15 := by
  unfold voltBin
  split
  · decide
  · split
    · decide
    · omega

/-- R513: the measured voltage is shown, and the lowest one. -/
theorem State.measureVin_shows (mv : Nat) : (s.measureVin mv).pending = s.pending ∧ (s.measureVin mv).time = s.time ∧
    (s.measureVin mv).dictN 0x2E10 1 = mv ∧
    (s.measureVin mv).dictN 0x2E10 2 = (if s.dictN 0x2E10 2 = 0 then mv else Nat.min (s.dictN 0x2E10 2) mv) ∧
    ∀ i sub, sub < 256 → 0x5100 ≤ i → (s.measureVin mv).dictN i sub = s.dictN i sub := by
  refine ⟨State.setDictN_pending _ _ _ _, State.setDictN_time _ _ _ _, ?_, State.dictN_setDictN_same _ _ _ _, fun i sub hs hi => ?_⟩
  · exact (State.dictN_setDictN_sub _ _ _ (by decide)).trans (s.dictN_setDictN_same _ _ _)
  · have h1 : dictKey i sub ≠ dictKey 0x2E10 2 := by unfold dictKey; omega
    have h2 : dictKey i sub ≠ dictKey 0x2E10 1 := by unfold dictKey; omega
    exact (State.dictN_setDictN_other _ _ h1).trans (s.dictN_setDictN_other _ h2)

/-- R435: a powered second counts itself and its two bins. -/
theorem State.lifetimeSecond_shows (mv : Nat) {b v : Nat} (hb : tempBin (hottest ((List.range 64).map (fun k => signed 16 (s.fld (Reg.BRM_THERM k) 0 16)))
      (List.range 64)) + 1 = b) (hv : voltBin mv + 1 = v) :
    (s.lifetimeSecond mv).pending = s.pending ∧ (s.lifetimeSecond mv).time = s.time ∧ (s.lifetimeSecond mv).dictN 0x2E10 1 = mv ∧
    (s.lifetimeSecond mv).dictN 0x2E10 2 = (if s.dictN 0x2E10 2 = 0 then mv else Nat.min (s.dictN 0x2E10 2) mv) ∧
    (s.lifetimeSecond mv).dictN 0x5100 1 = Nat.min (s.dictN 0x5100 1 + 1) (2 ^ 64 - 1) ∧
    (s.lifetimeSecond mv).dictN 0x5110 b = Nat.min (s.dictN 0x5110 b + 1) (2 ^ 32 - 1) ∧
    (s.lifetimeSecond mv).dictN 0x5111 v = Nat.min (s.dictN 0x5111 v + 1) (2 ^ 32 - 1) := by
  have hb16 : b ≤ 16 := hb ▸ Nat.succ_le_succ (tempBin_le _)
  have hv16 : v ≤ 16 := hv ▸ Nat.succ_le_succ (voltBin_le _)
  obtain ⟨hp, ht, h1, h2, hold⟩ := s.measureVin_shows mv
  have he : s.lifetimeSecond mv = (((s.measureVin mv).dictAddSat 0x5110 b 1 32).dictAddSat 0x5111 v 1 32).dictAddSat 0x5100 1 1 64 := by
    rw [← hb, ← hv]
    rfl
  generalize s.measureVin mv = u at hp ht h1 h2 hold he
  have hlow : ∀ sub, sub < 256 → (((u.dictAddSat 0x5110 b 1 32).dictAddSat 0x5111 v 1 32).dictAddSat 0x5100 1 1 64).dictN 0x2E10 sub =
      u.dictN 0x2E10 sub := fun sub hs => by
    rw [State.dictN_dictAddSat_other _ (by unfold dictKey; omega), State.dictN_dictAddSat_other _ (by unfold dictKey; omega),
      State.dictN_dictAddSat_other _ (by unfold dictKey; omega)]
  rw [he, (State.dictAddSat_kept _ _ _ _ _).1, (State.dictAddSat_kept _ _ _ _ _).1, (State.dictAddSat_kept _ _ _ _ _).1,
    (State.dictAddSat_kept _ _ _ _ _).2, (State.dictAddSat_kept _ _ _ _ _).2, (State.dictAddSat_kept _ _ _ _ _).2]
  refine ⟨hp, ht, (hlow 1 (by decide)).trans h1, (hlow 2 (by decide)).trans h2, ?_, ?_, ?_⟩
  · rw [State.dictN_dictAddSat, State.dictN_dictAddSat_other _ (by unfold dictKey; omega), State.dictN_dictAddSat_other _ (by unfold dictKey; omega),
      hold _ _ (by decide) (by decide)]
  · rw [State.dictN_dictAddSat_other _ (by unfold dictKey; omega), State.dictN_dictAddSat_other _ (by unfold dictKey; omega),
      State.dictN_dictAddSat, hold _ _ (by omega) (by decide)]
  · rw [State.dictN_dictAddSat_other _ (by unfold dictKey; omega), State.dictN_dictAddSat, State.dictN_dictAddSat_other _ (by unfold dictKey; omega),
      hold _ _ (by omega) (by decide)]

/-- R436: what LOG_STATE shows once a copy has been written, or lost. -/
def State.logShown (s : State) (ok : Bool) : State :=
  if ok then (s.setDictN 0x5150 1 0).setDictN 0x5150 2 (s.dictN 0x5100 1) else s.setDictN 0x5150 1 1

theorem State.logShown_shows (ok : Bool) : (s.logShown ok).pending = s.pending ∧ (s.logShown ok).time = s.time ∧ (s.logShown ok).boot = s.boot ∧
    (s.logShown ok).dictN 0x5150 1 = (if ok then 0 else 1) ∧
    (s.logShown ok).dictN 0x5150 2 = (if ok then s.dictN 0x5100 1 else s.dictN 0x5150 2) := by
  cases ok with
  | true => exact ⟨rfl, rfl, rfl, (State.dictN_setDictN_sub _ _ _ (by decide)).trans (s.dictN_setDictN_same _ _ _), State.dictN_setDictN_same _ _ _ _⟩
  | false => exact ⟨rfl, rfl, rfl, s.dictN_setDictN_same _ _ _, s.dictN_setDictN_sub _ _ (by decide)⟩

theorem State.logWrite_eq {ok : Bool} (h : s.dictN 0x5150 2 + 600 ≤ s.dictN 0x5100 1) : s.logWrite ok =
    { s.logShown ok with boot := if logSeq s.boot.logA ≤ logSeq s.boot.logB then
        { (s.logShown ok).boot with logA := if ok then some (Nat.max (logSeq s.boot.logA) (logSeq s.boot.logB) + 1, (s.logShown ok).lifetime) else none }
      else
        { (s.logShown ok).boot with
          logB := if ok then some (Nat.max (logSeq s.boot.logA) (logSeq s.boot.logB) + 1, (s.logShown ok).lifetime) else none } } := by
  rw [State.logWrite, if_neg (Nat.not_lt.2 h)]
  rfl

end

/-! ## What the commands do -/

section
variable (s : State)

theorem exec_fwStage (h : Fin 8) (off : Nat) (data : Bytes) (last : Bool) : exec (.fwStage h off data last) s =
    done s (s.serve (fun u => (u.stagePiece h.val off data last).1.aborted (u.stagePiece h.val off data last).2)) := (rfl)

theorem exec_fwApply : exec .fwApply s = done s (s.serve (fun u => (u.fwApply 1).1.aborted (u.fwApply 1).2)) := (rfl)

theorem exec_fwVerifyDone : exec .fwVerifyDone s = done s (s.serve State.fwVerified) := (rfl)

theorem exec_fwWriteDone : exec .fwWriteDone s = done s (s.serve State.fwWritten) := (rfl)

theorem exec_ownerFuse (hash : Bytes) : exec (.ownerFuse hash) s =
    done s (s.serve (fun u => (u.putBytes 0 0x3202 2 hash).1.aborted (u.putBytes 0 0x3202 2 hash).2)) := (rfl)

theorem exec_nonce (h : Fin 8) (nonce : Bytes) : exec (.nonce h nonce) s =
    done s (s.serve (fun u => (u.writeNonce h.val nonce).1.aborted (u.writeNonce h.val nonce).2)) := (rfl)

theorem exec_reportReady (h : Fin 8) : exec (.reportReady h) s = done s (s.serve (fun u => u.reportReady h.val)) := (rfl)

theorem exec_calWrite (i sub : Nat) (data : Bytes) : exec (.calWrite i sub data) s = done s (s.serve (fun u => u.calWrite i sub data)) := (rfl)

theorem exec_lifetimeSecond (mv : Nat) : exec (.lifetimeSecond mv) s = done s (s.powered (fun u => u.lifetimeSecond mv)) := (rfl)

theorem exec_logWrite (ok : Bool) : exec (.logWrite ok) s = done s (s.powered (fun u => u.logWrite ok)) := (rfl)

end

/-! ### Updates -/

/-- R432: a host entry whose report is ready. -/
def OdsHost.reported (x : OdsHost) (report : Bytes) : OdsHost := { x with report := report, att := 2 }

/-- R431: a host entry that waits for the report of a nonce. -/
def OdsHost.asked (x : OdsHost) (nonce : Bytes) : OdsHost := { x with nonce := nonce, att := 1 }

theorem State.reportReady_eq {s : State} {h : Nat} (hatt : (s.host h).att = 1) {body : Bytes} (hb : s.reportBody (s.host h).nonce = body) :
    s.reportReady h = (s.setHost h ((s.host h).reported (body ++ padTo 96 (Config.attSign s.boot.digests body)))).setReg
      Reg.SEC_CNT_ATTEST (s.reg Reg.SEC_CNT_ATTEST + 1) := by
  rw [← hb]
  exact if_neg (fun hc => hc hatt)

section
variable {s : State} (hl : s.live = true)
include hl

theorem fwStage_shows (h : Fin 8) (off : Nat) (data : Bytes) (last : Bool) :
    (s.fwBusy = false → (off = 0 → s.boot.staged.isSome = true ∨ 8 ≤ s.freeFrames 3) →
      ∀ buf, (s.host h).withPiece (dictKey 0x3201 1) off data = some buf → buf.length ≤ 16777216 →
        ∃ t, exec (.fwStage h off data last) s = .next t ∧
          (if last then t.boot.staged = some buf ∧ (t.host h).write = none else (t.host h).write = some (0x3201, 1, buf))) ∧
    (s.fwBusy = true → ∃ t, exec (.fwStage h off data last) s = .next t ∧ t.boot = s.boot ∧ t.sys = s.sys ∧
      t.dictN 0x5000 3 = (s.dictN 0x5000 3 + 1) % 2 ^ 64) := by
  refine ⟨fun hb h8 buf hpiece hlen => ?_, fun hb => ?_⟩
  · obtain ⟨t, he, hp, ht, hP⟩ := State.stagePiece_joins (last := last) hb h8 hpiece hlen
    exact next_served (exec_fwStage s h off data last) hl (by rw [he, State.aborted_zero]) hp ht hP
  · exact next_aborted (code := 5) (exec_fwStage s h off data last) hl (by decide) (by rw [State.stagePiece_busy hb])
      (fun t hboot hsys hcount _ => ⟨hboot, hsys, hcount⟩)

theorem fwApply_shows : (s.fwBusy = false → ∃ t, exec .fwApply s = .next t ∧ t.dictN 0x3201 3 = 1) ∧
    (s.fwBusy = true → ∃ t, exec .fwApply s = .next t ∧ t.dictN 0x3201 3 = s.dictN 0x3201 3 ∧
      t.dictN 0x5000 3 = (s.dictN 0x5000 3 + 1) % 2 ^ 64) := by
  refine ⟨fun hb => ?_, fun hb => ?_⟩
  · have he : s.fwApply 1 = (s.setDictN 0x3201 3 1, 0) := by simp only [State.fwApply, hb, Bool.false_eq_true, if_false, if_true]
    exact next_served (exec_fwApply s) hl (by rw [he, State.aborted_zero]) (State.setDictN_pending _ _ _ _) (State.setDictN_time _ _ _ _)
      (State.dictN_setDictN_same _ _ _ _)
  · have he : s.fwApply 1 = (s, 5) := by simp only [State.fwApply, hb, if_true]
    exact next_aborted (code := 5) (exec_fwApply s) hl (by decide) (by rw [he])
      (fun t _ _ hcount hother => ⟨hother _ _ (by decide), hcount⟩)

theorem ownerFuse_shows (hash : Bytes) :
    (s.fwBusy = false → s.boot.ownerHash = [] → allZero hash = false → hash.length = 48 →
      ∃ t, exec (.ownerFuse hash) s = .next t ∧ t.boot.ownerHash = hash) ∧
    (s.fwBusy = true ∨ s.boot.ownerHash ≠ [] ∨ allZero hash = true ∨ hash.length ≠ 48 →
      ∃ t, exec (.ownerFuse hash) s = .next t ∧ t.boot = s.boot ∧ t.dictN 0x5000 3 = (s.dictN 0x5000 3 + 1) % 2 ^ 64) := by
  refine ⟨fun hb h0 hz h48 => ?_, fun hbad => ?_⟩
  · have he := s.putBytes_owner 0 hash
    rw [State.ownerFuse_sets hb h0 hz h48, if_pos rfl] at he
    refine next_served (u := (s.fused hash).setOctets 0x3202 2 hash) (exec_ownerFuse s hash) hl (by rw [he, State.aborted_zero])
      (State.setOctets_pending _ _ _ _) (State.setOctets_time _ _ _ _) ?_
    rw [State.setOctets_boot]
    rfl
  · obtain ⟨code, hf, h0⟩ := State.ownerFuse_refuses hbad
    have he := s.putBytes_owner 0 hash
    rw [hf, if_neg h0] at he
    exact next_aborted (exec_ownerFuse s hash) hl h0 (by rw [he]) (fun t hboot _ hcount _ => ⟨hboot, hcount⟩)

theorem reportReady_shows (h : Fin 8) (hatt : (s.host h).att = 1) {body : Bytes} (hb : s.reportBody (s.host h).nonce = body) :
    ∃ t, exec (.reportReady h) s = .next t ∧ (t.host h).att = 2 ∧
      (t.host h).report = body ++ padTo 96 (Config.attSign s.boot.digests body) ∧
      t.reg Reg.SEC_CNT_ATTEST = s.reg Reg.SEC_CNT_ATTEST + 1 := by
  have he := State.reportReady_eq hatt hb
  generalize body ++ padTo 96 (Config.attSign s.boot.digests body) = report at he ⊢
  have hhost : ((s.setHost h ((s.host h).reported report)).setReg Reg.SEC_CNT_ATTEST (s.reg Reg.SEC_CNT_ATTEST + 1)).host h =
      (s.host h).reported report := s.host_setHost h _
  refine next_served (exec_reportReady s h) hl he rfl rfl ?_
  rw [hhost]
  exact ⟨rfl, rfl, State.reg_setReg_same _ _ _⟩

/-- R431, R432: a nonce starts a report, and the report is signed for it. -/
theorem nonce_shows (h : Fin 8) (nonce : Bytes) :
    (nonce.length = 48 → ∃ t, exec (.nonce h nonce) s = .next t ∧ (t.host h).nonce = nonce ∧ (t.host h).att = 1) ∧
    (nonce.length ≠ 48 → ∃ t, exec (.nonce h nonce) s = .next t ∧ t.sys = s.sys ∧ t.dictN 0x5000 3 = (s.dictN 0x5000 3 + 1) % 2 ^ 64) ∧
    ((s.host h).att = 1 →
      (let body := s.reportBody (s.host h).nonce
       ∃ t, exec (.reportReady h) s = .next t ∧ (t.host h).att = 2 ∧
         (t.host h).report = body ++ padTo 96 (Config.attSign s.boot.digests body) ∧
         t.reg Reg.SEC_CNT_ATTEST = s.reg Reg.SEC_CNT_ATTEST + 1)) := by
  refine ⟨fun h48 => ?_, fun h48 => ?_, fun hatt => ?_⟩
  · have he : s.writeNonce h nonce = (s.setHost h ((s.host h).asked nonce), 0) := if_neg (fun hc => hc h48)
    refine next_served (u := s.setHost h ((s.host h).asked nonce)) (exec_nonce s h nonce) hl (by rw [he, State.aborted_zero]) rfl rfl ?_
    rw [State.host_setHost]
    exact ⟨rfl, rfl⟩
  · have he : s.writeNonce h nonce = (s, 6) := if_pos h48
    exact next_aborted (code := 6) (exec_nonce s h nonce) hl (by decide) (by rw [he]) (fun t _ hsys hcount _ => ⟨hsys, hcount⟩)
  · exact reportReady_shows hl h hatt rfl

theorem calWrite_shows {i sub : Nat} (data : Bytes) (h1 : 0x4010 ≤ i) (h2 : i < 0x5000) (h3 : sub < 256) :
    ∃ t, exec (.calWrite i sub data) s = .next t ∧ t.boot.cal.find (dictKey i sub) = some data ∧
      t.dictN 0x4000 1 = 0 ∧ t.dictN 0x4000 2 = (s.dictN 0x4000 2 + 1) % 2 ^ 32 := by
  have he : s.calWrite i sub data = (State.setDictN { s with boot := { s.boot with cal := s.boot.cal.put (dictKey i sub) data } } 0x4000 1 0).setDictN
      0x4000 2 ((s.dictN 0x4000 2 + 1) % 2 ^ 32) := if_pos ⟨h1, h2, h3⟩
  refine next_served (exec_calWrite s i sub data) hl he ?_ ?_ ⟨?_, ?_, State.dictN_setDictN_same _ _ _ _⟩
  · rw [State.setDictN_pending, State.setDictN_pending]
  · rw [State.setDictN_time, State.setDictN_time]
  · rw [State.setDictN_boot, State.setDictN_boot]
    exact OMap.find_put_same _ _ _
  · rw [State.dictN_setDictN_sub _ _ _ (by decide), State.dictN_setDictN_same]

end

/-- R436: the older copy is written or lost; the other stands. -/
theorem logWrite_shows {s : State} (hon : s.brm.off = false) (ok : Bool) (h : s.dictN 0x5150 2 + 600 ≤ s.dictN 0x5100 1) :
    ∃ t, exec (.logWrite ok) s = .next t ∧ t.dictN 0x5150 1 = (if ok then 0 else 1) ∧
      t.dictN 0x5150 2 = (if ok then s.dictN 0x5100 1 else s.dictN 0x5150 2) ∧
      (if logSeq s.boot.logA ≤ logSeq s.boot.logB then t.boot.logB = s.boot.logB ∧
          t.boot.logA = if ok then some (Nat.max (logSeq s.boot.logA) (logSeq s.boot.logB) + 1, t.lifetime) else none
        else t.boot.logA = s.boot.logA ∧
          t.boot.logB = if ok then some (Nat.max (logSeq s.boot.logA) (logSeq s.boot.logB) + 1, t.lifetime) else none) := by
  obtain ⟨hp, ht, hboot, h1, h2⟩ := s.logShown_shows ok
  have hA := congrArg Boot.logA hboot
  have hB := congrArg Boot.logB hboot
  refine next_powered (exec_logWrite s ok) hon (s.logWrite_eq h) hp ht ⟨h1, h2, ?_⟩
  split
  · exact ⟨hB, rfl⟩
  · exact ⟨hA, rfl⟩

/-- Settles O51: each request is refused whole, and counted, or has its one effect. -/
theorem updatesIdentityAndLog : Obligations.UpdatesIdentityAndLog := by
  intro s
  refine ⟨fun hl => ⟨fwStage_shows hl, (fwApply_shows hl).1, (fwApply_shows hl).2, fun h1 => ?_, fun h2 => ?_, ownerFuse_shows hl,
    nonce_shows hl, fun i sub data => calWrite_shows hl data⟩, fun hon => ⟨fun mv => ?_, fun ok h => logWrite_shows hon ok h⟩⟩
  · obtain ⟨hp, ht, h⟩ := State.fwVerified_shows h1
    exact next_served (exec_fwVerifyDone s) hl rfl hp ht h
  · obtain ⟨hp, ht, h⟩ := State.fwWritten_shows h2
    exact next_served (exec_fwWriteDone s) hl rfl hp ht h
  · obtain ⟨hp, ht, h⟩ := s.lifetimeSecond_shows mv rfl rfl
    exact next_powered (exec_lifetimeSecond s mv) hon rfl hp ht h

end Sys2Proof.Machine
end

section
/-! PROOFS. The boot sequence, memory training and the recovery exchange (R421 to R426, R430). -/

namespace Sys2Proof.Machine

/-! ## Commands whose effect keeps the queue and the time by itself or not -/

section
variable {s u : State} {c : Instr} {f : State → State} {P : State → Prop}

/-- What a command leaves has the queue and the time bases that it found. -/
theorem next_done_raw (h : P { u with pending := s.pending, time := s.time }) : ∃ t, done s u = .next t ∧ P t := ⟨_, rfl, h⟩

theorem next_served_raw (he : exec c s = done s (s.serve f)) (hl : s.live = true) (hf : f s = u)
    (h : P { u with pending := s.pending, time := s.time }) : ∃ t, exec c s = .next t ∧ P t := by
  rw [he, State.serve_run _ _ hl, hf]
  exact next_done_raw h

theorem next_powered_raw (he : exec c s = done s (s.powered f)) (hon : s.brm.off = false) (hf : f s = u)
    (h : P { u with pending := s.pending, time := s.time }) : ∃ t, exec c s = .next t ∧ P t := by
  rw [he, State.powered_run _ _ hon, hf]
  exact next_done_raw h

theorem next_served_boot (he : exec c s = done s (s.serve f)) (hl : s.live = true) (hf : f s = u) :
    ∃ t, exec c s = .next t ∧ t.boot = u.boot := next_served_raw he hl hf rfl

theorem next_powered_boot (he : exec c s = done s (s.powered f)) (hon : s.brm.off = false) (hf : f s = u) :
    ∃ t, exec c s = .next t ∧ t.boot = u.boot := next_powered_raw he hon hf rfl

end

/-! ## The stored set changes no boot state (R388) -/

section
variable (s : State)

theorem State.units_uncommit (k : Nat) : (s.uncommit k).units = s.units := (s.configOnly_uncommit k).units

/-- A stored register is all that a write of one changes. -/
theorem State.units_storeReg (a v : Nat) : (s.storeReg a v).units = s.units := by
  unfold State.storeReg
  split
  case h_1 => rfl
  case h_2 d _ =>
    extract_lets old new u t
    have hu : u.units = s.units := State.units_ite rfl rfl
    have ht : t.units = s.units := by
      unfold t
      split
      · split
        · exact (u.units_setRegN _ _).trans hu
        · rfl
      · exact s.units_setRegN _ _
      · rfl
      · rfl
      · rfl
    split
    · exact ht
    · exact (t.units_uncommit _).trans ht

theorem State.boot_of_units {s t : State} (h : t.units = s.units) : t.boot = s.boot := units_field (·.boot) (fun _ => rfl) h

theorem State.boot_putField (a lo w v : Nat) : (s.putField a lo w v).1.boot = s.boot := by
  unfold State.putField
  extract_lets new
  split
  · exact State.orReg_boot _ _ _
  · exact State.boot_of_units (s.units_storeReg _ _)

theorem State.boot_enableSeg (k v : Nat) : (s.enableSeg k v).boot = s.boot := by
  unfold State.enableSeg
  extract_lets s1
  have h1 : s1.boot = s.boot := (State.setRegN_boot _ _ _).trans ((State.setFld_boot _ _ _ _ _).trans (State.setDictN_boot _ _ _ _))
  split
  · exact h1
  · exact h1

theorem State.boot_loadEntry (key : Nat) (bs : Bytes) : (s.loadEntry key bs).boot = s.boot := by
  unfold State.loadEntry
  extract_lets i sub
  split
  · rfl
  · split
    · rfl
    · split
      · exact State.setOctets_boot _ _ _ _
      · split
        · rfl
        · split
          · exact (State.boot_of_units (State.units_applyShadow _ _)).trans (s.boot_putField _ _ _ _)
          · split
            · rfl
            · split
              · exact s.boot_enableSeg _ _
              · exact State.setDictN_boot _ _ _ _

theorem State.boot_nodeOn (n : Nat) : (s.writeNodeEnable n true).1.boot = s.boot := by
  unfold State.writeNodeEnable
  rw [if_neg (by decide)]
  split
  · rfl
  · split
    · exact State.orReg_boot _ _ _
    · exact (State.setDictN_boot _ _ _ _).trans (State.setDictN_boot _ _ _ _)

theorem State.boot_loadStored (set : List (Nat × Bytes)) : (s.loadStored set).boot = s.boot := by
  unfold State.loadStored
  extract_lets s1
  have h1 : s1.boot = s.boot := each_inv (fun t => t.boot = s.boot) set _ s rfl (fun t e _ ht => (t.boot_loadEntry _ _).trans ht)
  refine each_inv (fun t => t.boot = s.boot) set _ s1 h1 (fun t e _ ht => ?_)
  split
  · exact (t.boot_nodeOn _).trans ht
  · exact ht

/-- R376: starting the blocks leaves the stage that the ROM has reached. -/
theorem State.stage_blocksStart : s.blocksStart.boot.stage = s.boot.stage := by
  unfold State.blocksStart
  extract_lets warm set s1 s2 adv
  have h : s1.boot = s.boot := s.boot_loadStored _
  have h2 : s2.boot = s1.boot := State.setRegN_boot _ _ _
  have hstage := congrArg Boot.stage (h2.trans h)
  exact hstage

/-- R505: PCIE_STATE starts from the entry that enables the port. -/
theorem State.pcie_blocksStart : s.blocksStart.reg Reg.PCIE_STATE = BitVec.ofNat 64 (s.blocksStart.dictN 0x2000 1 * 64) := by
  unfold State.blocksStart
  extract_lets warm set s1 s2 adv
  exact s1.reg_setRegN_same _ _

end

/-! ## The boot sequence (R421, R422, R430) -/

section
variable {s : State}

theorem State.dictN_setFld (s : State) (a lo w v i sub : Nat) : (s.setFld a lo w v).dictN i sub = s.dictN i sub := rfl

/-- The machine with ETH_PHY_RST_N released. -/
def State.phyReleased (s : State) : State := { s with boot := { s.boot with phyOut := true } }

theorem State.enterRecovery_shows (s : State) (code stage : Nat) : (s.enterRecovery code stage).phase = 3 ∧
    (s.enterRecovery code stage).dictN 0x3200 2 = code := by
  have he : s.enterRecovery code stage = (((s.phyReleased.setFld Reg.SEC_STATE 0 3 3).setDictN 0x3200 2 code).setFld
      Reg.SEC_BOOT 8 4 code).setFld Reg.SEC_BOOT 12 3 stage := rfl
  have hreg : (((((s.phyReleased.setFld Reg.SEC_STATE 0 3 3).setDictN 0x3200 2 code).setFld Reg.SEC_BOOT 8 4 code).setFld
      Reg.SEC_BOOT 12 3 stage)).reg Reg.SEC_STATE = (s.phyReleased.setFld Reg.SEC_STATE 0 3 3).reg Reg.SEC_STATE :=
    (State.reg_setFld_other _ _ _ _ (by decide)).trans ((State.reg_setFld_other _ _ _ _ (by decide)).trans
      (State.reg_of_regs (State.setDictN_regs _ _ _ _) _))
  rw [he]
  refine ⟨(State.fld_ofReg hreg 0 3).trans (s.phyReleased.fld_setFld_same _ _ _ _ (by decide)), ?_⟩
  rw [State.dictN_setFld, State.dictN_setFld, State.dictN_setDictN_same]

/-- R421: a good header begins the stages; a bad one begins recovery. -/
theorem State.headerLoaded_shows {ok : Bool} {c : Nat} (hc : (if ok then s.headerCode s.boot.image else 1) = c) :
    (c = 0 → (s.headerLoaded ok).phase = 2 ∧ (s.headerLoaded ok).boot.stage = 1) ∧
    (c ≠ 0 → (s.headerLoaded ok).phase = 3 ∧ (s.headerLoaded ok).dictN 0x3200 2 = c) := by
  unfold State.headerLoaded
  rw [hc]
  refine ⟨fun h => ?_, fun h => ?_⟩
  · rw [if_pos h]
    exact ⟨State.fld_setFld_same _ _ _ _ _ (by decide), congrArg Boot.stage (State.setFld_boot _ _ _ _ _)⟩
  · rw [if_neg h]
    exact s.enterRecovery_shows c 0

/-- R430: the ROM ends in phase 4 with the stages counted. -/
theorem State.romEnds_shows (s : State) : s.romEnds.phase = 4 ∧ s.romEnds.boot.stage = s.boot.stage := by
  unfold State.romEnds
  extract_lets v s1 s2
  refine ⟨State.fld_setFld_same _ _ _ _ _ (by decide), ?_⟩
  rw [State.setFld_boot]
  have h2 : s2.boot = s.boot := (State.setOctets_boot _ _ _ _).trans ((State.setDictN_boot _ _ _ _).trans (State.setFld_boot _ _ _ _ _))
  split
  · exact s2.stage_blocksStart.trans (congrArg Boot.stage h2)
  · exact congrArg Boot.stage h2

/-- R421, R486: the machine in which stage `k` counts as started. -/
def State.stageStarted (s : State) (k : Nat) : State :=
  { s with boot := { s.boot with stage := k + 1, digests := s.boot.digests ++ stageDigest s.boot.image (k - 1) } }

def State.stageReady (s : State) (k : Nat) : State :=
  if k = 2 ∧ s.inSafe = false then (s.stageStarted k).setFld Reg.CUF_STATE 0 2 1 else s.stageStarted k

theorem State.stageReady_shows (s : State) (k : Nat) : (s.stageReady k).boot.stage = k + 1 ∧ (s.stageReady k).phase = s.phase := by
  unfold State.stageReady
  split
  · rw [State.setFld_boot]
    exact ⟨rfl, State.fld_ofReg ((s.stageStarted k).reg_setFld_other _ _ _ (by decide)) 0 3⟩
  · exact ⟨rfl, rfl⟩

theorem State.stageIn_good {k : Nat} (hm : stageMatches s.boot.image (k - 1) = true) :
    s.stageIn k true = if k = 4 then (s.stageReady k).romEnds else s.stageReady k := by
  simp only [State.stageIn, Bool.not_true, Bool.false_eq_true, if_false, hm]
  rfl

/-- R421: a stage with its digest counts as started. -/
theorem State.stageIn_starts {k : Nat} (hp : s.phase = 2) (hm : stageMatches s.boot.image (k - 1) = true) :
    (s.stageIn k true).boot.stage = k + 1 ∧ (s.stageIn k true).phase = if k = 4 then 4 else 2 := by
  obtain ⟨hs, hph⟩ := s.stageReady_shows k
  rw [State.stageIn_good hm]
  split
  · exact ⟨(s.stageReady k).romEnds_shows.2.trans hs, (s.stageReady k).romEnds_shows.1⟩
  · exact ⟨hs, hph.trans hp⟩

theorem State.stageLoaded_zero (h0 : s.boot.stage = 0) (hp : s.phase = 1) (hh : s.tooHot = false) (ok : Bool) :
    s.stageLoaded 0 ok = s.headerLoaded ok := by
  rw [State.stageLoaded, if_neg (fun h => h h0), if_pos rfl, if_pos ⟨hp, hh⟩]

theorem State.stageLoaded_next {k : Nat} (hk : k ≠ 0) (hs : s.boot.stage = k) (hp : s.phase = 2) (ok : Bool) :
    s.stageLoaded k ok = s.stageIn k ok := by
  rw [State.stageLoaded, if_neg (fun h => h hs), if_neg hk, if_pos hp]

theorem State.stageIn_unread (s : State) (k : Nat) : s.stageIn k false = s.enterRecovery 1 0 := rfl

theorem State.stageIn_bad {k : Nat} (hm : stageMatches s.boot.image (k - 1) = false) : s.stageIn k true = s.enterRecovery 6 k := by
  simp only [State.stageIn, Bool.not_true, Bool.false_eq_true, if_false, hm, Bool.not_false, if_true]

end

/-! ## Recovery messages (R425, R426) -/

section
variable (s : State)

/-- Messages count at the port through which they leave. -/
theorem State.recSend_shows (p : Nat) (msgs : List Bytes) : (s.recSend p msgs).boot.sent = msgs ∧
    (s.recSend p msgs).boot.recovery = s.boot.recovery ∧ (s.recSend p msgs).boot.image = s.boot.image ∧
    (s.recSend p msgs).boot.doneAt = s.boot.doneAt := by
  unfold State.recSend
  rw [State.add_boot]
  exact ⟨rfl, rfl, rfl, rfl⟩

theorem netCntTx_ne {p q : Nat} (h : p ≠ q) : Reg.NET_CNT_TX p ≠ Reg.NET_CNT_TX q := by unfold Reg.NET_CNT_TX; omega

/-- A broadcast counts once at each port that it leaves by. -/
theorem State.reg_broadcast (ps : List Nat) (hd : ps.Nodup) (m : Bytes) (p : Nat) :
    (each ps (fun t q => t.recSend q [m]) s).reg (Reg.NET_CNT_TX p) = s.reg (Reg.NET_CNT_TX p) + if p ∈ ps then 1 else 0 := by
  induction ps generalizing s with
  | nil => simp [each]
  | cons q qs ih =>
    obtain ⟨hq, hqs⟩ := List.nodup_cons.1 hd
    have hstep : each (q :: qs) (fun t q => t.recSend q [m]) s = each qs (fun t q => t.recSend q [m]) (s.recSend q [m]) := rfl
    rw [hstep, ih (s.recSend q [m]) hqs]
    by_cases e : p = q
    · subst e
      have hadd : (s.recSend p [m]).reg (Reg.NET_CNT_TX p) = s.reg (Reg.NET_CNT_TX p) + 1 := State.reg_add_same _ _ _
      rw [hadd, if_neg hq, if_pos (List.mem_cons_self ..)]
      simp
    · have hkeep : (s.recSend q [m]).reg (Reg.NET_CNT_TX p) = s.reg (Reg.NET_CNT_TX p) := State.reg_add_other _ _ (netCntTx_ne e)
      have hmem : (p ∈ q :: qs) ↔ p ∈ qs := by simp [e]
      rw [hkeep]
      simp only [hmem]

/-- One GET message for each offset. -/
def Recovery.getMsg (r : Recovery) (acc : State × List Bytes) (o : Nat) : State × List Bytes :=
  ((acc.1.recMsg 3 (some (o, r.pieceLen o)) []).1, acc.2 ++ [(acc.1.recMsg 3 (some (o, r.pieceLen o)) []).2])

theorem Recovery.length_getMsgs (r : Recovery) (offs : List Nat) (acc : State × List Bytes) :
    (each offs r.getMsg acc).2.length = acc.2.length + offs.length := by
  induction offs generalizing acc with
  | nil => rfl
  | cons o os ih =>
    refine (ih (r.getMsg acc o)).trans ?_
    have h : (r.getMsg acc o).2.length = acc.2.length + 1 := List.length_append
    rw [h, List.length_cons]
    omega

/-- R425: sending GETs keeps the exchange and sends one message for each. -/
theorem State.sendGets_shows (r : Recovery) (offs : List Nat) : (s.sendGets r offs).boot.recovery = some r ∧
    (s.sendGets r offs).boot.sent.length = offs.length := by
  have he : s.sendGets r offs = State.recSend { (each offs r.getMsg (s, [])).1 with
      boot := { (each offs r.getMsg (s, [])).1.boot with recovery := some r } } r.port (each offs r.getMsg (s, [])).2 := rfl
  obtain ⟨h1, h2, -, -⟩ := State.recSend_shows { (each offs r.getMsg (s, [])).1 with
      boot := { (each offs r.getMsg (s, [])).1.boot with recovery := some r } } r.port (each offs r.getMsg (s, [])).2
  rw [he, h1, h2, r.length_getMsgs]
  exact ⟨rfl, Nat.zero_add _⟩

/-- R426: the machine whose exchange has ended with an image of code `code`. -/
def State.exchangeEnded (s : State) (img : Bytes) (now code : Nat) : State :=
  if code = 0 then
    (State.dictAddSat { s with boot := { s.boot with recovery := none, image := img, doneAt := some now } } 0x5100 4 1 32).dictAddSat
      0x5100 5 1 32
  else State.bump { s with boot := { s.boot with recovery := none } } Reg.SEC_CNT_VERIFY_FAIL

theorem State.received_eq (r : Recovery) : s.received r =
    ((s.recMsg 5 none (natLE 1 (s.imageCode (Memory.read r.data 0 r.total)))).1.exchangeEnded (Memory.read r.data 0 r.total) s.now
      (s.imageCode (Memory.read r.data 0 r.total))).recSend r.port
      [(s.recMsg 5 none (natLE 1 (s.imageCode (Memory.read r.data 0 r.total)))).2] := rfl

/-- R426: the last bytes end the exchange; an image that passes is in flash. -/
theorem State.received_shows (r : Recovery) : (s.received r).boot.recovery = none ∧
    (s.imageCode (Memory.read r.data 0 r.total) = 0 →
      (s.received r).boot.image = Memory.read r.data 0 r.total ∧ (s.received r).boot.doneAt = some s.now) := by
  rw [State.received_eq]
  generalize (s.recMsg 5 none (natLE 1 (s.imageCode (Memory.read r.data 0 r.total)))).1 = u
  generalize (s.recMsg 5 none (natLE 1 (s.imageCode (Memory.read r.data 0 r.total)))).2 = msg
  generalize s.imageCode (Memory.read r.data 0 r.total) = code
  obtain ⟨-, hr, hi, hd⟩ := (u.exchangeEnded (Memory.read r.data 0 r.total) s.now code).recSend_shows r.port [msg]
  rw [hr, hi, hd]
  unfold State.exchangeEnded
  split
  case isTrue h =>
    rw [State.dictAddSat_boot, State.dictAddSat_boot]
    exact ⟨rfl, fun _ => ⟨rfl, rfl⟩⟩
  case isFalse h =>
    rw [State.bump_boot]
    exact ⟨rfl, fun hc => absurd hc h⟩

end

/-! ## What the commands do -/

section
variable (s : State)

theorem exec_stageLoaded (k : Fin 5) (ok : Bool) : exec (.stageLoaded k ok) s = done s (s.serve (fun u => u.stageLoaded k.val ok)) := (rfl)

theorem exec_secVersionAdvance : exec .secVersionAdvance s = done s (s.serve State.advanceVersion) := (rfl)

theorem exec_memoryTrained (lp : Bool) : exec (.memoryTrained lp) s = done s (s.powered (fun u => u.memoryTrained lp)) := (rfl)

theorem exec_hello : exec .hello s = done s (s.powered State.hello) := (rfl)

theorem exec_offer (p : Fin 6) (src : Nat) (msg : Bytes) : exec (.offer p src msg) s =
    done s (s.powered (fun u => u.offer p.val src msg)) := (rfl)

theorem exec_data (p : Fin 6) (src : Nat) (msg : Bytes) : exec (.data p src msg) s =
    done s (s.powered (fun u => u.dataIn p.val src msg)) := (rfl)

theorem exec_getResend : exec .getResend s = done s (s.powered State.getResend) := (rfl)

end

section
variable {s : State}

/-- R421: a stage that fails ends in recovery with its code. -/
theorem next_recovery {c : Instr} {f : State → State} {code stage : Nat} (he : exec c s = done s (s.serve f)) (hl : s.live = true)
    (hf : f s = s.enterRecovery code stage) : ∃ t, exec c s = .next t ∧ t.phase = 3 ∧ t.dictN 0x3200 2 = code := by
  have h := s.enterRecovery_shows code stage
  rw [← hf] at h
  exact next_served_raw he hl rfl h

/-- R421: the header and the stages, each in its turn. -/
theorem stageLoaded_shows (hl : s.live = true) :
    (s.boot.stage = 0 → s.phase = 1 → s.tooHot = false →
      (∀ ok, (if ok then s.headerCode s.boot.image else 1) = 0 →
        ∃ t, exec (.stageLoaded 0 ok) s = .next t ∧ t.phase = 2 ∧ t.boot.stage = 1) ∧
      (∀ ok c, (if ok then s.headerCode s.boot.image else 1) = c → c ≠ 0 →
        ∃ t, exec (.stageLoaded 0 ok) s = .next t ∧ t.phase = 3 ∧ t.dictN 0x3200 2 = c)) ∧
    (∀ k : Fin 5, k ≠ 0 → s.boot.stage = k.val → s.phase = 2 →
      (stageMatches s.boot.image (k - 1) = true →
        ∃ t, exec (.stageLoaded k true) s = .next t ∧ t.boot.stage = k + 1 ∧ t.phase = if k = 4 then 4 else 2) ∧
      (stageMatches s.boot.image (k - 1) = false →
        ∃ t, exec (.stageLoaded k true) s = .next t ∧ t.phase = 3 ∧ t.dictN 0x3200 2 = 6) ∧
      ∃ t, exec (.stageLoaded k false) s = .next t ∧ t.phase = 3 ∧ t.dictN 0x3200 2 = 1) := by
  refine ⟨fun h0 hp hh => ⟨fun ok hc => ?_, fun ok c hc hne => ?_⟩, fun k hk hs hp => ?_⟩
  · exact next_served_raw (exec_stageLoaded s 0 ok) hl (State.stageLoaded_zero h0 hp hh ok) ((State.headerLoaded_shows hc).1 rfl)
  · exact next_served_raw (exec_stageLoaded s 0 ok) hl (State.stageLoaded_zero h0 hp hh ok) ((State.headerLoaded_shows hc).2 hne)
  · have hk0 : k.val ≠ 0 := fun e => hk (Fin.ext e)
    have h4 : (k = 4) = (k.val = 4) := propext ⟨fun e => congrArg Fin.val e, fun e => Fin.ext e⟩
    refine ⟨fun hm => ?_, fun hm => ?_, ?_⟩
    · obtain ⟨h1, h2⟩ := State.stageIn_starts (k := k.val) hp hm
      refine next_served_raw (exec_stageLoaded s k true) hl (State.stageLoaded_next hk0 hs hp true) ⟨h1, ?_⟩
      simp only [h4]
      exact h2
    · exact next_recovery (exec_stageLoaded s k true) hl ((State.stageLoaded_next hk0 hs hp true).trans (State.stageIn_bad hm))
    · exact next_recovery (exec_stageLoaded s k false) hl ((State.stageLoaded_next hk0 hs hp false).trans (s.stageIn_unread k))

/-- R422: the fused version is raised to the one SEC_STATE names. -/
def State.fuseAdvanced (s : State) : State :=
  { s with boot := { s.boot with advance := false, secFused := Nat.max s.boot.secFused (s.fld Reg.SEC_STATE 16 8) } }

theorem State.advanceVersion_eq (s : State) : s.advanceVersion =
    if s.boot.advance then (s.fuseAdvanced.setDictN 0x3200 5 s.fuseAdvanced.boot.secFused).setFld Reg.SEC_STATE 8 8 s.fuseAdvanced.boot.secFused
    else s := (rfl)

/-- R422: the fused version only rises. -/
theorem secVersionAdvance_shows (hl : s.live = true) (h : s.boot.advance = true) :
    ∃ t, exec .secVersionAdvance s = .next t ∧ t.boot.advance = false ∧
      t.boot.secFused = Nat.max s.boot.secFused (s.fld Reg.SEC_STATE 16 8) := by
  obtain ⟨t, ht, hb⟩ := next_served_boot (exec_secVersionAdvance s) hl s.advanceVersion_eq
  rw [h, if_pos rfl, State.setFld_boot, State.setDictN_boot] at hb
  exact ⟨t, ht, congrArg Boot.advance hb, congrArg Boot.secFused hb⟩

/-- R424: the first memory is marked; with the second the blocks start. -/
theorem memoryTrained_shows (hon : s.brm.off = false) (lp : Bool) (hr : s.boot.inReset = false) (hp : s.phase = 4) :
    (s.boot.trained = 0 → ∃ t, exec (.memoryTrained lp) s = .next t ∧ t.boot.trained = if lp then 1 else 2) ∧
    (s.boot.trained = (if lp then 2 else 1) →
      ∃ t, exec (.memoryTrained lp) s = .next t ∧ t.reg Reg.PCIE_STATE = BitVec.ofNat 64 (t.dictN 0x2000 1 * 64)) := by
  refine ⟨fun h0 => ?_, fun h1 => ?_⟩
  · have he : s.memoryTrained lp = { s with boot := { s.boot with trained := if lp then 1 else 2 } } := by
      cases lp <;> simp [State.memoryTrained, hr, hp, h0]
    exact next_powered_raw (exec_memoryTrained s lp) hon he rfl
  · have he : s.memoryTrained lp = State.blocksStart { s with boot := { s.boot with trained := 3 } } := by
      cases lp <;> simp [State.memoryTrained, hr, hp, h1]
    refine next_powered_raw (exec_memoryTrained s lp) hon he ?_
    exact State.pcie_blocksStart _

/-- R425: HELLO on every port with a link, and the first valid OFFER. -/
theorem hello_offer_show (hon : s.brm.off = false) (hrec : s.recovering = true) (h0 : s.boot.recovery = none) (hd : s.boot.doneAt = none) :
    (∃ t, exec .hello s = .next t ∧
      ∀ p, p < 6 → t.reg (Reg.NET_CNT_TX p) = s.reg (Reg.NET_CNT_TX p) + if s.portUp p then 1 else 0) ∧
    (∀ (p : Fin 6) src msg, s.portUp p = true → recOk msg 2 = true → 1024 ≤ fieldLE msg 12 4 → fieldLE msg 12 4 ≤ 16777216 →
      ∃ t, exec (.offer p src msg) s = .next t ∧
        t.boot.recovery = some (Recovery.fill ⟨p, src, fieldLE msg 12 4, [], [], 0⟩ s.now).1 ∧
        t.boot.sent.length = (Recovery.fill ⟨p, src, fieldLE msg 12 4, [], [], 0⟩ s.now).2.length) := by
  refine ⟨?_, fun p src msg hup hok hlo hhi => ?_⟩
  · obtain ⟨u, m, he, hreg⟩ : ∃ (u : State) (m : Bytes), s.hello = each ((List.range 6).filter s.portUp) (fun t p => t.recSend p [m]) u ∧
        u.regs = s.regs := by
      simp only [State.hello, hrec, h0, hd, Bool.not_true, Option.isSome_none, Bool.or_self, Bool.false_eq_true, if_false]
      exact ⟨_, _, rfl, rfl⟩
    refine next_powered_raw (exec_hello s) hon he (fun p hp => ?_)
    refine (u.reg_broadcast _ (List.nodup_range.filter _) m p).trans ?_
    rw [State.reg_of_regs hreg]
    simp [hp]
  · have hn1 : ¬ fieldLE msg 12 4 < 1024 := Nat.not_lt.2 hlo
    have hn2 : ¬ 16777216 < fieldLE msg 12 4 := Nat.not_lt.2 hhi
    have he : s.offer p src msg = s.sendGets (Recovery.fill ⟨p, src, fieldLE msg 12 4, [], [], 0⟩ s.now).1
        (Recovery.fill ⟨p, src, fieldLE msg 12 4, [], [], 0⟩ s.now).2 := by
      simp only [State.offer, hrec, h0, hd, hup, hok, hn1, hn2, Bool.not_true, Option.isSome_none, Bool.or_self, decide_false,
        Bool.false_eq_true, if_false]
    have hs := s.sendGets_shows (Recovery.fill ⟨p, src, fieldLE msg 12 4, [], [], 0⟩ s.now).1
      (Recovery.fill ⟨p, src, fieldLE msg 12 4, [], [], 0⟩ s.now).2
    obtain ⟨t, ht, hb⟩ := next_powered_boot (exec_offer s p src msg) hon he
    rw [← hb] at hs
    exact ⟨t, ht, hs⟩

/-- R425: the exchange with one more piece. -/
def Recovery.took (r : Recovery) (msg : Bytes) : Recovery :=
  { r with data := Memory.write r.data (fieldLE msg 8 4) (imgPart msg 16 (r.pieceLen (fieldLE msg 8 4))), gets := r.gets.drop (fieldLE msg 8 4) }

/-- R425: DATA that answers a GET of the exchange. -/
theorem State.dataIn_eq {r : Recovery} {msg : Bytes} (hrec : s.recovering = true) (hr : s.boot.recovery = some r) (hok : recOk msg 4 = true)
    (hn : fieldLE msg 12 4 = r.pieceLen (fieldLE msg 8 4)) (hl : 16 + r.pieceLen (fieldLE msg 8 4) ≤ msg.length)
    (hg : (r.gets.find (fieldLE msg 8 4)).isSome = true) : s.dataIn r.port r.host msg =
    if (r.took msg).gets.entries.isEmpty && decide ((r.took msg).total ≤ (r.took msg).next) then s.received (r.took msg)
    else s.sendGets ((r.took msg).fill s.now).1 ((r.took msg).fill s.now).2 := by
  have hl' : ¬ msg.length < 16 + r.pieceLen (fieldLE msg 8 4) := Nat.not_lt.2 hl
  have hg' : (r.gets.find (fieldLE msg 8 4)).isNone = false := by rw [Option.isNone_eq_false_iff]; exact hg
  simp only [State.dataIn, hr, hrec, hok, hn, hl', hg', Bool.not_true, bne_self_eq_false, Bool.or_self, decide_false, Bool.false_eq_true,
    if_false]
  rfl

/-- R425, R426: a piece either asks for the next ones or ends the exchange. -/
theorem data_shows (hon : s.brm.off = false) {r : Recovery} (hrec : s.recovering = true) (hr : s.boot.recovery = some r)
    {p : Fin 6} {src : Nat} {msg : Bytes} (hp : r.port = p) (hsrc : r.host = src) (hok : recOk msg 4 = true)
    (hn : fieldLE msg 12 4 = r.pieceLen (fieldLE msg 8 4)) (hl : 16 + r.pieceLen (fieldLE msg 8 4) ≤ msg.length)
    (hg : (r.gets.find (fieldLE msg 8 4)).isSome = true) {r1 : Recovery} (h1 : r.took msg = r1) :
    (r1.gets.entries ≠ [] ∨ r1.next < r1.total →
      ∃ t, exec (.data p src msg) s = .next t ∧ t.boot.recovery = some (r1.fill s.now).1 ∧
        t.boot.sent.length = (r1.fill s.now).2.length) ∧
    (r1.gets.entries = [] → r1.total ≤ r1.next →
      ∃ t, exec (.data p src msg) s = .next t ∧ t.boot.recovery = none ∧
        (s.imageCode (Memory.read r1.data 0 r1.total) = 0 →
          t.boot.image = Memory.read r1.data 0 r1.total ∧ t.boot.doneAt = some s.now)) := by
  have he := State.dataIn_eq hrec hr hok hn hl hg
  rw [h1, hp, hsrc] at he
  refine ⟨fun hmore => ?_, fun hnil hlast => ?_⟩
  · have hc : (r1.gets.entries.isEmpty && decide (r1.total ≤ r1.next)) = false := by
      rcases hmore with h | h
      · simp [h]
      · simp [h]
    rw [hc, if_neg Bool.false_ne_true] at he
    obtain ⟨t, ht, hb⟩ := next_powered_boot (exec_data s p src msg) hon he
    have hs := s.sendGets_shows (r1.fill s.now).1 (r1.fill s.now).2
    rw [← hb] at hs
    exact ⟨t, ht, hs⟩
  · rw [hnil, List.isEmpty_nil, decide_eq_true hlast, Bool.and_self, if_pos rfl] at he
    obtain ⟨t, ht, hb⟩ := next_powered_boot (exec_data s p src msg) hon he
    have hs := s.received_shows r1
    rw [← hb] at hs
    exact ⟨t, ht, hs⟩

/-- R425: late GETs are sent again, or the exchange is given up. -/
theorem getResend_shows (hon : s.brm.off = false) {r : Recovery} (hr : s.boot.recovery = some r) {late : List (Nat × Nat × Nat)}
    (hlate : r.gets.entries.filter (fun (e : Nat × Nat × Nat) => decide (e.2.2 + 100000000 ≤ s.now)) = late) :
    (late.any (fun e => decide (50 ≤ e.2.1)) = true → ∃ t, exec .getResend s = .next t ∧ t.boot.recovery = none) ∧
    (late.any (fun e => decide (50 ≤ e.2.1)) = false → late ≠ [] →
      ∃ t, exec .getResend s = .next t ∧ t.boot.sent.length = late.length) := by
  have he : s.getResend = if late.any (fun e => decide (50 ≤ e.2.1)) then { s with boot := { s.boot with recovery := none } }
      else if late.isEmpty then s
      else s.sendGets { r with gets := each late (fun g e => g.put e.1 (e.2.1 + 1, s.now)) r.gets } (late.map (·.1)) := by
    simp only [State.getResend, hr, hlate]
  refine ⟨fun h => ?_, fun h hne => ?_⟩
  · rw [if_pos h] at he
    exact next_powered_raw (exec_getResend s) hon he rfl
  · rw [if_neg (Bool.eq_false_iff.1 h), if_neg (by simpa using hne)] at he
    refine next_powered_raw (exec_getResend s) hon he ?_
    exact (s.sendGets_shows _ _).2.trans (List.length_map _)

end

/-- Settles O50: a stage is started or ends in recovery, the stored set leaves the boot state, and the exchange is kept in one record
that each message replaces. -/
theorem bootAndRecoveryProgress : Obligations.BootAndRecoveryProgress := by
  intro s
  refine ⟨fun hl => ⟨(stageLoaded_shows hl).1, (stageLoaded_shows hl).2, secVersionAdvance_shows hl⟩,
    fun hon => ⟨memoryTrained_shows hon, hello_offer_show hon, fun r hrec hr => ⟨fun p src msg hp hsrc hok hn hlen hg => ?_, ?_⟩⟩⟩
  · exact data_shows hon hrec hr hp hsrc hok hn hlen hg rfl
  · exact getResend_shows hon hr rfl

end Sys2Proof.Machine
end

section
/-! PROOFS. Captures and kept responses expire; the stored set; DBG_DATA reads (R374, R384, R388, R414). -/

namespace Sys2Proof.Machine

section
variable (s : State) (h : Fin 8)

theorem exec_odsCaptureRelease : exec (.odsCaptureRelease h) s = done s (s.serve (fun u => u.captureRelease h.val)) := (rfl)

theorem exec_odsResponseExpiry : exec (.odsResponseExpiry h) s =
    done s (s.serve (fun u => u.setHost h.val { u.host h.val with kept := u.keptOf h.val })) := (rfl)

theorem exec_store : exec .store s = done s (s.serve (fun u => (u.storeCmd 1).1.aborted (u.storeCmd 1).2)) := (rfl)

theorem exec_storeErase : exec .storeErase s = done s (s.serve (fun u => (u.storeCmd 2).1.aborted (u.storeCmd 2).2)) := (rfl)

theorem exec_storeDone (ok : Bool) : exec (.storeDone ok) s = done s (s.serve (fun u => u.storeDone ok)) := (rfl)

/-- R414: what DBG_DATA_READ does once it is served. -/
def State.dbgDataRead (s : State) (h : Nat) : State :=
  if s.dictN 0x1000 5 = 0 then s.aborted 9
  else match s.debugRead h with
    | (t, none) => t.aborted 8
    | (t, some v) => { t with readVal := BitVec.ofNat 64 v }

theorem exec_dbgDataRead : exec (.dbgDataRead h) s = done s (s.serve (fun u => u.dbgDataRead h.val)) := (rfl)

end

/-! ## Host entries (R374, R384) -/

section
variable {s : State}

theorem State.host_captureRelease {h : Nat} {key n at' : Nat} {v : Bytes} (hc : (s.host h).capture = some (key, v, n, at')) :
    ((s.captureRelease h).host h).capture = if s.now < at' + 1000000000 then some (key, v, n, at') else none := by
  unfold State.captureRelease second
  rw [hc]
  simp only
  split
  · exact hc
  · rw [State.host_setHost]

theorem odsCaptureRelease_shows (hl : s.live = true) (h : Fin 8) {key n at' : Nat} {v : Bytes} (hc : (s.host h).capture = some (key, v, n, at')) :
    ∃ t, exec (.odsCaptureRelease h) s = .next t ∧
      (t.host h).capture = if s.now < at' + 1000000000 then some (key, v, n, at') else none :=
  next_served_raw (exec_odsCaptureRelease s h) hl rfl (State.host_captureRelease hc)

theorem odsResponseExpiry_shows (hl : s.live = true) (h : Fin 8) : ∃ t, exec (.odsResponseExpiry h) s = .next t ∧
    (t.host h).kept = (s.host h).kept.filter (fun k => decide (s.now < k.2.1 + 5000000000)) :=
  next_served_raw (exec_odsResponseExpiry s h) hl rfl (congrArg OdsHost.kept (s.host_setHost h _))

end

/-! ## The stored set (R388) -/

section
variable (s : State)

/-- R388: an action on the stored set has begun. -/
def State.storingOf (s : State) (what : Option (List (Nat × Bytes))) : State := { s with sys := { s.sys with storing := some what } }

theorem State.storeCmd_begins {v : Nat} (hv : v = 1 ∨ v = 2) (h : s.sys.storing = none) :
    s.storeCmd v = ((s.storingOf (if v = 1 then some s.captureSet else none)).setDictN 0x1000 2 1, 0) := by
  unfold State.storeCmd
  rw [if_neg (by omega), h]
  rfl

theorem State.storeCmd_busy {v : Nat} (hv : v = 1 ∨ v = 2) (h : s.sys.storing ≠ none) : s.storeCmd v = (s, 5) := by
  unfold State.storeCmd
  rw [if_neg (by omega), if_pos (Option.isSome_iff_ne_none.2 h)]

end

section
variable {s : State} {c : Instr}

/-- R388: STORE and STORE_ERASE while no action runs. -/
theorem storeCommand_begins {v : Nat} (hv : v = 1 ∨ v = 2)
    (he : exec c s = done s (s.serve (fun u => (u.storeCmd v).1.aborted (u.storeCmd v).2))) (hl : s.live = true) (h : s.sys.storing = none) :
    ∃ t, exec c s = .next t ∧ t.sys.storing = some (if v = 1 then some s.captureSet else none) ∧ t.dictN 0x1000 2 = 1 := by
  refine next_served he hl (u := (s.storingOf (if v = 1 then some s.captureSet else none)).setDictN 0x1000 2 1) ?_ rfl rfl ⟨rfl, ?_⟩
  · simp only [s.storeCmd_begins hv h, State.aborted_zero]
  · rw [State.dictN_setDictN_same]

/-- R388: STORE and STORE_ERASE while one runs. -/
theorem storeCommand_busy {v : Nat} (hv : v = 1 ∨ v = 2)
    (he : exec c s = done s (s.serve (fun u => (u.storeCmd v).1.aborted (u.storeCmd v).2))) (hl : s.live = true) (h : s.sys.storing ≠ none) :
    ∃ t, exec c s = .next t ∧ t.sys = s.sys ∧ t.dictN 0x5000 3 = (s.dictN 0x5000 3 + 1) % 2 ^ 64 :=
  next_aborted (code := 5) he hl (by decide) (by simp only [s.storeCmd_busy hv h]) (fun _ _ hs hd _ => ⟨hs, hd⟩)

/-- R388: the end of the action. -/
def State.storeEnded (s : State) (ok : Bool) (what : Option (List (Nat × Bytes))) : State :=
  { s with sys := { s.sys with storing := none, stored := if ok then what else s.sys.stored } }

theorem storeDone_shows (hl : s.live = true) (ok : Bool) {what : Option (List (Nat × Bytes))} (h : s.sys.storing = some what) :
    ∃ t, exec (.storeDone ok) s = .next t ∧ t.sys.storing = none ∧ t.dictN 0x1000 2 = (if ok then 0 else 3) ∧
      t.sys.stored = if ok then what else s.sys.stored := by
  have he : s.storeDone ok = (s.storeEnded ok what).setDictN 0x1000 2 (if ok then 0 else 3) := by
    unfold State.storeDone
    rw [h]
    rfl
  exact next_served_raw (exec_storeDone s ok) hl he ⟨rfl, State.dictN_setDictN_same _ _ _ _, rfl⟩

end

/-! ## DBG_DATA (R414) -/

/-- A change of registers in force, and of nothing else. -/
def RegsOnly (s t : State) : Prop := ∃ regs, t = { s with regs := regs }

section
variable {s t u : State}

theorem RegsOnly.refl (s : State) : RegsOnly s s := ⟨s.regs, rfl⟩

theorem RegsOnly.trans (h : RegsOnly s t) (k : RegsOnly t u) : RegsOnly s u := by
  obtain ⟨r, rfl⟩ := h
  obtain ⟨r', rfl⟩ := k
  exact ⟨r', rfl⟩

theorem RegsOnly.ite {c : Prop} [Decidable c] (h : RegsOnly s t) (k : RegsOnly s u) : RegsOnly s (if c then t else u) := by
  split
  · exact h
  · exact k

theorem State.regsOnly_setReg (s : State) (a : Nat) (w : Word) : RegsOnly s (s.setReg a w) := ⟨_, rfl⟩

end

/-- R391: a bus error of an agent other than Cuff, whose record the dispatcher keeps, changes registers only. -/
theorem State.regsOnly_busError (s : State) {ag : Agent} (hag : ag ≠ .cuff) (w : Bool) (cause addr : Nat) :
    RegsOnly s (s.busError ag w cause addr) := by
  unfold State.busError
  extract_lets code core word s1 s2
  have h1 : RegsOnly s s1 := RegsOnly.ite (RegsOnly.refl s) ((s.regsOnly_setReg _ _).trans (State.regsOnly_setReg _ _ _))
  have h2 : RegsOnly s s2 := h1.trans (s1.regsOnly_setReg _ _)
  have hc : ¬ code = 4 := by
    unfold code
    cases ag with
    | cuff => exact absurd rfl hag
    | crown | pcie | odsDebug | debugPort => simp
  rw [if_neg hc]
  exact h2

section
variable {s : State} {h : Fin 8}

theorem State.debugRead_reads (ha : (s.host h).dbgAddr % 8 = 0) (hi : inAlias (s.host h).dbgAddr = false)
    (hx : regExists (s.host h).dbgAddr = true) :
    s.debugRead h = (s.readEffect (s.host h).dbgAddr, some (s.peekReg (s.host h).dbgAddr)) := by
  unfold State.debugRead State.softRead
  rw [if_neg (by omega), hi, if_neg Bool.false_ne_true, if_pos hx]

theorem State.debugRead_fails (ha : (s.host h).dbgAddr % 8 = 0) (hi : inAlias (s.host h).dbgAddr = false)
    (hx : regExists (s.host h).dbgAddr = false) : s.debugRead h = (s.busError .odsDebug false 1 (s.host h).dbgAddr, none) := by
  unfold State.debugRead State.softRead
  rw [if_neg (by omega), hi, if_neg Bool.false_ne_true, hx, if_neg Bool.false_ne_true]

theorem dbgDataRead_reads (hl : s.live = true) (hu : s.dictN 0x1000 5 ≠ 0) (ha : (s.host h).dbgAddr % 8 = 0)
    (hi : inAlias (s.host h).dbgAddr = false) (hx : regExists (s.host h).dbgAddr = true) :
    ∃ t, exec (.dbgDataRead h) s = .next t ∧ t.readVal = BitVec.ofNat 64 (s.peekReg (s.host h).dbgAddr) := by
  have he : s.dbgDataRead h = { s.readEffect (s.host h).dbgAddr with readVal := BitVec.ofNat 64 (s.peekReg (s.host h).dbgAddr) } := by
    unfold State.dbgDataRead
    rw [if_neg hu, State.debugRead_reads ha hi hx]
  exact next_served_raw (exec_dbgDataRead s h) hl he rfl

theorem dbgDataRead_fails (hl : s.live = true) (hu : s.dictN 0x1000 5 ≠ 0) (ha : (s.host h).dbgAddr % 8 = 0)
    (hi : inAlias (s.host h).dbgAddr = false) (hx : regExists (s.host h).dbgAddr = false) :
    ∃ t, exec (.dbgDataRead h) s = .next t ∧ t.readVal = s.readVal ∧ t.reg Reg.CFG_CNT_BUS_ERR = s.reg Reg.CFG_CNT_BUS_ERR + 1 ∧
      t.dictN 0x5000 3 = (s.dictN 0x5000 3 + 1) % 2 ^ 64 := by
  have he : s.dbgDataRead h = (s.busError .odsDebug false 1 (s.host h).dbgAddr).aborted 8 := by
    unfold State.dbgDataRead
    rw [if_neg hu, State.debugRead_fails ha hi hx]
  have hreg := s.reg_busError_count .odsDebug false 1 (s.host h).dbgAddr
  obtain ⟨regs, hb⟩ := s.regsOnly_busError (ag := .odsDebug) (by decide) false 1 (s.host h).dbgAddr
  rw [hb] at he hreg
  generalize hbs : ({ s with regs := regs } : State) = b at he hreg
  have hd : b.dictN 0x5000 3 = s.dictN 0x5000 3 := by rw [← hbs]; rfl
  have hr : b.readVal = s.readVal := by rw [← hbs]
  obtain ⟨-, -, -, -, hregs⟩ := b.aborted_keeps 8
  have hv : (b.aborted 8).readVal = b.readVal := by rw [b.aborted_counts (by decide)]; rfl
  exact next_served_raw (exec_dbgDataRead s h) hl he ⟨hv.trans hr, (State.reg_of_regs hregs _).trans hreg,
    (b.dictN_aborted (by decide)).trans (by rw [hd])⟩

theorem dbgDataRead_locked (hl : s.live = true) (hu : s.dictN 0x1000 5 = 0) : ∃ t, exec (.dbgDataRead h) s = .next t ∧
    t.readVal = s.readVal ∧ t.dictN 0x5000 3 = (s.dictN 0x5000 3 + 1) % 2 ^ 64 := by
  have he : s.dbgDataRead h = s.aborted 9 := if_pos hu
  have hv : (s.aborted 9).readVal = s.readVal := by rw [s.aborted_counts (by decide)]; rfl
  exact next_served_raw (exec_dbgDataRead s h) hl he ⟨hv, s.dictN_aborted (by decide)⟩

end

/-- Settles O42: each request changes its host's entry, the stored set or the value read, and every other one only counts an abort. -/
theorem storedSetAndDebugReads : Obligations.StoredSetAndDebugReads := by
  intro s hl
  refine ⟨fun h key v n at' hc => odsCaptureRelease_shows hl h hc, odsResponseExpiry_shows hl,
    fun h => ⟨storeCommand_begins (.inl rfl) (exec_store s) hl h, storeCommand_begins (.inr rfl) (exec_storeErase s) hl h⟩,
    fun h => ⟨storeCommand_busy (.inl rfl) (exec_store s) hl h, storeCommand_busy (.inr rfl) (exec_storeErase s) hl h⟩,
    fun ok what h => storeDone_shows hl ok h, fun h hu ha hi => ⟨dbgDataRead_reads hl hu ha hi, dbgDataRead_fails hl hu ha hi⟩,
    fun h hu => dbgDataRead_locked hl hu⟩

end Sys2Proof.Machine
end

section
/-! PROOFS. Roster nodes: enabling, timeout, process-data input and output (R360, R363 to R367). -/

namespace Sys2Proof.Machine

/-! ## Work of the units -/

section
variable {s u : State} {c : Instr} {f : State → State} {P : State → Prop}

/-- While the device runs a unit's event has its effect; the queue and the time bases are the step's. -/
theorem next_work_raw (he : exec c s = done s (s.work f)) (hr : s.running = true) (hf : f s = u)
    (h : P { u with pending := s.pending, time := s.time }) : ∃ t, exec c s = .next t ∧ P t := by
  rw [he, done_work hr, hf]
  exact ⟨_, rfl, h⟩

/-- The registers, the switch and the dictionary that the step leaves. -/
theorem next_work_shows (he : exec c s = done s (s.work f)) (hr : s.running = true) (hf : f s = u) :
    ∃ t, exec c s = .next t ∧ t.regs = u.regs ∧ t.net = u.net ∧ t.dict = u.dict := next_work_raw he hr hf ⟨rfl, rfl, rfl⟩

theorem next_served_shows (he : exec c s = done s (s.serve f)) (hl : s.live = true) (hf : f s = u) :
    ∃ t, exec c s = .next t ∧ t.regs = u.regs ∧ t.net = u.net ∧ t.dict = u.dict := next_served_raw he hl hf ⟨rfl, rfl, rfl⟩

theorem State.running_live (hr : s.running = true) : s.live = true := (s.running_iff.1 hr).2

end

/-! ## The roster -/

section
variable (s : State) (n : Nat)

@[simp] theorem State.node_setNode (x : NetNode) : (s.setNode n x).node n = x := by
  unfold State.node State.setNode
  rw [OMap.find_put_same]
  rfl

@[simp] theorem State.node_dropNode : (s.dropNode n).node n = NetNode.idle := by
  unfold State.node State.dropNode
  rw [OMap.find_drop_same]
  rfl

theorem State.node_of_net {s t : State} (h : t.net = s.net) (n : Nat) : t.node n = s.node n :=
  congrArg (fun x : Net => (x.nodes.find n).getD NetNode.idle) h

theorem State.node_setDictN (i sub v : Nat) : (s.setDictN i sub v).node n = s.node n := rfl

@[simp] theorem State.roster_setDictN (sub v : Nat) : (s.setDictN (0x8000 + n) sub v).roster n sub = v := State.dictN_setDictN_same _ _ _ _

theorem State.roster_setDictN_other {sub sub' : Nat} (v : Nat) (h : sub' ≠ sub) :
    (s.setDictN (0x8000 + n) sub v).roster n sub' = s.roster n sub' := State.dictN_setDictN_sub _ _ _ h

theorem State.roster_of_dict {s t : State} (h : t.dict = s.dict) (n sub : Nat) : t.roster n sub = s.roster n sub :=
  congrArg (fun m => SMap.get dictReset m (dictKey (0x8000 + n) sub)) h

/-- What the roster shows and what its nodes have exchanged. -/
def State.rosterView (s : State) : Net × SMap Nat := (s.net, s.dict)

theorem State.rosterView_net {s t : State} (h : t.rosterView = s.rosterView) : t.net = s.net := congrArg Prod.fst h

theorem State.rosterView_dict {s t : State} (h : t.rosterView = s.rosterView) : t.dict = s.dict := congrArg Prod.snd h

theorem State.rosterView_setReg (a : Nat) (w : Word) : (s.setReg a w).rosterView = s.rosterView := (rfl)

theorem State.rosterView_setLoop (e l : Nat) (x : KnkLoop) : (s.setLoop e l x).rosterView = s.rosterView := (rfl)

theorem State.rosterView_cuff (x : Cuff) : State.rosterView { s with cuff := x } = s.rosterView := (rfl)

theorem State.rosterView_showLost : s.showLost.rosterView = s.rosterView := by
  unfold State.showLost
  split
  · exact s.rosterView_setReg _ _
  · exact s.rosterView_setReg _ _

theorem State.roster_showLost (m sub : Nat) : s.showLost.roster m sub = s.roster m sub :=
  State.roster_of_dict (State.rosterView_dict s.rosterView_showLost) m sub

theorem State.node_showLost (m : Nat) : s.showLost.node m = s.node m := State.node_of_net (State.rosterView_net s.rosterView_showLost) m

end

/-! ## Enabling (R360) -/

section
variable {s : State} {n : Nat}

theorem State.writeNodeEnable_sets (h0 : s.roster n 1 = 0) (hb : s.rosterBad n = false) : s.writeNodeEnable n true =
    (((s.setNode n { NetNode.idle with since := s.now }).setDictN (0x8000 + n) 0x0B 1).setDictN (0x8000 + n) 1 1, false) := by
  unfold State.writeNodeEnable
  simp only [Bool.not_true, Bool.false_eq_true, if_false, ne_eq, h0, not_true_eq_false, hb]

theorem State.writeNodeEnable_refuses (h0 : s.roster n 1 = 0) (hb : s.rosterBad n = true) :
    s.writeNodeEnable n true = (s.orReg Reg.NET_REJECT 1, true) := by
  unfold State.writeNodeEnable
  simp only [Bool.not_true, Bool.false_eq_true, if_false, ne_eq, h0, not_true_eq_false, hb, if_true]

theorem State.writeNodeEnable_clears : s.writeNodeEnable n false =
    (((s.dropNode n).setDictN (0x8000 + n) 1 0).setDictN (0x8000 + n) 0x0B 0 |>.showLost, false) := (rfl)

end

section
variable (s : State) (n : Fin 1024)

theorem exec_nodeEnable (on : Bool) : exec (.nodeEnable n on) s = done s (s.serve (fun u =>
    (u.writeNodeEnable n.val on).1.aborted (if (u.writeNodeEnable n.val on).2 then 6 else 0))) := (rfl)

theorem exec_nodeTimeout : exec (.nodeTimeout n) s = done s (s.work (fun u => u.nodeTimeout n.val)) := (rfl)

theorem exec_pdInputFrame (p : Fin 10) (f : Bytes) : exec (.pdInputFrame p f) s = done s (s.work (fun u => u.pdInputFrame p.val f)) := (rfl)

theorem exec_outHoldExpiry : exec (.outHoldExpiry n) s = done s (s.work (fun u => u.outHold n.val)) := (rfl)

end

section
variable {s : State} {n : Fin 1024}

theorem nodeEnable_sets (hr : s.running = true) (h0 : s.roster n 1 = 0) (hb : s.rosterBad n = false) :
    ∃ t, exec (.nodeEnable n true) s = .next t ∧ t.roster n 1 = 1 ∧ t.roster n 0x0B = 1 ∧
      t.node n = { NetNode.idle with since := s.now } := by
  have hw := State.writeNodeEnable_sets h0 hb
  obtain ⟨t, ht, -, hnet, hdict⟩ := next_served_shows (exec_nodeEnable s n true) (State.running_live hr)
    (u := ((s.setNode n { NetNode.idle with since := s.now }).setDictN (0x8000 + n) 0x0B 1).setDictN (0x8000 + n) 1 1)
    (by simp only [hw, Bool.false_eq_true, if_false, State.aborted_zero])
  refine ⟨t, ht, ?_, ?_, ?_⟩
  · rw [State.roster_of_dict hdict, State.roster_setDictN]
  · rw [State.roster_of_dict hdict, State.roster_setDictN_other _ _ _ (by decide), State.roster_setDictN]
  · rw [State.node_of_net hnet, State.node_setDictN, State.node_setDictN, State.node_setNode]

theorem nodeEnable_refuses (hr : s.running = true) (h0 : s.roster n 1 = 0) (hb : s.rosterBad n = true) :
    ∃ t, exec (.nodeEnable n true) s = .next t ∧ t.roster n 1 = 0 ∧ t.net = s.net ∧ t.bit Reg.NET_REJECT 0 = true := by
  have hw := State.writeNodeEnable_refuses h0 hb
  have hk : dictKey (0x8000 + n) 1 ≠ dictKey 0x5000 3 := by unfold dictKey; omega
  obtain ⟨-, -, -, -, hregs⟩ := (s.orReg Reg.NET_REJECT 1).aborted_keeps 6
  have hnet : ((s.orReg Reg.NET_REJECT 1).aborted 6).net = s.net := by
    rw [State.aborted_counts _ (by decide)]
    rfl
  refine next_served_raw (exec_nodeEnable s n true) (State.running_live hr) (u := (s.orReg Reg.NET_REJECT 1).aborted 6) ?_ ⟨?_, ?_, ?_⟩
  · simp only [hw, if_true]
  · exact (State.dictN_aborted_other _ hk).trans h0
  · exact hnet
  · exact (State.bit_ofReg (State.reg_of_regs hregs _) 0).trans (by simp [State.bit, State.regN, State.orReg])

theorem nodeEnable_clears (hr : s.running = true) : ∃ t, exec (.nodeEnable n false) s = .next t ∧ t.roster n 1 = 0 ∧
    t.roster n 0x0B = 0 ∧ t.node n = NetNode.idle := by
  obtain ⟨t, ht, -, hnet, hdict⟩ := next_served_shows (exec_nodeEnable s n false) (State.running_live hr)
    (u := (((s.dropNode n).setDictN (0x8000 + n) 1 0).setDictN (0x8000 + n) 0x0B 0).showLost)
    (by simp only [State.writeNodeEnable_clears, Bool.false_eq_true, if_false, State.aborted_zero])
  refine ⟨t, ht, ?_, ?_, ?_⟩
  · rw [State.roster_of_dict hdict, State.roster_showLost, State.roster_setDictN_other _ _ _ (by decide), State.roster_setDictN]
  · rw [State.roster_of_dict hdict, State.roster_showLost, State.roster_setDictN]
  · rw [State.node_of_net hnet, State.node_showLost, State.node_setDictN, State.node_setDictN, State.node_dropNode]

/-! ## Timeout (R363) -/

theorem nodeTimeout_shows (hr : s.running = true) (h1 : s.roster n 1 ≠ 0) (ha : s.roster n 0x0B = 1)
    (hd : (s.node n).since + s.roster n 8 * 1000 ≤ s.now) :
    ∃ t, exec (.nodeTimeout n) s = .next t ∧ t.roster n 0x0B = 2 ∧ t.bit Reg.NET_FLAGS 0 = true := by
  have he : s.nodeTimeout n = (((s.record 1 24 0 0x6F none n 1).setDictN (0x8000 + n) 0x0B 2).showLost).setReg Reg.NET_FLAGS
      (s.reg Reg.NET_FLAGS ||| 1) := by
    refine if_neg ?_
    rintro (h | h | h)
    · exact h1 h
    · exact h ha
    · exact absurd hd (Nat.not_le.2 h)
  obtain ⟨t, ht, hregs, -, hdict⟩ := next_work_shows (exec_nodeTimeout s n) hr he
  refine ⟨t, ht, ?_, ?_⟩
  · rw [State.roster_of_dict hdict, State.roster_of_dict (State.rosterView_dict (State.rosterView_setReg _ _ _)), State.roster_showLost,
      State.roster_setDictN]
  · rw [State.bit_ofReg (State.reg_of_regs hregs _)]
    simp [State.bit, State.regN]

end

/-! ## Process-data input (R364 to R366) -/

section
variable (s : State)

theorem State.rosterView_latchLoop (e l i : Nat) : (s.latchLoop e l i).rosterView = s.rosterView := by
  unfold State.latchLoop
  extract_lets x js
  split
  · rfl
  split
  · exact s.rosterView_setReg _ _
  · unfold State.checkReady
    extract_lets y
    split
    · exact s.rosterView_setLoop _ _ _
    · split
      · exact (State.rosterView_setLoop _ _ _ _).trans (s.rosterView_setLoop _ _ _)
      · exact s.rosterView_setLoop _ _ _

theorem State.rosterView_latchWrite (e i v : Nat) : (s.latchWrite e i v).rosterView = s.rosterView :=
  each_inv (fun t : State => t.rosterView = s.rosterView) _ _ _ (s.rosterView_setReg _ _) (fun t c _ ht => (t.rosterView_latchLoop e (c.1 % 64) i).trans ht)

theorem State.rosterView_applyRxMap (e : Nat) (data : Bytes) : (s.applyRxMap e data).rosterView = s.rosterView := by
  unfold State.applyRxMap
  extract_lets o w v s1
  split
  · rfl
  split
  · exact s.rosterView_setReg _ _
  · have h1 : s1.rosterView = s.rosterView := s.rosterView_latchWrite _ _ _
    split
    · exact (s1.rosterView_latchWrite _ _ _).trans h1
    · exact h1

theorem State.rosterView_validResult (source id : Nat) : (s.validResult source id).rosterView = s.rosterView := by
  unfold State.validResult
  refine each_inv (fun t : State => t.rosterView = s.rosterView) _ _ _ rfl (fun t e _ ht => ?_)
  simp only
  split
  · exact (t.rosterView_cuff _).trans ht
  · exact ht

/-- R365: an accepted frame's node. -/
def State.pdTaken (s : State) (n : Nat) (b : Bytes) : State :=
  (s.setNode n { s.node n with lastSeq := some (fieldLE b 4 4), since := s.now }).setDictN (0x8000 + n) 0x0B 1

theorem State.pdAccept_eq (n : Nat) (b : Bytes) : s.pdAccept n b =
    iter 16 (fun t i => t.applyRxMap (t.dictN (0x8400 + n) (i + 1)) ((b.drop 12).take (fieldLE b 8 2)))
      ((s.pdTaken n b).showLost.validResult 3 n).nextOrder := (rfl)

theorem State.rosterView_nextOrder : s.nextOrder.rosterView = s.rosterView := (rfl)

theorem State.rosterView_pdAccept (n : Nat) (b : Bytes) : (s.pdAccept n b).rosterView = (s.pdTaken n b).rosterView := by
  rw [State.pdAccept_eq]
  refine iter_inv (fun t : State => t.rosterView = (s.pdTaken n b).rosterView) 16 _ _ ?_
    (fun t i _ ht => (t.rosterView_applyRxMap _ _).trans ht)
  rw [State.rosterView_nextOrder, State.rosterView_validResult, State.rosterView_showLost]

theorem State.pdAccept_shows (n : Nat) (b : Bytes) : ((s.pdAccept n b).node n).lastSeq = some (fieldLE b 4 4) ∧
    ((s.pdAccept n b).node n).since = s.now ∧ (s.pdAccept n b).roster n 0x0B = 1 := by
  have h := s.rosterView_pdAccept n b
  rw [State.node_of_net (State.rosterView_net h), State.roster_of_dict (State.rosterView_dict h)]
  unfold State.pdTaken
  rw [State.node_setDictN, State.node_setNode, State.roster_setDictN]
  exact ⟨rfl, rfl, rfl⟩

/-- R365: the sequence `q` of node `n`'s last frame is not below `seq`. -/
def State.pdOld (s : State) (n seq : Nat) : Prop :=
  s.roster n 0x0B = 1 ∧ ∃ q, (s.node n).lastSeq = some q ∧ signed 32 (seq + 2 ^ 32 - q) ≤ 0

theorem State.pdOld_iff (n seq : Nat) : (s.roster n 0x0B == 1 && (match (s.node n).lastSeq with
    | none => false
    | some q => decide (signed 32 (seq + 2 ^ 32 - q) ≤ 0))) = true ↔ s.pdOld n seq := by
  unfold State.pdOld
  cases (s.node n).lastSeq with
  | none => simp
  | some q => simp

end

section
variable {s : State} {p : Nat} {f : Bytes}

theorem State.pdInput_bad (hv : s.pdValid p f = false) : s.pdInput p f = s.bump Reg.NET_CNT_PD_BAD := by
  simp only [State.pdInput, hv, Bool.not_false, if_true]

theorem State.pdInput_old (hv : s.pdValid p f = true) (ho : s.pdOld (fieldLE (frBody f) 2 2) (fieldLE (frBody f) 4 4)) :
    s.pdInput p f = s.bump Reg.NET_CNT_PD_OLD := by
  unfold State.pdInput
  simp only [hv, Bool.not_true, Bool.false_eq_true, if_false]
  exact if_pos ((s.pdOld_iff _ _).2 ho)

theorem State.pdInput_new (hv : s.pdValid p f = true) (ho : ¬ s.pdOld (fieldLE (frBody f) 2 2) (fieldLE (frBody f) 4 4)) :
    s.pdInput p f = (s.pdAccept (fieldLE (frBody f) 2 2) (frBody f)).setReg Reg.NET_CNT_PD_RX (s.reg Reg.NET_CNT_PD_RX + 1) := by
  unfold State.pdInput
  simp only [hv, Bool.not_true, Bool.false_eq_true, if_false]
  exact if_neg (fun h => ho ((s.pdOld_iff _ _).1 h))

theorem State.pdInputFrame_received {u : State} (h : s.receive p f = (u, true)) : s.pdInputFrame p f = u.pdInput p f := by
  unfold State.pdInputFrame
  rw [h]
  rfl

end

section
variable {s u : State} {p : Fin 10} {f : Bytes}

theorem pdInputFrame_new (hr : s.running = true) (hu : s.receive p f = (u, true)) (hv : u.pdValid p f = true)
    (ho : ¬ u.pdOld (fieldLE (frBody f) 2 2) (fieldLE (frBody f) 4 4)) :
    ∃ t, exec (.pdInputFrame p f) s = .next t ∧ t.reg Reg.NET_CNT_PD_RX = u.reg Reg.NET_CNT_PD_RX + 1 ∧
      (t.node (fieldLE (frBody f) 2 2)).lastSeq = some (fieldLE (frBody f) 4 4) ∧ (t.node (fieldLE (frBody f) 2 2)).since = u.now ∧
      t.roster (fieldLE (frBody f) 2 2) 0x0B = 1 := by
  have hshow := u.pdAccept_shows (fieldLE (frBody f) 2 2) (frBody f)
  have he := (State.pdInputFrame_received hu).trans (State.pdInput_new hv ho)
  generalize u.pdAccept (fieldLE (frBody f) 2 2) (frBody f) = v at hshow he
  exact next_work_raw (exec_pdInputFrame s p f) hr he ⟨State.reg_setReg_same _ _ _, hshow⟩

theorem pdInputFrame_old (hr : s.running = true) (hu : s.receive p f = (u, true)) (hv : u.pdValid p f = true)
    (ho : u.pdOld (fieldLE (frBody f) 2 2) (fieldLE (frBody f) 4 4)) :
    ∃ t, exec (.pdInputFrame p f) s = .next t ∧ t.reg Reg.NET_CNT_PD_OLD = u.reg Reg.NET_CNT_PD_OLD + 1 ∧ t.net = u.net :=
  next_work_raw (exec_pdInputFrame s p f) hr ((State.pdInputFrame_received hu).trans (State.pdInput_old hv ho))
    ⟨u.reg_bump_same _, rfl⟩

theorem pdInputFrame_bad (hr : s.running = true) (hu : s.receive p f = (u, true)) (hv : u.pdValid p f = false) :
    ∃ t, exec (.pdInputFrame p f) s = .next t ∧ t.reg Reg.NET_CNT_PD_BAD = u.reg Reg.NET_CNT_PD_BAD + 1 ∧ t.net = u.net :=
  next_work_raw (exec_pdInputFrame s p f) hr ((State.pdInputFrame_received hu).trans (State.pdInput_bad hv))
    ⟨u.reg_bump_same _, rfl⟩

end

/-! ## Process-data output (R367) -/

section
variable (s : State)

theorem State.nodes_ite {c : Prop} [Decidable c] {m : OMap NetNode} {t u : State} (ht : t.net.nodes = m) (hu : u.net.nodes = m) :
    (if c then t else u).net.nodes = m := by
  split
  · exact ht
  · exact hu

theorem State.nodes_egress (p tc : Nat) (frame : Bytes) : (s.egress p tc frame).net.nodes = s.net.nodes := by
  have hf : (s.countFrags p tc frame).net.nodes = s.net.nodes := State.nodes_ite rfl rfl
  exact State.nodes_ite rfl (State.nodes_ite hf rfl)

theorem State.nodes_segReady (k : Nat) (output : Bool) (frame : Bytes) : (s.segReady k output frame).net.nodes = s.net.nodes :=
  State.nodes_ite rfl (State.nodes_ite rfl rfl)

/-- R367: the node's exchange once its frame has left. -/
def NetNode.sent (x : NetNode) : NetNode := { x with written := [], first := none, seq := (x.seq + 1) % 2 ^ 32 }

theorem State.nodes_sendOutput (n : Nat) (stale : Bool) : (s.sendOutput n stale).net.nodes = (s.setNode n (s.node n).sent).net.nodes := by
  unfold State.sendOutput
  extract_lets x len payload s1 at_
  have h1 : s1.net.nodes = (s.setNode n (s.node n).sent).net.nodes := rfl
  refine State.nodes_ite ?_ (State.nodes_ite ?_ h1)
  · exact (s1.nodes_egress _ _ _).trans h1
  · exact (s1.nodes_segReady _ _ _).trans h1

theorem State.node_sendOutput (n : Nat) (stale : Bool) : (s.sendOutput n stale).node n = (s.node n).sent := by
  have h : (s.sendOutput n stale).node n = (s.setNode n (s.node n).sent).node n :=
    congrArg (fun m : OMap NetNode => (m.find n).getD NetNode.idle) (s.nodes_sendOutput n stale)
  rw [h, State.node_setNode]

variable {s}

theorem State.outHold_sends {n x : Nat} (hx : (s.node n).first = some x) (hd : x + s.roster n 0x0A ≤ s.now) :
    s.outHold n = (s.sendOutput n true).setReg Reg.NET_CNT_PD_STALE (s.reg Reg.NET_CNT_PD_STALE + 1) := by
  unfold State.outHold
  rw [hx]
  exact if_neg (Nat.not_lt.2 hd)

theorem outHoldExpiry_shows {n : Fin 1024} (hr : s.running = true) {x : Nat} (hx : (s.node n).first = some x)
    (hd : x + s.roster n 0x0A ≤ s.now) : ∃ t, exec (.outHoldExpiry n) s = .next t ∧ (t.node n).first = none ∧
      (t.node n).written = [] ∧ (t.node n).seq = ((s.node n).seq + 1) % 2 ^ 32 ∧
      t.reg Reg.NET_CNT_PD_STALE = s.reg Reg.NET_CNT_PD_STALE + 1 := by
  have hn := s.node_sendOutput n true
  have he := State.outHold_sends hx hd
  generalize s.sendOutput n true = v at hn he
  exact next_work_raw (exec_outHoldExpiry s n) hr he ⟨congrArg NetNode.first hn, congrArg NetNode.written hn, congrArg NetNode.seq hn,
    State.reg_setReg_same _ _ _⟩

end

/-- Settles O39: enabling and timing out write the roster; input and output change the node's exchange, which neither the receive map
nor the frame's way out touches. -/
theorem nodesExchangeProcessData : Obligations.NodesExchangeProcessData := by
  intro s n hr
  exact ⟨nodeEnable_sets hr, nodeEnable_refuses hr, nodeEnable_clears hr, nodeTimeout_shows hr,
    fun u p f hu => ⟨pdInputFrame_new hr hu, pdInputFrame_old hr hu, pdInputFrame_bad hr hu⟩, fun x hx hd => outHoldExpiry_shows hr hx hd⟩

end Sys2Proof.Machine
end

section
/-! PROOFS. Field segments: PLCA, the segments' events and time frames (R368 to R371). -/

namespace Sys2Proof.Machine

/-! ## Segments and frames sent -/

section
variable (s : State) (k : Nat)

@[simp] theorem State.seg_setSeg (x : Seg) : (s.setSeg k x).seg k = x := by
  unfold State.seg State.setSeg
  rw [OMap.find_put_same]
  rfl

theorem State.seg_of_segs {s t : State} (h : t.net.segs = s.net.segs) (k : Nat) : t.seg k = s.seg k :=
  congrArg (fun m : OMap Seg => (m.find k).getD Seg.idle) h

theorem State.seg_of_net {s t : State} (h : t.net = s.net) (k : Nat) : t.seg k = s.seg k := State.seg_of_segs (congrArg Net.segs h) k

theorem State.segs_transmit (p : Nat) (f : Bytes) : (s.transmit p f).net.segs = s.net.segs := rfl

theorem State.lastTx_transmit (p : Nat) (f : Bytes) : SMap.get (fun _ => []) (s.transmit p f).net.lastTx p = f := SMap.get_set_same _ _ _ _

theorem State.reg_transmit (p : Nat) (f : Bytes) (a : Nat) :
    (s.transmit p f).reg a = s.reg a + if a = Reg.NET_CNT_TX p then 1 else 0 := by
  have he : (s.transmit p f).reg a = (s.bump (Reg.NET_CNT_TX p)).reg a := rfl
  rw [he]
  split
  case isTrue h => rw [h, State.reg_bump_same]
  case isFalse h => rw [State.reg_bump_other _ h]; exact (BitVec.add_zero _).symm

/-- R369, R370: frames that leave by one port. -/
def State.sendAll (s : State) (p : Nat) (fs : List (Bool × Bytes)) : State := each fs (fun t f => t.transmit p f.2) s

theorem State.segs_sendAll (p : Nat) (fs : List (Bool × Bytes)) : (s.sendAll p fs).net.segs = s.net.segs :=
  each_inv (fun t : State => t.net.segs = s.net.segs) fs _ s rfl (fun t f _ ht => (t.segs_transmit p f.2).trans ht)

theorem State.reg_sendAll (p : Nat) (fs : List (Bool × Bytes)) :
    (s.sendAll p fs).reg (Reg.NET_CNT_TX p) = s.reg (Reg.NET_CNT_TX p) + BitVec.ofNat 64 fs.length := by
  unfold State.sendAll
  induction fs generalizing s with
  | nil => simp [each]
  | cons f fs ih =>
    have he : each (f :: fs) (fun t (f : Bool × Bytes) => t.transmit p f.2) s =
        each fs (fun t (f : Bool × Bytes) => t.transmit p f.2) (s.transmit p f.2) := rfl
    rw [he, ih, State.reg_transmit, if_pos rfl, List.length_cons, Nat.add_comm fs.length 1, BitVec.ofNat_add, BitVec.add_assoc]
    rfl

end

/-! ## What the commands do -/

section
variable (s : State) (k : Fin 4)

theorem exec_plcaBeacon : exec (.plcaBeacon k) s = done s (s.work (fun u => u.plcaBeacon k.val)) := (rfl)

theorem exec_plcaOpportunity : exec (.plcaOpportunity k) s = done s (s.work (fun u => u.plcaOpportunity k.val)) := (rfl)

theorem exec_plcaCollision : exec (.plcaCollision k) s = done s (s.work (fun u => u.collision k.val)) := (rfl)

theorem exec_outOfSlot : exec (.outOfSlot k) s =
    done s (s.work (fun u => u.segEvent k.val 1 (Reg.T1S_CNT_OUT_OF_SLOT k.val) 0)) := (rfl)

theorem exec_beaconConflict : exec (.beaconConflict k) s =
    done s (s.work (fun u => u.segEvent k.val 2 (Reg.T1S_CNT_BEACON_CONFLICT k.val) 3)) := (rfl)

theorem exec_segmentNoise : exec (.segmentNoise k) s = done s (s.work (fun u => u.segNoise k.val)) := (rfl)

theorem exec_fcsError : exec (.fcsError k) s = done s (s.work (fun u => u.segEvent k.val 0 (Reg.T1S_CNT_FCS k.val) 0)) := (rfl)

theorem exec_rxJabber : exec (.rxJabber k) s = done s (s.work (fun u => u.segEvent k.val 8 (Reg.T1S_CNT_JABBER k.val) 0)) := (rfl)

theorem exec_txJabberCut : exec (.txJabberCut k) s = done s (s.work (fun u => u.jabberCut k.val)) := (rfl)

theorem exec_tsyncFrame : exec (.tsyncFrame k) s = done s (s.work (fun u => u.tsync k.val)) := (rfl)

theorem exec_txReenable : exec (.txReenable k) s = done s (s.work (fun u => u.txOn k.val)) := (rfl)

end

/-! ## PLCA (R368, R369) -/

section
variable {s : State} {k : Fin 4}

/-- Bits 0 and 1 of T1S_STATE show a beacon and PLCA active, whatever it counts above them. -/
theorem testBit_beacon (n : Nat) : (BitVec.ofNat 64 (3 + n * 256)).toNat.testBit 0 = true ∧
    (BitVec.ofNat 64 (3 + n * 256)).toNat.testBit 1 = true := by
  have h : (BitVec.ofNat 64 (3 + n * 256)).toNat % 4 = 3 := by
    rw [BitVec.toNat_ofNat]
    omega
  exact ⟨(testBit_mod_four (by decide)).symm.trans (by rw [h]; decide), (testBit_mod_four (by decide)).symm.trans (by rw [h]; decide)⟩

theorem plcaBeacon_shows (hr : s.running = true) (hon : s.plcaOn k = true) : ∃ t, exec (.plcaBeacon k) s = .next t ∧
    t.bit (Reg.T1S_STATE k) 0 = true ∧ t.bit (Reg.T1S_STATE k) 1 = true ∧ (t.seg k).beaconMs = s.now / 1000000 := by
  obtain ⟨n, x, hx, he⟩ : ∃ n x, x.beaconMs = s.now / 1000000 ∧
      s.plcaBeacon k = (s.setSeg k x).setReg (Reg.T1S_STATE k) (BitVec.ofNat 64 (3 + n * 256)) := by
    unfold State.plcaBeacon
    rw [hon]
    exact ⟨_, _, rfl, rfl⟩
  obtain ⟨t, ht, hregs, hnet, -⟩ := next_work_shows (exec_plcaBeacon s k) hr he
  have hreg : t.reg (Reg.T1S_STATE k) = BitVec.ofNat 64 (3 + n * 256) := (State.reg_of_regs hregs _).trans (State.reg_setReg_same _ _ _)
  refine ⟨t, ht, ?_, ?_, ?_⟩
  · exact (congrArg (fun w : Word => w.toNat.testBit 0) hreg).trans (testBit_beacon n).1
  · exact (congrArg (fun w : Word => w.toNat.testBit 1) hreg).trans (testBit_beacon n).2
  · rw [State.seg_of_net hnet, State.seg_of_net (t := (s.setSeg k x).setReg _ _) (s := s.setSeg k x) rfl, State.seg_setSeg, hx]

theorem plcaOpportunity_shows {order : List (Bool × Bytes)} {n : Nat} (hr : s.running = true) (hon : s.plcaOn k = true)
    (ho : (s.seg k).ready.filter (·.1) ++ (s.seg k).ready.filter (fun f => !f.1) = order) (hn : 1 + s.segCfg k 5 = n) :
    ∃ t, exec (.plcaOpportunity k) s = .next t ∧ (t.seg k).ready = order.drop n ∧
      t.reg (Reg.NET_CNT_TX (9 + k)) = s.reg (Reg.NET_CNT_TX (9 + k)) + BitVec.ofNat 64 (order.take n).length ∧
      t.reg (Reg.T1S_CNT_DEFER k) = s.reg (Reg.T1S_CNT_DEFER k) + BitVec.ofNat 64 ((order.drop n).filter (·.1)).length := by
  have he : s.plcaOpportunity k = ((s.setSeg k { s.seg k with ready := order.drop n }).sendAll (9 + k) (order.take n)).setReg
      (Reg.T1S_CNT_DEFER k) (s.reg (Reg.T1S_CNT_DEFER k) + BitVec.ofNat 64 ((order.drop n).filter (·.1)).length) := by
    unfold State.plcaOpportunity
    rw [hon, ← ho, ← hn]
    rfl
  obtain ⟨t, ht, hregs, hnet, -⟩ := next_work_shows (exec_plcaOpportunity s k) hr he
  refine ⟨t, ht, ?_, ?_, ?_⟩
  · rw [State.seg_of_net hnet, State.seg_of_segs ((State.setReg_net _ _ _).symm ▸ State.segs_sendAll _ _ _), State.seg_setSeg]
  · rw [State.reg_of_regs hregs, State.reg_setReg_other _ _ (by unfold Reg.NET_CNT_TX Reg.T1S_CNT_DEFER; omega), State.reg_sendAll]
    rfl
  · rw [State.reg_of_regs hregs, State.reg_setReg_same]

/-! ## Events of a segment (R370) -/

/-- R370: what an event of a running segment leaves. -/
theorem segEvent_shows {c : Instr} {f : State → State} {u : State} {flags cnt event : Nat} (he : exec c s = done s (s.work f))
    (hr : s.running = true) (hf : f s = u.segEvent k flags cnt event) (hon : u.segOn k = true) (hne : cnt ≠ Reg.T1S_FLAGS k) :
    ∃ t, exec c s = .next t ∧ t.reg cnt = u.reg cnt + 1 ∧ t.net = u.net ∧
      ∀ j, j < 64 → flags.testBit j = true → t.bit (Reg.T1S_FLAGS k) j = true := by
  obtain ⟨v, hv, he'⟩ : ∃ v : State, v.net = u.net ∧ u.segEvent k flags cnt event =
      (v.setReg cnt (u.reg cnt + 1)).orReg (Reg.T1S_FLAGS k) flags := by
    unfold State.segEvent
    rw [hon]
    refine ⟨_, ?_, rfl⟩
    split
    · rfl
    · exact units_field (·.net) (fun _ => rfl) (u.units_record _ _ _ _ _ _ _)
  obtain ⟨t, ht, hregs, hnet, -⟩ := next_work_shows he hr (hf.trans he')
  refine ⟨t, ht, ?_, hnet.trans hv, fun j hj hf => ?_⟩
  · rw [State.reg_of_regs hregs, State.reg_orReg_other _ _ hne, State.reg_setReg_same]
  · rw [State.bit_ofReg (State.reg_of_regs hregs _), State.bit_orReg_same _ _ _ _ hj, hf, Bool.or_true]

theorem plcaCollision_shows (hr : s.running = true) (hon : s.segOn k = true) : ∃ t, exec (.plcaCollision k) s = .next t ∧
    t.reg (Reg.T1S_CNT_COLLISION k) = s.reg (Reg.T1S_CNT_COLLISION k) + 1 ∧
    (s.segCfg k 2 ≠ 0 → t.bit (Reg.T1S_FLAGS k) 0 = true ∧
      ∀ f, SMap.get (fun _ => []) s.net.lastTx (9 + k) = f → f ≠ [] → (t.seg k).ready = (frType f == 0x88B5, f) :: (s.seg k).ready) := by
  obtain ⟨v, he, hv⟩ : ∃ v : State, s.collision k = v.setReg (Reg.T1S_CNT_COLLISION k) (s.reg (Reg.T1S_CNT_COLLISION k) + 1) ∧
      (s.segCfg k 2 ≠ 0 → v.bit (Reg.T1S_FLAGS k) 0 = true ∧
        ∀ f, SMap.get (fun _ => []) s.net.lastTx (9 + k) = f → f ≠ [] → (v.seg k).ready = (frType f == 0x88B5, f) :: (s.seg k).ready) := by
    unfold State.collision
    rw [hon]
    refine ⟨_, rfl, fun h2 => ⟨?_, fun f hf hne => ?_⟩⟩
    · rw [if_pos h2, State.bit_orReg_same _ _ _ _ (by decide)]
      simp
    · rw [if_pos h2, hf, if_neg hne]
      exact congrArg Seg.ready (s.seg_setSeg _ _)
  obtain ⟨t, ht, hregs, hnet, -⟩ := next_work_shows (exec_plcaCollision s k) hr he
  refine ⟨t, ht, ?_, fun h2 => ?_⟩
  · rw [State.reg_of_regs hregs, State.reg_setReg_same]
  · obtain ⟨hbit, hready⟩ := hv h2
    refine ⟨?_, fun f hf hne => ?_⟩
    · rw [State.bit_ofReg (State.reg_of_regs hregs _),
        State.bit_ofReg (State.reg_setReg_other _ _ (by unfold Reg.T1S_FLAGS Reg.T1S_CNT_COLLISION; omega))]
      exact hbit
    · rw [State.seg_of_net hnet]
      exact hready f hf hne

theorem segmentNoise_shows {n : Nat} (hr : s.running = true) (hon : s.segOn k = true)
    (hn : (if (s.seg k).noiseMs = s.now / 1000000 then (s.seg k).noise + 1 else 1) = n) :
    ∃ t, exec (.segmentNoise k) s = .next t ∧ t.reg (Reg.T1S_CNT_NOISE k) = s.reg (Reg.T1S_CNT_NOISE k) + 1 ∧ (t.seg k).noise = n ∧
      (n = s.noiseLimit k + 1 → t.bit (Reg.T1S_FLAGS k) 2 = true) := by
  have he : s.segNoise k = (s.setSeg k { s.seg k with noiseMs := s.now / 1000000, noise := n }).segEvent k
      (if n == s.noiseLimit k + 1 then 4 else 0) (Reg.T1S_CNT_NOISE k) (if n == s.noiseLimit k + 1 then 4 else 0) := by
    unfold State.segNoise
    rw [hon, ← hn]
    rfl
  obtain ⟨t, ht, hcnt, hnet, hflag⟩ := segEvent_shows (exec_segmentNoise s k) hr he hon
    (by unfold Reg.T1S_CNT_NOISE Reg.T1S_FLAGS; omega)
  refine ⟨t, ht, hcnt, ?_, fun hlim => hflag 2 (by decide) ?_⟩
  · rw [State.seg_of_net hnet, State.seg_setSeg]
  · rw [hlim, beq_self_eq_true, if_pos rfl]
    rfl

theorem txJabberCut_shows (hr : s.running = true) (hon : s.segOn k = true) : ∃ t, exec (.txJabberCut k) s = .next t ∧
    t.reg (Reg.T1S_CNT_JABBER k) = s.reg (Reg.T1S_CNT_JABBER k) + 1 ∧ (t.seg k).off = some s.now := by
  have he : s.jabberCut k = (s.setSeg k { s.seg k with off := some s.now }).segEvent k 0 (Reg.T1S_CNT_JABBER k) 5 := by
    unfold State.jabberCut
    rw [hon]
    rfl
  obtain ⟨t, ht, hcnt, hnet, -⟩ := segEvent_shows (exec_txJabberCut s k) hr he hon (by unfold Reg.T1S_CNT_JABBER Reg.T1S_FLAGS; omega)
  refine ⟨t, ht, hcnt, ?_⟩
  rw [State.seg_of_net hnet, State.seg_setSeg]

/-! ## Time frames, and the transmitter on again (R370, R371) -/

theorem tsyncFrame_shows (hr : s.running = true) (hon : s.segOn k = true) (h9 : s.segCfg k 9 ≠ 0) (hoff : (s.seg k).off = none)
    (hd : s.syncDue k = true) : ∃ t, exec (.tsyncFrame k) s = .next t ∧ (t.seg k).tsync = ((s.seg k).tsync + 1) % 2 ^ 32 ∧
      (t.seg k).synced = some s.now ∧ SMap.get (fun _ => []) t.net.lastTx (9 + k) = s.timeFrame k ∧
      t.reg (Reg.NET_CNT_TX (9 + k)) = s.reg (Reg.NET_CNT_TX (9 + k)) + 1 := by
  have he : s.tsync k = (s.setSeg k { s.seg k with tsync := ((s.seg k).tsync + 1) % 2 ^ 32, synced := some s.now }).transmit (9 + k)
      (s.timeFrame k) := by
    unfold State.tsync
    rw [if_neg (by simp [hon, h9, hoff, hd])]
  obtain ⟨t, ht, hregs, hnet, -⟩ := next_work_shows (exec_tsyncFrame s k) hr he
  have hseg := (State.seg_of_net hnet k).trans ((State.seg_of_segs (State.segs_transmit _ _ _) k).trans (s.seg_setSeg k _))
  refine ⟨t, ht, congrArg Seg.tsync hseg, congrArg Seg.synced hseg, ?_, ?_⟩
  · rw [hnet, State.lastTx_transmit]
  · rw [State.reg_of_regs hregs, State.reg_transmit, if_pos rfl]
    rfl

theorem txReenable_shows (hr : s.running = true) {x : Nat} (hx : (s.seg k).off = some x) (hd : x + 1000000 ≤ s.now) :
    ∃ t, exec (.txReenable k) s = .next t ∧ (t.seg k).off = none ∧ (s.segCfg k 2 ≠ 0 → (t.seg k).ready = (s.seg k).ready) ∧
      (s.segCfg k 2 = 0 → (t.seg k).ready = [] ∧
        t.reg (Reg.NET_CNT_TX (9 + k)) = s.reg (Reg.NET_CNT_TX (9 + k)) + BitVec.ofNat 64 (s.seg k).ready.length) := by
  by_cases h2 : s.segCfg k 2 = 0
  · have he : s.txOn k = (s.setSeg k { s.seg k with off := none, ready := [] }).sendAll (9 + k) (s.seg k).ready := by
      unfold State.txOn
      simp only [hx, if_neg (Nat.not_lt.2 hd), if_pos h2]
      rfl
    obtain ⟨t, ht, hregs, hnet, -⟩ := next_work_shows (exec_txReenable s k) hr he
    have hseg := (State.seg_of_net hnet k).trans ((State.seg_of_segs (State.segs_sendAll _ _ _) k).trans (s.seg_setSeg k _))
    refine ⟨t, ht, congrArg Seg.off hseg, fun h => absurd h2 h, fun _ => ⟨congrArg Seg.ready hseg, ?_⟩⟩
    rw [State.reg_of_regs hregs, State.reg_sendAll]
    rfl
  · have he : s.txOn k = s.setSeg k { s.seg k with off := none } := by
      unfold State.txOn
      simp only [hx, if_neg (Nat.not_lt.2 hd), if_neg h2]
    obtain ⟨t, ht, -, hnet, -⟩ := next_work_shows (exec_txReenable s k) hr he
    have hseg := (State.seg_of_net hnet k).trans (s.seg_setSeg k _)
    have hready := congrArg Seg.ready hseg
    exact ⟨t, ht, congrArg Seg.off hseg, fun _ => hready, fun h => absurd h h2⟩

end

/-- Settles O38: each event of a segment is its counter, its flags and the segment's own record of it. -/
theorem fieldSegmentsRunPlca : Obligations.FieldSegmentsRunPlca := by
  intro s k hr
  refine ⟨plcaBeacon_shows hr, fun hon => plcaOpportunity_shows hr hon rfl rfl, fun hon => ⟨plcaCollision_shows hr hon, ?_, ?_,
    segmentNoise_shows hr hon rfl, ?_, ?_, txJabberCut_shows hr hon, tsyncFrame_shows hr hon⟩, fun x hx hd => txReenable_shows hr hx hd⟩
  · obtain ⟨t, ht, hcnt, -, hflag⟩ := segEvent_shows (exec_outOfSlot s k) hr rfl hon (by unfold Reg.T1S_CNT_OUT_OF_SLOT Reg.T1S_FLAGS; omega)
    exact ⟨t, ht, hcnt, hflag 0 (by decide) rfl⟩
  · obtain ⟨t, ht, hcnt, -, hflag⟩ := segEvent_shows (exec_beaconConflict s k) hr rfl hon
      (by unfold Reg.T1S_CNT_BEACON_CONFLICT Reg.T1S_FLAGS; omega)
    exact ⟨t, ht, hcnt, hflag 1 (by decide) rfl⟩
  · obtain ⟨t, ht, hcnt, -, -⟩ := segEvent_shows (exec_fcsError s k) hr rfl hon (by unfold Reg.T1S_CNT_FCS Reg.T1S_FLAGS; omega)
    exact ⟨t, ht, hcnt⟩
  · obtain ⟨t, ht, hcnt, -, hflag⟩ := segEvent_shows (exec_rxJabber s k) hr rfl hon (by unfold Reg.T1S_CNT_JABBER Reg.T1S_FLAGS; omega)
    exact ⟨t, ht, hcnt, hflag 3 (by decide) rfl⟩

end Sys2Proof.Machine
end

section
/-! PROOFS. What the end of a request does to the planner (R228, R230, R341, R355): it may give up plans and an update of other requests,
and leaves the models and the newest epoch. -/

namespace Sys2Proof.Machine

/-! ## What the engines give up -/

theorem State.pcu_ite {c : Prop} [Decidable c] {b : Pcu} {t u : State} (ht : t.pcu = b) (hu : u.pcu = b) :
    (if c then t else u).pcu = b := by
  split
  · exact ht
  · exact hu

section
variable (s : State)

theorem State.pcu_each {α : Type} (xs : List α) (f : State → α → State) (hf : ∀ t x, (f t x).pcu = t.pcu) :
    (each xs f s).pcu = s.pcu :=
  each_inv (fun t => t.pcu = s.pcu) xs f s rfl (fun t x _ ht => (hf t x).trans ht)

@[simp] theorem State.pcu_setPage (n : Nat) (p : Page) : (s.setPage n p).pcu = s.pcu := (rfl)
@[simp] theorem State.pcu_putReq (r : Nat) (q : Request) : (s.putReq r q).pcu = s.pcu := (rfl)
@[simp] theorem State.pcu_ghavoc (g off n : Nat) : (s.ghavoc g off n).pcu = s.pcu := (rfl)
@[simp] theorem State.pcu_setGnt (g : Nat) (x : Gnt) : (s.setGnt g x).pcu = s.pcu := (rfl)
@[simp] theorem State.pcu_setBank (g : Nat) (b : Option Bank) : (s.setBank g b).pcu = s.pcu := State.setFld_pcu _ _ _ _ _
@[simp] theorem State.pcu_showGnt (g : Nat) : (s.showGnt g).pcu = s.pcu := State.setFld_pcu _ _ _ _ _
@[simp] theorem State.pcu_attUnqueue (r : Nat) : (s.attUnqueue r).pcu = s.pcu := (rfl)
@[simp] theorem State.pcu_givePages (p : Nat) (ps : List Nat) : (s.givePages p ps).pcu = s.pcu := (rfl)
@[simp] theorem State.pcu_gusIdle (u : Nat) : (s.gusIdle u).pcu = s.pcu := (rfl)
@[simp] theorem State.pcu_showPcu : s.showPcu.pcu = s.pcu := State.setRegN_pcu _ _ _
@[simp] theorem State.pcu_setUmrJob (r : Nat) (j : Option UmrJob) : (s.setUmrJob r j).pcu = s.pcu := State.setFld_pcu _ _ _ _ _
@[simp] theorem State.pcu_giveFrame (code : Nat) : (s.giveFrame code).pcu = s.pcu := State.units_pcu (s.units_giveFrame code)
@[simp] theorem State.pcu_havocOut (c a n : Nat) : (s.havocOut c a n).pcu = s.pcu := State.units_pcu (s.units_havocOut c a n)
@[simp] theorem State.pcu_hold (a n : Nat) (up : Bool) : (s.hold a n up).pcu = s.pcu := State.units_pcu (s.units_hold a n up)

@[simp] theorem State.pcu_record (sev cls status block : Nat) (ctx : Option Nat) (u d : Nat) :
    (s.record sev cls status block ctx u d).pcu = s.pcu := State.units_pcu (s.units_record ..)

@[simp] theorem State.pcu_finishReq (r : Nat) (q : Request) (st d ok : Nat) (res : Bool) :
    (s.finishReq r q st d ok res).pcu = s.pcu := State.units_pcu (s.units_finishReq ..)

@[simp] theorem State.pcu_dropChunk (r p : Nat) : (s.dropChunk r p).pcu = s.pcu :=
  s.pcu_each _ _ (fun _ _ => State.pcu_ite rfl (State.pcu_ite rfl rfl))

@[simp] theorem State.pcu_releasePart (r p : Nat) (x : Part) (discard keepBank : Bool) :
    (s.releasePart r p x discard keepBank).pcu = s.pcu := by
  unfold State.releasePart
  extract_lets s1 s2
  have h1 : s1.pcu = s.pcu := s.pcu_each _ _ (fun t j => State.pcu_ite (by simp) (by simp))
  have h2 : s2.pcu = s.pcu := State.pcu_ite (by simp [h1]) h1
  split
  · exact h2
  · exact (State.pcu_showGnt _ _).trans (State.pcu_ite (by simp [h2]) (by simp [h2]))

@[simp] theorem State.pcu_havocBank (g : Nat) (d : Bytes) : (s.havocBank g d).pcu = s.pcu := by
  unfold State.havocBank
  split
  · rfl
  · exact State.pcu_ite rfl rfl

@[simp] theorem State.pcu_havocCommand (q : Request) (unit : Option Nat) (a op : Nat) : (s.havocCommand q unit a op).pcu = s.pcu := by
  unfold State.havocCommand
  dsimp only
  split
  · split
    · exact State.pcu_ite (by simp) rfl
    · exact State.pcu_ite (by simp) rfl
    · rfl
  split
  · rfl
  next g =>
  have h : (each (tileWrites (s.peek a 128)) (fun u w => if u.inWindow q.ctx w.1 w.2 then u.ghavoc g w.1 w.2 else u) s).pcu = s.pcu :=
    s.pcu_each _ _ (fun t w => State.pcu_ite rfl rfl)
  exact State.pcu_ite (by simp [h]) h

@[simp] theorem State.pcu_havocPart (q : Request) (x : Part) (keep : Option Nat) : (s.havocPart q x keep).pcu = s.pcu := by
  unfold State.havocPart
  split
  · rfl
  · exact s.pcu_each _ _ (fun t e => State.pcu_ite rfl (by simp))

@[simp] theorem State.pcu_havocOuts (q : Request) (outs : List (Nat × Nat)) : (s.havocOuts q outs).pcu = s.pcu :=
  s.pcu_each _ _ (fun t x => State.pcu_ite rfl (by simp))

@[simp] theorem State.pcu_havocNamed (q : Request) : (s.havocNamed q).pcu = s.pcu :=
  State.pcu_ite (s.pcu_each _ _ (fun t x => by simp)) (s.pcu_havocOuts q _)

@[simp] theorem State.pcu_discardContext (c : Nat) : (s.discardContext c).pcu = s.pcu := by
  unfold State.discardContext
  extract_lets s1
  refine s1.pcu_each _ _ (fun t e => ?_)
  split
  · exact State.pcu_ite rfl rfl
  · rfl

@[simp] theorem State.pcu_releaseUmr (r : Nat) : (s.releaseUmr r).pcu = s.pcu := by
  unfold State.releaseUmr
  split
  · rfl
  refine (State.pcu_setUmrJob _ _ _).trans (State.pcu_ite (s.pcu_each _ _ (fun t n => ?_)) rfl)
  split <;> simp

@[simp] theorem State.pcu_havocAppends (c : Nat) (x : AttCall) : (s.havocAppends c x).pcu = s.pcu := by
  refine State.pcu_ite rfl (s.pcu_each _ _ (fun t e => ?_))
  split
  · rfl
  · exact State.pcu_ite rfl (t.pcu_each _ _ (fun u o => by simp))

@[simp] theorem State.pcu_dropAtt (p : Nat) : (s.dropAtt p).pcu = s.pcu := by
  unfold State.dropAtt
  split
  · rfl
  next x _ =>
  extract_lets s0 s1
  have h0 : s0.pcu = s.pcu := by
    unfold s0
    split <;> simp
  exact (s0.pcu_each (x.seqs.zip x.pages) (fun t e => t.givePages (e.1 % 4) e.2) (fun t e => by simp)).trans h0

@[simp] theorem State.pcu_releaseAtt (r : Nat) : (s.releaseAtt r).pcu = s.pcu := by
  unfold State.releaseAtt
  dsimp only
  split <;> simp

@[simp] theorem State.pcu_releaseCrop (r : Nat) : (s.releaseCrop r).pcu = s.pcu := by
  unfold State.releaseCrop
  split
  · rfl
  · exact State.pcu_ite rfl rfl

@[simp] theorem State.pcu_freeLaunch (r : Nat) (l : Launch) : (s.freeLaunch r l).pcu = s.pcu := by
  unfold State.freeLaunch
  extract_lets s1 s2 s3
  have h1 : s1.pcu = s.pcu := s.pcu_each _ _ (fun t e => State.pcu_ite (t.pcu_each _ _ (fun u y => by split <;> simp)) rfl)
  have h3 : s3.pcu = s.pcu := (s2.pcu_each _ _ (fun t m => by simp)).trans h1
  refine State.pcu_ite ((State.pcu_each _ _ _ (fun t m => by simp)).trans ?_) h3
  exact (s3.pcu_each _ _ (fun t p => by simp)).trans h3

@[simp] theorem State.pcu_releaseLaunch (r : Nat) : (s.releaseLaunch r).pcu = s.pcu := by
  unfold State.releaseLaunch
  split
  · rfl
  next l _ =>
  refine (State.pcu_each _ l.palms _ (fun t p => ?_)).trans (s.pcu_freeLaunch r l)
  rfl

@[simp] theorem State.pcu_gusSpent (u : Nat) : (s.gusSpent u).pcu = s.pcu := by
  unfold State.gusSpent
  split
  · rfl
  · exact State.pcu_ite (by simp) (State.pcu_ite (by simp) (by simp))

@[simp] theorem State.pcu_releaseGus (q : Request) : (s.releaseGus q).pcu = s.pcu :=
  s.pcu_each _ _ (fun t _ => (State.pcu_gusIdle _ _).trans (t.pcu_gusSpent _))

end

/-! ## Plans and updates only end -/

/-- From `s` to `t` plans may end and the update may be given up; the models and the newest epoch stay. -/
structure PcuLoses (s t : State) : Prop where
  models : t.pcu.models = s.pcu.models
  newest : t.pcu.newest = s.pcu.newest
  update : s.pcu.update = none → t.pcu.update = none
  held : ∀ k, s.pcu.held.find k = none → t.pcu.held.find k = none
  epoch : ∀ ep, s.pcu.epochs.find s.pcu.newest = some ep → t.pcu.epochs.find s.pcu.newest = some ep

section
variable {s t u : State}

theorem PcuLoses.refl (s : State) : PcuLoses s s := ⟨rfl, rfl, id, fun _ => id, fun _ => id⟩

theorem PcuLoses.trans (h : PcuLoses s t) (k : PcuLoses t u) : PcuLoses s u :=
  ⟨k.models.trans h.models, k.newest.trans h.newest, fun e => k.update (h.update e), fun j e => k.held j (h.held j e), fun ep e => by
    have he := h.epoch ep e
    rw [← h.newest] at he ⊢
    exact k.epoch ep he⟩

theorem PcuLoses.of_pcu (h : t.pcu = s.pcu) : PcuLoses s t := by
  refine ⟨?_, ?_, ?_, ?_, ?_⟩ <;> rw [h]
  · exact id
  · exact fun _ => id
  · exact fun _ => id

theorem PcuLoses.ite {c : Prop} [Decidable c] (ht : PcuLoses s t) (hu : PcuLoses s u) : PcuLoses s (if c then t else u) := by
  split
  · exact ht
  · exact hu

theorem PcuLoses.each {α : Type} (s : State) (xs : List α) (f : State → α → State) (hf : ∀ (t : State) x, PcuLoses t (f t x)) :
    PcuLoses s (each xs f s) :=
  each_inv (fun t => PcuLoses s t) xs f s (PcuLoses.refl s) (fun t x _ h => h.trans (hf t x))

end

/-- Entries that a filter keeps are still found. -/
theorem OMap.find_kept {α : Type} {m : OMap α} {p : Nat × α → Bool} {k : Nat} {v : α} (hp : ∀ w, p (k, w) = true)
    (h : OMap.find m k = some v) : OMap.find (((OMap.entries m).filter p).map (fun e => (e.1, some e.2))) k = some v := by
  induction m with
  | nil => exact absurd h (by simp [OMap.find, SMap.get])
  | cons e m ih =>
    obtain ⟨j, w⟩ := e
    by_cases hj : j = k
    · have hw : w = some v := by simpa [OMap.find, SMap.get, hj] using h
      rw [hj, hw]
      simp [OMap.entries, hp, OMap.find, SMap.get]
    · have hm : OMap.find m k = some v := by simpa [OMap.find, SMap.get, hj] using h
      have ih := ih hm
      cases w with
      | none => simpa [OMap.entries] using ih
      | some x =>
        by_cases hx : p (j, x) = true
        · simpa [OMap.entries, hx, OMap.find, SMap.get, hj] using ih
        · simpa [OMap.entries, hx] using ih

section
variable (s : State)

/-- R341: the epochs that are live, of which the newest is one. -/
def State.liveEpochs (s : State) : OMap PEpoch :=
  ((OMap.entries s.pcu.epochs).filter (fun e => e.1 == s.pcu.newest || s.pcu.held.entries.any (fun h => h.2.snap == e.1))).map
    (fun e => (e.1, some e.2))

/-- R341: trimming the epochs leaves the live ones and changes nothing else of the planner. -/
theorem State.pcu_trimEpochs : s.trimEpochs.pcu = { s.pcu with epochs := s.liveEpochs } := by
  unfold State.trimEpochs
  extract_lets live p1 s1
  have h1 : s1.pcu = { s.pcu with epochs := s.liveEpochs } := rfl
  split
  · exact h1
  · dsimp only
    rw [State.setRegN_pcu, State.setRegN_pcu, h1]

theorem State.newest_live {ep : PEpoch} (h : s.pcu.epochs.find s.pcu.newest = some ep) :
    OMap.find s.liveEpochs s.pcu.newest = some ep := OMap.find_kept (fun w => by simp) h

theorem State.pcuLoses_trimEpochs : PcuLoses s s.trimEpochs := by
  refine ⟨?_, ?_, ?_, ?_, fun ep h => ?_⟩ <;> rw [State.pcu_trimEpochs]
  · exact id
  · exact fun _ => id
  · exact s.newest_live h

/-- R355: a plan given up is held no longer. -/
theorem State.pcuLoses_dropPlan (r : Nat) : PcuLoses s (s.dropPlan r) ∧ (s.dropPlan r).pcu.held.find r = none := by
  unfold State.dropPlan
  extract_lets turn p1 s1
  have hdrop : s1.pcu.held.find r = none := OMap.find_drop_same _ _
  have h1 : PcuLoses s s1 := by
    refine ⟨rfl, rfl, id, fun k h => ?_, fun _ => id⟩
    by_cases hk : k = r
    · rw [hk]
      exact hdrop
    · exact (OMap.find_drop_other _ hk).trans h
  have h2 := s1.pcuLoses_trimEpochs.trans (PcuLoses.of_pcu (State.pcu_showPcu _))
  exact ⟨h1.trans h2, h2.held r hdrop⟩

theorem State.pcuLoses_releasePcu (r : Nat) : PcuLoses s (s.releasePcu r) := by
  unfold State.releasePcu
  extract_lets p1 s1 p2 s2
  have h1 : PcuLoses s s1 := by
    unfold s1
    split
    · exact PcuLoses.refl s
    dsimp only
    split
    · exact PcuLoses.ite ⟨rfl, rfl, id, fun _ => id, fun _ => id⟩ (PcuLoses.refl s)
    · exact PcuLoses.refl s
  have h2 : PcuLoses s1 s2 := by
    unfold s2
    split
    · exact PcuLoses.ite ⟨rfl, rfl, fun _ => rfl, fun _ => id, fun _ => id⟩ (PcuLoses.refl s1)
    · exact PcuLoses.refl s1
  exact (h1.trans h2).trans (s2.pcuLoses_dropPlan r).1

/-- What any engine gives up for a request that stops. -/
theorem State.pcuLoses_releaseReq (r : Nat) (q : Request) : PcuLoses s (s.releaseReq r q) := by
  unfold State.releaseReq
  extract_lets s1
  have h1 : PcuLoses s s1 := PcuLoses.of_pcu (State.pcu_havocNamed _ _)
  have keeps : ∀ {t : State}, t.pcu = s1.pcu → PcuLoses s t := fun e => h1.trans (PcuLoses.of_pcu e)
  exact PcuLoses.ite (keeps (by simp)) <| PcuLoses.ite (keeps (by simp)) <| PcuLoses.ite (keeps (by simp)) <|
    PcuLoses.ite (keeps (by simp)) <| PcuLoses.ite (keeps (by simp)) <| PcuLoses.ite (keeps (by simp)) <|
    PcuLoses.ite (h1.trans (s1.pcuLoses_releasePcu r)) <| PcuLoses.ite (keeps (by simp)) h1

theorem State.pcu_stopParts (r st : Nat) (skip : Option Nat) : (s.stopParts r st skip).pcu = s.pcu := by
  unfold State.stopParts
  split
  · rfl
  refine (State.pcu_each _ _ _ (fun t i => ?_)).trans (s.pcu_putReq _ _)
  split
  · rfl
  split
  · rfl
  exact State.pcu_ite rfl (by simp)

/-- R204: a request that ends, with unspecified outputs where it is cancelled. -/
theorem State.pcu_cancelled (c r : Nat) (q : Request) (st d ok : Nat) (res : Bool) :
    ((if c = 7 then s.havocNamed q else s).finishReq r q st d ok res).pcu = s.pcu :=
  (State.pcu_finishReq _ _ _ _ _ _ _).trans (State.pcu_ite (by simp) rfl)

theorem State.pcu_finishParts (r : Nat) : (s.finishParts r).pcu = s.pcu := by
  unfold State.finishParts
  split
  · rfl
  · exact State.pcu_ite (s.pcu_cancelled _ _ _ _ _ _ _) rfl

theorem State.pcuLoses_stopRunning (r st : Nat) : PcuLoses s (s.stopRunning r st) := by
  unfold State.stopRunning
  split
  · exact PcuLoses.refl s
  refine PcuLoses.ite (PcuLoses.of_pcu ((State.pcu_finishParts _ _).trans (s.pcu_stopParts _ _ _)))
    (PcuLoses.ite (PcuLoses.of_pcu (s.pcu_putReq _ _)) ?_)
  exact (s.pcuLoses_releaseReq _ _).trans (PcuLoses.of_pcu (State.pcu_finishReq _ _ _ _ _ _ _))

/-- R228: a teardown may stop the plans of its context. -/
theorem State.pcuLoses_teardown (c st : Nat) (keep : Option Nat) : PcuLoses s (s.teardown c st keep) := by
  unfold State.teardown
  refine PcuLoses.ite (PcuLoses.refl s) ?_
  extract_lets s1 s2 s3
  have h3 : s3.pcu = s.pcu := by simp [s3, s2, s1]
  refine (PcuLoses.of_pcu h3).trans (PcuLoses.each _ _ _ (fun t e => ?_))
  split
  · exact PcuLoses.refl t
  split
  · exact PcuLoses.of_pcu (t.pcu_cancelled _ _ _ _ _ _ _)
  · exact t.pcuLoses_stopRunning _ _

theorem State.pcu_settle (n : Nat) : (State.settle n s).pcu = s.pcu := by
  induction n generalizing s with
  | zero => rfl
  | succ n ih =>
    unfold State.settle
    split
    · rfl
    · exact (ih _).trans (State.pcu_cancelled _ _ _ _ _ _ _ _)

theorem State.pcuLoses_settled : PcuLoses s s.settled := by
  unfold State.settled
  extract_lets s1 s2 s3
  have h1 : PcuLoses s s1 := PcuLoses.of_pcu (s.pcu_settle _)
  have h2 : PcuLoses s1 s2 := PcuLoses.each s1 _ _ (fun t c => t.pcuLoses_teardown c 8 none)
  have h3 : s3.pcu = s2.pcu := s2.pcu_settle _
  exact PcuLoses.ite h1 ((h1.trans h2).trans (PcuLoses.of_pcu h3))

/-- R203, R228: the end of a request loads no model, commits no epoch and begins no plan. -/
theorem State.pcuLoses_endReq (r st d : Nat) (res : Bool) : PcuLoses s (s.endReq r st d res) := by
  unfold State.endReq
  split
  · exact PcuLoses.refl s
  next q _ =>
  extract_lets s1 s2
  have h1 : PcuLoses s s1 := PcuLoses.of_pcu (s.pcu_finishReq ..)
  have h2 : PcuLoses s s2 := PcuLoses.ite (h1.trans (s1.pcuLoses_teardown _ _ _)) h1
  exact h2.trans s2.pcuLoses_settled

end

/-- R203: what a unit writes to the unified range changes nothing of the planner. -/
theorem State.pcu_engineWrite (s : State) (r : Nat) (q : Request) (loc a : Nat) (bs : Bytes) :
    (State.engineWrite (s, 0) r q loc a bs).1.pcu = s.pcu := by
  unfold State.engineWrite
  split
  · rfl
  · exact (State.units_pcu (State.units_accessWrite _ _ _ _ _ _)).trans (s.pcu_each _ _ (fun t x => State.pcu_ite rfl rfl))

end Sys2Proof.Machine
end

section
/-! PROOFS. Models, map updates and epochs (R336 to R340). -/

namespace Sys2Proof.Machine

section
variable {s u : State} {c : Instr} {f : State → State}

/-- The registers, the requests and the planner that the step leaves. -/
theorem next_work_pcu (he : exec c s = done s (s.work f)) (hr : s.running = true) (hf : f s = u) :
    ∃ t, exec c s = .next t ∧ t.regs = u.regs ∧ (∀ r, t.req r = u.req r) ∧ t.pcu = u.pcu :=
  next_work_raw he hr hf ⟨rfl, fun _ => rfl, rfl⟩

end

section
variable (s : State) (r : Nat)

theorem exec_modelLoad : exec (.modelLoad r) s = done s (s.work (fun u => u.modelLoad r)) := (rfl)

theorem exec_mapUpdate : exec (.mapUpdate r) s = done s (s.work (fun u => u.mapUpdate r)) := (rfl)

theorem exec_epochCommit : exec .epochCommit s = done s (s.work State.epochCommit) := (rfl)

end

/-! ## Models (R336) -/

section
variable {s u : State} {r : Nat} {q : Request} {d im : Bytes}

theorem State.modelLoad_holds (hq : s.pcuReq r 0x81 = some q) (hd : s.peek q.cmdAddr 32 = d) (he : s.mapEngineFor r = true)
    (hm : s.modelMask q d = 0) (hrd : s.engineReads r q 5 [(fieldLE d 8 8, fieldLE d 4 4)] [] = (u, .ready))
    (him : u.peek (fieldLE d 8 8) (fieldLE d 4 4) = im) (hn : fieldLE d 4 4 = modelBytes im) (ho : modelOk im = true) :
    s.modelLoad r = ((u.setModel (fieldLE d 1 1) im).endReq r 0 0 false).setReg (Reg.PCU_MODEL (fieldLE d 1 1))
      (BitVec.ofNat 64 (crc32c im + modelDof im * 2 ^ 32 + (modelVols im - 1) * 2 ^ 40 + 2 ^ 63)) := by
  unfold State.modelLoad
  simp only [hq, hd, he, Bool.not_true, Bool.false_eq_true, if_false, hm, ne_eq, not_true_eq_false, hrd, him]
  exact if_pos ⟨hn, ho⟩

theorem modelLoad_shows (hr : s.running = true) (hq : s.pcuReq r 0x81 = some q) (hd : s.peek q.cmdAddr 32 = d)
    (he : s.mapEngineFor r = true) (hm : s.modelMask q d = 0)
    (hrd : s.engineReads r q 5 [(fieldLE d 8 8, fieldLE d 4 4)] [] = (u, .ready))
    (him : u.peek (fieldLE d 8 8) (fieldLE d 4 4) = im) (hn : fieldLE d 4 4 = modelBytes im) (ho : modelOk im = true) :
    ∃ t, exec (.modelLoad r) s = .next t ∧ t.req r = none ∧ t.pcu.models.find (fieldLE d 1 1) = some im ∧
      t.reg (Reg.PCU_MODEL (fieldLE d 1 1)) =
        BitVec.ofNat 64 (crc32c im + modelDof im * 2 ^ 32 + (modelVols im - 1) * 2 ^ 40 + 2 ^ 63) := by
  obtain ⟨t, ht, hregs, hreq, hpcu⟩ := next_work_pcu (exec_modelLoad s r) hr (State.modelLoad_holds hq hd he hm hrd him hn ho)
  refine ⟨t, ht, ?_, ?_, ?_⟩
  · rw [hreq, State.req_setReg, State.req_endReq_same]
  · rw [hpcu, State.setReg_pcu, (State.pcuLoses_endReq _ _ _ _ _).models]
    exact OMap.find_put_same _ _ _
  · rw [State.reg_of_regs hregs, State.reg_setReg_same]

end

/-! ## Map updates (R339) -/

/-- A leaf record of a list (R339). -/
abbrev LeafRecord := Nat × Nat × Nat × Nat

/-- R339: the mask of leaf `k` after records `ls`, from mask `v`. -/
def leafAfter (k v : Nat) (ls : List LeafRecord) : Nat := ls.foldl (fun v l => if k = leafKey l.1 l.2.1 l.2.2.1 then l.2.2.2 else v) v

/-- R339: an epoch with the records of a list applied in turn. -/
def PEpoch.applyAll (ep : PEpoch) (ls : List LeafRecord) : PEpoch := each ls (fun t l => t.applyLeaf l.1 l.2.1 l.2.2.1 l.2.2.2) ep

theorem PEpoch.applyAll_shows (ep : PEpoch) (ls : List LeafRecord) : (ep.applyAll ls).num = ep.num ∧
    ∀ k, SMap.get (fun _ => 0) (ep.applyAll ls).leaves k = leafAfter k (SMap.get (fun _ => 0) ep.leaves k) ls := by
  induction ls generalizing ep with
  | nil => exact ⟨rfl, fun _ => rfl⟩
  | cons l ls ih =>
    obtain ⟨hnum, hleaf⟩ := ih (ep.applyLeaf l.1 l.2.1 l.2.2.1 l.2.2.2)
    refine ⟨hnum, fun k => (hleaf k).trans ?_⟩
    have h1 : SMap.get (fun _ => 0) (ep.applyLeaf l.1 l.2.1 l.2.2.1 l.2.2.2).leaves k =
        if k = leafKey l.1 l.2.1 l.2.2.1 then l.2.2.2 else SMap.get (fun _ => 0) ep.leaves k := SMap.get_set _ _ _ _ _
    rw [h1]
    rfl

section
variable {s u : State} {r : Nat} {q : Request} {d : Bytes} {ep : PEpoch} {ls : List LeafRecord}

/-- R339: a list inside the map has no record to refuse. -/
theorem leaves_inside {top slices : Nat}
    (h : ls.all (fun l => decide (l.1 < top) && decide (l.2.1 < top) && decide (l.2.2.1 < top) && decide (l.2.2.2 < slices)) = true) :
    ls.any (fun l => decide (top ≤ l.1) || decide (top ≤ l.2.1) || decide (top ≤ l.2.2.1) || decide (slices ≤ l.2.2.2)) = false := by
  rw [List.any_eq_false]
  intro l hl
  have h := List.all_eq_true.1 h l hl
  simp only [Bool.and_eq_true, decide_eq_true_eq] at h
  simp only [Bool.or_eq_true, decide_eq_true_eq]
  omega

theorem State.mapUpdate_begins (hq : s.pcuReq r 0x82 = some q) (hd : s.peek q.cmdAddr 64 = d) (hu : s.pcu.update = none)
    (he : s.mapEngineFor r = true) (hb : s.baseEpoch (fieldLE d 1 1) (time96Frac (fieldLE d 0x10 12)) = some ep)
    (hm : s.mapMask q d (some ep) = 0)
    (hrd : s.engineReads r q 5 [(fieldLE d 8 8, 8 * fieldLE d 4 4)] [(fieldLE d 0x20 8, 4)] = (u, .ready))
    (hls : leafRecords (u.peek (fieldLE d 8 8) (8 * fieldLE d 4 4)) (fieldLE d 4 4) = ls)
    (hin : ls.all (fun l => decide (l.1 < 2 ^ ep.depth) && decide (l.2.1 < 2 ^ ep.depth) && decide (l.2.2.1 < 2 ^ ep.depth) &&
      decide (l.2.2.2 < 2 ^ ep.slices)) = true) :
    ∃ v : State, s.mapUpdate r = (v.setUpdate (some (r, (ep.applyAll ls).prune))).setReg Reg.PCU_STATE (s.reg Reg.PCU_STATE ||| 8) := by
  unfold State.mapUpdate
  simp only [hq, hd, hu, he, hb, hm, hrd, hls, Option.isSome_none, Bool.not_true, Bool.false_eq_true, or_self, if_false, ne_eq,
    not_true_eq_false, leaves_inside hin]
  exact ⟨_, rfl⟩

theorem mapUpdate_shows (hr : s.running = true) (hq : s.pcuReq r 0x82 = some q) (hd : s.peek q.cmdAddr 64 = d) (hu : s.pcu.update = none)
    (he : s.mapEngineFor r = true) (hb : s.baseEpoch (fieldLE d 1 1) (time96Frac (fieldLE d 0x10 12)) = some ep)
    (hm : s.mapMask q d (some ep) = 0)
    (hrd : s.engineReads r q 5 [(fieldLE d 8 8, 8 * fieldLE d 4 4)] [(fieldLE d 0x20 8, 4)] = (u, .ready))
    (hls : leafRecords (u.peek (fieldLE d 8 8) (8 * fieldLE d 4 4)) (fieldLE d 4 4) = ls)
    (hin : ls.all (fun l => decide (l.1 < 2 ^ ep.depth) && decide (l.2.1 < 2 ^ ep.depth) && decide (l.2.2.1 < 2 ^ ep.depth) &&
      decide (l.2.2.2 < 2 ^ ep.slices)) = true) :
    ∃ t ep', exec (.mapUpdate r) s = .next t ∧ t.pcu.update = some (r, ep') ∧ ep'.num = ep.num ∧ t.bit Reg.PCU_STATE 3 = true ∧
      ∀ k, SMap.get (fun _ => 0) ep'.leaves k = leafAfter k (SMap.get (fun _ => 0) ep.leaves k) ls := by
  obtain ⟨v, hv⟩ := State.mapUpdate_begins hq hd hu he hb hm hrd hls hin
  obtain ⟨t, ht, hregs, -, hpcu⟩ := next_work_pcu (exec_mapUpdate s r) hr hv
  obtain ⟨hnum, hleaf⟩ := ep.applyAll_shows ls
  refine ⟨t, (ep.applyAll ls).prune, ht, ?_, hnum, ?_, hleaf⟩
  · rw [hpcu, State.setReg_pcu]
    rfl
  · rw [State.bit_ofReg (State.reg_of_regs hregs _)]
    simp only [State.bit, State.regN, State.reg_setReg_same, BitVec.toNat_or, Nat.testBit_or, Bool.or_eq_true]
    exact .inr (by decide)

end

/-! ## Epochs (R339, R340) -/

section
variable {s u : State} {r : Nat} {q : Request} {d : Bytes} {ep : PEpoch}

theorem State.epochCommit_ends (hw : s.outsReady u r q 5 [(fieldLE d 0x20 8, 4)]) (hu : s.pcu.update = some (r, ep)) (hq : s.req r = some q)
    (hd : s.peek q.cmdAddr 64 = d) (hg : s.quarantined 0x8A = false) (hl : ep.leaves.length ≤ 2 ^ 20)
    (h0 : (State.engineWrite (u.setUpdate none, 0) r q 5 (fieldLE d 0x20 8) (natLE 4 ep.num)).2 = 0) :
    s.epochCommit = ((((State.engineWrite (u.setUpdate none, 0) r q 5 (fieldLE d 0x20 8) (natLE 4 ep.num)).1.pushEpoch
      ep).trimEpochs.showPcu.endReq r 0 0 false).setReg Reg.PCU_CNT_UPDATE (u.reg Reg.PCU_CNT_UPDATE + 1)) := by
  obtain ⟨hs, ha⟩ := hw
  unfold State.epochCommit State.withOuts
  simp only [hu, hq, hd, hg, Bool.false_eq_true, if_false, if_neg (Nat.not_lt.2 hl), hs, ha, h0, ne_eq, not_true_eq_false]

theorem epochCommit_shows (hr : s.running = true) (hw : s.outsReady u r q 5 [(fieldLE d 0x20 8, 4)]) (hu : s.pcu.update = some (r, ep))
    (hq : s.req r = some q) (hd : s.peek q.cmdAddr 64 = d) (hg : s.quarantined 0x8A = false) (hl : ep.leaves.length ≤ 2 ^ 20)
    (h0 : (State.engineWrite (u.setUpdate none, 0) r q 5 (fieldLE d 0x20 8) (natLE 4 ep.num)).2 = 0) :
    ∃ t, exec .epochCommit s = .next t ∧ t.req r = none ∧ t.pcu.newest = ep.num ∧ t.pcu.epochs.find ep.num = some ep ∧
      t.pcu.update = none ∧ t.reg Reg.PCU_CNT_UPDATE = u.reg Reg.PCU_CNT_UPDATE + 1 := by
  have he := State.epochCommit_ends hw hu hq hd hg hl h0
  have hpw := (u.setUpdate none).pcu_engineWrite r q 5 (fieldLE d 0x20 8) (natLE 4 ep.num)
  generalize (State.engineWrite (u.setUpdate none, 0) r q 5 (fieldLE d 0x20 8) (natLE 4 ep.num)).1 = w at he hpw
  have hnew : (w.pushEpoch ep).pcu.epochs.find (w.pushEpoch ep).pcu.newest = some ep := OMap.find_put_same _ _ _
  have hupd : (w.pushEpoch ep).pcu.update = none := congrArg Pcu.update hpw
  have hloses : PcuLoses (w.pushEpoch ep) ((w.pushEpoch ep).trimEpochs.showPcu.endReq r 0 0 false) :=
    ((w.pushEpoch ep).pcuLoses_trimEpochs.trans (PcuLoses.of_pcu (State.pcu_showPcu _))).trans (State.pcuLoses_endReq _ _ _ _ _)
  obtain ⟨t, ht, hregs, hreq, hpcu⟩ := next_work_pcu (exec_epochCommit s) hr he
  rw [State.setReg_pcu] at hpcu
  refine ⟨t, ht, ?_, ?_, ?_, ?_, ?_⟩
  · rw [hreq, State.req_setReg, State.req_endReq_same]
  · rw [hpcu, hloses.newest]
    rfl
  · rw [hpcu]
    exact hloses.epoch ep hnew
  · rw [hpcu]
    exact hloses.update hupd
  · rw [State.reg_of_regs hregs, State.reg_setReg_same]

end

/-- Settles O37: each command is one equation of the planner's state, and the end of a request loses no model and no newest epoch. -/
theorem modelsAndEpochsAreBuilt : Obligations.ModelsAndEpochsAreBuilt := by
  intro s u r q hr
  refine ⟨fun d im hq hd he hm hrd him hn ho => modelLoad_shows hr hq hd.symm he hm hrd him.symm hn ho,
    fun d ep ls hq hd hu he hb hm hrd hls hin => mapUpdate_shows hr hq hd.symm hu he hb hm hrd hls.symm hin,
    fun d ep hw hu hq hd hg hl h0 => epochCommit_shows hr hw hu hq hd.symm hg hl h0⟩

end Sys2Proof.Machine
end

section
/-! PROOFS. PLANs: their checks at dispatch, the places, the quanta, edge checks and budgets (R333, R341, R343, R345, R346, R350, R353). -/

namespace Sys2Proof.Machine

section
variable (s : State) (r : Nat)

theorem exec_plan : exec (.plan r) s = done s (s.work (fun u => u.plan r)) := (rfl)

theorem exec_planHeld : exec .planHeld s = done s (s.work State.planHeld) := (rfl)

theorem exec_quantumEnd : exec .quantumEnd s = done s (s.work State.passTurn) := (rfl)

theorem exec_edgeCheckDone : exec (.edgeCheckDone r) s = done s (s.work (fun u => u.edgeCheckDone r)) := (rfl)

theorem exec_planBudgetExpired : exec (.planBudgetExpired r) s = done s (s.work (fun u => u.planBudget r)) := (rfl)

end

/-! ## What the planner's own operations leave -/

section
variable {s : State} {r : Nat} {q : Request} {p : Plan}

theorem State.putPlan_holds (hq : s.req r = some q) (h : ∀ st, p.phase ≠ .ended st) : s.putPlan r p = (s.holdPlan r p).trimEpochs := by
  unfold State.putPlan
  simp only [hq]

theorem State.putPlan_ends {st : Nat} (hq : s.req r = some q) (h : p.phase = .ended st) : s.putPlan r p = s.planEnd r p q st := by
  unfold State.putPlan
  rw [hq, h]

variable (s)

theorem State.reg_trimEpochs {a : Nat} (h1 : a ≠ Reg.PCU_MAP_EPOCH) (h2 : a ≠ Reg.PCU_MAP_USE) : s.trimEpochs.reg a = s.reg a := by
  unfold State.trimEpochs
  extract_lets live p1 s1
  split
  · rfl
  · dsimp only
    rw [State.reg_setRegN_other _ _ h2, State.reg_setRegN_other _ _ h1]
    rfl

theorem State.reg_showPcu {a : Nat} (h : a ≠ Reg.PCU_STATE) : s.showPcu.reg a = s.reg a := State.reg_setRegN_other _ _ h

/-- R343: checks are counted. -/
theorem State.reg_countCheck (p : Plan) (n : Nat) :
    (s.countCheck p n).1.reg Reg.PCU_CNT_CHECK = s.reg Reg.PCU_CNT_CHECK + BitVec.ofNat 64 n := by
  have he : (s.countCheck p n).1.reg Reg.PCU_CNT_CHECK = (((s.add Reg.PCU_CNT_CHECK n).add Reg.PCU_CNT_LEAF_TEST
    (Config.freeWord s.fresh).toNat).add Reg.PCU_CNT_BUSY (Config.freeWord (s.fresh + 1)).toNat).reg Reg.PCU_CNT_CHECK := (rfl)
  rw [he, State.reg_add_other _ _ (by decide), State.reg_add_other _ _ (by decide), State.reg_add_same]

theorem State.pcu_countCheck (p : Plan) (n : Nat) : (s.countCheck p n).1.pcu = s.pcu := (rfl)

theorem State.req_countCheck (p : Plan) (n k : Nat) : (s.countCheck p n).1.req k = s.req k := (rfl)

theorem State.reg_holdPlan (p : Plan) (a : Nat) : (s.holdPlan r p).reg a = s.reg a := (rfl)

/-- R341: a plan that is held, the epochs trimmed. -/
theorem State.pcu_held (p : Plan) : (s.holdPlan r p).trimEpochs.pcu =
    { s.pcu with held := s.pcu.held.put r p, epochs := (s.holdPlan r p).liveEpochs } := State.pcu_trimEpochs _

theorem State.held_held (p : Plan) : (s.holdPlan r p).trimEpochs.pcu.held.find r = some p := by
  rw [State.pcu_held]
  exact OMap.find_put_same _ _ _

end

/-! ## PLAN (R345) -/

section
variable {s u : State} {r : Nat} {q : Request} {d im : Bytes}

theorem plan_waits (hr : s.running = true) (hq : s.engReq r [0x11] = some q) (hd : s.peek q.cmdAddr 128 = d) (ho : fieldLE d 0 1 = 0x80)
    (hg : s.gateOn 0x8A = true) (hn : s.quarantined 0x8A = false) (hw : s.pcu.waiting.contains r = false) (hh : s.pcu.held.find r = none)
    (hm : s.planMask q d = 0) (him : (s.pcu.models.find (fieldLE d 2 1)).getD [] = im)
    (hrd : s.engineReads r q 5 [(fieldLE d 0x30 8, 4 * modelDof im), (fieldLE d 0x38 8, 4 * modelDof im)] (planOuts d) true = (u, .ready))
    (h1 : outOfLimits im (tab (modelDof im) (fun j => u.peekN (fieldLE d 0x30 8 + 4 * j) 4)) = false)
    (h2 : outOfLimits im (tab (modelDof im) (fun j => u.peekN (fieldLE d 0x38 8 + 4 * j) 4)) = false) :
    ∃ t, exec (.plan r) s = .next t ∧ t.pcu.waiting = u.pcu.waiting ++ [r] ∧ t.pcu.held = u.pcu.held := by
  have he : s.plan r = u.queuePlan r := by
    unfold State.plan
    simp only [hq, hd, ho, hg, hn, hw, hh, hm, him, hrd, h1, h2, Bool.not_true, Bool.false_eq_true, Option.isSome_none, or_self, if_false,
      ne_eq, not_true_eq_false, Nat.reduceEqDiff]
  obtain ⟨t, ht, -, -, hpcu⟩ := next_work_pcu (exec_plan s r) hr he
  have hwait := congrArg Pcu.waiting hpcu
  have hheld := congrArg Pcu.held hpcu
  exact ⟨t, ht, hwait, hheld⟩

end

/-! ## Taking a place (R346) -/

section
variable {s v u : State} {r : Nat} {q : Request} {d im : Bytes} {ep : PEpoch} {p0 p : Plan}

theorem State.planHeld_seats (hnext : s.nextPlan = some r) (hv : s.unqueuePlan r = v) (hq : v.req r = some q)
    (hd : v.peek q.cmdAddr 128 = d) (him : (v.pcu.models.find (fieldLE d 2 1)).getD [] = im) (hg : v.quarantined 0x8A = false)
    (hep : v.pcu.epochs.find (if fieldLE d 0x1C 4 = 0 then v.pcu.newest else fieldLE d 0x1C 4) = some ep)
    (hp0 : v.newPlan r q d im ep = p0) (h1 : outOfLimits im p0.start = false) (h2 : outOfLimits im p0.goal = false)
    (h3 : poseHit im ep (ep.only p0.tStart) p0.start = none) (h4 : poseHit im ep (2 ^ (ep.slices - 1)) p0.goal = none)
    (hu : (v.seatPlan r q p0).showPcu = u) :
    s.planHeld = (u.countCheck p0 2).1.putPlan r ((u.countCheck p0 2).2.advance u.pcu.newest planFuel) := by
  unfold State.planHeld
  simp only [hnext, hv, hq, hd, him, hg, hep, hp0, h1, h2, h3, h4, hu, Bool.false_eq_true, or_self, if_false]

/-- A plan that takes a place keeps its request, joins the order and changes no counter. -/
theorem State.seatPlan_shows (hu : (v.seatPlan r q p0).showPcu = u) : (∃ q', u.req r = some q') ∧ u.pcu.order = v.pcu.order ++ [r] ∧
    u.pcu.waiting = v.pcu.waiting ∧ u.reg Reg.PCU_CNT_CHECK = v.reg Reg.PCU_CNT_CHECK := by
  rw [← hu, State.pcu_showPcu, State.reg_showPcu _ (by decide)]
  exact ⟨⟨{ q with outs := planRequestOuts p0.desc }, v.req_putReq r _⟩, rfl, rfl, rfl⟩

theorem planHeld_shows (hr : s.running = true) (hnext : s.nextPlan = some r) (hv : s.unqueuePlan r = v) (hq : v.req r = some q)
    (hd : v.peek q.cmdAddr 128 = d) (him : (v.pcu.models.find (fieldLE d 2 1)).getD [] = im) (hg : v.quarantined 0x8A = false)
    (hep : v.pcu.epochs.find (if fieldLE d 0x1C 4 = 0 then v.pcu.newest else fieldLE d 0x1C 4) = some ep)
    (hp0 : v.newPlan r q d im ep = p0) (h1 : outOfLimits im p0.start = false) (h2 : outOfLimits im p0.goal = false)
    (h3 : poseHit im ep (ep.only p0.tStart) p0.start = none) (h4 : poseHit im ep (2 ^ (ep.slices - 1)) p0.goal = none)
    (hu : (v.seatPlan r q p0).showPcu = u) (hp : (u.countCheck p0 2).2.advance u.pcu.newest planFuel = p)
    (hend : ∀ st, p.phase ≠ .ended st) :
    ∃ t, exec .planHeld s = .next t ∧ t.pcu.held.find r = some p ∧ t.pcu.order = s.pcu.order ++ [r] ∧
      t.pcu.waiting = s.pcu.waiting.filter (fun x => !(x == r)) ∧ t.reg Reg.PCU_CNT_CHECK = s.reg Reg.PCU_CNT_CHECK + 2 := by
  have he := State.planHeld_seats hnext hv hq hd him hg hep hp0 h1 h2 h3 h4 hu
  obtain ⟨⟨q', hq'⟩, horder, hwait, hreg⟩ := State.seatPlan_shows hu
  rw [hp, State.putPlan_holds ((u.req_countCheck p0 2 r).trans hq') hend] at he
  obtain ⟨t, ht, hregs, -, hpcu⟩ := next_work_pcu (exec_planHeld s) hr he
  have hf : t.pcu.held.find r = some p := by rw [hpcu, State.held_held]
  rw [State.pcu_held, State.pcu_countCheck] at hpcu
  refine ⟨t, ht, hf, ?_, ?_, ?_⟩
  · exact (congrArg Pcu.order hpcu).trans (horder.trans (by rw [← hv]; rfl))
  · exact (congrArg Pcu.waiting hpcu).trans (hwait.trans (by rw [← hv]; rfl))
  · have hs : v.reg Reg.PCU_CNT_CHECK = s.reg Reg.PCU_CNT_CHECK := by
      rw [← hv]
      rfl
    rw [hs] at hreg
    exact (State.reg_of_regs hregs _).trans ((State.reg_trimEpochs _ (by decide) (by decide)).trans
      ((State.reg_holdPlan _ _ _).trans ((u.reg_countCheck p0 2).trans (congrArg (· + BitVec.ofNat 64 2) hreg))))

end

/-! ## Quanta and edge checks (R333, R341, R343) -/

section
variable {s : State}

theorem State.pcu_passTurn (s : State) : s.passTurn.pcu =
    { s.pcu with turn := (match s.pcu.turn with | none => s.pcu.order.head? | some r => s.nextTurn r), yield := false } := by
  unfold State.passTurn
  cases s.pcu.turn with
  | none => exact State.pcu_showPcu _
  | some r => exact State.pcu_showPcu _

theorem quantumEnd_shows (hr : s.running = true) : ∃ t, exec .quantumEnd s = .next t ∧ t.pcu.yield = false ∧
    t.pcu.turn = (match s.pcu.turn with | none => s.pcu.order.head? | some r => s.nextTurn r) := by
  obtain ⟨t, ht, -, -, hpcu⟩ := next_work_pcu (exec_quantumEnd s) hr rfl
  rw [State.pcu_passTurn] at hpcu
  exact ⟨t, ht, congrArg Pcu.yield hpcu, congrArg Pcu.turn hpcu⟩

variable {r : Nat} {q : Request} {p p' : Plan} {ep : PEpoch}

/-- R333, R343: a check done, whose verdict the PLAN takes; the quantum ends with it where another PLAN waits for it. -/
theorem State.edgeCheckDone_takes (hh : s.pcu.held.find r = some p) (hq : s.req r = some q) (hturn : s.pcu.turn = some r)
    (hw : p.waits = true) (ht : (s.selfTest 0x8A).running = false) (hg : s.quarantined 0x8A = false)
    (hep : s.pcu.epochs.find p.snap = some ep) :
    ∃ w : State, s.edgeCheckDone r = w.setReg Reg.PCU_CNT_CHECK (s.reg Reg.PCU_CNT_CHECK + 1) ∧
      w.pcu.held = ((s.countCheck p 1).1.putPlan r ((s.countCheck p 1).2.afterCheck (p.verdict ep) s.pcu.newest)).pcu.held := by
  unfold State.edgeCheckDone
  simp only [hh, hq, hturn, hw, ht, hg, hep, ne_eq, not_true_eq_false, Bool.not_true, Bool.false_eq_true, or_self, if_false]
  refine ⟨_, rfl, ?_⟩
  split
  · rw [State.pcu_passTurn]
  · rfl

theorem edgeCheckDone_shows (hr : s.running = true) (hh : s.pcu.held.find r = some p) (hq : s.req r = some q)
    (hturn : s.pcu.turn = some r) (hw : p.waits = true) (ht : (s.selfTest 0x8A).running = false) (hg : s.quarantined 0x8A = false)
    (hep : s.pcu.epochs.find p.snap = some ep) (hp : (s.countCheck p 1).2.afterCheck (p.verdict ep) s.pcu.newest = p') :
    ∃ t, exec (.edgeCheckDone r) s = .next t ∧ t.reg Reg.PCU_CNT_CHECK = s.reg Reg.PCU_CNT_CHECK + 1 ∧
      ((∀ st, p'.phase ≠ .ended st) → t.pcu.held.find r = some p') := by
  obtain ⟨w, he, hheld⟩ := State.edgeCheckDone_takes hh hq hturn hw ht hg hep
  rw [hp] at hheld
  obtain ⟨t, ht, hregs, -, hpcu⟩ := next_work_pcu (exec_edgeCheckDone s r) hr he
  rw [State.setReg_pcu] at hpcu
  refine ⟨t, ht, ?_, fun hend => ?_⟩
  · rw [State.reg_of_regs hregs, State.reg_setReg_same]
  · rw [hpcu, hheld, State.putPlan_holds ((s.req_countCheck p 1 r).trans hq) hend, State.held_held]

end

/-! ## Budgets (R350, R353) -/

section
variable {s : State} {r : Nat} {q : Request} {p : Plan}

/-- R353: whether a phase grows a tree or a roadmap. -/
def PlanPhase.grows : PlanPhase → Bool
  | .validate _ _ | .release | .ended _ | .shortcut _ | .cut _ _ _ _ => false
  | _ => true

/-- R350: whether a phase shortens a path. -/
def PlanPhase.shortens : PlanPhase → Bool
  | .shortcut _ | .cut _ _ _ _ => true
  | _ => false

theorem State.planBudget_givesUp (hh : s.pcu.held.find r = some p) (hb : due s.now p.budget = true) (hg : p.phase.grows = true) :
    s.planBudget r = s.putPlan r (p.giveUp 0x0F) := by
  unfold State.planBudget
  simp only [hh, hb, Bool.not_true, Bool.false_eq_true, if_false]
  cases hph : p.phase with
  | validate | release | ended | shortcut | cut => rw [hph] at hg; cases hg
  | _ => rfl

theorem State.planBudget_releases (hh : s.pcu.held.find r = some p) (hb : due s.now p.budget = true) (hg : p.phase.shortens = true) :
    s.planBudget r = s.putPlan r (({ p with phase := .release } : Plan).advance s.pcu.newest planFuel) := by
  unfold State.planBudget
  simp only [hh, hb, Bool.not_true, Bool.false_eq_true, if_false]
  cases hph : p.phase with
  | shortcut | cut => rfl
  | _ => rw [hph] at hg; cases hg

/-- R353, R355: a PLAN whose result can be written is held no longer. -/
theorem State.planEnd_shows {st : Nat} (hw : (State.engineWrite (s.havocOuts q (planOuts p.desc), 0) r q 5 (fieldLE p.desc 0x40 8)
    (p.result st)).2 = 0) : (s.planEnd r p q st).req r = none ∧ (s.planEnd r p q st).pcu.held.find r = none ∧
    (s.planEnd r p q st).reg Reg.PCU_CNT_PLAN = s.reg Reg.PCU_CNT_PLAN + 1 := by
  unfold State.planEnd
  extract_lets s1 w s2 s3 s4 s5
  rw [if_neg (not_not_intro hw), State.req_setReg, State.setReg_pcu, State.reg_setReg_same]
  exact ⟨State.req_endReq_same _ _ _ _ _, (State.pcuLoses_endReq _ _ _ _ _).held r (State.pcuLoses_dropPlan _ r).2, rfl⟩

theorem planBudgetExpired_ends (hr : s.running = true) (hh : s.pcu.held.find r = some p) (hq : s.req r = some q)
    (hb : due s.now p.budget = true) (hg : p.phase.grows = true)
    (hw : (State.engineWrite (s.havocOuts q (planOuts p.desc), 0) r q 5 (fieldLE p.desc 0x40 8) ((p.giveUp 0x0F).result 0x0F)).2 = 0) :
    ∃ t, exec (.planBudgetExpired r) s = .next t ∧ t.req r = none ∧ t.pcu.held.find r = none ∧
      t.reg Reg.PCU_CNT_PLAN = s.reg Reg.PCU_CNT_PLAN + 1 := by
  have he := (State.planBudget_givesUp hh hb hg).trans (State.putPlan_ends hq rfl)
  obtain ⟨h1, h2, h3⟩ := State.planEnd_shows (s := s) (p := p.giveUp 0x0F) hw
  generalize s.planEnd r (p.giveUp 0x0F) q 0x0F = v at he h1 h2 h3
  obtain ⟨t, ht, hregs, hreq, hpcu⟩ := next_work_pcu (exec_planBudgetExpired s r) hr he
  exact ⟨t, ht, (hreq r).trans h1, by rw [hpcu, h2], (State.reg_of_regs hregs _).trans h3⟩

theorem planBudgetExpired_releases {p' : Plan} (hr : s.running = true) (hh : s.pcu.held.find r = some p) (hq : s.req r = some q)
    (hb : due s.now p.budget = true) (hg : p.phase.shortens = true)
    (hp : ({ p with phase := .release } : Plan).advance s.pcu.newest planFuel = p') (hend : ∀ st, p'.phase ≠ .ended st) :
    ∃ t, exec (.planBudgetExpired r) s = .next t ∧ t.pcu.held.find r = some p' := by
  have he := State.planBudget_releases hh hb hg
  rw [hp, State.putPlan_holds hq hend] at he
  obtain ⟨t, ht, -, -, hpcu⟩ := next_work_pcu (exec_planBudgetExpired s r) hr he
  exact ⟨t, ht, by rw [hpcu, State.held_held]⟩

end

/-- Settles O36: each event is one operation on the held PLANs, and what a PLAN does between two checks ends nothing that it does not
end itself. -/
theorem plansAreHeldAndGrow : Obligations.PlansAreHeldAndGrow := by
  intro s hr
  refine ⟨fun u r q d im hq hd ho hg hn hw hh hm him hrd h1 h2 => plan_waits hr hq hd.symm ho hg hn hw hh hm him.symm hrd h1 h2,
    fun v u r q d im ep p0 hnext hv hq hd him hg hep hp0 h1 h2 h3 h4 hu hend =>
      planHeld_shows hr hnext hv.symm hq hd.symm him.symm hg hep hp0.symm h1 h2 h3 h4 hu.symm rfl hend,
    quantumEnd_shows hr, fun r q p ep hh hq hturn hw ht hg hep => edgeCheckDone_shows hr hh hq hturn hw ht hg hep rfl,
    fun r q p hh hq hb => ⟨fun hg hw => ?_, fun hg hend => ?_⟩⟩
  · exact planBudgetExpired_ends hr hh hq hb hg hw
  · exact planBudgetExpired_releases hr hh hq hb hg rfl hend

end Sys2Proof.Machine
end

section
/-! PROOFS. Register writes by class (R389 to R395, R399, R402, R414). -/

namespace Sys2Proof.Machine

/-! ## The three ways of writing -/

section
variable {s : State} {c : Instr} {ag : Agent} {a v : Nat}

theorem doneT_next (s u : State) : doneT s u = .next { u with pending := s.pending } := (rfl)

theorem exec_registerWrite (s : State) (ag : Agent) (addr size : Nat) (x : BitVec 64) : exec (.registerWrite ag addr size x) s =
    doneT s (s.powered (fun u => u.softWrite ag addr size x.toNat)) := (rfl)

theorem exec_bitAliasWrite (s : State) (ag : Agent) (addr : Nat) (x : BitVec 64) : exec (.bitAliasWrite ag addr x) s =
    doneT s (s.powered (fun u => if inAlias addr then u.softWrite ag addr 8 x.toNat else u.busError ag true 1 addr)) := (rfl)

theorem exec_dbgDataWrite (s : State) (h : Fin 8) (x : BitVec 64) : exec (.dbgDataWrite h x) s = doneT s (s.serve (fun u =>
    if u.dictN 0x1000 5 = 0 then u.aborted 9 else (u.debugWrite h.val x.toNat).1.aborted (u.debugWrite h.val x.toNat).2)) := (rfl)

theorem State.softWrite_direct (h8 : a % 8 = 0) (hi : inAlias a = false) : s.softWrite ag a 8 v = s.writeReg ag a v := by
  unfold State.softWrite
  rw [if_neg (by omega), hi, if_neg Bool.false_ne_true]

theorem State.softWrite_alias {addr b x : Nat} (h8 : addr % 8 = 0) (hi : inAlias addr = true) (ht : aliasTarget addr = (a, b))
    (hx : regExists a = true) : s.softWrite ag addr 8 x = s.writeReg ag a (s.aliasValue a b x) := by
  unfold State.softWrite
  simp only [ht, hi, hx, if_true]
  exact if_neg (by omega)

theorem State.shadow_aborted (s : State) (code : Nat) : (s.aborted code).shadow = s.shadow := by
  unfold State.aborted
  split
  · rfl
  · exact State.setDictN_shadow _ _ _ _

/-- Each way of writing a register is the write that its class answers. -/
theorem writes_next (h : s.writes c ag a v) : ∃ t, exec c s = .next t ∧ t.regs = (s.writeReg ag a v).regs ∧
    t.shadow = (s.writeReg ag a v).shadow := by
  obtain ⟨hx, h8, hon, ⟨x, rfl, hv, hi⟩ | ⟨addr, b, x, rfl, hi, h8', ht, hv⟩ | ⟨h, x, rfl, rfl, hdbg, hv, hi, hl, hu⟩⟩ := h
  · rw [exec_registerWrite, State.powered_run _ _ hon, doneT_next, State.softWrite_direct h8 hi, hv]
    exact ⟨_, rfl, rfl, rfl⟩
  · rw [exec_bitAliasWrite, State.powered_run _ _ hon, doneT_next, hi, if_pos rfl, State.softWrite_alias h8' hi ht hx, hv]
    exact ⟨_, rfl, rfl, rfl⟩
  · have hw : (s.debugWrite h x.toNat).1 = s.writeReg .odsDebug a v := by
      unfold State.debugWrite
      rw [hdbg, State.softWrite_direct h8 hi, hv]
    obtain ⟨-, -, -, -, hregs⟩ := (s.debugWrite h x.toNat).1.aborted_keeps (s.debugWrite h x.toNat).2
    have hshadow := (s.debugWrite h x.toNat).1.shadow_aborted (s.debugWrite h x.toNat).2
    rw [exec_dbgDataWrite, State.serve_run _ _ hl, doneT_next, if_neg hu]
    rw [hw] at hregs hshadow ⊢
    exact ⟨_, rfl, hregs, hshadow⟩

end

/-! ## What a class makes of a write (R393) -/

section
variable {s : State} {ag : Agent} {a v : Nat} {d : RegDef}

/-- R393: an existing register is written as its class says. -/
theorem State.writeReg_readOnly (hx : regExists a = true) (hd : regDef a = some d) (hc : d.cls = .ro ∨ d.cls = .rc) (ha : a ≠ Reg.CUF_STOP) :
    s.writeReg ag a v = s := by
  unfold State.writeReg
  simp only [hd, hx, Bool.not_true, Bool.false_eq_true, if_false]
  rcases hc with hc | hc
  · rw [hc]
    exact if_neg (fun h => ha h.1)
  · rw [hc]

theorem State.writeReg_quiet (hx : regExists a = true) (hd : regDef a = some d) (hc : d.cls = .rwq) :
    s.writeReg ag a v = s.writeQuiet ag d.base a (d.ix0 a) (d.ix1 a) v := by
  unfold State.writeReg
  simp only [hd, hx, Bool.not_true, Bool.false_eq_true, if_false, hc]
  rfl

theorem State.writeReg_live (hx : regExists a = true) (hd : regDef a = some d) {b : Boundary} (hc : d.cls = .rwl b) :
    s.writeReg ag a v = s.writeLive ag d.base a (d.ix0 a) (d.ix1 a) v := by
  unfold State.writeReg
  simp only [hd, hx, Bool.not_true, Bool.false_eq_true, if_false, hc]
  rfl

theorem State.writeReg_command (hx : regExists a = true) (hd : regDef a = some d) (hc : d.cls = .wo) :
    s.writeReg ag a v = s.writeCommand ag d.base a (d.ix0 a) (d.ix1 a) v := by
  unfold State.writeReg
  simp only [hd, hx, Bool.not_true, Bool.false_eq_true, if_false, hc]
  rfl

/-- R395: an RWQ register without a rule of its own. -/
theorem State.writeQuiet_plain {base i j : Nat} (h : plainQuiet base = true) :
    s.writeQuiet ag base a i j v = if s.rwqQuiet base i j = true then s.storeReg a v else s.refuseBusy ag a := by
  simp only [plainQuiet, List.contains_cons, List.contains_nil, Bool.or_false, Bool.not_eq_true', Bool.or_eq_false_iff, beq_eq_false_iff_ne,
    ne_eq] at h
  obtain ⟨h1, h2, h3, h4, h5, h6, h7, h8, h9, h10, h11, h12, h13⟩ := h
  unfold State.writeQuiet
  rw [if_neg h1, if_neg h2, if_neg h3, if_neg h4, if_neg h5, if_neg h6, if_neg h7, if_neg h8, if_neg h9, if_neg h10, if_neg h11, if_neg h12,
    if_neg h13]
  cases s.rwqQuiet base i j with
  | true => rfl
  | false => rfl

/-- R394: an RWL register without a rule of its own. -/
theorem State.writeLive_plain {base i j : Nat} (h : plainLive base = true) : s.writeLive ag base a i j v = s.storeReg a v := by
  simp only [plainLive, List.contains_cons, List.contains_nil, Bool.or_false, Bool.not_eq_true', Bool.or_eq_false_iff, beq_eq_false_iff_ne,
    ne_eq] at h
  obtain ⟨h1, h2, h3, h4, h5, h6, h7, h8, h9, h10, h11, h12, h13, h14⟩ := h
  unfold State.writeLive
  rw [if_neg h1, if_neg h2, if_neg h3, if_neg (by rintro (h | h | h); exacts [h4 h, h5 h, h6 h]), if_neg h7, if_neg h8, if_neg h9, if_neg h10,
    if_neg h11, if_neg h12, if_neg h13, if_neg h14]

end

/-! ## The value stored (R394, R395, R403) -/

section
variable (s : State)

theorem State.reg_uncommit {k b : Nat} (h : b ≠ Reg.CFG_STATUS k) : (s.uncommit k).reg b = s.reg b := by
  unfold State.uncommit
  split
  · exact s.reg_orReg_other _ h
  · rfl

theorem State.shadow_uncommit (k : Nat) : (s.uncommit k).shadow = s.shadow := by
  unfold State.uncommit
  split
  · exact State.orReg_shadow _ _ _
  · rfl

variable {a : Nat} {d : RegDef}

/-- R403: a signed register's change marks its block, and reaches no other register. -/
theorem State.reg_marked (hs : d.signed = true → 0x20000 ≤ a) (x y : Nat) {b : Nat} (hb : b = a ∨ b ≠ Reg.CFG_STATUS (blockOf a)) :
    (if d.contrib x = d.contrib y then s else s.uncommit (blockOf a)).reg b = s.reg b := by
  cases hsig : d.signed with
  | false => rw [if_pos (by simp [RegDef.contrib, hsig])]
  | true =>
    have hne : b ≠ Reg.CFG_STATUS (blockOf a) := by
      rcases hb with hb | hb
      · have := blockOf_le a
        have := hs hsig
        unfold Reg.CFG_STATUS
        omega
      · exact hb
    split
    · rfl
    · exact s.reg_uncommit hne

/-- R394, R395: a write in force at once. -/
theorem State.reg_storeReg_now (hd : regDef a = some d) (hc : d.cls = .rwq ∨ d.cls = .rwl .immediate) (hs : d.signed = true → 0x20000 ≤ a)
    (v : Nat) : (s.storeReg a v).reg a = BitVec.ofNat 64 (writtenTo a (s.shown a).toNat v) ∧
      ∀ b, b ≠ a → b ≠ Reg.CFG_STATUS (blockOf a) → (s.storeReg a v).reg b = s.reg b := by
  obtain ⟨u, hu, x, y, he⟩ : ∃ u : State, u.regs = s.regs ∧ ∃ x y, s.storeReg a v =
      if d.contrib x = d.contrib y then u.setRegN a (writtenTo a (s.shown a).toNat v)
      else (u.setRegN a (writtenTo a (s.shown a).toNat v)).uncommit (blockOf a) := by
    rcases hc with hc | hc
    · refine ⟨s, rfl, (s.shown a).toNat, writtenTo a (s.shown a).toNat v, ?_⟩
      simp only [State.storeReg, writtenTo, hd, hc]
    · refine ⟨if writtenTo a (s.shown a).toNat v = 0 then { s with refused := s.refused.filter (fun x => !(x == a)) } else s, ?_,
        (s.shown a).toNat, writtenTo a (s.shown a).toNat v, ?_⟩
      · split
        · rfl
        · rfl
      · simp only [State.storeReg, writtenTo, hd, hc, if_true]
  rw [he]
  refine ⟨?_, fun b hb hb' => ?_⟩
  · rw [State.reg_marked _ hs _ _ (.inl rfl), State.reg_setRegN_same]
  · rw [State.reg_marked _ hs _ _ (.inr hb'), State.reg_setRegN_other _ _ hb, State.reg_of_regs hu]

/-- R394: a write that waits in the shadow for its boundary. -/
theorem State.storeReg_shadow (hd : regDef a = some d) {b : Boundary} (hc : d.cls = .rwl b) (hb : b ≠ .immediate)
    (hs : d.signed = true → 0x20000 ≤ a) (v : Nat) :
    (s.storeReg a v).shadow.find a = some (BitVec.ofNat 64 (writtenTo a (s.shown a).toNat v)) ∧
      ∀ b', b' ≠ Reg.CFG_STATUS (blockOf a) → (s.storeReg a v).reg b' = s.reg b' := by
  obtain ⟨x, y, he⟩ : ∃ x y, s.storeReg a v =
      if d.contrib x = d.contrib y then { s with shadow := s.shadow.put a (BitVec.ofNat 64 (writtenTo a (s.shown a).toNat v)) }
      else State.uncommit { s with shadow := s.shadow.put a (BitVec.ofNat 64 (writtenTo a (s.shown a).toNat v)) } (blockOf a) := by
    refine ⟨(s.shown a).toNat, writtenTo a (s.shown a).toNat v, ?_⟩
    simp only [State.storeReg, writtenTo, hd, hc, if_neg hb]
  rw [he]
  refine ⟨?_, fun b' hb' => ?_⟩
  · split
    · exact OMap.find_put_same _ _ _
    · rw [State.shadow_uncommit]
      exact OMap.find_put_same _ _ _
  · exact State.reg_marked _ hs _ _ (.inr hb')

end

/-! ## Refusals (R391, R395) -/

section
variable (s : State) {ag : Agent}

theorem State.reg_busError_other (hag : ag ≠ .cuff) (w : Bool) (cause addr : Nat) {b : Nat} (h1 : b ≠ Reg.CFG_BUS_ERR)
    (h2 : b ≠ Reg.CFG_BUS_ERR_ADDR) (h3 : b ≠ Reg.CFG_CNT_BUS_ERR) : (s.busError ag w cause addr).reg b = s.reg b := by
  unfold State.busError
  extract_lets code core word s1 s2
  have hs1 : s1.reg b = s.reg b := by
    unfold s1
    split
    · rfl
    · rw [State.reg_setRegN_other _ _ h2, State.reg_setRegN_other _ _ h1]
  have hc : ¬ code = 4 := by
    unfold code
    cases ag with
    | cuff => exact absurd rfl hag
    | crown | pcie | odsDebug | debugPort => simp
  rw [if_neg hc]
  exact (s1.reg_bump_other h3).trans hs1

/-- R395: a write refused because the part is not quiescent. -/
theorem State.refuseBusy_shows (hag : ag ≠ .cuff) {a : Nat} (ha : 0x20000 ≤ a) : (s.refuseBusy ag a).reg a = s.reg a ∧
    (s.refuseBusy ag a).bit (Reg.CFG_STATUS (blockOf a)) 0 = true ∧
    (s.refuseBusy ag a).reg (Reg.CFG_CNT_REJECT (blockOf a)) = s.reg (Reg.CFG_CNT_REJECT (blockOf a)) + 1 ∧
    (s.refuseBusy ag a).reg Reg.CFG_CNT_BUS_ERR = s.reg Reg.CFG_CNT_BUS_ERR + 1 := by
  have hk := blockOf_le a
  generalize hb : blockOf a = k at hk
  have hother : ∀ b, b ≠ Reg.CFG_CNT_REJECT k → b ≠ Reg.CFG_STATUS k → (s.cfgReject k).reg b = s.reg b := fun b h h' =>
    (State.reg_bump_other _ h).trans (s.reg_orReg_other _ h')
  unfold State.refuseBusy
  rw [hb]
  refine ⟨?_, ?_, ?_, ?_⟩
  · rw [State.reg_busError_other _ hag _ _ _ (by unfold Reg.CFG_BUS_ERR; omega) (by unfold Reg.CFG_BUS_ERR_ADDR; omega)
      (by unfold Reg.CFG_CNT_BUS_ERR; omega), hother _ (by unfold Reg.CFG_CNT_REJECT; omega) (by unfold Reg.CFG_STATUS; omega)]
  · rw [State.bit_ofReg (State.reg_busError_other _ hag _ _ _ (by unfold Reg.CFG_STATUS Reg.CFG_BUS_ERR; omega)
      (by unfold Reg.CFG_STATUS Reg.CFG_BUS_ERR_ADDR; omega) (by unfold Reg.CFG_STATUS Reg.CFG_CNT_BUS_ERR; omega)),
      State.cfgReject, State.bit_ofReg (State.reg_bump_other _ (by unfold Reg.CFG_STATUS Reg.CFG_CNT_REJECT; omega)),
      State.bit_orReg_same _ _ _ _ (by decide)]
    simp
  · rw [State.reg_busError_other _ hag _ _ _ (by unfold Reg.CFG_CNT_REJECT Reg.CFG_BUS_ERR; omega)
      (by unfold Reg.CFG_CNT_REJECT Reg.CFG_BUS_ERR_ADDR; omega) (by unfold Reg.CFG_CNT_REJECT Reg.CFG_CNT_BUS_ERR; omega)]
    exact (State.reg_bump_same _ _).trans (congrArg (· + 1) (s.reg_orReg_other _ (by unfold Reg.CFG_CNT_REJECT Reg.CFG_STATUS; omega)))
  · rw [State.reg_busError_count, hother _ (by unfold Reg.CFG_CNT_BUS_ERR Reg.CFG_CNT_REJECT; omega)
      (by unfold Reg.CFG_CNT_BUS_ERR Reg.CFG_STATUS; omega)]

end

/-! ## COMMIT (R402) -/

theorem cfgCtrl_row (k : Fin 117) (h : blockAssigned k = true) :
    (regDef (Reg.CFG_CTRL k)).map (fun d => (d.base, d.cls, d.ix0 (Reg.CFG_CTRL k))) = some (Reg.CFG_CTRL 0, .wo, k.val) := by
  revert k
  decide +kernel

theorem State.writeCommand_commit (s : State) (ag : Agent) (a i j : Nat) : s.writeCommand ag (Reg.CFG_CTRL 0) a i j 2 = s.commitBlock i := by
  unfold State.writeCommand
  rw [if_neg (by decide), if_neg (by decide), if_neg (by decide), if_neg (by decide), if_neg (by decide), if_pos rfl]
  rfl

/-! ## The writes -/

section
variable {s : State} {c : Instr} {ag : Agent} {a v : Nat} {d : RegDef}

theorem write_readOnly (hw : s.writes c ag a v) (hd : regDef a = some d) (hc : d.cls = .ro ∨ d.cls = .rc) (ha : a ≠ Reg.CUF_STOP) :
    ∃ t, exec c s = .next t ∧ t.regs = s.regs ∧ t.shadow = s.shadow := by
  obtain ⟨t, ht, hregs, hshadow⟩ := writes_next hw
  rw [State.writeReg_readOnly hw.1 hd hc ha] at hregs hshadow
  exact ⟨t, ht, hregs, hshadow⟩

theorem write_quiet (hw : s.writes c ag a v) (hd : regDef a = some d) (hs : d.signed = true → 0x20000 ≤ a) (hc : d.cls = .rwq)
    (hp : plainQuiet d.base = true) (hq : s.rwqQuiet d.base (d.ix0 a) (d.ix1 a) = true) :
    ∃ t, exec c s = .next t ∧ t.reg a = BitVec.ofNat 64 (writtenTo a (s.shown a).toNat v) ∧
      ∀ b, b ≠ a → b ≠ Reg.CFG_STATUS (blockOf a) → t.reg b = s.reg b := by
  obtain ⟨t, ht, hregs, -⟩ := writes_next hw
  rw [State.writeReg_quiet hw.1 hd hc, State.writeQuiet_plain hp, if_pos hq] at hregs
  obtain ⟨h1, h2⟩ := s.reg_storeReg_now hd (.inl hc) hs v
  exact ⟨t, ht, (State.reg_of_regs hregs a).trans h1, fun b hb hb' => (State.reg_of_regs hregs b).trans (h2 b hb hb')⟩

theorem write_busy (hw : s.writes c ag a v) (hd : regDef a = some d) (hc : d.cls = .rwq) (hp : plainQuiet d.base = true)
    (hq : s.rwqQuiet d.base (d.ix0 a) (d.ix1 a) = false) (hag : ag ≠ .cuff) (ha : 0x20000 ≤ a) :
    ∃ t, exec c s = .next t ∧ t.reg a = s.reg a ∧ t.bit (Reg.CFG_STATUS (blockOf a)) 0 = true ∧
      t.reg (Reg.CFG_CNT_REJECT (blockOf a)) = s.reg (Reg.CFG_CNT_REJECT (blockOf a)) + 1 ∧
      t.reg Reg.CFG_CNT_BUS_ERR = s.reg Reg.CFG_CNT_BUS_ERR + 1 := by
  obtain ⟨t, ht, hregs, -⟩ := writes_next hw
  rw [State.writeReg_quiet hw.1 hd hc, State.writeQuiet_plain hp, hq, if_neg Bool.false_ne_true] at hregs
  obtain ⟨h1, h2, h3, h4⟩ := s.refuseBusy_shows hag ha
  exact ⟨t, ht, (State.reg_of_regs hregs _).trans h1, (State.bit_ofReg (State.reg_of_regs hregs _) 0).trans h2,
    (State.reg_of_regs hregs _).trans h3, (State.reg_of_regs hregs _).trans h4⟩

theorem write_immediate (hw : s.writes c ag a v) (hd : regDef a = some d) (hs : d.signed = true → 0x20000 ≤ a)
    (hc : d.cls = .rwl .immediate) (hp : plainLive d.base = true) :
    ∃ t, exec c s = .next t ∧ t.reg a = BitVec.ofNat 64 (writtenTo a (s.shown a).toNat v) ∧
      ∀ b, b ≠ a → b ≠ Reg.CFG_STATUS (blockOf a) → t.reg b = s.reg b := by
  obtain ⟨t, ht, hregs, -⟩ := writes_next hw
  rw [State.writeReg_live hw.1 hd hc, State.writeLive_plain hp] at hregs
  obtain ⟨h1, h2⟩ := s.reg_storeReg_now hd (.inr hc) hs v
  exact ⟨t, ht, (State.reg_of_regs hregs a).trans h1, fun b hb hb' => (State.reg_of_regs hregs b).trans (h2 b hb hb')⟩

theorem write_shadowed (hw : s.writes c ag a v) (hd : regDef a = some d) (hs : d.signed = true → 0x20000 ≤ a) {b : Boundary}
    (hc : d.cls = .rwl b) (hb : b ≠ .immediate) (hp : plainLive d.base = true) :
    ∃ t, exec c s = .next t ∧ t.shown a = BitVec.ofNat 64 (writtenTo a (s.shown a).toNat v) ∧
      ∀ b', b' ≠ Reg.CFG_STATUS (blockOf a) → t.reg b' = s.reg b' := by
  obtain ⟨t, ht, hregs, hshadow⟩ := writes_next hw
  rw [State.writeReg_live hw.1 hd hc, State.writeLive_plain hp] at hregs hshadow
  obtain ⟨h1, h2⟩ := s.storeReg_shadow hd hc hb hs v
  refine ⟨t, ht, ?_, fun b' hb' => (State.reg_of_regs hregs b').trans (h2 b' hb')⟩
  unfold State.shown
  rw [hshadow, h1]
  rfl

theorem write_commit {k : Fin 117} (hw : s.writes c ag (Reg.CFG_CTRL k) 2) (hd : regDef (Reg.CFG_CTRL k) = some d)
    (hk : blockAssigned k = true) : ∃ t, exec c s = .next t ∧ t.bit (Reg.CFG_STATUS k) 4 = true := by
  have hrow := cfgCtrl_row k hk
  rw [hd, Option.map_some, Option.some_inj, Prod.mk.injEq, Prod.mk.injEq] at hrow
  obtain ⟨hbase, hcls, hix⟩ := hrow
  obtain ⟨t, ht, hregs, -⟩ := writes_next hw
  rw [State.writeReg_command hw.1 hd hcls, hbase, State.writeCommand_commit, hix, State.commitBlock, if_pos hk] at hregs
  refine ⟨t, ht, (State.bit_ofReg (State.reg_of_regs hregs _) 4).trans ?_⟩
  rw [State.bit_orReg_same _ _ _ _ (by decide), show Nat.testBit 16 4 = true by decide, Bool.or_true]

end

/-! ## Accesses that name no register (R390, R391) -/

section
variable {s : State} {ag : Agent} {c : Instr}

/-- A command that is a bus error of the dispatcher. -/
theorem next_busError {cause addr : Nat} {f : State → State} (he : exec c s = doneT s (s.powered f)) (hon : s.brm.off = false) (hag : ag ≠ .cuff)
    (hf : f s = s.busError ag true cause addr) : ∃ t, exec c s = .next t ∧ t.reg Reg.CFG_CNT_BUS_ERR = s.reg Reg.CFG_CNT_BUS_ERR + 1 ∧
      ∀ b, b ≠ Reg.CFG_BUS_ERR → b ≠ Reg.CFG_BUS_ERR_ADDR → b ≠ Reg.CFG_CNT_BUS_ERR → t.reg b = s.reg b := by
  have h1 := s.reg_busError_count ag true cause addr
  have h2 := fun b => s.reg_busError_other hag true cause addr (b := b)
  rw [he, State.powered_run _ _ hon, hf, doneT_next]
  generalize s.busError ag true cause addr = u at h1 h2
  exact ⟨_, rfl, h1, h2⟩

theorem State.softWrite_fails {addr size v : Nat} (h : size ≠ 8 ∨ addr % 8 ≠ 0 ∨ inAlias addr = false ∧ regExists addr = false) :
    ∃ cause, s.softWrite ag addr size v = s.busError ag true cause addr := by
  unfold State.softWrite
  by_cases hb : size ≠ 8 ∨ addr % 8 ≠ 0
  · exact ⟨2, if_pos hb⟩
  · obtain ⟨hi, hx⟩ := (or_assoc.2 h).resolve_left hb
    refine ⟨1, ?_⟩
    rw [if_neg hb, hi, if_neg Bool.false_ne_true]
    unfold State.writeReg
    split
    · rfl
    · simp only [hx, Bool.not_false, if_true]

theorem registerWrite_fails (hon : s.brm.off = false) (hag : ag ≠ .cuff) {addr size : Nat} (x : BitVec 64)
    (h : size ≠ 8 ∨ addr % 8 ≠ 0 ∨ inAlias addr = false ∧ regExists addr = false) :
    ∃ t, exec (.registerWrite ag addr size x) s = .next t ∧ t.reg Reg.CFG_CNT_BUS_ERR = s.reg Reg.CFG_CNT_BUS_ERR + 1 ∧
      ∀ b, b ≠ Reg.CFG_BUS_ERR → b ≠ Reg.CFG_BUS_ERR_ADDR → b ≠ Reg.CFG_CNT_BUS_ERR → t.reg b = s.reg b := by
  obtain ⟨cause, hc⟩ := State.softWrite_fails (s := s) (ag := ag) (v := x.toNat) h
  exact next_busError (exec_registerWrite s ag addr size x) hon hag hc

theorem bitAliasWrite_fails (hon : s.brm.off = false) (hag : ag ≠ .cuff) {addr : Nat} (x : BitVec 64) (h : inAlias addr = false) :
    ∃ t, exec (.bitAliasWrite ag addr x) s = .next t ∧ t.reg Reg.CFG_CNT_BUS_ERR = s.reg Reg.CFG_CNT_BUS_ERR + 1 ∧
      ∀ b, b ≠ Reg.CFG_BUS_ERR → b ≠ Reg.CFG_BUS_ERR_ADDR → b ≠ Reg.CFG_CNT_BUS_ERR → t.reg b = s.reg b :=
  next_busError (exec_bitAliasWrite s ag addr x) hon hag (by rw [h, if_neg Bool.false_ne_true])

end

/-- Settles O43: the three ways of writing meet in one write, which the class of the register decides. -/
theorem registerWritesFollowTheirClass : Obligations.RegisterWritesFollowTheirClass := by
  refine ⟨fun s c ag a v d hw hd hs => ⟨write_readOnly hw hd, write_quiet hw hd hs, fun hc hp hq hag ha => write_busy hw hd hc hp hq hag ha,
    write_immediate hw hd hs, fun b hc hb hp => write_shadowed hw hd hs hc hb hp, fun k ha hk hv => ?_⟩, fun s ag addr size x hon hag =>
    ⟨registerWrite_fails hon hag x, bitAliasWrite_fails hon hag x⟩⟩
  subst ha hv
  exact write_commit hw hd hk

end Sys2Proof.Machine
end

section
/-! PROOFS. ODS requests that are served: what they read, write and answer (R372 to R374, R380, R384 to R386, R414). -/

namespace Sys2Proof.Machine

/-! ## A request that is served (R374) -/

section
variable (s : State) (p : Fin 7) (src : Nat) (g : Bytes)

theorem exec_odsRead : exec (.odsRead p src g) s = doneT s (s.serve (fun u => u.odsArrive 1 p.val src g)) := (rfl)

theorem exec_odsWrite : exec (.odsWrite p src g) s = doneT s (s.serve (fun u => u.odsArrive 2 p.val src g)) := (rfl)

theorem exec_odsReadBlock : exec (.odsReadBlock p src g) s = doneT s (s.serve (fun u => u.odsArrive 3 p.val src g)) := (rfl)

theorem exec_odsWriteBlock : exec (.odsWriteBlock p src g) s = doneT s (s.serve (fun u => u.odsArrive 4 p.val src g)) := (rfl)

end

/-- The last of the responses kept is the newest one, however many earlier ones are dropped. -/
theorem getLast?_kept {α : Type} (xs : List α) (x : α) : ((xs ++ [x]).drop ((xs ++ [x]).length - 16)).getLast? = some x := by
  rw [List.getLast?_drop, if_neg (by simp), List.getLast?_concat]

section
variable {s : State} {op p src h : Nat} {g : Bytes} {q : OdsReq}

theorem State.hostOf_odsSeen (s : State) (p src : Nat) (w : Bool) : (s.odsSeen p).hostOf src w = s.hostOf src w := (rfl)

theorem State.keptOf_odsSeen (s : State) (p h : Nat) : (s.odsSeen p).keptOf h = s.keptOf h := (rfl)

theorem State.dictN_odsSeen (s : State) (p i sub : Nat) : (s.odsSeen p).dictN i sub = s.dictN i sub := (rfl)

/-- R374: a request that neither repeats nor precedes a kept one is executed. -/
theorem State.odsRequest_serves {u : State} (hnew : ∀ k ∈ u.keptOf h, k.1 ≠ q.seq)
    (hlow : u.keptOf h = [] ∨ ∃ k ∈ u.keptOf h, seqBelow q.seq k.1 = false) : u.odsRequest p h q = u.serveFresh p h q := by
  have hfind : (u.keptOf h).find? (fun k => k.1 == q.seq) = none := List.find?_eq_none.2 (fun k hk => by simpa using hnew k hk)
  have hall : (!(u.keptOf h).isEmpty && (u.keptOf h).all (fun k => seqBelow q.seq k.1)) = false := by
    rcases hlow with hnil | ⟨k, hk, hb⟩
    · rw [hnil]
      rfl
    · rw [Bool.and_eq_false_iff]
      exact .inr (List.all_eq_false.2 ⟨k, hk, by simp [hb]⟩)
  unfold State.odsRequest
  simp only [hfind, hall, Bool.false_eq_true, if_false]

/-- R372, R373: a well-formed request of a host entry that may make it reaches its entry. -/
theorem State.odsArrive_serves (ht : s.odsTaken op p src g h q) : s.odsArrive op p src g = (s.odsSeen p).serveFresh p h q := by
  obtain ⟨-, hport, hlen, hq, -, hop, hhost, hnew, hlow, -⟩ := ht
  have h1 : (decide (1 ≤ op) && decide (op ≤ 4) && op != op && decide (24 ≤ g.length)) = false := by simp
  have h2 : (decide (p < 6) && !s.portUp p) = false := by
    by_cases hp : p < 6
    · simp [(hport hp).1]
    · simp [hp]
  have h3 : ¬ (p < 6 ∧ s.dictN (0x1A00 + p) 5 = 0) := fun hc => (hport hc.1).2 hc.2
  unfold State.odsArrive
  simp only [hq, hop, h1, h2, Bool.false_eq_true, if_false, if_neg (Nat.not_lt.2 hlen), if_neg h3]
  have hh := (s.hostOf_odsSeen p src (op == 2 || op == 4)).trans hhost
  unfold State.odsSeen at hh ⊢
  simp only [hh]
  exact State.odsRequest_serves hnew hlow

/-- What the end of a command that moves the time leaves. -/
theorem doneT_shows (s u : State) : ∃ t, doneT s u = .next t ∧ t.sys = u.sys ∧ t.time = u.time ∧ t.dict = u.dict ∧ t.octets = u.octets :=
  ⟨_, rfl, rfl, rfl, rfl, rfl⟩

theorem State.host_odsSend (s : State) (p : Nat) (dgram : Bytes) (h : Nat) : (s.odsSend p dgram).host h = s.host h := (rfl)

/-- R374: what a request that is executed without an abort leaves. -/
theorem odsServed {c : Instr} {u : State} {data : Bytes} {last : Bool}
    (he : exec c s = doneT s (s.serve (fun u => u.odsArrive op p src g))) (ht : s.odsTaken op p src g h q)
    (hx : (s.odsSeen p).execute h q = ⟨u, 0, data, last⟩) : ∃ t, exec c s = .next t ∧ t.odsAnswered h q 0 data last ∧ t.dict = u.dict ∧
      t.octets = u.octets ∧ (t.host h).capture = (u.host h).capture ∧ (t.host h).write = (u.host h).write := by
  have hs : (s.odsSeen p).serveFresh p h q = (u.setHost h { u.host h with
      kept := (u.keptOf h ++ [(q.seq, u.now, q.response 0 data last)]).drop
        ((u.keptOf h ++ [(q.seq, u.now, q.response 0 data last)]).length - 16) }).odsSend p (q.response 0 data last) := by
    unfold State.serveFresh
    simp only [hx, State.aborted_zero]
  rw [he, State.serve_run _ _ ht.1, doneT_next, State.odsArrive_serves ht, hs]
  obtain ⟨t, ht', hsys, htime, hdict, hoct⟩ := doneT_shows s ((u.setHost h { u.host h with
      kept := (u.keptOf h ++ [(q.seq, u.now, q.response 0 data last)]).drop
        ((u.keptOf h ++ [(q.seq, u.now, q.response 0 data last)]).length - 16) }).odsSend p (q.response 0 data last))
  have hlast := getLast?_kept (u.keptOf h) (q.seq, u.now, q.response 0 data last)
  have hhost := (State.host_of_sys h hsys).trans ((State.host_odsSend _ p (q.response 0 data last) h).trans (u.host_setHost h _))
  have hcap := congrArg OdsHost.capture hhost
  have hwr := congrArg OdsHost.write hhost
  refine ⟨t, ht', ⟨congrArg Sys.reply hsys, ?_⟩, hdict, hoct, hcap, hwr⟩
  have hnow : t.now = u.now := congrArg (fun x : TimeBases => (x.tb0.val / 2 ^ 32) % 2 ^ 64) htime
  rw [hnow, hhost]
  exact hlast

/-- R385, R386: what the checks of a request that is served leave to do. -/
theorem State.execute_taken (ht : s.odsTaken op p src g h q) : (s.odsSeen p).execute h q =
    match (s.odsSeen p).entryDef q.index q.sub with
    | none =>
      if op = 1 then ⟨s.odsSeen p, 0, List.replicate 8 0, false⟩
      else if op = 3 then ⟨s.odsSeen p, 0, [], true⟩
      else ⟨(s.odsSeen p).ignoreWrite q.index q.sub, 0, [], false⟩
    | some d =>
      if op = 1 then (s.odsSeen p).readEntry h d q.index q.sub
      else if op = 3 then
        (if typeVariable d.type then (s.odsSeen p).readOdsBlock h q.index q.sub q.off q.len else ⟨s.odsSeen p, 3, [], false⟩)
      else if d.access < 2 then ⟨s.odsSeen p, 2, [], false⟩
      else if op = 2 then
        (if typeVariable d.type || q.len != typeSize d.type then ⟨s.odsSeen p, 3, [], false⟩
         else ⟨((s.odsSeen p).writeNum h d q.index q.sub (leNat q.data)).1, ((s.odsSeen p).writeNum h d q.index q.sub (leNat q.data)).2, [],
          false⟩)
      else if typeVariable d.type then
        ⟨((s.odsSeen p).writeBlock h d q.index q.sub q.off q.data (q.flags.testBit 1)).1,
          ((s.odsSeen p).writeBlock h d q.index q.sub q.off q.data (q.flags.testBit 1)).2, [], false⟩
      else ⟨s.odsSeen p, 3, [], false⟩ := by
  obtain ⟨-, -, -, -, hbad, hop, -, -, -, hdbg⟩ := ht
  unfold State.execute
  rewrite [hbad, if_neg Bool.false_ne_true, if_neg (fun hc => hdbg hc.1 ((s.dictN_odsSeen p 0x1000 5).symm.trans hc.2)), hop]
  rfl

end

/-! ## Reads (R384, R385, R386) -/

section
variable {s : State} {p : Fin 7} {src h : Nat} {g : Bytes} {q : OdsReq} {d : DictDef}

theorem odsRead_none (ht : s.odsTaken 1 p src g h q) (hd : (s.odsSeen p).entryDef q.index q.sub = none) :
    ∃ t, exec (.odsRead p src g) s = .next t ∧ t.odsAnswered h q 0 (List.replicate 8 0) false := by
  have hx := State.execute_taken ht
  rw [hd] at hx
  obtain ⟨t, hn, ha, -⟩ := odsServed (exec_odsRead s p src g) ht hx
  exact ⟨t, hn, ha⟩

theorem odsRead_value (ht : s.odsTaken 1 p src g h q) (hd : (s.odsSeen p).entryDef q.index q.sub = some d)
    (hv : typeVariable d.type = false) (hdbg : ¬ (q.index = 0xF000 ∧ q.sub = 2)) : ∃ t, exec (.odsRead p src g) s = .next t ∧
      t.odsAnswered h q 0 (natLE (typeSize d.type) ((s.odsSeen p).entryNum h q.index q.sub)) false := by
  have hx := State.execute_taken ht
  simp only [hd, if_true, State.readEntry, hv, Bool.false_eq_true, if_false, if_neg hdbg] at hx
  obtain ⟨t, hn, ha, -⟩ := odsServed (exec_odsRead s p src g) ht hx
  exact ⟨t, hn, ha⟩

/-- R384: the piece that an OFFSET of 0 asks for. -/
theorem imgPart_zero (v : Bytes) (n : Nat) : imgPart v 0 n = v.take n := by
  rfl

theorem odsReadBlock_piece (ht : s.odsTaken 3 p src g h q) {u : State} {v piece : Bytes}
    (hd : (s.odsSeen p).entryDef q.index q.sub = some d) (hv : typeVariable d.type = true) (ho : q.off = 0)
    (hc : (s.odsSeen p).captureValue h q.index q.sub = (u, 0, v))
    (hp : v.take (if q.len = 0 then 1400 else Nat.min q.len 1400) = piece) : ∃ t, exec (.odsReadBlock p src g) s = .next t ∧
      t.odsAnswered h q 0 piece (decide (v.length ≤ piece.length)) ∧
      (t.host h).capture = if v.length ≤ piece.length then none else some (dictKey q.index q.sub, v, piece.length, u.now) := by
  have hx := State.execute_taken ht
  simp only [hd, hv, if_true, Nat.reduceEqDiff, if_false, State.readOdsBlock, ho, hc, State.servePiece, imgPart_zero, hp, Nat.zero_add,
    decide_eq_true_eq] at hx
  obtain ⟨t, hn, ha, -, -, hcap, -⟩ := odsServed (exec_odsReadBlock s p src g) ht hx
  refine ⟨t, hn, ha, hcap.trans ?_⟩
  exact congrArg OdsHost.capture (u.host_setHost h _)

end

/-! ## Writes (R373, R385, R386) -/

section
variable {s : State} {p : Fin 7} {src h : Nat} {g : Bytes} {q : OdsReq} {d : DictDef}

theorem odsWrite_none (ht : s.odsTaken 2 p src g h q) (hd : (s.odsSeen p).entryDef q.index q.sub = none) :
    ∃ t, exec (.odsWrite p src g) s = .next t ∧ t.odsAnswered h q 0 [] false ∧ t.dictN 0x5000 1 = (s.dictN 0x5000 1 + 1) % 2 ^ 64 ∧
      t.dictN 0x5000 2 = q.index + q.sub * 65536 := by
  have hx := State.execute_taken ht
  rw [hd] at hx
  obtain ⟨t, hn, ha, hdict, -⟩ := odsServed (exec_odsWrite s p src g) ht hx
  have hof : ∀ i sub, t.dictN i sub = ((s.odsSeen p).ignoreWrite q.index q.sub).dictN i sub := fun i sub =>
    congrArg (fun m => SMap.get dictReset m (dictKey i sub)) hdict
  refine ⟨t, hn, ha, (hof 0x5000 1).trans ?_, (hof 0x5000 2).trans ?_⟩
  · unfold State.ignoreWrite
    rw [State.dictN_setDictN_sub _ _ _ (by decide), State.dictN_setDictN_same]
    rfl
  · exact State.dictN_setDictN_same _ _ _ _

/-- R385: an entry whose value the dictionary holds is set. -/
theorem State.putNum_plain {u : State} {i sub v : Nat} (h : Nat)
    (hp : 0x1A00 ≤ i ∧ i < 0x1A06 ∨ 0x8000 ≤ i ∧ i < 0x8C00 ∧ sub ≠ 1) : u.putNum h i sub v = (u.setDictN i sub v, 0) := by
  have hf : entryField i sub = none := by
    unfold entryField
    rw [if_neg (by omega), if_neg (by omega)]
  unfold State.putNum
  rw [hf]
  dsimp only
  rw [if_neg (by omega), if_neg (by omega), if_neg (by omega), if_neg (by omega), if_neg (by omega), if_neg (by omega), if_neg (by omega),
    if_neg (by omega), if_neg (by omega), if_neg (by omega), if_neg (by omega), if_neg (by omega), if_neg (by omega)]

theorem odsWrite_sets (ht : s.odsTaken 2 p src g h q) (hd : (s.odsSeen p).entryDef q.index q.sub = some d)
    (hv : typeVariable d.type = false) (ha : 2 ≤ d.access) (hl : q.len = typeSize d.type) (hacc : d.accepts (leNat q.data) = true)
    (hq : d.access = 4 → (s.odsSeen p).entryQuiet q.index q.sub (leNat q.data) = true)
    (hp : 0x1A00 ≤ q.index ∧ q.index < 0x1A06 ∨ 0x8000 ≤ q.index ∧ q.index < 0x8C00 ∧ q.sub ≠ 1) :
    ∃ t, exec (.odsWrite p src g) s = .next t ∧ t.odsAnswered h q 0 [] false ∧ t.dictN q.index q.sub = leNat q.data := by
  have hquiet : (d.access == 4 && !(s.odsSeen p).entryQuiet q.index q.sub (leNat q.data)) = false := by
    by_cases h4 : d.access = 4
    · simp [hq h4]
    · simp [h4]
  have hw : (s.odsSeen p).writeNum h d q.index q.sub (leNat q.data) = ((s.odsSeen p).setDictN q.index q.sub (leNat q.data), 0) := by
    unfold State.writeNum
    rw [hacc, Bool.not_true, if_neg Bool.false_ne_true, hquiet, if_neg Bool.false_ne_true, State.putNum_plain h hp]
  have hx := State.execute_taken ht
  simp only [hd, Nat.reduceEqDiff, if_false, if_neg (Nat.not_lt.2 ha), if_true, hv, hl, bne_self_eq_false, Bool.or_self, Bool.false_eq_true,
    hw] at hx
  obtain ⟨t, hn, hans, hdict, -⟩ := odsServed (exec_odsWrite s p src g) ht hx
  exact ⟨t, hn, hans, (congrArg (fun m => SMap.get dictReset m (dictKey q.index q.sub)) hdict).trans (State.dictN_setDictN_same _ _ _ _)⟩

/-! ## Blocks written in pieces (R373) -/

theorem State.execute_block (ht : s.odsTaken 4 p src g h q) {u : State} (hd : (s.odsSeen p).entryDef q.index q.sub = some d)
    (hv : typeVariable d.type = true) (ha : 2 ≤ d.access)
    (hw : (s.odsSeen p).writeBlock h d q.index q.sub q.off q.data (q.flags.testBit 1) = (u, 0)) :
    (s.odsSeen p).execute h q = ⟨u, 0, [], false⟩ := by
  have hx := State.execute_taken ht
  simpa only [hd, Nat.reduceEqDiff, if_false, if_neg (Nat.not_lt.2 ha), hv, if_true, hw] using hx

theorem odsWriteBlock_keeps (ht : s.odsTaken 4 p src g h q) (hd : (s.odsSeen p).entryDef q.index q.sub = some d)
    (hv : typeVariable d.type = true) (ha : 2 ≤ d.access) (ho : q.off = 0) (hi : q.index ≠ 0x3201)
    (hl : q.data.length ≤ typeSize d.type) (hf : q.flags.testBit 1 = false) : ∃ t, exec (.odsWriteBlock p src g) s = .next t ∧
      t.odsAnswered h q 0 [] false ∧ (t.host h).write = some (q.index, q.sub, q.data) := by
  have hw : (s.odsSeen p).writeBlock h d q.index q.sub q.off q.data (q.flags.testBit 1) = ((s.odsSeen p).setHost h
      { (s.odsSeen p).host h with write := some (q.index, q.sub, q.data) }, 0) := by
    unfold State.writeBlock
    simp only [if_neg hi, OdsHost.withPiece, ho, if_true, if_neg (Nat.not_lt.2 hl), hf, Bool.not_false]
  obtain ⟨t, hn, hans, -, -, -, hwr⟩ := odsServed (exec_odsWriteBlock s p src g) ht (State.execute_block ht hd hv ha hw)
  exact ⟨t, hn, hans, hwr.trans (congrArg OdsHost.write (State.host_setHost _ h _))⟩

theorem odsWriteBlock_sets (ht : s.odsTaken 4 p src g h q) (hd : (s.odsSeen p).entryDef q.index q.sub = some d)
    (hv : typeVariable d.type = true) (ha : 2 ≤ d.access) (ho : q.off = 0) (hi : q.index ≠ 0x3201)
    (hl : q.data.length ≤ typeSize d.type) (hf : q.flags.testBit 1 = true) (h2 : q.index ≠ 0x3202) (h3 : q.index ≠ 0x3210)
    (h4 : ¬ (0x4010 ≤ q.index ∧ q.index < 0x5000)) (hq : d.access = 4 → (s.odsSeen p).entryQuiet q.index q.sub 0 = true) :
    ∃ t, exec (.odsWriteBlock p src g) s = .next t ∧ t.odsAnswered h q 0 [] false ∧ (t.host h).write = none ∧
      t.octetsOf q.index q.sub = q.data := by
  have hquiet : (d.access == 4 && !(s.odsSeen p).entryQuiet q.index q.sub 0) = false := by
    by_cases h4 : d.access = 4
    · simp [hq h4]
    · simp [h4]
  have hw : (s.odsSeen p).writeBlock h d q.index q.sub q.off q.data (q.flags.testBit 1) = (((s.odsSeen p).setHost h
      { (s.odsSeen p).host h with write := none }).setOctets q.index q.sub q.data, 0) := by
    unfold State.writeBlock
    simp only [if_neg hi, OdsHost.withPiece, ho, if_true, if_neg (Nat.not_lt.2 hl), hf, Bool.not_true, Bool.false_eq_true, if_false, hquiet,
      State.putBytes, if_neg h2, if_neg h3, if_neg h4]
  obtain ⟨t, hn, hans, -, hoct, -, hwr⟩ := odsServed (exec_odsWriteBlock s p src g) ht (State.execute_block ht hd hv ha hw)
  refine ⟨t, hn, hans, hwr.trans (congrArg OdsHost.write (State.host_setHost _ h _)), ?_⟩
  exact (congrArg (fun m => SMap.get (fun _ => []) m (dictKey q.index q.sub)) hoct).trans (SMap.get_set_same _ _ _ _)

end

/-- Settles O41: a request that is taken is executed once, and its answer is the newest kept response. -/
theorem objectsAreReadAndWritten : Obligations.ObjectsAreReadAndWritten := by
  intro s p src g h q
  exact ⟨fun ht => ⟨odsRead_none ht, fun d hd hv hdbg => odsRead_value ht hd hv hdbg⟩,
    fun ht => ⟨odsWrite_none ht, fun d hd hv ha hl hacc hq hp => odsWrite_sets ht hd hv ha hl hacc hq hp⟩,
    fun ht d u v hd hv ho hc => odsReadBlock_piece ht hd hv ho hc rfl,
    fun ht d hd hv ha ho hi hl => ⟨odsWriteBlock_keeps ht hd hv ha ho hi hl,
      fun hf h2 h3 h4 hq => odsWriteBlock_sets ht hd hv ha ho hi hl hf h2 h3 h4 hq⟩⟩

end Sys2Proof.Machine
end

section
/-! PROOFS. Frames received, forwarded and answered; gate control lists; links; inbound PCIe accesses (R358, R359, R361, R372, R375,
R518). -/

namespace Sys2Proof.Machine

/-! ## Frames that leave (R358, R359) -/

section
variable (s : State)

theorem State.net_countFrags (p tc : Nat) (f : Bytes) : (s.countFrags p tc f).net = s.net := by
  unfold State.countFrags
  split
  · rfl
  · rfl

theorem State.reg_countFrags {p a : Nat} (tc : Nat) (f : Bytes) (h : a ≠ Reg.NET_CNT_FRAG p) : (s.countFrags p tc f).reg a = s.reg a := by
  unfold State.countFrags
  split
  · exact s.reg_add_other _ h
  · rfl

theorem State.net_transmit (p : Nat) (f : Bytes) :
    (s.transmit p f).net = { s.net with lastTx := SMap.set (fun _ => []) s.net.lastTx p f } := (rfl)

theorem State.fdb_ite {c : Prop} [Decidable c] {m : OMap Nat} {t u : State} (ht : t.net.fdb = m) (hu : u.net.fdb = m) :
    (if c then t else u).net.fdb = m := by
  split
  · exact ht
  · exact hu

theorem State.fdb_egress (p tc : Nat) (f : Bytes) : (s.egress p tc f).net.fdb = s.net.fdb := by
  have hsent : ((s.countFrags p tc f).transmit p f).net.fdb = s.net.fdb := by rw [State.net_transmit, State.net_countFrags]
  exact State.fdb_ite rfl (State.fdb_ite hsent rfl)

theorem State.fdb_segReady (k : Nat) (output : Bool) (f : Bytes) : (s.segReady k output f).net.fdb = s.net.fdb :=
  State.fdb_ite rfl (State.fdb_ite rfl rfl)

theorem State.fdb_forwardTo (q : Nat) (f : Bytes) : (s.forwardTo q f).net.fdb = s.net.fdb :=
  State.fdb_ite (s.fdb_egress _ _ _) (State.fdb_ite rfl (s.fdb_segReady _ _ _))

variable {s}

/-- R359: a frame for a port that is up, the gate of whose class is open, leaves at once. -/
theorem State.egress_open {p tc : Nat} (f : Bytes) (hd : s.dictN (0x1A00 + p) 1 ≠ 0) (hb : s.bit Reg.NET_STATE p = true)
    (hg : s.gateOpen p tc = true) : s.egress p tc f = (s.countFrags p tc f).transmit p f := by
  unfold State.egress
  rw [if_neg (by simp [hd, hb]), if_pos hg]

theorem State.egress_sends {p tc : Nat} (f : Bytes) (hd : s.dictN (0x1A00 + p) 1 ≠ 0) (hb : s.bit Reg.NET_STATE p = true)
    (hg : s.gateOpen p tc = true) : SMap.get (fun _ => []) (s.egress p tc f).net.lastTx p = f ∧
      (s.egress p tc f).reg (Reg.NET_CNT_TX p) = s.reg (Reg.NET_CNT_TX p) + 1 := by
  rw [State.egress_open f hd hb hg]
  refine ⟨State.lastTx_transmit _ _ _, ?_⟩
  rw [State.reg_transmit, if_pos rfl, State.reg_countFrags _ _ _ (by unfold Reg.NET_CNT_TX Reg.NET_CNT_FRAG; omega)]

/-- R358: a frame for the Crown, or for a port that it can leave by at once. -/
theorem State.lastTx_forwardTo {q : Nat} (f : Bytes) (h : (6 ≤ q ∧ q < 9) ∨
    (q < 6 ∧ s.dictN (0x1A00 + q) 1 ≠ 0 ∧ s.bit Reg.NET_STATE q = true ∧ s.gateOpen q (frClass f) = true)) :
    SMap.get (fun _ => []) (s.forwardTo q f).net.lastTx q = f := by
  unfold State.forwardTo
  rcases h with ⟨h6, h9⟩ | ⟨h6, hd, hb, hg⟩
  · rw [if_neg (by omega), if_pos h9, State.lastTx_transmit]
  · rw [if_pos h6]
    exact (State.egress_sends f hd hb hg).1

end

/-! ## Reception (R358, R361) -/

section
variable {s u : State} {p : Nat} {f : Bytes}

/-- A frame that passes has its source learned last. -/
theorem State.receive_learns (h : s.receive p f = (u, true)) : ∃ w : State, u = w.learn p (s.vlanOf p f) (frSrc f) := by
  have no : ∀ {w : State} {P : Prop}, (w, false) = (u, true) → P := fun e =>
    absurd (congrArg Prod.snd e : false = true) Bool.false_ne_true
  unfold State.receive at h
  dsimp only at h
  split at h
  · exact no h
  split at h
  · exact no h
  split at h
  · exact no h
  split at h
  · exact no h
  split at h
  · exact no h
  · exact ⟨_, (congrArg Prod.fst h).symm⟩

theorem State.learn_knows {w : State} {vid mac : Nat} (hp : p < 6) (hm : (mac >>> 40).testBit 0 = false)
    (hl : (w.learn p vid mac).net.fdb.length < 8192) : (w.learn p vid mac).net.fdb.find (vid * 2 ^ 48 + mac) = some p := by
  unfold State.learn at hl ⊢
  dsimp only at hl ⊢
  rw [if_neg (by simp [hm, hp])] at hl ⊢
  split
  case isTrue hc =>
    rw [if_pos hc] at hl
    exact absurd hc.2 (Nat.not_le.2 hl)
  case isFalse => exact OMap.find_put_same _ _ _

end

section
variable (s : State)

theorem exec_frameRx (p : Fin 10) (f : Bytes) : exec (.frameRx p f) s = done s (s.work (fun u => u.frameRx p.val f)) := (rfl)

theorem exec_arpRequest (p : Fin 6) (f : Bytes) : exec (.arpRequest p f) s = done s (s.work (fun u => u.arp p.val f)) := (rfl)

theorem exec_icmpEcho (p : Fin 6) (f : Bytes) : exec (.icmpEcho p f) s = done s (s.work (fun u => u.icmp p.val f)) := (rfl)

theorem exec_gclCycleStart (p : Fin 6) : exec (.gclCycleStart p) s = done s (s.work (fun u => u.gclCycle p.val)) := (rfl)

theorem exec_gclEntryExpiry (p : Fin 6) : exec (.gclEntryExpiry p) s = done s (s.work (fun u => u.gclEntry p.val)) := (rfl)

theorem exec_portLinkChange (p : Fin 6) (up preempt : Bool) : exec (.portLinkChange p up preempt) s =
    done s (s.powered (fun u => u.portLink p.val up preempt)) := (rfl)

theorem exec_pcieLinkChange (up : Bool) (width rate : Fin 8) : exec (.pcieLinkChange up width rate) s =
    done s (s.powered (fun u => u.pcieLink up width.val rate.val)) := (rfl)

theorem exec_pcieInboundAccess (w : Fin 9) (off : Nat) (wr : Bool) (data : Bytes) : exec (.pcieInboundAccess w off wr data) s =
    done s (s.work (fun u => u.pcieAccess w.val off wr data)) := (rfl)

end

section
variable {s u : State}

theorem frameRx_shows (hr : s.running = true) {p : Fin 10} {f : Bytes} {v : Nat} (hu : s.receive p f = (u, true)) (hv : s.vlanOf p f = v) :
    ∃ t, exec (.frameRx p f) s = .next t ∧ t.reg (Reg.NET_CNT_RX (switchPort p)) = s.reg (Reg.NET_CNT_RX (switchPort p)) + 1 ∧
      (p.val < 6 → (frSrc f >>> 40).testBit 0 = false → u.net.fdb.length < 8192 →
        t.net.fdb.find (v * 2 ^ 48 + frSrc f) = some p.val) ∧
      (∀ q, u.destinations p v f = [q] → ((6 ≤ q ∧ q < 9) ∨
          (q < 6 ∧ u.dictN (0x1A00 + q) 1 ≠ 0 ∧ u.bit Reg.NET_STATE q = true ∧ u.gateOpen q (frClass f) = true)) →
        SMap.get (fun _ => []) t.net.lastTx q = f) := by
  have he : s.frameRx p f = (each (u.destinations p v f) (fun t q => t.forwardTo q f) u).setReg (Reg.NET_CNT_RX (switchPort p))
      (s.reg (Reg.NET_CNT_RX (switchPort p)) + 1) := by
    unfold State.frameRx
    simp only [hu, hv, Bool.not_true, Bool.false_eq_true, if_false]
  obtain ⟨t, ht, hregs, hnet, -⟩ := next_work_shows (exec_frameRx s p f) hr he
  rw [State.setReg_net] at hnet
  refine ⟨t, ht, ?_, fun hp hm hl => ?_, fun q hq hout => ?_⟩
  · rw [State.reg_of_regs hregs, State.reg_setReg_same]
  · have hfdb : t.net.fdb = u.net.fdb := (congrArg Net.fdb hnet).trans
      (each_inv (fun t : State => t.net.fdb = u.net.fdb) _ _ u rfl (fun t q _ ht => (t.fdb_forwardTo q f).trans ht))
    obtain ⟨w, hw⟩ := State.receive_learns hu
    rw [hv] at hw
    rw [hfdb, hw]
    rw [hw] at hl
    exact State.learn_knows hp hm hl
  · rw [hq] at hnet
    rw [hnet]
    exact State.lastTx_forwardTo f hout

/-! ## Answers (R372) -/

/-- An answer that leaves by the port its request came from. -/
theorem answered {c : Instr} {g : State → State} {p : Fin 6} {a : Bytes} (he : exec c s = done s (s.work g)) (hr : s.running = true)
    (hg : g s = u.answer p a) (hd : u.dictN (0x1A00 + p) 1 ≠ 0) (hb : u.bit Reg.NET_STATE p = true)
    (ho : u.gateOpen p (frClass a) = true) : ∃ t, exec c s = .next t ∧ SMap.get (fun _ => []) t.net.lastTx p = a ∧
      t.reg (Reg.NET_CNT_TX p) = u.reg (Reg.NET_CNT_TX p) + 1 := by
  obtain ⟨t, ht, hregs, hnet, -⟩ := next_work_shows he hr hg
  obtain ⟨h1, h2⟩ := State.egress_sends a hd hb ho
  exact ⟨t, ht, (congrArg (fun n : Net => SMap.get (fun _ => []) n.lastTx p) hnet).trans h1, (State.reg_of_regs hregs _).trans h2⟩

theorem State.arp_answers {p : Nat} {f : Bytes} (hu : s.receive p f = (u, true)) (ht : frType f = 0x0806) (hl : 28 ≤ (frBody f).length)
    (ho : fieldBE (frBody f) 6 2 = 1) (hip : fieldBE (frBody f) 24 4 = s.ownIp) : s.arp p f = u.answer p (s.arpAnswer f) := by
  unfold State.arp
  simp only [hu]
  exact if_neg (by simp [ht, ho, hip, Nat.not_lt.2 hl])

theorem State.icmp_answers {p : Nat} {f : Bytes} (hu : s.receive p f = (u, true)) (ht : frType f = 0x0800)
    (h28 : 28 ≤ fieldBE (frBody f) 2 2) (hl : fieldBE (frBody f) 2 2 ≤ (frBody f).length) (hv : fieldLE (frBody f) 0 1 = 0x45)
    (hpr : fieldLE (frBody f) 9 1 = 1) (hip : fieldBE (frBody f) 16 4 = s.ownIp) (hty : fieldLE (frBody f) 20 1 = 8)
    (hfr : fieldBE (frBody f) 6 2 % 0x4000 = 0) : s.icmp p f = u.answer p (s.icmpAnswer f) := by
  unfold State.icmp
  simp only [hu]
  exact if_neg (by simp [ht, hv, hpr, hip, hty, hfr, Nat.not_lt.2 hl, Nat.not_lt.2 h28])

end

/-! ## Gate control lists (R359) -/

section
variable (s : State) (p : Nat)

/-- R359: frames that leave as gates open change neither the lists nor the count of cycles passed over. -/
theorem State.drainPort_keeps : (s.drainPort p).net.gcl = s.net.gcl ∧
    (s.drainPort p).reg (Reg.NET_CNT_GCL_SKIP p) = s.reg (Reg.NET_CNT_GCL_SKIP p) := by
  unfold State.drainPort
  refine each_inv (fun t : State => t.net.gcl = s.net.gcl ∧ t.reg (Reg.NET_CNT_GCL_SKIP p) = s.reg (Reg.NET_CNT_GCL_SKIP p)) _ _ _
    ⟨rfl, rfl⟩ (fun t f _ ht => ⟨?_, ?_⟩)
  · exact (congrArg Net.gcl (t.net_countFrags p f.1 f.2)).trans ht.1
  · rw [State.reg_transmit, if_neg (by unfold Reg.NET_CNT_GCL_SKIP Reg.NET_CNT_TX; omega),
      State.reg_countFrags _ _ _ (by unfold Reg.NET_CNT_GCL_SKIP Reg.NET_CNT_FRAG; omega), ht.2]
    exact BitVec.add_zero _

theorem State.gcl_setGcl (g : Option Gcl) : (s.setGcl p g).net.gcl.find p = g := by
  cases g with
  | none => exact OMap.find_drop_same _ _
  | some x => exact OMap.find_put_same _ _ _

/-- R359: the list whose cycles port `p` runs from now on. -/
def State.gclNext (s : State) (p : Nat) : Option Bytes :=
  if s.octetsOf (0x1A10 + p) 1 != [] && decide (Config.gclBase (s.octetsOf (0x1A10 + p) 1) ≤ s.gclNow (s.octetsOf (0x1A10 + p) 1)) then
    some (s.octetsOf (0x1A10 + p) 1)
  else if s.octetsOf (0x1A10 + p) 1 = [] then none else (s.net.gcl.find p).map (·.list)

/-- R359: cycles of the list `l` that a forward step passed over on port `p`. -/
def State.gclPassed (s : State) (p : Nat) (l : Bytes) : Nat :=
  match s.net.gcl.find p with
  | some g => if g.list = l then gclIndex l (s.gclNow l) - gclIndex l g.start - 1 else 0
  | none => 0

variable {s p}

theorem State.gclCycle_none (h : s.gclNext p = none) : s.gclCycle p = (s.setGcl p none).drainPort p := by
  unfold State.gclNext at h
  unfold State.gclCycle
  simp only [h]

theorem State.gclCycle_some {l : Bytes} (h : s.gclNext p = some l) (hr : s.gclRuns p l = false) : s.gclCycle p =
    ((s.setGcl p (some ⟨l, 0, gclStart l (s.gclNow l)⟩)).add (Reg.NET_CNT_GCL_SKIP p) (s.gclPassed p l)).drainPort p := by
  unfold State.gclNext at h
  unfold State.gclCycle
  simp only [h, hr, Bool.false_eq_true, if_false]
  rfl

theorem gclCycleStart_shows {p : Fin 6} (hr : s.running = true) (h : ∀ l, s.gclNext p = some l → s.gclRuns p l = false) :
    ∃ t, exec (.gclCycleStart p) s = .next t ∧
      t.net.gcl.find p = (s.gclNext p).map (fun l => ⟨l, 0, gclStart l (s.gclNow l)⟩) ∧
      (∀ g, s.net.gcl.find p = some g → s.gclNext p = some g.list → t.reg (Reg.NET_CNT_GCL_SKIP p) = s.reg (Reg.NET_CNT_GCL_SKIP p) +
        BitVec.ofNat 64 (gclIndex g.list (s.gclNow g.list) - gclIndex g.list g.start - 1)) := by
  cases hl : s.gclNext p with
  | none =>
    obtain ⟨t, ht, -, hnet, -⟩ := next_work_shows (exec_gclCycleStart s p) hr (State.gclCycle_none hl)
    refine ⟨t, ht, ?_, fun g _ hg => by cases hg⟩
    rw [hnet, (State.drainPort_keeps _ _).1, State.gcl_setGcl]
    rfl
  | some l =>
    obtain ⟨t, ht, hregs, hnet, -⟩ := next_work_shows (exec_gclCycleStart s p) hr (State.gclCycle_some hl (h l hl))
    refine ⟨t, ht, ?_, fun g hg hgl => ?_⟩
    · rw [hnet, (State.drainPort_keeps _ _).1]
      exact s.gcl_setGcl p (some ⟨l, 0, gclStart l (s.gclNow l)⟩)
    · have hpass : s.gclPassed p l = gclIndex g.list (s.gclNow g.list) - gclIndex g.list g.start - 1 := by
        unfold State.gclPassed
        rw [hg]
        cases hgl
        exact if_pos rfl
      rw [State.reg_of_regs hregs, (State.drainPort_keeps _ _).2, State.reg_add_same, hpass]
      rfl

theorem gclEntryExpiry_shows {p : Fin 6} (hr : s.running = true) {g : Gcl} (hg : s.net.gcl.find p = some g)
    (hd : g.start + gclEnd g.list g.idx ≤ s.gclNow g.list) : ∃ t, exec (.gclEntryExpiry p) s = .next t ∧
      t.net.gcl.find p = some (if g.idx + 1 < Config.gclLen g.list then { g with idx := g.idx + 1 } else g) := by
  by_cases hi : g.idx + 1 < Config.gclLen g.list
  · have he : s.gclEntry p = (s.setGcl p (some { g with idx := g.idx + 1 })).drainPort p := by
      unfold State.gclEntry
      simp only [hg]
      exact if_neg (by omega)
    obtain ⟨t, ht, -, hnet, -⟩ := next_work_shows (exec_gclEntryExpiry s p) hr he
    refine ⟨t, ht, ?_⟩
    rw [hnet, (State.drainPort_keeps _ _).1, State.gcl_setGcl, if_pos hi]
  · have he : s.gclEntry p = s := by
      unfold State.gclEntry
      simp only [hg]
      exact if_pos (.inl (by omega))
    obtain ⟨t, ht, -, hnet, -⟩ := next_work_shows (exec_gclEntryExpiry s p) hr he
    refine ⟨t, ht, ?_⟩
    rw [hnet, hg, if_neg hi]

end

/-! ## Links (R375, R378) -/

section
variable {s : State}

theorem State.on_of_running (hr : s.running = true) : s.brm.off = false := by
  have h := State.running_live hr
  unfold State.live at h
  cases hoff : s.brm.off with
  | true => rw [hoff] at h; cases h
  | false => rfl

theorem State.bit_setRegN (s : State) (a v : Nat) {k : Nat} (hk : k < 64) : (s.setRegN a v).bit a k = v.testBit k := by
  unfold State.bit
  rw [State.regN_setRegN_same, Nat.testBit_mod_two_pow, decide_eq_true hk, Bool.true_and]

theorem b2n_odd (b : Bool) : decide (b2n b % 2 = 1) = b := by
  cases b with
  | false => rfl
  | true => rfl

theorem portLinkChange_shows (hr : s.running = true) (p : Fin 6) (up preempt : Bool) : ∃ t, exec (.portLinkChange p up preempt) s = .next t ∧
    t.bit Reg.NET_STATE p = up ∧ t.bit Reg.NET_STATE (6 + p) = (up && preempt) := by
  refine next_powered_raw (exec_portLinkChange s p up preempt) (State.on_of_running hr) rfl ⟨?_, ?_⟩
  · refine (State.bit_setRegN s _ _ (by omega)).trans ?_
    rw [testBit_putBits_other _ _ (by omega), testBit_putBits_same, b2n_odd]
  · refine (State.bit_setRegN s _ _ (by omega)).trans ?_
    rw [testBit_putBits_same, b2n_odd]

/-- What PCIE_STATE shows of a link and a mode. -/
def pcieWord (up : Bool) (width rate mode : Nat) : Nat := if up && mode != 0 then width + rate * 8 + mode * 64 + 256 else mode * 64

theorem pcieWord_fields (up : Bool) {width rate mode : Nat} (hw : width < 8) (hr : rate < 8) (hm : mode < 4) :
    (pcieWord up width rate mode).testBit 8 = (up && mode != 0) ∧ bits (pcieWord up width rate mode) 6 2 = mode ∧
    (up = true → mode ≠ 0 → bits (pcieWord up width rate mode) 0 3 = width ∧ bits (pcieWord up width rate mode) 3 3 = rate) ∧
    pcieWord up width rate mode < 2 ^ 64 := by
  unfold pcieWord
  rw [bits_eq, bits_eq, bits_eq, Nat.testBit_eq_decide_div_mod_eq]
  cases hl : (up && mode != 0) with
  | true =>
    rw [if_pos rfl]
    exact ⟨decide_eq_true (by omega), by omega, fun _ _ => ⟨by omega, by omega⟩, by omega⟩
  | false =>
    rw [if_neg Bool.false_ne_true]
    exact ⟨decide_eq_false (by omega), by omega, fun h h' => absurd hl (by simp [h, h']), by omega⟩

theorem pcieLinkChange_shows (hr : s.running = true) (up : Bool) (width rate : Fin 8) : ∃ t, exec (.pcieLinkChange up width rate) s = .next t ∧
    t.bit Reg.PCIE_STATE 8 = (up && s.pcieMode != 0) ∧ t.pcieMode = s.pcieMode ∧
    (up = true → s.pcieMode ≠ 0 → t.fld Reg.PCIE_STATE 0 3 = width.val ∧ t.fld Reg.PCIE_STATE 3 3 = rate.val) := by
  obtain ⟨h8, hm, hf, hlt⟩ := pcieWord_fields up width.isLt rate.isLt (show s.pcieMode < 4 from bits_lt _ 6 2)
  have he : s.pcieLink up width rate = s.setRegN Reg.PCIE_STATE (pcieWord up width rate s.pcieMode) := rfl
  generalize pcieWord up width rate s.pcieMode = w at h8 hm hf hlt he
  have hreg : (s.setRegN Reg.PCIE_STATE w).regN Reg.PCIE_STATE = w := by rw [State.regN_setRegN_same, Nat.mod_eq_of_lt hlt]
  refine next_powered_raw (exec_pcieLinkChange s up width rate) (State.on_of_running hr) he ⟨?_, ?_, fun h h' => ⟨?_, ?_⟩⟩
  · exact (congrArg (fun x => x.testBit 8) hreg).trans h8
  · exact (congrArg (fun x => bits x 6 2) hreg).trans hm
  · exact (congrArg (fun x => bits x 0 3) hreg).trans (hf h h').1
  · exact (congrArg (fun x => bits x 3 3) hreg).trans (hf h h').2

end

/-! ## Blocks written (R175 to R181) -/

section
variable (s : State)

theorem State.pages_runFetch (flash : Bool) (f : Fetch) : (s.runFetch flash f).umr.pages = s.umr.pages := (rfl)

theorem State.pages_runWb (w : Writeback) : (s.runWb w).umr.pages = s.umr.pages := (rfl)

theorem State.pages_nextMove (flash : Bool) : (s.nextMove flash).umr.pages = s.umr.pages := by
  unfold State.nextMove
  split
  · rfl
  · dsimp only
    split
    · rfl
    · exact s.pages_runFetch _ _
    · exact s.pages_runWb _
    · split
      · exact s.pages_runFetch _ _
      · exact s.pages_runWb _

theorem State.startMoves_eq : s.startMoves = iter 4 (fun t _ => (t.nextMove false).nextMove true) s := (rfl)

theorem State.pages_startMoves : s.startMoves.umr.pages = s.umr.pages := by
  rw [s.startMoves_eq]
  exact iter_inv (fun t : State => t.umr.pages = s.umr.pages) 4 _ s rfl
    (fun t _ _ ht => ((t.nextMove false).pages_nextMove true).trans ((t.pages_nextMove false).trans ht))

theorem State.pages_bump (a : Nat) : (s.bump a).umr.pages = s.umr.pages := (rfl)

/-- The page with block `b` on its way. -/
def Page.fetching (p : Page) (b : Nat) : Page := { p with inflight := p.inflight ||| 2 ^ b }

/-- R177: the state in which a fetch of block `b` of page `n` waits for its move. -/
def State.fetchAdded (s : State) (n b : Nat) (p : Page) (f : Fetch) : State :=
  { s.setPage n (p.fetching b) with umr := { (s.setPage n (p.fetching b)).umr with fetches := s.umr.fetches ++ [f] } }

theorem State.pages_fetchAdded (n b : Nat) (p : Page) (f : Fetch) :
    (s.fetchAdded n b p f).umr.pages = s.umr.pages.put n (p.fetching b) := (rfl)

theorem State.startFetchFor_eq {n : Nat} {p : Page} (b prio : Nat) (req look : Option Nat) (pool : Nat) (hp : s.page n = some p) :
    ∃ f, s.startFetchFor n b prio req look pool =
      if (if p.home = 2 then 2 else 1) = 2 ∧ s.bit Reg.UMR_FLASH_STATE 1 then (s.fetchAdded n b p f).startMoves.bump Reg.UMR_CNT_GC_DELAY
      else (s.fetchAdded n b p f).startMoves := by
  refine ⟨⟨n, b, if p.home = 2 then 2 else 1, prio, req, look, pool, none, 0⟩, ?_⟩
  unfold State.startFetchFor
  rw [hp]
  rfl

/-- R177: a fetch that starts keeps its page. -/
theorem State.page_startFetch {n : Nat} (b : Nat) (rt : Bool) (req : Option Nat) (h : (s.page n).isSome = true) :
    ((s.startFetch n b rt req).page n).isSome = true := by
  obtain ⟨p, hp⟩ := Option.isSome_iff_exists.1 h
  unfold State.startFetch
  rw [hp]
  dsimp only
  unfold State.page
  obtain ⟨f, hf⟩ := s.startFetchFor_eq b (if rt then 1 else 2) req none (s.demandPool p) hp
  rw [hf, apply_ite State.umr, apply_ite Umr.pages, State.pages_bump, ite_self, State.pages_startMoves, State.pages_fetchAdded,
    OMap.find_put_same]
  rfl

theorem Touch.bad_status : Touch.bad.status ≠ 0 := by decide

/-- From some memory, the bytes `bs` written at `a`. -/
def State.holdsWrite (s : State) (a : Nat) (bs : Bytes) : Prop := ∃ m, s.umem = Memory.write m a bs

theorem State.holdsWrite_peek {a : Nat} {bs : Bytes} (h : s.holdsWrite a bs) : Memory.read s.umem a bs.length = bs := by
  obtain ⟨m, hm⟩ := h
  rw [hm, Memory.read_write_same]

theorem State.holdsWrite_upper (n b : Nat) (p : Page) (a : Nat) (bs : Bytes) : (s.writeUpper n b p a bs).holdsWrite a bs := ⟨_, rfl⟩

theorem State.holdsWrite_behind {n : Nat} (b a : Nat) (bs : Bytes) (rt : Bool) (req : Option Nat) (h : (s.page n).isSome = true) :
    (s.writeBehind n b a bs rt req).1.holdsWrite a bs := by
  obtain ⟨p, hp⟩ := Option.isSome_iff_exists.1 (s.page_startFetch b rt req h)
  unfold State.writeBehind
  simp only [hp]
  exact State.holdsWrite_upper _ _ _ _ _ _

theorem State.holdsWrite_home {n b a : Nat} {p : Page} {bs : Bytes} (h : (s.writeHome n b p a bs).2.status = 0) :
    (s.writeHome n b p a bs).1.holdsWrite a bs := by
  unfold State.writeHome at h ⊢
  split
  case isTrue h3 =>
    rw [if_pos h3] at h
    split
    case isTrue hb =>
      rw [if_pos hb] at h
      exact absurd h Touch.bad_status
    case isFalse => exact ⟨s.umem, rfl⟩
  case isFalse => exact ⟨s.umem, rfl⟩

theorem State.holdsWrite_flash {n b a : Nat} {p0 p : Page} {bs : Bytes} {skip rt : Bool} {req : Option Nat}
    (h : (s.writeFlash n b p0 p a bs skip rt req).2.status = 0) : (s.writeFlash n b p0 p a bs skip rt req).1.holdsWrite a bs := by
  unfold State.writeFlash at h ⊢
  dsimp only at h ⊢
  generalize (if p.upper = 0 then (s.setPage n p).grantUpper n (s.demandPool p) rt else (s.setPage n p, .granted)) = r at h ⊢
  obtain ⟨s1, g⟩ := r
  dsimp only at h ⊢
  cases hq : s1.page n with
  | none =>
    rw [hq] at h
    exact absurd h Touch.bad_status
  | some q =>
    rw [hq] at h
    have hsome : (s1.page n).isSome = true := by rw [hq]; rfl
    cases g with
    | bypass =>
      dsimp only at h ⊢
      split
      case isTrue h0 => exact s1.holdsWrite_home h0
      case isFalse h0 =>
        rw [if_neg h0] at h
        exact absurd h Touch.bad_status
    | granted =>
      dsimp only
      split
      · exact State.holdsWrite_upper _ _ _ _ _ _
      · exact s1.holdsWrite_behind b a bs rt req hsome
    | waits => exact s1.holdsWrite_behind b a bs rt req hsome

/-- R175 to R181: a write that meets no failure has its bytes in the unified range. -/
theorem State.holdsWrite_touch {a : Nat} {bs : Bytes} {rt : Bool} {req : Option Nat} (h : (s.touchWrite a bs rt req).2.status = 0) :
    (s.touchWrite a bs rt req).1.holdsWrite a bs := by
  unfold State.touchWrite at h ⊢
  dsimp only at h ⊢
  cases hp : s.page (pageOf a) with
  | none =>
    rw [hp] at h
    exact absurd h Touch.bad_status
  | some p0 =>
    rw [hp] at h
    dsimp only at h ⊢
    split
    case isTrue hc =>
      rw [if_pos hc] at h
      exact absurd h Touch.bad_status
    case isFalse hc =>
      rw [if_neg hc] at h
      split
      case isTrue => exact State.holdsWrite_upper _ _ _ _ _ _
      case isFalse hr =>
        rw [if_neg hr] at h
        split
        case isTrue hi =>
          rw [if_pos hi] at h
          split
          case isTrue hu =>
            rw [if_pos hu] at h
            exact s.holdsWrite_home h
          case isFalse => exact State.holdsWrite_upper _ _ _ _ _ _
        case isFalse hi =>
          rw [if_neg hi] at h
          split
          case isTrue hf =>
            rw [if_pos hf] at h
            exact s.holdsWrite_flash h
          case isFalse hf =>
            rw [if_neg hf] at h
            exact s.holdsWrite_home h

end

/-! ## Inbound PCIe accesses (R375, R518) -/

/-- Bytes within one block are one piece. -/
theorem pieces_one {a n : Nat} (hn : 0 < n) (h : a / 0x10000 = (a + n - 1) / 0x10000) : pieces a n = [(a, n)] := by
  have hlo : Nat.max a (a / 0x10000 * 0x10000) = a := Nat.max_eq_left (Nat.div_mul_le_self _ _)
  have hhi : Nat.min (a + n) ((a / 0x10000 + 1) * 0x10000) = a + n := Nat.min_eq_left (by omega)
  unfold pieces
  rw [if_neg (by omega), ← h, Nat.add_sub_cancel_left]
  simp only [List.range_one, List.map_cons, List.map_nil, Nat.add_zero, hlo, hhi, Nat.add_sub_cancel_left]

section
variable {s : State} {w : Fin 9} {off : Nat} {data : Bytes}

theorem pcieAccess_outside (hr : s.running = true) (wr : Bool) (h8 : s.bit Reg.PCIE_STATE 8 = true) (hm : s.pcieMode = 2)
    (ha : s.pcieAddr w off = none) : ∃ t, exec (.pcieInboundAccess w off wr data) s = .next t ∧
      t.reg Reg.PCIE_CNT_INBOUND_BAD = s.reg Reg.PCIE_CNT_INBOUND_BAD + 1 := by
  have he : s.pcieAccess w off wr data = s.bump Reg.PCIE_CNT_INBOUND_BAD := by
    unfold State.pcieAccess
    simp only [h8, ha, hm, Bool.not_true, Bool.false_eq_true, if_false, if_true]
  exact next_work_raw (exec_pcieInboundAccess s w off wr data) hr he (s.reg_bump_same _)

theorem State.pcieAccess_within {a : Nat} (wr : Bool) (h8 : s.bit Reg.PCIE_STATE 8 = true) (ha : s.pcieAddr w off = some a)
    (hreach : s.pcieReach a data.length = true) :
    s.pcieAccess w off wr data = if wr then s.pcieWrite a data else s.pcieRead a data.length := by
  unfold State.pcieAccess
  simp only [h8, ha, hreach, Bool.not_true, Bool.false_eq_true, if_false]

theorem pcieAccess_reads (hr : s.running = true) {a : Nat} (h8 : s.bit Reg.PCIE_STATE 8 = true) (ha : s.pcieAddr w off = some a)
    (hreach : s.pcieReach a data.length = true) (h0 : (s.pcieTouch a data.length).2 = 0) :
    ∃ t, exec (.pcieInboundAccess w off false data) s = .next t ∧ t.readVal = BitVec.ofNat 64 (leNat (s.peek a data.length)) := by
  have he : s.pcieAccess w off false data =
      { (s.pcieTouch a data.length).1 with readVal := BitVec.ofNat 64 (leNat (s.peek a data.length)) } := by
    rw [State.pcieAccess_within false h8 ha hreach, if_neg Bool.false_ne_true]
    unfold State.pcieRead
    simp only [h0, ne_eq, not_true_eq_false, if_false]
  exact next_work_raw (exec_pcieInboundAccess s w off false data) hr he rfl

/-- R518: a posted write within one block. -/
theorem State.pcieWrite_block {a : Nat} {t : State} {x : Touch}
    (hro : (pagesOf a data.length).any (fun pg => match s.page pg with | some p => p.ro | none => true) = false) (hne : data ≠ [])
    (hb : a / 0x10000 = (a + data.length - 1) / 0x10000) (ht : (s.translate 5 (pageOf a)).touchWrite a data false none = (t, x))
    (h0 : x.status = 0) : s.pcieWrite a data = t := by
  have hstore : s.pcieStore a data = (t, 0) := by
    unfold State.pcieStore
    rw [pieces_one (List.length_pos_of_ne_nil hne) hb, List.foldl_cons, List.foldl_nil]
    simp only [Nat.sub_self, List.drop_zero, List.take_length, ht, h0, if_true]
  unfold State.pcieWrite
  refine (if_neg (fun h => Bool.false_ne_true (hro.symm.trans h))).trans ?_
  simp only [hstore, ne_eq, not_true_eq_false, if_false]

theorem pcieAccess_writes (hr : s.running = true) {a : Nat} (h8 : s.bit Reg.PCIE_STATE 8 = true) (ha : s.pcieAddr w off = some a)
    (hreach : s.pcieReach a data.length = true)
    (hro : (pagesOf a data.length).any (fun pg => match s.page pg with | some p => p.ro | none => true) = false) (hne : data ≠ [])
    (hb : a / 0x10000 = (a + data.length - 1) / 0x10000)
    (h0 : ((s.translate 5 (pageOf a)).touchWrite a data false none).2.status = 0) :
    ∃ t, exec (.pcieInboundAccess w off true data) s = .next t ∧ t.peek a data.length = data := by
  have hmem := State.holdsWrite_touch _ h0
  cases ht : (s.translate 5 (pageOf a)).touchWrite a data false none with
  | mk v x =>
    rw [ht] at hmem h0
    have he : s.pcieAccess w off true data = v := by
      rw [State.pcieAccess_within true h8 ha hreach, if_pos rfl, State.pcieWrite_block hro hne hb ht h0]
    exact next_work_raw (exec_pcieInboundAccess s w off true data) hr he (v.holdsWrite_peek hmem)

end

/-- Settles O40: what a frame's way out changes is its port; a list changes only with its cycles; a block write that meets no failure
leaves its bytes. -/
theorem framesAreForwardedAndAnswered : Obligations.FramesAreForwardedAndAnswered := by
  intro s hr
  refine ⟨fun u p f v hu hv _ _ => frameRx_shows hr hu hv, fun u p f hu hd hb => ⟨fun ht hl ho hip hg => ?_,
    fun ht h28 hl hv hpr hip hty hfr hg => ?_⟩, fun p => ⟨gclCycleStart_shows hr, fun g hg hd => gclEntryExpiry_shows hr hg hd⟩,
    portLinkChange_shows hr, pcieLinkChange_shows hr, fun w off wr data h8 => ⟨pcieAccess_outside hr wr h8, fun a ha hreach =>
    ⟨pcieAccess_reads hr h8 ha hreach, fun hro hne hb h0 => pcieAccess_writes hr h8 ha hreach hro hne hb h0⟩⟩⟩
  · exact answered (exec_arpRequest s p f) hr (State.arp_answers hu ht hl ho hip) hd hb hg
  · exact answered (exec_icmpEcho s p f) hr (State.icmp_answers hu ht h28 hl hv hpr hip hty hfr) hd hb hg

end Sys2Proof.Machine
end
